-- ==== Sys2Proof/Word.lean ====
section
/-! DEFINITION. The word types of the IS9's registers and byte stores (R5, R534). -/
namespace Sys2Proof

/-- One byte of a register window, a frame or a memory. -/
abbrev Byte := BitVec 8

/-- The 64-bit word in which BAR0 is held: the naturally aligned 8-byte piece of R534. -/
abbrev Word := BitVec 64

end Sys2Proof
end

