-- ==== Sys2Proof/Syntax.lean ====
section
/-! DEFINITION. The commands of the IS9, one constructor of `Instr` for each row of opcode_table.json, and the data they carry. -/
namespace Sys2Proof

/-- Ordering code (R3). -/
inductive PartCode where
  | m448
  | m224
  deriving DecidableEq, Repr

/-- A unit of Table 02-4 whose activity changes; a port is Running or Off. -/
inductive UnitId where
  | tile (n : Fin 240)
  | seq (n : Fin 64)
  | eng (n : Fin 16)
  | ddr (n : Fin 12)
  | scratch (w : Fin 4)
  | port (l : Fin 14)
  deriving DecidableEq, Repr

/-- A frame: the 256-bit header of Table 04-1 and its payload bytes. -/
structure Frame where
  hdr : BitVec 256
  payload : List Byte
  deriving DecidableEq, Repr

/-- What CFG carries (R85). -/
structure Cfg where
  chipId : Nat
  link : Nat
  ringX : Nat
  ringY : Nat
  ringZ : Nat
  maxGen : Nat
  lanes : BitVec 34
  credits : List Nat
  assigned : Bool
  deriving DecidableEq, Repr

/-- What the ramp governor did in a millisecond: the cycles that pacing cost, and the idle tiles that it loads (R53, R417). -/
structure Governed where
  paced : Nat
  tiles : List (Fin 240)
  deriving DecidableEq, Repr

/-- What a DIMM's SPD hub reports (R191): checksum good, DIMM type (0 none of Table 07-1, 1 RDIMM-6400, 2 MRDIMM-8800,
3 MRDIMM-12800), ×4 devices with check bits, gigabytes, serial number. -/
structure Spd where
  sumOk : Bool
  typ : Nat
  x4 : Bool
  gb : Nat
  serial : Nat
  deriving DecidableEq, Repr

/-- Cause that a down message carries (R89). -/
inductive DownCause where
  | iron
  | other
  deriving DecidableEq, Repr

/-- What a link message says (R85, R87, R89, R91, R94). -/
inductive LinkMsg where
  | cfg (c : Cfg)
  | down (c : DownCause)
  | laneSub (lane : Nat)
  | retrain
  | loopRequest (lane : Nat)
  | loopAnswer (accepted : Bool)
  deriving DecidableEq, Repr

/-- How the three lanes of the Call Board vote on a decision (R370): all agree, all but one, or no two. -/
inductive Votes where
  | agree
  | but (lane : Fin 3)
  | split
  deriving DecidableEq, Repr

/-- A Prompter. -/
inductive Who where
  | a
  | b
  deriving DecidableEq, Repr

/-- Number of a Prompter: A is 0, B is 1. -/
def Who.idx : Who → Nat
  | .a => 0
  | .b => 1

/-- The other Prompter. -/
def Who.other : Who → Who
  | .a => .b
  | .b => .a

/-- An input to the Prompters (R367): a host or rack-manager command, an accepted capsule, a mailbox call, notice or send
status, an emptied queue, a discarded message, a semaphore result, a sensor sample, a timer tick. -/
inductive Input where
  | host (bytes : List Byte)
  | rack (bytes : List Byte)
  | capsule (bytes : List Byte)
  | mailCall (ch : Nat)
  | mailNotice (ch kind seq : Nat)
  | mailStatus (ch status : Nat)
  | mailEmpty (ch : Nat)
  | mailAborted (ch : Nat)
  | semaphore (value : Nat)
  | sensor (value : Nat)
  | timer (value : Nat)
  deriving DecidableEq, Repr

/-- A side effect of a Prompter (R369): a register write, an outgoing message, a mailbox send or pop, a semaphore action. -/
inductive SideEffect where
  | reg (addr : Nat) (bytes : List Byte)
  | message (bytes : List Byte)
  | mailSend (ch : Nat) (bytes : List Byte)
  | mailPop (ch : Nat)
  | semAcquire (n : Nat)
  | semRelease (n : Nat)
  deriving DecidableEq, Repr

/-- The transports of a capsule (R442): MCTP over the tray bus, over PCIe VDM and on the rack port, and SEC_CAP_WIN; a capsule whose
message names another endpoint of the tray comes to be relayed (R472). -/
inductive Transport where
  | tray
  | vdm
  | rack
  | window
  | relay (fromRack : Bool) (dest : Fin 256)
  deriving DecidableEq, Repr

/-- Ports with an MCTP endpoint identifier (R474). A message on the tray bus, or from the rack manager, that names another endpoint
comes to be relayed (R472, R495). -/
inductive Port where
  | tray
  | rack
  | vdm
  | relay (fromRack : Bool) (dest : Fin 256)
  deriving DecidableEq, Repr

/-- Address assignment by ENTDAA as this chip sees it (R470): as a target it receives an address on a port; as controller of the
tray bus it assigns one to each target, whose PIDs come in the order in which they win arbitration. -/
inductive Entdaa where
  | target (tray : Bool) (addr : Nat)
  | controller (pids : List (BitVec 48))
  deriving DecidableEq, Repr

/-- Modes of the host port at link-up (Table 15-1). -/
inductive HostMode where
  | cxl20
  | cxl11
  | pcie
  deriving DecidableEq, Repr

/-- A rail of Table 13-1 that PRM_RAILS shows. -/
inductive Rail where
  | ib12
  | pra
  | prb
  | sw (w : Fin 4)
  | ln (w : Fin 4)
  | mc (w : Fin 4)
  | sr (w : Fin 4)
  | tn (w : Fin 4)
  deriving DecidableEq, Repr

/-- Bit of a rail in PRM_RAILS (Table 13-8). -/
def Rail.bit : Rail → Nat
  | .ib12 => 0
  | .pra => 1
  | .prb => 2
  | .sw w => 3 + w.val
  | .ln w => 7 + w.val
  | .mc w => 11 + w.val
  | .sr w => 15 + w.val
  | .tn w => 19 + w.val

/-- The commands of the IS9: one constructor for each row of opcode_table.json. The docstring is the row's rule and summary. Rows with
operands come first, in the table's order, then those without. -/
inductive Instr where
  /-- R521: Module input rises through 32.0 V: the house island starts, the Prompter rails rise and power-on state is set. -/
  | powerOn (mv : Nat) (slot : Fin 4) (ironHigh : Bool) (flowOk : Bool)
  /-- R406: Input falls below 28.0 V: the power stage stops and the house island stops (loss of module input). -/
  | inputLoss (mv : Nat)
  /-- R406: Input held below 31.0 V for 2 µs is treated as PWR_WARN_N falling. -/
  | inputUndervoltage (mv : Nat)
  /-- R521: Input held above 44.0 V for 10 µs opens the input switch, which is a loss of module input. -/
  | inputOvervoltage (mv : Nat)
  /-- R521: Input has stayed below 40.0 V for 100 ms: the switch recloses and the module starts as at power-on. -/
  | inputReclose (mv : Nat) (slot : Fin 4) (ironHigh : Bool) (flowOk : Bool)
  /-- R26: RESET_N is deasserted: the straps are sampled, the image is verified and the repair log and interleave sets are restored. -/
  | resetRelease (slot : Fin 4)
  /-- R44: A unit has been idle for PRM_DOZE_IDLE periods and enters Dozing. -/
  | dozeIdleExpiry (u : UnitId)
  /-- R45: An eligible unit has been idle for PRM_DARK_IDLE µs and enters Dark. -/
  | darkIdleExpiry (u : UnitId)
  /-- R51: A waking unit reaches Running and accepts its waiting work. -/
  | unitWakeComplete (u : UnitId)
  /-- R417: Each millisecond the governor recomputes A, the floor and the ceiling, and applies business load, ballast load or pacing. -/
  | rampGovernorTick (demand : Nat) (mv : Nat) (current : Nat) (work : Governed)
  /-- R27: The lowest eligible slot is elected tray master when the tray comes up. -/
  | trayMasterElection (others : BitVec 4)
  /-- R28: The tray master is lost and a new election picks a master within 10 ms. -/
  | trayMasterLost (others : BitVec 4)
  /-- R78: A codeword is decoded into a flit and the flit is accepted or discarded, with its ACK_SEQ, NAK and credit report applied. -/
  | flitReceive (l : Fin 14) (symbols : List (Fin 4))
  /-- R78: The expected flit has not arrived within twice LNKn_RTT of the last NAK, so NAK is sent again. -/
  | nakResendTimeout (l : Fin 14)
  /-- R81: One flit has been resent LNK_RETRY_LIMIT times without ACK progress, and a fast retrain starts. -/
  | retryLimitReached (l : Fin 14)
  /-- R69: Two consecutive commas on a lane are missing or misplaced, and a fast retrain starts. -/
  | laneOutOfLock (l : Fin 14) (lane : Fin 34)
  /-- R118: An egress link fills one flit position by the ASIDE, circuit, class and age priorities, or sends a null flit. -/
  | egressFlitSlot (l : Fin 14)
  /-- R87: A link leaves UP for RETRAIN and resends the training sequence while keeping its retry state. -/
  | fastRetrain (l : Fin 14)
  /-- R87: Both ends relock, the link returns to UP and the transmitter replays from the far end's ACK_SEQ. -/
  | fastRetrainComplete (l : Fin 14) (ack : Fin 65536)
  /-- R88: A fast retrain fails, or is the third within 1 s, and a full retrain takes the link through DOWN. -/
  | fastRetrainFail (l : Fin 14)
  /-- R87: The far end requests a retrain by link message and a fast retrain starts. -/
  | retrainRequestReceive (l : Fin 14)
  /-- R89: A down message from the far end takes the link DOWN with cause FAR_DOWN or IRON. -/
  | downMessageReceive (l : Fin 14) (cause : DownCause)
  /-- R84: Signal from the far end is seen on every lane and EQ starts. -/
  | farEndDetected (l : Fin 14)
  /-- R84: Equalisation at the current training generation completes and ALIGN starts. -/
  | eqComplete (l : Fin 14)
  /-- R84: Comma lock and deskew complete: at SL1 the link enters CONFIG, at the target generation it enters UP. -/
  | alignComplete (l : Fin 14) (rtt : Fin 65536)
  /-- R85: A CFG link message arrives and is judged against the coordinate and ring-size checks when the far end reports itself assigned. -/
  | cfgReceive (l : Fin 14) (cfg : Cfg)
  /-- R85: The 1 µs CFG repeat timer expires and CFG is sent again. -/
  | cfgResendTick (l : Fin 14)
  /-- R86: The link leaves CONFIG once both ends are assigned and the checks pass, or enters MISCABLED. -/
  | configComplete (l : Fin 14)
  /-- R84: A training attempt does not reach UP within LNK_TRAIN_TIMEOUT, so it is retried, falls to a lower generation or goes DOWN with
  TRAIN_FAIL. -/
  | trainingTimeout (l : Fin 14)
  /-- R96: HOTPLUG_N goes low on a site, the link enters CART_CHECK and the debounce starts. -/
  | cartridgeInsert (site : Fin 20)
  /-- R96: HOTPLUG_N has been low for 10 ms and the ID EEPROM read starts. -/
  | hotplugDebounceExpiry (site : Fin 20)
  /-- R97: The EEPROM bytes have been read and the cartridge is accepted or refused with CART_BAD. -/
  | cartIdReadComplete (site : Fin 20) (eeprom : List Byte)
  /-- R97: The management line does not answer within 10 ms and the cartridge is refused. -/
  | cartIdTimeout (site : Fin 20)
  /-- R98: Power-good of an active or optical cartridge arrives and the link enters DETECT. -/
  | sitePowerGood (site : Fin 20)
  /-- R99: HOTPLUG_N goes high: the link goes DOWN with REMOVED, a down message is sent and site power is removed. -/
  | cartridgeRemove (site : Fin 20)
  /-- R91: Uncorrectable codewords exceed LNK_SUB_THRESH, or rehearsal claims a lane, and LANE_SUB is sent. -/
  | laneSubRequest (l : Fin 14) (lane : Fin 34)
  /-- R91: A LANE_SUB link message from the far end arrives and collisions are resolved under R92. -/
  | laneSubReceive (l : Fin 14) (lane : Fin 34)
  /-- R91: At the next comma the lane is doubled onto the swing, and at the comma after that the receivers take the swing. -/
  | laneSubComma (l : Fin 14)
  /-- R91: A window of 2^24 codewords ends and the per-lane window counts restart. -/
  | subWindowEnd (l : Fin 14)
  /-- R92: A lane fails with the site's swing already in use, so the link goes to half width or DOWN with WIDTH_LOST. -/
  | laneFailureNoSwing (l : Fin 14) (lane : Fin 34)
  /-- R87: A write of LNKn_CTRL.RETRAIN starts a fast retrain if the link is UP. -/
  | linkRetrain (l : Fin 14)
  /-- R88: A write of LNKn_CTRL.RETRAIN_FULL starts a full retrain. -/
  | linkRetrainFull (l : Fin 14)
  /-- R89: ENABLE is written to 0: a down message is sent and the link enters DISABLED with its port Off. -/
  | linkDisable (l : Fin 14)
  /-- R62: ENABLE is written from 0 to 1 and the link starts training. -/
  | linkEnable (l : Fin 14)
  /-- R95: A write of LNKn_LOOP.MODE starts or stops a test loop, or is refused with LOOP_REFUSED. -/
  | loopModeWrite (l : Fin 14) (mode : Fin 4) (lane : Fin 64)
  /-- R94: The far end asks by link message for a far-end loop, and it is accepted or refused. -/
  | farLoopRequest (l : Fin 14) (lane : Fin 64)
  /-- R108: A whole frame arrives and passes or fails the ingress checks of Table 04-3. -/
  | frameIngress (l : Fin 14)
  /-- R117: The responses to all earlier requests have passed back, and a FENCE-held request leaves. -/
  | fenceRelease (stor : Nat)
  /-- R120: A waiting frame exceeds SWC_AGE_LIMIT and is discarded, and a request among them is answered with AGED_OUT. -/
  | frameAgeExpiry (stor : Nat) (port : Fin 14)
  /-- R126: The port grace of a link that is not UP expires and its queued frames are handled as Table 04-5 gives. -/
  | portGraceExpiry (l : Fin 14)
  /-- R134: A frame has waited SWC_ESC_WAIT and also becomes eligible at its escape port. -/
  | escapeWaitExpiry (stor : Nat)
  /-- R141: A held frame reaches SWC_SPRAY_HOLD and is passed on with the lower held frames of its stream. -/
  | sprayHoldExpiry (chip : Fin 4096) (port : Fin 16) (cls : Fin 4) (seq : Fin 16777216)
  /-- R141: A stream has held no frame for SWC_AGE_LIMIT and its state is freed. -/
  | sprayStreamExpiry (chip : Fin 4096) (port : Fin 16) (cls : Fin 4)
  /-- R148: A write of SWC_ACT_CTRL.SEALa seals a SPARE Act, or is refused. -/
  | actSeal (act : Fin 2)
  /-- R150: A write of SWC_ACT_CTRL.ARMa arms a DRAINING Act for retirement, or is refused. -/
  | actArm (act : Fin 2)
  /-- R150: An armed Act reaches an in-flight count of 0 (RETIRE_MODE 0) and becomes SPARE. -/
  | actRetire (act : Fin 2)
  /-- R150: SWC_AGE_LIMIT plus 4 µs passes after the arm and the Act becomes SPARE. -/
  | actRetireTimer (act : Fin 2)
  /-- R155: A source's request timer expires and the request is retried or completes with E2E_TIMEOUT. -/
  | e2eTimeoutExpiry (tag : Fin 1048576)
  /-- R156: A response arrives for a request of the chip's own units and is accepted, discarded or starts a retry. -/
  | responseReceive (f : Frame)
  /-- R177: A MOVE or GUARD_LOST notice (ASIDE OP F0h) is relayed toward the head, or acted on at the head under Table 06-2. -/
  | circuitNoticeReceive (f : Frame)
  /-- R191: A DIMM PMIC reports power-good and the channel starts training. -/
  | pmicPowerGood (n : Fin 12) (spd : Spd)
  /-- R191: A PMIC gives no power-good within 50 ms and the channel is FAILED with PMIC_FAIL. -/
  | pmicTimeout (n : Fin 12) (spd : Option Spd)
  /-- R193: A training attempt ends: the channel is READY, falls back to 8,800 MT/s, trains in full or is FAILED. -/
  | channelTrainingComplete (n : Fin 12) (ok : Bool)
  /-- R199: A write to MEM_SETk installs a set, starts its zeroing or enters service with KEEP, or is refused. -/
  | memSetWrite (k : Fin 12) (value : Word)
  /-- R199: A set finishes zeroing and enters IN_SERVICE, and MEM_STATUS.OPEN may become 1. -/
  | setZeroingComplete (k : Fin 12)
  /-- R211: A pool request reaches the home's memory controller and is answered by the checks of Table 07-6, the filter and the access. -/
  | poolRequest (f : Frame) (errs : List (Nat × List Byte))
  /-- R213: A mirror write arrives at a partner window and is stored, with its LAST piece entering the filter. -/
  | mirrorWriteReceive (f : Frame)
  /-- R214: The last mirror write of a held home write is acknowledged or fails, and the write is applied or the region BROKEN. -/
  | mirrorAckReceive (id : Nat)
  /-- R215: MODE = SYNC is written to a region and it enters SYNCING and starts the copy. -/
  | mirrorSyncStart (k : Fin 16)
  /-- R215: The SYNC_DONE mirror write is acknowledged and the region becomes MIRRORED. -/
  | mirrorSyncComplete (k : Fin 16)
  /-- R215: MODE = OFF is written to a region, it becomes OFF and BREAK is sent. -/
  | mirrorOff (k : Fin 16)
  /-- R216: ENABLE of a copy window is written, making it FILLING or OFF, or is refused. -/
  | windowEnable (k : Fin 16) (on : Bool)
  /-- R204: The scrubber reads a line, writes corrected data back or logs an uncorrectable line. -/
  | ddrScrubLine (c : Fin 12) (line : Nat) (err : List Byte)
  /-- R204: The scrub of a channel in self-refresh falls more than 1 h behind and the channel is woken. -/
  | scrubWake (c : Fin 12)
  /-- R202: A device has been rebuilt MEM_DEV_THRESH times in 24 h and is marked. -/
  | deviceMark (c : Fin 12) (sub : Fin 2) (device : Fin 10)
  /-- R218: MEM_STRIKE.GO strikes the set of a channel, or is refused. -/
  | channelStrike (c : Fin 12)
  /-- R219: MEM_STRIKE.RETURN powers and trains a struck channel and returns its set to service. -/
  | channelReturn (c : Fin 12)
  /-- R220: A channel fails outside a strike and its set becomes FAILED. -/
  | channelFail (c : Fin 12) (cause : Fin 256)
  /-- R222: A CXL.mem read or write of one line is served on the home path. -/
  | hostMemAccess (write : Bool) (addr : Nat) (enables : BitVec 64) (bytes : List Byte) (err : List Byte)
  /-- R221: The host commits an HDM decoder, which succeeds or fails with Error Not Committed. -/
  | hdmCommit (d : Fin 2) (base : Nat) (size : Nat) (skip : Nat) (ways : Nat) (lock : Bool)
  /-- R225: TEN_TILE_CMD SWING replaces a tile by a SPARE of its wing. -/
  | tileSwingCmd (p : Fin 240)
  /-- R225: TEN_TILE_CMD RETIRE retires a tile and repacks the wing's logical tiles. -/
  | tileRetireCmd (p : Fin 240)
  /-- R225: TEN_TILE_CMD RETURN returns a RETIRED tile to SPARE through quarantine. -/
  | tileReturnCmd (p : Fin 240)
  /-- R226: A tile reaches TEN_TILE_THRESH operand-buffer reloads in 24 h and is swung. -/
  | tileReloadThreshold (p : Fin 240)
  /-- R248: A scratchpad row reaches TEN_ROW_THRESH or holds an uncorrectable word and is swung, or its region is retired. -/
  | rowSwing (row : Fin 2097152)
  /-- R245: A fabric or host request to space 1 is served or answered with MEM_RANGE. -/
  | scratchpadRequest (f : Frame) (errs : List (Nat × List Byte))
  /-- R244: The scratchpad scrubber visits words in its reserved cycles. -/
  | spScrub (word : Fin 16777216) (err : List Byte)
  /-- R252: A released scratchpad range finishes zeroing and a waiting placement proceeds. -/
  | rangeZeroingComplete (base : Nat)
  /-- R270: A tensor instruction completes and releases the extents that later instructions wait on. -/
  | tensorInstructionComplete (id : Nat) (reloads : List (Fin 240))
  /-- R322: An uncorrectable word or bad sparse metadata appears after issue, and the instruction faults or the cue aborts. -/
  | tensorLateFault (id : Nat) (word : Fin 16777216)
  /-- R261: CUE_LOAD_CTRL LOAD checks an image and places and installs it, or refuses it. -/
  | programLoad (off : Nat)
  /-- R263: CUE_LOAD_CTRL UNLOAD removes a program's triggers and footprints, or is refused. -/
  | programUnload (n : Fin 64)
  /-- R263: A host write through BAR2 to the cue store is applied, except bytes inside loaded images. -/
  | cueStoreHostWrite (off : Nat) (bytes : List Byte)
  /-- R264: A fabric request to space 3 is served or answered with MEM_RANGE. -/
  | cueStoreRequest (f : Frame)
  /-- R289: A fabric request to space 2 is served or answered with MEM_RANGE. -/
  | statusPageRequest (f : Frame)
  /-- R265: A write to CUE_TRIG_t.ENABLE enables or disables a trigger and sets a timer's first fire time. -/
  | triggerEnable (t : Fin 1024) (on : Bool)
  /-- R265: PRM_TIME reaches a TIMER entry's fire time and the entry fires. -/
  | timerFire (t : Fin 1024)
  /-- R268: The sequencer and the working set hold the current generation, and the context starts at ENTRY. -/
  | contextStart (q : Fin 64)
  /-- R259: A write of CUE_SEQs_CTRL.KILL drops the sequencer's context. -/
  | seqKill (q : Fin 64)
  /-- R259: A write of CUE_SEQs_CTRL.DISABLE stops the sequencer from taking triggers after its context. -/
  | seqDisable (q : Fin 64) (on : Bool)
  /-- R286: A write to CUE_CTR_CLEAR returns a settled counter to IDLE, or is refused. -/
  | counterClear (c : Fin 1024)
  /-- R291: The Prompter brings a returning unit to the current configuration generation and its quarantine ends. -/
  | quarantineComplete (u : UnitId)
  /-- R306: Does nothing. -/
  | nop (q : Fin 64)
  /-- R306: Branches to TARGET. -/
  | bra (q : Fin 64)
  /-- R306: Branches if the counter's PHASE bit is set in MASK. -/
  | brc (q : Fin 64)
  /-- R304: Pushes PC + 1 and branches. -/
  | callTo (q : Fin 64)
  /-- R304: Pops the return stack into PC. -/
  | ret (q : Fin 64)
  /-- R302: WAITC MODE 0 waits until the counter is settled. -/
  | waitcSettled (q : Fin 64)
  /-- R302: WAITC MODE 1 waits until PROGRESS reaches s[RA] or the counter is settled. -/
  | waitcProgress (q : Fin 64)
  /-- R302: WAITC MODE 2 waits until the counter is settled and then clears it. -/
  | waitcSettledClear (q : Fin 64)
  /-- R302: A WAITC timeout expires and the sequencer resumes with the outcome predicate at 0. -/
  | waitcTimeout (q : Fin 64)
  /-- R287: Binds its counter with one chunk. -/
  | sigc (q : Fin 64)
  /-- R303: DOZE MODE 0 dozes the sequencer until PRM_TIME reaches s[RA]. -/
  | dozeSelf (q : Fin 64)
  /-- R303: DOZE MODE 1 dozes the sequencer until the wake time or until the counter is settled. -/
  | dozeSelfCtr (q : Fin 64)
  /-- R303: A dozing sequencer's wake time or counter condition arrives and it continues. -/
  | dozeWake (q : Fin 64)
  /-- R303: DOZE MODE 2 sends a range of logical tiles to Dozing or Dark. -/
  | dozeTiles (q : Fin 64)
  /-- R303: DOZE MODE 3 sends the selected engines to Dozing or Dark. -/
  | dozeEngines (q : Fin 64)
  /-- R271: Waits until earlier tensor instructions have completed and are visible. -/
  | fence (q : Fin 64)
  /-- R306: Faults with TRAP_n. -/
  | trap (q : Fin 64)
  /-- R305: Waits for the context's tensor instructions and then ends the context. -/
  | halt (q : Fin 64)
  /-- R307: Scalar addition. -/
  | adds (q : Fin 64)
  /-- R307: Scalar subtraction. -/
  | subs (q : Fin 64)
  /-- R307: Low 64 bits of a product. -/
  | muls (q : Fin 64)
  /-- R307: Bitwise AND. -/
  | ands (q : Fin 64)
  /-- R307: Bitwise OR. -/
  | ors (q : Fin 64)
  /-- R307: Bitwise XOR. -/
  | xors (q : Fin 64)
  /-- R307: Shift left. -/
  | shls (q : Fin 64)
  /-- R307: Logical shift right. -/
  | shrs (q : Fin 64)
  /-- R307: Loads IMM64 into an s or g register. -/
  | ldis (q : Fin 64)
  /-- R307: Moves an s or g register. -/
  | movs (q : Fin 64)
  /-- R307: Compares and writes a predicate. -/
  | cmps (q : Fin 64)
  /-- R309: Loads 8 bytes from space 1 or 2 of this chip. -/
  | lds (q : Fin 64)
  /-- R309: Stores 8 bytes to the program's footprint. -/
  | sts (q : Fin 64)
  /-- R310: Writes one descriptor field. -/
  | dset (q : Fin 64)
  /-- R310: Adds a signed value to one descriptor field. -/
  | dadd (q : Fin 64)
  /-- R311: DCOPY MODE 0 copies one descriptor register to another. -/
  | dcopyReg (q : Fin 64)
  /-- R311: DCOPY MODE 1 loads a descriptor from the scratchpad. -/
  | dcopyLoad (q : Fin 64)
  /-- R311: DCOPY MODE 2 stores a descriptor to the scratchpad. -/
  | dcopyStore (q : Fin 64)
  /-- R313: Copies a range from the pool to the scratchpad in 4,096-byte pieces on a counter. -/
  | pfetch (q : Fin 64)
  /-- R313: Copies a range from the scratchpad to the pool in 4,096-byte pieces on a counter. -/
  | pspill (q : Fin 64)
  /-- R314: Reserves a range within the program's footprint in a wing. -/
  | alloc (q : Fin 64)
  /-- R314: Releases an allocation. -/
  | freeI (q : Fin 64)
  /-- R239: Matrix multiply with an optional accumulator. -/
  | mma (q : Fin 64)
  /-- R236: Matrix multiply with a 2:4 sparse srcB. -/
  | mmas (q : Fin 64)
  /-- R242: Grouped expert matmul weighted by gate weights. -/
  | mmag (q : Fin 64)
  /-- R318: Elementwise arithmetic. -/
  | ewa (q : Fin 64)
  /-- R318: Elementwise function. -/
  | ewf (q : Fin 64)
  /-- R318: Row reduction. -/
  | red (q : Fin 64)
  /-- R318: RMS normalisation. -/
  | norm (q : Fin 64)
  /-- R318: Row softmax with inverse temperature. -/
  | smax (q : Fin 64)
  /-- R320: Top-k values and indices per row. -/
  | topk (q : Fin 64)
  /-- R319: MoE gate: writes the gate weights and the expert mask. -/
  | gate (q : Fin 64)
  /-- R318: Quantises to an MX format. -/
  | qnt (q : Fin 64)
  /-- R318: Format conversion. -/
  | cvt (q : Fin 64)
  /-- R318: Copies stored bytes. -/
  | copy (q : Fin 64)
  /-- R321: Gathers rows by index. -/
  | gatheri (q : Fin 64)
  /-- R320: Samples one index per row. -/
  | sample (q : Fin 64)
  /-- R324: A cue whose crossing reduces the members' outputs with XOP. -/
  | cueReduce (q : Fin 64)
  /-- R324: A cue whose crossing reduces and scatters column slices. -/
  | cueScatter (q : Fin 64)
  /-- R324: A cue whose crossing gathers every member's output. -/
  | cueGather (q : Fin 64)
  /-- R324: A cue whose crossing exchanges column blocks between members. -/
  | cueExchange (q : Fin 64)
  /-- R354: A cue that routes token rows to the members holding the selected experts. -/
  | cueRoute (q : Fin 64)
  /-- R355: A cue that returns expert rows to their origins and sums them with the gate weights. -/
  | cueMerge (q : Fin 64)
  /-- R324: A cue whose crossing broadcasts the output of ring position 0. -/
  | cueBroadcast (q : Fin 64)
  /-- R356: A cue whose crossing merges a global top-k across members. -/
  | cueSelect (q : Fin 64)
  /-- R327: Barrier on the aside path. -/
  | curtain (q : Fin 64)
  /-- R327: Small reduction of up to 64 bytes on the aside path. -/
  | aside (q : Fin 64)
  /-- R332: A write to words 1–3 of COL_GRP_g is held for the next commit. -/
  | groupWordHold (g : Fin 4096) (j : Fin 3) (value : Word)
  /-- R334: A write of word 0 of COL_GRP_g commits the group entry and places its staging, or is refused. -/
  | groupCommit (g : Fin 4096) (value : Word)
  /-- R339: A COL_CONTRIB chunk arrives and is staged, held, or discarded as late. -/
  | colContribReceive (f : Frame)
  /-- R342: A COL_RESULT chunk arrives on the gather path and lands. -/
  | colResultReceive (f : Frame)
  /-- R349: A COL_CTRL RETRACT arrives, the copy is discarded and any sum built from it is retracted. -/
  | retractReceive (f : Frame)
  /-- R348: A COL_CTRL VERIFIED arrives and covers copies under SHORT_CT. -/
  | verifiedReceive (f : Frame)
  /-- R338: A COL_CTRL RELEASE arrives and lets the sender send further chunks. -/
  | releaseReceive (f : Frame)
  /-- R354: A COL_CTRL COUNT arrives from a ROUTE origin. -/
  | countReceive (f : Frame)
  /-- R342: Every input of a chunk is held and the engine forms its sum in canonical order. -/
  | chunkSum (id : Nat) (stage : Fin 16) (chunk : Nat)
  /-- R331: The residue verdict on a chunk arrives: the chunk is confirmed, sent or landed, or recomputed and retracted. -/
  | chunkVerdict (id : Nat) (stage : Fin 16) (chunk : Nat) (pass : Bool) (lane : Fin 256)
  /-- R331: An adder lane reaches COL_LANE_THRESH failures in 24 h and is swung or retired. -/
  | adderLaneSwing (e : Fin 16) (lane : Fin 256)
  /-- R362: The group timer expires before the crossing ends, and the crossing aborts with COL_TIMEOUT. -/
  | groupTimeout (id : Nat)
  /-- R358: An ASIDE frame is taken into its group slot, relayed onward and combined when the phase is complete. -/
  | asideReceive (f : Frame)
  /-- R364: An abort notice arrives and is relayed once and recorded. -/
  | abortNoticeReceive (f : Frame)
  /-- R367: An input enters the command intake, takes the next CMD_SEQ and is delivered to the Prompters. -/
  | intakeInput (input : Input)
  /-- R378: A Prompter write reaches an output stage and is applied or discarded by claim and SEQ. -/
  | stageWrite (who : Who) (k : Fin 8) (claim : Fin 4294967296) (seq : Fin 4294967296) (effect : SideEffect)
  /-- R373: A Prompter writes PRM_CB_HB. -/
  | prompterHeartbeat (who : Who)
  /-- R373: A heartbeat window ends and a Prompter with three missed windows is declared FAILED. -/
  | heartbeatWindowEnd (votes : Votes)
  /-- R373: A write of PRM_CB_FATAL declares the writer FAILED. -/
  | prompterFatal (who : Who) (votes : Votes)
  /-- R373: A Prompter's rail drops and it is declared FAILED. -/
  | prompterRailDrop (who : Who) (votes : Votes)
  /-- R372: A Prompter completes BOOT and writes PRM_CB_JOIN, becoming ACTIVE or entering SYNC. -/
  | prompterJoin (a : Bool) (b : Bool) (votes : Votes)
  /-- R376: A FAILED Prompter's 1 s reset hold ends and it is released to BOOT. -/
  | prompterResetRelease (who : Who)
  /-- R376: RELEASE_A or RELEASE_B releases a HELD_OFF Prompter. -/
  | prompterRelease (who : Who)
  /-- R381: A checkpoint copy completes with COMPLETE and its digest written. -/
  | checkpointComplete (body : List Byte)
  /-- R382: The understudy adopts a verified checkpoint, replays the intake and enters UNDERSTUDY. -/
  | checkpointAdopt (who : Who)
  /-- R390: A write of MBX_CHc_SEND queues the window message, or reports FULL, LEN_BAD, POWERED_DOWN or DISABLED. -/
  | mailboxHostSend (c : Fin 32) (n : Fin 2048)
  /-- R394: A write of MBX_CHc_POP releases the oldest message toward the host. -/
  | mailboxHostPop (c : Fin 32)
  /-- R392: A MSG MGMT frame is queued or refused and answered with a NOTICE. -/
  | mailboxMsgReceive (f : Frame)
  /-- R394: A NOTICE arrives, and an ACK pops the message delivered to a fabric receiver. -/
  | mailboxNoticeReceive (f : Frame)
  /-- R394: No ACK after 100 µs: the message is resent, or discarded with ABORTED after 15 tries. -/
  | mailboxResendTimeout (c : Fin 32) (dir : Fin 2)
  /-- R391: A MGMT frame with an unassigned OP is counted and answered with UNSUPPORTED. -/
  | mgmtUnsupported (f : Frame)
  /-- R401: A host read of MBX_SEM_n acquires the semaphore or reports its holder. -/
  | semReadAcquire (n : Fin 64)
  /-- R401: A SEM_ACQ frame acquires a semaphore or reports its holder. -/
  | semAcq (f : Frame)
  /-- R403: A host write of 0 to MBX_SEM_n releases a semaphore it holds. -/
  | semHostRelease (n : Fin 64)
  /-- R403: A SEM_REL frame releases a semaphore held by its sender. -/
  | semRel (f : Frame)
  /-- R403: MBX_SEM_FORCE releases a semaphore with FORCED = 1. -/
  | semForce (n : Fin 64)
  /-- R415: A rail reports power-good and the next step of the power-up proceeds. -/
  | railPowerGood (r : Rail)
  /-- R415: A rail is not good within 5 ms and the power-up aborts with RAIL_FAULT. -/
  | railTimeout (r : Rail)
  /-- R420: The flow grace expires, and the die is powered down if FLOW_OK is low. -/
  | flowGraceExpiry (high : Bool)
  /-- R426: Every 10 µs the diodes are sampled and the thermal levels rise, with L2 and L3 actions. -/
  | diodeSample (readings : List (Fin 4096))
  /-- R427: The temperature has stayed 3 °C below a threshold for 10 ms and the level falls. -/
  | thermalLevelFall (w : Fin 4)
  /-- R428: Each 1 ms the Prompter compares diodes with their references and excludes stuck-cool ones. -/
  | diodeCheck (models : List (Fin 4096))
  /-- R430: Every 10 ms the thermistors are read and the COLD cause is set or cleared. -/
  | coldPlateSample (inlet : Fin 4096) (outlet : Fin 4096)
  /-- R431: The 100 ms continuity test makes the line LOST or DRY. -/
  | leakTest (returns : Bool) (wet : Bool)
  /-- R433: THM_CLEAR.IRON from the rack manager clears the iron latch, or is refused. -/
  | ironClear (ironHigh : Bool)
  /-- R443: A capsule arrives by its transport, or by SEC_CAP_GO, and is judged by the steps of Table 14-5. -/
  | capsuleReceive (via : Transport) (bytes : List Byte)
  /-- R444: The capsule counter write to replay-protected storage completes and the capsule enters the intake. -/
  | counterStoreComplete (ok : Bool)
  /-- R445: The 10 ms hold after an AUTH_FAIL on a transport ends. -/
  | authHoldExpiry (via : Transport)
  /-- R448: A write to SEC_FW_WIN puts image bytes into the open slot, or is discarded. -/
  | fwWindowWrite (off : Fin 65536) (bytes : List Byte)
  /-- R452: SPDM GET_CERTIFICATE. -/
  | spdmGetCertificate (p : Port) (slot : Fin 8) (off : Fin 65536) (len : Fin 65536)
  /-- R452: Returns measurements, optionally signed over the transcript. -/
  | spdmGetMeasurements (p : Port) (index : Fin 256) (sign : Bool) (transcript : List Byte)
  /-- R455: The host link trains and a CXL or PCIe mode is chosen. -/
  | hostLinkUp (offer : HostMode) (rate32 : Bool) (width : Nat)
  /-- R462: Returns records from the four event logs. -/
  | getEventRecords (log : Fin 4)
  /-- R462: Clears event records. -/
  | clearEventRecords (log : Fin 4) (handles : Option (List Nat))
  /-- R462: Sets the MSI-X event interrupt policy. -/
  | setEventInterruptPolicy (vectors : List (Option (Fin 64)))
  /-- R464: A host write of CUE_DB_b rings the doorbell if HOST permits it. -/
  | doorbellHostRing (b : Fin 256) (arg : BitVec 32)
  /-- R465: A MGMT OP 10h frame rings a doorbell or is denied, and is answered with OP 11h. -/
  | doorbellFrame (f : Frame)
  /-- R469: The tray bus stays idle for the chip's limit and it becomes Active Controller and runs RSTDAA and ENTDAA. -/
  | controllerClaim (driven : Bool)
  /-- R470: Dynamic address assignment on the tray bus, with detection of strap conflicts. -/
  | entdaa (a : Entdaa)
  /-- R467: CCC RSTDAA resets the dynamic addresses. -/
  | rstdaa (tray : Bool)
  /-- R467: CCC ENEC enables events. -/
  | enec (tray : Bool) (events : BitVec 8)
  /-- R467: CCC DISEC disables events. -/
  | disec (tray : Bool) (events : BitVec 8)
  /-- R467: CCC SETMWL. -/
  | setmwl (tray : Bool) (len : Fin 65536)
  /-- R467: CCC SETMRL. -/
  | setmrl (tray : Bool) (len : Fin 65536)
  /-- R467: CCC DEFTGTS. -/
  | deftgts (targets : List (Nat × Nat))
  /-- R474: MCTP Set Endpoint ID assigns the EID. -/
  | setEndpointId (p : Port) (eid : Fin 256) (owner : Fin 256)
  /-- R477: Vendor FW_DATA writes image bytes into the open slot, or is DENIED or BAD. -/
  | fwData (p : Port) (off : Nat) (bytes : List Byte)
  /-- R477: Vendor REG_READ returns BAR0 words. -/
  | regRead (p : Port) (off : Nat) (words : Nat)
  /-- R477: Vendor REG_WRITE acts as a BAR0 write. -/
  | regWrite (p : Port) (off : Nat) (value : Word)
  /-- R476: Rack-manager heartbeat message: answered with state, level and cap, and counted under R421. -/
  | heartbeat (p : Port)
  /-- R478: A merged alert's 10 ms interval ends and the merged alert is sent. -/
  | alertMergeExpiry (src : Fin 13)
  /-- R479: A write to INV_COORD assigns the coordinate and ring sizes, or is refused. -/
  | coordAssign (value : BitVec 32)
  /-- R499: A wing's slice timer fires and starts, queues or discards a slice on its next eligible target. -/
  | rehearsalTimer (w : Fin 4)
  /-- R505: A slice ends and its signature gives a pass, a mismatch or a failure handled by policy. -/
  | sliceEnd (w : Fin 4) (signature : BitVec 32)
  /-- R515: A host write of PMC_CNT_n sets the counter. -/
  | pmcCounterWrite (n : Fin 1024) (value : Word)
  /-- R516: A MGMT OP 12h frame reads up to 64 counters and is answered with OP 13h. -/
  | pmcReadFrame (f : Frame)
  /-- R534: A write to a register with no row of its own is applied under its access code and block refusal rules. -/
  | registerWrite (addr : Fin 67108864) (bytes : List Byte)
  /-- R452: SPDM GET_VERSION. -/
  | spdmGetVersion (p : Port) (request : List Byte)
  /-- R452: SPDM GET_CAPABILITIES. -/
  | spdmGetCapabilities (p : Port) (request : List Byte)
  /-- R452: SPDM NEGOTIATE_ALGORITHMS. -/
  | spdmNegotiateAlgorithms (p : Port) (request : List Byte)
  /-- R452: SPDM GET_DIGESTS. -/
  | spdmGetDigests (p : Port) (request : List Byte)
  /-- R452: Any other SPDM request is answered with UnsupportedRequest. -/
  | spdmUnsupported (p : Port) (code : Fin 256)
  /-- R462: Any other mailbox opcode completes with Unsupported. -/
  | mailboxCmdUnsupported (opcode : Fin 65536)
  /-- R468: CCC GETPID returns the PID. -/
  | getpid (tray : Bool)
  /-- R468: CCC GETBCR returns the BCR. -/
  | getbcr (tray : Bool)
  /-- R468: CCC GETDCR returns the DCR. -/
  | getdcr (tray : Bool)
  /-- R471: CCC GETSTATUS, polled by the controller at least once per ms. -/
  | getstatus (tray : Bool)
  /-- R467: CCC GETMWL. -/
  | getmwl (tray : Bool)
  /-- R467: CCC GETMRL. -/
  | getmrl (tray : Bool)
  /-- R471: Controller handoff by GETACCMST. -/
  | getaccmst (incoming : Bool)
  /-- R475: MCTP Get Endpoint ID. -/
  | getEndpointId (p : Port)
  /-- R475: MCTP Get MCTP Version Support. -/
  | getMctpVersionSupport (p : Port)
  /-- R475: MCTP Get Message Type Support. -/
  | getMessageTypeSupport (p : Port)
  /-- R475: MCTP Get Vendor Defined Message Support. -/
  | getVendorMessageSupport (p : Port)
  /-- R475: MCTP Get Routing Table Entries, answered by the tray master. -/
  | getRoutingTableEntries (p : Port)
  /-- R476: A vendor command not in Table 15-5 is answered BAD. -/
  | vendorBad (p : Port) (cmd : Fin 256)
  /-- R521: An excursion above 40.0 V reaches 1 s and the input switch opens. -/
  | overvoltageExcursionExpiry
  /-- R525: RESET_N is held low for 1 µs: the chip outside the house island resets and state is lost or zeroed as R46 gives. -/
  | chipReset
  /-- R41: Loss of HOUSE_CLK is detected: the internal oscillator takes over and the PLLs hold. -/
  | houseClkLoss
  /-- R41: HOUSE_CLK returns within the holdover and the PLLs relock without a retrain. -/
  | houseClkReturn
  /-- R41: The 100 ms holdover expires: the die is powered down and CLOCK_LOST is reported. -/
  | houseClkHoldoverExpiry
  /-- R486: REORDER is written to 0 and every held frame is passed on at once. -/
  | reorderDisable
  /-- R184: A write of SWC_PLAN_CTRL.CLEAR_STAGED zeroes the staged circuit bank. -/
  | clearStaged
  /-- R186: A plan-commit capsule swaps the staged and active circuit banks, or is refused. -/
  | planCommit
  /-- R149: An Act-swap capsule makes the named Act ACTIVE and the other DRAINING, or is refused. -/
  | actSwap
  /-- R218: The moved filter store is in place, held writes resume and the PMIC is switched off with RESULT DONE. -/
  | filterMoveComplete
  /-- R262: A load finishes after zeroing: RESULT LOADED, CUE_GEN incremented and LOAD_DONE set. -/
  | programLoadComplete
  /-- R387: PRM_CB_CTRL.HANDOVER requests a planned takeover, or is refused. -/
  | handover
  /-- R382: The period or write count is reached, or a Prompter enters SYNC, and a checkpoint copy starts. -/
  | checkpointStart
  /-- R381: A copy that is not complete within 20 ms is abandoned with CKPT_FAIL. -/
  | checkpointAbandon
  /-- R411: An OFF order clears HOST_RUN, or clears RM_RUN and sets RM_HOLD, with an optional persist. -/
  | powerOrderOff
  /-- R411: An ON order sets the run bit and clears SAFE_DOWN, or is refused with HELD, IRON or SAFETY. -/
  | powerOrderOn
  /-- R411: A CAP order sets the commander's power cap. -/
  | powerOrderCap
  /-- R411: A rack-manager HOLD sets RM_HOLD. -/
  | powerOrderHold
  /-- R411: A rack-manager RELEASE clears RM_HOLD. -/
  | powerOrderRelease
  /-- R414: The tray master's grant arrives and the first die power-up proceeds. -/
  | trayGrant
  /-- R414: No grant 2 s after ACTIVE, so the chip powers up at its slot time. -/
  | grantTimeout
  /-- R415: The die is permitted to run and the rail sequence of Table 13-4 starts. -/
  | diePowerUp
  /-- R416: The die is powered down: work stops, PMICs and rails go off and the ballast takes up the fall. -/
  | diePowerDown
  /-- R419: PWR_WARN_N falls: ghost-light mode within 5 µs and the ballast is dropped. -/
  | pwrWarnFall
  /-- R422: PWR_WARN_N has been high, with input at or above 31.0 V, for 1 ms, and the cause bit clears. -/
  | pwrWarnClear
  /-- R420: FLOW_OK falls: ghost-light mode within 20 µs and the 30 s grace starts. -/
  | flowLoss
  /-- R422: FLOW_OK has been high for 1 s and the FLOW cause clears. -/
  | flowClear
  /-- R424: THM_GL_HOLD passes after the last cause clears and ghost-light mode ends. -/
  | ghostLightHoldExpiry
  /-- R421: No rack-manager heartbeat for PRM_RM_HB_TIMEOUT, so RM_HB_LOST is set. -/
  | rmHeartbeatTimeout
  /-- R421: A further 60 s without a heartbeat and the fallback cap applies. -/
  | rmFallback
  /-- R431: The leak conductance is held above the wet level for 1 ms and the line becomes WET. -/
  | leakWet
  /-- R431: WET has persisted for THM_LEAK_GRACE and the die is powered down with cause LEAK. -/
  | leakGraceExpiry
  /-- R432: IRON_N low for 1 µs, or L3, trips the iron: down messages, rails off, latch set. -/
  | ironTrip
  /-- R422: THM_CLEAR.LEAK clears the LEAK causes of a DRY line. -/
  | leakClear
  /-- R428: THM_CLEAR.DIODES ends the diode exclusions. -/
  | diodesClear
  /-- R447: A SAFETY_CONFIG capsule applies its register entries through stage 5, or is refused whole. -/
  | safetyConfig
  /-- R449: A KEY_INSTALL capsule decapsulates and installs a commander key, or is refused. -/
  | keyInstall
  /-- R450: A KEY_CLEAR capsule returns a key to UNSET. -/
  | keyClear
  /-- R448: Opens a non-running slot for writing. -/
  | fwUpdateOpen
  /-- R448: Closes the window and verifies the digest and the image. -/
  | fwUpdateVerify
  /-- R448: Selects a VALID slot for the next boot. -/
  | fwUpdateActivate
  /-- R448: Blows fuses until SVN_MIN equals the running SVN. -/
  | fwUpdateRaiseSvn
  /-- R448: Returns the update state to CLOSED. -/
  | fwUpdateAbort
  /-- R439: The boot ROM verifies the selected slot, falls back to the other, or enters recovery. -/
  | bootVerify
  /-- R456: The host link is lost, and the host generation advances. -/
  | hostLinkDown
  /-- R457: PERST_N resets the host port, its configuration, decoders, MSI-X and mailbox. -/
  | perstAssert
  /-- R462: Returns the event interrupt policy. -/
  | getEventInterruptPolicy
  /-- R462: Returns the slot A and slot B firmware information. -/
  | getFwInfo
  /-- R462: Lists the Command Effects Log. -/
  | getSupportedLogs
  /-- R462: Returns the Command Effects Log. -/
  | getLog
  /-- R462: Returns the volatile capacity and device identity. -/
  | identifyMemoryDevice
  /-- R462: Reports all capacity as volatile. -/
  | getPartitionInfo
  /-- R462: Returns temperature and life used. -/
  | getHealthInfo
  /-- R469: A late chip joins the tray bus by Hot-Join and takes a target role. -/
  | hotJoin
  /-- R471: A target addressed by nothing for 5 ms, then idle for slot × 1 ms, becomes controller. -/
  | controllerLost
  /-- R471: A handoff not acknowledged within 1 ms counts as loss of the controller. -/
  | handoffTimeout
  /-- R471: INV_TRAY_CTRL.RELEASE hands the tray master role to the lowest eligible slot. -/
  | trayMasterRelease
  /-- R487: INV_STRIKE.GO starts a strike drain, or is refused. -/
  | strikeStart
  /-- R488: In-flight counts reach 0 or the drain time passes: links go down and STATE becomes DONE. -/
  | strikeDrainEnd
  /-- R489: INV_STRIKE.CANCEL ends a drain with CANCELLED. -/
  | strikeCancel
  /-- R489: INV_STRIKE.RETURN re-enables the struck links and returns STATE to NONE. -/
  | strikeReturn
  /-- R494: Every 0.1 h the hours counters advance and are written to flash. -/
  | inventoryTick
  /-- R511: With FUSE_ARM set, a die power-up is preceded by a fuse pass of the SOFT entries. -/
  | fusePass
  /-- R511: The fuse pass ends, the entries are FUSED, FUSE_ARM clears and the power-up proceeds. -/
  | fusePassComplete
  /-- R517: Every PERIOD µs the counters are mirrored into the scratchpad. -/
  | pmcMirrorTick
  /-- R416: The die power-down sequence ends within 30 ms: the last die rail is removed and PRM_PWR_STATE.DIE leaves SEQ_DOWN for OFF. -/
  | diePowerDownComplete
  /-- R414: On the tray master, PRM_STAGGER ms after the previous grant, the next chip of the tray in slot order is granted its first die
  power-up. -/
  | staggerGrant
  deriving DecidableEq, Repr

end Sys2Proof
end

