-- ==== Sys2Proof/Decode.lean ====
section
/-! DEFINITION. Decoding of table words. The commands come from outside and no row of opcode_table.json gives bits. -/
namespace Sys2Proof

/-- The command that a word spells by the table's bits: none, since no row has any. -/
def decodeTableWord (_nbits _w : Nat) : Option Instr := none

end Sys2Proof
end

