-- ==== Sys2Proof/Config.lean ====
section
/-! DEFINITION. What the spec leaves open, as constants and functions with no body: nothing in Lean can evaluate them, so a
statement about one holds for every value it may have. -/
namespace Sys2Proof.Config

/-- The payload of a link message: R85 to R94 say what each carries and give no byte layout (log entry 7). -/
opaque linkMsgBytes : LinkMsg → List Byte

/-- A journal entry's first 8 message bytes are the reply to a command input (R385): the replies are the firmware's. -/
opaque answers : Input → Nat → Bool

/-- The reply with status RESTARTED to a command input (R385). -/
opaque restartedReply : Input → List Byte

/-- The flit of the training codeword that a fast retrain repeats: R87 names it and gives no content (log entry 154). -/
opaque trainingFlit : List Byte

/-- The line symbols of the pseudo-random test stream of R94 on a lane, by how many went before: the spec names no polynomial (log
entry 155). -/
opaque testSymbols : Nat → Nat → List Nat

/-- A byte that the spec leaves open: the n-th taken (log entry 5). -/
opaque freeByte : Nat → Byte

/-- The four check symbols of a C288 word: the manual gives its layout (R200), not the code (log entry 10). -/
opaque c288Check : List Byte → List Byte

/-- How far, in units in the last place less two, the result of an elementwise function lies from the exactly rounded one: R318
gives the bound of 2 ulp and no more (log entry 11). The arguments are the function's code and the FP32 operand's code. -/
opaque ulp : Nat → Nat → Fin 5

/-! Functions that the spec takes from standards by name, and what a module holds from its manufacture (log entry 15). Digests and
keys are octet strings held little-endian. -/

/-- SHA3-512 of FIPS 202. -/
opaque sha3 : List Byte → BitVec 512

/-- KMAC256 of a key and an input with 256 output bits and a customisation string. -/
opaque kmac : BitVec 256 → List Byte → String → BitVec 256

/-- ML-DSA.Verify of FIPS 204: public key, message, signature. -/
opaque mlDsaVerify : List Byte → List Byte → List Byte → Bool

/-- The same with 512 output bits (R436). -/
opaque kmac512 : BitVec 256 → List Byte → String → BitVec 512

/-- The PUF key (R436). -/
opaque puf : BitVec 256

/-- ML-DSA.KeyGen_internal of FIPS 204: the public and the private key of a seed (R436). -/
opaque mlDsaKeyGen : BitVec 256 → List Byte × List Byte

/-- ML-DSA.Sign under a private key (R436, R452). -/
opaque mlDsaSign : List Byte → List Byte → List Byte

/-- ML-KEM-1024 KeyGen_internal of FIPS 203: the public and the private key of d and z (R436). -/
opaque mlKemKeyGen : BitVec 256 → BitVec 256 → List Byte × List Byte

/-- ML-KEM-1024 decapsulation under a private key (R449). -/
opaque mlKemDecap : List Byte → List Byte → BitVec 256

/-- OTP field PKH (Table 14-1). -/
opaque pkh : BitVec 512

/-- OTP field ROM_ID (Table 14-1). -/
opaque romId : BitVec 512

/-- The certificates in module flash: 0 identity, 1 key-wrap (R437). -/
opaque certificate : Nat → List Byte

/-- Golden signatures of rehearsal in the OTP (R505): class, and generation for lanes. -/
opaque golden : Nat → Nat → BitVec 32

/-- Subsystem Vendor ID and Subsystem ID in module flash (R458). -/
opaque subsystemIds : BitVec 16 × BitVec 16

/-- Part of the SPDM answers that DMTF SPDM 1.2 lays out and R452 does not: request code, request bytes. -/
opaque spdmAnswer : Nat → List Byte → List Byte

/-- Life used, in percent, from the inventory's powered, die and hot hours: R462 names its source and gives no formula (log entry 24). -/
opaque lifeUsed : Nat → Nat → Nat → Nat

/-- The version entries of Get MCTP Version Support: R475 names the command and gives no versions (log entry 25). -/
opaque mctpVersions : List Byte

end Sys2Proof.Config
end

