-- ==== Sys2Proof/Machine/Bits.lean ====
section
/-! DEFINITION. Bit fields of words, little-endian bytes (R5) and the small list helpers of the model. -/
namespace Sys2Proof.Machine

/-- Bits [lo + w - 1 : lo] of a natural number. -/
def bitsOf (v lo w : Nat) : Nat := (v >>> lo) % 2 ^ w

/-- Bits [lo + w - 1 : lo] of a register word. -/
def field (v : Word) (lo w : Nat) : Nat := bitsOf v.toNat lo w

/-- The word with bits [lo + w - 1 : lo] replaced by the low `w` bits of `x`. -/
def putField (v : Word) (lo w x : Nat) : Word :=
  (v &&& ~~~(BitVec.ofNat 64 ((2 ^ w - 1) <<< lo))) ||| BitVec.ofNat 64 ((x % 2 ^ w) <<< lo)

/-- Replace bits [lo + w - 1 : lo] of a natural number. -/
def putBits (v lo w x : Nat) : Nat :=
  v - ((v >>> lo) % 2 ^ w) <<< lo + (x % 2 ^ w) <<< lo

/-- The `n` little-endian bytes of a number (R5). -/
def leBytes : Nat → Nat → List Byte
  | 0, _ => []
  | n + 1, v => BitVec.ofNat 8 v :: leBytes n (v / 256)

/-- The number that little-endian bytes hold (R5). -/
def leNat : List Byte → Nat
  | [] => 0
  | b :: bs => b.toNat + 256 * leNat bs

/-- Byte `i` of a word. -/
def byteOf (v : Word) (i : Nat) : Byte := BitVec.ofNat 8 (v.toNat >>> (8 * i))

/-- Entry `i` of a list of bytes, 0 beyond its end. -/
def nthByte (bs : List Byte) (i : Nat) : Byte := (bs[i]?).getD 0

/-- Little-endian field of `n` bytes at offset `i`. -/
def leAt (bs : List Byte) (i n : Nat) : Nat := leNat ((bs.drop i).take n)

/-- `n` rounded up to a whole number of `d`s. -/
def ceilDiv (n d : Nat) : Nat := (n + (d - 1)) / d

/-- A list cut or padded with zeros to a length. -/
def padTo (n : Nat) (bs : List Byte) : List Byte := bs.take n ++ List.replicate (n - bs.length) 0

/-- Replace entry `i` of a list; a list shorter than that stays as it is. -/
def setAt {α : Type} : List α → Nat → α → List α
  | [], _, _ => []
  | _ :: t, 0, v => v :: t
  | h :: t, i + 1, v => h :: setAt t i v

/-- The first element that satisfies a test, with the list without it. -/
def takeFirst {α : Type} (p : α → Bool) : List α → Option (α × List α)
  | [] => none
  | a :: t => if p a then some (a, t) else (takeFirst p t).map (fun r => (r.1, a :: r.2))

/-- Cut a list into pieces of `n`; the fuel is the number of pieces. -/
def chunksOf {α : Type} (n : Nat) : Nat → List α → List (List α)
  | 0, _ => []
  | k + 1, l => l.take n :: chunksOf n k (l.drop n)

/-- Two's-complement value of the low `w` bits. -/
def signedOf (w v : Nat) : Int :=
  let m := v % 2 ^ w
  if m < 2 ^ (w - 1) then (m : Int) else (m : Int) - (2 ^ w : Nat)

/-- The low `w` bits of an integer, as a natural number. -/
def wrapTo (w : Nat) (i : Int) : Nat := (i % (2 ^ w : Nat)).toNat

end Sys2Proof.Machine
end

