-- ==== Sys2Proof/Machine/Numerics.lean ====
section
/-! DEFINITION. Number formats and arithmetic (R228, R231 to R235): exact dyadic values, round to nearest even, the element
formats of Table 08-1 and the block scale of MX formats. -/
namespace Sys2Proof.Machine

/-- A floating-point value: NaN, ±Inf, or ± m × 2^e. -/
inductive FVal where
  | nan
  | inf (neg : Bool)
  | fin (neg : Bool) (m : Nat) (e : Int)
  deriving DecidableEq, Repr

/-- What the largest codes of a format mean. -/
inductive FKind where
  | none
  | e4m3
  | ieee
  deriving DecidableEq, Repr

/-- A binary format: exponent bits, fraction bits, bias, and whether a finite overflow saturates (R233). -/
structure FFmt where
  eb : Nat
  mb : Nat
  bias : Nat
  kind : FKind
  saturates : Bool
  deriving DecidableEq, Repr

def fmtE2M1 : FFmt := ⟨2, 1, 1, .none, true⟩
def fmtE2M3 : FFmt := ⟨2, 3, 1, .none, true⟩
def fmtE3M2 : FFmt := ⟨3, 2, 3, .none, true⟩
def fmtE4M3 : FFmt := ⟨4, 3, 7, .e4m3, true⟩
def fmtE5M2 : FFmt := ⟨5, 2, 15, .ieee, true⟩
def fmtBf16 : FFmt := ⟨8, 7, 127, .ieee, false⟩
def fmtFp16 : FFmt := ⟨5, 10, 15, .ieee, false⟩
def fmtFp32 : FFmt := ⟨8, 23, 127, .ieee, false⟩

/-- The element format of a FMT code (Table 08-1); INT8 and INT32 have none. -/
def floatFmt (code : Nat) : Option FFmt :=
  match code with
  | 0 => some fmtE2M1
  | 1 => some fmtE2M3
  | 2 => some fmtE3M2
  | 3 => some fmtE4M3
  | 4 => some fmtE5M2
  | 5 => some fmtE4M3
  | 6 => some fmtE5M2
  | 7 => some fmtBf16
  | 8 => some fmtFp16
  | 9 => some fmtFp32
  | _ => none

/-- Element bits of a FMT code. -/
def elemBits (code : Nat) : Nat :=
  match code with
  | 0 => 4
  | 1 => 6
  | 2 => 6
  | 3 => 8
  | 4 => 8
  | 5 => 8
  | 6 => 8
  | 7 => 16
  | 8 => 16
  | 9 => 32
  | 10 => 8
  | _ => 32

/-- MX formats, whose blocks of 32 have an E8M0 scale. -/
def isMx (code : Nat) : Bool := decide (code ≤ 4)

/-- Largest finite magnitude code of a format. -/
def maxFinite (f : FFmt) : Nat :=
  match f.kind with
  | .none => 2 ^ (f.eb + f.mb) - 1
  | .e4m3 => 2 ^ (f.eb + f.mb) - 2
  | .ieee => (2 ^ f.eb - 1) * 2 ^ f.mb - 1

/-- The value of a code. -/
def decodeF (f : FFmt) (code : Nat) : FVal :=
  let mag := code % 2 ^ (f.eb + f.mb)
  let neg := code.testBit (f.eb + f.mb)
  let ex := mag / 2 ^ f.mb
  let fr := mag % 2 ^ f.mb
  if f.kind = .ieee ∧ ex = 2 ^ f.eb - 1 then (if fr = 0 then .inf neg else .nan)
  else if f.kind = .e4m3 ∧ mag = 2 ^ (f.eb + f.mb) - 1 then .nan
  else if ex = 0 then .fin neg fr (1 - (f.bias : Int) - f.mb)
  else .fin neg (2 ^ f.mb + fr) ((ex : Int) - f.bias - f.mb)

/-- m × 2^s rounded to an integer, ties to even. -/
def rneShift (m : Nat) (s : Int) : Nat :=
  if 0 ≤ s then m <<< s.toNat
  else
    let d := (-s).toNat
    let q := m >>> d
    let r := m % 2 ^ d
    let half := 2 ^ (d - 1)
    if r < half then q else if half < r then q + 1 else if q % 2 = 0 then q else q + 1

/-- floor(log2 m) of a positive number. -/
def log2Nat (m : Nat) : Nat := Nat.log2 m

/-- The NaN code of a format (R231). -/
def nanCode (f : FFmt) : Nat :=
  match f.kind with
  | .none => 0
  | .e4m3 => 2 ^ (f.eb + f.mb) - 1
  | .ieee => (2 ^ f.eb - 1) * 2 ^ f.mb + 2 ^ (f.mb - 1)

/-- Convert to a format, round to nearest even (R233). -/
def encodeF (f : FFmt) (v : FVal) : Nat :=
  let sgn := fun (neg : Bool) => if neg then 2 ^ (f.eb + f.mb) else 0
  match v with
  | .nan => nanCode f
  | .inf neg =>
    (match f.kind with
     | .ieee => (2 ^ f.eb - 1) * 2 ^ f.mb
     | _ => maxFinite f) + sgn neg
  | .fin neg 0 _ => sgn neg
  | .fin neg m e =>
    let emin : Int := 1 - (f.bias : Int)
    let ex := max ((log2Nat m : Int) + e) emin
    let n := rneShift m (e - (ex - f.mb))
    let code := (ex - emin).toNat * 2 ^ f.mb + n
    (if code ≤ maxFinite f then code
     else if f.saturates then maxFinite f
     else (2 ^ f.eb - 1) * 2 ^ f.mb) + sgn neg

/-- Round to FP32. -/
def r32 (v : FVal) : FVal := decodeF fmtFp32 (encodeF fmtFp32 v)

/-! Exact arithmetic. -/

def FVal.neg : FVal → FVal
  | .nan => .nan
  | .inf b => .inf (!b)
  | .fin b m e => .fin (!b) m e

def FVal.abs : FVal → FVal
  | .nan => .nan
  | .inf _ => .inf false
  | .fin _ m e => .fin false m e

def FVal.isNan : FVal → Bool
  | .nan => true
  | _ => false

def FVal.isInf : FVal → Bool
  | .inf _ => true
  | _ => false

def FVal.isZero : FVal → Bool
  | .fin _ 0 _ => true
  | _ => false

def FVal.one : FVal := .fin false 1 0
def FVal.zero : FVal := .fin false 0 0

/-- Signed mantissa at a lower exponent. -/
def mantAt (neg : Bool) (m : Nat) (e lo : Int) : Int :=
  let x : Int := ((m <<< (e - lo).toNat : Nat) : Int)
  if neg then -x else x

/-- Exact sum; Inf − Inf is NaN; an exact zero sum is +0 unless both terms are −0. -/
def FVal.add : FVal → FVal → FVal
  | .nan, _ => .nan
  | _, .nan => .nan
  | .inf a, .inf b => if a = b then .inf a else .nan
  | .inf a, _ => .inf a
  | _, .inf b => .inf b
  | .fin n1 m1 e1, .fin n2 m2 e2 =>
    if m1 = 0 ∧ m2 = 0 then .fin (n1 && n2) 0 0
    else
      let lo := min e1 e2
      let x := mantAt n1 m1 e1 lo + mantAt n2 m2 e2 lo
      if x = 0 then .fin false 0 0 else .fin (decide (x < 0)) x.natAbs lo

def FVal.sub (a b : FVal) : FVal := FVal.add a (FVal.neg b)

/-- Exact product; 0 × Inf is NaN. -/
def FVal.mul : FVal → FVal → FVal
  | .nan, _ => .nan
  | _, .nan => .nan
  | .inf a, .inf b => .inf (a != b)
  | .inf a, .fin b m _ => if m = 0 then .nan else .inf (a != b)
  | .fin b m _, .inf a => if m = 0 then .nan else .inf (a != b)
  | .fin n1 m1 e1, .fin n2 m2 e2 => .fin (n1 != n2) (m1 * m2) (e1 + e2)

/-- Multiply by 2^k. -/
def FVal.scale (k : Int) : FVal → FVal
  | .fin n m e => .fin n m (e + k)
  | v => v

/-- Strict order of two numbers; false when either is NaN. −0 and +0 are equal. -/
def FVal.lt : FVal → FVal → Bool
  | .nan, _ => false
  | _, .nan => false
  | .inf a, .inf b => a && !b
  | .inf a, .fin _ _ _ => a
  | .fin _ _ _, .inf b => !b
  | .fin n1 m1 e1, .fin n2 m2 e2 =>
    let lo := min e1 e2
    decide (mantAt n1 m1 e1 lo < mantAt n2 m2 e2 lo)

/-- Quotient of two FP32 values rounded to FP32: enough quotient bits, then a sticky bit. -/
def divR32 (a b : FVal) : FVal :=
  match a, b with
  | .nan, _ => .nan
  | _, .nan => .nan
  | .inf _, .inf _ => .nan
  | .inf x, .fin y _ _ => .inf (x != y)
  | .fin x _ _, .inf y => .fin (x != y) 0 0
  | .fin x m e, .fin y n f =>
    if n = 0 then (if m = 0 then .nan else .inf (x != y))
    else if m = 0 then .fin (x != y) 0 0
    else
      let q := (m <<< 300) / n
      let r := (m <<< 300) % n
      r32 (.fin (x != y) (2 * q + (if r = 0 then 0 else 1)) (e - f - 301))

/-- Sum in order, each addition rounded to FP32. -/
def sumR32 (acc : FVal) (l : List FVal) : FVal := l.foldl (fun a v => r32 (FVal.add a v)) acc

/-- Exact sum of a list. -/
def sumExact (l : List FVal) : FVal := l.foldl FVal.add FVal.zero

/-- FP32 code arithmetic. -/
def f32 (c : Nat) : FVal := decodeF fmtFp32 c
def toF32 (v : FVal) : Nat := encodeF fmtFp32 v

/-! Block scales (R234, R235). -/

/-- emax of an MX element format. -/
def mxEmax (code : Nat) : Int :=
  match code with
  | 0 => 2
  | 1 => 2
  | 2 => 4
  | 3 => 8
  | _ => 15

/-- The largest magnitude of a list of finite values. -/
def maxMagnitude (l : List FVal) : FVal :=
  l.foldl (fun a v => if FVal.lt a (FVal.abs v) then FVal.abs v else a) FVal.zero

/-- floor(log2 |v|) of a positive finite value. -/
def floorLog2 : FVal → Int
  | .fin _ m e => (log2Nat m : Int) + e
  | _ => 0

/-- The scale code and the element codes of a block (R235). -/
def encodeBlock (code : Nat) (vals : List FVal) : Nat × List Nat :=
  match floatFmt code with
  | none => (0, [])
  | some f =>
    if vals.any (fun v => FVal.isNan v || FVal.isInf v) then (0xFF, vals.map (fun _ => 0))
    else
      let amax := maxMagnitude vals
      if FVal.isZero amax then (0, vals.map (fun _ => 0))
      else
        let x := max (-127) (min 127 (floorLog2 amax - mxEmax code))
        ((x + 127).toNat, vals.map (fun v => encodeF f (FVal.scale (-x) v)))

/-- An element under its scale code (R234). -/
def scaled (scale : Nat) (v : FVal) : FVal := if scale = 0xFF then .nan else FVal.scale ((scale : Int) - 127) v

end Sys2Proof.Machine
end

