-- ==== Sys2Proof/Machine/Functions.lean ====
section
/-! DEFINITION. The elementwise functions of R317 and R318: computed to 512 fractional bits, rounded to FP32, and moved by the free
offset within the 2 ulp that R318 allows. -/
namespace Sys2Proof.Machine

/-- Fractional bits of the fixed-point values. -/
def fixP : Nat := 512
def fixOne : Int := ((2 ^ fixP : Nat) : Int)

/-- A finite value in fixed point, clamped to ±1,024. -/
def toFix : FVal → Int
  | .fin neg m e =>
    let x : Int := e + (fixP : Int)
    let lim : Nat := 2 ^ (fixP + 10)
    let v : Nat := if 0 ≤ x then (if 700 < x ∧ m ≠ 0 then lim else m <<< x.toNat) else m >>> (-x).toNat
    let c : Nat := min v lim
    if neg then -(c : Int) else (c : Int)
  | .inf neg => if neg then -((2 ^ (fixP + 10) : Nat) : Int) else ((2 ^ (fixP + 10) : Nat) : Int)
  | .nan => 0

/-- A fixed-point value as a number. -/
def ofFix (x : Int) : FVal := .fin (decide (x < 0)) x.natAbs (-(fixP : Int))

def fixMul (a b : Int) : Int := a * b / fixOne

/-- Taylor sum of the exponential of a small argument; the fuel is the number of terms. -/
def expTaylor (t : Int) : Nat → Nat → Int → Int → Int
  | 0, _, _, acc => acc
  | k + 1, n, term, acc =>
    let next := fixMul term t / (n : Int)
    expTaylor t k (n + 1) next (acc + next)

/-- Square `k` times. -/
def squares : Nat → Int → Int
  | 0, v => v
  | k + 1, v => squares k (fixMul v v)

/-- exp of a fixed-point argument. -/
def fixExp (x : Int) : Int := squares 12 (expTaylor (x / 4096) 80 1 fixOne fixOne)

/-- 1 / (1 + exp(−x)). -/
def fixSigmoid (x : Int) : Int :=
  if 0 ≤ x then fixOne * fixOne / (fixOne + fixExp (-x))
  else
    let e := fixExp x
    e * fixOne / (fixOne + e)

/-- (1 − exp(−2|x|)) / (1 + exp(−2|x|)) with the sign of x. -/
def fixTanh (x : Int) : Int :=
  let q := fixExp (-(2 * (x.natAbs : Int)))
  let v := (fixOne - q) * fixOne / (fixOne + q)
  if x < 0 then -v else v

/-- Integer square root by binary digits, from bit `k` down. -/
def isqrt (n : Nat) : Nat → Nat → Nat
  | 0, r => r
  | k + 1, r => if (r + 2 ^ k) * (r + 2 ^ k) ≤ n then isqrt n k (r + 2 ^ k) else isqrt n k r

/-- 1 / sqrt(x) of a positive number m × 2^e. -/
def rsqrtPos (m : Nat) (e : Int) : FVal :=
  let odd := decide (e % 2 ≠ 0)
  let m2 := if odd then 2 * m else m
  let e2 := if odd then e - 1 else e
  .fin false (isqrt (2 ^ 1024 / m2) 520 0) (-512 - e2 / 2)

/-- sqrt(2/π) in fixed point from 60 decimal digits. -/
def fixSqrt2Pi : Int :=
  797884560802865355879892119868763736951717262329869315331851 * fixOne / 1000000000000000000000000000000000000000000000000000000000000

/-- The GELU argument of its sigmoid form: 2 × sqrt(2/π) × (x + 0.044715 x³). -/
def geluArg (x : Int) : Int :=
  let c := max (-(64 * fixOne)) (min (64 * fixOne) x)
  let u := c + fixMul (fixMul c c) c * 44715 / 1000000
  2 * fixMul fixSqrt2Pi u

/-- Move an FP32 code by a number of units in the last place; zero, Inf and NaN stay. -/
def nudge (off : Int) (code : Nat) : Nat :=
  let mag : Nat := code % 2 ^ 31
  if mag = 0 ∨ 0x7F800000 ≤ mag then code
  else
    let m : Int := max 0 (min 0x7F800000 ((mag : Int) + off))
    m.toNat + (if code.testBit 31 then 2 ^ 31 else 0)

/-- FUNC codes of EWF (Table 10-11). -/
def fEXP : Nat := 0
def fSILU : Nat := 1
def fGELU : Nat := 2
def fRECIP : Nat := 3
def fRSQRT : Nat := 4
def fSCALE : Nat := 5
def fSIGMOID : Nat := 6
def fTANH : Nat := 7

/-- The function's value before rounding. -/
def ewfExact (func : Nat) (x : FVal) : FVal :=
  match x with
  | .nan => .nan
  | _ =>
    match func with
    | 0 => match x with
      | .inf true => .zero
      | .inf false => .inf false
      | v => ofFix (fixExp (toFix v))
    | 1 => match x with
      | .inf true => .fin true 0 0
      | .inf false => .inf false
      | v => FVal.mul v (ofFix (fixSigmoid (toFix v)))
    | 2 => match x with
      | .inf true => .fin true 0 0
      | .inf false => .inf false
      | v => FVal.mul v (ofFix (fixSigmoid (geluArg (toFix v))))
    | 3 => divR32 FVal.one x
    | 4 => match x with
      | .inf true => .nan
      | .inf false => .zero
      | .fin n 0 _ => .inf n
      | .fin true _ _ => .nan
      | .fin false m e => rsqrtPos m e
      | .nan => .nan
    | 6 => match x with
      | .inf true => .zero
      | .inf false => .one
      | v => ofFix (fixSigmoid (toFix v))
    | _ => match x with
      | .inf b => .fin b 1 0
      | .fin b 0 e => .fin b 0 e
      | v => ofFix (fixTanh (toFix v))

/-- An elementwise function of an FP32 value: within 2 ulp of the exactly rounded result (R318). -/
def ewf (func : Nat) (x : FVal) : FVal :=
  f32 (nudge (((Config.ulp func (toF32 x)).val : Int) - 2) (toF32 (ewfExact func x)))

/-- EXP of an FP32 value. -/
def expR32 (x : FVal) : FVal := ewf fEXP x

/-- 1 / sqrt of an FP32 value. -/
def rsqrtR32 (x : FVal) : FVal := ewf fRSQRT x

end Sys2Proof.Machine
end

