-- ==== Sys2Proof/Machine/Regs.lean ====
section
/-! DEFINITION. The register map of BAR0: the Reset column of every register table (R10) and the places of the fields the
model reads and writes. A field is named by the offset of its 64-bit word, its lowest bit and its width. -/
namespace Sys2Proof.Machine

/-- Whether `off` is an entry of a register array at `base` of `n` entries, `stride` bytes apart. -/
def inArray (off base stride n : Nat) : Bool :=
  decide (base ≤ off) && decide (off < base + stride * n) && decide ((off - base) % stride = 0)

/-- Reset values of the PRM block (Tables 02-7, 12-8, 13-9). -/
def resetPrm (c : PartCode) (off : Nat) : Nat :=
  match off with
  | 0x0058 => 0x64
  | 0x2000 => 0x40
  | 0x2008 => 0xC8
  | 0x3000 => 0x18
  | 0x3010 => match c with
    | .m448 => 0x00000960FFFFFFFF
    | .m224 => 0x00000866FFFFFFFF
  | 0x3018 => 0xFFFF
  | 0x3020 => 0x12C
  | 0x3030 => 0x7D0
  | 0x3038 => 0x32
  | 0x3048 => 7
  | _ => 0

/-- Reset values of the LNK block (Tables 03-8 to 03-11). LANE_MAP words: the identity map is made at training; the value
before it is DESIGN CHOICE 3Fh in every place (log entry 4). HOTPLUG_N: DESIGN CHOICE all high, no cartridge (log entry 4). -/
def resetLnk (c : PartCode) (off : Nat) : Nat :=
  if off < 0x410000 then
    match off with
    | 0x400000 => match c with
      | .m448 => 3
      | .m224 => 2
    | 0x400010 => 0x10
    | 0x400018 => 8
    | 0x400020 => 0x1E
    | 0x400028 => 0x96
    | 0x400030 => 0xFFFFF
    | _ => 0
  else if off < 0x41E000 then
    match (off - 0x410000) % 0x1000 with
    | 0x000 => 0x70
    | 0x008 => 1
    | 0x050 => 0xFFFFFFFFFFFFFFFF
    | 0x058 => 0xFFFFFFFFFFFFFFFF
    | 0x060 => 0xFFFFFFFFFFFFFFFF
    | _ => 0
  else 0

/-- Reset values of the SWC block (Tables 04-7, 05-6, 06-5). -/
def resetSwc (off : Nat) : Nat :=
  match off with
  | 0x800008 => 0x30E
  | 0x800010 => 0x14
  | 0x800018 => 0x05321419
  | 0x800020 => 0x0A3C2828
  | 0x800028 => 0x800
  | 0x800030 => 0x00400400
  | 0x800300 => 3
  | 0x800310 => 2
  | 0x800328 => 0x1F4
  | 0x800330 => 3
  | 0x800338 => 0x200
  | 0x800340 => 0x1F40
  | 0x800418 => 0x28
  | _ => 0

/-- Reset values of the COL block (Table 11-9). -/
def resetCol (off : Nat) : Nat :=
  if off = 0x1000008 then 0x32
  else if off = 0x1000010 then 4
  else if inArray off 0x1001000 8 16 then 8
  else 0

/-- Reset values of the CUE block (Tables 09-11, 15-9): the footprint bases and the doorbell permissions. -/
def resetCue (off : Nat) : Nat :=
  if inArray off 0x1430000 8 256 then 0xFFFFFFFF
  else if inArray off 0x1441000 8 256 then 1
  else 0

/-- Reset values of the TEN block (Table 08-5, R224). -/
def resetTen (off : Nat) : Nat :=
  match off with
  | 0x1800018 => 8
  | 0x1800020 => 4
  | _ =>
    if inArray off 0x1800100 8 4 then 0x3A80000008000000
    else if inArray off 0x1800160 8 4 then 0x08000000
    else if inArray off 0x1800200 8 4 then 0x800
    else if inArray off 0x1801000 8 232 then
      let l := (off - 0x1801000) / 8
      60 * (l / 58) + l % 58
    else if inArray off 0x1802000 8 240 then
      let p := (off - 0x1802000) / 8
      if p % 60 < 58 then (58 * (p / 60) + p % 60) * 4 else 0xFF * 4 + 1
    else 0

/-- Reset values of the THM block (Table 13-10). -/
def resetThm (off : Nat) : Nat :=
  match off with
  | 0x2100018 => 0x645F
  | 0x2100020 => 0x3E8
  | 0x2100038 => 0x3E8
  | 0x2100048 => 0x4128
  | _ => 0

/-- The Reset column of BAR0 as 64-bit words (R10): the value of the word at byte offset `off` after power-on and RESET_N. -/
def resetNat (c : PartCode) (off : Nat) : Nat :=
  if off < 0x100000 then resetPrm c off
  else if off < 0x200000 then 0
  else if off < 0x300000 then (if inArray off 0x201000 0x40 8 then 0x0000010000100000 else 0)
  else if off < 0x400000 then 0
  else if off < 0x800000 then resetLnk c off
  else if off < 0x1000000 then resetSwc off
  else if off < 0x1400000 then resetCol off
  else if off < 0x1800000 then resetCue off
  else if off < 0x1C00000 then resetTen off
  else if off < 0x2000000 then
    (match off with
    | 0x1C00010 => 0x18
    | 0x1C00018 => 0x10
    | _ => 0)
  else if off < 0x2100000 then
    (match off with
    | 0x2000000 => 1
    | 0x2000008 => 0xA
    | _ => 0)
  else if off < 0x2200000 then resetThm off
  else match off with
    | 0x2200000 => match c with
      | .m448 => 0x1001
      | .m224 => 0x1002
    | _ => 0

/-- The reset word at an offset. -/
def resetWord (c : PartCode) (off : Nat) : Word := BitVec.ofNat 64 (resetNat c off)

/-- A field of BAR0: the offset of its word, its lowest bit and its width. -/
structure Field where
  off : Nat
  lo : Nat
  w : Nat
  deriving DecidableEq, Repr

/-- Entry `i` of an array of `w`-bit entries packed from `base`. -/
def packed (base w i : Nat) : Field := ⟨base + 8 * (i * w / 64), i * w % 64, w⟩

/-- A whole word as a field. -/
def wholeWord (off : Nat) : Field := ⟨off, 0, 64⟩

/-- A 48-bit wrapping counter at an offset. -/
def ctr48 (off : Nat) : Field := ⟨off, 0, 48⟩

namespace Reg

/-! PRM activity registers (Table 02-7). -/
def dozeIdle : Field := ⟨0x2000, 0, 16⟩
def darkIdle : Field := ⟨0x2008, 0, 20⟩
def holdAwake : Field := ⟨0x2010, 0, 4⟩
def time : Field := ⟨0x2018, 0, 64⟩
def callCount : Field := ctr48 0x2020
def paced : Field := ctr48 0x2028
def tileState (t : Nat) : Field := packed 0x2100 2 t
def seqState (q : Nat) : Field := packed 0x2140 2 q
def engState (e : Nat) : Field := packed 0x2150 2 e
def ddrState (c : Nat) : Field := packed 0x2158 2 c
def portState (l : Nat) : Field := packed 0x2160 2 l

/-! LNK registers (Tables 03-8 to 03-11). `l` is the link number. -/
def lnkBase (l : Nat) : Nat := 0x410000 + l * 0x1000
def lnkCap : Field := ⟨0x400000, 0, 2⟩
def lnkEvent : Field := ⟨0x400008, 0, 16⟩
def lnkStateChg (l : Nat) : Field := ⟨0x400008, l, 1⟩
def lnkCfgErr : Field := ⟨0x400008, 14, 1⟩
def lnkLoopRefused : Field := ⟨0x400008, 15, 1⟩
def subThresh : Field := ⟨0x400010, 0, 16⟩
def retryLimit : Field := ⟨0x400018, 0, 4⟩
def trainTimeout : Field := ⟨0x400020, 0, 8⟩
def cartPmax : Field := ⟨0x400028, 0, 16⟩
def hotplug (site : Nat) : Field := ⟨0x400030, site, 1⟩
def genCfg (l : Nat) : Field := ⟨lnkBase l, 0, 2⟩
def genFloor (l : Nat) : Field := ⟨lnkBase l, 2, 2⟩
def lnkEnable (l : Nat) : Field := ⟨lnkBase l, 4, 1⟩
def autoSub (l : Nat) : Field := ⟨lnkBase l, 5, 1⟩
def allowHalf (l : Nat) : Field := ⟨lnkBase l, 6, 1⟩
def lnkState (l : Nat) : Field := ⟨lnkBase l + 8, 0, 4⟩
def lnkGen (l : Nat) : Field := ⟨lnkBase l + 8, 4, 2⟩
def lnkWidth (l : Nat) : Field := ⟨lnkBase l + 8, 6, 6⟩
def lnkSwings (l : Nat) : Field := ⟨lnkBase l + 8, 12, 2⟩
def lnkCause (l : Nat) : Field := ⟨lnkBase l + 8, 16, 8⟩
def farId (l : Nat) : Field := ⟨lnkBase l + 8, 24, 12⟩
def farLink (l : Nat) : Field := ⟨lnkBase l + 8, 36, 4⟩
def loopMode (l : Nat) : Field := ⟨lnkBase l + 0x10, 0, 2⟩
def loopLane (l : Nat) : Field := ⟨lnkBase l + 0x10, 2, 6⟩
def loopActive (l : Nat) : Field := ⟨lnkBase l + 0x10, 8, 1⟩
def loopErrors (l : Nat) : Field := ⟨lnkBase l + 0x10, 16, 16⟩
def lnkRtt (l : Nat) : Field := ⟨lnkBase l + 0x18, 0, 16⟩
def retryCount (l : Nat) : Field := ctr48 (lnkBase l + 0x20)
def fecCorr (l : Nat) : Field := ctr48 (lnkBase l + 0x28)
def fecUncorr (l : Nat) : Field := ctr48 (lnkBase l + 0x30)
def cart (l side : Nat) : Field := ⟨lnkBase l + 0x40 + 8 * side, 0, 29⟩
/-- Place i of LANE_MAP: 6 bits at [6i+5:6i] of 192 bits, which may straddle two words; the low part. -/
def laneMapLo (l i : Nat) : Field := ⟨lnkBase l + 0x50 + 8 * (6 * i / 64), 6 * i % 64, min 6 (64 - 6 * i % 64)⟩
/-- The part of place i of LANE_MAP that lies in the next word, of width 0 when there is none. -/
def laneMapHi (l i : Nat) : Field := ⟨lnkBase l + 0x58 + 8 * (6 * i / 64), 0, 6 - min 6 (64 - 6 * i % 64)⟩
def laneUncorr (l p : Nat) : Field := ⟨lnkBase l + 0x100 + 8 * p, 0, 24⟩
def laneCorr (l p : Nat) : Field := ⟨lnkBase l + 0x100 + 8 * p, 24, 24⟩
def laneSubst (l p : Nat) : Field := ⟨lnkBase l + 0x100 + 8 * p, 48, 1⟩
def laneRetired (l p : Nat) : Field := ⟨lnkBase l + 0x100 + 8 * p, 49, 1⟩

/-! SWC registers (Tables 04-7, 05-6, 06-5). -/
def actSel : Field := ⟨0x800000, 0, 1⟩
def ageLimit : Field := ⟨0x800008, 0, 12⟩
def portGrace : Field := ⟨0x800010, 0, 8⟩
def classWeight (c : Nat) : Field := ⟨0x800018, 8 * c, 8⟩
def classCap (c : Nat) : Field := ⟨0x800020, 8 * c, 8⟩
def cmarkThresh : Field := ⟨0x800028, 0, 20⟩
def allocAdaptive : Field := ⟨0x800030, 0, 16⟩
def allocEscape : Field := ⟨0x800030, 16, 16⟩
def swcCfgErr : Field := ⟨0x800038, 0, 1⟩
def sharedFull : Field := ⟨0x800038, 1, 1⟩
def dropLink : Field := ⟨0x800040, 0, 4⟩
def dropReason : Field := ⟨0x800040, 4, 8⟩
def dropGroup : Field := ⟨0x800040, 12, 12⟩
def dropTime : Field := ⟨0x800040, 32, 32⟩
def lenOver : Field := ctr48 0x800100
def lenShort : Field := ctr48 0x800108
def hdrBad : Field := ctr48 0x800110
def srcBad : Field := ctr48 0x800118
def cirUnknown : Field := ctr48 0x800120
def aged : Field := ctr48 0x800128
def graceDrop : Field := ctr48 0x800130
def mcDrop : Field := ctr48 0x800138
def cmarkSet : Field := ctr48 0x800140
def mcEntry (act g : Nat) : Field := ⟨0x810000 + act * 0x2000 + 8 * (g / 4), 16 * (g % 4), 16⟩
def credit (l v : Nat) : Field := ⟨0x820000 + 0x100 * l + 8 * v, 0, 16⟩
def escTaken : Field := ctr48 0x800148
def sprayLate : Field := ctr48 0x800150
def actLate : Field := ctr48 0x800158
def unreach : Field := ctr48 0x800160
def e2eRetry : Field := ctr48 0x800168
def e2eFail : Field := ctr48 0x800170
def dupDrop : Field := ctr48 0x800178
def dupRsp : Field := ctr48 0x800180
def routeSpray : Field := ⟨0x800300, 0, 1⟩
def routeReorder : Field := ⟨0x800300, 1, 1⟩
def retireMode : Field := ⟨0x800308, 4, 1⟩
def actState (a : Nat) : Field := ⟨0x800310, 2 * a, 2⟩
def e2eTimeout : Field := ⟨0x800328, 0, 16⟩
def e2eRetries : Field := ⟨0x800330, 0, 2⟩
def escWait : Field := ⟨0x800338, 0, 16⟩
def sprayHold : Field := ⟨0x800340, 0, 16⟩
def routeEntry (act d : Nat) : Field := ⟨0x830000 + act * 0x2000 + 8 * (d / 4), 16 * (d % 4), 16⟩
def mirrorEntry (act h : Nat) : Field := ⟨0x840000 + act * 0x8000 + 8 * h, 0, 32⟩
def planResult : Field := ⟨0x800408, 0, 8⟩
def planFirst : Field := ⟨0x800408, 8, 12⟩
def planPending (l : Nat) : Field := ⟨0x800408, 20 + l, 1⟩
def planId : Field := ⟨0x800410, 0, 32⟩
def cirCap : Field := ⟨0x800418, 0, 7⟩
def cirMoved : Field := ctr48 0x800420
def cirDup : Field := ctr48 0x800428
def cirGap : Field := ctr48 0x800430
def cirNotice : Field := ctr48 0x800438
def cirLostDrop : Field := ctr48 0x800440
def admitFail : Field := ctr48 0x800448
/-- Word j of the staged entry of circuit c. -/
def cirStaged (c j : Nat) : Nat := 0x880000 + 0x20 * c + 8 * j
/-- Word j of the active entry of circuit c. -/
def cirActive (c j : Nat) : Nat := 0x8A0000 + 0x20 * c + 8 * j
def cirLinkStaged (l : Nat) : Nat := 0x8C0000 + 8 * l
def cirLinkActive (l : Nat) : Nat := 0x8C0100 + 8 * l

/-! INV identity registers (Tables 15-7, 15-8). -/
def coordN (a : Nat) : Field := ⟨0x2200010, 4 * a, 4⟩
def ringN (a : Nat) : Field := ⟨0x2200010, 12 + 5 * a, 5⟩
def coordSizes : Field := ⟨0x2200010, 0, 27⟩
def assigned : Field := ⟨0x2200010, 31, 1⟩
def partNumber : Field := ⟨0x2200000, 0, 8⟩
def slot : Field := ⟨0x2200008, 0, 2⟩
def strapConflict : Field := ⟨0x2200008, 2, 1⟩
def master : Field := ⟨0x2200008, 3, 1⟩
def controller : Field := ⟨0x2200008, 4, 1⟩
def stepping : Field := ⟨0x2200000, 8, 8⟩
def hostMode : Field := ⟨0x2200018, 0, 2⟩
def hostRate : Field := ⟨0x2200018, 2, 2⟩
def hostWidth : Field := ⟨0x2200018, 4, 5⟩
def trayAddr : Field := ⟨0x2200020, 0, 7⟩
def trayCtlAddr : Field := ⟨0x2200020, 8, 7⟩
def trayEid : Field := ⟨0x2200020, 16, 8⟩
def trayHostEid : Field := ⟨0x2200020, 24, 8⟩
def rackAddr : Field := ⟨0x2200028, 0, 7⟩
def rackEid : Field := ⟨0x2200028, 8, 8⟩
def rackMgrEid : Field := ⟨0x2200028, 16, 8⟩
def alertVec : Field := ⟨0x2200038, 0, 6⟩
def alertMsix : Field := ⟨0x2200038, 6, 1⟩
def alertsLost : Field := ctr48 0x2200040
def invCfgErr : Field := ⟨0x2200048, 0, 1⟩
def clockLost : Field := ⟨0x2200048, 1, 1⟩
def coordSet : Field := ⟨0x2200048, 2, 1⟩
def masterChange : Field := ⟨0x2200048, 3, 1⟩
def alertLost : Field := ⟨0x2200048, 4, 1⟩

/-! RHS and PMC registers (Tables 17-9, 17-11). -/
def rhsEnable : Field := ⟨0x2000000, 0, 1⟩
def fuseArm : Field := ⟨0x2000000, 1, 1⟩
def rhsPeriod : Field := ⟨0x2000008, 0, 12⟩
/-- RHS_POLICY of class 0 LANE, 1 TILE, 2 ROW, 3 ADDER, 4 DDRPHY. -/
def rhsPolicy (cls : Nat) : Field := ⟨0x2000010, 2 * cls, 2⟩
def rhsEventOff : Nat := 0x2000018
def rhsCfgErr : Field := ⟨0x2000018, 0, 1⟩
def rhsFail : Field := ⟨0x2000018, 1, 1⟩
def rhsRepaired : Field := ⟨0x2000018, 2, 1⟩
def rhsRetired : Field := ⟨0x2000018, 3, 1⟩
def rhsHealedEv : Field := ⟨0x2000018, 4, 1⟩
def swingLow : Field := ⟨0x2000018, 5, 1⟩
def fuseDone : Field := ⟨0x2000018, 6, 1⟩
def rhsRunning : Field := ⟨0x2000020, 0, 2⟩
def rhsSuspended : Field := ⟨0x2000020, 2, 1⟩
def rhsCause : Field := ⟨0x2000020, 3, 3⟩
def rhsSlices : Field := ctr48 0x2000028
def rhsMismatch : Field := ctr48 0x2000030
def rhsFails : Field := ctr48 0x2000038
def rhsSkipped : Field := ctr48 0x2000040
def rhsAbandoned : Field := ctr48 0x2000048
def rhsHealed : Field := ctr48 0x2000050
def fusedCount : Field := ⟨0x2000058, 0, 7⟩
def logEntries : Field := ⟨0x2000058, 7, 9⟩
def fuseFull : Field := ⟨0x2000058, 16, 1⟩
def softFull : Field := ⟨0x2000058, 17, 1⟩
def rhsNext (w : Nat) : Field := ⟨0x2000100 + 8 * w, 0, 8⟩
def rhsCountW (w : Nat) : Field := ⟨0x2000100 + 8 * w, 8, 8⟩
def rhsLastCls (w : Nat) : Field := ⟨0x2000100 + 8 * w, 16, 3⟩
def rhsLastIdx (w : Nat) : Field := ⟨0x2000100 + 8 * w, 20, 7⟩
def rhsResult (w : Nat) : Field := ⟨0x2000100 + 8 * w, 27, 3⟩
def rhsSig (w : Nat) : Field := ⟨0x2000100 + 8 * w, 32, 32⟩
def repairCls (j : Nat) : Field := ⟨0x2001000 + 16 * j, 0, 3⟩
def repairElem (j : Nat) : Field := ⟨0x2001000 + 16 * j, 8, 24⟩
def repairState (j : Nat) : Field := ⟨0x2001000 + 16 * j, 32, 2⟩
def repairHrs (j : Nat) : Field := ⟨0x2001008 + 16 * j, 0, 32⟩
def pmcFreeze : Field := ⟨0x300000, 0, 1⟩
def pmcCfgErr : Field := ⟨0x300008, 0, 1⟩
def mirrorOff : Field := ⟨0x300008, 1, 1⟩
def pmcUserMask (g : Nat) : Field := ⟨0x300010, g, 1⟩
def pmcMirrorBase : Field := ⟨0x300018, 0, 32⟩
def pmcMirrorPeriod : Field := ⟨0x300018, 32, 16⟩
def pmcOvf (n : Nat) : Field := ⟨0x300100 + 8 * (n / 64), n % 64, 1⟩
def pmcSel (n : Nat) : Field := ⟨0x301000 + 8 * n, 0, 16⟩
def pmcCnt (n : Nat) : Field := ctr48 (0x303000 + 8 * n)

/-! MEM registers (Tables 07-8 to 07-12). -/
def memOpen : Field := ⟨0x1C00000, 0, 1⟩
def memCfgErr : Field := ⟨0x1C00008, 0, 1⟩
def memUncorr : Field := ⟨0x1C00008, 1, 1⟩
def mirrorBroken : Field := ⟨0x1C00008, 2, 1⟩
def chanFail : Field := ⟨0x1C00008, 3, 1⟩
def devMarked : Field := ⟨0x1C00008, 4, 1⟩
def memStrikeEv : Field := ⟨0x1C00008, 5, 1⟩
def filterLost : Field := ⟨0x1C00008, 6, 1⟩
def scrubHours : Field := ⟨0x1C00010, 0, 5⟩
def devThresh : Field := ⟨0x1C00018, 0, 16⟩
def strikeChan : Field := ⟨0x1C00020, 0, 4⟩
def strikeResult : Field := ⟨0x1C00020, 8, 3⟩
def filterBase : Field := ⟨0x1C00030, 0, 47⟩
def ueLog : Field := ⟨0x1C00038, 0, 53⟩
def ueTime : Field := wholeWord 0x1C00040
def chCe (c : Nat) : Field := ctr48 (0x1C00100 + 8 * c)
def chUe (c : Nat) : Field := ctr48 (0x1C00180 + 8 * c)
def mirrorLostCount : Field := ctr48 0x1C00200
def limit8800 (n : Nat) : Field := ⟨0x1C01000 + 0x100 * n, 0, 1⟩
def forceFull (n : Nat) : Field := ⟨0x1C01000 + 0x100 * n, 1, 1⟩
def chState (n : Nat) : Field := ⟨0x1C01008 + 0x100 * n, 0, 3⟩
def chSpeed (n : Nat) : Field := ⟨0x1C01008 + 0x100 * n, 3, 2⟩
def chCapacity (n : Nat) : Field := ⟨0x1C01008 + 0x100 * n, 5, 9⟩
/-- MARK_A for sub-channel 0, MARK_B for sub-channel 1. -/
def chMark (n sub : Nat) : Field := ⟨0x1C01008 + 0x100 * n, 14 + 4 * sub, 4⟩
def chRetained (n : Nat) : Field := ⟨0x1C01008 + 0x100 * n, 22, 1⟩
def chRestored (n : Nat) : Field := ⟨0x1C01008 + 0x100 * n, 23, 1⟩
def chCause (n : Nat) : Field := ⟨0x1C01008 + 0x100 * n, 24, 8⟩
def chSerial (n : Nat) : Field := ⟨0x1C01010 + 0x100 * n, 0, 32⟩
def setWordOff (k : Nat) : Nat := 0x1C02000 + 8 * k
def setMask (k : Nat) : Field := ⟨setWordOff k, 0, 12⟩
def setValid (k : Nat) : Field := ⟨setWordOff k, 12, 1⟩
def setKeep (k : Nat) : Field := ⟨setWordOff k, 13, 1⟩
def setBase (k : Nat) : Field := ⟨setWordOff k, 16, 16⟩
def setState (k : Nat) : Field := ⟨setWordOff k, 32, 3⟩
def setSize (k : Nat) : Field := ⟨setWordOff k, 35, 13⟩
def mregBase (k : Nat) : Field := ⟨0x1C03000 + 16 * k, 0, 16⟩
def mregSize (k : Nat) : Field := ⟨0x1C03000 + 16 * k, 16, 16⟩
def mregPartner (k : Nat) : Field := ⟨0x1C03000 + 16 * k, 32, 12⟩
def mregWinbase (k : Nat) : Field := ⟨0x1C03000 + 16 * k, 48, 16⟩
def mregMode (k : Nat) : Field := ⟨0x1C03008 + 16 * k, 0, 2⟩
def mregState (k : Nat) : Field := ⟨0x1C03008 + 16 * k, 2, 2⟩
def mregSynced (k : Nat) : Field := ⟨0x1C03008 + 16 * k, 16, 16⟩
def mwinHome (k : Nat) : Field := ⟨0x1C04000 + 16 * k, 0, 12⟩
def mwinBase (k : Nat) : Field := ⟨0x1C04000 + 16 * k, 16, 16⟩
def mwinOff (k : Nat) : Field := ⟨0x1C04000 + 16 * k, 32, 16⟩
def mwinSize (k : Nat) : Field := ⟨0x1C04000 + 16 * k, 48, 16⟩
def mwinLocal (k : Nat) : Field := ⟨0x1C04008 + 16 * k, 0, 16⟩
def mwinEnable (k : Nat) : Field := ⟨0x1C04008 + 16 * k, 16, 1⟩
def mwinState (k : Nat) : Field := ⟨0x1C04008 + 16 * k, 17, 2⟩

/-! INV boot, service and inventory registers (Table 16-5). -/
def hrsPowered : Field := ⟨0x2200110, 0, 32⟩
def strikeState : Field := ⟨0x2200090, 8, 2⟩
def invStrikeResult : Field := ⟨0x2200090, 16, 4⟩
def readyTime : Field := wholeWord 0x2200088
def hrsDie : Field := ⟨0x2200118, 0, 32⟩
def hrsHot : Field := ⟨0x2200120, 0, 32⟩
def powerOns : Field := ⟨0x2200128, 0, 32⟩
def dieUps : Field := ⟨0x2200128, 32, 32⟩
/-- Word j of the inventory record of site s. -/
def invCart (s j : Nat) : Nat := 0x2201000 + 0x20 * s + 8 * j
def invCartHours (s : Nat) : Field := ⟨invCart s 2, 0, 32⟩
def invCartInsertions (s : Nat) : Field := ⟨invCart s 2, 32, 32⟩
def invCartPresent (s : Nat) : Field := ⟨invCart s 3, 0, 1⟩
def invDimmSerial (n : Nat) : Field := ⟨0x2202000 + 8 * n, 0, 32⟩
def invDimmHours (n : Nat) : Field := ⟨0x2202000 + 8 * n, 32, 32⟩
def laneHours (l : Nat) : Field := ⟨0x2203000 + 8 * l, 0, 32⟩

/-! TEN registers (Table 08-5). -/
def tenEvent : Nat := 0x1800000
def tenCfgErr : Field := ⟨0x1800000, 0, 1⟩
def spUncorr : Field := ⟨0x1800000, 1, 1⟩
def rowSwung : Field := ⟨0x1800000, 2, 1⟩
def regionRetired : Field := ⟨0x1800000, 3, 1⟩
def tileSwung : Field := ⟨0x1800000, 4, 1⟩
def tileRetired : Field := ⟨0x1800000, 5, 1⟩
def intSatEv : Field := ⟨0x1800000, 6, 1⟩
def tenHalf : Field := ⟨0x1800008, 0, 1⟩
def spWmask (seg : Nat) : Field := ⟨0x1800010, seg, 1⟩
def rowThresh : Field := ⟨0x1800018, 0, 16⟩
def tileThresh : Field := ⟨0x1800020, 0, 16⟩
def tenIntSat : Field := ctr48 0x1800030
def spCe : Field := ctr48 0x1800038
def spUe : Field := ctr48 0x1800040
def tbUe : Field := ctr48 0x1800048
def spUeLog : Field := ⟨0x1800050, 0, 29⟩
def spUeTime : Field := ⟨0x1800050, 32, 32⟩
def spCapacity (w : Nat) : Field := ⟨0x1800100 + 8 * w, 0, 28⟩
def spFree (w : Nat) : Field := ⟨0x1800100 + 8 * w, 28, 28⟩
def activeTiles (w : Nat) : Field := ⟨0x1800100 + 8 * w, 56, 6⟩
def spReserved (w : Nat) : Field := ⟨0x1800120 + 8 * w, 0, 28⟩
def shortBytes (w : Nat) : Field := ⟨0x1800140 + 8 * w, 0, 33⟩
def shortTiles (w : Nat) : Field := ⟨0x1800140 + 8 * w, 33, 8⟩
def spLargest (w : Nat) : Field := ⟨0x1800160 + 8 * w, 0, 28⟩
def rowsLeft (w : Nat) : Field := ⟨0x1800200 + 8 * w, 0, 16⟩
def rowsSwungN (w : Nat) : Field := ⟨0x1800200 + 8 * w, 16, 16⟩
def regionsRetired (w : Nat) : Field := ⟨0x1800200 + 8 * w, 32, 16⟩
def regionsPending (w : Nat) : Field := ⟨0x1800200 + 8 * w, 48, 16⟩
def tmap (l : Nat) : Field := ⟨0x1801000 + 8 * l, 0, 8⟩
def tileRole (p : Nat) : Field := ⟨0x1802000 + 8 * p, 0, 2⟩
def tileLogical (p : Nat) : Field := ⟨0x1802000 + 8 * p, 2, 8⟩

/-! CUE registers (Tables 09-9, 09-11). -/
def cueEvent : Nat := 0x1400000
def cueCfgErr : Field := ⟨0x1400000, 0, 1⟩
def seqFault : Field := ⟨0x1400000, 1, 1⟩
def codeWrite : Field := ⟨0x1400000, 2, 1⟩
def loadDone : Field := ⟨0x1400000, 3, 1⟩
def trigLostEv : Field := ⟨0x1400000, 4, 1⟩
def cueGen : Field := ⟨0x1400008, 0, 32⟩
def loadResult : Field := ⟨0x1400018, 0, 3⟩
def loadProg : Field := ⟨0x1400018, 8, 6⟩
def loadCause : Field := ⟨0x1400018, 16, 8⟩
def cueProg (n : Nat) : Field := ⟨0x1400020, n, 1⟩
def storeWe : Field := ⟨0x1400028, 0, 1⟩
def slotWait : Field := ctr48 0x1400040
def trigMerged : Field := ctr48 0x1400048
def trigLost : Field := ctr48 0x1400050
def cueStale : Field := ctr48 0x1400058
def quarTile (p : Nat) : Field := ⟨0x1400060 + 8 * (p / 64), p % 64, 1⟩
def quarSeq (q : Nat) : Field := ⟨0x1400080, q, 1⟩
def quarEng (e : Nat) : Field := ⟨0x1400088, e, 1⟩
def quarLink (l : Nat) : Field := ⟨0x1400088, 16 + l, 1⟩
def quarChan (c : Nat) : Field := ⟨0x1400088, 30 + c, 1⟩
def onFault (q : Nat) : Field := ⟨0x1410000 + 0x100 * q, 0, 1⟩
def seqDisable (q : Nat) : Field := ⟨0x1410000 + 0x100 * q, 1, 1⟩
def seqStatus (q : Nat) : Nat := 0x1410008 + 0x100 * q
def seqSt (q : Nat) : Field := ⟨seqStatus q, 0, 3⟩
def seqPc (q : Nat) : Field := ⟨seqStatus q, 4, 20⟩
def seqProg (q : Nat) : Field := ⟨seqStatus q, 24, 6⟩
def seqErr (q : Nat) : Field := ⟨seqStatus q, 32, 12⟩
def seqTrig (q : Nat) : Field := ⟨seqStatus q, 44, 10⟩
/-- Word j of trigger entry t. -/
def trigWord (t j : Nat) : Nat := 0x1420000 + 0x10 * t + 8 * j
def trigValid (t : Nat) : Field := ⟨trigWord t 0, 0, 1⟩
def trigEnable (t : Nat) : Field := ⟨trigWord t 0, 1, 1⟩
def trigKind (t : Nat) : Field := ⟨trigWord t 0, 2, 2⟩
def trigPeriodic (t : Nat) : Field := ⟨trigWord t 0, 4, 1⟩
def trigPending (t : Nat) : Field := ⟨trigWord t 0, 5, 1⟩
def trigSeq (t : Nat) : Field := ⟨trigWord t 0, 6, 6⟩
def trigProg (t : Nat) : Field := ⟨trigWord t 0, 12, 6⟩
def trigSource (t : Nat) : Field := ⟨trigWord t 0, 18, 12⟩
def trigEntry (t : Nat) : Field := ⟨trigWord t 0, 32, 20⟩
def trigPeriod (t : Nat) : Field := ⟨trigWord t 1, 0, 32⟩
def wsFirst (t : Nat) : Field := ⟨trigWord t 1, 32, 8⟩
def wsCount (t : Nat) : Field := ⟨trigWord t 1, 40, 8⟩
def wsEng (t : Nat) : Field := ⟨trigWord t 1, 48, 16⟩
def progBase (n w : Nat) : Field := ⟨0x1430000 + 0x20 * n + 8 * w, 0, 32⟩

/-! COL registers (Tables 11-1, 11-9). -/
def colEvent : Nat := 0x1000000
def colCfgErr : Field := ⟨0x1000000, 0, 1⟩
def colAbortEv : Field := ⟨0x1000000, 1, 1⟩
def colResidueEv : Field := ⟨0x1000000, 2, 1⟩
def colLaneSwung : Field := ⟨0x1000000, 3, 1⟩
def groupTimeout : Field := ⟨0x1000008, 0, 14⟩
def laneThresh : Field := ⟨0x1000010, 0, 16⟩
def colRecompute : Field := ctr48 0x1000018
def colRetract : Field := ctr48 0x1000020
def colAborts : Field := ctr48 0x1000028
def colLateDrop : Field := ctr48 0x1000030
def colRouteOver : Field := ctr48 0x1000038
def colIntSat : Field := ctr48 0x1000040
def errlog (j : Nat) : Nat := 0x1000100 + 8 * j
def engSwings (e : Nat) : Field := ⟨0x1001000 + 8 * e, 0, 4⟩
def engRetired (e : Nat) : Field := ⟨0x1001000 + 8 * e, 4, 9⟩
def engOps (e : Nat) : Field := ⟨0x1001000 + 8 * e, 32, 13⟩
/-- Word j of group entry g. -/
def grpWord (g j : Nat) : Nat := 0x1080000 + 0x20 * g + 8 * j
def grpOpseq (g : Nat) : Field := ⟨0x10A0000 + 8 * g, 0, 24⟩
def grpOps (g : Nat) : Field := ⟨0x10A0000 + 8 * g, 24, 2⟩
def grpResult (g : Nat) : Field := ⟨0x10A0000 + 8 * g, 26, 3⟩
def grpStaging (g : Nat) : Field := ⟨0x10A0000 + 8 * g, 32, 32⟩

/-! PRM Call Board registers (Table 12-7). -/
def cbState (i : Nat) : Field := ⟨0x0, 3 * i, 3⟩
def cbFrozen : Field := ⟨0x0, 6, 1⟩
def cbExhausted : Field := ⟨0x0, 7, 1⟩
def cbClaim : Field := ⟨0x8, 0, 32⟩
def cbHighest : Field := ⟨0x8, 32, 32⟩
def evTakeover : Field := ⟨0x10, 0, 1⟩
def evPlanned : Field := ⟨0x10, 1, 1⟩
def evCold : Field := ⟨0x10, 2, 1⟩
def understudyLost : Field := ⟨0x10, 3, 1⟩
def laneFault : Field := ⟨0x10, 4, 1⟩
def orphan : Field := ⟨0x10, 5, 1⟩
def ckptFail : Field := ⟨0x10, 6, 1⟩
def cbCfgErr : Field := ⟨0x10, 7, 1⟩
def handoverResult : Field := ⟨0x20, 0, 3⟩
def takeovers : Field := ctr48 0x28
def laneFaulted (l : Nat) : Field := ⟨0x30, l, 1⟩
def laneDisagree : Field := ⟨0x30, 16, 48⟩
def reconcile : Field := ctr48 0x38
def ckptPeriod : Field := ⟨0x58, 0, 14⟩
def ckptLast : Field := wholeWord 0x60
def ckptAdopt : Field := wholeWord 0x68
def cmdSeq : Field := ctr48 0x70
def osLast (k : Nat) : Field := ⟨0x100 + 8 * k, 0, 32⟩
def claimLow (k : Nat) : Field := ⟨0x140 + 8 * k, 0, 22⟩
def osDup (k : Nat) : Field := ⟨0x140 + 8 * k, 22, 22⟩
def osGap (k : Nat) : Field := ⟨0x140 + 8 * k, 44, 20⟩
def journalOldest : Field := ⟨0x180, 0, 12⟩
def journalHeld : Field := ⟨0x180, 12, 13⟩
/-- Word i of journal entry j. -/
def journalWord (j i : Nat) : Nat := 0x10000 + 0x20 * j + 8 * i

/-! PRM power registers (Table 13-8). -/
def pwrDie : Field := ⟨0x3000, 0, 3⟩
def hostRun : Field := ⟨0x3000, 3, 1⟩
def rmRun : Field := ⟨0x3000, 4, 1⟩
def rmHold : Field := ⟨0x3000, 5, 1⟩
def safeDown : Field := ⟨0x3000, 6, 1⟩
def fallback : Field := ⟨0x3000, 7, 1⟩
def orderResult : Field := ⟨0x3008, 0, 3⟩
def orderSource : Field := ⟨0x3008, 3, 1⟩
def orderKind : Field := ⟨0x3008, 4, 8⟩
def rackCap : Field := ⟨0x3010, 0, 16⟩
def hostCap : Field := ⟨0x3010, 16, 16⟩
def effectiveCap : Field := ⟨0x3010, 32, 16⟩
def fallbackCap : Field := ⟨0x3018, 0, 16⟩
def rampMax : Field := ⟨0x3020, 0, 12⟩
def rampA : Field := ⟨0x3028, 0, 16⟩
def rampFloor : Field := ⟨0x3028, 16, 16⟩
def rampCeiling : Field := ⟨0x3028, 32, 16⟩
def ballast : Field := ⟨0x3028, 48, 16⟩
def rmHbTimeout : Field := ⟨0x3030, 0, 16⟩
def stagger : Field := ⟨0x3038, 0, 10⟩
def inputMv : Field := ⟨0x3040, 0, 16⟩
def input10mA : Field := ⟨0x3040, 16, 16⟩
def rail (b : Nat) : Field := ⟨0x3048, b, 1⟩
def rails : Field := ⟨0x3048, 0, 23⟩
def pwrEvent : Nat := 0x3050
def pwrCfgErr : Field := ⟨0x3050, 0, 1⟩
def orderRefused : Field := ⟨0x3050, 1, 1⟩
def rmHbLost : Field := ⟨0x3050, 2, 1⟩
def fallbackEv : Field := ⟨0x3050, 3, 1⟩
def powerDownEv : Field := ⟨0x3050, 4, 1⟩
def offCause : Field := ⟨0x3058, 0, 8⟩
def offTime : Field := ⟨0x3058, 32, 32⟩

/-! SEC registers (Table 14-10). -/
def secEvent : Nat := 0x100000
def secCfgErr : Field := ⟨0x100000, 0, 1⟩
def authFailEv : Field := ⟨0x100000, 1, 1⟩
def replayEv : Field := ⟨0x100000, 2, 1⟩
def storeFail : Field := ⟨0x100000, 3, 1⟩
def keyChanged : Field := ⟨0x100000, 4, 1⟩
def fwVerified : Field := ⟨0x100000, 5, 1⟩
def bootFallbackEv : Field := ⟨0x100000, 6, 1⟩
def runSlot : Field := ⟨0x100008, 0, 1⟩
def bootFallback : Field := ⟨0x100008, 1, 1⟩
def recovery : Field := ⟨0x100008, 2, 1⟩
def svnMin : Field := ⟨0x100008, 8, 7⟩
def runSvn : Field := ⟨0x100008, 32, 32⟩
def bootSel : Field := ⟨0x100010, 0, 1⟩
def slotValid (i : Nat) : Field := ⟨0x100018 + 8 * i, 0, 1⟩
def slotSvn (i : Nat) : Field := ⟨0x100018 + 8 * i, 32, 32⟩
def fwState : Field := ⟨0x100028, 0, 2⟩
def fwSlot : Field := ⟨0x100028, 2, 1⟩
def fwPage : Field := ⟨0x100030, 0, 8⟩
def hostKeySet : Field := ⟨0x100040, 0, 1⟩
def rackKeySet : Field := ⟨0x100040, 1, 1⟩
def hostKeyId : Field := ⟨0x100048, 0, 32⟩
def rackKeyId : Field := ⟨0x100050, 0, 32⟩
def hostCtr : Field := wholeWord 0x100058
def rackCtr : Field := wholeWord 0x100060
def authFails : Field := ctr48 0x100068
def replays : Field := ctr48 0x100070
def capBusy : Field := ⟨0x100080, 0, 1⟩
def capStatus : Field := ⟨0x100080, 8, 8⟩
def capResult : Field := ⟨0x100080, 16, 8⟩
/-- Word i of measurement m. -/
def meas (m i : Nat) : Nat := 0x101000 + 0x40 * m + 8 * i
/-- Word i of SEC_CAP_RSP. -/
def capRsp (i : Nat) : Nat := 0x103000 + 8 * i

/-! MBX registers (Table 12-8). -/
def mbxEvent : Nat := 0x200000
def mbxCfgErr : Field := ⟨0x200000, 0, 1⟩
def badFrameEv : Field := ⟨0x200000, 1, 1⟩
def noticeLostEv : Field := ⟨0x200000, 2, 1⟩
def forcedSem : Field := ⟨0x200000, 3, 1⟩
def genHost : Field := ⟨0x200008, 0, 16⟩
def genPrm : Field := ⟨0x200010, 0, 16⟩
def genEdge (p : Nat) : Field := ⟨0x200018 + 8 * (p / 4), 16 * (p % 4), 16⟩
def mbxBad : Field := ctr48 0x200028
def noticeLost : Field := ctr48 0x200030
def chBase (c : Nat) : Nat := 0x201000 + 0x40 * c
def partyL (c : Nat) : Field := ⟨chBase c, 0, 8⟩
def chipL (c : Nat) : Field := ⟨chBase c, 8, 12⟩
def partyR (c : Nat) : Field := ⟨chBase c, 20, 8⟩
def chipR (c : Nat) : Field := ⟨chBase c, 28, 12⟩
def chEnable (c : Nat) : Field := ⟨chBase c, 40, 1⟩
def callEn (c : Nat) : Field := ⟨chBase c, 41, 1⟩
def emptyEn (c : Nat) : Field := ⟨chBase c, 42, 1⟩
def dbEn (c : Nat) : Field := ⟨chBase c, 43, 1⟩
def chDoorbell (c : Nat) : Field := ⟨chBase c, 48, 8⟩
def chVec (c : Nat) : Field := ⟨chBase c, 56, 6⟩
def lastTx (c : Nat) : Field := ⟨chBase c + 8, 10, 3⟩
def chAborted (c : Nat) : Field := ⟨chBase c + 8, 16, 16⟩
def txWin (c : Nat) : Nat := 0x210000 + 0x400 * c
def rxWin (c : Nat) : Nat := 0x220000 + 0x800 * c

/-! THM registers (Table 13-9). -/
def thmEvent : Nat := 0x2100000
def thmCfgErr : Field := ⟨0x2100000, 0, 1⟩
def l1Ev : Field := ⟨0x2100000, 1, 1⟩
def l2Ev : Field := ⟨0x2100000, 2, 1⟩
def ghostEv : Field := ⟨0x2100000, 3, 1⟩
def sensorLostEv : Field := ⟨0x2100000, 4, 1⟩
def diodeExcluded : Field := ⟨0x2100000, 5, 1⟩
def leakEv : Field := ⟨0x2100000, 6, 1⟩
def flowEv : Field := ⟨0x2100000, 7, 1⟩
def pwrWarnEv : Field := ⟨0x2100000, 8, 1⟩
def ironTripEv : Field := ⟨0x2100000, 9, 1⟩
def chipLevel : Field := ⟨0x2100008, 0, 2⟩
def wingLevel (w : Nat) : Field := ⟨0x2100008, 2 + 2 * w, 2⟩
def fewDiodes (w : Nat) : Field := ⟨0x2100008, 10 + w, 1⟩
def glCause : Field := ⟨0x2100010, 0, 6⟩
def glBit (b : Nat) : Field := ⟨0x2100010, b, 1⟩
def threshL1 : Field := ⟨0x2100018, 0, 8⟩
def threshL2 : Field := ⟨0x2100018, 8, 8⟩
def glHoldMs : Field := ⟨0x2100020, 0, 16⟩
def flowOk : Field := ⟨0x2100028, 0, 1⟩
def graceRunning : Field := ⟨0x2100028, 1, 1⟩
def graceMs : Field := ⟨0x2100028, 2, 15⟩
def leakState : Field := ⟨0x2100030, 0, 2⟩
def leakTime : Field := ⟨0x2100030, 32, 32⟩
def leakGrace : Field := ⟨0x2100038, 0, 16⟩
def coldIn : Field := ⟨0x2100040, 0, 12⟩
def coldOut : Field := ⟨0x2100040, 12, 12⟩
def coldInLimit : Field := ⟨0x2100048, 0, 8⟩
def coldOutLimit : Field := ⟨0x2100048, 8, 8⟩
def ironLevel : Field := ⟨0x2100058, 0, 1⟩
def ironLatched : Field := ⟨0x2100058, 1, 1⟩
def ironCause : Field := ⟨0x2100058, 2, 2⟩
def ironTime : Field := ⟨0x2100058, 32, 32⟩
def diodeTemp (w i : Nat) : Field := ⟨0x2101000 + 0x80 * w + 8 * i, 0, 12⟩
def diodeOut (w i : Nat) : Field := ⟨0x2101000 + 0x80 * w + 8 * i, 12, 1⟩
def modelTemp (w : Nat) : Field := ⟨0x2101400 + 8 * w, 0, 12⟩
def modelValid (w : Nat) : Field := ⟨0x2101400 + 8 * w, 12, 5⟩

/-! Doorbells (Table 15-9) and the rest of INV (Tables 15-7, 16-3). -/
def doorbellCfg (b : Nat) : Nat := 0x1441000 + 8 * b
def dbDenied : Field := ctr48 0x1442000
def cartSerialLo (st : Nat) : Field := wholeWord (invCart st 0)
def cartSerialHi (st : Nat) : Field := wholeWord (invCart st 1)

end Reg

end Sys2Proof.Machine
end

