-- ==== Sys2Proof/Machine/State.lean ====
section
/-! DEFINITION. The state of the IS9. Every BAR0 register has its one home in `regs`; what the spec gives the block beside
its registers is held in typed records, block by block. -/
namespace Sys2Proof.Machine

/-- Line-code state of one direction of one lane (R64, R67): the 58-bit scrambler, the last data symbol and the length of
its run. -/
structure LaneCode where
  scr : Nat
  last : Nat
  run : Nat
  deriving DecidableEq, Repr

/-- A sequenced flit kept for replay (R74, R80). -/
structure RetryFlit where
  seq : Nat
  vc : Nat
  sof : Bool
  eof : Bool
  payload : List Byte
  epoch : Nat
  resends : Nat
  deriving DecidableEq, Repr

/-- A frame being received on one VC of a link (R107): its cells so far, which of them lie in the reserve (R115), and whether cells are
still dropped after a failure at step 12 (R109). -/
structure RxAsm where
  bytes : List Byte
  cells : Nat
  kept : List Bool
  dropping : Bool
  deriving DecidableEq, Repr

/-- A whole received frame that waits for its ingress checks: its VC, bytes, cells, which of them lie in the reserve, whether its last
cell carried EOF, and when it was whole. -/
structure RxFrame where
  vc : Nat
  bytes : List Byte
  cells : Nat
  kept : List Bool
  eof : Bool
  arr : Nat
  deriving DecidableEq, Repr

/-- A lane substitution in progress (R91): the lane that gives the codewords up, the lane that takes them (a swing, or the
tested lane when it returns), whether this end asked for it. Each direction goes its own way, comma by comma: phase 0 before the
first comma, 1 while both lanes carry the codewords, 2 once `onto` alone does; `txAt` and `rxAt` are the codeword counts at which a
phase last changed. -/
structure LaneSub where
  lane : Nat
  onto : Nat
  mine : Bool
  tx : Nat
  rx : Nat
  txAt : Option Nat
  rxAt : Option Nat
  deriving DecidableEq, Repr

/-- A substitution that waits for its first comma. -/
def LaneSub.waiting (lane onto : Nat) (mine : Bool) : LaneSub :=
  { lane := lane, onto := onto, mine := mine, tx := 0, rx := 0, txAt := none, rxAt := none }

/-- Port grace of a link (R125). -/
inductive Grace where
  | off
  | running
  | expired
  deriving DecidableEq, Repr

/-- What a link holds beside its registers (R61 to R93, R112 to R126); `spent` is the time of the training attempt (R84). -/
structure Link where
  postCfg : Bool
  trainGen : Nat
  target : Nat
  attempts : Nat
  spent : Nat
  farCfg : Option Cfg
  fastAt : List Nat
  grace : Grace
  alloc : List Nat
  txSeq : Nat
  ackSeq : Nat
  discarding : Bool
  nakDue : Bool
  retry : List RetryFlit
  replayFrom : Option Nat
  crAccepted : Tab Nat
  crTotal : Tab Nat
  crDirty : List Nat
  crLast : Nat
  asm : List (Nat × RxAsm)
  frames : List RxFrame
  msgs : List LinkMsg
  txCount : Nat
  rxCount : Nat
  txLane : Tab LaneCode
  rxLane : Tab LaneCode
  windowCount : Nat
  subs : List LaneSub
  badLanes : List Nat
  half : Bool
  missed : Tab Nat
  farLoop : Option Nat
  asideHist : List Bool
  deficits : List Nat
  drr : Nat
  deriving DecidableEq, Repr

/-- A link that has never trained: no cartridge, nothing received, null line code. -/
def Link.init : Link :=
  { postCfg := false, trainGen := 0, target := 0, attempts := 0, spent := 0, farCfg := none, fastAt := [], grace := .expired,
    alloc := [], txSeq := 0, ackSeq := 0xFFFF, discarding := false, nakDue := false, retry := [], replayFrom := none,
    crAccepted := [], crTotal := [], crDirty := [], crLast := 0, asm := [], frames := [], msgs := [], txCount := 0,
    rxCount := 0, txLane := [], rxLane := [], windowCount := 0, subs := [], badLanes := [], half := false, missed := [],
    farLoop := none, asideHist := [],
    deficits := [0, 0, 0, 0], drr := 0 }

/-- A cartridge site (R96 to R98): HOTPLUG_N low and the debounce running, the ID read done, the cartridge accepted, its
power-good seen, its EEPROM bytes. -/
structure Site where
  debounced : Bool
  accepted : Bool
  refused : Bool
  powerGood : Bool
  eeprom : List Byte
  deriving DecidableEq, Repr

/-- A site with no cartridge. -/
def Site.init : Site := { debounced := false, accepted := false, refused := false, powerGood := false, eeprom := [] }

/-- A frame, or one multicast copy of it, that waits for an egress link (R110, R118, R133). `ing` is the ingress link, 15 for
chip-internal; `stor` names the stored frame that copies share; `esc` is the escape port at which it is also eligible; `kept` says of
each cell not yet sent whether it lies in the reserve of its link and VC, else in the shared part (R115). -/
structure QFrame where
  stor : Nat
  frame : Frame
  ing : Nat
  ingVc : Nat
  wing : Nat
  kept : List Bool
  arr : Nat
  port : Nat
  vc : Nat
  escOnly : Bool
  esc : Option Nat
  copy : Bool
  sent : Nat
  deriving DecidableEq, Repr

/-- A frame delivered to a unit of the chip (step 4 of R129), or held in the spray reorder buffer (R141). -/
structure InFrame where
  frame : Frame
  ing : Nat
  arr : Nat
  deriving DecidableEq, Repr

/-- A stream of the spray reorder buffer (R141). -/
structure Stream where
  chip : Nat
  port : Nat
  cls : Nat
  last : Nat
  held : List InFrame
  deriving DecidableEq, Repr

/-- A request of an edge port that no response has passed back for (R117, R205). -/
structure EdgeReq where
  port : Nat
  dest : Nat
  dport : Nat
  tag : Nat
  seq : Nat
  deriving DecidableEq, Repr

/-- Why one of the chip's own units sent a request. -/
inductive Purpose where
  | fetch (xfer : Nat) (piece : Nat)
  | spill (xfer : Nat) (piece : Nat)
  | mirror (hold : Nat) (region : Nat)
  | sync (region : Nat)
  | brk
  deriving DecidableEq, Repr

/-- An outstanding request of the chip's own units (R155): the frame as first sent, attempts sent, AGED_OUT answers, PRM_TIME of
the last attempt. -/
structure OwnReq where
  frame : Frame
  attempts : Nat
  aged : Nat
  why : Purpose
  sentAt : Nat
  deriving DecidableEq, Repr

/-- The duplicate filter of one (source, home) pair (R157): the highest SEQ applied, the SEQ values applied within the
window, the results of the last 16 atomics. -/
structure Window where
  src : Nat
  home : Nat
  high : Nat
  applied : List Nat
  atoms : List (Nat × List Byte)
  deriving DecidableEq, Repr

/-- A token bucket (R167): its tokens in twenty-fifths of a cell, and when they were last counted. -/
structure Bucket where
  tokens : Nat
  last : Nat
  deriving DecidableEq, Repr

/-- Cells of one admitted cue, or of a replay, that have not left the head of a circuit (R182); `op` names the cue's operation. -/
structure CirLoad where
  cir : Nat
  op : Option Nat
  cells : Nat
  deriving DecidableEq, Repr

/-- A frame of the chip's own units that waits for room in its circuit's reserve (R169): the wing, the operation (none for a replay), the
frame. -/
structure CirWait where
  wing : Nat
  op : Option Nat
  frame : Frame
  deriving DecidableEq, Repr

/-- A request of the chip's own units that waits because 4,096 are outstanding to its chip (R158). -/
structure OwnWait where
  why : Purpose
  wing : Nat
  dest : Nat
  ty : Nat
  addr : Nat
  op : Nat
  payload : List Byte
  deriving DecidableEq, Repr

/-- The switch core beside its registers. `cirPending` holds what has not left, circuit by circuit in the order of admission, `filled` the
wings whose shared part has filled before (R116), `poolWait` the pool requests that wait at ingress because 65,536 are in service (R206).
-/
structure Swc where
  queue : List QFrame
  inbox : List InFrame
  fenced : List QFrame
  streams : List Stream
  edgeOut : List EdgeReq
  own : List OwnReq
  ownWait : List OwnWait
  seqCtr : Tab Nat
  nextTag : Nat
  nextStor : Nat
  filter : List Window
  armed : List (Nat × Nat)
  spray : Tab Nat
  buckets : Tab Bucket
  cirPending : List CirLoad
  cirSent : List (Nat × Nat × Frame)
  cirWait : List CirWait
  filled : List Nat
  poolWait : List QFrame
  deriving DecidableEq, Repr

/-- The switch core after reset: nothing held. -/
def Swc.init : Swc :=
  { queue := [], inbox := [], fenced := [], streams := [], edgeOut := [], own := [], ownWait := [], seqCtr := [], nextTag := 0,
    nextStor := 0, filter := [], armed := [], spray := [], buckets := [], cirPending := [], cirSent := [], cirWait := [], filled := [], poolWait := [] }

/-- A DDR channel beside its registers (R191 to R194, R219): DIMM type (1 RDIMM-6400, 2 MRDIMM-8800, 3 MRDIMM-12800), PMIC good,
rate of the training attempt, whether the attempt is from saved results, contents kept across RESET_N, training of a return,
DIMM judged (a channel with no DIMM is judged EMPTY). -/
structure Chan where
  typ : Nat
  pmicGood : Bool
  rate : Nat
  fromSaved : Bool
  kept : Bool
  returning : Bool
  judged : Bool
  deriving DecidableEq, Repr

/-- A channel whose DIMM has not been judged. -/
def Chan.init : Chan := { typ := 0, pmicGood := false, rate := 0, fromSaved := false, kept := false, returning := false, judged := false }

/-- Who a held write answers. -/
inductive Asker where
  | fabric (f : Frame)
  | host (addr : Nat)
  | quiet
  deriving DecidableEq, Repr

/-- A home write or atomic whose mirror writes are outstanding (R214): its lines are held; `lost` names the
regions whose mirror writes have failed. -/
structure MirrorHold where
  id : Nat
  asker : Asker
  off : Nat
  data : List Byte
  result : List Byte
  left : Nat
  lost : List Nat
  deriving DecidableEq, Repr

/-- A host access that waits (R210, R222): what it asks, its pool offset, what reading its line brings, the delivered requests for its line
that came before it, and whether it was in service when its set was struck (R218). -/
structure HostReq where
  write : Bool
  addr : Nat
  off : Nat
  enables : Nat
  bytes : List Byte
  err : List Byte
  ahead : List InFrame
  exempt : Bool
  deriving DecidableEq, Repr

/-- A region being copied (R215): the next home offset, a piece outstanding, SYNC_DONE sent and acknowledged. -/
structure Sync where
  region : Nat
  next : Nat
  busy : Bool
  doneSent : Bool
  doneAcked : Bool
  deriving DecidableEq, Repr

/-- One HDM decoder (R221, R461). -/
structure Hdm where
  committed : Bool
  failed : Bool
  locked : Bool
  base : Nat
  size : Nat
  skip : Nat
  deriving DecidableEq, Repr

/-- The pool beside its registers. DRAM is keyed by channel × 2^40 + channel byte address; `ue` holds uncorrectable lines as channel × 2^34
+ line; `rebuilds` the device rebuilt and when; `wasReset` since RESET_N until the sets are installed (R159); `scrubbed` the PRM_TIME up to
which a channel's scrub has come, `catchUp` the channels held awake for a late one (R204); `striking` the channels whose strike has not
ended and `draining` the requests, by set, that were in service when their set was struck (R218); `bringUp` the sets that the bring-up
configuration gives, as (set, MASK, BASE), none for the default ones (R195). -/
structure Mem where
  chans : Tab Chan
  saved : List (Nat × Nat)
  dram : Tab Byte
  ue : List Nat
  rebuilds : List (Nat × Nat)
  recorded : List (Nat × Nat × Nat)
  restore : Bool
  installed : Bool
  holds : List MirrorHold
  hostWait : List HostReq
  nextHold : Nat
  syncs : List Sync
  moving : Bool
  striking : List Nat
  draining : List (Nat × InFrame)
  returns : List Nat
  hdm : Tab Hdm
  filterSet : Option Nat
  wasReset : Bool
  scrubbed : Tab Nat
  catchUp : List Nat
  bringUp : List (Nat × Nat × Nat)
  deriving DecidableEq, Repr

/-- The pool after power-on: nothing installed, nothing written. -/
def Mem.init : Mem :=
  { chans := [], saved := [], dram := [], ue := [], rebuilds := [], recorded := [], restore := false, installed := false,
    holds := [], hostWait := [], nextHold := 0, syncs := [], moving := false, striking := [], draining := [], returns := [], hdm := [],
    filterSet := none, wasReset := false, scrubbed := [], catchUp := [], bringUp := [] }

/-- Owner of scratchpad space (R250, R334): a program slot or a group. -/
inductive Owner where
  | prog (n : Nat)
  | group (g : Nat)
  deriving DecidableEq, Repr

/-- A placed range of the scratchpad window. -/
structure Range where
  owner : Owner
  base : Nat
  size : Nat
  deriving DecidableEq, Repr

/-- A tensor instruction that has issued and not completed (R269, R270): its descriptors are dst, srcA, srcB, srcC, the residual
and the gain; `cross` names its crossing; `owned` while the context that issued it stands; `tiles` the physical tiles that it runs on once
a change of the tile map has found it running (R225). -/
structure Flight where
  id : Nat
  seq : Nat
  pc : Nat
  word : BitVec 128
  descs : List (BitVec 256)
  reads : List (Nat × Nat)
  writes : List (Nat × Nat)
  cross : Option Nat
  prog : Nat
  owned : Bool
  tiles : Option (List Nat)
  deriving DecidableEq, Repr

/-- The scratchpad and the tiles beside their registers (R224 to R252): bytes, uncorrectable words, those whose row
has been swung since (R248), ranges being zeroed, placed
ranges, retired and pending 64 KiB regions, swing rows used per bank, corrected reads
(row, time) and operand-buffer reloads (tile, time) of the last 24 h, instructions in flight. -/
structure Ten where
  sp : Tab Byte
  ue : List Nat
  ueMoved : List Nat
  zeroing : List (Nat × Nat)
  placed : List Range
  retired : List Nat
  pendingRetire : List Nat
  rowsUsed : Tab Nat
  rowReads : List (Nat × Nat)
  reloads : List (Nat × Nat)
  flights : List Flight
  nextFlight : Nat
  deriving DecidableEq, Repr

/-- The Tensor Stage after reset: every byte 0, nothing placed. -/
def Ten.init : Ten :=
  { sp := [], ue := [], ueMoved := [], zeroing := [], placed := [], retired := [], pendingRetire := [], rowsUsed := [],
    rowReads := [], reloads := [], flights := [], nextFlight := 0 }

/-- The registers of a sequencer context (Table 09-1), its return stack, what it waits for: the Table 09-6 step at which it is
STALLED, the PRM_TIME of a timeout or wake, the refusal of a crossing that its counter has not taken yet (R273). -/
structure Ctx where
  s : Tab Word
  d : Tab (BitVec 256)
  p : Nat
  g : Tab Nat
  stack : List Nat
  stall : Nat
  until_ : Nat
  refusal : Nat
  deriving DecidableEq, Repr

/-- A context that holds nothing. -/
def Ctx.init : Ctx := { s := [], d := [], p := 1, g := [], stack := [], stall := 0, until_ := 0, refusal := 0 }

/-- A loaded program (R260 to R262, R314): its image's place and length, its code's offset and length, live allocations as
(wing, window offset, size). -/
structure Prog where
  image : Nat
  bytes : Nat
  code : Nat
  insns : Nat
  foot : List (Nat × Nat)
  allocs : List (Nat × Nat × Nat)
  deriving DecidableEq, Repr

/-- A trigger beside its entry (R265, R266): s1 and time of a pending fire, next fire time and fires of a timer, the next OPSEQ
for which an ARRIVAL entry has fired. -/
structure Trig where
  s1 : Nat
  at_ : Nat
  nextFire : Nat
  fires : Nat
  firedFor : Option Nat
  deriving DecidableEq, Repr

/-- A trigger that has never fired. -/
def Trig.init : Trig := { s1 := 0, at_ := 0, nextFire := 0, fires := 0, firedFor := none }

/-- An event of a counter that comes after the bindings of its cycle, or an error (R284). -/
inductive CtrEvent where
  | error (kind code : Nat)
  | retract
  | land (again : Bool)
  | finish
  deriving DecidableEq, Repr

/-- A cue counter (R279 to R282): chunks bound, landed, retractions, the first error and whether a refusal (1) or an abort (2)
gave it, crossings outstanding, retracted chunks that have not landed again, whether a bound crossing has started; while the bindings of
one cycle are made, the events that follow them (R281, R284). -/
structure Ctr where
  bound : Bool
  target : Nat
  progress : Nat
  rev : Nat
  err : Nat
  kind : Nat
  out : Nat
  retracted : Nat
  started : Bool
  later : Option (List CtrEvent)
  deriving DecidableEq, Repr

/-- An IDLE counter. -/
def Ctr.init : Ctr :=
  { bound := false, target := 0, progress := 0, rev := 0, err := 0, kind := 0, out := 0, retracted := 0, started := false, later := none }

/-- A PFETCH or PSPILL in flight (R313): pieces sent and ended, the error that stopped it. -/
structure Xfer where
  id : Nat
  ctr : Nat
  spill : Bool
  sp : Nat
  chip : Nat
  off : Nat
  len : Nat
  sent : Nat
  ended : Nat
  err : Nat
  wing : Nat
  prog : Nat
  deriving DecidableEq, Repr

/-- A SIGC whose earlier tensor instructions have not all completed (R287). -/
structure Sig where
  id : Nat
  ctr : Nat
  after : List Nat
  prog : Nat
  deriving DecidableEq, Repr

/-- A result extent of a crossing bound to a counter (R272): the counter, the crossing's id, the extent. -/
structure Result where
  ctr : Nat
  id : Nat
  lo : Nat
  hi : Nat
  deriving DecidableEq, Repr

/-- The cue units beside their registers. `gens` is the configuration generation that a sleeping unit went to sleep with, `drowsy` the
units that a DOZE has named and that still hold work, with its DARK bit (R303), `rr` the sequencer that took the last
crossing slot that others had waited for (R275), `results` the result extents of the crossings bound to counters since their last
arm (R272). -/
structure Cue where
  store : Tab Byte
  progs : Tab (Option Prog)
  loading : Option Nat
  trigs : Tab Trig
  ctxs : Tab (Option Ctx)
  ctrs : Tab Ctr
  xfers : List Xfer
  sigs : List Sig
  nextId : Nat
  gens : Tab Nat
  drowsy : List (UnitId × Bool)
  rr : Nat
  results : List Result
  deriving DecidableEq, Repr

/-- The cue units after reset: an empty store, no program, no context. -/
def Cue.init : Cue :=
  { store := [], progs := [], loading := none, trigs := [], ctxs := [], ctrs := [], xfers := [], sigs := [], nextId := 0,
    gens := [], drowsy := [], rr := 63, results := [] }

/-- A copy of a chunk held as an input (R341 to R349): its STAGE, the sender as chip × 16 + port, its REV, whether a VERIFIED
frame covers it. -/
structure Copy where
  stage : Nat
  chunk : Nat
  src : Nat
  rev : Nat
  data : List Byte
  covered : Bool
  deriving DecidableEq, Repr

/-- A sum that this chip formed (Table 11-6): stage 0 the local stage, 1 to 3 the axes. -/
structure Sum where
  stage : Nat
  chunk : Nat
  rev : Nat
  data : List Byte
  passed : Bool
  sent : Bool
  recomps : Nat
  covered : Bool
  deriving DecidableEq, Repr

/-- A frame that waits for its receiver to release a chunk (R338). -/
structure Send where
  stage : Nat
  dest : Nat
  dport : Nat
  chunk : Nat
  ty : Nat
  rev : Nat
  data : List Byte
  deriving DecidableEq, Repr

/-- A reduced or gathered chunk at this chip: confirmed, landed. -/
structure Done where
  chunk : Nat
  data : List Byte
  confirmed : Bool
  landed : Bool
  deriving DecidableEq, Repr

/-- A collective operation that has not ended at this chip (R275, R335 to R352). `answered` are the result chunks given to edge members
(port × 65536 + chunk); `takenBack` the chunks whose landed copy was retracted and has not landed again (R350); `routed` the pieces of
routed rows held here as (origin, token, expert, piece, bytes); `log` and `filled` are a ROUTE's own route log and rows, or those that a
MERGE goes back to (R354, R355). -/
structure Op where
  id : Nat
  group : Nat
  opseq : Nat
  ctr : Nat
  prog : Nat
  word : BitVec 128
  descs : List (BitVec 256)
  sig : Nat
  fmt : Nat
  rows : Nat
  cols : Nat
  own : Option (List Byte)
  present : List Bool
  copies : List Copy
  sums : List Sum
  done : List Done
  rowsLanded : List Nat
  takenBack : List Nat
  sends : List Send
  released : Tab Nat
  reported : Nat
  counts : List (Nat × Nat)
  routed : List (Nat × Nat × Nat × Nat × List Byte)
  returned : List (Nat × Nat × Nat × List Byte)
  answered : List Nat
  log : List (Nat × Nat × Nat × Bool)
  filled : List (Nat × Nat × Nat × Nat)
  issuedAt : Nat
  ended : Bool
  deriving DecidableEq, Repr

/-- What a group keeps between operations: frames held for operations not yet issued, the OPSEQ values that aborted, the route log
(token, expert, weight code, sent) and the filled rows (dst row, origin, token, expert) of the last ROUTE that has ended, whether one
has. -/
structure Grp where
  held : Tab (Option Word)
  early : List (Nat × Frame)
  aborted : List Nat
  routeLog : List (Nat × Nat × Nat × Bool)
  filled : List (Nat × Nat × Nat × Nat)
  routeEnded : Bool
  deriving DecidableEq, Repr

/-- A group that holds nothing. -/
def Grp.init : Grp := { held := [], early := [], aborted := [], routeLog := [], filled := [], routeEnded := false }

/-- A value in an aside slot (R357, R358, R360): phase 0 edge and own values (index: 0 own, 1 + port), 1 to 3 the axes (index:
ring index). -/
structure AsideVal where
  group : Nat
  opseq : Nat
  phase : Nat
  index : Nat
  sig : Nat
  data : List Byte
  deriving DecidableEq, Repr

/-- An accepted group commit whose staging waits for a zeroing (R252): the group, the four words of its entry, the range placed for it. -/
structure Placing where
  group : Nat
  words : List Word
  base : Nat
  size : Nat
  deriving DecidableEq, Repr

/-- The collective engines and aside units beside their registers. `laneFails` are (engine × 256 + lane, time). -/
structure Col where
  ops : List Op
  grps : Tab Grp
  aside : List AsideVal
  laneFails : List (Nat × Nat)
  placing : List Placing
  deriving DecidableEq, Repr

/-- The engines after reset: no operation. -/
def Col.init : Col := { ops := [], grps := [], aside := [], laneFails := [], placing := [] }

/-- A Prompter at the Call Board (R373, R376): whether it has beaten in the current window, windows missed in a row, when it was
declared FAILED; its newest 4,096 writes as (stage, SEQ, effect), those that a warm takeover sends again (R383). -/
structure Prompter where
  beat : Bool
  missed : Nat
  fails : List Nat
  writes : List (Nat × Nat × SideEffect)
  resend : List (Nat × Nat × SideEffect)
  deriving DecidableEq, Repr

/-- A Prompter that has not beaten. -/
def Prompter.init : Prompter := { beat := false, missed := 0, fails := [], writes := [], resend := [] }

/-- One buffer of the checkpoint store (R381); `applied` is the number of stage writes applied before its MARK. -/
structure Checkpoint where
  number : Nat
  mark : Nat
  lasts : List Nat
  body : List Byte
  complete : Bool
  digest : BitVec 512
  applied : Nat
  deriving DecidableEq, Repr

/-- An empty buffer. -/
def Checkpoint.init : Checkpoint :=
  { number := 0, mark := 0, lasts := [], body := [], complete := false, digest := 0, applied := 0 }

/-- The Call Board, the intake and the checkpoint store beside their registers (R367 to R387): the newest 4,096 inputs as (CMD_SEQ, input),
inputs that wait at their source, the last CMD_SEQ delivered to each Prompter, the buffer of the last complete checkpoint, the copy in
progress with the PRM_TIME of its start, a copy that is due, stage writes applied after power-on, the MARK and the applied writes of the
last checkpoint and of the adopted one, a handover in progress with the NUMBER it waits for, the heartbeat windows of PRM_TIME that have
been taken (R373), the PRM_TIME of the first grant (R414), that at which the last checkpoint started (R382). -/
structure Board where
  prompters : Tab Prompter
  log : List (Nat × Input)
  waiting : List Input
  delivered : Tab Nat
  bufs : Tab Checkpoint
  lastBuf : Nat
  copying : Option (Nat × Checkpoint)
  due : Bool
  applied : Nat
  markSeq : Nat
  markApplied : Nat
  adoptSeq : Nat
  adoptApplied : Nat
  handover : Option Nat
  windows : Nat
  startedAt : Nat
  activeAt : Nat
  deriving DecidableEq, Repr

/-- The Call Board at power-on. -/
def Board.init : Board :=
  { prompters := [], log := [], waiting := [], delivered := [], bufs := [], lastBuf := 1, copying := none, due := false,
    applied := 0, markSeq := 0, markApplied := 0, adoptSeq := 0, adoptApplied := 0, handover := none,
    windows := 0, startedAt := 0, activeAt := 0 }

/-- A mailbox message and its stamp (Table 12-5). -/
structure Msg where
  party : Nat
  chip : Nat
  gen : Nat
  seq : Nat
  time : Nat
  data : List Byte
  deriving DecidableEq, Repr

/-- A message on its way to a fabric receiver (R394): channel, direction, SEQ, resends made, when last sent. -/
structure Delivery where
  ch : Nat
  dir : Nat
  seq : Nat
  tries : Nat
  sent : Nat
  deriving DecidableEq, Repr

/-- A semaphore (R401 to R403): its holder as (master index, chip), and whether the last release was forced. -/
structure Sem where
  holder : Option (Nat × Nat)
  forced : Bool
  deriving DecidableEq, Repr

/-- A free semaphore. -/
def Sem.init : Sem := { holder := none, forced := false }

/-- The mailboxes beside their registers (R388 to R403): the queue of channel c toward R at 2c and toward L at 2c + 1, the next
SEQ of a host or Prompter sender at the same keys, the last message queued as (sender, channel, SEQ), messages on their way, the
notice queue (ABORTED or not, frame), semaphores. -/
structure Mail where
  queues : Tab (List Msg)
  seqs : Tab Nat
  lastIn : List (Nat × Nat × Nat)
  out : List Delivery
  notices : List (Bool × Frame)
  sems : Tab Sem
  deriving DecidableEq, Repr

/-- The mailboxes at power-on: nothing queued, every semaphore free. -/
def Mail.init : Mail := { queues := [], seqs := [], lastIn := [], out := [], notices := [], sems := [] }

/-- Power and heat beside their registers (R406 to R433): the stored rack order (RM_RUN, RM_HOLD), the levels of PWR_WARN_N and
of the input below 31.0 V, the rails enabled in a power-up, the PRM_TIME at which the flow grace ends, whether the rack-manager
heartbeat is lost, the PRM_TIME at which the die came up while PMICs wait to be enabled (0 none), the cause that an OFF order gives the
next power-down, consecutive samples of a wing at or above a level (wing × 4 + level) and of a diode at 110 °C or more
(wing × 16 + diode), consecutive stuck-cool checks of a diode, the tiles that run business load (R53); the PRM_TIME at which
the present rails were enabled (R415), the last cause bit cleared (R424), the line became WET (R431), the last rack-manager heartbeat came
(R421) and the last grant was given (R414). -/
structure Power where
  stored : Option (Nat × Nat)
  warnLow : Bool
  inputLow : Bool
  enabled : Nat
  flowEnds : Nat
  rmLost : Bool
  upAt : Nat
  offBy : Nat
  hotRuns : Tab Nat
  tripRuns : Tab Nat
  coolRuns : Tab Nat
  loadTiles : List Nat
  enabledAt : Nat
  glFrom : Nat
  wetFrom : Nat
  rmSeen : Nat
  grantAt : Nat
  deriving DecidableEq, Repr

/-- Power and heat at power-on. -/
def Power.init : Power :=
  { stored := none, warnLow := false, inputLow := false, enabled := 0, flowEnds := 0, rmLost := false, upAt := 0, offBy := 0, hotRuns := [], tripRuns := [],
    coolRuns := [], loadTiles := [], enabledAt := 0, glFrom := 0, wetFrom := 0, rmSeen := 0, grantAt := 0 }

/-- A capsule that has arrived (R443): its transport and its bytes. -/
structure Capsule where
  via : Transport
  bytes : List Byte
  deriving DecidableEq, Repr

/-- The security engine beside its registers (R435 to R453): the commander keys, the two slots (slot × 2^24 + offset), whether an
image has been chosen to run, SEC_CAP_WIN, capsules that wait to be judged, the one whose counter is being stored, the accepted one
whose command has not been carried out, transports in their hold after an AUTH_FAIL, each with the PRM_TIME of its start (R445). -/
structure Sec where
  hostKey : Option (BitVec 256)
  rackKey : Option (BitVec 256)
  slots : Tab Byte
  booted : Bool
  win : Tab Byte
  waiting : List Capsule
  storing : Option Capsule
  accepted : Option Capsule
  holds : List (Transport × Nat)
  deriving DecidableEq, Repr

/-- The security engine as the module leaves manufacture: no key, empty slots. -/
def Sec.init : Sec :=
  { hostKey := none, rackKey := none, slots := [], booted := false, win := [], waiting := [], storing := none, accepted := none, holds := [] }

/-- The house island and the pins (R36, R41, R414, R521 to R525): module input in range, the input switch open, HOUSE_CLK
present, RESET_N low, PERST_N low, SITE_PWR_EN and PMIC_EN, the grant of the first die power-up, a die power-up done since
power-on, the ghost-light hold running, the grants that this chip has given as tray master (R414). -/
structure House where
  input : Bool
  switchOpen : Bool
  clkPresent : Bool
  onOscillator : Bool
  resetLow : Bool
  perst : Bool
  siteEn : Nat
  pmicEn : Nat
  granted : Bool
  firstUp : Bool
  glHold : Bool
  grantsGiven : Nat
  deriving DecidableEq, Repr

/-- An alert (R478): the code of its source's block, the error code, PRM_TIME, the event register, alerts merged. -/
structure Alert where
  src : Nat
  code : Nat
  time : Nat
  event : Nat
  merged : Nat
  deriving DecidableEq, Repr

/-- A CXL event record (R463): its handle, whether it is a General Media record, the error code, DPA, write or read, PRM_TIME. -/
structure EventRec where
  handle : Nat
  media : Bool
  code : Nat
  dpa : Nat
  write : Bool
  time : Nat
  deriving DecidableEq, Repr

/-- An I3C port (R467, R470): enabled target events, MWL, MRL, the targets that the controller has told of as (address, PID). -/
structure I3c where
  events : Nat
  mwl : Nat
  mrl : Nat
  targets : List (Nat × Nat)
  deriving DecidableEq, Repr

/-- An I3C port before any CCC: every event enabled, the lengths of DESIGN CHOICE (log entry 14). -/
def I3c.init : I3c := { events := 0x0B, mwl := 64, mrl := 64, targets := [] }

/-- What the function's PCI configuration space presents (R458). -/
structure PciConfig where
  vendor : Nat
  device : Nat
  classCode : Nat
  revision : Nat
  subVendor : Nat
  subsystem : Nat
  maxPayload : Nat
  maxRead : Nat
  tag10 : Bool
  deriving DecidableEq, Repr

/-- The host port and the side-band beside their registers: the configuration space since the port's last reset, alerts, the MSI-X table,
the event logs (0 informational, 1 warning, 2 failure, 3 fatal), their overflow counts and interrupt settings, the next record handle, the
capacity fixed at link-up, the EID over VDM, the I3C ports (0 tray, 1 rack), the address to which the controller role is being handed,
links that a strike disabled (R489), the PRM_TIME at which the drain began (R488), the tenths of an hour of PRM_TIME that have been taken
(R494), the PRM_TIME of the last counter mirror (R517). -/
structure HostPort where
  config : Option PciConfig
  alertQ : List Alert
  alertLast : Tab Nat
  alertHeld : List Alert
  msixTable : Tab Byte
  logs : Tab (List EventRec)
  logOver : Tab Nat
  logInt : Tab Nat
  nextRec : Nat
  capacity : Nat
  vdmEid : Nat
  i3c : Tab I3c
  handing : Option Nat
  struck : List Nat
  drainAt : Nat
  tenths : Nat
  mirrorAt : Nat
  deriving DecidableEq, Repr

/-- The host port before any link-up. -/
def HostPort.init : HostPort :=
  { config := none, alertQ := [], alertLast := [], alertHeld := [], msixTable := [], logs := [], logOver := [], logInt := [], nextRec := 1,
    capacity := 0, vdmEid := 0, i3c := [], handing := none, struck := [], drainAt := 0, tenths := 0, mirrorAt := 0 }

/-- A rehearsal slice in progress (R503, R504): its wing and the index of its target in the wing's list. -/
structure Slice where
  wing : Nat
  target : Nat
  deriving DecidableEq, Repr

/-- Rehearsal beside its registers (R499 to R511): slices in progress, wings whose fire waits, the target a wing tests again,
consecutive mismatches and passes of a target (wing × 128 + index), diode ADCs and references out of service
(wing × 4 + index), the fuse pass in progress, the PRM_TIME at which the slice timer of each wing fires next. -/
structure Rehearsal where
  slices : List Slice
  waitingFires : List Nat
  again : Tab Nat
  mismatches : Tab Nat
  passes : Tab Nat
  sensorsOut : List Nat
  fusePass : Bool
  nextFire : Tab Nat
  deriving DecidableEq, Repr

/-- Rehearsal with nothing in progress. -/
def Rehearsal.init : Rehearsal :=
  { slices := [], waitingFires := [], again := [], mismatches := [], passes := [], sensorsOut := [], fusePass := false, nextFire := [] }

/-- What the block sends to the world outside and no register shows (the model's own record, log entry 6). -/
inductive OutMsg where
  | line (link lane : Nat) (symbols : List Nat)
  | linkMsg (link : Nat) (m : LinkMsg)
  | alert (a : Alert) (viaVdm : Bool)
  | msix (vector : Nat)
  | hostData (addr : Nat) (bytes : List Byte)
  | hostDone (addr : Nat) (ok : Bool)
  | barData (off value : Nat)
  | prompterCall (who : Who)
  | stageMessage (bytes : List Byte)
  | completion (via : Transport) (bytes : List Byte)
  | mailboxCmd (opcode returnCode : Nat) (data : List Nat)
  | eventRecords (log : Nat) (lost : Nat) (recs : List EventRec)
  | spdm (port : Port) (code : Nat) (data : List Byte)
  | mctp (port : Port) (bytes : List Byte)
  | relayed (dest type cmd : Nat) (data : List Byte)
  | absent (slot : Nat)
  | i3c (tray : Bool) (bytes : List Byte)
  | grant (slot : Nat)
  | ccc (name : String) (args : List Nat)
  deriving DecidableEq, Repr

/-- The state of one IS9. -/
structure State where
  code : PartCode
  regs : Tab Word
  house : House
  links : Tab Link
  sites : Tab Site
  swc : Swc
  mem : Mem
  ten : Ten
  cue : Cue
  col : Col
  board : Board
  mail : Mail
  power : Power
  sec : Sec
  host : HostPort
  rhs : Rehearsal
  spState : Tab Nat
  waking : List UnitId
  outbox : List OutMsg
  free : Nat
  pending : List Instr
  deriving DecidableEq, Repr

/-- Why the block faults. -/
inductive Fault where
  /-- An event that tells of a land, blade or fitting outside Table 18-1: R520 gives no behaviour for such a module. Raised by the
  input events with a voltage above 48 V; safe, since the machine stops where the spec says nothing. -/
  | absoluteMaximum
  deriving DecidableEq, Repr

/-- Why the block refuses a command. -/
inductive Refusal where
  /-- A command with no meaning yet, by its mnemonic. Raised by no arm once every command is modelled; safe. -/
  | notModelled (mnemonic : String)
  deriving DecidableEq, Repr

/-- The pins and the house island at power-on (Table 18-5 gives what an open input reads). -/
def House.init : House :=
  { input := true, switchOpen := false, clkPresent := true, onOscillator := false, resetLow := false, perst := true, siteEn := 0,
    pmicEn := 0, granted := false, firstUp := false, glHold := false, grantsGiven := 0 }

/-- The machine of an ordering code right after power-on: every register at its Reset column, nothing held. -/
def State.resetOf (c : PartCode) : State :=
  { code := c, regs := [], house := House.init, links := [], sites := [], swc := Swc.init, mem := Mem.init, ten := Ten.init,
    cue := Cue.init, col := Col.init, board := Board.init, mail := Mail.init, power := Power.init, sec := Sec.init,
    host := HostPort.init, rhs := Rehearsal.init, spState := [], waking := [], outbox := [], free := 0, pending := [] }

/-- The machine right after reset. The ordering code is one of two (R3): the model starts as IS9-M448 (log entry 3). -/
def State.reset : State := State.resetOf .m448

end Sys2Proof.Machine
end

