-- ==== Sys2Proof/Machine/Ops.lean ====
section
/-! DEFINITION. The named operations that every meaning is made of: reading and writing register fields, counters and event
bits, emitting messages, alerts, and waking units. -/
namespace Sys2Proof.Machine

/-! Registers. -/

/-- The 64-bit word of BAR0 at a byte offset that is a multiple of 8. -/
def State.word (s : State) (off : Nat) : Word := Tab.get (resetWord s.code) s.regs off

/-- Write a word of BAR0. -/
def State.setWord (s : State) (off : Nat) (v : Word) : State :=
  { s with regs := Tab.set (resetWord s.code) s.regs off v }

/-- The value of a register field. -/
def State.fld (s : State) (f : Field) : Nat := field (s.word f.off) f.lo f.w

/-- Write a register field; the other bits of its word stay. -/
def State.setFld (s : State) (f : Field) (x : Nat) : State :=
  s.setWord f.off (putField (s.word f.off) f.lo f.w x)

/-- A field read as a flag. -/
def State.flag (s : State) (f : Field) : Bool := decide (s.fld f ≠ 0)

/-- Add to a counter that wraps to 0 at its width. -/
def State.addFld (s : State) (f : Field) (n : Nat) : State := s.setFld f (s.fld f + n)

/-- Count one in a counter that wraps to 0 at its width. -/
def State.count (s : State) (f : Field) : State := s.addFld f 1

/-- Add to a counter that saturates at its width. -/
def State.satFld (s : State) (f : Field) (n : Nat) : State :=
  s.setFld f (min (s.fld f + n) (2 ^ f.w - 1))

/-- Set a bit. -/
def State.raise (s : State) (f : Field) : State := s.setFld f 1

/-- The house-clock count (R38). -/
def State.now (s : State) : Nat := s.fld Reg.time

/-- House-clock periods of 40 ns in a millisecond and in a microsecond. -/
def ticksPerMs : Nat := 25000
def ticksPerUs : Nat := 25

/-- Apply a function along a list. -/
def forEach {α : Type} (f : α → State → State) : List α → State → State
  | [], s => s
  | a :: t, s => forEach f t (f a s)

/-! Output. -/

/-- Emit a message to the world outside. -/
def emit (m : OutMsg) (s : State) : State := { s with outbox := s.outbox ++ [m] }

/-- Fresh indexes for values that the spec leaves open (log entry 5). -/
def takeFrees (n : Nat) (s : State) : State := { s with free := s.free + n }
def takeFree (s : State) : State := takeFrees 1 s

/-! Alerts (R478). -/

/-- An MSI-X vector is signalled. PRESUMED, log entry 52. -/
def signalMsix (v : Nat) (s : State) : State := emit (.msix v) s

/-- Put an alert into the queue of 64, or drop and count it. -/
def queueAlert (a : Alert) (s : State) : State :=
  let s := if s.flag Reg.alertMsix then signalMsix (s.fld Reg.alertVec) s else s
  if 64 ≤ s.host.alertQ.length then (s.count Reg.alertsLost).raise Reg.alertLost
  else { s with host := { s.host with alertQ := s.host.alertQ ++ [a] } }

/-- An alert of block `src` with an error code; `ev` is the offset of the block's event register. One less than 10 ms after
the last of its source is merged into the next. -/
def alert (src code ev : Nat) (s : State) : State :=
  let a : Alert := { src := src, code := code, time := s.now % 2 ^ 32, event := (s.word ev).toNat, merged := 0 }
  let last := Tab.get (fun _ => 0) s.host.alertLast src
  let old := s.host.alertHeld.find? (fun h => decide (h.src = src))
  if last ≠ 0 ∧ (s.now + 1 - last < 10 * ticksPerMs ∨ old.isSome) then
    let n := (old.map (fun h => h.merged)).getD 0
    let rest := s.host.alertHeld.filter (fun h => !(decide (h.src = src)))
    { s with host := { s.host with alertHeld := rest ++ [{ a with merged := min 65535 (n + 1) }] } }
  else
    queueAlert a { s with host := { s.host with alertLast := Tab.set (fun _ => 0) s.host.alertLast src (s.now + 1) } }

/-! Performance counters (R513 to R515). -/

/-- EVENT codes of Table 17-8; SP_BANK_WAIT, which the timing of a bank makes, is not counted (log entry 55). -/
def evHouseTicks : Nat := 0x01
def evLinkTx : Nat := 0x02
def evLinkRx : Nat := 0x03
def evLinkReplays : Nat := 0x04
def evLinkNull : Nat := 0x05
def evVcCells : Nat := 0x06
def evCreditStall : Nat := 0x07
def evCmark : Nat := 0x08
def evEsc : Nat := 0x09
def evTileBusy : Nat := 0x0A
def evTileRows : Nat := 0x0B
def evSpRead : Nat := 0x0C
def evEngChunks : Nat := 0x0E
def evEngRetract : Nat := 0x0F
def evSeqIssue : Nat := 0x10
def evSeqStall : Nat := 0x11
def evDdrReads : Nat := 0x12
def evDdrWrites : Nat := 0x13
def evDdrQueue : Nat := 0x14
def evWakeDark : Nat := 0x15
def evBusinessLoad : Nat := 0x16
def evPaced : Nat := 0x17

/-- Add to counter n, setting its PMC_OVF bit when it passes 2^48 − 1 (R514). -/
def pmcAdd (n k : Nat) (s : State) : State :=
  let v := s.fld (Reg.pmcCnt n) + k
  let s := s.setFld (Reg.pmcCnt n) v
  if 2 ^ 48 ≤ v then s.raise (Reg.pmcOvf n) else s

/-- Counters that select an event at a unit: the words of PMC_SEL that hold EVENT and UNIT. -/
def pmcSelecting (s : State) (ev unit : Nat) : List Nat :=
  (s.regs.filter (fun e => decide (0x301000 ≤ e.1 ∧ e.1 < 0x303000 ∧ e.1 % 8 = 0) && decide (field e.2 0 16 = ev + 256 * unit))).map
    (fun e => (e.1 - 0x301000) / 8)

/-- An event occurs `k` times at a unit (R513, R515). DESIGN CHOICE, log entry 55. -/
def pmcEvent (ev unit k : Nat) (s : State) : State :=
  if s.flag Reg.pmcFreeze then s else forEach (fun n s => pmcAdd n k s) (pmcSelecting s ev unit) s

/-! Units that sleep (R42 to R52). -/

/-- Units by number. -/
def tileUnit (p : Nat) : UnitId := .tile ⟨p % 240, Nat.mod_lt _ (by decide)⟩
def engUnit (e : Nat) : UnitId := .eng ⟨e % 16, Nat.mod_lt _ (by decide)⟩
def seqUnit (q : Nat) : UnitId := .seq ⟨q % 64, Nat.mod_lt _ (by decide)⟩
def ddrUnit (c : Nat) : UnitId := .ddr ⟨c % 12, Nat.mod_lt _ (by decide)⟩
def spUnit (w : Nat) : UnitId := .scratch ⟨w % 4, Nat.mod_lt _ (by decide)⟩
def portUnit (l : Nat) : UnitId := .port ⟨l % 14, Nat.mod_lt _ (by decide)⟩

/-- The state register of a unit (R56); the scratchpad of a wing has none. -/
def unitField : UnitId → Option Field
  | .tile n => some (Reg.tileState n.val)
  | .seq n => some (Reg.seqState n.val)
  | .eng n => some (Reg.engState n.val)
  | .ddr n => some (Reg.ddrState n.val)
  | .scratch _ => none
  | .port l => some (Reg.portState l.val)

/-- The activity state of a unit: 0 Running, 1 Dozing, 2 Dark, 3 Off. -/
def unitState (s : State) (u : UnitId) : Nat :=
  match u, unitField u with
  | .scratch w, _ => Tab.get (fun _ => 0) s.spState w.val
  | _, some f => s.fld f
  | _, none => 0

def setUnit (u : UnitId) (st : Nat) (s : State) : State :=
  match u, unitField u with
  | .scratch w, _ => { s with spState := Tab.set (fun _ => 0) s.spState w.val st }
  | _, some f => s.setFld f st
  | _, none => s

/-- DIE field of PRM_PWR_STATE. -/
def dieOff : Nat := 0
def dieSeqUp : Nat := 1
def dieOn : Nat := 2
def dieGhost : Nat := 3
def dieSeqDown : Nat := 4
def dieTripped : Nat := 5
def dieState (s : State) : Nat := s.fld ⟨0x3000, 0, 3⟩
def ghostLight (s : State) : Bool := decide (dieState s = dieGhost)
/-- The die is powered: ON or GHOST. -/
def dieRuns (s : State) : Bool := decide (dieState s = dieOn ∨ dieState s = dieGhost)

/-- A sequencer in DOZE, which is Dozing until its own wake (Table 09-2, R303): a call does not wake it. -/
def inDoze (s : State) : UnitId → Bool
  | .seq q => decide (s.fld (Reg.seqSt q.val) = 3)
  | _ => false

/-- The scratchpad of a wing, which may be Dark only with every tile and sequencer of its wing Dark (Table 02-4): it runs again when one
of them leaves Dark. -/
def lightScratch (w : Fin 4) (s : State) : State :=
  if unitState s (.scratch w) = 2 then
    { setUnit (.scratch w) 0 s with waking := s.waking.filter (fun v => !(decide (v = .scratch w))) }
  else s

/-- A unit that ghost-light mode holds asleep (R52, R423). -/
def heldByGhost (s : State) : UnitId → Bool
  | .tile _ => ghostLight s
  | .eng _ => ghostLight s
  | .seq _ => ghostLight s
  | .ddr _ => ghostLight s
  | .scratch _ => false
  | .port _ => false

/-- Wake a sleeping unit (R49, R51, R52): it becomes Running when its wake completes. -/
def wakeUnit (u : UnitId) (s : State) : State :=
  if unitState s u = 0 ∨ unitState s u = 3 ∨ heldByGhost s u ∨ inDoze s u ∨ u ∈ s.waking then s
  else { s with waking := s.waking ++ [u] }

/-- A unit that is not asleep and not waking. -/
def unitRuns (s : State) (u : UnitId) : Bool := decide (unitState s u = 0)

/-- The wing of a link's port (Table 02-1). -/
def wingOfLink (l : Nat) : Nat :=
  if l ≤ 7 then l / 2 else if l = 8 then 0 else if l = 9 then 1 else if l = 10 ∨ l = 12 then 2 else 3

/-- The wing of a unit (R33). -/
def wingOfUnit : UnitId → Nat
  | .port l => wingOfLink l.val
  | .tile n => n.val / 60
  | .seq n => n.val / 16
  | .eng n => n.val / 4
  | .ddr n => n.val / 3
  | .scratch w => w.val

/-! The memory of the block. -/

/-- The canonical form of what the block holds by address: BAR0, the DRAM, the scratchpad and the cue store. -/
def Memory.wf (s : State) : Bool :=
  Tab.wf (resetWord s.code) s.regs && Tab.wf (fun _ => 0) s.mem.dram && Tab.wf (fun _ => 0) s.ten.sp && Tab.wf (fun _ => 0) s.cue.store

end Sys2Proof.Machine
end

