-- ==== Sys2Proof/Machine/Isa.lean ====
section
/-! DEFINITION. The cue instruction word (R295, R296, R299, Tables 10-1 to 10-13): its fields, the opcode map and the decode
check. A word is held as a natural number below 2^128. -/
namespace Sys2Proof.Machine.Isa

/-- Fields of the word. -/
def opc (w : Nat) : Nat := bitsOf w 120 8
def pred (w : Nat) : Nat := bitsOf w 117 3
def pneg (w : Nat) : Nat := bitsOf w 116 1
def fmt (w : Nat) : Nat := bitsOf w 112 4
/-- FMT 0 (Table 10-4). -/
def mode (w : Nat) : Nat := bitsOf w 108 4
def rd0 (w : Nat) : Nat := bitsOf w 103 5
def ra0 (w : Nat) : Nat := bitsOf w 98 5
def pd0 (w : Nat) : Nat := bitsOf w 95 3
def ctr0 (w : Nat) : Nat := bitsOf w 85 10
def imm (w : Nat) : Nat := bitsOf w 0 64
/-- FMT 1 (Table 10-6). -/
def rd1 (w : Nat) : Nat := bitsOf w 107 5
def ra1 (w : Nat) : Nat := bitsOf w 102 5
def rb1 (w : Nat) : Nat := bitsOf w 97 5
def immFlag1 (w : Nat) : Nat := bitsOf w 96 1
def dcls (w : Nat) : Nat := bitsOf w 94 2
def acls (w : Nat) : Nat := bitsOf w 92 2
def cond (w : Nat) : Nat := bitsOf w 88 4
def pd1 (w : Nat) : Nat := bitsOf w 107 3
/-- FMT 2 (Table 10-8). -/
def sel (w : Nat) : Nat := bitsOf w 108 4
def rd2 (w : Nat) : Nat := bitsOf w 103 5
def ra2 (w : Nat) : Nat := bitsOf w 98 5
def rb2 (w : Nat) : Nat := bitsOf w 93 5
def dd (w : Nat) : Nat := bitsOf w 89 4
def da (w : Nat) : Nat := bitsOf w 85 4
def pd2 (w : Nat) : Nat := bitsOf w 82 3
def immFlag2 (w : Nat) : Nat := bitsOf w 81 1
def wing (w : Nat) : Nat := bitsOf w 79 2
def ctr2 (w : Nat) : Nat := bitsOf w 69 10
/-- FMT 3 and 4 (Table 10-10). -/
def xmode (w : Nat) : Nat := bitsOf w 108 4
def greg (w : Nat) : Nat := bitsOf w 104 4
def xop (w : Nat) : Nat := bitsOf w 100 4
def epi (w : Nat) : Nat := bitsOf w 96 4
def ctr3 (w : Nat) : Nat := bitsOf w 86 10
def svc (w : Nat) : Nat := bitsOf w 85 1
def dst (w : Nat) : Nat := bitsOf w 81 4
def srcA (w : Nat) : Nat := bitsOf w 77 4
def srcB (w : Nat) : Nat := bitsOf w 73 4
def srcC (w : Nat) : Nat := bitsOf w 69 4
def cEn (w : Nat) : Nat := bitsOf w 68 1
def param (w : Nat) : Nat := bitsOf w 0 64
/-- The epilogue word (Table 10-15). -/
def epiRes (w : Nat) : Nat := bitsOf w 0 4
def epiGain (w : Nat) : Nat := bitsOf w 4 4
def epiEps (w : Nat) : Nat := bitsOf w 8 32
def epiXfmt (w : Nat) : Nat := bitsOf w 40 4

/-- Opcodes (Table 10-2). -/
def oMMA : Nat := 0x60
def oMMAS : Nat := 0x61
def oMMAG : Nat := 0x62
def oEWA : Nat := 0x63
def oEWF : Nat := 0x64
def oRED : Nat := 0x65
def oNORM : Nat := 0x66
def oSMAX : Nat := 0x67
def oTOPK : Nat := 0x68
def oGATE : Nat := 0x69
def oQNT : Nat := 0x6A
def oCVT : Nat := 0x6B
def oCOPY : Nat := 0x6C
def oGATHERI : Nat := 0x6D
def oSAMPLE : Nat := 0x6E
def oCURTAIN : Nat := 0xA0
def oASIDE : Nat := 0xA1

/-- XMODE codes (Table 10-12). -/
def xREDUCE : Nat := 1
def xSCATTER : Nat := 2
def xGATHER : Nat := 3
def xEXCHANGE : Nat := 4
def xROUTE : Nat := 5
def xMERGE : Nat := 6
def xBROADCAST : Nat := 7
def xSELECT : Nat := 8

/-- FMT agrees with the row of OPC (Table 10-2). -/
def fmtOk (w : Nat) : Bool :=
  let o := opc w
  if o ≤ 0x0A then decide (fmt w = 0)
  else if 0x20 ≤ o ∧ o ≤ 0x2A then decide (fmt w = 1)
  else if 0x40 ≤ o ∧ o ≤ 0x48 then decide (fmt w = 2)
  else if 0x60 ≤ o ∧ o ≤ 0x6E then decide (fmt w = 3 ∨ fmt w = 4)
  else if o = 0xA0 ∨ o = 0xA1 then decide (fmt w = 4)
  else false

/-- Bits [hi:lo] as a mask. -/
def span (hi lo : Nat) : Nat := (2 ^ (hi + 1 - lo) - 1) <<< lo

/-- Operand bits in use by a control instruction, or none where a field is refused (Tables 10-4, 10-5). -/
def usedControl (w : Nat) : Option Nat :=
  match opc w with
  | 0x01 => some (span 19 0)
  | 0x02 => some (span 94 85 + span 24 0 + span 26 26 + span 29 28)
  | 0x03 => some (span 19 0)
  | 0x05 =>
    if 2 < mode w then none
    else some (span 111 103 + (if mode w = 1 then span 102 98 else 0) + span 97 85 + span 31 0)
  | 0x06 => some (span 94 85)
  | 0x07 =>
    if mode w = 0 then some (span 111 108 + span 102 98)
    else if mode w = 1 then some (span 111 108 + span 102 98 + span 94 85)
    else if mode w ≤ 3 then some (span 111 108 + span 16 0)
    else none
  | 0x09 => some (span 3 0)
  | _ => some 0

/-- Operand bits in use by a scalar instruction (Tables 10-6, 10-7). -/
def usedScalar (w : Nat) : Option Nat :=
  let b := span 96 96 + (if immFlag1 w = 1 then span 63 0 else span 101 97)
  if opc w = 0x28 then
    if 1 < dcls w ∨ (dcls w = 1 ∧ 16 ≤ rd1 w) then none else some (span 111 96 + span 95 94 + span 63 0)
  else if opc w = 0x29 then
    if 1 < dcls w ∨ 1 < acls w ∨ (dcls w = 1 ∧ 16 ≤ rd1 w) ∨ (acls w = 1 ∧ 16 ≤ ra1 w) then none
    else some (span 111 102 + span 95 92)
  else if opc w = 0x2A then (if 5 < cond w then none else some (span 109 102 + span 91 88 + b))
  else some (span 111 102 + b)

/-- Width of a descriptor field selector, 0 where refused (Table 10-9). -/
def selWidth (x : Nat) : Nat :=
  match x with
  | 0 => 32 | 1 => 4 | 2 => 1 | 3 => 1 | 4 => 20 | 5 => 20 | 6 => 32 | 7 => 32 | 8 => 32 | 9 => 32 | 10 => 8 | 11 => 8
  | 15 => 1
  | _ => 0

/-- DADD accepts a selector. -/
def selAdd (x : Nat) : Bool := decide (x = 0) || decide (4 ≤ x ∧ x ≤ 11)

/-- Operand bits in use by a memory or descriptor instruction (Table 10-8). -/
def usedMemory (w : Nat) : Option Nat :=
  match opc w with
  | 0x40 => some (span 107 98 + span 63 0)
  | 0x41 => some (span 102 93 + span 63 0)
  | 0x42 => if selWidth (sel w) = 0 then none
    else some (span 111 108 + span 92 89 + span 81 81 + (if immFlag2 w = 1 then span 63 0 else span 97 93))
  | 0x43 => if selAdd (sel w) = false then none
    else some (span 111 108 + span 92 89 + span 81 81 + (if immFlag2 w = 1 then span 63 0 else span 97 93))
  | 0x44 =>
    if sel w = 0 then some (span 111 108 + span 92 85)
    else if sel w = 1 then some (span 111 108 + span 102 98 + span 92 89 + span 63 0)
    else if sel w = 2 then some (span 111 108 + span 102 98 + span 88 85 + span 63 0)
    else none
  | 0x45 => some (span 107 93 + span 78 69)
  | 0x46 => some (span 107 93 + span 78 69)
  | 0x47 => some (span 107 98 + span 84 82 + span 80 79)
  | _ => some (span 102 98)

/-- PARAM bits in use by a tensor instruction with EPI 0 (Table 10-11). -/
def usedParam (w : Nat) : Nat :=
  match opc w with
  | 0x62 => span 63 12 + span 10 0
  | 0x63 => span 3 0
  | 0x64 => span 3 0 + (if bitsOf w 0 4 = 5 then span 63 32 else 0)
  | 0x65 => span 2 0
  | 0x66 => span 31 0
  | 0x67 => span 31 0
  | 0x68 => span 63 32 + span 10 0
  | 0x69 => span 6 0
  | 0x6E => span 0 0
  | _ => 0

/-- Bits of the epilogue word in use under an EPI (Table 10-15). -/
def usedEpi (e : Nat) : Nat :=
  span 43 40 + (if e = 1 then span 3 0 else if e = 2 then span 39 4 else if e = 3 ∨ e = 6 then span 39 0 else 0)

/-- Table 10-13: OPC, XMODE, XOP and EPI form an allowed crossing; EPI other than 0 requires XOP SUM (R323). -/
def crossingOk (w : Nat) : Bool :=
  let o := opc w
  let x := xmode w
  let mma := decide (o = oMMA ∨ o = oMMAS ∨ o = oCOPY)
  let plain := decide (xop w = 0) && decide (epi w = 0)
  if mma && decide (x = xREDUCE) then decide (xop w ≤ 5) && decide (epi w ≤ 7) && decide (epi w = 0 ∨ xop w = 0)
  else if mma && decide (x = xSCATTER) then decide (xop w ≤ 5) && decide (epi w = 0)
  else if mma && decide (x = xGATHER ∨ x = xEXCHANGE ∨ x = xBROADCAST) then plain
  else if o = oCOPY ∧ (x = xROUTE ∨ x = xMERGE) then plain
  else if o = oMMAG ∧ x = xMERGE then plain
  else if (o = oCVT ∨ o = oQNT) ∧ (x = xGATHER ∨ x = xBROADCAST ∨ x = xROUTE) then plain
  else if (o = oEWA ∨ o = oEWF ∨ o = oNORM ∨ o = oSMAX) ∧ (x = xGATHER ∨ x = xBROADCAST) then plain
  else if o = oRED ∧ x = xREDUCE then decide (xop w ≤ 2) && decide (epi w = 0)
  else if o = oTOPK ∧ x = xSELECT then plain
  else if o = oSAMPLE ∧ x = xBROADCAST then plain
  else false

/-- C_EN as R316 requires. -/
def cEnOk (w : Nat) : Bool :=
  let o := opc w
  if o = oMMAG ∨ o = oTOPK then decide (cEn w = 1)
  else if o = oMMA ∨ o = oMMAS ∨ o = oSAMPLE then true
  else if o = oEWA then decide (cEn w = if bitsOf w 0 4 = 5 then 1 else 0)
  else if o = oCOPY ∨ o = oCVT ∨ o = oQNT then decide (cEn w = if fmt w = 4 ∧ xmode w = xROUTE then 1 else 0)
  else decide (cEn w = 0)

/-- The instruction uses SRCB. -/
def usesB (w : Nat) : Bool :=
  let o := opc w
  decide (o = oMMA ∨ o = oMMAS ∨ o = oMMAG ∨ o = oEWA ∨ o = oNORM ∨ o = oGATHERI ∨ o = oSAMPLE) ||
  (decide (o = oGATE) && decide (bitsOf w 6 1 = 1))

/-- Operand bits in use by a tensor or crossing instruction, or none where the combination is refused. -/
def usedTensor (w : Nat) : Option Nat :=
  let x := span 111 104 + span 95 86
  if opc w = oCURTAIN then
    (if xmode w = 9 ∧ xop w = 0 ∧ epi w = 0 then some x else none)
  else if opc w = oASIDE then
    (if xmode w = 10 ∧ xop w ≤ 6 ∧ epi w = 0 then some (x + span 103 100 + span 84 77) else none)
  else if fmt w = 4 ∧ crossingOk w = false then none
  else if cEnOk w = false then none
  else
    some (span 84 77 + (if usesB w then span 76 73 else 0) + span 68 68 + (if cEn w = 1 then span 72 69 else 0) +
      (if fmt w = 4 then x + span 103 96 + span 85 85 else 0) +
      (if fmt w = 4 ∧ epi w ≠ 0 then usedEpi (epi w) else usedParam w))

/-- Operand bits in use by the word's instruction. -/
def used (w : Nat) : Option Nat :=
  if opc w ≤ 0x0A then usedControl w
  else if opc w ≤ 0x2A then usedScalar w
  else if opc w ≤ 0x48 then usedMemory w
  else usedTensor w

/-- The word passes the decode of R296. DEDUCED, log entry 41. -/
def legal (w : Nat) : Bool :=
  fmtOk w && (match used w with
  | none => false
  | some m => decide (w % 2 ^ 112 &&& m = w % 2 ^ 112))

end Sys2Proof.Machine.Isa
end

