-- ==== Sys2Proof/Machine/Errors.lean ====
section
/-! DEFINITION. The error codes of Table 10-3. -/
namespace Sys2Proof.Machine.Err

def e2eTimeout : Nat := 0x101
def targetGone : Nat := 0x102
def agedOut : Nat := 0x103
def lenOver : Nat := 0x104
def lenShort : Nat := 0x105
def colTimeout : Nat := 0x201
def colMismatch : Nat := 0x202
def colMemberLost : Nat := 0x203
def colResidue : Nat := 0x204
def memUncorr : Nat := 0x301
def memRange : Nat := 0x302
def mirrorLost : Nat := 0x303
def illegalOp : Nat := 0x401
def descFault : Nat := 0x402
def loadSpace : Nat := 0x403
def admitFail : Nat := 0x404
def stale : Nat := 0x405
def pcFault : Nat := 0x406
def stackFault : Nat := 0x407
def trap (n : Nat) : Nat := 0x4F0 + n
def ghostLight : Nat := 0x501
def iron : Nat := 0x502
def held : Nat := 0x503
def sensorLost : Nat := 0x504
def authFail : Nat := 0x601
def replay : Nat := 0x602

end Sys2Proof.Machine.Err
end

