-- ==== Sys2Proof/Machine/Frames.lean ====
section
/-! DEFINITION. Frames: the header of Table 04-1, its CRC (R102), the types of Table 04-2, cells (R106), and coordinates (R16,
R17). -/
namespace Sys2Proof.Machine

/-! Header fields. -/

/-- Bits [lo + w - 1 : lo] of the header. -/
def Frame.bits (f : Frame) (lo w : Nat) : Nat := bitsOf f.hdr.toNat lo w

/-- The frame with bits [lo + w - 1 : lo] of its header replaced. -/
def Frame.putBits (f : Frame) (lo w x : Nat) : Frame :=
  { f with hdr := BitVec.ofNat 256 (Machine.putBits f.hdr.toNat lo w x) }

def Frame.ver (f : Frame) : Nat := Frame.bits f 0 4
def Frame.type (f : Frame) : Nat := Frame.bits f 4 4
def Frame.cls (f : Frame) : Nat := Frame.bits f 8 2
def Frame.svc (f : Frame) : Nat := Frame.bits f 10 1
def Frame.epoch (f : Frame) : Nat := Frame.bits f 11 1
def Frame.fence (f : Frame) : Nat := Frame.bits f 12 1
def Frame.mc (f : Frame) : Nat := Frame.bits f 14 1
def Frame.len (f : Frame) : Nat := Frame.bits f 15 9
def Frame.destPort (f : Frame) : Nat := Frame.bits f 24 4
def Frame.dest (f : Frame) : Nat := Frame.bits f 28 12
def Frame.srcPort (f : Frame) : Nat := Frame.bits f 40 4
def Frame.src (f : Frame) : Nat := Frame.bits f 44 12
def Frame.age (f : Frame) : Nat := Frame.bits f 56 12
def Frame.tag (f : Frame) : Nat := Frame.bits f 68 20
def Frame.seq (f : Frame) : Nat := Frame.bits f 88 24
def Frame.group (f : Frame) : Nat := Frame.bits f 112 12
def Frame.circuit (f : Frame) : Nat := Frame.bits f 124 12
def Frame.addr (f : Frame) : Nat := Frame.bits f 136 48
def Frame.op (f : Frame) : Nat := Frame.bits f 184 8
def Frame.hcrc (f : Frame) : Nat := Frame.bits f 240 16

/-- Frame types (Table 04-2). -/
def tyReqRd : Nat := 0
def tyReqWr : Nat := 1
def tyReqAtom : Nat := 2
def tyRspData : Nat := 3
def tyRspAck : Nat := 4
def tyRspErr : Nat := 5
def tyColContrib : Nat := 6
def tyColResult : Nat := 7
def tyColCtrl : Nat := 8
def tyAside : Nat := 9
def tyMgmt : Nat := 10
def tyCirData : Nat := 11

/-- A request in the sense of R20: REQ_RD, REQ_WR or REQ_ATOM. -/
def Frame.isRequest (f : Frame) : Bool := decide (Frame.type f ≤ 2)

/-- The CLASS of a TYPE (Table 04-2). -/
def typeClass (ty : Nat) : Nat :=
  if ty ≤ 2 then 0 else if ty ≤ 5 then 1 else if ty ≤ 8 then 2 else if ty = 9 then 0 else if ty = 10 then 3 else 0

/-- The smallest and the largest LEN of a TYPE (Table 04-2). -/
def typeLen (ty : Nat) : Nat × Nat :=
  match ty with
  | 0 => (0, 0)
  | 1 => (0, 256)
  | 2 => (1, 4)
  | 3 => (1, 256)
  | 4 => (0, 0)
  | 5 => (0, 0)
  | 6 => (1, 256)
  | 7 => (0, 256)
  | 8 => (0, 16)
  | 9 => (0, 4)
  | 10 => (0, 256)
  | _ => (0, 256)

/-- CLASS, SVC and MC agree with the row of the TYPE (R105). -/
def Frame.consistent (f : Frame) : Bool :=
  let ty := Frame.type f
  let svc := Frame.svc f
  let mc := Frame.mc f
  decide (Frame.cls f = typeClass ty) &&
  (match ty with
   | 6 => decide (mc = 0)
   | 7 => decide (¬ (mc = 1 ∧ svc = 1))
   | 8 => decide (svc = 0)
   | 9 => decide (svc = 0)
   | 10 => decide (svc = 0)
   | 11 => decide (svc = 1 ∧ mc = 0)
   | _ => decide (svc = 0 ∧ mc = 0))

/-! Header CRC. -/

/-- One bit of a left-shifting CRC of width `w`. -/
def crcBit (w poly : Nat) (bit : Bool) (c : Nat) : Nat :=
  let top := (c.testBit (w - 1)) != bit
  let sh := (c <<< 1) % 2 ^ w
  if top then sh ^^^ poly else sh

/-- One byte, most significant bit first. -/
def crcByte (w poly : Nat) (b : Byte) (c : Nat) : Nat :=
  [7, 6, 5, 4, 3, 2, 1, 0].foldl (fun a i => crcBit w poly (b.toNat.testBit i) a) c

/-- A non-reflected CRC over bytes in order. -/
def crcBytes (w poly init : Nat) (bs : List Byte) : Nat := bs.foldl (fun c b => crcByte w poly b c) init

/-- HCRC (R102): bytes 0 to 29 with EPOCH, CMARK and AGE taken as 0. -/
def headerCrc (f : Frame) : Nat :=
  let g := Frame.putBits (Frame.putBits (Frame.putBits f 11 1 0) 13 1 0) 56 12 0
  crcBytes 16 0x1021 0xFFFF (leBytes 30 g.hdr.toNat)

/-- Recompute HCRC. -/
def Frame.seal (f : Frame) : Frame := Frame.putBits f 240 16 (headerCrc f)

/-- Stamp a frame at its entry to the fabric (R104). -/
def Frame.stamp (f : Frame) (act : Nat) : Frame :=
  Frame.putBits (Frame.putBits (Frame.putBits f 11 1 act) 13 1 0) 56 12 0

/-! Cells. -/

/-- Cells of a frame of LEN units (R106). -/
def cellsOfLen (len : Nat) : Nat := (len + 17) / 16

/-- The bytes of a frame: header bytes 0 to 31, then the payload. -/
def Frame.bytes (f : Frame) : List Byte := leBytes 32 f.hdr.toNat ++ f.payload

/-- The frame that bytes hold: the payload is LEN × 16 bytes, the rest is padding (R106). -/
def Frame.ofBytes (bs : List Byte) : Frame :=
  let h : BitVec 256 := BitVec.ofNat 256 (leNat (bs.take 32))
  let f : Frame := { hdr := h, payload := [] }
  { hdr := h, payload := padTo (Frame.len f * 16) (bs.drop 32) }

/-- Cell k of a frame, 256 bytes, padded with 0. -/
def Frame.cell (f : Frame) (k : Nat) : List Byte := padTo 256 ((Frame.bytes f).drop (256 * k))

/-- Build a header from its fields; VER is 1 and HCRC is computed. -/
def mkFrame (ty dest dport src sport tag seq group addr op : Nat) (payload : List Byte) : Frame :=
  let h := 1 + ty * 2 ^ 4 + typeClass ty * 2 ^ 8 + ((payload.length + 15) / 16) * 2 ^ 15 + dport * 2 ^ 24 + dest * 2 ^ 28
    + sport * 2 ^ 40 + src * 2 ^ 44 + (tag % 2 ^ 20) * 2 ^ 68 + (seq % 2 ^ 24) * 2 ^ 88 + (group % 2 ^ 12) * 2 ^ 112
    + (addr % 2 ^ 48) * 2 ^ 136 + (op % 2 ^ 8) * 2 ^ 184
  Frame.seal { hdr := BitVec.ofNat 256 h, payload := padTo (((payload.length + 15) / 16) * 16) payload }

/-! Coordinates. -/

/-- Axis a (0 X, 1 Y, 2 Z) of a 12-bit chip identifier (R17). -/
def coordOf (chip a : Nat) : Nat := bitsOf chip (8 - 4 * a) 4

/-- The chip identifier of a coordinate (R17). -/
def chipOf (x y z : Nat) : Nat := x * 256 + y * 16 + z

/-- Ring size of an axis, as INV_COORD holds it (Table 15-8); 0 before assignment is taken as 1. -/
def ringSize (s : State) (a : Nat) : Nat :=
  let n := s.fld (Reg.ringN a)
  if n = 0 then 1 else n

/-- This chip's identifier (R17, Table 15-8). -/
def myChip (s : State) : Nat := chipOf (s.fld (Reg.coordN 0)) (s.fld (Reg.coordN 1)) (s.fld (Reg.coordN 2))

/-- R16: a chip identifier is a valid coordinate of the configured torus. -/
def validChip (s : State) (chip : Nat) : Bool :=
  decide (coordOf chip 0 < ringSize s 0) && decide (coordOf chip 1 < ringSize s 1) && decide (coordOf chip 2 < ringSize s 2)

end Sys2Proof.Machine
end

