-- ==== Sys2Proof/Machine/Routing.lean ====
section
/-! DEFINITION. Where a frame goes: the steps of R129, the route table (R131 to R138), multicast (R123, R139), the reorder
buffer (R141), the mirror map (R160), circuits' legs (R164, R165), and the frames that the chip's own units send. -/
namespace Sys2Proof.Machine

/-! Links and the switch core as records. -/

def State.link (s : State) (l : Nat) : Link := Tab.get (fun _ => Link.init) s.links l
def State.setLink (s : State) (l : Nat) (k : Link) : State :=
  { s with links := Tab.set (fun _ => Link.init) s.links l k }
def State.modLink (s : State) (l : Nat) (f : Link → Link) : State := s.setLink l (f (s.link l))
def State.modSwc (s : State) (f : Swc → Swc) : State := { s with swc := f s.swc }

/-- STATE codes of Table 03-5. -/
def stDisabled : Nat := 0
def stDown : Nat := 1
def stCartCheck : Nat := 2
def stDetect : Nat := 3
def stEq : Nat := 4
def stAlign : Nat := 5
def stConfig : Nat := 6
def stUp : Nat := 7
def stRetrain : Nat := 8
def stMiscabled : Nat := 9
def stTest : Nat := 10

def linkUp (s : State) (l : Nat) : Bool := decide (s.fld (Reg.lnkState l) = stUp)

/-- Links 8 to 13 are the torus ports (Table 03-1). -/
def isTorus (l : Nat) : Bool := decide (8 ≤ l ∧ l ≤ 13)

/-- The axis of a torus link. -/
def axisOf (l : Nat) : Nat := (l - 8) / 2

/-- Act states of Table 05-2. -/
def actSpare : Nat := 0
def actSealed : Nat := 1
def actActive : Nat := 2
def actDraining : Nat := 3


/-! Storage and credits. -/

/-- Return `n` credits of (link, VC) to the far transmitter: the cumulative total of R75 rises and is due for report. -/
def returnCredit (l vc n : Nat) (s : State) : State :=
  if n = 0 ∨ 14 ≤ l then s
  else s.modLink l (fun k =>
    { k with crTotal := Tab.set (fun _ => 0) k.crTotal vc ((Tab.get (fun _ => 0) k.crTotal vc + n) % 65536),
             crDirty := if vc ∈ k.crDirty then k.crDirty else k.crDirty ++ [vc] })

/-- The stored frames of a wing, each stored frame once: one entry of each set of multicast copies. -/
def storedOnce : List Nat → List QFrame → List QFrame
  | _, [] => []
  | seen, q :: t => if q.stor ∈ seen then storedOnce seen t else q :: storedOnce (q.stor :: seen) t

/-- Frames that hold cells of the switch buffer: queued, FENCE-held, and waiting for the pool. -/
def inBuffer (s : State) : List QFrame := s.swc.queue ++ s.swc.fenced ++ s.swc.poolWait

/-- Every stored frame of the switch core, copies counted once. -/
def storedFrames (s : State) : List QFrame := storedOnce [] (inBuffer s)

/-- Cells of a list that lie in the shared part, and in the reserve. -/
def sharedOf (kept : List Bool) : Nat := (kept.filter (fun b => !b)).length
def reserveOf (kept : List Bool) : Nat := (kept.filter (fun b => b)).length

/-- Cells of links still being received, as (link, VC, where they lie). -/
def receiving (s : State) : List (Nat × Nat × List Bool) :=
  (List.range 14).flatMap (fun l =>
    ((s.link l).asm.map (fun a => (l, a.1, a.2.kept))) ++ ((s.link l).frames.map (fun r => (l, r.vc, r.kept))))

/-- Shared cells in use in a wing (SWC_OCC_Ww), of one class or of all. -/
def sharedInUse (s : State) (w : Nat) (cls : Option Nat) : Nat :=
  ((storedFrames s).filter (fun q => decide (q.wing = w) && (cls.all (fun c => decide (Frame.cls q.frame = c))))).foldl
      (fun n q => n + sharedOf q.kept) 0 +
  ((receiving s).filter (fun r => decide (wingOfLink r.1 = w) && (cls.all (fun c => decide (r.2.1 / 3 = c))))).foldl
      (fun n r => n + sharedOf r.2.2) 0

/-- Cells in the reserve of (link, VC) (SWCn_CREDIT_v[31:16]). -/
def reserveInUse (s : State) (l v : Nat) : Nat :=
  ((storedFrames s).filter (fun q => decide (q.ing = l) && decide (q.ingVc = v))).foldl (fun n q => n + reserveOf q.kept) 0 +
  ((receiving s).filter (fun r => decide (r.1 = l) && decide (r.2.1 = v))).foldl (fun n r => n + reserveOf r.2.2) 0

/-- Entry word j of the active entry of circuit c, and its fields (Table 06-6). -/
def cirWord (s : State) (c j : Nat) : Word := s.word (Reg.cirActive c j)
def cirValid (s : State) (c : Nat) : Bool := decide (field (cirWord s c 0) 0 1 = 1)
def cirRole (s : State) (c : Nat) : Nat := field (cirWord s c 0) 2 2
def cirState (s : State) (c : Nat) : Nat := field (cirWord s c 0) 4 2
def cirInP (s : State) (c : Nat) : Nat := field (cirWord s c 0) 6 4
def cirOutP (s : State) (c : Nat) : Nat := field (cirWord s c 0) 10 4
def cirInU (s : State) (c : Nat) : Nat := field (cirWord s c 0) 14 4
def cirOutU (s : State) (c : Nat) : Nat := field (cirWord s c 0) 18 4
def cirRate (s : State) (c : Nat) : Nat := field (cirWord s c 0) 22 13
def cirDepth (s : State) (c : Nat) : Nat := field (cirWord s c 0) 35 12
def cirFrameMax (s : State) (c : Nat) : Nat := field (cirWord s c 0) 47 5
def cirBufP (s : State) (c : Nat) : Nat := field (cirWord s c 1) 0 16
def cirBufU (s : State) (c : Nat) : Nat := field (cirWord s c 1) 16 16
def cirReplayUs (s : State) (c : Nat) : Nat := field (cirWord s c 2) 48 16
def cirLastSeq (s : State) (c : Nat) : Nat := field (cirWord s c 3) 0 24
def cirAdmitMax (s : State) (c : Nat) : Nat := field (cirWord s c 3) 24 24

/-- The circuits that the active bank installs. -/
def activeCircuits (s : State) : List Nat :=
  s.regs.filterMap (fun e =>
    if 0x8A0020 ≤ e.1 ∧ e.1 < 0x8C0000 ∧ (e.1 - 0x8A0000) % 0x20 = 0 ∧ field e.2 0 1 = 1 then some ((e.1 - 0x8A0000) / 0x20) else none)

/-- VC 12 allocation of a link: the reserves of the committed circuits that enter on it (R113). -/
def circuitAlloc (s : State) (l : Nat) : Nat :=
  (activeCircuits s).foldl (fun n c =>
    n + (if cirInP s c = l then cirBufP s c else 0) + (if cirInU s c = l then cirBufU s c else 0)) 0

/-- The allocation of each VC of a link (R113). -/
def vcAlloc (s : State) (l v : Nat) : Nat :=
  if v = 13 then 32
  else if v = 12 then circuitAlloc s l
  else if v % 3 = 0 then s.fld Reg.allocAdaptive
  else s.fld Reg.allocEscape

/-- Cells that the internal legs of a circuit reserve (R169). -/
def internalBuf (s : State) (c : Nat) : Nat :=
  (if cirInP s c = 15 then cirBufP s c else 0) + (if cirInU s c = 15 then cirBufU s c else 0)

/-- Groups whose entries are in force. -/
def validGroups (s : State) : List Nat :=
  s.regs.filterMap (fun e =>
    if 0x1080000 ≤ e.1 ∧ e.1 < 0x10A0000 ∧ (e.1 - 0x1080000) % 0x20 = 0 ∧ field e.2 0 1 = 1 then some ((e.1 - 0x1080000) / 0x20) else none)

/-- How many circuits a group's cues take: its edge members, then one successor or every ring peer on each axis (R340). -/
def circuitsOf (s : State) (g : Nat) : Nat :=
  let w := s.word (Reg.grpWord g 0)
  ((List.range 8).filter (fun p => (field w 7 8).testBit p)).length +
  ([0, 1, 2].map (fun a => let n := field w (20 + 9 * a) 5
    if n ≤ 1 then 0 else if field w 1 2 = 0 then 1 else n - 1)).foldl (· + ·) 0

/-- The circuits of a group start at CIR_BASE. -/
def takesCircuit (s : State) (g c : Nat) : Bool :=
  let b := field (s.word (Reg.grpWord g 1)) 48 12
  decide (b ≠ 0 ∧ b ≤ c ∧ c < b + circuitsOf s g)

/-- The wing of the unit that injects a circuit's frames (R169): that of the engine of the group that takes the circuit, W0 when no group
does (log entry 9). -/
def injectWing (s : State) (c : Nat) : Nat :=
  (((validGroups s).find? (fun g => takesCircuit s g c)).map (fun g => field (s.word (Reg.grpWord g 0)) 3 4 / 4)).getD 0

/-- Reserves of the circuits with an internal ingress in a wing (R169). -/
def internalReserves (s : State) (w : Nat) : Nat :=
  (activeCircuits s).foldl (fun n c => n + (if internalBuf s c ≠ 0 ∧ injectWing s c = w then internalBuf s c else 0)) 0

/-- Links of a wing. -/
def linksOfWing (w : Nat) : List Nat := (List.range 14).filter (fun l => decide (wingOfLink l = w))

/-- Cells of the shared part of a wing: its 131,072 cells less the reserves of its links' VCs 0 to 12 and of circuits that enter inside the
chip (R115, R169). DEDUCED, log entry 30. -/
def sharedPart (s : State) (w : Nat) : Nat :=
  131072 - internalReserves s w - ((linksOfWing w).foldl (fun n l => n + (((List.range 13).map (fun v => ((s.link l).alloc[v]?).getD 0)).foldl (· + ·) 0)) 0)

/-- R115: whether an arriving cell of (link, VC) goes to the shared part of its wing; VC 12 and 13 use their own reserves. DESIGN CHOICE,
log entry 29: a class's share is SWC_CLASS_CAP percent of the shared part, rounded down to whole cells. -/
def roomInShared (s : State) (l vc : Nat) : Bool :=
  let w := wingOfLink l
  decide (vc < 12) && decide (sharedInUse s w none < sharedPart s w) &&
  decide (sharedInUse s w (some (vc / 3)) < s.fld (Reg.classCap (vc / 3)) * sharedPart s w / 100)

/-- SWC_EVENT.SHARED_FULL the first time that a wing's shared part fills (R116). DEDUCED, log entry 164. -/
def noteSharedFull (w : Nat) (s : State) : State :=
  if w ∉ s.swc.filled ∧ sharedPart s w ≤ sharedInUse s w none then
    (s.modSwc (fun k => { k with filled := k.filled ++ [w] })).raise Reg.sharedFull
  else s

/-- Take `n` cells from the loads of a circuit, the oldest first. -/
def takeLoads (c : Nat) : Nat → List CirLoad → List CirLoad
  | _, [] => []
  | n, x :: t =>
    if x.cir ≠ c then x :: takeLoads c n t
    else if n < x.cells then { x with cells := x.cells - n } :: t
    else takeLoads c (n - x.cells) t

/-- Cells of a circuit have left the head, or will not leave it (R182). -/
def leavePending (c n : Nat) (s : State) : State := s.modSwc (fun w => { w with cirPending := takeLoads c n w.cirPending })

/-- A circuit frame of the chip's own units. -/
def ownCircuit (q : QFrame) : Bool := decide (q.ing = 15) && decide (Frame.svc q.frame = 1)

/-- A stored frame gives its cells up when no other copy of it is left (R124): the reserve's credits return (R115), and the cells of an
admitted cue's frame that will not leave are no longer pending (R182). -/
def releaseStored (q : QFrame) (s : State) : State :=
  if (inBuffer s).any (fun o => decide (o.stor = q.stor)) then s
  else
    let s := if ownCircuit q then leavePending (Frame.circuit q.frame) (cellsOfLen (Frame.len q.frame) - q.sent) s else s
    returnCredit q.ing q.ingVc (reserveOf q.kept) s

/-! Discards. -/

/-- Record a discard in SWC_DROP_LOG (R128): ingress link, REASON, the frame's GROUP. -/
def dropLog (ing reason group : Nat) (s : State) : State :=
  (((s.setFld Reg.dropLink ing).setFld Reg.dropReason reason).setFld Reg.dropGroup group).setFld Reg.dropTime s.now

/-- Count a discarded frame and log it. -/
def discard (f : Field) (reason ing : Nat) (fr : Frame) (s : State) : State :=
  dropLog ing reason (Frame.group fr) (s.count f)

/-! Time. -/

/-- AGE of a frame in the chip (R119, R120): its AGE field plus its residence and half the RTT of its ingress link, in whole
256 ns units, at least one. -/
def ageNow (s : State) (fr : Frame) (ing arr : Nat) : Nat :=
  let rtt := if ing < 14 then s.fld (Reg.lnkRtt ing) else 0
  min 0xFFF (Frame.age fr + max 1 (ceilDiv ((s.now - arr) * 80 + rtt) 512))

/-- R120 before the first cell leaves: the age that the frame would leave with. R120 does not say whether the time waited so far includes
half the RTT and the 1-unit minimum of R119; DESIGN CHOICE, log entry 165: here it does, and at arrival it does not. -/
def tooOld (s : State) (fr : Frame) (ing arr : Nat) : Bool := decide (s.fld Reg.ageLimit < ageNow s fr ing arr)

/-- AGE of a frame with the time that it has waited at ingress (R120, R205). -/
def waitedAge (s : State) (fr : Frame) (arr : Nat) : Nat := min 0xFFF (Frame.age fr + ceilDiv ((s.now - arr) * 40) 256)

/-! Queues. -/

/-- Cells of a frame. -/
def Frame.cells (f : Frame) : Nat := cellsOfLen (Frame.len f)

/-- Cells of a class queued for a port (R122, R133). -/
def queuedCells (s : State) (port cls : Nat) : Nat :=
  (s.swc.queue.filter (fun q => decide (q.port = port) && decide (Frame.cls q.frame = cls) && decide (q.vc < 12))).foldl
    (fun n q => n + (Frame.cells q.frame - q.sent)) 0

/-- Put a frame at the end of its egress queue, with the congestion mark of R122. -/
def enqueue (q : QFrame) (s : State) : State :=
  let thr := s.fld Reg.cmarkThresh
  let marked := decide (q.vc < 12 ∧ thr ≠ 0 ∧ thr < queuedCells s q.port (Frame.cls q.frame))
  let q := if marked then { q with frame := Frame.putBits q.frame 13 1 1 } else q
  let s := noteSharedFull q.wing (s.modSwc (fun w => { w with queue := w.queue ++ [q] }))
  if marked then pmcEvent evCmark q.port 1 (s.count Reg.cmarkSet) else s

/-- A link is as one whose port grace has expired (R125, R126). -/
def graceExpired (s : State) (l : Nat) : Bool := !(linkUp s l) && decide ((s.link l).grace = .expired)

/-! Directions. -/

/-- Offset of a destination along an axis (R132). -/
def offsetOn (s : State) (dest a : Nat) : Nat :=
  let n := ringSize s a
  (coordOf dest a + n - coordOf (myChip s) a) % n

/-- The productive ports of one axis under a route entry (R132), the plus port first. -/
def productiveOn (s : State) (dest a entry : Nat) : List Nat :=
  let off := offsetOn s dest a
  let n := ringSize s a
  let dir := bitsOf entry (2 * a) 2
  if off = 0 then []
  else if dir = 1 then [8 + 2 * a]
  else if dir = 2 then [9 + 2 * a]
  else if off < n - off then [8 + 2 * a]
  else if n - off < off then [9 + 2 * a]
  else [8 + 2 * a, 9 + 2 * a]

/-- All productive ports in the tie order X+, X−, Y+, Y−, Z+, Z−. -/
def productive (s : State) (dest entry : Nat) : List Nat :=
  productiveOn s dest 0 entry ++ productiveOn s dest 1 entry ++ productiveOn s dest 2 entry

/-- The escape port: the first productive port (R132). -/
def escapePort (s : State) (dest entry : Nat) : Nat := ((productive s dest entry)[0]?).getD 8

/-- The hop on a torus port crosses the dateline of its ring (R135). -/
def crossesDateline (s : State) (port : Nat) : Bool :=
  let p := coordOf (myChip s) (axisOf port)
  if port % 2 = 0 then decide (p + 1 = ringSize s (axisOf port)) else decide (p = 0)

/-- The escape VC of a hop (R135): the phase carries over on the same axis. -/
def escapeVc (s : State) (cls port ing ingVc : Nat) : Nat :=
  let carried := isTorus ing && decide (axisOf ing = axisOf port) && decide (ingVc % 3 = 2) && decide (ingVc < 12)
  3 * cls + (if crossesDateline s port || carried then 2 else 1)

/-- Depth of a port for the adaptive choice (R133). -/
def portDepth (s : State) (port cls : Nat) : Nat :=
  let full := (((s.link port).farCfg.map (fun c => (c.credits[3 * cls]?).getD 0))).getD 0
  queuedCells s port cls + (full - s.fld (Reg.credit port (3 * cls)))

/-- The port of least depth, the first on a tie. -/
def leastDeep (s : State) (cls : Nat) : List Nat → Option Nat
  | [] => none
  | p :: t => match leastDeep s cls t with
    | none => some p
    | some q => if portDepth s q cls < portDepth s p cls then some q else some p

/-- The next port after `last` in the order of the links, round robin (R140). -/
def nextInTurn (last : Nat) (ports : List Nat) : Option Nat :=
  match ports.find? (fun p => decide (last < p)) with
  | some p => some p
  | none => ports[0]?

/-- Bind a frame to an adaptive port (R133, R136, R140): the port, and the spray pointer it advances. -/
def bindPort (s : State) (dest entry cls : Nat) : Nat × Option Nat :=
  let up := (productive s dest entry).filter (fun p => linkUp s p)
  if s.flag Reg.routeSpray then
    match nextInTurn (Tab.get (fun _ => 13) s.swc.spray cls) up with
    | some p => (p, some p)
    | none => (escapePort s dest entry, none)
  else
    match leastDeep s cls up with
    | some p => (p, none)
    | none => (escapePort s dest entry, none)

/-- The spray pointer of a class after a frame was bound in turn (R140). -/
def noteSpray (cls : Nat) (port : Option Nat) (s : State) : State :=
  match port with
  | some p => s.modSwc (fun w => { w with spray := Tab.set (fun _ => 13) w.spray cls p })
  | none => s

/-! Delivery. -/

/-- A response of `tag` and `seq` has passed back to the source at an edge port (R117, R205). -/
def retireEdgeReq (port tag seq : Nat) (s : State) : State :=
  let rest := s.swc.edgeOut.filter (fun e => !(decide (e.port = port) && decide (e.tag = tag) && decide (e.seq = seq)))
  s.modSwc (fun w => { w with edgeOut := rest })

/-- A whole frame and the cells that it holds. -/
def freshQ (s : State) (f : Frame) (ing ingVc wing : Nat) (kept : List Bool) (arr port vc : Nat) : QFrame :=
  { stor := s.swc.nextStor, frame := f, ing := ing, ingVc := ingVc, wing := wing, kept := kept,
    arr := arr, port := port, vc := vc, escOnly := false, esc := none, copy := false, sent := 0 }

/-- Where the cells of a frame of the chip's own units lie: in the shared part, a circuit frame's in its reserve (R169). -/
def ownKept (f : Frame) : List Bool := List.replicate (Frame.cells f) (decide (Frame.svc f = 1))

/-- Take the next storage name. -/
def bumpStor (s : State) : State := s.modSwc (fun w => { w with nextStor := w.nextStor + 1 })

/-- The answer RSP_ERR to a request (R121): its TAG and SEQ, the code in ADDR[11:0]. -/
def errFrame (s : State) (f : Frame) (code : Nat) : Frame :=
  mkFrame tyRspErr (Frame.src f) (Frame.srcPort f) (myChip s) 8 (Frame.tag f) (Frame.seq f) 0 code 0 []

/-- Queue a frame for an edge port, or handle it as Table 04-5 gives when the port's grace has expired. `ans` answers a
request. -/
def toEdge (ans : Frame → Nat → State → State) (q : QFrame) (s : State) : State :=
  if graceExpired s q.port then
    let s := releaseStored q (discard Reg.graceDrop 7 q.ing q.frame s)
    if Frame.isRequest q.frame then ans q.frame Err.targetGone s else s
  else enqueue q s

/-! Multicast (R123, R124, R139). -/

/-- The multicast entry of a frame's EPOCH and GROUP. -/
def mcEntryOf (s : State) (f : Frame) : Nat := s.fld (Reg.mcEntry (Frame.epoch f) (Frame.group f))

/-- One copy of a multicast frame for a port: on the escape VC of R139 toward another chip, at an edge port as log entry 166 says. -/
def copyTo (q : QFrame) (p : Nat) (s : State) : State :=
  if graceExpired s p then discard Reg.mcDrop 8 q.ing q.frame s
  else
    let vc := if isTorus p then escapeVc s (Frame.cls q.frame) p q.ing q.ingVc else 3 * Frame.cls q.frame
    enqueue { q with port := p, vc := vc, copy := true, escOnly := true } s

/-- The copies of a multicast frame on some of the ports; none goes back where the frame came from. -/
def copiesTo (ports : List Nat) (q : QFrame) (s : State) : State :=
  let e := mcEntryOf s q.frame
  forEach (copyTo q) (ports.filter (fun p => e.testBit p && decide (p ≠ q.ing))) s

/-- The copies that leave the network here: at edge ports and for the chip's own units. -/
def deliverCopies (q : QFrame) (s : State) : State :=
  let s := copiesTo (List.range 8) q s
  let s := if (mcEntryOf s q.frame).testBit 14 then
      s.modSwc (fun w => { w with inbox := w.inbox ++ [{ frame := q.frame, ing := q.ing, arr := q.arr }] })
    else s
  releaseStored q s

/-- The pool space (R196): ADDR[47:45] is 000b, 001b, 010b or 011b, that is ADDR[47] is 0. -/
def inPoolSpace (f : Frame) : Bool := decide (Frame.destPort f = 8) && decide (Frame.addr f < 2 ^ 47)

/-- A pool request among the frames delivered to the chip's units; one of ADDR[47:45] = 111b is answered with MEM_RANGE (R196,
Table 07-6). -/
def isPoolRequest (f : Frame) : Bool :=
  Frame.isRequest f && (inPoolSpace f || (decide (Frame.destPort f = 8) && decide (Frame.addr f / 2 ^ 45 = 7)))

/-- Pool requests in service at this chip (R206): those of the fabric and of its own units, writes that wait for their mirrors, and host
accesses that wait. -/
def poolCount (s : State) : Nat :=
  (s.swc.inbox.filter (fun h => isPoolRequest h.frame)).length + s.mem.holds.length + s.mem.hostWait.length

/-- 65,536 pool requests are in service (R206). -/
def poolFull (s : State) : Bool := decide (65536 ≤ poolCount s)

/-- A frame is taken by the chip's own units: its cells are freed. -/
def toUnits (q : QFrame) (s : State) : State :=
  returnCredit q.ing q.ingVc (reserveOf q.kept)
    (s.modSwc (fun w => { w with inbox := w.inbox ++ [{ frame := q.frame, ing := q.ing, arr := q.arr }] }))

/-- Pass a frame that has reached its destination chip on to the chip's own units; with 65,536 pool requests in service a further one
keeps its cells and waits (R206). -/
def takeIn (q : QFrame) (s : State) : State :=
  if isPoolRequest q.frame ∧ (poolFull s ∨ s.swc.poolWait ≠ []) then s.modSwc (fun w => { w with poolWait := w.poolWait ++ [q] })
  else toUnits q s

/-- The pool requests that waited at ingress come into service as others end (R206). -/
def admitPool (s : State) : State :=
  match s.swc.poolWait with
  | [] => s
  | q :: t => if poolFull s then s else toUnits q (s.modSwc (fun w => { w with poolWait := t }))

/-- Pass a frame that has reached its destination chip on to its edge port or to the chip's own units. R111 leaves open which VC of its
class a frame takes at an edge port; DESIGN CHOICE, log entry 166: the adaptive one. -/
def passOn (ans : Frame → Nat → State → State) (q : QFrame) (s : State) : State :=
  let f := q.frame
  if Frame.mc f = 1 then deliverCopies q s
  else if Frame.destPort f = 8 then takeIn q s
  else toEdge ans { q with port := Frame.destPort f, vc := if Frame.svc f = 1 then 12 else 3 * Frame.cls f } s

/-! The reorder buffer (R141). -/

def streamOf (f : Frame) (t : Stream) : Bool :=
  decide (t.chip = Frame.src f) && decide (t.port = Frame.srcPort f) && decide (t.cls = Frame.cls f)

/-- The SEQ after `x`, modulo 2^24 (R141). -/
def nextSeq (x : Nat) : Nat := (x + 1) % 2 ^ 24

/-- SEQ `x` is ahead of `last` (R141, R157): 1 to 2^23 − 1 beyond it, modulo 2^24. -/
def seqAhead (last x : Nat) : Bool :=
  let d := (x + 2 ^ 24 - last) % 2 ^ 24
  decide (1 ≤ d ∧ d ≤ 2 ^ 23 - 1)

/-- Frame bytes in the reorder buffer. The spec does not say how many a held frame takes; DESIGN CHOICE, log entry 167: its 32 header bytes
and its payload, without cell padding. -/
def heldBytes (s : State) : Nat :=
  s.swc.streams.foldl (fun n t => t.held.foldl (fun m h => m + 32 + h.frame.payload.length) n) 0

/-- Pass held frames on, oldest SEQ first, while the next SEQ is held; the fuel is the number held. -/
def drainStream : Nat → Stream → List InFrame × Stream
  | 0, t => ([], t)
  | n + 1, t =>
    let next := nextSeq t.last
    let due := t.held.filter (fun h => decide (Frame.seq h.frame = next))
    if due.isEmpty then ([], t)
    else
      let r := drainStream n { t with last := next, held := t.held.filter (fun h => !(decide (Frame.seq h.frame = next))) }
      (due ++ r.1, r.2)

/-- Replace a stream. -/
def putStream (t : Stream) (s : State) : State :=
  let ts := s.swc.streams.map (fun u => if u.chip = t.chip ∧ u.port = t.port ∧ u.cls = t.cls then t else u)
  s.modSwc (fun w => { w with streams := ts })

/-- A frame that left the switch buffer for the reorder buffer, on its way again. -/
def fromHold (s : State) (h : InFrame) : QFrame := freshQ s h.frame h.ing 0 0 [] h.arr 0 0

/-- Pass a list of held frames on. -/
def passHeld (ans : Frame → Nat → State → State) (l : List InFrame) (s : State) : State :=
  forEach (fun h s => passOn ans (fromHold s h) (bumpStor s)) l s

/-- The oldest held frame of the buffer, with its stream. -/
def oldestHeld (ts : List Stream) : Option (Stream × InFrame) :=
  ts.foldl (fun best t => t.held.foldl (fun b h =>
    match b with
    | none => some (t, h)
    | some (_, g) => if h.arr < g.arr then some (t, h) else b) best) none

/-- Remove one held frame from a stream, advancing the last SEQ passed on when the frame was ahead of it. -/
def unhold (t : Stream) (h : InFrame) : Stream :=
  { t with held := t.held.erase h,
           last := if seqAhead t.last (Frame.seq h.frame) then Frame.seq h.frame else t.last }

/-- The place of a held frame in the SEQ order of its stream: those at or behind the last one passed on first, then those ahead. -/
def aheadBy (t : Stream) (h : InFrame) : Nat := (Frame.seq h.frame + 2 ^ 24 + 2 ^ 23 - t.last) % 2 ^ 24

/-- Insert a held frame in SEQ order, behind those of the same SEQ. -/
def insertHeld (t : Stream) (h : InFrame) : List InFrame → List InFrame
  | [] => [h]
  | g :: r => if aheadBy t h < aheadBy t g then h :: g :: r else g :: insertHeld t h r

def inSeqOrder (t : Stream) (l : List InFrame) : List InFrame := l.foldl (fun r h => insertHeld t h r) []

/-- The oldest held frame is passed on and counted. Frames of its stream that are now at or behind the last SEQ passed on go at once and
are counted, those that it makes due follow (R141). -/
def passOldest (ans : Frame → Nat → State → State) (s : State) : State :=
  match oldestHeld s.swc.streams with
  | none => s
  | some (t, h) =>
    let u := unhold t h
    let late := inSeqOrder u (u.held.filter (fun g => !(seqAhead u.last (Frame.seq g.frame))))
    let rest := u.held.filter (fun g => seqAhead u.last (Frame.seq g.frame))
    let r := drainStream rest.length { u with held := rest }
    passHeld ans (h :: (late ++ r.1)) (putStream r.2 (s.addFld Reg.sprayLate (1 + late.length)))

/-- How many frames the reorder buffer holds. -/
def heldCount (s : State) : Nat := s.swc.streams.foldl (fun n t => n + t.held.length) 0

/-- When the buffer is full the oldest held frames are passed on until the next one fits (R141). -/
def makeRoom (ans : Frame → Nat → State → State) (need : Nat) (s : State) : State :=
  forEach (fun _ s => if heldBytes s + need ≤ 8 * 2 ^ 20 then s else passOldest ans s) (List.range (heldCount s)) s

/-- A frame of a stream that is known: at or behind the last SEQ passed on it goes at once and is counted, next in turn it goes with those
that follow, ahead it is held (R141). -/
def reorderIn (ans : Frame → Nat → State → State) (q : QFrame) (t : Stream) (s : State) : State :=
  let f := q.frame
  if !(seqAhead t.last (Frame.seq f)) then passOn ans q (s.count Reg.sprayLate)
  else if Frame.seq f = nextSeq t.last then
    let r := drainStream t.held.length { t with last := Frame.seq f, held := t.held.filter (fun h => !(decide (Frame.seq h.frame = Frame.seq f))) }
    let same := t.held.filter (fun h => decide (Frame.seq h.frame = Frame.seq f))
    passHeld ans r.1 (passOn ans q (passHeld ans same (putStream r.2 s)))
  else releaseStored q (putStream { t with held := t.held ++ [{ frame := f, ing := q.ing, arr := q.arr }] } s)

/-- A frame of a stream ahead of its turn needs room in the buffer. -/
def mustHold (f : Frame) (t : Stream) : Bool :=
  seqAhead t.last (Frame.seq f) && !(decide (Frame.seq f = nextSeq t.last))

/-- 16384 streams are tracked at once (R141). -/
def streamsFull (s : State) : Bool := decide (16384 ≤ s.swc.streams.length)

/-- The first frame of a stream goes at once: its SEQ is the last one passed on; with every stream taken the oldest held frame makes way
(R141). -/
def reorderNew (ans : Frame → Nat → State → State) (q : QFrame) (s : State) : State :=
  let f := q.frame
  if streamsFull s then passOn ans q ((passOldest ans s).count Reg.sprayLate)
  else passOn ans q (s.modSwc (fun w => { w with streams :=
    w.streams ++ [{ chip := Frame.src f, port := Frame.srcPort f, cls := Frame.cls f, last := Frame.seq f, held := [] }] }))

/-- A frame that must be held first makes room for itself (R141). -/
def makeRoomFor (ans : Frame → Nat → State → State) (f : Frame) (t : Stream) (s : State) : State :=
  if mustHold f t then makeRoom ans (32 + f.payload.length) s else s

/-- A frame of a known stream, once there is room for it (R141). -/
def reorderKnown (ans : Frame → Nat → State → State) (q : QFrame) (s : State) : State :=
  match s.swc.streams.find? (streamOf q.frame) with
  | none => passOn ans q s
  | some t => reorderIn ans q t s

/-- Deliver a REQ or MGMT frame through the reorder buffer, or at once (R141). DEDUCED, log entry 35. -/
def reorder (ans : Frame → Nat → State → State) (q : QFrame) (s : State) : State :=
  match s.swc.streams.find? (streamOf q.frame) with
  | none => reorderNew ans q s
  | some t => reorderKnown ans q (makeRoomFor ans q.frame t s)

/-- Step 4 of R129: a frame at its destination chip. -/
def deliver (ans : Frame → Nat → State → State) (q : QFrame) (s : State) : State :=
  let c := Frame.cls q.frame
  let ty := Frame.type q.frame
  if s.flag Reg.routeReorder ∧ (c = 0 ∨ c = 3) ∧ ty ≠ tyAside ∧ ty ≠ tyCirData then reorder ans q s
  else passOn ans q s

/-! Circuits (R164, R165). -/

/-- The leg of a circuit frame: its egress, or none for a LOST circuit at its head. -/
def legOf (s : State) (c ing : Nat) : Option Nat :=
  if cirRole s c % 2 = 1 then
    (match cirState s c with
     | 0 => some (cirOutP s c)
     | 1 => some (cirOutP s c)
     | 2 => some (cirOutU s c)
     | _ => none)
  else if cirInP s c = ing then some (cirOutP s c)
  else some (cirOutU s c)

/-- Circuit c is installed at this chip for this ingress (step 10 of Table 04-3). -/
def cirInstalled (s : State) (c ing : Nat) : Bool :=
  decide (c ≠ 0) && cirValid s c && (decide (cirInP s c = ing) || decide (cirInU s c = ing))

/-! Token buckets (R167). Tokens are held in twenty-fifths of a cell: one 40 ns period adds RATE of them. -/

/-- Bucket of a circuit at an egress (R167). -/
def bucketKey (c out : Nat) : Nat := c * 16 + out

/-- Tokens of a circuit at an egress now; a bucket never used is full. -/
def tokensNow (s : State) (c out : Nat) : Nat :=
  let full := cirDepth s c * 25
  match s.swc.buckets.find? (fun e => decide (e.1 = bucketKey c out)) with
  | none => full
  | some e => min full (e.2.tokens + cirRate s c * (s.now - e.2.last))

/-- Spend the tokens of a frame of `cells` cells. -/
def spendTokens (c out cells : Nat) (s : State) : State :=
  let t := tokensNow s c out - cells * 25
  s.modSwc (fun w => { w with buckets := Tab.insert w.buckets (bucketKey c out) { tokens := t, last := s.now } })

/-- The bucket of a frame's circuit at an egress holds tokens for all of it (R167). -/
def tokensFor (s : State) (l : Nat) (f : Frame) : Bool := decide (Frame.cells f * 25 ≤ tokensNow s (Frame.circuit f) l)

/-- R167: no earlier frame of the same circuit waits at this egress. -/
def firstOfCircuit (s : State) (l : Nat) (q : QFrame) : Bool :=
  ((s.swc.queue.find? (fun o => decide (o.port = l) && decide (o.vc = 12) &&
    decide (Frame.circuit o.frame = Frame.circuit q.frame))).map (fun o => o.stor)) = some q.stor

/-- A circuit frame at the internal egress goes to its unit when its circuit's bucket there allows. -/
def toInternal (q : QFrame) (s : State) : State :=
  if firstOfCircuit s 15 q ∧ tokensFor s 15 q.frame then
    let s := (spendTokens (Frame.circuit q.frame) 15 (Frame.cells q.frame) s).modSwc (fun w => { w with queue := w.queue.erase q })
    toUnits q (if ownCircuit q then leavePending (Frame.circuit q.frame) (Frame.cells q.frame) s else s)
  else s

/-- Every frame that waits at the internal egress, in the order of arrival. -/
def serveInternal (s : State) : State := forEach toInternal (s.swc.queue.filter (fun q => decide (q.port = 15))) s

/-- A circuit frame leaves by a leg: to an egress link, or to the chip's own units. -/
def toLeg (ans : Frame → Nat → State → State) (q : QFrame) (out : Nat) (s : State) : State :=
  if out = 15 then serveInternal (enqueue { q with port := 15, vc := 12 } s)
  else if graceExpired s out ∧ isTorus out then releaseStored q (discard Reg.graceDrop 7 q.ing q.frame s)
  else if isTorus out then enqueue { q with port := out, vc := 12 } s
  else toEdge ans { q with port := out, vc := 12 } s

/-- A frame with SVC = 1. -/
def routeCircuit (ans : Frame → Nat → State → State) (q : QFrame) (s : State) : State :=
  let c := Frame.circuit q.frame
  match legOf s c q.ing with
  | none => releaseStored q (s.count Reg.cirLostDrop)
  | some out =>
    if 2 ≤ cirRole s c then
      let last := cirLastSeq s c
      if Frame.seq q.frame = nextSeq last then
        toLeg ans q out (s.setFld ⟨Reg.cirActive c 3, 0, 24⟩ (Frame.seq q.frame))
      else if seqAhead last (Frame.seq q.frame) then releaseStored q (s.count Reg.cirGap)
      else releaseStored q (s.count Reg.cirDup)
    else toLeg ans q out s

/-! Steps 3 to 5 of R129. -/

/-- R123, R139: a multicast frame goes on to other chips, and what is delivered here goes as `deliver` says, through the reorder buffer
when it is MGMT traffic (R141). -/
def multicast (ans : Frame → Nat → State → State) (q : QFrame) (s : State) : State :=
  if mcEntryOf s q.frame / 2 ^ 15 % 2 = 0 then releaseStored q (discard Reg.mcDrop 8 q.ing q.frame s)
  else
    let s := copiesTo [8, 9, 10, 11, 12, 13] q s
    if s.flag Reg.routeReorder ∧ Frame.cls q.frame = 3 then
      reorder ans (fromHold s { frame := q.frame, ing := q.ing, arr := q.arr }) (releaseStored q (bumpStor s))
    else deliverCopies q s

/-- R131 to R138: by the route table of the frame's EPOCH. DEDUCED, log entry 33. -/
def routeByTable (ans : Frame → Nat → State → State) (q : QFrame) (s : State) : State :=
  let f := q.frame
  let e := s.fld (Reg.routeEntry (Frame.epoch f) (Frame.dest f))
  if e.testBit 6 then
    let s := releaseStored q (s.count Reg.unreach)
    if Frame.isRequest f then ans f Err.targetGone s else s
  else
    let cls := Frame.cls f
    if isTorus q.ing ∧ q.ingVc < 12 ∧ q.ingVc % 3 ≠ 0 then
      let p := escapePort s (Frame.dest f) e
      enqueue { q with port := p, vc := escapeVc s cls p q.ing q.ingVc, escOnly := true } s
    else
      let b := bindPort s (Frame.dest f) e cls
      let s := noteSpray cls b.2 s
      let esc := if s.fld Reg.escWait = 0 ∧ e.testBit 7 = false then some (escapePort s (Frame.dest f) e) else none
      enqueue { q with port := b.1, vc := 3 * cls, esc := esc } s

/-- Steps 3 to 5. -/
def routeOn (ans : Frame → Nat → State → State) (q : QFrame) (s : State) : State :=
  let f := q.frame
  if Frame.svc f = 1 then routeCircuit ans q s
  else if Frame.mc f = 1 then multicast ans q s
  else if Frame.dest f = myChip s then deliver ans q s
  else routeByTable ans q s

/-! The chip's own frames. -/

/-- Route a frame that is no request: nothing in its course is answered. -/
def routeQuiet (q : QFrame) (s : State) : State := routeOn (fun _ _ s => s) q s

/-- Send a frame of the chip's own units that is no request (R104). -/
def sendFrame (wing : Nat) (f : Frame) (s : State) : State :=
  let g := Frame.stamp f (s.fld Reg.actSel)
  let q := freshQ s g 15 0 wing (ownKept g) s.now 0 0
  let s := bumpStor s
  if Frame.svc g = 0 ∧ Frame.mc g = 0 ∧ !(validChip s (Frame.dest g)) then discard Reg.hdrBad 3 15 g s
  else routeQuiet q s

/-- Answer a request with RSP_ERR (R20, R121, R137). -/
def answerErr (f : Frame) (code : Nat) (s : State) : State := sendFrame 0 (errFrame s f code) s

/-- Answer a request with RSP_ACK. -/
def answerAck (f : Frame) (s : State) : State :=
  sendFrame 0 (mkFrame tyRspAck (Frame.src f) (Frame.srcPort f) (myChip s) 8 (Frame.tag f) (Frame.seq f) 0 0 0 []) s

/-- Answer a request with RSP_DATA. -/
def answerData (f : Frame) (bs : List Byte) (s : State) : State :=
  sendFrame 0 (mkFrame tyRspData (Frame.src f) (Frame.srcPort f) (myChip s) 8 (Frame.tag f) (Frame.seq f) 0 0 0 bs) s

/-- An ASIDE frame travels one link only (R130): send it out on a link's VC 13. -/
def sendAside (port : Nat) (f : Frame) (s : State) : State :=
  let g := Frame.stamp f (s.fld Reg.actSel)
  let q := freshQ s g 15 0 (wingOfLink port) [] s.now port 13
  let s := bumpStor s
  if graceExpired s port then discard Reg.graceDrop 7 15 g s else enqueue q s

/-- A link message for the far end (R85, R87, R89, R91, R94): queued behind those that wait while the link is UP, sent as
training traffic otherwise. -/
def sendLinkMsg (l : Nat) (m : LinkMsg) (s : State) : State :=
  if linkUp s l then s.modLink l (fun k => { k with msgs := k.msgs ++ [m] }) else emit (.linkMsg l m) s

/-! The chip that stamps a request (R20, R160, R117). -/

/-- Redirect by the mirror map of the frame's EPOCH (R160): the frame to route, or the code that answers it. -/
def redirect (s : State) (f : Frame) : Frame ⊕ Nat :=
  let e := s.word (0x840000 + Frame.epoch f * 0x8000 + 8 * Frame.dest f)
  if inPoolSpace f ∧ field e 12 1 = 1 then
    let a := Frame.addr f + field e 16 16 * 2 ^ 30
    if 2 ^ 47 ≤ a then .inr Err.memRange
    else if !(validChip s (field e 0 12)) then .inr Err.targetGone
    else .inl (Frame.seal (Frame.putBits (Frame.putBits f 28 12 (field e 0 12)) 136 48 a))
  else .inl f

/-- Requests that the FENCE of one of them waits for (R117): earlier ones of the same source to the same chip and port. -/
def earlierReqs (s : State) (port dest dport tag seq : Nat) : List EdgeReq :=
  (s.swc.edgeOut.takeWhile (fun e => !(decide (e.port = port) && decide (e.tag = tag) && decide (e.seq = seq)))).filter
    (fun e => decide (e.port = port) && decide (e.dest = dest) && decide (e.dport = dport))

/-- A request enters the fabric at this chip: destination check, mirror map, destination check, FENCE, then steps 3 to 5. DEDUCED, log
entry 34. -/
def enterRequest (q : QFrame) (s : State) : State :=
  let f := q.frame
  if !(validChip s (Frame.dest f)) then answerErr f Err.targetGone (releaseStored q (s.count Reg.unreach))
  else match redirect s f with
  | .inr code =>
    let s := releaseStored q (if code = Err.targetGone then s.count Reg.unreach else s)
    answerErr f code s
  | .inl g =>
    let s := if q.ing < 8 then
        s.modSwc (fun w =>
          if w.edgeOut.any (fun e => decide (e.port = q.ing) && decide (e.tag = Frame.tag f) && decide (e.seq = Frame.seq f)) then w
          else { w with edgeOut := w.edgeOut ++
            [{ port := q.ing, dest := Frame.dest g, dport := Frame.destPort g, tag := Frame.tag f, seq := Frame.seq f }] })
      else s
    if Frame.fence g = 1 ∧ q.ing < 8 ∧
        (earlierReqs s q.ing (Frame.dest g) (Frame.destPort g) (Frame.tag f) (Frame.seq f)).isEmpty = false then
      s.modSwc (fun w => { w with fenced := w.fenced ++ [{ q with frame := g }] })
    else routeOn answerErr { q with frame := g } s

/-- Send a request of the chip's own units (R104, R154). -/
def sendRequest (wing : Nat) (f : Frame) (s : State) : State :=
  let g := Frame.stamp f (s.fld Reg.actSel)
  let q := freshQ s g 15 0 wing (ownKept g) s.now 0 0
  enterRequest q (bumpStor s)

/-- The next SEQ of the chip's own units toward an addressed chip in a class (R154), and the state with it taken. -/
def takeSeq (chip cls : Nat) (s : State) : Nat × State :=
  let k := chip * 4 + cls
  let n := Tab.get (fun _ => 0) s.swc.seqCtr k
  (n, s.modSwc (fun w => { w with seqCtr := Tab.set (fun _ => 0) w.seqCtr k ((n + 1) % 2 ^ 24) }))

/-- Step 1 of R129: an ASIDE frame is taken by the aside unit, or discarded when it is not addressed to this chip (R130). -/
def takeAside (q : QFrame) (s : State) : State :=
  if Frame.dest q.frame = myChip s then
    toUnits q s
  else releaseStored q (discard Reg.hdrBad 3 q.ing q.frame s)

/-- A frame that has passed the checks of Table 04-3 (R129, R20, R109, R120, R151). -/
def routeArrival (q : QFrame) (s : State) : State :=
  let f := q.frame
  let atEdge := decide (q.ing < 8)
  if s.fld Reg.ageLimit < waitedAge s f q.arr then
    let s := releaseStored q (discard Reg.aged 6 q.ing f s)
    if Frame.isRequest f then answerErr f Err.agedOut s else s
  else if s.fld (Reg.actState (Frame.epoch f)) = actSpare then
    let s := releaseStored q (s.count Reg.actLate)
    if Frame.isRequest f then answerErr f Err.agedOut s else s
  else if Frame.type f = tyAside then takeAside q s
  else if Frame.isRequest f then
    if atEdge then enterRequest q s
    else if !(validChip s (Frame.dest f)) then answerErr f Err.targetGone (releaseStored q (s.count Reg.unreach))
    else routeOn answerErr q s
  else routeOn answerErr q s

end Sys2Proof.Machine
end

