-- ==== Sys2Proof/Machine/Repair.lean ====
section
/-! DEFINITION. The repair log (R507 to R512), lane substitution (R90 to R92) and the start
and abandonment of rehearsal slices (R498 to R506). -/
namespace Sys2Proof.Machine

/-! The repair log. -/

/-- Classes of Table 17-1. -/
def clsLane : Nat := 0
def clsTile : Nat := 1
def clsRow : Nat := 2
def clsAdder : Nat := 3
def clsDdrPhy : Nat := 4
def clsPll : Nat := 5
def clsSensor : Nat := 6

/-- The first empty entry of the log. -/
def emptyEntry (s : State) : Option Nat := (List.range 256).find? (fun j => decide (s.fld (Reg.repairState j) = 0))

/-- The entry of an element, if the log holds one. -/
def entryOf (s : State) (cls elem : Nat) : Option Nat :=
  (List.range 256).find? (fun j => decide (s.fld (Reg.repairState j) ≠ 0) && decide (s.fld (Reg.repairCls j) = cls)
    && decide (s.fld (Reg.repairElem j) = elem))

/-- Log a failed element SOFT (1) or RETIRED (3); a full log sets SOFT_FULL (R508, R510). -/
def logRepair (cls elem st : Nat) (s : State) : State :=
  let s := if st = 1 then s.raise Reg.rhsRepaired else s.raise Reg.rhsRetired
  match emptyEntry s with
  | none => s.raise Reg.softFull
  | some j =>
    ((((s.setFld (Reg.repairCls j) cls).setFld (Reg.repairElem j) elem).setFld (Reg.repairState j) st).setFld
      (Reg.repairHrs j) (s.fld Reg.hrsPowered)).addFld Reg.logEntries 1

/-- Remove an element's entry (a heal). -/
def unlogRepair (cls elem : Nat) (s : State) : State :=
  match entryOf s cls elem with
  | none => s
  | some j => (((((s.setFld (Reg.repairCls j) 0).setFld (Reg.repairElem j) 0).setFld (Reg.repairState j) 0).setFld
      (Reg.repairHrs j) 0)).setFld Reg.logEntries (s.fld Reg.logEntries - 1)

/-- A swing pool has fallen to zero (R512). -/
def swingLowAlert (s : State) : State := alert 0x0A 0 Reg.rhsEventOff (s.raise Reg.swingLow)

/-- Record a failure of a class with a policy (R508): `forced` when the class had no swing left. -/
def recordFailure (cls elem : Nat) (forced : Bool) (s : State) : State :=
  if forced ∨ s.fld (Reg.rhsPolicy cls) = 1 then logRepair cls elem 3 s else logRepair cls elem 1 s

/-! Lanes. -/

/-- Sites of a link (Table 03-1). -/
def sitesOf (l : Nat) : List Nat := if l < 8 then [l] else [8 + 2 * (l - 8), 9 + 2 * (l - 8)]

/-- The link of a site. -/
def linkOfSite (st : Nat) : Nat := if st < 8 then st else 8 + (st - 8) / 2

/-- The first physical lane of a site on its link. -/
def siteBase (st : Nat) : Nat := if st < 8 then 0 else if st % 2 = 0 then 0 else 17

/-- The swing lane of the site that holds physical lane p. -/
def swingOf (p : Nat) : Nat := if p ≤ 16 then 16 else 33

/-- Physical lanes of a link. -/
def lanesOf (l : Nat) : List Nat := List.range (if l < 8 then 17 else 34)

def isSwing (p : Nat) : Bool := decide (p = 16 ∨ p = 33)

/-- Logical lanes of a link at full width. -/
def fullWidth (l : Nat) : Nat := if l < 8 then 16 else 32

/-- The inventory number of a physical lane (R494): site × 17 + its index in the site. -/
def inventoryLane (l p : Nat) : Nat := if l < 8 then l * 17 + p else (8 + 2 * (l - 8)) * 17 + p

/-- The physical lane of a logical place (LNKn_LANE_MAP). -/
def laneAt (s : State) (l i : Nat) : Nat :=
  s.fld (Reg.laneMapLo l i) + s.fld (Reg.laneMapHi l i) * 2 ^ (Reg.laneMapLo l i).w

def setLaneAt (l i p : Nat) (s : State) : State :=
  (s.setFld (Reg.laneMapLo l i) p).setFld (Reg.laneMapHi l i) (p / 2 ^ (Reg.laneMapLo l i).w)

/-- Physical lanes that carry traffic. -/
def lanesInUse (s : State) (l : Nat) : List Nat := (List.range (s.fld (Reg.lnkWidth l))).map (laneAt s l)

def laneCarries (s : State) (l p : Nat) : Bool := decide (p ∈ lanesInUse s l)

/-- Swing lanes of a link that carry traffic. -/
def swingsUsed (s : State) (l : Nat) : Nat := ((lanesInUse s l).filter isSwing).length

/-- A healthy physical lane at both ends (R85, R92). -/
def laneHealthy (s : State) (l p : Nat) : Bool :=
  !(s.flag (Reg.laneRetired l p)) && !(s.flag (Reg.laneSubst l p)) && !(decide (p ∈ (s.link l).badLanes)) &&
  (((s.link l).farCfg.map (fun c => c.lanes.getLsbD p)).getD true)

/-- Start a substitution: the lane's codewords go from the next comma on both lanes (R91). -/
def startSub (l lane onto : Nat) (mine : Bool) (s : State) : State :=
  let s := s.modLink l (fun k => { k with subs := k.subs ++ [LaneSub.waiting lane onto mine] })
  if mine then sendLinkMsg l (.laneSub lane) s else s

/-! Rehearsal targets (R498, R500). -/

/-- A target of rehearsal. -/
inductive Target where
  | lane (link p : Nat)
  | pll (i : Nat)
  | ddrPhy (c : Nat)
  | sensor (i : Nat)
  deriving DecidableEq, Repr

/-- Sites of a wing in ascending order (Table 17-2). -/
def sitesOfWing (w : Nat) : List Nat := (List.range 20).filter (fun st => decide (wingOfLink (linkOfSite st) = w))

/-- The target list of a wing. -/
def targetsOf (w : Nat) : List Target :=
  (sitesOfWing w).flatMap (fun st => (List.range 17).map (fun i => Target.lane (linkOfSite st) (siteBase st + i))) ++
  [Target.pll 0, .pll 1, .pll 2, .pll 3, .ddrPhy (3 * w), .ddrPhy (3 * w + 1), .ddrPhy (3 * w + 2), .sensor 0, .sensor 1, .sensor 2]

def targetClass : Target → Nat
  | .lane _ _ => clsLane
  | .pll _ => clsPll
  | .ddrPhy _ => clsDdrPhy
  | .sensor _ => clsSensor

/-- The log holds an element as FUSED: it never heals (R511). DEDUCED, log entry 115. -/
def isFused (s : State) (cls elem : Nat) : Bool := ((entryOf s cls elem).map (fun j => decide (s.fld (Reg.repairState j) = 2))).getD false

/-- Eligibility (Table 17-3). -/
def eligible (s : State) (w : Nat) : Target → Bool
  | .lane l p =>
    if s.flag (Reg.laneRetired l p) ∨ s.fld (Reg.lnkState l) = stDisabled then false
    else if s.flag (Reg.laneSubst l p) then !(isFused s clsLane (inventoryLane l p))
    else if isSwing p then linkUp s l && !(laneCarries s l p)
    else linkUp s l && decide (s.fld (Reg.lnkWidth l) = fullWidth l) && !(laneCarries s l (swingOf p)) && (s.link l).subs.isEmpty
  | .pll _ => true
  | .ddrPhy c => decide (s.fld (Reg.chState c) = 2) && decide (s.fld (Reg.ddrState c) = 0)
  | .sensor i =>
    if i = 2 then true else !(decide (4 * w + (1 - i) ∈ s.rhs.sensorsOut))

/-- Why rehearsal is suspended: 0 not, 1 disabled, 2 die not ON, 3 strike (R501). -/
def suspendCause (s : State) : Nat :=
  if !(s.flag Reg.rhsEnable) then 1
  else if dieState s ≠ dieOn then 2
  else if s.fld Reg.strikeState ≠ 0 then 3
  else 0

/-- The next eligible target from the pointer, with how many were passed over. -/
def pickTarget (s : State) (w : Nat) : Nat → Nat → Option (Nat × Nat) × Nat
  | 0, _ => (none, 0)
  | n + 1, i =>
    let ts := targetsOf w
    let j := i % ts.length
    if ((ts[j]?).map (eligible s w)).getD false then (some (j, 0), 0)
    else
      let r := pickTarget s w n (j + 1)
      (r.1.map (fun x => (x.1, x.2 + 1)), r.2 + 1)

/-- Start the slice of a wing on a target (R503, R504). -/
def startOn (w idx : Nat) (s : State) : State :=
  let s := { s with rhs := { s.rhs with slices := s.rhs.slices ++ [Slice.mk w idx] } }
  let s := s.setFld (Reg.rhsCountW w) (targetsOf w).length
  match (targetsOf w)[idx]? with
  | some (.lane l p) =>
    if isSwing p ∨ s.flag (Reg.laneSubst l p) then s else startSub l p (swingOf p) true s
  | _ => s

/-- A wing's fire starts a slice (R499, R500, R505). -/
def fireSlice (w : Nat) (s : State) : State :=
  if suspendCause s ≠ 0 then s
  else if 2 ≤ s.rhs.slices.length ∨ s.rhs.slices.any (fun c => decide (c.wing = w)) then
    { s with rhs := { s.rhs with waitingFires := s.rhs.waitingFires.filter (fun v => decide (v ≠ w)) ++ [w] } }
  else
    let ts := targetsOf w
    let ag := Tab.get (fun _ => 0) s.rhs.again w
    if ag ≠ 0 ∧ ((ts[ag - 1]?).map (eligible s w)).getD false then
      startOn w (ag - 1) { s with rhs := { s.rhs with again := Tab.set (fun _ => 0) s.rhs.again w 0 } }
    else
      match pickTarget s w ts.length (s.fld (Reg.rhsNext w)) with
      | (some (idx, skipped), _) =>
        startOn w idx (((s.addFld Reg.rhsSkipped skipped)).setFld (Reg.rhsNext w) ((idx + 1) % ts.length))
      | (none, n) => s.addFld Reg.rhsSkipped n

/-- A waiting fire starts when a slice has ended (R499). -/
def fireWaiting (s : State) : State :=
  match s.rhs.waitingFires with
  | [] => s
  | w :: t => if 2 ≤ s.rhs.slices.length then s else fireSlice w { s with rhs := { s.rhs with waitingFires := t } }

/-- Close a slice in RHS_WINGw. -/
def closeSlice (c : Slice) (result : Nat) (s : State) : State :=
  let s := { s with rhs := { s.rhs with slices := s.rhs.slices.filter (fun d => decide (d ≠ c)) } }
  let cls := (((targetsOf c.wing)[c.target]?).map targetClass).getD 0
  ((s.setFld (Reg.rhsLastCls c.wing) cls).setFld (Reg.rhsLastIdx c.wing) c.target).setFld (Reg.rhsResult c.wing) result

/-- Abandon the slices whose target satisfies a test (R506); each target is tested again first. -/
def abandonSlices (p : Nat → Target → Bool) (s : State) : State :=
  let hit := s.rhs.slices.filter (fun c => (((targetsOf c.wing)[c.target]?).map (p c.wing)).getD false)
  forEach (fun c s =>
    let s := (closeSlice c 4 s).count Reg.rhsAbandoned
    { s with rhs := { s.rhs with again := Tab.set (fun _ => 0) s.rhs.again c.wing (c.target + 1) } }) hit s

/-- Abandon the slices of a link (a retrain starts on it). -/
def abandonLinkSlices (l : Nat) (s : State) : State :=
  fireWaiting (abandonSlices (fun _ t => match t with | .lane k _ => decide (k = l) | _ => false) s)

/-- Abandon the slice of a DDR channel. -/
def abandonDdrSlices (c : Nat) (s : State) : State :=
  fireWaiting (abandonSlices (fun _ t => match t with | .ddrPhy k => decide (k = c) | _ => false) s)

/-- A suspension begins: every slice in progress is abandoned, and fires that wait start none (R501). -/
def abandonAllSlices (s : State) : State :=
  let s := abandonSlices (fun _ _ => true) s
  { s with rhs := { s.rhs with waitingFires := [] } }

end Sys2Proof.Machine
end

