-- ==== Sys2Proof/Machine/Circuits.lean ====
section
/-! DEFINITION. Scheduled circuits: states at the head and the notices that move them (R175 to R178), admission (R181, R182), and
the blocking plan's two banks and commit (R184 to R188). -/
namespace Sys2Proof.Machine

/-! Notices. -/

/-- The payload of a notice (R176). -/
def noticePayload (c kind replay : Nat) : List Byte :=
  leBytes 2 c ++ leBytes 1 kind ++ [0] ++ leBytes 2 replay ++ List.replicate 10 0

/-- KIND of a notice. -/
def kindMove : Nat := 1
def kindGuardLost : Nat := 2

/-- Send a notice for circuit c on a link (R176): an ASIDE frame with OP F0h, addressed to the far end of the link. -/
def sendNotice (l c kind : Nat) (s : State) : State :=
  let dest := if l < 8 then myChip s else s.fld (Reg.farId l)
  let dport := if l < 8 then l else 8
  sendAside l (mkFrame tyAside dest dport (myChip s) 8 0 0 0 0 0xF0 (noticePayload c kind (cirReplayUs s c))) s

def setCirState (c st : Nat) (s : State) : State := s.setFld ⟨Reg.cirActive c 0, 4, 2⟩ st

/-- Frames of a circuit that have not left the head take its understudy leg (R177). -/
def rebindCircuit (c : Nat) (s : State) : State :=
  let out := cirOutU s c
  let q := s.swc.queue.map (fun f =>
    if f.vc = 12 ∧ Frame.svc f.frame = 1 ∧ Frame.circuit f.frame = c ∧ f.sent = 0 then { f with port := out } else f)
  s.modSwc (fun w => { w with queue := q })

/-! Circuit frames of the chip's own units. -/

/-- Cells of a circuit that its internal ingress holds. -/
def heldInside (s : State) (c : Nat) : Nat :=
  ((inBuffer s).filter (fun q => ownCircuit q && decide (Frame.circuit q.frame = c))).foldl (fun n q => n + q.kept.length) 0

/-- The reserve of the circuit's active leg has room for a frame of the chip's own units (R169); a LOST circuit's frames are taken and
discarded (R177). -/
def cirRoom (s : State) (c cells : Nat) : Bool :=
  !(cirValid s c) || decide (cirInP s c ≠ 15 ∨ cirState s c = 3) ||
  decide (heldInside s c + cells ≤ (if cirState s c = 2 then cirBufU s c else cirBufP s c))

/-- R182: an admitted cue adds its cells to the pending count; so does what is to be sent again. -/
def addPending (c : Nat) (op : Option Nat) (cells : Nat) (s : State) : State :=
  s.modSwc (fun w => { w with cirPending := w.cirPending ++ [{ cir := c, op := op, cells := cells }] })

/-- A circuit frame of the chip's own units goes to the switch; a new one is kept for replay for its REPLAY_US (R178). -/
def launchCircuit (x : CirWait) (s : State) : State :=
  let c := Frame.circuit x.frame
  let since := s.now - cirReplayUs s c * ticksPerUs
  let kept := s.swc.cirSent.filter (fun r => !(decide (r.1 = c)) || decide (since ≤ r.2.1))
  sendFrame x.wing x.frame (if x.op.isSome then s.modSwc (fun w => { w with cirSent := kept ++ [(c, s.now, x.frame)] }) else s)

/-- A waiting frame goes when it is the first of its circuit and its reserve has room (R169). -/
def admitCircuit (x : CirWait) (s : State) : State :=
  let c := Frame.circuit x.frame
  if (s.swc.cirWait.find? (fun y => decide (Frame.circuit y.frame = c))) = some x ∧ cirRoom s c (Frame.cells x.frame) then
    launchCircuit x (s.modSwc (fun w => { w with cirWait := w.cirWait.erase x }))
  else s

/-- Every frame that waits for its circuit's reserve, in order. -/
def admitCircuits (s : State) : State := forEach admitCircuit s.swc.cirWait s

/-- Send a circuit frame of the chip's own units, in the order of its circuit. -/
def sendCircuit (wing : Nat) (op : Nat) (f : Frame) (s : State) : State :=
  admitCircuits (s.modSwc (fun w => { w with cirWait := w.cirWait ++ [{ wing := wing, op := some op, frame := f }] }))

/-- An internal source resends what it sent in the last REPLAY_US microseconds, in SEQ order, before any new frame (R178). -/
def replayInternal (c : Nat) (s : State) : State :=
  let since := s.now - cirReplayUs s c * ticksPerUs
  let again := s.swc.cirSent.filter (fun r => decide (r.1 = c) && decide (since ≤ r.2.1))
  let s := forEach (fun r s => addPending c none (Frame.cells r.2.2) s) again s
  admitCircuits (s.modSwc (fun w => { w with
    cirWait := again.map (fun r => { wing := injectWing s c, op := none, frame := r.2.2 }) ++ w.cirWait }))

/-! Table 06-2. -/

/-- The source of a circuit learns of a MOVE on which its head has acted (R176, R178). -/
def tellSource (c : Nat) (s : State) : State :=
  if cirInP s c = 15 then replayInternal c s
  else if cirInP s c < 8 then sendNotice (cirInP s c) c kindMove s
  else s

/-- A circuit is LOST: its frames that have not left the head are discarded and counted (R177). -/
def loseCircuit (c : Nat) (s : State) : State :=
  let lost := s.swc.queue.filter (fun q => decide (q.vc = 12) && decide (Frame.svc q.frame = 1) && decide (Frame.circuit q.frame = c) &&
    decide (q.sent = 0))
  forEach (fun (q : QFrame) s => releaseStored q ((s.modSwc (fun w => { w with queue := w.queue.erase q })).count Reg.cirLostDrop)) lost
    (setCirState c 3 s)

/-- Table 06-2 at the head: `under` when the failure is on the understudy leg. -/
def headNotice (c kind : Nat) (under : Bool) (s : State) : State :=
  let st := cirState s c
  if kind = kindMove ∧ under = false then
    if st = 0 then tellSource c (rebindCircuit c ((setCirState c 2 s).count Reg.cirMoved))
    else if st = 1 then tellSource c (loseCircuit c s)
    else s.count Reg.cirNotice
  else if kind = kindMove then
    if st = 2 then tellSource c (loseCircuit c s) else s.count Reg.cirNotice
  else if st = 0 then setCirState c 1 s
  else s.count Reg.cirNotice

/-- The circuit's understudy leg at this chip is in use: the head shows MOVED; another chip has sent frames by it, which a head does only
while MOVED (R164, R177). DEDUCED, log entry 142. -/
def onUnderstudy (s : State) (c : Nat) : Bool :=
  decide (cirState s c = 2) ||
  (decide (cirRole s c % 2 = 0) && decide (cirOutU s c ≠ cirOutP s c) &&
    s.swc.buckets.any (fun e => decide (e.1 = bucketKey c (cirOutU s c))))

/-- A condition of R175 on a link: notices for the circuits whose legs leave by it, or Table 06-2 at the head. -/
def moveCircuits (l : Nat) (s : State) : State :=
  if s.flag (Reg.planPending l) then s
  else forEach (fun c s =>
    let st := cirState s c
    let head := decide (cirRole s c % 2 = 1)
    let s := if cirOutP s c = l ∧ st ≤ 1 then
        if head then headNotice c kindMove false s
        else if cirInP s c < 14 then sendNotice (cirInP s c) c kindMove s else s
      else s
    if cirOutU s c = l ∧ cirInU s c ≠ 14 then
      if onUnderstudy s c then
        if head then headNotice c kindMove true s
        else if cirInU s c < 14 then sendNotice (cirInU s c) c kindMove s else s
      else if st = 0 then
        if head then headNotice c kindGuardLost false s
        else if cirInU s c < 14 then sendNotice (cirInU s c) c kindGuardLost s else s
      else s
    else s) (activeCircuits s) s

/-- A notice that arrived on link `ing` (R176, R177): the head acts on it, another chip relays it along the leg named by KIND;
a MOVE that came in on the understudy egress runs along the understudy legs. -/
def takeNotice (ing : Nat) (payload : List Byte) (s : State) : State :=
  let c := leAt payload 0 2 % 4096
  let kind := leAt payload 2 1
  if !(cirValid s c) then s
  else
    let under := decide (cirOutU s c = ing) && !(decide (cirOutP s c = ing))
    if cirRole s c % 2 = 1 then headNotice c kind (kind = kindMove && under) s
    else
      let back := if kind = kindGuardLost ∨ under = true then cirInU s c else cirInP s c
      if back < 14 then sendNotice back c kind s else s

/-! Admission. -/

/-- Cells of a circuit that have not left its head (R182). -/
def cirPendingOf (s : State) (c : Nat) : Nat := (s.swc.cirPending.filter (fun x => decide (x.cir = c))).foldl (fun n x => n + x.cells) 0

/-- R181: circuit c admits `cells` cells in frames of at most `frameCells`. -/
def admits (s : State) (c frameCells cells : Nat) : Bool :=
  decide (c ≠ 0) && cirValid s c && decide (cirRole s c % 2 = 1) && decide (cirState s c = 0) &&
  decide (frameCells ≤ cirFrameMax s c) &&
  decide (cirPendingOf s c + cells ≤ cirAdmitMax s c)

/-- An operation ends early: of its cells only those already in the switch are still to leave (R182, R364). -/
def dropLoads (op : Nat) (s : State) : State :=
  let s := s.modSwc (fun w => { w with cirWait := w.cirWait.filter (fun x => decide (x.op ≠ some op)) })
  forEach (fun (x : CirLoad) s =>
    let before := ((s.swc.cirPending.takeWhile (fun y => decide (y ≠ x))).filter (fun y => decide (y.cir = x.cir))).foldl
      (fun n y => n + y.cells) 0
    let inside := min x.cells (heldInside s x.cir - before)
    s.modSwc (fun w => { w with cirPending := w.cirPending.map (fun y => if y = x then { x with cells := inside } else y) }))
    (s.swc.cirPending.filter (fun x => decide (x.op = some op))) s

/-! The plan. -/

/-- Word j of the staged entry of circuit c. -/
def stagedWord (s : State) (c j : Nat) : Word := s.word (Reg.cirStaged c j)
def stValid (s : State) (c : Nat) : Bool := decide (field (stagedWord s c 0) 0 1 = 1)
def stRenew (s : State) (c : Nat) : Bool := decide (field (stagedWord s c 0) 1 1 = 1)
def stField (s : State) (c lo w : Nat) : Nat := field (stagedWord s c (lo / 64)) (lo % 64) w

/-- Staged circuits, in ascending order. -/
def stagedCircuits (s : State) : List Nat :=
  s.regs.filterMap (fun e =>
    if 0x880000 ≤ e.1 ∧ e.1 < 0x8A0000 ∧ (e.1 - 0x880000) % 0x20 = 0 ∧ field e.2 0 1 = 1 then some ((e.1 - 0x880000) / 0x20) else none)

/-- One leg (ingress, egress, BUF) is absent or well formed. -/
def bufOk (inn buf depth : Nat) : Bool :=
  if inn = 14 then decide (buf = 0) else decide (32 ≤ buf) && decide (depth ≤ buf)

/-- Where frames enter or leave the fabric: an edge link or the inside of the chip. -/
def isOuter (p : Nat) : Bool := decide (p < 8 ∨ p = 15)

/-- A leg is absent. -/
def noLeg (i o : Nat) : Bool := decide (i = 14 ∧ o = 14)

/-- The legs of an entry keep R163: a head or a tail of a route that crosses the torus holds two legs, which share its outer end; a chip
that is both holds one leg, or two alike, with two outer ends; a transit chip holds one leg between torus links. DEDUCED, log entry 169. -/
def legsOk (role inP outP inU outU : Nat) : Bool :=
  match role with
  | 0 => (isTorus inP && isTorus outP && noLeg inU outU) || (noLeg inP outP && isTorus inU && isTorus outU)
  | 1 => isOuter inP && decide (inP = inU) && isTorus outP && isTorus outU
  | 2 => isTorus inP && isTorus inU && isOuter outP && decide (outP = outU)
  | _ => isOuter inP && isOuter outP && (noLeg inU outU || decide (inP = inU ∧ outP = outU))

/-- Every field of a VALID staged entry is accepted by Table 06-6 and its legs keep R163. -/
def entryOk (s : State) (c : Nat) : Bool :=
  let role := stField s c 2 2
  let inP := stField s c 6 4
  let outP := stField s c 10 4
  let inU := stField s c 14 4
  let outU := stField s c 18 4
  let rate := stField s c 22 13
  let depth := stField s c 35 12
  let fmax := stField s c 47 5
  let bufP := stField s c 64 16
  let bufU := stField s c 80 16
  let boundP := stField s c 128 24
  let bound1 := stField s c 152 24
  let replay := stField s c 176 16
  decide (c ≠ 0) && decide (1 ≤ rate) && decide (1 ≤ fmax ∧ fmax ≤ 17) && decide (fmax ≤ depth) &&
  bufOk inP bufP depth && bufOk inU bufU depth &&
  decide (1 ≤ boundP) && decide (boundP ≤ bound1) && decide (1 ≤ replay) && legsOk role inP outP inU outU

/-- The wing from which an ingress of circuit c takes its reserve (R169). -/
def wingOfIngress (s : State) (c i : Nat) : Nat := if i < 14 then wingOfLink i else injectWing s c

/-- Reserves of a wing under the staged bank (R169). -/
def stagedReserves (s : State) (w : Nat) : Nat :=
  (stagedCircuits s).foldl (fun n c =>
    n + (if stField s c 6 4 ≠ 14 ∧ wingOfIngress s c (stField s c 6 4) = w then stField s c 64 16 else 0)
      + (if stField s c 14 4 ≠ 14 ∧ wingOfIngress s c (stField s c 14 4) = w then stField s c 80 16 else 0)) 0

/-- VC 12 total of a link under a bank's words. -/
def stagedAlloc (s : State) (l : Nat) : Nat :=
  (stagedCircuits s).foldl (fun n c =>
    n + (if stField s c 6 4 = l then stField s c 64 16 else 0) + (if stField s c 14 4 = l then stField s c 80 16 else 0)) 0

/-- Flit time F of a generation in picoseconds (Table 03-2). -/
def flitPs (gen : Nat) : Nat :=
  match gen with
  | 1 => 21071
  | 2 => 10536
  | _ => 5268

/-- The RATE part of R173 over the primary legs of a link: the sum is at most CAP/100 × 1,000 × W/F cells per µs, F in ns, at the planned
generation. -/
def rateOk (s : State) (l : Nat) : Bool :=
  let sum := (stagedCircuits s).foldl (fun n c => n + (if stField s c 10 4 = l then stField s c 22 13 else 0)) 0
  let gen := field (s.word (Reg.cirLinkStaged l)) 0 2
  decide (sum * flitPs gen ≤ (if gen = 0 then 0 else s.fld Reg.cirCap * fullWidth l * 10000))

/-- The bytes of the staged bank, entries then link words, over which the capsule's digest is made (R185). -/
def stagedBytes (s : State) : List Byte :=
  ((List.range 4096).flatMap (fun c => (List.range 4).flatMap (fun j => leBytes 8 (stagedWord s c j).toNat))) ++
  ((List.range 14).flatMap (fun l => leBytes 4 (s.word (Reg.cirLinkStaged l)).toNat))

/-- The first cause that refuses a commit, with the first failing circuit (R185); `digestOk` is the digest's verdict. The spec does not say
which circuit SWC_PLAN_STATUS names for BUF_OVER and RATE_OVER; DESIGN CHOICE, log entry 170: 0, and the lowest staged circuit whose primary
leg leaves by the link. -/
def commitRefusal (s : State) (digestOk : Bool) : Option (Nat × Nat) :=
  if !digestOk then some (2, 0)
  else match (stagedCircuits s).find? (fun c => !(entryOk s c)) with
  | some c => some (3, c)
  | none =>
    if (List.range 4).any (fun w => decide (32768 < stagedReserves s w)) then some (4, 0)
    else match (List.range 14).find? (fun l => !(rateOk s l)) with
      | some l => some (5, ((stagedCircuits s).find? (fun c => decide (stField s c 10 4 = l))).getD 0)
      | none => if (List.range 14).any (fun l => s.flag (Reg.planPending l)) then some (6, 0) else none

/-- Zero the staged bank (R188). -/
def clearStaged (s : State) : State :=
  { s with regs := s.regs.filter (fun e => !(decide (0x880000 ≤ e.1 ∧ e.1 < 0x8A0000)) && !(decide (0x8C0000 ≤ e.1 ∧ e.1 < 0x8C0070))) }

/-- The RW bits of a circuit entry word: what makes an entry differ from its predecessor (R186), RENEW apart. -/
def entryMask (j : Nat) : Word :=
  if j = 0 then 0xFFFFFFFFFFFFFFCD else if j = 3 then 0xFFFFFFFFFF000000 else 0xFFFFFFFFFFFFFFFF

def entrySame (s : State) (c : Nat) : Bool :=
  (List.range 4).all (fun j => decide (stagedWord s c j &&& entryMask j = cirWord s c j &&& entryMask j))

/-- The count of an internal source's frames on a circuit (R165) among the SEQ counters of the chip's units. -/
def circuitKey (c : Nat) : Nat := 2 ^ 16 + c

/-- Swap one entry of the banks; a renewed one starts in PRIMARY with LAST_SEQ at FF_FFFFh, full buckets, nothing pending, and an internal
source's count at 0 (R165). DEDUCED, log
entry 32. -/
def swapEntry (c : Nat) (s : State) : State :=
  let renew := stRenew s c || !(entrySame s c)
  let old := (List.range 4).map (cirWord s c)
  let new := (List.range 4).map (stagedWord s c)
  let last := cirLastSeq s c
  let st := cirState s c
  let s := forEach (fun j s => (s.setWord (Reg.cirActive c j) ((new[j]?).getD 0)).setWord (Reg.cirStaged c j) ((old[j]?).getD 0))
    [0, 1, 2, 3] s
  let s := s.setFld ⟨Reg.cirActive c 0, 1, 1⟩ 0
  if renew then
    let s := (setCirState c 0 s).setFld ⟨Reg.cirActive c 3, 0, 24⟩ (if cirValid s c then 0xFFFFFF else 0)
    s.modSwc (fun w => { w with
      buckets := w.buckets.filter (fun e => decide (e.1 / 16 ≠ c)),
      cirPending := w.cirPending.filter (fun x => decide (x.cir ≠ c)),
      cirSent := w.cirSent.filter (fun r => decide (r.1 ≠ c)),
      cirWait := w.cirWait.filter (fun x => decide (Frame.circuit x.frame ≠ c)),
      seqCtr := Tab.set (fun _ => 0) w.seqCtr (circuitKey c) 0 })
  else (setCirState c st s).setFld ⟨Reg.cirActive c 3, 0, 24⟩ last

/-- Circuits that either bank lists. -/
def listedCircuits (s : State) : List Nat :=
  (s.regs.filterMap (fun e =>
    if 0x880000 ≤ e.1 ∧ e.1 < 0x8C0000 then some ((e.1 - 0x880000) % 0x20000 / 0x20) else none)).eraseDups

/-- Swap the link word of a link, and mark the link PENDING when its VC 12 total changes (R186). -/
def swapLink (before : Nat → Nat) (l : Nat) (s : State) : State :=
  let a := s.word (Reg.cirLinkActive l)
  let b := s.word (Reg.cirLinkStaged l)
  let s := (s.setWord (Reg.cirLinkActive l) b).setWord (Reg.cirLinkStaged l) a
  if before l = circuitAlloc s l then s else s.raise (Reg.planPending l)

/-- A plan commit (R185, R186): whether it is accepted, and the state. -/
def planCommit (planId : Nat) (digestOk : Bool) (s : State) : Bool × State :=
  match commitRefusal s digestOk with
  | some (r, c) => (false, (s.setFld Reg.planResult r).setFld Reg.planFirst c)
  | none =>
    let before := circuitAlloc s
    let s := forEach swapEntry (listedCircuits s) s
    let s := forEach (swapLink before) (List.range 14) s
    (true, ((s.setFld Reg.planResult 1).setFld Reg.planFirst 0).setFld Reg.planId planId)

end Sys2Proof.Machine
end

