-- ==== Sys2Proof/Machine/LineCode.lean ====
section
/-! DEFINITION. The lane: RS(236,218) over GF(2^10) (R70, R71), the scrambler (R64, R65), PAM4 (R66), stuffing (R67), the comma
(R68), and the flit with its CRC-64 (R72, R73). -/
namespace Sys2Proof.Machine

/-! GF(2^10), primitive polynomial x^10 + x^3 + 1. -/

/-- Multiplication by α. -/
def gfDouble (a : Nat) : Nat :=
  let b := a <<< 1
  if b.testBit 10 then b ^^^ 0x409 else b

/-- Multiplication. -/
def gfMul (a b : Nat) : Nat :=
  [9, 8, 7, 6, 5, 4, 3, 2, 1, 0].foldl (fun acc i => gfDouble acc ^^^ (if b.testBit i then a else 0)) 0

/-- Powers by repeated multiplication. -/
def gfPow (a : Nat) : Nat → Nat
  | 0 => 1
  | n + 1 => gfMul (gfPow a n) a

/-- α^n. -/
def gfAlpha : Nat → Nat
  | 0 => 1
  | n + 1 => gfDouble (gfAlpha n)

/-- Inverse: a^1022 by squaring, 1022 being nine ones and a zero in binary. -/
def gfInv (a : Nat) : Nat :=
  let step := fun (acc : Nat) => gfMul (gfMul acc acc) a
  let p := step (step (step (step (step (step (step (step a)))))))
  gfMul p p

/-! Polynomials over GF(2^10), lowest degree first. -/

def polyAdd : List Nat → List Nat → List Nat
  | [], b => b
  | a, [] => a
  | x :: a, y :: b => (x ^^^ y) :: polyAdd a b

def polyScale (c : Nat) (p : List Nat) : List Nat := p.map (gfMul c)

def polyMul : List Nat → List Nat → List Nat
  | [], _ => []
  | x :: a, b => polyAdd (polyScale x b) (0 :: polyMul a b)

def polyEval (x : Nat) : List Nat → Nat
  | [] => 0
  | c :: p => c ^^^ gfMul x (polyEval x p)

/-- The generator polynomial with roots α^0 to α^17 (R70), lowest degree first, monic of degree 18. -/
def rsGenerator : List Nat := (List.range 18).foldl (fun g i => polyMul g [gfAlpha i, 1]) [1]

/-- The 18 parity symbols of a message, the first the coefficient of x^17 (R71: symbol 0 is the highest power, log entry 8). -/
def rsParity (g : List Nat) (msg : List Nat) : List Nat :=
  let gh := (g.take 18).reverse
  msg.foldl (fun r m =>
    let fb := m ^^^ ((r[0]?).getD 0)
    List.zipWith (· ^^^ ·) (r.drop 1 ++ [0]) (polyScale fb gh)) (List.replicate 18 0)

/-- A codeword: message symbols, then parity. -/
def rsEncode (msg : List Nat) : List Nat := msg ++ rsParity rsGenerator msg

/-- Syndromes S_0 to S_17 of a received word. -/
def rsSyndromes (word : List Nat) : List Nat :=
  (List.range 18).map (fun j => word.foldl (fun acc c => gfMul acc (gfAlpha j) ^^^ c) 0)

/-- One step of Berlekamp and Massey: (locator, previous locator, length, shift, last discrepancy). -/
def bmStep (syn : List Nat) (st : List Nat × List Nat × Nat × Nat × Nat) (n : Nat) : List Nat × List Nat × Nat × Nat × Nat :=
  let (c, b, len, m, bd) := st
  let d := (List.range (len + 1)).foldl (fun a i => a ^^^ gfMul (c.getD i 0) ((syn[n - i]?).getD 0)) 0
  if d = 0 then (c, b, len, m + 1, bd)
  else
    let t := polyAdd c (List.replicate m 0 ++ polyScale (gfMul d (gfInv bd)) b)
    if 2 * len ≤ n then (t, c, n + 1 - len, 1, d) else (t, b, len, m + 1, bd)

/-- The error locator and its length. -/
def rsLocator (syn : List Nat) : List Nat × Nat :=
  let r := (List.range 18).foldl (bmStep syn) ([1], [1], 0, 1, 1)
  (r.1, r.2.2.1)

/-- The formal derivative. -/
def polyDeriv (p : List Nat) : List Nat :=
  ((p.zipIdx).drop 1).map (fun c => if c.2 % 2 = 1 then c.1 else 0)

/-- Correct up to 9 symbol errors (R70): the word and how many symbols changed, or none when it is uncorrectable. -/
def rsDecode (word : List Nat) : Option (List Nat × Nat) :=
  let syn := rsSyndromes word
  if syn.all (fun x => decide (x = 0)) then some (word, 0)
  else
    let (loc, len) := rsLocator syn
    if 9 < len then none
    else
      let omega := (polyMul syn loc).take 18
      let der := polyDeriv loc
      let fixed := word.zipIdx.map (fun (c, i) =>
        let x := gfAlpha (235 - i)
        let xi := gfInv x
        if polyEval xi loc = 0 then (c ^^^ gfMul x (gfMul (polyEval xi omega) (gfInv (polyEval xi der))), 1) else (c, 0))
      let out := fixed.map (fun r => r.1)
      let n := fixed.foldl (fun a r => a + r.2) 0
      if n = len ∧ (rsSyndromes out).all (fun x => decide (x = 0)) then some (out, n) else none

/-! Bits and symbols. -/

/-- The `n` low bits of a number, most significant first. -/
def msbBits : Nat → Nat → List Bool
  | 0, _ => []
  | n + 1, v => v.testBit n :: msbBits n v

/-- The number that bits spell, most significant first. -/
def ofMsbBits (bs : List Bool) : Nat := bs.foldl (fun a b => 2 * a + (if b then 1 else 0)) 0

/-- Scramble or descramble bits (R64): the bits and the scrambler after them. -/
def scramble : Nat → List Bool → List Bool × Nat
  | st, [] => ([], st)
  | st, b :: t =>
    let n := st.testBit 57 != st.testBit 38
    let r := scramble ((st * 2 + (if n then 1 else 0)) % 2 ^ 58) t
    ((b != n) :: r.1, r.2)

/-- The seed of a lane at every comma tail (R65). -/
def scramblerSeed (p : Nat) : Nat := 0x3FFFFFFFFFFFFC0 ||| p

/-- PAM4 levels of a bit string, two bits a symbol, first bit the more significant (R66). -/
def toLevels : List Bool → List Nat
  | false :: false :: t => 0 :: toLevels t
  | false :: true :: t => 1 :: toLevels t
  | true :: true :: t => 2 :: toLevels t
  | true :: false :: t => 3 :: toLevels t
  | _ => []

/-- The two bits of a level (R66). -/
def levelBits (l : Nat) : List Bool :=
  match l with
  | 0 => [false, false]
  | 1 => [false, true]
  | 2 => [true, true]
  | _ => [true, false]

/-- The stuff symbol after 31 of a level (R67). -/
def stuffSymbol (last : Nat) : Nat := if last ≤ 1 then 3 else 0

/-- Stuff a run of data symbols (R67): the line symbols, and the last symbol and run length at the end. -/
def stuff : Nat → Nat → List Nat → List Nat × Nat × Nat
  | last, run, [] => ([], last, run)
  | last, run, x :: t =>
    let n := if run ≠ 0 ∧ x = last then run + 1 else 1
    if n = 31 then
      let r := stuff x 0 t
      (x :: stuffSymbol x :: r.1, r.2)
    else
      let r := stuff x n t
      (x :: r.1, r.2)

/-- Undo the stuffing: the symbol after 31 identical data symbols is removed (R67). -/
def unstuff : Nat → Nat → List Nat → List Nat × Nat × Nat
  | last, run, [] => ([], last, run)
  | last, run, x :: t =>
    if run = 31 then unstuff x 0 t
    else
      let r := unstuff x (if run ≠ 0 ∧ x = last then run + 1 else 1) t
      (x :: r.1, r.2)

/-- The comma (R68). -/
def comma : List Nat := List.replicate 40 3 ++ [0, 3, 1, 2, 0, 3, 2, 1]

/-! Flits (R72, R73). -/

/-- What a flit carries beside its payload. -/
structure FlitCtl where
  vc : Nat
  sof : Bool
  eof : Bool
  txSeq : Nat
  ackSeq : Nat
  nak : Bool
  crVc : Nat
  crTotal : Nat
  deriving DecidableEq, Repr

def boolBit (b : Bool) : Nat := if b then 1 else 0

/-- LC[63:0] (Table 03-3). -/
def FlitCtl.low (c : FlitCtl) : Nat :=
  c.vc % 16 + boolBit c.sof * 2 ^ 4 + boolBit c.eof * 2 ^ 5 + (c.txSeq % 65536) * 2 ^ 6 + (c.ackSeq % 65536) * 2 ^ 22
    + boolBit c.nak * 2 ^ 38 + (c.crVc % 16) * 2 ^ 40 + (c.crTotal % 65536) * 2 ^ 44

/-- Read LC[63:0]. -/
def FlitCtl.ofLow (v : Nat) : FlitCtl :=
  { vc := bitsOf v 0 4, sof := v.testBit 4, eof := v.testBit 5, txSeq := bitsOf v 6 16, ackSeq := bitsOf v 22 16,
    nak := v.testBit 38, crVc := bitsOf v 40 4, crTotal := bitsOf v 44 16 }

/-- CRC-64 of R73. -/
def flitCrc (bs : List Byte) : Nat :=
  crcBytes 64 0x42F0E1EBA9EA3693 0xFFFFFFFFFFFFFFFF bs ^^^ 0xFFFFFFFFFFFFFFFF

/-- The 272 bytes of a flit. -/
def flitBytes (payload : List Byte) (c : FlitCtl) : List Byte :=
  let head := padTo 256 payload ++ leBytes 8 (FlitCtl.low c)
  head ++ leBytes 8 (flitCrc head)

/-- Read a flit: its payload and control, or none when its CRC fails. -/
def readFlit (bs : List Byte) : Option (List Byte × FlitCtl) :=
  if flitCrc (bs.take 264) = leAt bs 264 8 then some (bs.take 256, FlitCtl.ofLow (leAt bs 256 8)) else none

/-- Message symbols of a flit: 218 symbols of 10 bits, pad 0000b (R71). -/
def messageSymbols (bs : List Byte) : List Nat :=
  let v := leNat bs
  (List.range 218).map (fun i => bitsOf v (10 * i) 10)

/-- The flit bytes of message symbols; the pad is ignored. -/
def flitOfSymbols (syms : List Nat) : List Byte :=
  leBytes 272 (syms.reverse.foldl (fun a x => a * 1024 + x) 0)

/-- The lane state after a comma. -/
def LaneCode.atComma (p : Nat) : LaneCode := { scr := scramblerSeed p, last := 0, run := 0 }

/-- A lane that has sent nothing. -/
def LaneCode.init : LaneCode := { scr := 0, last := 0, run := 0 }

/-- Send one codeword on physical lane `p`: the comma when it is due, then the scrambled, mapped and stuffed symbols. -/
def laneSend (p : Nat) (commaDue : Bool) (lc : LaneCode) (flit : List Byte) : List Nat × LaneCode :=
  let lc := if commaDue then LaneCode.atComma p else lc
  let bits := (rsEncode (messageSymbols flit)).flatMap (msbBits 10)
  let (sb, scr) := scramble lc.scr bits
  let (syms, last, run) := stuff lc.last lc.run (toLevels sb)
  ((if commaDue then comma else []) ++ syms, { scr := scr, last := last, run := run })

/-- The comma that is due stands before the codeword (R69). -/
def commaMet (symbols : List Nat) : Bool := decide (symbols.take 48 = comma)

/-- Receive one codeword on physical lane `p`: the flit bytes and corrected symbols when it decodes, and the lane after. -/
def laneReceive (p : Nat) (commaDue : Bool) (lc : LaneCode) (syms : List Nat) : Option (List Byte × Nat) × LaneCode :=
  let hit := commaDue && commaMet syms
  let lc := if hit then LaneCode.atComma p else lc
  let (data, last, run) := unstuff lc.last lc.run (if hit then syms.drop 48 else syms)
  let (bits, scr) := scramble lc.scr (data.flatMap levelBits)
  let lc' : LaneCode := { scr := scr, last := last, run := run }
  if data.length ≠ 1180 then (none, lc')
  else
    match rsDecode ((chunksOf 10 236 bits).map ofMsbBits) with
    | none => (none, lc')
    | some (w, n) => (some (flitOfSymbols (w.take 218), n), lc')

end Sys2Proof.Machine
end

