-- ==== Sys2Proof/Machine/LinkOps.lean ====
section
/-! DEFINITION. The mechanics of a link: what it does on leaving and entering UP (R82 to R93, R113, R125, R126, R175), sending a
flit (R74 to R80, R114, R118), receiving one (R72 to R82, R107, R109), lane substitution at commas (R91). -/
namespace Sys2Proof.Machine

/-! Port grace. -/

/-- Table 04-5 for the queued frames of a link whose grace has expired: torus frames of VC 0 to 11 are bound afresh, joining their new
queue (R122); the rest are discarded, requests at an edge port with TARGET_GONE. A frame whose first cell has left stays. -/
def graceFrame (l : Nat) (q : QFrame) (s : State) : State :=
  if q.port ≠ l ∨ q.sent ≠ 0 then s
  else
    let s := s.modSwc (fun w => { w with queue := w.queue.erase q })
    if q.copy then releaseStored q (discard Reg.mcDrop 8 q.ing q.frame s)
    else if q.vc = 13 then releaseStored q (discard Reg.graceDrop 7 q.ing q.frame s)
    else if isTorus l then
      if q.vc = 12 then releaseStored q (discard Reg.graceDrop 7 q.ing q.frame s)
      else if q.escOnly then s.modSwc (fun w => { w with queue := w.queue ++ [q] })
      else
        let f := q.frame
        let e := s.fld (Reg.routeEntry (Frame.epoch f) (Frame.dest f))
        let b := bindPort s (Frame.dest f) e (Frame.cls f)
        enqueue { q with port := b.1 } (noteSpray (Frame.cls f) b.2 s)
    else
      let s := releaseStored q (discard Reg.graceDrop 7 q.ing q.frame s)
      if Frame.isRequest q.frame then answerErr q.frame Err.targetGone s else s

/-- R136: a frame that found no productive port UP when its grace expired waits until one comes UP, and is then bound to it. -/
def waitsForPort (s : State) (l : Nat) (q : QFrame) : Bool :=
  decide (q.sent = 0 ∧ q.vc < 12) && !q.copy && !q.escOnly && isTorus q.port && graceExpired s q.port &&
  decide (l ∈ productive s (Frame.dest q.frame) (s.fld (Reg.routeEntry (Frame.epoch q.frame) (Frame.dest q.frame))))

/-- Link l has come UP: the frames that waited for such a port are bound afresh (R136). -/
def rebindWaiting (l : Nat) (s : State) : State :=
  forEach (fun (q : QFrame) s => graceFrame q.port q s) (s.swc.queue.filter (waitsForPort s l)) s

/-- The port grace of a link expires with the link not UP (R126, R175). -/
def graceExpire (l : Nat) (s : State) : State :=
  let s := s.modLink l (fun k => { k with grace := .expired })
  moveCircuits l (forEach (graceFrame l) s.swc.queue s)

/-- A link leaves UP (R125): its grace starts; a grace of 0 acts at once. -/
def startGrace (l : Nat) (s : State) : State :=
  if (s.link l).grace ≠ .off then s
  else if s.fld Reg.portGrace = 0 then graceExpire l s
  else s.modLink l (fun k => { k with grace := .running })

/-! Going down and training. -/

/-- A link takes a state; a loop that it ran for the far end is over (log entry 155). -/
def setLinkState (l st : Nat) (s : State) : State := (s.setFld (Reg.lnkState l) st).modLink l (fun k => { k with farLoop := none })

/-- A link that is no longer UP shows no generation and no width (Table 03-11). -/
def clearTrained (l : Nat) (s : State) : State :=
  ((s.setFld (Reg.lnkGen l) 0).setFld (Reg.lnkWidth l) 0).setFld (Reg.lnkSwings l) 0

/-- CAUSE codes of Table 03-11. -/
def causeRemoved : Nat := 1
def causeCartBad : Nat := 2
def causeTrainFail : Nat := 3
def causeMiscabled : Nat := 4
def causeWidthLost : Nat := 5
def causeDisabled : Nat := 6
def causeFarDown : Nat := 7
def causeIron : Nat := 8
def causeFullRetrain : Nat := 9

/-- A link enters DOWN, MISCABLED or DISABLED: the cause, the event bit, the discarded retry buffer and partial frames (R82, R89), its
slices (R506), its grace (R125). DESIGN CHOICE, log entry 31. -/
def enterDown (l st cause : Nat) (s : State) : State :=
  let wasUp := linkUp s l
  let s := abandonLinkSlices l (clearTrained l (setLinkState l st s))
  let s := (s.setFld (Reg.lnkCause l) cause).raise (Reg.lnkStateChg l)
  let s := s.modLink l (fun k =>
    { k with retry := [], replayFrom := none, asm := [], msgs := [], subs := [], discarding := false, nakDue := false })
  let lost := s.swc.queue.filter (fun q => decide (q.port = l) && decide (q.sent ≠ 0))
  let s := s.modSwc (fun w => { w with queue := w.queue.filter (fun q => !(decide (q.port = l) && decide (q.sent ≠ 0))) })
  let s := forEach releaseStored lost s
  if wasUp then startGrace l s else s

/-- Every site of the link holds an accepted cartridge that has power if it needs it (R97, R98). -/
def State.site (s : State) (st : Nat) : Site := Tab.get (fun _ => Site.init) s.sites st
def State.setSite (s : State) (st : Nat) (x : Site) : State := { s with sites := Tab.set (fun _ => Site.init) s.sites st x }

def cartPassive (x : Site) : Bool := decide (nthByte x.eeprom 1 = 0)
def siteReady (s : State) (st : Nat) : Bool :=
  let x := s.site st
  x.accepted && (cartPassive x || x.powerGood)
def linkReady (s : State) (l : Nat) : Bool := (sitesOf l).all (siteReady s)

/-- The port of a torus axis of size 1 is Off (R14, R59); before assignment every axis may be used. -/
def portOff (s : State) (l : Nat) : Bool :=
  isTorus l && s.flag Reg.assigned && decide (s.fld (Reg.ringN (axisOf l)) = 1)

/-- The highest generation that R61 allows now, before the fall of R62. -/
def wantedGen (s : State) (l : Nat) : Nat :=
  let cfg := if s.fld (Reg.genCfg l) = 0 then 3 else s.fld (Reg.genCfg l)
  let code := s.fld Reg.lnkCap
  let far := (((s.link l).farCfg).map (fun c => c.maxGen)).getD 3
  let carts := (sitesOf l).map (fun st => if (s.site st).accepted then (nthByte (s.site st).eeprom 2).toNat else 3)
  max 1 (min cfg (min code (min far (carts.foldl min 3))))

/-- The target generation (R61, R62). -/
def targetGen (s : State) (l : Nat) : Nat :=
  let t := (s.link l).target
  if t = 0 then wantedGen s l else min t (wantedGen s l)

/-- A cartridge of the link has been refused: it is held DOWN (R97). -/
def linkRefused (s : State) (l : Nat) : Bool := (sitesOf l).any (fun st => (s.site st).refused)

/-- A link that cannot train is DOWN: for good while a cartridge is refused (R97), else until cartridges come. DESIGN CHOICE, log entry
156: a link that is enabled with no cartridge enters DOWN with cause none. -/
def holdDown (l : Nat) (s : State) : State :=
  let cause := if linkRefused s l then causeCartBad else 0
  if s.fld (Reg.lnkState l) = stDown ∧ (cause = 0 ∨ s.fld (Reg.lnkCause l) = cause) then s else enterDown l stDown cause s

/-- Training starts from DETECT, or waits for the cartridges in CART_CHECK (R62, R84). -/
def startTraining (l : Nat) (s : State) : State :=
  if s.fld (Reg.lnkEnable l) = 0 ∨ portOff s l then s
  else if linkReady s l then
    (setLinkState l stDetect s).modLink l (fun k => { k with postCfg := false, trainGen := 1, spent := 0, farCfg := none })
  else if (sitesOf l).all (fun st => s.fld (Reg.hotplug st) = 0) ∧ !(linkRefused s l) then setLinkState l stCartCheck s
  else holdDown l s

/-- Training starts afresh at the target of R61 (R62). -/
def freshTraining (l : Nat) (s : State) : State :=
  startTraining l (s.modLink l (fun k => { k with attempts := 0, target := 0 }))

/-- A full retrain: the link passes through DOWN and trains from DETECT (R88). -/
def fullRetrain (l : Nat) (s : State) : State := freshTraining l (enterDown l stDown causeFullRetrain s)

/-! The lane map. -/

/-- The physical lane of logical place i at full width, the site's swing standing in for one unhealthy lane (R90, R92). -/
def mappedLane (s : State) (l i : Nat) : Option Nat :=
  let p := if i < 16 then i else i + 1
  if laneHealthy s l p then some p
  else
    let first := (List.range 16).find? (fun j => !(laneHealthy s l (if i < 16 then j else j + 17)))
    let sw := swingOf p
    if first.map (fun j => if i < 16 then j else j + 17) = some p ∧ laneHealthy s l sw then some sw else none

/-- The lanes of a link, in logical order: full width, or half width of healthy lanes when it is allowed. R92 takes any healthy lanes;
DESIGN CHOICE, log entry 157: the lowest-numbered ones. -/
def laneAssignment (s : State) (l : Nat) : Option (List Nat) :=
  let full := (List.range (fullWidth l)).map (mappedLane s l)
  if (s.link l).half = false ∧ full.all (fun o => o.isSome) then some (full.map (fun o => o.getD 0))
  else
    let healthy := (lanesOf l).filter (laneHealthy s l)
    if s.flag (Reg.allowHalf l) ∧ fullWidth l / 2 ≤ healthy.length then some (healthy.take (fullWidth l / 2)) else none

/-- Write the lane map, the width and the swings in use; places beyond the width read 3Fh. Half width lasts until a full retrain
(R93). -/
def assignLanes (l : Nat) (lanes : List Nat) (s : State) : State :=
  let s := forEach (fun i s => setLaneAt l i ((lanes[i]?).getD 0x3F) s) (List.range 32) s
  let s := (s.setFld (Reg.lnkWidth l) lanes.length).modLink l (fun k => { k with half := decide (lanes.length < fullWidth l) })
  s.setFld (Reg.lnkSwings l) (swingsUsed s l)

/-! Coming up. -/

/-- R175: a link comes UP below its plan generation, or at half width without HALF_OK. -/
def belowPlan (s : State) (l : Nat) : Bool :=
  let w := s.word (Reg.cirLinkActive l)
  decide (field w 0 2 ≠ 0) &&
  (decide (s.fld (Reg.lnkGen l) < field w 0 2) ||
    (decide (s.fld (Reg.lnkWidth l) < fullWidth l) && decide (field w 2 1 = 0)))

/-- The streams restart: codeword 0 of every lane follows a comma (R69). -/
def restartStream (k : Link) : Link := { k with txCount := 0, rxCount := 0, txLane := [], rxLane := [], subs := [], missed := [] }

/-- The VC 12 reserve that CFG advertised is the plan's: a commit since then stays PENDING (R186). DEDUCED, log entry 163. -/
def allocCurrent (s : State) (l : Nat) : Bool := decide ((s.link l).alloc[12]? = some (vcAlloc s l 12))

/-- A link enters UP after a full training, with the allocations that its CFG advertised (R84, R112, R113, R125, R175, R186). -/
def enterUp (l rtt : Nat) (lanes : List Nat) (s : State) : State :=
  let gen := (s.link l).trainGen
  let far := (s.link l).farCfg
  let pend := s.flag (Reg.planPending l)
  let current := allocCurrent s l
  let s := assignLanes l lanes (setLinkState l stUp s)
  let s := (s.setFld (Reg.lnkGen l) gen).setFld (Reg.lnkRtt l) rtt
  let s := s.setFld (Reg.portState l) 0
  let s := s.modLink l (fun k => restartStream
    { k with grace := .off, attempts := 0, txSeq := 0, ackSeq := 0xFFFF, discarding := false, nakDue := false,
             retry := [], replayFrom := none, crAccepted := [], crTotal := [], crDirty := [], crLast := 0, asm := [] })
  let s := forEach (fun v s => s.setFld (Reg.credit l v) ((far.bind (fun c => c.credits[v]?)).getD 0)) (List.range 14) s
  let s := rebindWaiting l s
  if pend then (if current then s.setFld (Reg.planPending l) 0 else s)
  else if belowPlan s l then moveCircuits l s else s

/-- A fast retrain starts (R87): UP is left for RETRAIN with the retry state kept; the third within 1 s is a full retrain (R88).
Substitutions in progress are abandoned, the failed lanes left for the retrain to assign (R92); slices are abandoned (R506). -/
def fastRetrain (l : Nat) (s : State) : State :=
  if !(linkUp s l) then s
  else
    let recent := (s.link l).fastAt.filter (fun t => decide (s.now < t + 1000 * ticksPerMs))
    if 2 ≤ recent.length then fullRetrain l (s.modLink l (fun k => { k with fastAt := [] }))
    else
      let failed := ((s.link l).subs.filter (fun u => !(isSwing u.lane) && !(s.rhs.slices.any (fun c =>
        decide ((targetsOf c.wing)[c.target]? = some (.lane l u.lane)))))).map (fun u => u.lane)
      let s := s.modLink l (fun k => { k with fastAt := recent ++ [s.now], badLanes := k.badLanes ++ failed, subs := [] })
      startGrace l (abandonLinkSlices l ((setLinkState l stRetrain s).setFld (Reg.lnkGen l) 0))

/-- R92: a lane fails with its swing in use: half width by a fast retrain, or DOWN with WIDTH_LOST. -/
def laneFails (l p : Nat) (s : State) : State :=
  let s := s.modLink l (fun k => { k with badLanes := if p ∈ k.badLanes then k.badLanes else k.badLanes ++ [p] })
  let healthy := (lanesOf l).filter (laneHealthy s l)
  if s.flag (Reg.allowHalf l) ∧ fullWidth l / 2 ≤ healthy.length then
    fastRetrain l (s.modLink l (fun k => { k with half := true }))
  else enterDown l stDown causeWidthLost s

/-! Sending. -/

/-- The credit report of a flit (R75): the VC whose change is oldest; with no change to report, the VCs in turn, so that the total of a
lost report is sent again. DESIGN CHOICE, log entry 158. -/
def nextReport (k : Link) : Nat := (k.crDirty[0]?).getD ((k.crLast + 1) % 14)

/-- Flits of this end were lost: every VC is reported again, those with a change first (R75). -/
def reportAgain (k : Link) : Link := { k with crDirty := k.crDirty ++ (List.range 14).filter (fun v => !(decide (v ∈ k.crDirty))) }

/-! The lanes of each direction while lanes are substituted (R91). -/

/-- The physical lane on which logical place i is sent now. -/
def laneTx (s : State) (l i : Nat) : Nat :=
  let p := laneAt s l i
  (((s.link l).subs.find? (fun u => decide (u.lane = p ∧ u.tx = 2))).map (fun u => u.onto)).getD p

/-- The physical lane from which logical place i is received now. -/
def laneRx (s : State) (l i : Nat) : Nat :=
  let p := laneAt s l i
  (((s.link l).subs.find? (fun u => decide (u.lane = p ∧ u.rx = 2))).map (fun u => u.onto)).getD p

/-- A swing that sends no traffic now: it carries null codewords (R90). -/
def swingIdle (s : State) (l p : Nat) : Bool :=
  isSwing p && !(s.flag (Reg.laneRetired l p)) && !((List.range (s.fld (Reg.lnkWidth l))).any (fun i => decide (laneTx s l i = p))) &&
  !((s.link l).subs.any (fun u => decide (u.onto = p ∧ u.tx = 1)))

/-- Put one flit on the next logical lane (R76), with its comma when due (R69); the lane that takes the codewords over sends them
too, and an unused swing sends a null codeword each round (R90, R91). -/
def putFlit (l : Nat) (payload : List Byte) (vc : Nat) (sof eof : Bool) (seq : Nat) (s : State) : State :=
  let k := s.link l
  let cr := nextReport k
  let ctl : FlitCtl := { vc := vc, sof := sof, eof := eof, txSeq := seq, ackSeq := k.ackSeq, nak := k.nakDue, crVc := cr,
                         crTotal := Tab.get (fun _ => 0) k.crTotal cr }
  let bytes := flitBytes payload ctl
  let w := max 1 (s.fld (Reg.lnkWidth l))
  let due := decide (k.txCount / w % 4096 = 0)
  let from_ := laneAt s l (k.txCount % w)
  let lane := laneTx s l (k.txCount % w)
  let put := fun (p : Nat) (b : List Byte) (st : State) =>
    let r := laneSend p due (Tab.get (fun _ => LaneCode.init) (st.link l).txLane p) b
    emit (.line l p r.1) (st.modLink l (fun k => { k with txLane := Tab.set (fun _ => LaneCode.init) k.txLane p r.2 }))
  let s := put lane bytes s
  let s := forEach (fun (u : LaneSub) s => if u.tx = 1 ∧ u.lane = from_ then put u.onto bytes s else s) k.subs s
  let idle := if k.txCount % w = 0 then (lanesOf l).filter (swingIdle s l) else []
  let null := flitBytes [] { ctl with vc := 15, sof := false, eof := false, txSeq := 0 }
  let s := forEach (fun p s => put p null s) idle s
  s.modLink l (fun k => { k with txCount := k.txCount + 1, nakDue := false, crDirty := k.crDirty.drop 1, crLast := cr })

/-- A null flit (R80, R118 step 5). -/
def putNull (l : Nat) (s : State) : State := pmcEvent evLinkNull l 1 (putFlit l [] 15 false false 0 s)

/-- Send a new sequenced flit and keep it for replay (R74, R80). -/
def putSequenced (l : Nat) (payload : List Byte) (vc : Nat) (sof eof : Bool) (epoch : Nat) (s : State) : State :=
  let k := s.link l
  let r : RetryFlit := { seq := k.txSeq, vc := vc, sof := sof, eof := eof, payload := payload, epoch := epoch, resends := 0 }
  let s := putFlit l payload vc sof eof k.txSeq s
  pmcEvent evLinkTx l 1 (s.modLink l (fun k => { k with txSeq := (k.txSeq + 1) % 65536, retry := k.retry ++ [r] }))

/-- A link message sent at once, ahead of what waits. -/
def putMessage (l : Nat) (m : LinkMsg) (s : State) : State := putSequenced l (Config.linkMsgBytes m) 14 true true 0 s

/-- The down message that this chip sends before its own act takes an UP link down (R74, R89). -/
def sayDown (l : Nat) (c : DownCause) (s : State) : State := if linkUp s l then putMessage l (.down c) s else s

/-- The retrain request (R74, R87). A full retry buffer takes no flit (R80): the far end then learns of the retrain from the lanes. -/
def sayRetrain (l : Nat) (s : State) : State := if 4096 ≤ (s.link l).retry.length then s else putMessage l .retrain s

/-- In RETRAIN every lane sends a comma and the training codeword, over and over (R87). -/
def putTraining (l : Nat) (s : State) : State :=
  forEach (fun p s => emit (.line l p (laneSend p true LaneCode.init Config.trainingFlit).1) s)
    ((lanesOf l).filter (fun p => !(s.flag (Reg.laneRetired l p)))) s

/-- Resend the retained flit of a SEQ and move on to the next (R79). -/
def putReplay (l seq : Nat) (s : State) : State :=
  match (s.link l).retry.find? (fun r => decide (r.seq = seq)) with
  | none => putNull l (s.modLink l (fun k => { k with replayFrom := none }))
  | some r =>
    let s := putFlit l r.payload r.vc r.sof r.eof r.seq s
    let next := (seq + 1) % 65536
    s.modLink l (fun k => { k with
      retry := k.retry.map (fun x => if x.seq = seq then { x with resends := x.resends + 1 } else x),
      replayFrom := if k.retry.any (fun x => decide (x.seq = next)) then some next else none })

/-! Egress arbitration (R118). -/

/-- A candidate at a link: the queued frame and the VC it would take. -/
structure Cand where
  q : QFrame
  vc : Nat
  deriving DecidableEq, Repr

/-- The VCs a queued frame may take at link l: its own, and its escape VC when it is eligible there (R134). -/
def candsOf (s : State) (l : Nat) (q : QFrame) : List Cand :=
  (if q.port = l then [{ q := q, vc := q.vc }] else []) ++
  (match q.esc with
   | some p => if p = l ∧ q.sent = 0 then [{ q := q, vc := escapeVc s (Frame.cls q.frame) l q.ing q.ingVc }] else []
   | none => [])

/-- The frame that a VC of the link has started and not ended (R107). -/
def startedOn (s : State) (l vc : Nat) : Option QFrame :=
  s.swc.queue.find? (fun q => decide (q.port = l) && decide (q.vc = vc) && decide (q.sent ≠ 0))

/-- A candidate may send its next cell: it is started, or its VC is free and it holds credit, and on VC 12 tokens, for the
whole frame (R107, R114, R167). -/
def mayGo (s : State) (l : Nat) (c : Cand) : Bool :=
  match startedOn s l c.vc with
  | some q => decide (q = c.q)
  | none =>
    decide (c.q.sent = 0) && decide (Frame.cells c.q.frame ≤ s.fld (Reg.credit l c.vc)) &&
    (if c.vc = 12 then firstOfCircuit s l c.q && tokensFor s l c.q.frame else true)

/-- Every ready candidate of a link. -/
def readyAt (s : State) (l : Nat) : List Cand := (s.swc.queue.flatMap (candsOf s l)).filter (mayGo s l)

/-- Earlier arrival, then lower ingress link (R168). -/
def earlier (a b : Cand) : Bool := decide (a.q.arr < b.q.arr) || (decide (a.q.arr = b.q.arr) && decide (a.q.ing < b.q.ing))

/-- Older by AGE, then lower ingress link, chip-internal last (R118). -/
def older (s : State) (a b : Cand) : Bool :=
  let x := ageNow s a.q.frame a.q.ing a.q.arr
  let y := ageNow s b.q.frame b.q.ing b.q.arr
  decide (y < x) || (decide (x = y) && decide (a.q.ing < b.q.ing))

/-- The best of a list under a strict preference, the first on a tie. -/
def bestBy (better : Cand → Cand → Bool) : List Cand → Option Cand
  | [] => none
  | c :: t => match bestBy better t with
    | none => some c
    | some d => if better d c then some d else some c

/-- Deficit round robin over cells among the ready classes (R118 step 3): the next class in turn with a deficit of at least one cell;
when none has one, every ready class gains its weight, one of 0 counting as 1, and the others lose theirs. DESIGN CHOICE, log entry
27. -/
def pickClass (s : State) (k : Link) (ready : List Nat) : Option (Nat × List Nat) :=
  let order := ((List.range 4).map (fun i => (k.drr + i) % 4)).filter (fun c => decide (c ∈ ready))
  match order.find? (fun c => decide (1 ≤ (k.deficits[c]?).getD 0)) with
  | some c => some (c, k.deficits)
  | none =>
    match order[0]? with
    | none => none
    | some c => some (c, (List.range 4).map (fun i =>
        if i ∈ ready then (k.deficits[i]?).getD 0 + max 1 (s.fld (Reg.classWeight i)) else 0))

/-- A response has passed back to its source through an edge port (R117, R205). -/
def passedBack (l : Nat) (f : Frame) (s : State) : State :=
  if tyRspData ≤ Frame.type f ∧ Frame.type f ≤ tyRspErr then retireEdgeReq l (Frame.tag f) (Frame.seq f) s else s

/-- Send the next cell of a candidate; the credit of a cell in the reserve returns as that cell leaves (R115). -/
def sendCell (l : Nat) (c : Cand) (s : State) : State :=
  let q := c.q
  let first := decide (q.sent = 0)
  let cells := Frame.cells q.frame
  let f := if first then Frame.putBits q.frame 56 12 (ageNow s q.frame q.ing q.arr) else q.frame
  let s := if first ∧ c.vc = 12 then spendTokens (Frame.circuit q.frame) l cells s else s
  let s := if first ∧ c.vc ≠ q.vc ∧ q.vc < 12 then pmcEvent evEsc l 1 (s.count Reg.escTaken) else s
  let s := if ownCircuit q then leavePending (Frame.circuit q.frame) 1 s else s
  let last := decide (q.sent + 1 = cells)
  let s := s.setFld (Reg.credit l c.vc) (s.fld (Reg.credit l c.vc) - 1)
  let s := pmcEvent evVcCells (l * 14 + c.vc) 1 s
  let s := putSequenced l (Frame.cell f q.sent) c.vc first last (Frame.epoch q.frame) s
  let s := if q.copy = false ∧ q.kept[0]? = some true then returnCredit q.ing q.ingVc 1 s else s
  let q' : QFrame := { q with port := l, vc := c.vc, esc := none, sent := q.sent + 1, kept := if q.copy then q.kept else q.kept.drop 1 }
  let s := if last ∧ l < 8 then passedBack l q.frame s else s
  let s := if last then releaseStored q' (s.modSwc (fun w => { w with queue := w.queue.erase q }))
    else s.modSwc (fun w => { w with queue := w.queue.map (fun o => if o = q then q' else o) })
  if ownCircuit q then admitCircuits s else s

/-- Record an ASIDE position in the history of the last 63. -/
def noteAside (l : Nat) (b : Bool) (s : State) : State :=
  s.modLink l (fun k => { k with asideHist := (b :: k.asideHist).take 63 })

/-- R120 at an egress: frames that may leave by the link, its escape port included, and are beyond the age limit are discarded before
their first cell leaves. -/
def purgeAged (l : Nat) (s : State) : State :=
  let old := s.swc.queue.filter (fun q => decide (q.port = l ∨ q.esc = some l) && decide (q.sent = 0) && tooOld s q.frame q.ing q.arr)
  forEach (fun q s =>
    let s := releaseStored q (discard Reg.aged 6 q.ing q.frame (s.modSwc (fun w => { w with queue := w.queue.erase q })))
    if Frame.isRequest q.frame then answerErr q.frame Err.agedOut s else s) old s

/-- Fill one flit position (R118), a replay and a waiting link message first. UNVERIFIED, log entry 7. DEDUCED, log entry 28. -/
def fillPosition (l : Nat) (s : State) : State :=
  let s := purgeAged l s
  let k := s.link l
  match k.replayFrom with
  | some seq => noteAside l (k.retry.any (fun r => decide (r.seq = seq ∧ r.vc = 13))) (putReplay l seq s)
  | none =>
    if 4096 ≤ k.retry.length then noteAside l false (putNull l s)
    else match k.msgs with
    | m :: t =>
      noteAside l false (putMessage l m (s.modLink l (fun k => { k with msgs := t })))
    | [] =>
      let ready := readyAt s l
      let aside := bestBy earlier (ready.filter (fun c => decide (c.vc = 13)))
      let cir := bestBy earlier (ready.filter (fun c => decide (c.vc = 12)))
      let open_ := ready.filter (fun c => decide (c.vc < 12))
      let few := decide ((k.asideHist.filter (fun b => b)).length < 4)
      match aside, cir with
      | some a, none => if few ∨ open_.isEmpty then noteAside l true (sendCell l a s) else openTurn l open_ (some a) s
      | some a, some c => if few then noteAside l true (sendCell l a s) else noteAside l false (sendCell l c s)
      | none, some c => noteAside l false (sendCell l c s)
      | none, none => openTurn l open_ none s
where
  /-- Steps 3 to 5: the classes in turn, else the ASIDE cell, else a null flit. -/
  openTurn (l : Nat) (open_ : List Cand) (aside : Option Cand) (s : State) : State :=
    let k := s.link l
    let classes := (List.range 4).filter (fun c => open_.any (fun x => decide (x.vc / 3 = c)))
    match pickClass s k classes with
    | none => match aside with
      | some a => noteAside l true (sendCell l a s)
      | none => noteAside l false (putNull l s)
    | some (c, d) =>
      match bestBy (older s) (open_.filter (fun x => decide (x.vc / 3 = c))) with
      | none => noteAside l false (putNull l s)
      | some x =>
        let left := (d[c]?).getD 0 - 1
        let s := s.modLink l (fun k => { k with deficits := setAt d c left, drr := if left = 0 then (c + 1) % 4 else c })
        noteAside l false (sendCell l x s)

/-! Receiving. -/

/-- Sequence distance from `a` to `b`, modulo 65,536. -/
def seqDist (a b : Nat) : Nat := (b + 65536 - a) % 65536

/-- ACK_SEQ of a received flit: retained flits up to it are released (R79). -/
def takeAck (l ack : Nat) (s : State) : State :=
  s.modLink l (fun k =>
    match k.retry with
    | [] => k
    | r :: _ =>
      let n := seqDist r.seq ack + 1
      if n ≤ 4096 ∧ n ≤ k.retry.length then
        let rest := k.retry.drop n
        { k with retry := rest,
                 replayFrom := k.replayFrom.bind (fun q => if rest.any (fun x => decide (x.seq = q)) then some q else none) }
      else k)

/-- A credit report (R75, R112). -/
def takeReport (l vc total : Nat) (s : State) : State :=
  if 14 ≤ vc then s
  else
    let old := Tab.get (fun _ => 0) (s.link l).crAccepted vc
    let s := s.modLink l (fun k => { k with crAccepted := Tab.set (fun _ => 0) k.crAccepted vc total })
    s.addFld (Reg.credit l vc) (seqDist old total)

/-- NAK of a received flit: replay from ACK_SEQ + 1 (R79); what the lost flits reported is reported again (R75). -/
def takeNak (l ack : Nat) (s : State) : State :=
  let s := s.modLink l reportAgain
  let first := (ack + 1) % 65536
  if (s.link l).retry.any (fun r => decide (r.seq = first)) then
    pmcEvent evLinkReplays l 1 ((s.modLink l (fun k => { k with replayFrom := some first })).count (Reg.retryCount l))
  else s

/-- A flit that is not accepted: NAK once, then discard until the expected one (R78). -/
def refuseFlit (l : Nat) (s : State) : State :=
  s.modLink l (fun k => if k.discarding then k else { k with discarding := true, nakDue := true })

/-- The frame being received on a VC. -/
def asmOf (k : Link) (vc : Nat) : RxAsm :=
  ((k.asm.find? (fun a => decide (a.1 = vc))).map (fun a => a.2)).getD { bytes := [], cells := 0, kept := [], dropping := false }

def putAsm (vc : Nat) (a : RxAsm) (k : Link) : Link :=
  let rest := k.asm.filter (fun x => decide (x.1 ≠ vc))
  { k with asm := if a.cells = 0 ∧ a.dropping = false then rest else rest ++ [(vc, a)] }

/-- The received frame of a VC is whole, or is cut short: it waits for its ingress checks from `now`. -/
def finishAsm (now vc : Nat) (eof : Bool) (dropping : Bool) (k : Link) : Link :=
  let a := asmOf k vc
  let k := putAsm vc { bytes := [], cells := 0, kept := [], dropping := dropping } k
  if a.cells = 0 then k
  else { k with frames := k.frames ++ [{ vc := vc, bytes := a.bytes, cells := a.cells, kept := a.kept, eof := eof, arr := now }] }

/-- A cell arrives on a VC (R107, R109, R115): SOF ends what went before; a frame ends at EOF or at the last cell that R106 gives. The
spec does not say what a cell without SOF is when no frame is open on its VC; DESIGN CHOICE, log entry 168: the first cell of one. -/
def takeCell (l vc : Nat) (sof eof : Bool) (payload : List Byte) (s : State) : State :=
  let s := if sof then s.modLink l (finishAsm s.now vc false false) else s
  let a := asmOf (s.link l) vc
  if a.dropping then
    let s := if eof then s.modLink l (putAsm vc { bytes := [], cells := 0, kept := [], dropping := false }) else s
    returnCredit l vc 1 s
  else
    let room := roomInShared s l vc
    let s := if room then returnCredit l vc 1 s else s
    let b := a.bytes ++ payload
    let n := a.cells + 1
    let need := cellsOfLen (bitsOf (leAt b 0 32) 15 9)
    let s := s.modLink l (putAsm vc { bytes := b, cells := n, kept := a.kept ++ [!room], dropping := false })
    let s := noteSharedFull (wingOfLink l) s
    if eof then s.modLink l (finishAsm s.now vc true false)
    else if need ≤ n then s.modLink l (finishAsm s.now vc false true)
    else s

/-- The ACK, credit report and NAK of an accepted flit (R75, R79). -/
def takeControl (l : Nat) (c : FlitCtl) (s : State) : State :=
  let s := takeReport l c.crVc c.crTotal (takeAck l c.ackSeq s)
  if c.nak then takeNak l c.ackSeq s else s

/-- An intact flit (R78): a null flit and the expected sequenced flit are accepted, any other is discarded, its credit report delayed with
it (R75). -/
def takeFlit (l : Nat) (payload : List Byte) (c : FlitCtl) (s : State) : State :=
  if c.vc = 15 then takeControl l c s
  else if c.txSeq = ((s.link l).ackSeq + 1) % 65536 then
    let s := (takeControl l c s).modLink l (fun k => { k with ackSeq := c.txSeq, discarding := false })
    let s := pmcEvent evLinkRx l 1 s
    if c.vc = 14 then s else takeCell l c.vc c.sof c.eof payload s
  else refuseFlit l s

/-- An uncorrectable codeword on a lane (R73, R78): the counters and NAK. -/
def badCodeword (l p : Nat) (s : State) : State :=
  refuseFlit l ((s.satFld (Reg.laneUncorr l p) 1).count (Reg.fecUncorr l))

/-- Receive one codeword: the next in the deal of R76, on the physical lane that LANE_MAP gives; commas that do not stand where they are
due are counted in a row (R69). -/
def receiveCodeword (l : Nat) (symbols : List Nat) (s : State) : State :=
  let k := s.link l
  let w := max 1 (s.fld (Reg.lnkWidth l))
  let due := decide (k.rxCount / w % 4096 = 0)
  let p := laneRx s l (k.rxCount % w)
  let missed := if commaMet symbols then 0 else Tab.get (fun _ => 0) k.missed p + 1
  let r := laneReceive p due (Tab.get (fun _ => LaneCode.init) k.rxLane p) symbols
  let s := s.modLink l (fun k => { k with rxCount := k.rxCount + 1, windowCount := k.windowCount + 1,
                                          rxLane := Tab.set (fun _ => LaneCode.init) k.rxLane p r.2,
                                          missed := if due then Tab.set (fun _ => 0) k.missed p missed else k.missed })
  match r.1 with
  | none => badCodeword l p s
  | some (bytes, n) =>
    let s := (s.satFld (Reg.laneCorr l p) n).addFld (Reg.fecCorr l) n
    match readFlit bytes with
    | none => badCodeword l p s
    | some (payload, c) => takeFlit l payload c s

/-! Lane substitution at commas (R91). -/

/-- The logical place that a physical lane holds. -/
def placeOf (s : State) (l p : Nat) : Option Nat := (List.range (s.fld (Reg.lnkWidth l))).find? (fun i => decide (laneAt s l i = p))

/-- The comma after the doubled codewords: the receivers take the other lane, and the first is freed. A swing that now carries
traffic for a failure leaves its site none (R512). -/
def completeSub (l : Nat) (u : LaneSub) (s : State) : State :=
  let s := match placeOf s l u.lane with
    | some i => setLaneAt l i u.onto s
    | none => s
  let s := s.modLink l (fun k => { k with subs := k.subs.erase u })
  let s := s.setFld (Reg.lnkSwings l) (swingsUsed s l)
  if isSwing u.onto ∧ (s.flag (Reg.laneSubst l u.lane) ∨ s.flag (Reg.laneRetired l u.lane)) then swingLowAlert s else s

/-- The next codeword of a direction follows a comma. -/
def atComma (s : State) (l count : Nat) : Bool := decide (count % (4096 * max 1 (s.fld (Reg.lnkWidth l))) = 0)

/-- A comma moves a substitution on in each direction that stands at one (R91): both lanes are used, then the other alone. -/
def LaneSub.advance (u : LaneSub) (k : Link) (tx rx : Bool) : LaneSub :=
  let u := if tx ∧ u.tx < 2 ∧ u.txAt ≠ some k.txCount then { u with tx := u.tx + 1, txAt := some k.txCount } else u
  if rx ∧ u.rx < 2 ∧ u.rxAt ≠ some k.rxCount then { u with rx := u.rx + 1, rxAt := some k.rxCount } else u

/-- A comma on the link: the first substitution of each site moves on, and is complete when both directions use the other lane. -/
def subComma (l : Nat) (s : State) : State :=
  let k := s.link l
  let tx := atComma s l k.txCount
  let rx := atComma s l k.rxCount
  let firsts := k.subs.filter (fun u => (k.subs.find? (fun v => decide (swingOf v.lane = swingOf u.lane))) = some u)
  let s := s.modLink l (fun k => { k with subs := k.subs.map (fun v => if v ∈ firsts then v.advance k tx rx else v) })
  forEach (completeSub l) ((s.link l).subs.filter (fun u => decide (u.tx = 2 ∧ u.rx = 2))) s

end Sys2Proof.Machine
end

