-- ==== Sys2Proof/Machine/MemOps.lean ====
section
/-! DEFINITION. The pool (R189 to R222): interleave sets, C288 lines, the duplicate filter, atomics, the checks of Table 07-6,
mirrors, channel strike and failure. -/
namespace Sys2Proof.Machine

def State.modMem (s : State) (f : Mem → Mem) : State := { s with mem := f s.mem }
def State.chan (s : State) (n : Nat) : Chan := Tab.get (fun _ => Chan.init) s.mem.chans n
def State.setChan (s : State) (n : Nat) (c : Chan) : State :=
  s.modMem (fun m => { m with chans := Tab.set (fun _ => Chan.init) m.chans n c })

/-- Channel states of Table 07-9 and set states of Table 07-10. -/
def chEmpty : Nat := 0
def chTraining : Nat := 1
def chReady : Nat := 2
def chStruck : Nat := 3
def chFailed : Nat := 4
def chQuarantine : Nat := 5
def setOff : Nat := 0
def setZeroing : Nat := 1
def setInService : Nat := 2
def setStruck : Nat := 3
def setFailed : Nat := 4

/-- 24 hours in house-clock periods. -/
def ticks24h : Nat := 24 * 3600 * 1000 * ticksPerMs

/-! Interleave sets (R198). -/

def channelsOf (mask : Nat) : List Nat := (List.range 12).filter (fun c => mask.testBit c)

/-- GiB of a DIMM of `gb` GB, rounded down. -/
def gibOf (gb : Nat) : Nat := gb * 10 ^ 9 / 2 ^ 30

/-- Size in GiB of a set over a mask (R198). -/
def sizeOfMask (s : State) (mask : Nat) : Nat :=
  match (channelsOf mask).map (fun c => gibOf (s.fld (Reg.chCapacity c))) with
  | [] => 0
  | x :: t => (t.foldl min x) * (t.length + 1)

/-- Installed sets. -/
def installedSets (s : State) : List Nat := (List.range 12).filter (fun k => s.flag (Reg.setValid k))

/-- Byte offset at which a set starts and its length. -/
def setStart (s : State) (k : Nat) : Nat := s.fld (Reg.setBase k) * 2 ^ 30
def setBytes (s : State) (k : Nat) : Nat := s.fld (Reg.setSize k) * 2 ^ 30

/-- The set that holds the span [o, o + n). -/
def setOfSpan (s : State) (o n : Nat) : Option Nat :=
  (installedSets s).find? (fun k => decide (setStart s k ≤ o) && decide (o + n ≤ setStart s k + setBytes s k))

/-- Channel and channel byte address of an offset of set k (R198). -/
def dramPlace (s : State) (k o : Nat) : Nat × Nat :=
  let ms := channelsOf (s.fld (Reg.setMask k))
  let r := o - setStart s k
  let g := r / 4096
  ((ms[g % ms.length]?).getD 0, g / ms.length * 4096 + r % 4096)

def dramKey (p : Nat × Nat) : Nat := p.1 * 2 ^ 40 + p.2
def lineKey (p : Nat × Nat) : Nat := p.1 * 2 ^ 34 + p.2 / 64

/-- Unlisted DRAM reads 0: a range is zeroed before it enters service (R199). -/
def dramByte (s : State) (key : Nat) : Byte := Tab.get (fun _ => 0) s.mem.dram key

/-- The set in service with the highest base (R197). -/
def highestSet (s : State) : Option Nat :=
  (installedSets s).foldl (fun best k =>
    if s.fld (Reg.setState k) ≠ setInService then best
    else match best with
      | none => some k
      | some b => if s.fld (Reg.setBase b) < s.fld (Reg.setBase k) then some k else best) none

/-- The filter store is the top 64 MiB of the in-service set with the highest base (R197). DEDUCED, log entry 37. DEDUCED, log entry 68.
-/
def placeFilter (s : State) : State :=
  match highestSet s with
  | none => s.setFld Reg.filterBase 0
  | some k => s.setFld Reg.filterBase (setStart s k + setBytes s k - 64 * 2 ^ 20)

/-- A span touches the filter store. -/
def touchesFilter (s : State) (o n : Nat) : Bool :=
  let b := s.fld Reg.filterBase
  decide (b ≠ 0) && decide (o < b + 64 * 2 ^ 20) && decide (b < o + n)

/-! Lines (R200 to R203). -/

/-- Bytes of a line as they stand in DRAM. -/
def lineData (s : State) (c line : Nat) : List Byte := Tab.getRange (fun _ => 0) s.mem.dram (c * 2 ^ 40 + line * 64) 64

/-- The ten devices of a burst, eight bytes each: four symbols of word 0, four of word 1; device 9 is the parity (R200). -/
def burstOf (data : List Byte) : List (List Byte) :=
  let w0 := data.take 32 ++ Config.c288Check (data.take 32)
  let w1 := data.drop 32 ++ Config.c288Check (data.drop 32)
  let devs := (List.range 9).map (fun d => (w0.drop (4 * d)).take 4 ++ (w1.drop (4 * d)).take 4)
  devs ++ [devs.foldl (List.zipWith (· ^^^ ·)) (List.replicate 8 0)]

def xorDev (a b : List Byte) : List Byte := List.zipWith (· ^^^ ·) a b

/-- A burst with an error pattern of 80 bytes, device by device. -/
def disturb (burst : List (List Byte)) (err : List Byte) : List (List Byte) :=
  burst.zipIdx.map (fun (d, i) => xorDev d ((err.drop (8 * i)).take 8))

/-- Word w of a burst, 36 symbols. -/
def burstWord (b : List (List Byte)) (w : Nat) : List Byte := (b.take 9).flatMap (fun d => (d.drop (4 * w)).take 4)

/-- Device d rebuilt from the XOR of the other nine. -/
def rebuild (b : List (List Byte)) (d : Nat) : List (List Byte) :=
  let others := (b.zipIdx.filter (fun x => decide (x.2 ≠ d))).map (fun x => x.1)
  setAt b d (others.foldl xorDev (List.replicate 8 0))

/-- A word with zero syndrome. UNVERIFIED, log entry 10. -/
def wordClean (w : List Byte) : Bool := decide (Config.c288Check (w.take 32) = w.drop 32)

/-- The words with zero syndrome that differ from `w` in one symbol. -/
def oneSymbolAway (w : List Byte) : List (List Byte) :=
  ((List.range 36).flatMap (fun i => (List.range 256).map (fun v => setAt w i (BitVec.ofNat 8 v)))).filter wordClean

/-- Decode a C288 word, which corrects one symbol (R201): the word and how many symbols changed, or none. UNVERIFIED, log entry 10. -/
def c288Decode (w : List Byte) : Option (List Byte × Nat) :=
  if wordClean w then some (w, 0)
  else match oneSymbolAway w with
    | [x] => some (x, 1)
    | _ => none

/-- What the check of a line finds (R201). -/
inductive LineCheck where
  | clean
  | corrected (data : List Byte)
  | rebuilt (device : Nat) (data : List Byte)
  | bad
  deriving DecidableEq, Repr

/-- R201 on a disturbed burst. -/
def checkBurst (b : List (List Byte)) : LineCheck :=
  let byParity :=
    match (List.range 10).filter (fun d => wordClean (burstWord (rebuild b d) 0) && wordClean (burstWord (rebuild b d) 1)) with
    | [d] => .rebuilt d ((burstWord (rebuild b d) 0).take 32 ++ (burstWord (rebuild b d) 1).take 32)
    | _ => .bad
  match c288Decode (burstWord b 0), c288Decode (burstWord b 1) with
  | some (w0, n0), some (w1, n1) =>
    let fixed := (List.range 9).map (fun d => (w0.drop (4 * d)).take 4 ++ (w1.drop (4 * d)).take 4)
    if n0 ≤ 1 ∧ n1 ≤ 1 ∧ fixed.foldl xorDev (List.replicate 8 0) = (b[9]?).getD [] then .corrected (w0.take 32 ++ w1.take 32)
    else byParity
  | _, _ => byParity

/-- Check a line that is read with an error pattern on it; a marked device is rebuilt first (R201, R202). -/
def checkLine (s : State) (c line : Nat) (err : List Byte) : LineCheck :=
  if err.all (fun b => decide (b = 0)) then .clean
  else
    let b := disturb (burstOf (lineData s c line)) err
    let mark := s.fld (Reg.chMark c (line % 2))
    checkBurst (if mark = 0 then b else rebuild b (mark - 1))

/-- Log an uncorrectable line (R203, R204, R222). -/
def logUe (c line off kind : Nat) (s : State) : State :=
  let s := s.modMem (fun m => { m with ue := if c * 2 ^ 34 + line ∈ m.ue then m.ue else m.ue ++ [c * 2 ^ 34 + line] })
  let v := off / 64 * 64 % 2 ^ 47 + c * 2 ^ 47 + kind * 2 ^ 51
  (((s.setFld Reg.ueLog v).setFld Reg.ueTime s.now).count (Reg.chUe c)).raise Reg.memUncorr

/-- Meet the errors of a line on a read: corrected and rebuilt lines are counted, an uncorrectable one is listed. -/
def meetErrors (c line off kind : Nat) (err : List Byte) (s : State) : State :=
  match checkLine s c line err with
  | .clean => s
  | .corrected _ => s.count (Reg.chCe c)
  | .rebuilt d _ =>
    (s.count (Reg.chCe c)).modMem (fun m => { m with rebuilds := m.rebuilds ++ [((c * 2 + line % 2) * 10 + d, s.now)] })
  | .bad => logUe c line off kind s

/-- The data that a read of a line brings: corrected or rebuilt where the check says so (R201). -/
def lineSeen (s : State) (c line : Nat) (err : List Byte) : List Byte :=
  match checkLine s c line err with
  | .clean => lineData s c line
  | .corrected d => d
  | .rebuilt _ d => d
  | .bad => lineData s c line

/-- A whole line as it was read goes back to DRAM. -/
def lineBack (c line : Nat) (data : List Byte) (s : State) : State :=
  s.modMem (fun m => { m with dram := Tab.setRange (fun _ => 0) m.dram (c * 2 ^ 40 + line * 64) data })

/-- A line is uncorrectable. -/
def isUe (s : State) (key : Nat) : Bool := decide (key ∈ s.mem.ue)

/-- The lines of a span of set k: (offset of the line's first byte in the span, bytes in it). -/
def linesOf (o n : Nat) : List (Nat × Nat) :=
  if n = 0 then []
  else (List.range ((o + n - 1) / 64 - o / 64 + 1)).map (fun i =>
    let a := max o ((o / 64 + i) * 64)
    (a, min (o + n) ((o / 64 + i + 1) * 64) - a))

/-- Bytes of a span of the local pool. -/
def poolRead (s : State) (k o n : Nat) : List Byte := (List.range n).map (fun i => dramByte s (dramKey (dramPlace s k (o + i))))

/-- Write bytes to the local pool. -/
def poolPoke (k o : Nat) (bs : List Byte) (s : State) : State :=
  let d := (bs.zipIdx).foldl (fun t (b, i) => Tab.set (fun _ => 0) t (dramKey (dramPlace s k (o + i))) b) s.mem.dram
  s.modMem (fun m => { m with dram := d })

/-- Whether a span reads whole, and where it fails first. -/
def firstUe (s : State) (k o n : Nat) : Option Nat :=
  ((linesOf o n).find? (fun l => isUe s (lineKey (dramPlace s k l.1)))).map (fun l => l.1)

/-- Write a span line by line (R203): a whole line is applied and is correctable again; part of an uncorrectable line is left. -/
def poolWrite (k o : Nat) (bs : List Byte) (s : State) : State :=
  forEach (fun (l : Nat × Nat) s =>
    let key := lineKey (dramPlace s k l.1)
    let piece := (bs.drop (l.1 - o)).take l.2
    if l.2 = 64 then
      pmcEvent evDdrWrites (dramPlace s k l.1).1 1
        (poolPoke k l.1 piece (s.modMem (fun m => { m with ue := m.ue.filter (fun u => decide (u ≠ key)) })))
    else if isUe s key then s
    else pmcEvent evDdrWrites (dramPlace s k l.1).1 1 (poolPoke k l.1 piece s)) (linesOf o bs.length) s

/-- A line of the write that covers only part of an uncorrectable line. -/
def partialUe (s : State) (k o n : Nat) : Option Nat :=
  ((linesOf o n).find? (fun l => decide (l.2 ≠ 64) && isUe s (lineKey (dramPlace s k l.1)))).map (fun l => l.1)

/-- Channels of a span. -/
def chansOfSpan (s : State) (k o n : Nat) : List Nat := ((linesOf o n).map (fun l => (dramPlace s k l.1).1)).eraseDups

/-! The duplicate filter (R157, R159). -/

/-- Verdict of the filter on a request. -/
inductive FilterVerdict where
  | apply
  | again
  | kept (bytes : List Byte)
  | tooOld
  deriving DecidableEq, Repr

def windowOf (s : State) (src home : Nat) : Option Window :=
  s.swc.filter.find? (fun w => decide (w.src = src) && decide (w.home = home))

def filterJudge (s : State) (src home seq : Nat) (atom : Bool) : FilterVerdict :=
  match windowOf s src home with
  | none => .apply
  | some w =>
    if seqAhead w.high seq then .apply
    else
      let back := (w.high + 2 ^ 24 - seq) % 2 ^ 24
      if 4096 ≤ back then .tooOld
      else if seq ∈ w.applied then
        if atom then
          match w.atoms.find? (fun a => decide (a.1 = seq)) with
          | some a => .kept a.2
          | none => .tooOld
        else .again
      else .apply

/-- Enter an applied request in the filter; `result` is an atomic's. -/
def filterEnter (src home seq : Nat) (result : Option (List Byte)) (s : State) : State :=
  let old : Window := (windowOf s src home).getD { src := src, home := home, high := seq, applied := [], atoms := [] }
  let high := if seqAhead old.high seq then seq else old.high
  let inWin := fun (x : Nat) => decide ((high + 2 ^ 24 - x) % 2 ^ 24 < 4096)
  let w : Window := { old with
    high := high
    applied := (old.applied.filter inWin) ++ [seq]
    atoms := match result with
      | some b => (((seq, b) :: old.atoms).take 16)
      | none => old.atoms }
  let rest := s.swc.filter.filter (fun x => !(decide (x.src = src) && decide (x.home = home)))
  s.modSwc (fun c => { c with filter := rest ++ [w] })

/-- The source of a frame as the filter names it. -/
def sourceOf (f : Frame) : Nat := Frame.src f * 16 + Frame.srcPort f

/-- Some channel works (R159). -/
def anyChannel (s : State) : Bool := (List.range 12).any (fun c => decide (s.fld (Reg.chState c) = chReady))

/-- Apply a REQ_WR or REQ_ATOM that passed its unit's checks, under the filter (R157, R159): `act` performs it and answers with
the atomic's result, if it is one. -/
def filtered (f : Frame) (home : Nat) (act : State → State × Option (List Byte)) (s : State) : State :=
  let atom := decide (Frame.type f = tyReqAtom)
  if !(anyChannel s) then answerErr f Err.targetGone s
  else match filterJudge s (sourceOf f) home (Frame.seq f) atom with
  | .apply =>
    let r := act s
    let s := filterEnter (sourceOf f) home (Frame.seq f) r.2 r.1
    (match r.2 with
     | some b => answerData f b s
     | none => answerAck f s)
  | .again => answerAck f (s.count Reg.dupDrop)
  | .kept b => answerData f b (s.count Reg.dupDrop)
  | .tooOld => answerErr f Err.e2eTimeout (s.count Reg.dupDrop)

/-! Atomics (R208, R209). -/

def atomFunc (f : Frame) : Nat := Frame.op f % 16
def atomSize (f : Frame) : Nat := 4 * 2 ^ (Frame.op f / 16 % 4)
def atomVec (f : Frame) : Bool := decide (Frame.op f / 64 = 1)

/-- OP, LEN and alignment of a REQ_ATOM are accepted. -/
def atomOk (f : Frame) : Bool :=
  let func := atomFunc f
  let size := Frame.op f / 16 % 4
  let vec := Frame.op f / 64
  let len := Frame.len f
  decide (func ≤ 10) && decide (size ≤ 2) && decide (vec ≤ 1) &&
  (decide (size ≠ 2) || (decide (func = 1 ∨ func = 2) && decide (vec = 0))) &&
  (decide (vec = 0) || decide (func ≠ 1 ∧ func ≠ 2)) &&
  (decide (func ≠ 10) || decide (size = 0)) &&
  (if vec = 0 then decide (len = if func = 2 ∧ size = 2 then 2 else 1) && decide (Frame.addr f % atomSize f = 0)
   else decide (len = 1 ∨ len = 2 ∨ len = 4) && decide (Frame.addr f % (len * 16) = 0))

/-- Bytes that an atomic reads and writes. -/
def atomSpan (f : Frame) : Nat := if atomVec f then Frame.len f * 16 else atomSize f

/-- The new value of one element. -/
def atomValue (func size old a b : Nat) : Nat :=
  let w := 8 * size
  match func with
  | 0 => (old + a) % 2 ^ w
  | 1 => a
  | 2 => if old = a then b else old
  | 3 => old &&& a
  | 4 => old ||| a
  | 5 => old ^^^ a
  | 6 => if signedOf w old < signedOf w a then a else old
  | 7 => if signedOf w a < signedOf w old then a else old
  | 8 => max old a
  | 9 => min old a
  | _ => toF32 (FVal.add (f32 old) (f32 a))

/-- The new bytes of the span of an atomic over its old bytes. -/
def atomApply (f : Frame) (old : List Byte) : List Byte :=
  let size := atomSize f
  (List.range (atomSpan f / size)).flatMap (fun i =>
    leBytes size (atomValue (atomFunc f) size (leAt old (i * size) size) (leAt f.payload (i * size) size)
      (leAt f.payload (size + i * size) size)))

/-- The answer's bytes: the old values, padded to LEN × 16. -/
def atomAnswer (f : Frame) (old : List Byte) : List Byte := padTo (if atomVec f then Frame.len f * 16 else 16) old

/-! Mirror regions and copy windows (R212 to R217). -/

def regOff : Nat := 0
def regSyncing : Nat := 1
def regMirrored : Nat := 2
def regBroken : Nat := 3
def winOff : Nat := 0
def winFilling : Nat := 1
def winValid : Nat := 2
def winStale : Nat := 3

/-- Regions whose MODE is not OFF. -/
def liveRegions (s : State) : List Nat := (List.range 16).filter (fun k => s.fld (Reg.mregMode k) ≠ 0)

/-- The live regions that a span touches. -/
def regionsOf (s : State) (o n : Nat) : List Nat :=
  (liveRegions s).filter (fun k =>
    let b := s.fld (Reg.mregBase k) * 2 ^ 30
    decide (o < b + s.fld (Reg.mregSize k) * 2 ^ 30) && decide (b < o + n))

/-- The enabled window that holds a span at or above 4 TiB, and the local offset of its first byte. -/
def windowOfSpan (s : State) (o n : Nat) : Option (Nat × Nat) :=
  ((List.range 16).find? (fun k =>
    let b := (s.fld (Reg.mwinBase k) + s.fld (Reg.mwinOff k)) * 2 ^ 30
    s.flag (Reg.mwinEnable k) && decide (b ≤ o) && decide (o + n ≤ b + s.fld (Reg.mwinSize k) * 2 ^ 30))).map (fun k =>
      (k, s.fld (Reg.mwinLocal k) * 2 ^ 30 + o - (s.fld (Reg.mwinBase k) + s.fld (Reg.mwinOff k)) * 2 ^ 30))

/-- A span below 4 TiB touches the copy storage of an enabled window. -/
def touchesCopy (s : State) (o n : Nat) : Bool :=
  (List.range 16).any (fun k =>
    let b := s.fld (Reg.mwinLocal k) * 2 ^ 30
    s.flag (Reg.mwinEnable k) && decide (o < b + s.fld (Reg.mwinSize k) * 2 ^ 30) && decide (b < o + n))

/-- 4,096 requests of the chip's own units are outstanding to a chip (R158). -/
def ownFull (s : State) (dest : Nat) : Bool :=
  decide (4096 ≤ (s.swc.own.filter (fun r => decide (Frame.dest r.frame = dest))).length)

/-- Send a request of the chip's own units and keep it outstanding (R154, R155). -/
def launchOwn (why : Purpose) (wing dest ty addr op : Nat) (payload : List Byte) (s : State) : State :=
  let (seq, s) := takeSeq dest 0 s
  let tag := s.swc.nextTag
  let f := mkFrame ty dest 8 (myChip s) 8 tag seq 0 addr op payload
  let s := s.modSwc (fun w => { w with nextTag := (tag + 1) % 2 ^ 20,
                                       own := w.own ++ [{ frame := f, attempts := 1, aged := 0, why := why, sentAt := s.now }] })
  sendRequest wing f s

/-- A request of the chip's own units goes, or waits behind those that R158 holds back. -/
def sendOwn (why : Purpose) (wing dest ty addr op : Nat) (payload : List Byte) (s : State) : State :=
  if ownFull s dest || s.swc.ownWait.any (fun x => decide (x.dest = dest)) then
    s.modSwc (fun w => { w with ownWait := w.ownWait ++
      [{ why := why, wing := wing, dest := dest, ty := ty, addr := addr, op := op, payload := payload }] })
  else launchOwn why wing dest ty addr op payload s

/-- The next request that R158 holds back from a chip goes once it may. -/
def sendWaiting (dest : Nat) (s : State) : State :=
  match s.swc.ownWait.find? (fun x => decide (x.dest = dest)) with
  | none => s
  | some x =>
    if ownFull s dest then s
    else launchOwn x.why x.wing x.dest x.ty x.addr x.op x.payload (s.modSwc (fun w => { w with ownWait := w.ownWait.erase x }))

/-- The mirror header (Table 07-7). -/
def mirrorHeader (origin seq flags rlen : Nat) : List Byte :=
  leBytes 2 origin ++ leBytes 3 seq ++ leBytes 1 flags ++ leBytes 1 rlen ++ List.replicate 9 0

/-- A header-only mirror write with BREAK, once and without retry (R215). -/
def sendBreak (k : Nat) (s : State) : State :=
  let addr := (s.fld (Reg.mregBase k) + s.fld (Reg.mregWinbase k)) * 2 ^ 30
  sendOwn .brk 0 (s.fld (Reg.mregPartner k)) tyReqWr addr 1 (mirrorHeader 0 0 0x0A 0) s

/-- A region becomes BROKEN (R214, R215). -/
def breakRegion (k : Nat) (s : State) : State :=
  if s.fld (Reg.mregState k) = regBroken ∨ s.fld (Reg.mregState k) = regOff then s
  else
    let s := (s.setFld (Reg.mregState k) regBroken).raise Reg.mirrorBroken
    sendBreak k (s.modMem (fun m => { m with syncs := m.syncs.filter (fun y => decide (y.region ≠ k)) }))

/-- Cut data into mirror writes of at most 4,096 bytes with header and result: (data offset, bytes, last). -/
def mirrorPieces (data : List Byte) (extra : Nat) : List (Nat × List Byte × Bool) :=
  let room := 4096 - 16 - extra
  let n := max 1 (ceilDiv data.length room)
  (List.range n).map (fun i => (i * room, (data.drop (i * room)).take room, decide (i + 1 = n)))

/-- The part of a write that lies in region k (R212, R214): its offset and its bytes. -/
def regionPart (s : State) (k off : Nat) (data : List Byte) : Nat × List Byte :=
  let b := s.fld (Reg.mregBase k) * 2 ^ 30
  let lo := max off b
  (lo, (data.drop (lo - off)).take (min (off + data.length) (b + s.fld (Reg.mregSize k) * 2 ^ 30) - lo))

/-- Send the mirror writes of one region's part of held write `id` (R213). -/
def sendMirror (id region off origin seq flags op : Nat) (result data : List Byte) (s : State) : State :=
  forEach (fun (p : Nat × List Byte × Bool) s =>
    let fl := flags + (if p.2.2 then 1 else 0)
    sendOwn (.mirror id region) 0 (s.fld (Reg.mregPartner region)) tyReqWr (off + p.1 + s.fld (Reg.mregWinbase region) * 2 ^ 30) op
      (mirrorHeader origin seq fl (result.length / 16) ++ result ++ p.2.1) s) (mirrorPieces data result.length) s

/-- Two spans share a line. -/
def sharesLine (o n p m : Nat) : Bool := decide (o / 64 * 64 < p + m) && decide (p / 64 * 64 < o + n)

/-- Bytes of one piece of a region's copy: 63 lines, which with the header fit a mirror write. DESIGN CHOICE, log entry 36. -/
def syncPiece : Nat := 4032

/-- Lines of a span that a held write or a piece being copied keeps (R214, R215). -/
def spanHeld (s : State) (o n : Nat) : Bool :=
  s.mem.holds.any (fun h => sharesLine o n h.off h.data.length) ||
  s.mem.syncs.any (fun y => y.busy && sharesLine o n y.next syncPiece)

/-- Hold a write to mirrored regions: the new data goes to their partners first (R214). -/
def holdWrite (regions : List Nat) (asker : Asker) (off : Nat) (data result : List Byte) (origin seq flags op : Nat) (s : State) : State :=
  let id := s.mem.nextHold
  let parts := regions.map (fun r => (r, regionPart s r off data))
  let n := parts.foldl (fun n p => n + (mirrorPieces p.2.2 result.length).length) 0
  let s := s.modMem (fun m => { m with
    nextHold := id + 1
    holds := m.holds ++ [{ id := id, asker := asker, off := off, data := data, result := result, left := n, lost := [] }] })
  forEach (fun (p : Nat × Nat × List Byte) s => sendMirror id p.1 p.2.1 origin seq flags op result p.2.2 s) parts s

/-! Table 07-6. -/

/-- A mirror write (R213). -/
def isMirrorWrite (f : Frame) : Bool := decide (Frame.type f = tyReqWr) && decide (Frame.op f = 1 ∨ Frame.op f = 2)

/-- RLEN and FLAGS of a mirror header (Table 07-7). -/
def mirrorRlen (f : Frame) : Nat := leAt f.payload 6 1
def mirrorFlag (f : Frame) (i : Nat) : Bool := (leAt f.payload 5 1).testBit i

/-- Bytes that a request reads or writes; a header-only mirror write is checked as the first 16 bytes of its range. -/
def reqSpan (f : Frame) : Nat :=
  match Frame.type f with
  | 0 => (Frame.op f + 1) * 16
  | 1 => if isMirrorWrite f then max 16 (Frame.len f * 16 - 16 - 16 * mirrorRlen f) else Frame.len f * 16
  | _ => atomSpan f

/-- Step 2: the operation, LEN and alignment. -/
def step2Bad (f : Frame) : Bool :=
  let a := Frame.addr f
  decide (a / 2 ^ 45 = 7) ||
  (match Frame.type f with
   | 0 => decide (a % 16 ≠ 0)
   | 1 => (decide (Frame.len f ≠ 0) && decide (a % 16 ≠ 0)) || decide (2 < Frame.op f) || (isMirrorWrite f && decide (a < 2 ^ 42))
   | _ => !(atomOk f))

/-- A REQ_WR of LEN 0 makes no access and no address check (R207). -/
def noAccess (f : Frame) : Bool := decide (Frame.type f = tyReqWr) && decide (Frame.len f = 0)

/-- Set k serves a request: it is in service, or it was struck while the request was in service (R218). -/
def setServes (s : State) (f : Frame) (k : Nat) : Bool :=
  decide (s.fld (Reg.setState k) = setInService) ||
  (decide (s.fld (Reg.setState k) = setStruck) && s.mem.draining.any (fun d => decide (d.1 = k) && decide (d.2.frame = f)))

/-- The answer of Table 07-6 up to step 9, or where the request lands: the set, the local offset, the window entry; a request with no
access lands nowhere, under the window entry that names its home (R157). -/
def poolChecks (s : State) (f : Frame) : Nat ⊕ (Nat × Nat × Option Nat) :=
  let o := Frame.addr f
  let n := reqSpan f
  let write := decide (Frame.type f ≠ tyReqRd)
  if s.fld Reg.memOpen = 0 then .inl Err.targetGone
  else if step2Bad f then .inl Err.memRange
  else if noAccess f then .inr (0, 0, if o < 2 ^ 42 then none else (windowOfSpan s o 1).map (fun w => w.1))
  else if o < 2 ^ 42 then
    match setOfSpan s o n with
    | none => .inl Err.memRange
    | some k =>
      if setServes s f k = false then .inl Err.targetGone
      else if touchesFilter s o n then .inl Err.memRange
      else if write && touchesCopy s o n then .inl Err.memRange
      else if write && (regionsOf s o n).any (fun r => decide (s.fld (Reg.mregState r) = regBroken)) then .inl Err.mirrorLost
      else .inr (k, o, none)
  else
    match windowOfSpan s o n with
    | none => .inl Err.targetGone
    | some (e, lo) =>
      if s.fld (Reg.mwinState e) ≠ winValid ∧ isMirrorWrite f = false then .inl Err.mirrorLost
      else if isMirrorWrite f ∧ (Frame.src f ≠ s.fld (Reg.mwinHome e) ∨ Frame.srcPort f ≠ 8) then .inl Err.memRange
      else match setOfSpan s lo n with
        | none => .inl Err.targetGone
        | some k => if setServes s f k then .inr (k, lo, some e) else .inl Err.targetGone

/-! Serving a request. -/

/-- Count and answer MIRROR_LOST (Table 07-8). -/
def answerPool (f : Frame) (code : Nat) (s : State) : State :=
  answerErr f code (if code = Err.mirrorLost then s.count Reg.mirrorLostCount else s)

/-- The error pattern of the line that holds local offset `o`: all zero unless given. -/
def patternAt (errs : List (Nat × List Byte)) (o : Nat) : List Byte :=
  ((errs.find? (fun e => decide (e.1 = o / 64))).map (fun e => e.2)).getD []

/-- Read one line of set k for a request (R201, R203). -/
def readLine (k o kind : Nat) (err : List Byte) (s : State) : State :=
  let p := dramPlace s k o
  let s := pmcEvent evDdrReads p.1 1 s
  if isUe s (lineKey p) then logUe p.1 (p.2 / 64) o kind s else meetErrors p.1 (p.2 / 64) o kind err s

/-- Read one line that is written again: what was read goes back, its new bytes follow. -/
def refreshLine (k o kind : Nat) (err : List Byte) (s : State) : State :=
  let p := dramPlace s k o
  let data := lineSeen s p.1 (p.2 / 64) err
  let s := readLine k o kind err s
  if isUe s (lineKey p) then s else lineBack p.1 (p.2 / 64) data s

/-- Read the lines of a span. -/
def readLines (k o n kind : Nat) (errs : List (Nat × List Byte)) (s : State) : State :=
  forEach (fun (l : Nat × Nat) s => readLine k l.1 kind (patternAt errs l.1) s) (linesOf o n) s

/-- Read the lines that an atomic changes. -/
def refreshLines (k o n kind : Nat) (errs : List (Nat × List Byte)) (s : State) : State :=
  forEach (fun (l : Nat × Nat) s => refreshLine k l.1 kind (patternAt errs l.1) s) (linesOf o n) s

/-- Read the lines that a write covers only in part. -/
def readPartial (k o n : Nat) (errs : List (Nat × List Byte)) (s : State) : State :=
  forEach (fun (l : Nat × Nat) s => if l.2 = 64 then s else refreshLine k l.1 1 (patternAt errs l.1) s) (linesOf o n) s

/-- The bytes of a span as a read brings them. -/
def poolSeen (s : State) (k o n : Nat) (errs : List (Nat × List Byte)) : List Byte :=
  (linesOf o n).flatMap (fun l =>
    let p := dramPlace s k l.1
    ((lineSeen s p.1 (p.2 / 64) (patternAt errs l.1)).drop (p.2 % 64)).take l.2)

/-- The live regions of a home request that are MIRRORED or SYNCING (R214); a request served by a copy window is mirrored no
further (R216). -/
def mirroredRegions (s : State) (win : Option Nat) (o n : Nat) : List Nat :=
  if win.isSome then []
  else (regionsOf s o n).filter (fun r => decide (s.fld (Reg.mregState r) = regMirrored ∨ s.fld (Reg.mregState r) = regSyncing))

/-- The home that the filter judges a request by (R157). -/
def homeOf (s : State) (win : Option Nat) : Nat := (win.map (fun e => s.fld (Reg.mwinHome e))).getD (myChip s)

/-- ORIGIN of a mirror header (Table 07-7). -/
def originOf (f : Frame) : Nat := Frame.src f + Frame.srcPort f * 4096

/-- The bytes of the 16-byte units that an atomic touches, with its new value in place. -/
def atomBlock (s : State) (k o : Nat) (new : List Byte) : List Byte :=
  let base := o / 16 * 16
  let n := (o + new.length + 15) / 16 * 16 - base
  let old := poolRead s k base n
  old.take (o - base) ++ new ++ old.drop (o - base + new.length)

/-- A write on the home path that has passed every check (R203, R207, R214). -/
def applyWrite (f : Frame) (k o : Nat) (win : Option Nat) (s : State) : State :=
  match mirroredRegions s win o f.payload.length with
  | [] => filtered f (homeOf s win) (fun s => (poolWrite k o f.payload s, none)) s
  | r :: rs =>
    if anyChannel s ∧ filterJudge s (sourceOf f) (myChip s) (Frame.seq f) false = .apply then
      holdWrite (r :: rs) (.fabric f) o f.payload [] (originOf f) (Frame.seq f) 0 1 s
    else filtered f (myChip s) (fun s => (s, none)) s

/-- A write that meets a line it may not change in part: the other lines are applied, MEM_UNCORR is answered (R203, R207). DEDUCED, log
entry 40. -/
def writeAround (f : Frame) (k o : Nat) (win : Option Nat) (s : State) : State :=
  let s := forEach (fun (l : Nat × Nat) s =>
    let piece := (f.payload.drop (l.1 - o)).take l.2
    if l.2 ≠ 64 ∧ isUe s (lineKey (dramPlace s k l.1)) then s
    else match mirroredRegions s win l.1 l.2 with
      | [] => poolWrite k l.1 piece s
      | r :: rs => holdWrite (r :: rs) .quiet l.1 piece [] 0 0 2 1 s) (linesOf o f.payload.length) s
  answerErr f Err.memUncorr s

/-- An atomic on the home path that has passed every check (R208, R209, R214). -/
def applyAtom (f : Frame) (k o : Nat) (win : Option Nat) (s : State) : State :=
  let old := poolRead s k o (atomSpan f)
  let new := atomApply f old
  let ans := atomAnswer f old
  match mirroredRegions s win o (atomSpan f) with
  | [] => filtered f (homeOf s win) (fun s => (poolWrite k o new s, some ans)) s
  | r :: rs =>
    if anyChannel s ∧ filterJudge s (sourceOf f) (myChip s) (Frame.seq f) true = .apply then
      holdWrite (r :: rs) (.fabric f) (o / 16 * 16) (atomBlock s k o new) ans (originOf f) (Frame.seq f) 0 2 s
    else filtered f (myChip s) (fun s => (s, none)) s

/-- Serve a pool request that is no mirror write (R211): the checks, then the access. -/
def servePool (f : Frame) (errs : List (Nat × List Byte)) (s : State) : State :=
  match poolChecks s f with
  | .inl code => answerPool f code s
  | .inr (k, o, win) =>
    let n := reqSpan f
    if Frame.type f = tyReqRd then
      let data := poolSeen s k o n errs
      let s := readLines k o n 1 errs s
      if (firstUe s k o n).isSome then answerErr f Err.memUncorr s else answerData f data s
    else if Frame.type f = tyReqWr then
      if Frame.len f = 0 then filtered f (homeOf s win) (fun s => (s, none)) s
      else
        let s := readPartial k o n errs s
        if (partialUe s k o n).isSome then writeAround f k o win s else applyWrite f k o win s
    else
      let s := refreshLines k o n 1 errs s
      if (firstUe s k o n).isSome then answerErr f Err.memUncorr s else applyAtom f k o win s

/-- Serve a mirror write (R213, R214, R216): data stored, the LAST piece entered under its origin, SYNC_DONE and BREAK move the
window. One that covers an uncorrectable line in part is answered with MEM_UNCORR, its other lines written (R203, Table 07-6 step 10). -/
def serveMirror (f : Frame) (s : State) : State :=
  match poolChecks s f with
  | .inl code => answerPool f code s
  | .inr (_, _, none) => filtered f (myChip s) (fun s => (s, none)) s
  | .inr (k, o, some e) =>
    let rlen := 16 * mirrorRlen f
    let data := f.payload.drop (16 + rlen)
    let result := (f.payload.drop 16).take rlen
    let s := readPartial k o data.length [] s
    if (partialUe s k o data.length).isSome then answerErr f Err.memUncorr (poolWrite k o data s)
    else filtered f (s.fld (Reg.mwinHome e)) (fun s =>
      let s := poolWrite k o data s
      let s := if mirrorFlag f 2 then s.setFld (Reg.mwinState e) winValid else s
      let s := if mirrorFlag f 3 then s.setFld (Reg.mwinState e) winStale else s
      let origin := leAt f.payload 0 2
      let s := if mirrorFlag f 0 ∧ !(mirrorFlag f 1) then
          filterEnter (origin % 4096 * 16 + origin / 4096) (s.fld (Reg.mwinHome e)) (leAt f.payload 2 3)
            (if Frame.op f = 2 then some result else none) s
        else s
      (s, none)) s

/-- The bytes of the local pool that a request touches, whichever of its addresses names them. -/
def localSpan (s : State) (f : Frame) : Option (Nat × Nat) :=
  match poolChecks s f with
  | .inl _ => none
  | .inr (_, o, _) => if noAccess f then none else some (o, reqSpan f)

/-- A request touches a line of a span. -/
def onLine (s : State) (f : Frame) (o n : Nat) : Bool :=
  isPoolRequest f && ((localSpan s f).map (fun x => sharesLine x.1 x.2 o n)).getD false

/-- A host access that came before this request waits for a line of it (R210, R222). -/
def hostFirst (s : State) (h : InFrame) (o n : Nat) : Bool :=
  s.mem.hostWait.any (fun r => sharesLine r.off 64 o n && !(r.ahead.contains h))

/-- An earlier request or host access that touches a line of this one has not been served (R210). -/
def earlierOnLine (s : State) (h : InFrame) : Bool :=
  match localSpan s h.frame with
  | none => false
  | some (o, n) => (s.swc.inbox.takeWhile (fun g => decide (g ≠ h))).any (fun g => onLine s g.frame o n) || hostFirst s h o n

/-- Take a delivered frame out of the inbox. -/
def dropInbox (h : InFrame) (s : State) : State := s.modSwc (fun w => { w with inbox := w.inbox.erase h })

/-- The channels that a request needs. -/
def reqChans (s : State) (f : Frame) : List Nat :=
  match poolChecks s f with
  | .inl _ => []
  | .inr (k, o, _) => if noAccess f then [] else chansOfSpan s k o (reqSpan f)

/-- The local place of a request is held. -/
def reqHeld (s : State) (f : Frame) : Bool :=
  match localSpan s f with
  | none => false
  | some (o, n) => spanHeld s o n

/-- Writes and atomics to the chip are held while the filter store moves (R218). -/
def heldByMove (s : State) (f : Frame) : Bool := s.mem.moving && decide (Frame.type f ≠ tyReqRd)

/-- A channel takes no work now: it sleeps (R49) or is in quarantine (R48). -/
def chanWaits (s : State) (c : Nat) : Bool := decide (s.fld (Reg.ddrState c) ≠ 0) || s.flag (Reg.quarChan c)

/-- A request waits: its line is taken, the filter store moves (R218), or a channel sleeps and is woken (R49). -/
def poolWaits (s : State) (h : InFrame) : Bool :=
  earlierOnLine s h || reqHeld s h.frame || heldByMove s h.frame ||
  (reqChans s h.frame).any (chanWaits s)

/-- Wake a list of channels (R49); their rehearsal slices are abandoned (R506). -/
def wakeChans (cs : List Nat) (s : State) : State :=
  forEach (fun c s => if h : c < 12 then wakeUnit (.ddr ⟨c, h⟩) s else s) cs s

/-- Abandon the rehearsal slices of the channels that a request needs (R506). -/
def stopPhySlices (cs : List Nat) (s : State) : State := forEach abandonDdrSlices cs s

/-- A span of the local pool lies on a channel. -/
def spanOnChan (s : State) (c o n : Nat) : Bool := ((setOfSpan s o n).map (fun k => (chansOfSpan s k o n).contains c)).getD false

/-- A held write, or a host access that waits, needs a channel. -/
def holdOnChan (s : State) (c : Nat) : Bool :=
  s.mem.holds.any (fun h => spanOnChan s c h.off h.data.length) || s.mem.hostWait.any (fun r => spanOnChan s c r.off 64)

/-! Completion of mirrored writes. -/

/-- An outstanding mirror write of a hold, or a piece of a copy, has been answered (R214, R215). -/
def mirrorAnswered (why : Purpose) (ok : Bool) (s : State) : State :=
  match why with
  | .mirror id r => s.modMem (fun m => { m with holds := m.holds.map (fun h =>
      if h.id = id then { h with left := h.left - 1, lost := if ok then h.lost else h.lost ++ [r] } else h) })
  | .sync r =>
    if !ok then breakRegion r s
    else s.modMem (fun m => { m with syncs := m.syncs.map (fun y =>
      if y.region ≠ r then y
      else if y.doneSent then { y with doneAcked := true }
      else { y with busy := false, next := y.next + syncPiece }) })
  | _ => s

/-- Answer the asker of a held write. -/
def answerHold (h : MirrorHold) (ok : Bool) (s : State) : State :=
  match h.asker with
  | .fabric f =>
    if !ok then answerPool f Err.mirrorLost s
    else if h.result.isEmpty then answerAck f s else answerData f h.result s
  | .host a => emit (.hostDone a ok) (if ok then s else s.raise Reg.memCfgErr)
  | .quiet => s

/-- A held write ends (R214): applied, recorded and answered, or MIRROR_LOST with the regions BROKEN whose mirror writes failed. -/
def finishHold (h : MirrorHold) (s : State) : State :=
  let s := s.modMem (fun m => { m with holds := m.holds.erase h })
  if h.lost.isEmpty = false then answerHold h false (forEach breakRegion h.lost s)
  else
    match setOfSpan s h.off h.data.length with
    | none => answerHold h false s
    | some k =>
      let s := poolWrite k h.off h.data s
      let s := match h.asker with
        | .fabric f => filterEnter (sourceOf f) (myChip s) (Frame.seq f) (if h.result.isEmpty then none else some h.result) s
        | _ => s
      answerHold h true s

/-- One piece of the copy of a region in state SYNCING, or its SYNC_DONE (R215). DEDUCED, log entry 39. -/
def syncStep (y : Sync) (s : State) : State :=
  let r := y.region
  let stop := (s.fld (Reg.mregBase r) + s.fld (Reg.mregSize r)) * 2 ^ 30
  let put := fun (z : Sync) (s : State) =>
    s.modMem (fun m => { m with syncs := m.syncs.map (fun x => if x.region = r then z else x) })
  if y.busy ∨ y.doneSent then s
  else if stop ≤ y.next then
    sendOwn (.sync r) 0 (s.fld (Reg.mregPartner r)) tyReqWr ((s.fld (Reg.mregBase r) + s.fld (Reg.mregWinbase r)) * 2 ^ 30) 1
      (mirrorHeader 0 0 0x06 0) (put { y with doneSent := true } (s.setFld (Reg.mregSynced r) (s.fld (Reg.mregSize r))))
  else
    let n := min syncPiece (stop - y.next)
    match setOfSpan s y.next n with
    | none => s
    | some k =>
      let cs := chansOfSpan s k y.next n
      if spanHeld s y.next n then s
      else if cs.any (chanWaits s) then wakeChans cs s
      else
        let s := s.setFld (Reg.mregSynced r) ((y.next - s.fld (Reg.mregBase r) * 2 ^ 30) / 2 ^ 30)
        sendOwn (.sync r) 0 (s.fld (Reg.mregPartner r)) tyReqWr (y.next + s.fld (Reg.mregWinbase r) * 2 ^ 30) 1
          (mirrorHeader 0 0 0x03 0 ++ poolRead s k y.next n) (put { y with busy := true } s)

/-! Training (R191 to R194). -/

/-- CAUSE codes of Table 07-9. -/
def cauNotSupported : Nat := 1
def cauNotX4Ecc : Nat := 2
def cauCapOver : Nat := 3
def cauSpdBad : Nat := 4
def cauPmicFail : Nat := 5
def cauTrainFail : Nat := 6
def cauStruck : Nat := 7
def cauRemoved : Nat := 8

/-- R191 on what the SPD hub reports. -/
def spdRefusal (d : Spd) : Option Nat :=
  if !d.sumOk then some cauSpdBad
  else if d.typ < 1 ∨ 3 < d.typ then some cauNotSupported
  else if !d.x4 then some cauNotX4Ecc
  else if 256 < d.gb then some cauCapOver
  else none

/-- The rate at which a DIMM type is about to train (R193). -/
def firstRate (s : State) (n typ : Nat) : Nat := if typ = 3 ∧ s.flag (Reg.limit8800 n) then 2 else typ

/-- Start one training attempt at a rate, from saved results when there are any (R194). -/
def startAttempt (n rate : Nat) (s : State) : State :=
  let saved := decide ((s.fld (Reg.chSerial n), rate) ∈ s.mem.saved) && !(s.flag (Reg.forceFull n))
  (s.setChan n { s.chan n with rate := rate, fromSaved := saved }).setFld (Reg.chState n) chTraining

/-- The channel fails in training or at its PMIC (R191, R193). -/
def failChannel (n cause : Nat) (s : State) : State :=
  let back := (s.chan n).returning
  let s := (s.setChan n { s.chan n with judged := true, returning := false }).setFld (Reg.chState n) chFailed
  let s := s.setFld (Reg.chCause n) cause
  if back then (s.setFld Reg.strikeResult 5).raise Reg.memStrikeEv else s

/-- What the SPD hub tells is shown (R223). -/
def showDimm (n : Nat) (d : Spd) (s : State) : State :=
  ((s.setFld (Reg.chSerial n) d.serial).setFld (Reg.chCapacity n) (min 511 d.gb)).setFld (Reg.chCause n) 0

/-! Sets (R195, R198, R199). -/

/-- A range overlaps that of another VALID set. -/
def overlapsSet (s : State) (k base size : Nat) : Bool :=
  (installedSets s).any (fun j => decide (j ≠ k) && decide (base < s.fld (Reg.setBase j) + s.fld (Reg.setSize j)) &&
    decide (s.fld (Reg.setBase j) < base + size))

/-- R199: VALID = 1 is refused for this mask and base. -/
def setRefused (s : State) (k mask base : Nat) : Bool :=
  decide (mask = 0) || (channelsOf mask).any (fun c => decide (s.fld (Reg.chState c) ≠ chReady) ||
    (installedSets s).any (fun j => decide (j ≠ k) && (s.fld (Reg.setMask j)).testBit c)) ||
  decide (4096 < base + sizeOfMask s mask) || overlapsSet s k base (sizeOfMask s mask)

/-- Every member shows RETAINED. -/
def allRetained (s : State) (mask : Nat) : Bool := (channelsOf mask).all (fun c => s.flag (Reg.chRetained c))

/-- MEM_STATUS.OPEN becomes 1 once R195 holds, outside ghost-light mode (R423). -/
def settleOpen (s : State) : State :=
  if s.mem.installed ∧ ghostLight s = false ∧ (List.range 12).all (fun c => (s.chan c).judged && decide (s.fld (Reg.chState c) ≠ chTraining)) ∧
      (installedSets s).all (fun k => decide (s.fld (Reg.setState k) = setInService ∨ s.fld (Reg.setState k) = setFailed ∨
        s.fld (Reg.setState k) = setStruck)) then s.raise Reg.memOpen
  else s

/-- The scrub of channels whose set enters service starts now (R204). -/
def startScrub (cs : List Nat) (s : State) : State :=
  forEach (fun c s => s.modMem (fun m => { m with scrubbed := Tab.set (fun _ => 0) m.scrubbed c s.now })) cs s

/-- Install a set with its fields; it starts zeroing, or enters service with KEEP. -/
def installSet (k mask base : Nat) (keep : Bool) (s : State) : State :=
  let s := (s.setFld (Reg.setMask k) mask).setFld (Reg.setBase k) base
  let s := (s.setFld (Reg.setKeep k) (if keep then 1 else 0)).setFld (Reg.setSize k) (sizeOfMask s mask)
  let s := (s.raise (Reg.setValid k)).setFld (Reg.setState k) (if keep then setInService else setZeroing)
  if keep then startScrub (channelsOf mask) (placeFilter s) else s

/-- Zero every line of a set (R199). -/
def zeroSet (k : Nat) (s : State) : State :=
  let ms := channelsOf (s.fld (Reg.setMask k))
  let per := setBytes s k / max 1 ms.length
  let inSet := fun (chan byte : Nat) => decide (chan ∈ ms) && decide (byte < per)
  s.modMem (fun m => { m with
    dram := m.dram.filter (fun e => !(inSet (e.1 / 2 ^ 40) (e.1 % 2 ^ 40)))
    ue := m.ue.filter (fun u => !(inSet (u / 2 ^ 34) (u % 2 ^ 34 * 64))) })

/-- The default set of a wing, over its READY channels, from the next free offset (R195). -/
def defaultSet (p : State × Nat) (w : Nat) : State × Nat :=
  let mask := ((List.range 3).filter (fun i => decide (p.1.fld (Reg.chState (3 * w + i)) = chReady))).foldl
    (fun m i => m + 2 ^ (3 * w + i)) 0
  if setRefused p.1 w mask p.2 then p else (installSet w mask p.2 false p.1, p.2 + sizeOfMask p.1 mask)

/-- The default sets of R195: one per wing, in wing order from offset 0. -/
def defaultSets (s : State) : State := ([0, 1, 2, 3].foldl defaultSet (s, 0)).1

/-- The sets that the bring-up configuration gives, as (set, MASK, BASE), or the default ones (R195); one that R199 refuses is left out.
DESIGN CHOICE, log entry 172. -/
def bringUpSets (s : State) : State :=
  if s.mem.bringUp.isEmpty then defaultSets s
  else forEach (fun (x : Nat × Nat × Nat) s => if setRefused s x.1 x.2.1 x.2.2 then s else installSet x.1 x.2.1 x.2.2 false s) s.mem.bringUp s

/-- Restore the sets recorded before RESET_N, in ascending order (R199). -/
def restoreSets (s : State) : State :=
  forEach (fun (r : Nat × Nat × Nat) s =>
    let ready := (channelsOf r.2.1).filter (fun c => decide (s.fld (Reg.chState c) = chReady))
    let mask := ready.foldl (fun m c => m + 2 ^ c) 0
    if mask = r.2.1 ∧ allRetained s r.2.1 ∧ !(setRefused s r.1 mask r.2.2) then installSet r.1 mask r.2.2 true s
    else if setRefused s r.1 mask r.2.2 then s.raise Reg.chanFail
    else (installSet r.1 mask r.2.2 false s).raise Reg.chanFail) s.mem.recorded s

/-- After RESET_N the filter lives on only in a set that kept its contents and is restored with KEEP (R159). -/
def settleFilter (s : State) : State :=
  let kept := (s.mem.filterSet.map (fun k => s.flag (Reg.setValid k) && s.flag (Reg.setKeep k))).getD false
  if s.mem.wasReset = false ∨ kept then s else (s.modSwc (fun w => { w with filter := [] })).raise Reg.filterLost

/-- Once every channel has settled the Prompter installs the sets (R195, R199). -/
def settleChannels (s : State) : State :=
  if (List.range 12).all (fun c => (s.chan c).judged && decide (s.fld (Reg.chState c) ≠ chTraining)) then
    if s.mem.installed then settleOpen s
    else
      let s := settleFilter (if s.mem.restore then restoreSets s else bringUpSets s)
      settleOpen (s.modMem (fun m => { m with installed := true, restore := false, wasReset := false }))
  else s

/-- The VALID set that holds a channel. -/
def setOfChan (s : State) (c : Nat) : Option Nat := (installedSets s).find? (fun k => (s.fld (Reg.setMask k)).testBit c)

/-- A live region lies in set k. -/
def regionIn (s : State) (k r : Nat) : Bool :=
  let b := s.fld (Reg.mregBase r)
  decide (b < s.fld (Reg.setBase k) + s.fld (Reg.setSize k)) && decide (s.fld (Reg.setBase k) < b + s.fld (Reg.mregSize r))

/-- The copy storage of an enabled window lies in set k. -/
def storageIn (s : State) (k w : Nat) : Bool :=
  let b := s.fld (Reg.mwinLocal w)
  s.flag (Reg.mwinEnable w) && decide (b < s.fld (Reg.setBase k) + s.fld (Reg.setSize k)) &&
  decide (s.fld (Reg.setBase k) < b + s.fld (Reg.mwinSize w))

/-- The named channel of a strike is switched off (R218). DESIGN CHOICE, log entry 38. The spec does not say which state PRM_DDR_STATE shows
for a channel without power; DESIGN CHOICE, log entry 152: it keeps the code it had. -/
def strikeDone (c : Nat) (s : State) : State :=
  let s := s.modMem (fun m => { m with striking := m.striking.filter (fun d => decide (d ≠ c)) })
  let s := (s.setFld (Reg.chState c) chStruck).setFld (Reg.chCause c) cauStruck
  let s := { s with house := { s.house with pmicEn := putBits s.house.pmicEn c 1 0 } }
  ((abandonDdrSlices c s).setFld Reg.strikeResult 1).raise Reg.memStrikeEv

/-- Nothing that was in service when set k was struck is left (R218). -/
def setDrained (s : State) (k : Nat) : Bool :=
  !(s.mem.draining.any (fun d => decide (d.1 = k) && s.swc.inbox.contains d.2)) &&
  !(s.mem.hostWait.any (fun r => r.exempt && decide (setOfSpan s r.off 64 = some k))) &&
  !(s.mem.holds.any (fun h => decide (setOfSpan s h.off h.data.length = some k)))

/-- Strikes end once the requests in service have completed and the filter store has moved (R218). -/
def settleStrike (s : State) : State :=
  if s.mem.moving then s
  else forEach (fun c s => if ((setOfChan s c).map (setDrained s)).getD true then strikeDone c s else s) s.mem.striking s

/-- A channel fails outside a strike (R220). -/
def channelFails (c cause : Nat) (s : State) : State :=
  let held := (setOfChan s c).map (fun k => decide (highestSet s = some k))
  let s := ((s.setFld (Reg.chState c) chFailed).setFld (Reg.chCause c) cause).raise Reg.chanFail
  let s := s.modMem (fun m => { m with striking := m.striking.filter (fun d => decide (d ≠ c)) })
  let s := abandonDdrSlices c (s.setChan c { s.chan c with judged := true, returning := false })
  match setOfChan s c with
  | none => settleOpen s
  | some k =>
    let s := s.setFld (Reg.setState k) setFailed
    let s := forEach (fun r s => if regionIn s k r then breakRegion r s else s) (liveRegions s) s
    let s := if held = some true then ((placeFilter s).modSwc (fun w => { w with filter := [] })).raise Reg.filterLost else s
    settleOpen s

/-- A returned channel has left quarantine: its set is sized and zeroed again, or stays STRUCK (R219). -/
def returnSet (c : Nat) (s : State) : State :=
  match setOfChan s c with
  | none => s
  | some k =>
    let mask := s.fld (Reg.setMask k)
    let size := sizeOfMask s mask
    let base := s.fld (Reg.setBase k)
    if 4096 < base + size ∨ overlapsSet s k base size then (s.setFld Reg.strikeResult 5).raise Reg.memStrikeEv
    else ((s.setFld (Reg.setSize k) size).setFld (Reg.setState k) setZeroing).modMem (fun m => { m with returns := m.returns ++ [k] })

/-! Register refusals of mirrors and windows (Tables 07-11, 07-12). -/

/-- A region of MODE SYNC is refused with these fields. -/
def regionRefused (s : State) (r : Nat) : Bool :=
  let b := s.fld (Reg.mregBase r)
  let n := s.fld (Reg.mregSize r)
  decide (n = 0) || decide (s.fld (Reg.mregWinbase r) < 4096) ||
  ((setOfSpan s (b * 2 ^ 30) (n * 2 ^ 30)).map (fun k => decide (s.fld (Reg.setState k) ≠ setInService))).getD true ||
  touchesFilter s (b * 2 ^ 30) (n * 2 ^ 30) ||
  (liveRegions s).any (fun q => decide (q ≠ r) && decide (b < s.fld (Reg.mregBase q) + s.fld (Reg.mregSize q)) &&
    decide (s.fld (Reg.mregBase q) < b + n))

/-- ENABLE = 1 of a window is refused (Table 07-12). -/
def windowRefused (s : State) (e : Nat) : Bool :=
  let wb := s.fld (Reg.mwinBase e)
  let ho := s.fld (Reg.mwinOff e)
  let n := s.fld (Reg.mwinSize e)
  let lo := s.fld (Reg.mwinLocal e)
  let others := (List.range 16).filter (fun f => decide (f ≠ e) && s.flag (Reg.mwinEnable f))
  decide (wb < 4096) || decide (4095 < ho) || decide (n = 0 ∨ 4096 < n) || decide (4095 < lo) || decide (4096 < ho + n) ||
  others.any (fun f => decide (wb + ho < s.fld (Reg.mwinBase f) + s.fld (Reg.mwinOff f) + s.fld (Reg.mwinSize f)) &&
    decide (s.fld (Reg.mwinBase f) + s.fld (Reg.mwinOff f) < wb + ho + n)) ||
  ((setOfSpan s (lo * 2 ^ 30) (n * 2 ^ 30)).map (fun k => decide (s.fld (Reg.setState k) ≠ setInService))).getD true ||
  touchesFilter s (lo * 2 ^ 30) (n * 2 ^ 30) ||
  (liveRegions s).any (fun r => decide (lo < s.fld (Reg.mregBase r) + s.fld (Reg.mregSize r)) &&
    decide (s.fld (Reg.mregBase r) < lo + n)) ||
  others.any (fun f => decide (lo < s.fld (Reg.mwinLocal f) + s.fld (Reg.mwinSize f)) &&
    decide (s.fld (Reg.mwinLocal f) < lo + n))

/-! The scrubber and the host. -/

/-- The pool offset of line `line` of channel c, if an in-service set holds it. -/
def offsetOfLine (s : State) (c line : Nat) : Option (Nat × Nat) :=
  (setOfChan s c).bind (fun k =>
    let ms := channelsOf (s.fld (Reg.setMask k))
    let i := (ms.takeWhile (fun d => decide (d ≠ c))).length
    let a := line * 64
    let o := setStart s k + (a / 4096 * ms.length + i) * 4096 + a % 4096
    if s.fld (Reg.setState k) = setInService ∧ o < setStart s k + setBytes s k then some (k, o) else none)

/-- A host access that fails (R222): logged or CFG_ERR, all ones for a read, reported by an event record. -/
def hostFails (write : Bool) (o : Nat) (s : State) : State :=
  if write then emit (.hostDone o false) s else emit (.hostData o (List.replicate 64 0xFF)) s

/-- Merge the enabled bytes of a host write. -/
def mergeBytes (enables : Nat) (old new : List Byte) : List Byte :=
  (List.range 64).map (fun i => if enables.testBit i then nthByte new i else nthByte old i)

/-- MEM_INFLIGHT: pool requests in service (R206). -/
def poolInflight (s : State) : Nat :=
  min 65536 (poolCount s)

end Sys2Proof.Machine
end

