-- ==== Sys2Proof/Machine/ScratchOps.lean ====
section
/-! DEFINITION. The scratchpad (R243 to R252): words, uncorrectable words, swing rows, retired regions, the space allocator, and
requests to space 1 (R245). -/
namespace Sys2Proof.Machine

def State.modTen (s : State) (f : Ten → Ten) : State := { s with ten := f s.ten }

/-- Bytes of one wing and of the whole scratchpad window. -/
def wingBytes : Nat := 0x8000000
def spBytesAll : Nat := 0x20000000

/-- The wing of a window offset (R243). -/
def spWing (o : Nat) : Nat := o / wingBytes % 4

/-- The wings of the scratchpad that a span touches. -/
def wingsOfSpan (o n : Nat) : List Nat :=
  if n = 0 then [] else (List.range ((o + n - 1) / wingBytes - o / wingBytes + 1)).map (fun i => o / wingBytes + i)

/-- Every wing of a span is awake. -/
def spanAwake (s : State) (o n : Nat) : Bool := (wingsOfSpan o n).all (fun w => unitRuns s (spUnit w))

/-- The wings of a span are woken (R49). -/
def wakeSpan (o n : Nat) (s : State) : State := forEach (fun w s => wakeUnit (spUnit w) s) (wingsOfSpan o n) s

/-! Words. -/

/-- A byte of the scratchpad; what nothing has written reads 0 (R46: zeroed at reset). -/
def spByte (s : State) (o : Nat) : Byte := Tab.get (fun _ => 0) s.ten.sp o
def spRead (s : State) (o n : Nat) : List Byte := Tab.getRange (fun _ => 0) s.ten.sp o n
def spPoke (o : Nat) (bs : List Byte) (s : State) : State :=
  s.modTen (fun t => { t with sp := Tab.setRange (fun _ => 0) t.sp o bs })

/-- Word indices that a span touches, with the part of the span in each: (word, offset, bytes). -/
def wordsOf (o n : Nat) : List (Nat × Nat × Nat) :=
  if n = 0 then []
  else (List.range ((o + n - 1) / 32 - o / 32 + 1)).map (fun i =>
    let a := max o ((o / 32 + i) * 32)
    (o / 32 + i, a, min (o + n) ((o / 32 + i + 1) * 32) - a))

def wordUe (s : State) (w : Nat) : Bool := decide (w ∈ s.ten.ue)

/-- The first uncorrectable word that a span touches. -/
def firstBadWord (s : State) (o n : Nat) : Option Nat :=
  ((wordsOf o n).find? (fun x => wordUe s x.1)).map (fun x => x.1)

/-- The first uncorrectable word that a span covers only in part. -/
def firstPartBad (s : State) (o n : Nat) : Option Nat :=
  ((wordsOf o n).find? (fun x => decide (x.2.2 ≠ 32) && wordUe s x.1)).map (fun x => x.1)

/-- Log the read of an uncorrectable word (R247, Table 08-5). -/
def logBadWord (w : Nat) (s : State) : State :=
  (((s.setFld Reg.spUeLog (w * 32)).setFld Reg.spUeTime s.now).count Reg.spUe).raise Reg.spUncorr

/-- Write a span (R246, R247): a word covered whole is good again, part of an uncorrectable word is left unchanged. -/
def spWrite (o : Nat) (bs : List Byte) (s : State) : State :=
  forEach (fun (x : Nat × Nat × Nat) s =>
    let piece := (bs.drop (x.2.1 - o)).take x.2.2
    if x.2.2 = 32 then spPoke x.2.1 piece (s.modTen (fun t => { t with ue := t.ue.filter (fun u => decide (u ≠ x.1)) }))
    else if wordUe s x.1 then s
    else spPoke x.2.1 piece s) (wordsOf o bs.length) s

/-- The row of a window offset: 256 bytes. -/
def rowOf (o : Nat) : Nat := o / 256

/-- A word is uncorrectable from now on. -/
def loseWord (w : Nat) (s : State) : State :=
  s.modTen (fun t => { t with ue := if w ∈ t.ue then t.ue else t.ue ++ [w], ueMoved := t.ueMoved.filter (fun u => decide (u ≠ w)) })

/-- The contents of a span are unspecified from now on: free values (log entry 5). -/
def openSpan (lo hi : Nat) (s : State) : State :=
  let n := hi - lo
  spPoke lo ((List.range n).map (fun i => Config.freeByte (s.free + i))) (takeFrees n s)

/-- The scratchpad as a reader finds it: the result extents of crossings whose counter is not settled hold free values (R272). A crossing's
own engine reads its own. DEDUCED, log entry 173. -/
def veiled (own : Option Nat) (s : State) : State :=
  forEach (fun (r : Result) s => openSpan r.lo r.hi s)
    (s.cue.results.filter (fun r => decide ((Tab.get (fun _ => Ctr.init) s.cue.ctrs r.ctr).out ≠ 0) && decide (own ≠ some r.id))) s

/-- The free values that a reading took are not given again. -/
def readFrom (v s : State) : State := takeFrees (v.free - s.free) s

/-- A word is read with an error pattern of 36 symbols on it: corrected and counted, or uncorrectable from then on. -/
def meetWord (w : Nat) (err : List Byte) (s : State) : State :=
  if err.all (fun b => decide (b = 0)) then s
  else
    let data := spRead s (w * 32) 32
    match c288Decode (List.zipWith (· ^^^ ·) (data ++ Config.c288Check data) err) with
    | some _ => (s.count Reg.spCe).modTen (fun t => { t with
        rowReads := (t.rowReads.filter (fun r => decide (s.now < r.2 + ticks24h))) ++ [(w / 8, s.now)] })
    | none => logBadWord w (loseWord w s)

/-- The error pattern of a word, all zero unless given. -/
def wordPattern (errs : List (Nat × List Byte)) (w : Nat) : List Byte :=
  ((errs.find? (fun e => decide (e.1 = w))).map (fun e => e.2)).getD []

/-- Rows of a wing that an extent touches. -/
def rowsInWing (w : Nat) (e : Nat × Nat) : Nat :=
  let lo := max e.1 (w * 2 ^ 27)
  let hi := min e.2 ((w + 1) * 2 ^ 27)
  if lo < hi then (hi - 1) / 256 + 1 - lo / 256 else 0

/-- The rows of these extents are read (SP_READ_ROWS, Table 17-8). -/
def countRowReads (es : List (Nat × Nat)) (s : State) : State :=
  forEach (fun w s =>
    let n := es.foldl (fun k e => k + rowsInWing w e) 0
    if n = 0 then s else pmcEvent evSpRead w n s) [0, 1, 2, 3] s

/-- Read the words of a span for a request: an uncorrectable one is logged. -/
def readWords (o n : Nat) (errs : List (Nat × List Byte)) (s : State) : State :=
  forEach (fun (x : Nat × Nat × Nat) s =>
    if wordUe s x.1 then logBadWord x.1 s else meetWord x.1 (wordPattern errs x.1) s) (wordsOf o n) s

/-! Space. -/

/-- The 64 KiB regions of a wing that a range holds. -/
def rangeHolds (r : Range) (region : Nat) : Bool :=
  decide (r.base ≤ region * 65536) && decide (region * 65536 < r.base + r.size)

/-- A region lies in a placed footprint or a staging reservation. -/
def regionPlaced (s : State) (region : Nat) : Bool := s.ten.placed.any (fun r => rangeHolds r region)

/-- Free flags of the 2,048 regions of a wing (R250). -/
def freeFlags (s : State) (w : Nat) : List Bool :=
  (List.range 2048).map (fun i => !(decide (2048 * w + i ∈ s.ten.retired)) && !(regionPlaced s (2048 * w + i)))

/-- The first run of at least `n` free flags: its index. -/
def firstRun (n : Nat) : Nat → Nat → List Bool → Option Nat
  | i, run, [] => if n ≤ run then some (i - run) else none
  | i, run, b :: t =>
    if n ≤ run then some (i - run)
    else firstRun n (i + 1) (if b then run + 1 else 0) t

/-- The longest run of free flags. -/
def longestRun : Nat → Nat → List Bool → Nat
  | run, best, [] => max run best
  | run, best, b :: t => if b then longestRun (run + 1) best t else longestRun 0 (max run best) t

/-- A placement of `size` bytes, a multiple of 64 KiB, in wing w: the lowest free offset where it fits. -/
def findSpace (s : State) (w size : Nat) : Option Nat :=
  (firstRun (size / 65536) 0 0 (freeFlags s w)).map (fun i => w * wingBytes + i * 65536)

/-- Write the space registers of a wing (Table 08-5). -/
def refreshWing (w : Nat) (s : State) : State :=
  let flags := freeFlags s w
  let gone := (s.ten.retired.filter (fun r => decide (r / 2048 = w))).length
  let pend := (s.ten.pendingRetire.filter (fun r => decide (r / 2048 = w))).length
  let staged := s.ten.placed.foldl (fun n r => match r.owner with
    | .group _ => if spWing r.base = w then n + r.size else n
    | .prog _ => n) 0
  let s := (s.setFld (Reg.spCapacity w) (wingBytes - gone * 65536)).setFld (Reg.spFree w) ((flags.filter (fun b => b)).length * 65536)
  let s := (s.setFld (Reg.spLargest w) (longestRun 0 0 flags * 65536)).setFld (Reg.spReserved w) staged
  (s.setFld (Reg.regionsRetired w) gone).setFld (Reg.regionsPending w) pend

def refreshSpace (s : State) : State := forEach refreshWing [0, 1, 2, 3] s

/-- Record a placement. -/
def place (owner : Owner) (base size : Nat) (s : State) : State :=
  if size = 0 then s
  else s.modTen (fun t => { t with placed := t.placed ++ [Range.mk owner base size] })

/-- A pending region whose footprint or reservation is gone is retired (R248). -/
def retirePending (s : State) : State :=
  let now := s.ten.pendingRetire.filter (fun r => !(regionPlaced s r))
  s.modTen (fun t => { t with retired := t.retired ++ now, pendingRetire := t.pendingRetire.filter (fun r => !(now.contains r)) })

/-- Release every range of an owner; each is zeroed before it is placed again (R252). -/
def release (owner : Owner) (s : State) : State :=
  let gone := s.ten.placed.filter (fun r => decide (r.owner = owner))
  let s := s.modTen (fun t => { t with
    placed := t.placed.filter (fun r => decide (r.owner ≠ owner))
    zeroing := t.zeroing ++ gone.map (fun r => (r.base, r.size)) })
  refreshSpace (retirePending s)

/-- A placed range waits for a zeroing. -/
def waitsZeroing (s : State) (base size : Nat) : Bool :=
  s.ten.zeroing.any (fun z => decide (z.1 < base + size) && decide (base < z.1 + z.2))

/-- The zeroing of a released range ends. -/
def zeroRange (base size : Nat) (s : State) : State :=
  s.modTen (fun t => { t with
    zeroing := t.zeroing.erase (base, size)
    sp := t.sp.filter (fun e => !(decide (base ≤ e.1) && decide (e.1 < base + size)))
    ue := t.ue.filter (fun w => !(decide (base ≤ w * 32) && decide (w * 32 < base + size))) })

/-! Swing rows (R248). -/

/-- The bank of a row, over the whole window: wing × 128 + bank. -/
def bankOf (row : Nat) : Nat := row / (wingBytes / 256) * 128 + row % (wingBytes / 256) % 128

/-- ELEMENT of a row and of a region in the repair log (Table 17-10). -/
def rowElement (row : Nat) : Nat :=
  let perWing := wingBytes / 256
  row / perWing * 2 ^ 21 + row % 128 * 2 ^ 14 + row % perWing / 128
def regionElement (r : Nat) : Nat := 2 ^ 23 + r / 2048 * 2 ^ 21 + r % 2048

/-- Retire the region of a row, or mark it pending. -/
def retireRegion (row : Nat) (s : State) : State :=
  let r := row / 256
  let s := logRepair clsRow (regionElement r) 3 (s.raise Reg.regionRetired)
  refreshSpace (if regionPlaced s r then s.modTen (fun t => { t with pendingRetire := t.pendingRetire ++ [r] })
    else s.modTen (fun t => { t with retired := t.retired ++ [r] }))

/-- A row is due for a swing: its corrected reads of 24 h, or an uncorrectable word in it. -/
def rowDue (s : State) (row : Nat) : Bool :=
  let thr := s.fld Reg.rowThresh
  (decide (thr ≠ 0) && decide (thr ≤ (s.ten.rowReads.filter (fun r => decide (r.1 = row) && decide (s.now < r.2 + ticks24h))).length)) ||
  s.ten.ue.any (fun w => decide (w / 8 = row) && !(s.ten.ueMoved.contains w))

/-- A row is swung, or its region is retired when its bank has no swing row left. -/
def swingRow (row : Nat) (s : State) : State :=
  let b := bankOf row
  let used := Tab.get (fun _ => 0) s.ten.rowsUsed b
  let w := b / 128
  let s := s.modTen (fun t => { t with
    rowReads := t.rowReads.filter (fun r => decide (r.1 ≠ row))
    ueMoved := t.ueMoved ++ t.ue.filter (fun u => decide (u / 8 = row) && !(t.ueMoved.contains u)) })
  if used < 16 then
    let s := s.modTen (fun t => { t with rowsUsed := Tab.set (fun _ => 0) t.rowsUsed b (used + 1) })
    let s := ((s.setFld (Reg.rowsLeft w) (s.fld (Reg.rowsLeft w) - 1)).addFld (Reg.rowsSwungN w) 1).raise Reg.rowSwung
    let s := recordFailure clsRow (rowElement row) false s
    if used + 1 = 16 then swingLowAlert s else s
  else if row / 256 ∈ s.ten.retired ∨ row / 256 ∈ s.ten.pendingRetire then s
  else retireRegion row s

/-! Requests to space 1 (R245). -/

/-- A request to space 1, 2 or 3 of R196. -/
def spaceOf (f : Frame) : Nat := if Frame.addr f / 2 ^ 45 = 4 then 1 else if Frame.addr f / 2 ^ 45 = 5 then 2
  else if Frame.addr f / 2 ^ 45 = 6 then 3 else 0
def spaceOffset (f : Frame) : Nat := Frame.addr f % 2 ^ 45

/-- Every 16 MiB segment of a span accepts fabric writes. -/
def segmentsWritable (s : State) (o n : Nat) : Bool :=
  (List.range ((o + n - 1) / 2 ^ 24 - o / 2 ^ 24 + 1)).all (fun i => s.flag (Reg.spWmask (o / 2 ^ 24 + i)))

/-- The checks of R245: whether the request is refused with MEM_RANGE; a write of LEN 0 touches no byte. -/
def scratchRefused (s : State) (f : Frame) : Bool :=
  let o := spaceOffset f
  let n := if Frame.type f = tyReqRd then (Frame.op f + 1) * 16 else Frame.len f * 16
  decide (Frame.type f = tyReqAtom) || (decide (Frame.type f = tyReqWr) && decide (Frame.op f ≠ 0)) ||
  (decide (n ≠ 0) && (decide (spBytesAll < o + n) || decide (o % 16 ≠ 0) ||
    (decide (Frame.type f = tyReqWr) && !(segmentsWritable s o n))))

/-- Read the words that a write covers only in part: they are checked as on any read, and an uncorrectable one is logged. -/
def readPartWords (o n : Nat) (errs : List (Nat × List Byte)) (s : State) : State :=
  forEach (fun (x : Nat × Nat × Nat) s =>
    if x.2.2 = 32 then s
    else if wordUe s x.1 then logBadWord x.1 s
    else meetWord x.1 (wordPattern errs x.1) s) (wordsOf o n) s

/-- Serve a request to space 1. -/
def serveScratch (f : Frame) (errs : List (Nat × List Byte)) (s : State) : State :=
  let o := spaceOffset f
  if scratchRefused s f then answerErr f Err.memRange s
  else if Frame.type f = tyReqRd then
    let n := (Frame.op f + 1) * 16
    let s := countRowReads [(o, o + n)] (readWords o n errs s)
    let v := veiled none s
    if (firstBadWord s o n).isSome then answerErr f Err.memUncorr s else answerData f (spRead v o n) (readFrom v s)
  else
    let s := readPartWords o f.payload.length errs s
    if (firstPartBad s o f.payload.length).isSome then answerErr f Err.memUncorr (spWrite o f.payload s)
    else filtered f (myChip s) (fun s => (spWrite o f.payload s, none)) s

end Sys2Proof.Machine
end

