-- ==== Sys2Proof/Machine/TensorOps.lean ====
section
/-! DEFINITION. Tensor descriptors (R237), the checks of Table 08-4 and Table 10-11, and the results of the tensor instructions
(R230 to R242, R317 to R321). -/
namespace Sys2Proof.Machine

/-! Descriptors (Table 08-3). -/

abbrev Desc := BitVec 256

def Desc.f (d : Desc) (lo w : Nat) : Nat := bitsOf d.toNat lo w
def Desc.base (d : Desc) : Nat := Desc.f d 0 32
def Desc.fmt (d : Desc) : Nat := Desc.f d 32 4
def Desc.sparse (d : Desc) : Bool := decide (Desc.f d 36 1 = 1)
def Desc.masked (d : Desc) : Bool := decide (Desc.f d 37 1 = 1)
def Desc.rows (d : Desc) : Nat := Desc.f d 40 20
def Desc.cols (d : Desc) : Nat := Desc.f d 60 20
def Desc.stride (d : Desc) : Nat := Desc.f d 80 32
def Desc.scaleBase (d : Desc) : Nat := Desc.f d 112 32
def Desc.metaBase (d : Desc) : Nat := Desc.f d 144 32
def Desc.maskBase (d : Desc) : Nat := Desc.f d 176 32
def Desc.tileFirst (d : Desc) : Nat := Desc.f d 208 8
def Desc.tileCount (d : Desc) : Nat := Desc.f d 216 8

/-- Lowest bit of a descriptor field selector (Table 10-9). -/
def selLow (x : Nat) : Nat :=
  match x with
  | 0 => 0 | 1 => 32 | 2 => 36 | 3 => 37 | 4 => 40 | 5 => 60 | 6 => 80 | 7 => 112 | 8 => 144 | 9 => 176 | 10 => 208 | 11 => 216
  | _ => 0

def Desc.put (d : Desc) (lo w x : Nat) : Desc := BitVec.ofNat 256 (putBits d.toNat lo w x)

def round32 (n : Nat) : Nat := (n + 31) / 32 * 32

/-- Stored elements of a row, the bytes they take, and the row bytes of R237. -/
def Desc.stored (d : Desc) : Nat := if Desc.sparse d then Desc.cols d / 2 else Desc.cols d
def Desc.packedBytes (d : Desc) : Nat := (Desc.stored d * elemBits (Desc.fmt d) + 7) / 8
def Desc.rowBytes (d : Desc) : Nat := round32 (Desc.packedBytes d)
/-- Bytes of a scale row (R234), of a metadata row (R236), and of an expert-mask row (R242). -/
def Desc.scaleRow (d : Desc) : Nat := round32 ((Desc.cols d + 31) / 32)
def Desc.metaRow (d : Desc) : Nat := round32 (Desc.cols d / 8)
def Desc.expertRow (d : Desc) : Nat := round32 ((Desc.cols d + 7) / 8)

/-- The arrays of a descriptor as (base, bytes); `expert` for an expert mask. -/
def Desc.arrays (d : Desc) (expert : Bool) : List (Nat × Nat) :=
  [(Desc.base d, (Desc.rows d - 1) * Desc.stride d + Desc.rowBytes d)] ++
  (if isMx (Desc.fmt d) then [(Desc.scaleBase d, Desc.rows d * Desc.scaleRow d)] else []) ++
  (if Desc.sparse d then [(Desc.metaBase d, Desc.rows d * Desc.metaRow d)] else []) ++
  (if Desc.masked d then [(Desc.maskBase d, if expert then Desc.rows d * Desc.expertRow d else (Desc.rows d + 7) / 8)] else [])

/-- The extent of arrays: from the lowest to past the highest byte. -/
def extentOf : List (Nat × Nat) → Nat × Nat
  | [] => (0, 0)
  | [(b, n)] => (b, b + n)
  | (b, n) :: t => (min b (extentOf t).1, max (b + n) (extentOf t).2)

def Desc.extent (d : Desc) (expert : Bool) : Nat × Nat := extentOf (Desc.arrays d expert)

/-- Two extents overlap. -/
def overlaps (a b : Nat × Nat) : Bool := decide (a.1 < b.2) && decide (b.1 < a.2)

/-- Steps 1 to 4 of Table 08-4 for one descriptor. -/
def Desc.wellFormed (d : Desc) (expert : Bool) : Bool :=
  decide (Desc.fmt d ≤ 11) && decide (Desc.rows d ≠ 0) && decide (Desc.cols d ≠ 0) &&
  (!(isMx (Desc.fmt d) || Desc.sparse d) || decide (Desc.cols d % 32 = 0)) &&
  decide (Desc.base d % 32 = 0) && decide (Desc.stride d % 32 = 0) && decide (Desc.rowBytes d ≤ Desc.stride d) &&
  (!(isMx (Desc.fmt d)) || decide (Desc.scaleBase d % 32 = 0)) && (!(Desc.sparse d) || decide (Desc.metaBase d % 32 = 0)) &&
  (!(Desc.masked d) || decide (Desc.maskBase d % 32 = 0)) &&
  (Desc.arrays d expert).all (fun a => decide (a.1 + a.2 ≤ spBytesAll))

/-- Step 5 of Table 08-4. -/
def tilesOk (s : State) (d : Desc) : Bool :=
  decide (Desc.tileFirst d ≤ 231) && decide (1 ≤ Desc.tileCount d) && decide (Desc.tileFirst d + Desc.tileCount d ≤ 232) &&
  (List.range (Desc.tileCount d)).all (fun i => decide (s.fld (Reg.tmap (Desc.tileFirst d + i)) ≠ 0xFF))

/-- Every byte of [lo, hi) lies in one of the ranges; the fuel is the number of ranges that may be crossed. -/
def coveredBy (ranges : List (Nat × Nat)) : Nat → Nat → Nat → Bool
  | 0, lo, hi => decide (hi ≤ lo)
  | n + 1, lo, hi =>
    if hi ≤ lo then true
    else match ranges.find? (fun r => decide (r.1 ≤ lo) && decide (lo < r.1 + r.2)) with
      | some r => coveredBy ranges n (r.1 + r.2) hi
      | none => false

/-- Step 8 of Table 08-4 for one extent. -/
def inFootprint (foot : List (Nat × Nat)) (e : Nat × Nat) : Bool := coveredBy foot 8 e.1 e.2

/-! The operands of an instruction. -/

/-- V formats of Table 10-11. -/
def isV (f : Nat) : Bool := decide (7 ≤ f ∧ f ≤ 9)

/-- Table 08-2: a pair of operand formats. -/
def pairOk (a b : Nat) : Bool :=
  (decide (a ≤ 6) && decide (b ≤ 6)) || (decide (a = b) && decide (7 ≤ a ∧ a ≤ 10))

/-- Table 08-2: a result or srcC format of a pair. -/
def pairResult (a c : Nat) : Bool :=
  if a ≤ 8 then isV c else if a = 9 then decide (c = 9) else decide (c = 11)

/-- The descriptors of an instruction: dst, srcA, srcB, srcC. -/
structure Oper where
  w : Nat
  d : Desc
  a : Desc
  b : Desc
  c : Desc
  deriving DecidableEq, Repr

/-- The contribution format of a cue, or dst's FMT (R324). -/
def Oper.outFmt (o : Oper) : Nat :=
  if Isa.fmt o.w = 4 ∧ Isa.epi o.w ≠ 0 then Isa.epiXfmt o.w else Desc.fmt o.d

/-- MMAG's E and strides in bytes (R317). -/
def Oper.experts (o : Oper) : Nat := bitsOf o.w 0 11
def Oper.expertStride (o : Oper) : Nat := bitsOf o.w 12 26 * 32
def Oper.scaleStride (o : Oper) : Nat := bitsOf o.w 38 26 * 32

/-- srcB of expert e (R242). -/
def Oper.expert (o : Oper) (e : Nat) : Desc :=
  Desc.put (Desc.put o.b 0 32 (Desc.base o.b + e * o.expertStride)) 112 32 (Desc.scaleBase o.b + e * o.scaleStride)

/-- An FP32 PARAM field is finite and above 0. -/
def posFinite (c : Nat) : Bool := decide (0 < c ∧ c < 0x7F800000)

/-- The shape of the instruction's output: rows, columns. -/
def Oper.outShape (o : Oper) : Nat × Nat :=
  let m := Desc.rows o.a
  let op := Isa.opc o.w
  if op = Isa.oMMA ∨ op = Isa.oMMAS ∨ op = Isa.oMMAG then (m, Desc.rows o.b)
  else if op = Isa.oRED then (m, 1)
  else if op = Isa.oTOPK then (m, bitsOf o.w 0 11)
  else if op = Isa.oGATE then (Desc.cols o.a, m)
  else if op = Isa.oGATHERI then (Desc.rows o.b, Desc.cols o.a)
  else if op = Isa.oSAMPLE then (m, 1)
  else (m, Desc.cols o.a)

/-- Formats and shapes of the sources and the output format `f` (Tables 08-2, 10-11, R236, R242). -/
def Oper.sourcesOk (o : Oper) (f : Nat) : Bool :=
  let op := Isa.opc o.w
  let fa := Desc.fmt o.a
  let fb := Desc.fmt o.b
  let fc := Desc.fmt o.c
  let m := Desc.rows o.a
  let n := Desc.cols o.a
  let cue := decide (Isa.fmt o.w = 4)
  let plainA := !(Desc.sparse o.a)
  let mma := pairOk fa fb && pairResult fa f && decide (Desc.cols o.b = n) &&
    (decide (Isa.cEn o.w = 0) || (pairResult fa fc && !(Desc.sparse o.c) && decide (Desc.rows o.c = m) &&
      decide (Desc.cols o.c = Desc.rows o.b)))
  if op = Isa.oMMA then plainA && !(Desc.sparse o.b) && mma
  else if op = Isa.oMMAS then plainA && Desc.sparse o.b && mma
  else if op = Isa.oMMAG then
    plainA && !(Desc.sparse o.b) && !(Desc.sparse o.c) && pairOk fa fb && pairResult fa f && decide (Desc.cols o.b = n) &&
    decide (1 ≤ o.experts ∧ o.experts ≤ 1024) && decide (fc = 9) && Desc.masked o.c && decide (Desc.rows o.c = o.experts) &&
    decide (Desc.cols o.c = m)
  else if op = Isa.oEWA then
    let k := bitsOf o.w 0 4
    plainA && !(Desc.sparse o.b) && decide (k ≤ 5) && isV fa && isV fb && isV f && decide (Desc.cols o.b = n) &&
    decide (Desc.rows o.b = m ∨ Desc.rows o.b = 1) &&
    (decide (k ≠ 5) || (isV fc && !(Desc.sparse o.c) && decide (Desc.rows o.c = m) && decide (Desc.cols o.c = n)))
  else if op = Isa.oEWF then
    plainA && isV fa && isV f && decide (bitsOf o.w 0 4 ≤ 7) &&
    (decide (bitsOf o.w 0 4 ≠ 5) || decide (bitsOf o.w 32 31 < 0x7F800000))
  else if op = Isa.oRED then
    plainA && isV fa && decide (bitsOf o.w 0 3 ≤ 4) && (if bitsOf o.w 0 3 = 4 then decide (f = 11) else isV f)
  else if op = Isa.oNORM then
    plainA && !(Desc.sparse o.b) && isV fa && isV fb && isV f && decide (Desc.rows o.b = 1) && decide (Desc.cols o.b = n) &&
    posFinite (bitsOf o.w 0 32)
  else if op = Isa.oSMAX then plainA && isV fa && isV f && posFinite (bitsOf o.w 0 32)
  else if op = Isa.oTOPK then
    let k := bitsOf o.w 0 11
    plainA && isV fa && isV f && decide (1 ≤ k ∧ k ≤ min n 1024) && decide (fc = 11) && !(Desc.sparse o.c)
  else if op = Isa.oGATE then
    let k := bitsOf o.w 0 5
    plainA && isV fa && decide (n ≤ 1024) && decide (1 ≤ k ∧ k ≤ min n 16) && decide (f = 9) && Desc.masked o.d &&
    (decide (bitsOf o.w 6 1 = 0) || (isV fb && !(Desc.sparse o.b) && decide (Desc.rows o.b = 1) && decide (Desc.cols o.b = n)))
  else if op = Isa.oQNT then plainA && isV fa && decide (f ≤ 4)
  else if op = Isa.oCVT then plainA && decide (fa ≤ 10) && decide (5 ≤ f ∧ f ≤ 10)
  else if op = Isa.oCOPY then plainA && (cue || decide (f = fa))
  else if op = Isa.oGATHERI then
    plainA && decide (f = fa) && decide (fb = 11) && !(Desc.sparse o.b) && decide (Desc.cols o.b = 1)
  else
    plainA && decide (fa = 9) && decide (fb = 9) && !(Desc.sparse o.b) && decide (Desc.rows o.b = m) && decide (Desc.cols o.b = 1) &&
    decide (f = 11) && (decide (Isa.cEn o.w = 0) || (decide (fc = 11) && !(Desc.sparse o.c) && decide (Desc.rows o.c = m) &&
      decide (Desc.cols o.c = n)))

/-- srcC is a source with an expert mask; dst is one. -/
def Oper.expertC (o : Oper) : Bool :=
  decide (Isa.opc o.w = Isa.oMMAG) || (decide (Isa.fmt o.w = 4) && decide (Isa.xmode o.w = Isa.xROUTE))
def Oper.expertD (o : Oper) : Bool := decide (Isa.opc o.w = Isa.oGATE)

/-- srcC receives an output: the index output of TOPK. -/
def Oper.indexC (o : Oper) : Bool := decide (Isa.opc o.w = Isa.oTOPK)

/-- Source descriptors with the form of their mask, and whether each is well formed. -/
def Oper.sources (o : Oper) : List (Desc × Bool) :=
  [(o.a, false)] ++
  (if Isa.opc o.w = Isa.oMMAG then (List.range o.experts).map (fun e => (o.expert e, false))
   else if Isa.usesB o.w then [(o.b, false)] else []) ++
  (if Isa.cEn o.w = 1 ∧ !o.indexC then [(o.c, o.expertC)] else [])

/-- Extents that the instruction reads. -/
def Oper.reads (o : Oper) : List (Nat × Nat) := o.sources.map (fun x => Desc.extent x.1 x.2)

/-- Extents that the instruction writes. -/
def Oper.writes (o : Oper) : List (Nat × Nat) :=
  [Desc.extent o.d o.expertD] ++ (if o.indexC then [Desc.extent o.c false] else [])

/-- Instructions that may write in place (step 7). -/
def inPlaceOk (op : Nat) : Bool :=
  decide (op = Isa.oEWA ∨ op = Isa.oEWF ∨ op = Isa.oNORM ∨ op = Isa.oQNT ∨ op = Isa.oCVT ∨ op = Isa.oCOPY)

/-- The MMAG expert arrays end within the window before their bases wrap. -/
def Oper.expertsEnd (o : Oper) : Bool :=
  decide (Isa.opc o.w ≠ Isa.oMMAG) ||
  (decide (Desc.base o.b + (o.experts - 1) * o.expertStride ≤ spBytesAll) &&
    (!(isMx (Desc.fmt o.b)) || decide (Desc.scaleBase o.b + (o.experts - 1) * o.scaleStride ≤ spBytesAll)))

/-- Table 08-4 and Table 10-11 but for dst's shape, which a crossing changes. -/
def Oper.ok (o : Oper) (s : State) (foot : List (Nat × Nat)) : Bool :=
  o.expertsEnd && o.sources.all (fun x => Desc.wellFormed x.1 x.2) && Desc.wellFormed o.d o.expertD &&
  (!o.indexC || (Desc.wellFormed o.c false && tilesOk s o.c && decide (Desc.rows o.c = Desc.rows o.a) && decide (Desc.cols o.c = bitsOf o.w 0 11))) &&
  !(Desc.sparse o.d) && decide (o.outFmt ≤ 11) && o.sourcesOk o.outFmt && tilesOk s o.d &&
  o.writes.all (fun e => o.reads.all (fun r => !(overlaps e r) || (inPlaceOk (Isa.opc o.w) && decide (e = r)))) &&
  (!o.indexC || !(overlaps (Desc.extent o.d false) (Desc.extent o.c false))) &&
  (o.reads ++ o.writes).all (inFootprint foot)

/-- dst has the instruction's own output shape. -/
def Oper.shapeOk (o : Oper) : Bool := decide ((Desc.rows o.d, Desc.cols o.d) = o.outShape)

/-! Reading tensors. -/

/-- Code of stored element i of row r. -/
def elemCode (s : State) (d : Desc) (r i : Nat) : Nat :=
  let w := elemBits (Desc.fmt d)
  bitsOf (leNat (spRead s (Desc.base d + r * Desc.stride d + i * w / 8) 5)) (i * w % 8) w

/-- Scale code of block b of row r, 127 for a format with no block scale. -/
def scaleCode (s : State) (d : Desc) (r b : Nat) : Nat :=
  if isMx (Desc.fmt d) then (spByte s (Desc.scaleBase d + r * Desc.scaleRow d + b)).toNat else 127

/-- Metadata of group g of row r: the two kept positions (R236). -/
def metaPair (s : State) (d : Desc) (r g : Nat) : Nat × Nat :=
  let v := (spByte s (Desc.metaBase d + r * Desc.metaRow d + g / 2)).toNat / 16 ^ (g % 2) % 16
  (v % 4, v / 4)

/-- Value of logical element j of row r. -/
def elemVal (s : State) (d : Desc) (r j : Nat) : FVal :=
  match floatFmt (Desc.fmt d) with
  | none => .zero
  | some f =>
    let at_ := fun (i : Nat) =>
      let v := decodeF f (elemCode s d r i)
      if isMx (Desc.fmt d) then scaled (scaleCode s d r (j / 32)) v else v
    if Desc.sparse d then
      let p := metaPair s d r (j / 4)
      if j % 4 = p.1 then at_ (2 * (j / 4))
      else if j % 4 = p.2 then at_ (2 * (j / 4) + 1)
      else if scaleCode s d r (j / 32) = 0xFF then .nan else .zero
    else at_ j

/-- Integer value of element j of row r, INT8 or INT32. -/
def elemInt (s : State) (d : Desc) (r j : Nat) : Int :=
  let w := elemBits (Desc.fmt d)
  if Desc.sparse d then
    let p := metaPair s d r (j / 4)
    if j % 4 = p.1 then signedOf w (elemCode s d r (2 * (j / 4)))
    else if j % 4 = p.2 then signedOf w (elemCode s d r (2 * (j / 4) + 1))
    else 0
  else signedOf w (elemCode s d r j)

def rowVals (s : State) (d : Desc) (r : Nat) : List FVal := (List.range (Desc.cols d)).map (elemVal s d r)

/-- A value of an FP32, BF16 or FP16 element as FP32. -/
def valR32 (s : State) (d : Desc) (r j : Nat) : FVal := elemVal s d r j

/-- Mask bit of row r (R241). -/
def rowOn (s : State) (d : Desc) (r : Nat) : Bool :=
  !(Desc.masked d) || (spByte s (Desc.maskBase d + r / 8)).toNat.testBit (r % 8)

/-- Expert-mask bit (e, t) (R242). -/
def expertOn (s : State) (d : Desc) (e t : Nat) : Bool :=
  (spByte s (Desc.maskBase d + e * Desc.expertRow d + t / 8)).toNat.testBit (t % 8)

/-- A sparse row whose metadata is bad (R236). -/
def badMeta (s : State) (d : Desc) : Bool :=
  Desc.sparse d && (List.range (Desc.rows d)).any (fun r => (List.range (Desc.cols d / 4)).any (fun g =>
    let p := metaPair s d r g
    decide (p.2 ≤ p.1)))

/-! Writing tensors. -/

/-- Codes packed densely into bytes (R229). -/
def packCodes (w : Nat) (codes : List Nat) : List Byte :=
  leBytes ((codes.length * w + 7) / 8) (codes.zipIdx.foldl (fun n (c, i) => n + (c % 2 ^ w) <<< (i * w)) 0)

/-- An output row: values, integers, or stored bytes with their scale bytes. -/
inductive RowOut where
  | vals (l : List FVal)
  | ints (l : List Int)
  | raw (elems scales : List Byte)
  deriving DecidableEq, Repr

/-- Convert a value to INT8 (R318). -/
def toInt8 (v : FVal) : Int :=
  match v with
  | .nan => 0
  | .inf n => if n then -128 else 127
  | .fin n m e =>
    let k := if 20 < e ∧ m ≠ 0 then 1000 else rneShift m (min e 20)
    let i : Int := if n then -(k : Int) else (k : Int)
    max (-128) (min 127 i)

/-- An integer as a number. -/
def ofInt (i : Int) : FVal := .fin (decide (i < 0)) i.natAbs 0

/-- A row of values in a format: the element bytes and the scale bytes. -/
def encodeVals (f : Nat) (l : List FVal) : List Byte × List Byte :=
  if isMx f then
    let blocks := (chunksOf 32 (ceilDiv l.length 32) l).map (encodeBlock f)
    (packCodes (elemBits f) (blocks.flatMap (fun b => b.2)), blocks.map (fun b => BitVec.ofNat 8 b.1))
  else match floatFmt f with
  | some g => (packCodes (elemBits f) (l.map (encodeF g)), [])
  | none => (packCodes (elemBits f) (l.map (fun v => wrapTo (elemBits f) (toInt8 v))), [])

/-- A row in its stored form in format f. -/
def encodeRow (f : Nat) (o : RowOut) : List Byte × List Byte :=
  match o with
  | .vals l => encodeVals f l
  | .ints l => (packCodes (elemBits f) (l.map (wrapTo (elemBits f))), [])
  | .raw e c => (e, c)

/-- Store an encoded row. -/
def storeRow (d : Desc) (r : Nat) (p : List Byte × List Byte) (s : State) : State :=
  let s := spWrite (Desc.base d + r * Desc.stride d) p.1 s
  if p.2.isEmpty then s else spWrite (Desc.scaleBase d + r * Desc.scaleRow d) p.2 s

/-! The instructions. -/

/-- One result element of a floating-point pair (R231): sub-blocks of 32 along K. -/
def dotF (acc : FVal) (a b : List FVal) : FVal :=
  (List.range (ceilDiv a.length 32)).foldl (fun acc j =>
    let p := List.zipWith FVal.mul ((a.drop (32 * j)).take 32) ((b.drop (32 * j)).take 32)
    r32 (FVal.add acc (r32 (sumExact p)))) acc

/-- Saturate to INT32, with whether it saturated. -/
def sat32 (i : Int) : Int × Bool :=
  if i < -2147483648 then (-2147483648, true) else if 2147483647 < i then (2147483647, true) else (i, false)

/-- A value as INT32: the nearest integer, ties to even, saturated; NaN gives 0 (R318 for INT8). -/
def toInt32 (v : FVal) : Int :=
  (sat32 (match v with
    | .fin n m e => (if n then -1 else 1) * (rneShift m (min e 64) : Int)
    | .inf n => if n then -2147483648 else 2147483647
    | .nan => 0)).1

/-- One result element of an INT8 pair (R232) and the saturating additions. -/
def dotI (acc : Int) (a b : List Int) : Int × Nat :=
  (List.range (ceilDiv a.length 32)).foldl (fun (st : Int × Nat) j =>
    let p := List.zipWith (· * ·) ((a.drop (32 * j)).take 32) ((b.drop (32 * j)).take 32)
    let r := sat32 (st.1 + p.foldl (· + ·) 0)
    (r.1, st.2 + (if r.2 then 1 else 0))) (acc, 0)

/-- A row of MMA or MMAS. -/
def mmaRow (s : State) (o : Oper) (r : Nat) : RowOut :=
  if Desc.fmt o.a = 10 then
    let a := (List.range (Desc.cols o.a)).map (elemInt s o.a r)
    .ints ((List.range (Desc.rows o.b)).map (fun n =>
      (dotI (if Isa.cEn o.w = 1 then elemInt s o.c r n else 0) a ((List.range (Desc.cols o.b)).map (elemInt s o.b n))).1))
  else
    let a := rowVals s o.a r
    .vals ((List.range (Desc.rows o.b)).map (fun n =>
      dotF (if Isa.cEn o.w = 1 then r32 (elemVal s o.c r n) else .zero) a (rowVals s o.b n)))

/-- Saturating INT32 additions of a row of MMA or MMAS, or of a token of MMAG (R232). -/
def mmaSats (s : State) (o : Oper) (r : Nat) : Nat :=
  if Desc.fmt o.a ≠ 10 then 0
  else
    let a := (List.range (Desc.cols o.a)).map (elemInt s o.a r)
    let sats := fun (acc : Nat → Int) (b : Desc) => (List.range (Desc.rows b)).foldl (fun k n =>
      k + (dotI (acc n) a ((List.range (Desc.cols b)).map (elemInt s b n))).2) 0
    if Isa.opc o.w = Isa.oMMA ∨ Isa.opc o.w = Isa.oMMAS then
      sats (fun n => if Isa.cEn o.w = 1 then elemInt s o.c r n else 0) o.b
    else if Isa.opc o.w = Isa.oMMAG then
      ((List.range o.experts).filter (fun e => expertOn s o.c e r)).foldl (fun k e => k + sats (fun _ => 0) (o.expert e)) 0
    else 0

/-- Count the saturating additions of an instruction (R232) that reads from `v`. -/
def countSats (v : State) (o : Oper) (s : State) : State :=
  let sats := (List.range (Desc.rows o.a)).foldl (fun k r => k + (if rowOn v o.a r then mmaSats v o r else 0)) 0
  if sats = 0 then s else (s.addFld Reg.tenIntSat sats).raise Reg.intSatEv

/-- A row of MMAG (R242). -/
def mmagRow (s : State) (o : Oper) (t : Nat) : RowOut :=
  let a := rowVals s o.a t
  let ai := (List.range (Desc.cols o.a)).map (elemInt s o.a t)
  let es := (List.range o.experts).filter (fun e => expertOn s o.c e t)
  let out := (List.range (Desc.rows o.b)).map (fun n =>
    es.foldl (fun acc e =>
      let b := o.expert e
      let y := if Desc.fmt o.a = 10 then r32 (ofInt (dotI 0 ai ((List.range (Desc.cols b)).map (elemInt s b n))).1)
        else dotF .zero a (rowVals s b n)
      r32 (FVal.add acc (r32 (FVal.mul (elemVal s o.c e t) y)))) FVal.zero)
  if Desc.fmt o.d = 11 then .ints (out.map toInt32)
  else .vals out

/-- MAX and MIN with NaN below every number (R318, R330). -/
def maxV (a b : FVal) : FVal := if FVal.isNan a then b else if FVal.isNan b then a else if FVal.lt a b then b else a
def minV (a b : FVal) : FVal := if FVal.isNan a then b else if FVal.isNan b then a else if FVal.lt b a then b else a

/-- One element of EWA. -/
def ewaVal (k : Nat) (a b c : FVal) : FVal :=
  match k with
  | 0 => r32 (FVal.add a b)
  | 1 => r32 (FVal.sub a b)
  | 2 => r32 (FVal.mul a b)
  | 3 => maxV a b
  | 4 => minV a b
  | _ => r32 (FVal.add (FVal.mul a b) c)

/-- An integer count as FP32. -/
def countR32 (n : Nat) : FVal := r32 (.fin false n 0)

/-- N(x) of a row with gain g (R318, R325). -/
def normRow (x g : List FVal) (eps : Nat) : List FVal :=
  let ss := x.foldl (fun a v => r32 (FVal.add a (r32 (FVal.mul v v)))) FVal.zero
  let inv := rsqrtR32 (r32 (FVal.add (divR32 ss (countR32 x.length)) (f32 eps)))
  List.zipWith (fun v gv => r32 (FVal.mul (r32 (FVal.mul v inv)) gv)) x g

/-- Ordered softmax of values: subtract the maximum, EXP, divide by the ordered sum. -/
def softmax (y : List FVal) : List FVal :=
  let mx := y.foldl maxV .nan
  let ex := y.map (fun v => expR32 (r32 (FVal.sub v mx)))
  let sum := sumR32 FVal.zero ex
  ex.map (fun v => divR32 v sum)

/-- Column order of TOPK: value descending, NaN last, lower column first; the k first columns. -/
def pickBest (x : List (Nat × FVal)) : Option (Nat × FVal) :=
  x.foldl (fun best v => match best with
    | none => some v
    | some b => if (FVal.isNan b.2 && !(FVal.isNan v.2)) || FVal.lt b.2 v.2 then some v else some b) none

def topK : Nat → List (Nat × FVal) → List (Nat × FVal)
  | 0, _ => []
  | k + 1, x => match pickBest x with
    | none => []
    | some b => b :: topK k (x.erase b)

/-- The columns of a row with their values. -/
def indexed (x : List FVal) : List (Nat × FVal) := x.zipIdx.map (fun p => (p.2, p.1))

/-- Reduction of a row (RED). -/
def redRow (op : Nat) (x : List FVal) : RowOut :=
  match op with
  | 0 => .vals [sumR32 FVal.zero x]
  | 1 => .vals [x.foldl maxV .nan]
  | 2 => .vals [x.foldl minV .nan]
  | 3 => .vals [x.foldl (fun a v => r32 (FVal.add a (r32 (FVal.mul v v)))) FVal.zero]
  | _ => .ints [match pickBest ((indexed x).filter (fun p => !(FVal.isNan p.2))) with
    | some b => (b.1 : Int)
    | none => 0]

/-- Weights of a token for its selected experts (R319): (expert, weight). -/
def gateWeights (k : Nat) (norm : Bool) (x : List FVal) : List (Nat × FVal) :=
  let sel := topK k (indexed x)
  if norm then
    let all := softmax x
    sel.map (fun p => (p.1, (all[p.1]?).getD .zero))
  else
    let cols := (indexed x).filter (fun p => sel.any (fun q => decide (q.1 = p.1)))
    List.zipWith (fun (p : Nat × FVal) v => (p.1, v)) cols (softmax (cols.map (fun p => p.2)))

/-- The biased logits of token t. -/
def gateLogits (s : State) (o : Oper) (t : Nat) : List FVal :=
  (List.range (Desc.cols o.a)).map (fun e =>
    if bitsOf o.w 6 1 = 1 then r32 (FVal.add (elemVal s o.a t e) (elemVal s o.b 0 e)) else elemVal s o.a t e)

/-- GATE: for each token its selected experts and weights; a masked token selects none. -/
def gateAll (s : State) (o : Oper) : List (List (Nat × FVal)) :=
  (List.range (Desc.rows o.a)).map (fun t =>
    if rowOn s o.a t then gateWeights (bitsOf o.w 0 5) (decide (bitsOf o.w 5 1 = 1)) (gateLogits s o t) else [])

/-- SAMPLE of one row (R320): the chosen column, or none. -/
def sampleRow (greedy : Bool) (ws : List FVal) (u : FVal) : Option Nat :=
  let w := ws.map (fun v => if FVal.isNan v || FVal.lt v .zero then FVal.zero else v)
  let total := sumR32 FVal.zero w
  if FVal.isZero total then none
  else if greedy then (pickBest (indexed w)).map (fun b => b.1)
  else
    let u := if FVal.isNan u || FVal.lt u .zero || !(FVal.lt u .one) then FVal.zero else u
    let lim := r32 (FVal.mul u total)
    let sums := (w.foldl (fun (st : FVal × List FVal) v =>
      let p := r32 (FVal.add st.1 v)
      (p, st.2 ++ [p])) (FVal.zero, [])).2
    match (indexed sums).find? (fun p => FVal.lt lim p.2) with
    | some p => some p.1
    | none => (((indexed w).filter (fun p => FVal.lt .zero p.2)).getLast?).map (fun p => p.1)

/-- The stored bytes of row r of srcA, scale bytes apart. -/
def storedRow (s : State) (d : Desc) (r : Nat) : RowOut :=
  .raw (spRead s (Desc.base d + r * Desc.stride d) (Desc.packedBytes d))
    (if isMx (Desc.fmt d) then spRead s (Desc.scaleBase d + r * Desc.scaleRow d) ((Desc.cols d + 31) / 32) else [])

/-- A row's values whatever its format. -/
def anyVals (s : State) (d : Desc) (r : Nat) : List FVal :=
  if 10 ≤ Desc.fmt d then (List.range (Desc.cols d)).map (fun j => ofInt (elemInt s d r j)) else rowVals s d r

/-- Output row r of an instruction but GATE, none where the row is masked; a GATHERI's mask is that of the srcA row which the index
names. `f` is the format written. DEDUCED, log entry 143. -/
def outRow (s : State) (o : Oper) (f r : Nat) : Option RowOut :=
  let op := Isa.opc o.w
  if op = Isa.oGATHERI then
    let i := elemInt s o.b r 0
    if 0 ≤ i ∧ i < (Desc.rows o.a : Int) then (if rowOn s o.a i.toNat then some (storedRow s o.a i.toNat) else none)
    else some (match storedRow s o.a 0 with
      | .raw e c => .raw (e.map (fun _ => 0)) (c.map (fun _ => 0))
      | x => x)
  else if rowOn s o.a r = false then none
  else some (
    if op = Isa.oMMA ∨ op = Isa.oMMAS then mmaRow s o r
    else if op = Isa.oMMAG then mmagRow s o r
    else if op = Isa.oEWA then
      let rb := if Desc.rows o.b = 1 then 0 else r
      .vals ((List.range (Desc.cols o.a)).map (fun j =>
        ewaVal (bitsOf o.w 0 4) (elemVal s o.a r j) (elemVal s o.b rb j) (if Isa.cEn o.w = 1 then elemVal s o.c r j else .zero)))
    else if op = Isa.oEWF then
      .vals ((rowVals s o.a r).map (fun v =>
        if bitsOf o.w 0 4 = fSCALE then r32 (FVal.mul v (f32 (bitsOf o.w 32 32))) else ewf (bitsOf o.w 0 4) v))
    else if op = Isa.oRED then redRow (bitsOf o.w 0 3) (rowVals s o.a r)
    else if op = Isa.oNORM then .vals (normRow (rowVals s o.a r) (rowVals s o.b 0) (bitsOf o.w 0 32))
    else if op = Isa.oSMAX then
      let y := (rowVals s o.a r).map (fun v => r32 (FVal.mul v (f32 (bitsOf o.w 0 32))))
      .vals (if y.any FVal.isNan then y.map (fun _ => FVal.nan) else softmax y)
    else if op = Isa.oTOPK then .vals ((topK (bitsOf o.w 0 11) (indexed (rowVals s o.a r))).map (fun p => p.2))
    else if op = Isa.oQNT ∨ op = Isa.oCVT then .vals (anyVals s o.a r)
    else if op = Isa.oCOPY then
      (if f = Desc.fmt o.a then storedRow s o.a r
       else if f = 11 then .ints ((anyVals s o.a r).map toInt32)
       else .vals (anyVals s o.a r))
    else
      .ints [match sampleRow (decide (bitsOf o.w 0 1 = 1)) (rowVals s o.a r) (elemVal s o.b r 0) with
        | none => 0xFFFFFFFF
        | some j => if Isa.cEn o.w = 1 then elemInt s o.c r j else (j : Int)])

/-- The indices of a TOPK row (R320). -/
def topIndices (s : State) (o : Oper) (r : Nat) : List Int :=
  (topK (bitsOf o.w 0 11) (indexed (rowVals s o.a r))).map (fun p => ((p.1 + bitsOf o.w 32 32 : Nat) : Int))

/-- Write GATE's weights and expert mask (R319), its sources read from `v`. -/
def writeGate (v : State) (o : Oper) (s : State) : State :=
  let all := gateAll v o
  forEach (fun e s =>
    let row := all.map (fun sel => ((sel.find? (fun p => decide (p.1 = e))).map (fun p => p.2)).getD FVal.zero)
    let bits := all.zipIdx.foldl (fun n (sel, t) => if sel.any (fun p => decide (p.1 = e)) then n + 2 ^ t else n) 0
    spWrite (Desc.maskBase o.d + e * Desc.expertRow o.d) (leBytes ((Desc.cols o.d + 7) / 8) bits)
      (storeRow o.d e (encodeVals 9 row) s)) (List.range (Desc.cols o.a)) s

/-- Write the result of an FMT 3 instruction, its sources read from `v`. -/
def writeResult (v : State) (o : Oper) (s : State) : State :=
  if Isa.opc o.w = Isa.oGATE then writeGate v o s
  else
    let rows := (List.range o.outShape.1).map (fun r => outRow v o (Desc.fmt o.d) r)
    let idx := if o.indexC then (List.range o.outShape.1).map (fun r => topIndices v o r) else []
    forEach (fun (p : Option RowOut × Nat) s => match p.1 with
      | none => s
      | some row =>
        let s := storeRow o.d p.2 (encodeRow (Desc.fmt o.d) row) s
        if o.indexC then storeRow o.c p.2 (encodeRow 11 (.ints ((idx[p.2]?).getD []))) s else s) rows.zipIdx s

/-- The contribution of a cue (R324, R335): its rows flattened in format f, a masked row as zero bytes, and which rows are
present. -/
def contribution (s : State) (o : Oper) (f : Nat) : List Byte × List Bool :=
  let rows := (List.range o.outShape.1).map (fun r => outRow s o f r)
  let zeros := (o.outShape.2 * elemBits f + 7) / 8 + (if isMx f then ceilDiv o.outShape.2 32 else 0)
  (rows.flatMap (fun x => match x with
    | none => List.replicate zeros 0
    | some row =>
      let p := encodeRow f row
      p.1 ++ p.2), rows.map (fun x => x.isSome))

/-! Tiles (R224 to R226). -/

/-- The physical tiles that a descriptor's range names (R239). -/
def tilesOf (s : State) (d : Desc) : List Nat :=
  (List.range (Desc.tileCount d)).map (fun i => s.fld (Reg.tmap (Desc.tileFirst d + i)))

/-- CUE_GEN rises (R290). -/
def bumpGen (s : State) : State := s.addFld Reg.cueGen 1

/-- Map logical tile l of a wing to physical tile p. -/
def mapTile (l p : Nat) (s : State) : State :=
  ((s.setFld (Reg.tmap l) p).setFld (Reg.tileRole p) 0).setFld (Reg.tileLogical p) l

/-- The lowest SPARE tile of a wing. -/
def spareTile (s : State) (w : Nat) : Option Nat :=
  ((List.range 60).map (fun i => 60 * w + i)).find? (fun p => decide (s.fld (Reg.tileRole p) = 1))

/-- Move logical tile l of a wing to physical tile p, whose role stays. -/
def moveTile (l p : Nat) (s : State) : State := (s.setFld (Reg.tmap l) p).setFld (Reg.tileLogical p) l

/-- Repack the mapped logical tiles of a wing so that the lowest stay mapped (R225). -/
def repackWing (w : Nat) (s : State) : State :=
  let mapped := ((List.range 58).map (fun i => s.fld (Reg.tmap (58 * w + i)))).filter (fun p => decide (p ≠ 0xFF))
  let s := forEach (fun i s =>
    match mapped[i]? with
    | some p => moveTile (58 * w + i) p s
    | none => s.setFld (Reg.tmap (58 * w + i)) 0xFF) (List.range 58) s
  s.setFld (Reg.activeTiles w) mapped.length

/-- Retire a tile: it holds no logical number, and the wing is repacked (R225). DEDUCED, log entry 81. -/
def retireTile (p : Nat) (s : State) : State :=
  let l := s.fld (Reg.tileLogical p)
  let s := (s.setFld (Reg.tileRole p) 3).setFld (Reg.tileLogical p) 0xFF
  let s := if l < 232 then repackWing (p / 60) (s.setFld (Reg.tmap l) 0xFF) else s
  bumpGen (s.raise Reg.tileRetired)

/-- Swing a tile (R225): the lowest SPARE takes its logical number over through quarantine, or the tile is retired. The tile
given up becomes RETIRED. -/
def swingTile (p : Nat) (s : State) : State :=
  let l := s.fld (Reg.tileLogical p)
  match spareTile s (p / 60) with
  | none => retireTile p s
  | some q =>
    let s := (s.setFld (Reg.tileRole p) 3).setFld (Reg.tileLogical p) 0xFF
    let s := if l < 232 then wakeUnit (tileUnit q) (((mapTile l q s).setFld (Reg.tileRole q) 2).raise (Reg.quarTile q)) else s
    bumpGen (s.raise Reg.tileSwung)

/-- Reloads of a tile in the last 24 h (R226). -/
def reloads24 (s : State) (p : Nat) : Nat :=
  (s.ten.reloads.filter (fun r => decide (r.1 = p) && decide (s.now < r.2 + ticks24h))).length

/-- Count the reloads that an instruction's tiles met. -/
def noteReloads (tiles : List Nat) (s : State) : State :=
  forEach (fun p s => (s.count Reg.tbUe).modTen (fun t => { t with
    reloads := (t.reloads.filter (fun r => decide (s.now < r.2 + ticks24h))) ++ [(p, s.now)] })) tiles s

end Sys2Proof.Machine
end

