-- ==== Sys2Proof/Machine/CueOps.lean ====
section
/-! DEFINITION. The cue programming model: counters (R279 to R287), the cue store and programs (R260 to R264), triggers and contexts
(R255 to R259, R265 to R268), generations (R290, R291), and the transfers of R313. -/
namespace Sys2Proof.Machine

def State.modCue (s : State) (f : Cue → Cue) : State := { s with cue := f s.cue }

/-! Counters. -/

def State.ctr (s : State) (c : Nat) : Ctr := Tab.get (fun _ => Ctr.init) s.cue.ctrs c
def State.setCtr (s : State) (c : Nat) (x : Ctr) : State :=
  s.modCue (fun k => { k with ctrs := Tab.set (fun _ => Ctr.init) k.ctrs c x })
def State.modCtr (s : State) (c : Nat) (f : Ctr → Ctr) : State := s.setCtr c (f (s.ctr c))

/-- PHASE codes of Table 09-8. -/
def phIdle : Nat := 0
def phAccepted : Nat := 1
def phRunning : Nat := 2
def phPartial : Nat := 3
def phFinal : Nat := 4
def phRetracted : Nat := 6
def phAborted : Nat := 8
def phRefused : Nat := 9

/-- R280: the first row of Table 09-8 that applies. -/
def Ctr.phase (c : Ctr) : Nat :=
  if c.bound = false then phIdle
  else if c.kind = 1 then phRefused
  else if c.kind = 2 then phAborted
  else if c.out = 0 then phFinal
  else if c.retracted ≠ 0 then phRetracted
  else if c.progress ≠ 0 then phPartial
  else if c.started then phRunning
  else phAccepted

/-- The status word (Table 09-13). -/
def Ctr.word (c : Ctr) : Word :=
  BitVec.ofNat 64 (c.progress % 2 ^ 32 + min 255 c.rev * 2 ^ 40 + c.err % 4096 * 2 ^ 48 + Ctr.phase c * 2 ^ 60)

/-- R286: settled. -/
def Ctr.settled (c : Ctr) : Bool :=
  decide (c.out = 0) && decide (Ctr.phase c = phFinal ∨ Ctr.phase c = phAborted ∨ Ctr.phase c = phRefused)

/-- R281: the counter accepts a binding. -/
def Ctr.binds (c : Ctr) : Bool := !(decide (c.kind ≠ 0) && decide (c.out ≠ 0))

/-- A binding of `n` chunks arms the counter or joins its arm. -/
def Ctr.bind (n : Nat) (c : Ctr) : Ctr :=
  if c.out = 0 then { Ctr.init with bound := true, target := n, out := 1, later := c.later }
  else { c with target := c.target + n, out := c.out + 1 }

/-- TARGET after a binding (step 4 of Table 09-6). -/
def Ctr.targetAfter (n : Nat) (c : Ctr) : Nat := if c.out = 0 then n else c.target + n

/-- What an event does to a counter: a landed chunk, one that had been retracted (`again`), a retraction (R280, R350), all frozen once an
error is held; the first error of the arm (R282): a refusal (1) or an abort (2); the end of a crossing. -/
def Ctr.apply (c : Ctr) : CtrEvent → Ctr
  | .error kind code => if c.kind = 0 then { c with kind := kind, err := code } else c
  | .retract => if c.kind ≠ 0 then c
      else { c with progress := c.progress - 1, rev := min 255 (c.rev + 1), retracted := c.retracted + 1 }
  | .land again => if c.kind ≠ 0 then c
      else { c with progress := c.progress + 1, retracted := if again then c.retracted - 1 else c.retracted }
  | .finish => { c with out := c.out - 1 }

/-- An event takes effect, or waits for the bindings of its cycle (R284). -/
def Ctr.event (e : CtrEvent) (c : Ctr) : Ctr :=
  match c.later with
  | none => Ctr.apply c e
  | some l => { c with later := some (l ++ [e]) }

def Ctr.land (again : Bool) (c : Ctr) : Ctr := Ctr.event (.land again) c
def Ctr.retract (c : Ctr) : Ctr := Ctr.event .retract c
/-- A bound crossing ends as verified. -/
def Ctr.finish (c : Ctr) : Ctr := Ctr.event .finish c
/-- The first error of the arm. -/
def Ctr.note (kind code : Nat) (c : Ctr) : Ctr := Ctr.event (.error kind code) c
/-- A bound crossing ends with an error. -/
def Ctr.fail (kind code : Nat) (c : Ctr) : Ctr := Ctr.finish (Ctr.note kind code c)

/-- Place of an event in the order of R284. -/
def CtrEvent.rank : CtrEvent → Nat
  | .error _ _ => 0
  | .retract => 1
  | .land _ => 2
  | .finish => 3

/-- The bindings of a cycle begin: other events wait. -/
def Ctr.hold (c : Ctr) : Ctr := { c with later := some [] }

/-- The bindings of a cycle are made: what waited takes effect in the order of R284. -/
def Ctr.settleCycle (c : Ctr) : Ctr :=
  let l := c.later.getD []
  ([0, 1, 2, 3].flatMap (fun r => l.filter (fun e => decide (e.rank = r)))).foldl Ctr.apply { c with later := none }

/-- A bound crossing has started (row 7 of Table 09-8). -/
def Ctr.start (c : Ctr) : Ctr := { c with started := true }

/-- A crossing binds `n` chunks to a counter; an arm forgets the result extents of the last one. -/
def bindCtr (c n : Nat) (s : State) : State :=
  let s := if (s.ctr c).out = 0 then s.modCue (fun k => { k with results := k.results.filter (fun r => decide (r.ctr ≠ c)) }) else s
  s.modCtr c (Ctr.bind n)

/-- A result extent belongs to a crossing (R272). -/
def addResult (c id : Nat) (e : Nat × Nat) (s : State) : State :=
  s.modCue (fun k => { k with results := k.results ++ [Result.mk c id e.1 e.2] })

/-- Crossings in flight (R275). -/
def inFlight (s : State) : Nat := (s.col.ops.filter (fun o => !o.ended)).length + s.cue.xfers.length + s.cue.sigs.length

/-! Programs and the store. -/

def State.prog (s : State) (n : Nat) : Option Prog := Tab.get (fun _ => none) s.cue.progs n
def State.setProg (s : State) (n : Nat) (p : Option Prog) : State :=
  s.modCue (fun k => { k with progs := Tab.set (fun _ => none) k.progs n p })

def storeBytes (s : State) (o n : Nat) : List Byte := Tab.getRange (fun _ => 0) s.cue.store o n
def storeNat (s : State) (o n : Nat) : Nat := leNat (storeBytes s o n)
def storeSize : Nat := 0x1000000

/-- Slots of loaded programs, the one being loaded included. -/
def progSlots (s : State) : List Nat := (List.range 64).filter (fun n => (s.prog n).isSome)

/-- A store offset lies inside a loaded image (R263). -/
def inImage (s : State) (o : Nat) : Bool :=
  (progSlots s).any (fun n => ((s.prog n).map (fun p => decide (p.image ≤ o) && decide (o < p.image + p.bytes))).getD false)

/-- Write bytes of the store outside loaded images (R263). -/
def storeWrite (o : Nat) (bs : List Byte) (s : State) : State :=
  let st := bs.zipIdx.foldl (fun t (b, i) =>
    if inImage s (o + i) ∨ storeSize ≤ o + i then t else Tab.set (fun _ => 0) t (o + i) b) s.cue.store
  s.modCue (fun k => { k with store := st })

/-- Triggers that no program owns. -/
def freeTrigs (s : State) : List Nat := (List.range 1024).filter (fun t => s.fld (Reg.trigValid t) = 0)

/-- A trigger record of an image (R260, step 6 of Table 09-4): valid under Table 09-9. -/
def trigRecordOk (lo hi insns : Nat) : Bool :=
  let kind := bitsOf lo 2 2
  let source := bitsOf lo 18 12
  decide (kind ≠ 3) && decide (bitsOf lo 30 2 = 0) && decide (bitsOf lo 52 12 = 0) && decide (bitsOf lo 32 20 < insns) &&
  (decide (kind ≠ 1) || decide (source < 256)) && (decide (kind ≠ 2) || (decide (source = 0) && decide (bitsOf hi 0 32 ≠ 0))) &&
  decide (bitsOf hi 32 8 ≤ 231) && decide (bitsOf hi 32 8 + bitsOf hi 40 8 ≤ 232)

/-- What an image header at `o` declares (Table 09-3). -/
def imgTriggers (s : State) (o : Nat) : Nat := storeNat s (o + 6) 2
def imgInsns (s : State) (o : Nat) : Nat := storeNat s (o + 8) 4
def imgFoot (s : State) (o w : Nat) : Nat := storeNat s (o + 16 + 4 * w) 4
def imgTiles (s : State) (o w : Nat) : Nat := storeNat s (o + 32 + w) 1
def imgBytes (s : State) (o : Nat) : Nat := 64 + 16 * imgTriggers s o + 16 * imgInsns s o
def roundFoot (n : Nat) : Nat := (n + 65535) / 65536 * 65536

/-- R251: the load does not fit. -/
def loadShort (s : State) (o : Nat) : Bool :=
  (List.range 4).any (fun w => decide (s.fld (Reg.spLargest w) < roundFoot (imgFoot s o w)) ||
    decide (s.fld (Reg.activeTiles w) < imgTiles s o w))

/-- The first failing check of Table 09-4. -/
def loadCause (s : State) (o : Nat) : Option Nat :=
  let n := imgBytes s o
  if o % 256 ≠ 0 then some 1
  else if storeSize < o + 64 ∨ storeNat s o 4 ≠ 0x39455543 ∨ storeNat s (o + 4) 2 ≠ 1 ∨ storeNat s (o + 12) 4 ≠ 0 ∨
      storeNat s (o + 36) 28 ≠ 0 then some 2
  else if 1024 < imgTriggers s o ∨ imgInsns s o = 0 ∨ storeSize < o + n then some 3
  else if (progSlots s).any (fun m => ((s.prog m).map (fun p => decide (p.image < o + n) && decide (o < p.image + p.bytes))).getD false)
    then some 1
  else if (progSlots s).length = 64 then some 4
  else if !((List.range (imgTriggers s o)).all (fun i =>
      trigRecordOk (storeNat s (o + 64 + 16 * i) 8) (storeNat s (o + 72 + 16 * i) 8) (imgInsns s o))) then some 5
  else if (freeTrigs s).length < imgTriggers s o then some 6
  else if loadShort s o then some 7
  else none

/-- R251: write the shortfall registers. -/
def writeShort (o : Nat) (s : State) : State :=
  forEach (fun w s =>
    (s.setFld (Reg.shortBytes w) (roundFoot (imgFoot s o w) - s.fld (Reg.spLargest w))).setFld (Reg.shortTiles w)
      (imgTiles s o w - s.fld (Reg.activeTiles w))) [0, 1, 2, 3] s

/-- Enable a trigger: a TIMER entry's first fire time (R265). -/
def startTimer (t : Nat) (s : State) : State :=
  let x : Trig := { Tab.get (fun _ => Trig.init) s.cue.trigs t with
    nextFire := if s.fld (Reg.trigKind t) = 2 then s.now + s.fld (Reg.trigPeriod t) else 0, fires := 0 }
  s.modCue (fun k => { k with trigs := Tab.set (fun _ => Trig.init) k.trigs t x })

/-- Install the trigger record at store offset `r` in entry t for program slot n. -/
def installTrig (n t r : Nat) (s : State) : State :=
  let lo := storeNat s r 8
  let v := putBits (putBits (putBits lo 0 1 1) 5 1 0) 12 6 n
  let s := (s.setWord (Reg.trigWord t 0) (BitVec.ofNat 64 v)).setWord (Reg.trigWord t 1) (BitVec.ofNat 64 (storeNat s (r + 8) 8))
  startTimer t s

/-- Install the triggers of the image at `o` in the lowest free entries, in image order (R262). -/
def installTrigs (n o : Nat) (s : State) : State :=
  forEach (fun (x : Nat × Nat) s => installTrig n x.1 (o + 64 + 16 * x.2) s) ((freeTrigs s).take (imgTriggers s o)).zipIdx s

/-- Take the lowest free slot for an image and place its footprints (R262); RESULT stays BUSY until the placements need no zeroing
(R252). -/
def installImage (o : Nat) (s : State) : State :=
  let n := (((List.range 64).find? (fun m => (s.prog m).isNone))).getD 0
  let placed := (List.range 4).map (fun w =>
    let z := roundFoot (imgFoot s o w)
    if z = 0 then (0xFFFFFFFF, 0) else ((findSpace s w z).getD 0, z))
  let p : Prog := { image := o, bytes := imgBytes s o, code := o + 64 + 16 * imgTriggers s o, insns := imgInsns s o,
                    foot := placed.filter (fun r => decide (r.2 ≠ 0)), allocs := [] }
  let s := s.setProg n (some p)
  let s := forEach (fun (r : (Nat × Nat) × Nat) s =>
    place (.prog n) r.1.1 r.1.2 (s.setFld (Reg.progBase n r.2) r.1.1)) placed.zipIdx s
  let s := (s.setFld Reg.loadResult 1).setFld Reg.loadProg n
  refreshSpace (s.modCue (fun k => { k with loading := some n }))

/-- A loaded program's footprints, as (base, bytes). -/
def footOf (s : State) (n : Nat) : List (Nat × Nat) := ((s.prog n).map (fun p => p.foot)).getD []

/-- The sequencers that hold a context of program n. -/
def State.ctx (s : State) (q : Nat) : Option Ctx := Tab.get (fun _ => none) s.cue.ctxs q
def State.setCtx (s : State) (q : Nat) (c : Option Ctx) : State :=
  s.modCue (fun k => { k with ctxs := Tab.set (fun _ => none) k.ctxs q c })
def progRunning (s : State) (n : Nat) : Bool :=
  (List.range 64).any (fun q => (s.ctx q).isSome && decide (s.fld (Reg.seqProg q) = n))
def progCrossing (s : State) (n : Nat) : Bool :=
  s.col.ops.any (fun o => !o.ended && decide (o.prog = n)) || s.cue.xfers.any (fun x => decide (x.prog = n)) ||
  s.cue.sigs.any (fun x => decide (x.prog = n))

/-- Remove a program (R263). -/
def unloadProg (n : Nat) (s : State) : State :=
  let mine := (List.range 1024).filter (fun t => s.flag (Reg.trigValid t) && decide (s.fld (Reg.trigProg t) = n))
  let s := forEach (fun t s => ((s.setWord (Reg.trigWord t 0) 0).setWord (Reg.trigWord t 1) 0).modCue (fun k =>
    { k with trigs := Tab.set (fun _ => Trig.init) k.trigs t Trig.init })) mine s
  let s := forEach (fun w s => s.setFld (Reg.progBase n w) 0xFFFFFFFF) [0, 1, 2, 3] s
  let s := release (.prog n) ((s.setProg n none).setFld (Reg.cueProg n) 0)
  bumpGen ((s.setFld Reg.loadResult 3).setFld Reg.loadCause 0)

/-! Units and generations (R290, R291). -/

/-- Name of a unit in the table of generations. -/
def unitKey : UnitId → Nat
  | .tile n => n.val
  | .seq n => 256 + n.val
  | .eng n => 512 + n.val
  | .ddr n => 768 + n.val
  | .scratch w => 1024 + w.val
  | .port l => 1032 + l.val

/-- The quarantine bit of a unit; the scratchpad has none. -/
def quarField : UnitId → Option Field
  | .tile n => some (Reg.quarTile n.val)
  | .seq n => some (Reg.quarSeq n.val)
  | .eng n => some (Reg.quarEng n.val)
  | .ddr n => some (Reg.quarChan n.val)
  | .scratch _ => none
  | .port l => some (Reg.quarLink l.val)

def inQuarantine (s : State) (u : UnitId) : Bool := ((quarField u).map (fun f => s.flag f)).getD false

/-- A unit is Running and holds the current generation (R268). -/
def unitCurrent (s : State) (u : UnitId) : Bool := unitRuns s u && !(inQuarantine s u)

/-- The generation that a sleeping unit holds is not the chip's (R290). -/
def oldGeneration (s : State) (u : UnitId) : Bool := decide (Tab.get (fun _ => 0) s.cue.gens (unitKey u) ≠ s.fld Reg.cueGen)

/-- A unit that refuses work as STALE: in quarantine, or Dark with another generation, which it will return through (R48, R290, R291). -/
def unitStale (s : State) (u : UnitId) : Bool := inQuarantine s u || (decide (unitState s u = 2) && oldGeneration s u)

/-- The unit of an event of Table 17-8 that counts wakes: 0 tiles, 1 engines, 2 sequencers, 3 DDR channels. -/
def wakeUnitCode : UnitId → Nat
  | .eng _ => 1
  | .seq _ => 2
  | .ddr _ => 3
  | _ => 0

/-- A unit enters Dozing or Dark; its generation is what it holds then (R290). -/
def sendToSleep (u : UnitId) (st : Nat) (s : State) : State :=
  (setUnit u st s).modCue (fun k => { k with gens := Tab.set (fun _ => 0) k.gens (unitKey u) (s.fld Reg.cueGen) })

/-- A unit enters quarantine. -/
def quarantine (u : UnitId) (s : State) : State :=
  let s := match quarField u with
    | some f => s.raise f
    | none => s
  match u with
  | .seq q => s.setFld (Reg.seqSt q.val) 6
  | _ => s

/-- A unit that left Dark with a generation that is not the chip's, or that was in quarantine when it went Dark, is in quarantine
(R48, R290, R291); the scratchpad holds none. DEDUCED, log entry 102. -/
def wokeFromDark (u : UnitId) (s : State) : State :=
  match u with
  | .scratch _ => s
  | _ => (fun t => if oldGeneration s u ∨ inQuarantine s u then quarantine u t else t) (pmcEvent evWakeDark (wakeUnitCode u) 1 s)

/-- The wing of a tile or sequencer is lit by it. -/
def lightWing (u : UnitId) (s : State) : State :=
  match u with
  | .tile _ => lightScratch ⟨wingOfUnit u % 4, Nat.mod_lt _ (by decide)⟩ s
  | .seq _ => lightScratch ⟨wingOfUnit u % 4, Nat.mod_lt _ (by decide)⟩ s
  | _ => s

/-- A sleeping unit runs again (R49, R51): from Dark it lights its wing's scratchpad and returns under R291. -/
def unitWakes (u : UnitId) (s : State) : State :=
  let was := unitState s u
  let s := { setUnit u 0 s with waking := s.waking.filter (fun v => !(decide (v = u))) }
  if was = 2 then wokeFromDark u (lightWing u s) else s

/-- The working set of a trigger as units (R266). -/
def workingSet (s : State) (t : Nat) : List UnitId :=
  ((List.range (s.fld (Reg.wsCount t))).map (fun i => s.fld (Reg.tmap (s.fld (Reg.wsFirst t) + i)))).filterMap (fun p =>
    if p = 0xFF then none else some (tileUnit p)) ++
  ((List.range 16).filter (fun e => (s.fld (Reg.wsEng t)).testBit e)).map engUnit

/-! Sequencers. -/

/-- Sequencer states (Table 09-2). -/
def sqIdle : Nat := 0
def sqRunning : Nat := 1
def sqWaiting : Nat := 2
def sqDozing : Nat := 3
def sqStalled : Nat := 4
def sqFaulted : Nat := 5
def sqQuarantine : Nat := 6
def sqHeld : Nat := 7

/-- Registers of a context; s0 reads 0 and p0 reads 1 (Table 09-1). -/
def Ctx.sreg (c : Ctx) (i : Nat) : Nat := if i = 0 then 0 else (Tab.get (fun _ => 0) c.s i).toNat
def Ctx.setS (c : Ctx) (i v : Nat) : Ctx :=
  if i = 0 then c else { c with s := Tab.set (fun _ => (0 : Word)) c.s i (BitVec.ofNat 64 v) }
def Ctx.preg (c : Ctx) (i : Nat) : Bool := decide (i = 0) || c.p.testBit i
def Ctx.setP (c : Ctx) (i : Nat) (b : Bool) : Ctx :=
  if i = 0 then c else { c with p := putBits c.p i 1 (if b then 1 else 0) }
def Ctx.greg (c : Ctx) (i : Nat) : Nat := Tab.get (fun _ => 0) c.g i
def Ctx.setG (c : Ctx) (i v : Nat) : Ctx := { c with g := Tab.set (fun _ => 0) c.g i v }
def Ctx.dreg (c : Ctx) (i : Nat) : Desc := Tab.get (fun _ => 0) c.d i
def Ctx.setD (c : Ctx) (i : Nat) (v : Desc) : Ctx := { c with d := Tab.set (fun _ => 0) c.d i v }

/-- The pending entry that a free sequencer takes: the lowest index (R267). -/
def nextPending (s : State) (q : Nat) : Option Nat :=
  (List.range 1024).find? (fun t => s.flag (Reg.trigPending t) && decide (s.fld (Reg.trigSeq t) = q))

/-- Start the context of a trigger (R255, R268). -/
def startContext (q t : Nat) (s : State) : State :=
  let x := Tab.get (fun _ => Trig.init) s.cue.trigs t
  let n := s.fld (Reg.trigProg t)
  let s2 := t + s.fld (Reg.trigKind t) * 2 ^ 10 + s.fld (Reg.trigSource t) * 2 ^ 12 + x.at_ * 2 ^ 32
  let c := (Ctx.init.setS 1 x.s1).setS 2 s2
  let c := [0, 1, 2, 3].foldl (fun (c : Ctx) w =>
    let b := s.fld (Reg.progBase n w)
    c.setS (28 + w) (if b = 0xFFFFFFFF then 2 ^ 64 - 1 else b)) c
  let s := (s.setFld (Reg.trigPending t) 0).setCtx q (some c)
  let s := ((s.setFld (Reg.seqSt q) sqRunning).setFld (Reg.seqPc q) (s.fld (Reg.trigEntry t))).setFld (Reg.seqProg q) n
  s.setFld (Reg.seqTrig q) t

/-- A free sequencer takes its pending entry with the lowest index: the context starts once the sequencer and the working set are
current, and they are woken until then (R266 to R268). -/
def takePending (q : Nat) (s : State) : State :=
  match nextPending s q with
  | none => s
  | some t =>
    if (s.ctx q).isSome ∨ s.flag (Reg.seqDisable q) ∨ ghostLight s ∨ inQuarantine s (seqUnit q) then s
    else if unitCurrent s (seqUnit q) ∧ (workingSet s t).all (unitCurrent s) then startContext q t s
    else forEach wakeUnit (seqUnit q :: workingSet s t) s

/-- Drop the context of a sequencer, which is then free (R258, R259, R267, R305). -/
def dropCtx (q : Nat) (s : State) : State :=
  let s := s.modTen (fun t => { t with flights := t.flights.map (fun f => if f.seq = q then { f with owned := false } else f) })
  takePending q ((s.setCtx q none).setFld (Reg.seqSt q) sqIdle)

/-- A fault at the current instruction (R258). -/
def seqFaults (q code : Nat) (s : State) : State :=
  let s := (s.setFld (Reg.seqErr q) code).raise Reg.seqFault
  if s.flag (Reg.onFault q) then dropCtx q s
  else match s.ctx q with
    | some c => (s.setCtx q (some { c with stall := 0, until_ := 0, refusal := 0 })).setFld (Reg.seqSt q) sqFaulted
    | none => s

/-- STALE faults and refusals are counted (R291). -/
def countStale (code : Nat) (s : State) : State := if code = Err.stale then s.count Reg.cueStale else s

/-- Instructions of the program that a sequencer runs. -/
def insnsOf (s : State) (q : Nat) : Nat := ((s.prog (s.fld (Reg.seqProg q))).map (fun p => p.insns)).getD 0

/-- The word at the sequencer's PC. -/
def fetchWord (s : State) (q : Nat) : Nat :=
  match s.prog (s.fld (Reg.seqProg q)) with
  | some p => storeNat s (p.code + 16 * s.fld (Reg.seqPc q)) 16
  | none => 0

/-- The context runs on. -/
def resume (q : Nat) (s : State) : State :=
  match s.ctx q with
  | some c => (s.setCtx q (some { c with stall := 0, until_ := 0, refusal := 0 })).setFld (Reg.seqSt q) sqRunning
  | none => s

/-- On to the next instruction, or PC_FAULT at the last (R298). -/
def advance (q : Nat) (s : State) : State :=
  let s := resume q s
  let pc := s.fld (Reg.seqPc q)
  if insnsOf s q ≤ pc + 1 then seqFaults q Err.pcFault s
  else pmcEvent evSeqIssue q 1 (s.setFld (Reg.seqPc q) (pc + 1))

/-- A branch, call or return to a target (R298). -/
def branchTo (q target : Nat) (s : State) : State :=
  if insnsOf s q ≤ target then seqFaults q Err.pcFault s
  else pmcEvent evSeqIssue q 1 ((resume q s).setFld (Reg.seqPc q) target)

/-- The sequencer waits at a step of Table 09-6, or for its tensor instructions (step 0). -/
def stallAt (q step : Nat) (s : State) : State :=
  match s.ctx q with
  | some c => (s.setCtx q (some { c with stall := step })).setFld (Reg.seqSt q) sqStalled
  | none => s

/-- Update the context of a sequencer. -/
def State.modCtx (s : State) (q : Nat) (f : Ctx → Ctx) : State :=
  match s.ctx q with
  | some c => s.setCtx q (some (f c))
  | none => s

def State.theCtx (s : State) (q : Nat) : Ctx := (s.ctx q).getD Ctx.init

/-- The sequencer may run or retry its instruction: it holds a context, is awake and current, and its state is RUNNING, WAITING or
STALLED. -/
def seqReady (s : State) (q : Nat) : Bool :=
  (s.ctx q).isSome && unitCurrent s (seqUnit q) && !(ghostLight s) &&
  decide (s.fld (Reg.seqSt q) = sqRunning ∨ s.fld (Reg.seqSt q) = sqWaiting ∨ s.fld (Reg.seqSt q) = sqStalled)

/-- Run the instruction at the PC when `is` accepts it (R295 to R297): a word that does not decode faults, a false predicate
completes it at once. -/
def runInsn (q : Nat) (is : Nat → Bool) (sem : Nat → State → State) (s : State) : State :=
  if seqReady s q = false then s
  else
    let w := fetchWord s q
    if Isa.legal w = false then seqFaults q Err.illegalOp s
    else if is w = false then s
    else
      let on := (s.theCtx q).preg (Isa.pred w) != decide (Isa.pneg w = 1)
      if on ∨ s.fld (Reg.seqSt q) ≠ sqRunning then sem w s else advance q s

/-- An instruction names one opcode. -/
def isOp (o : Nat) (w : Nat) : Bool := decide (Isa.opc w = o)

/-! Triggers (R265, R266). -/

/-- An entry fires: its sequencer and working set are called, the fire is pending or merged; in ghost-light mode it is lost
(R292). -/
def fireTrig (t s1 : Nat) (s : State) : State :=
  if ghostLight s then (s.count Reg.trigLost).raise Reg.trigLostEv
  else
    let old := Tab.get (fun _ => Trig.init) s.cue.trigs t
    let merged := s.flag (Reg.trigPending t)
    let x : Trig := { old with s1 := s1, at_ := if merged then old.at_ else s.now % 2 ^ 32 }
    let s := s.modCue (fun k => { k with trigs := Tab.set (fun _ => Trig.init) k.trigs t x })
    let s := if merged then s.count Reg.trigMerged else s.raise (Reg.trigPending t)
    let s := s.count Reg.callCount
    takePending (s.fld (Reg.trigSeq t)) (forEach wakeUnit (seqUnit (s.fld (Reg.trigSeq t)) :: workingSet s t) s)

/-- Enabled entries of a KIND and SOURCE. -/
def trigsOf (s : State) (kind source : Nat) : List Nat :=
  (List.range 1024).filter (fun t => s.flag (Reg.trigValid t) && s.flag (Reg.trigEnable t) &&
    decide (s.fld (Reg.trigKind t) = kind) && decide (s.fld (Reg.trigSource t) = source))

/-- A doorbell rings (R265, R464). -/
def ringDoorbell (b arg : Nat) (s : State) : State := forEach (fun t s => fireTrig t arg s) (trigsOf s 1 b) s

/-! Refusals (R273, R281). -/

/-- A refused crossing binds its counter, ends at once with its error, and the sequencer goes on; for a counter that takes no binding it
waits, refused as it is. -/
def refuse (q c code : Nat) (s : State) : State :=
  if Ctr.binds (s.ctr c) then advance q (countStale code ((bindCtr c 0 s).modCtr c (Ctr.fail 1 code)))
  else (stallAt q 9 s).modCtx q (fun x => { x with refusal := code })

/-- A crossing that waits at step 9 with its refusal is not judged again (R273, R281). -/
def judged (c : Nat) (judge : Nat → Nat → State → State) (q w : Nat) (s : State) : State :=
  if (s.theCtx q).refusal = 0 then judge q w s else refuse q c (s.theCtx q).refusal s

/-- Waiting at step 5 for a crossing slot. -/
def waitSlot (q : Nat) (s : State) : State := stallAt q 5 s

/-- A sequencer is STALLED at a step of Table 09-6. -/
def stalledAt (s : State) (step q : Nat) : Bool := decide ((s.theCtx q).stall = step) && decide (s.fld (Reg.seqSt q) = sqStalled)

/-- Sequencer cycles of a period of the house clock: 2.0 GHz over 25 MHz (R38). -/
def cyclesPerTick : Nat := 80

/-- A period passes for the sequencers that wait at step 5 (R275). DEDUCED, log entry 62. -/
def countSlotWaits (s : State) : State :=
  s.addFld Reg.slotWait (cyclesPerTick * ((List.range 64).filter (stalledAt s 5)).length)

/-! PFETCH and PSPILL (R313). -/

/-- Pieces of a transfer. -/
def xferPieces (x : Xfer) : Nat := ceilDiv x.len 4096

/-- The destination of a PFETCH is unspecified (R282, R313). -/
def openFetched (x : Xfer) (s : State) : State := if x.spill then s else openSpan x.sp (x.sp + x.len) s

/-- A transfer ends with its error (R313). -/
def failXfer (x : Xfer) (err : Nat) (s : State) : State :=
  let s := openFetched x s
  (s.modCue (fun k => { k with xfers := k.xfers.filter (fun y => decide (y.id ≠ x.id)) })).modCtr x.ctr (Ctr.fail 2 err)

/-- An error aborts a transfer: the counter takes the code at once, and the pieces in flight complete before it ends (R280, R282, R313).
DEDUCED, log entry 66. -/
def stopXfer (x : Xfer) (err : Nat) (s : State) : State :=
  (s.modCue (fun k => { k with xfers := k.xfers.map (fun y => if y.id = x.id ∧ y.err = 0 then { y with err := err } else y) })).modCtr
    x.ctr (Ctr.note 2 err)

/-- A transfer has a piece that it may send: 16 are outstanding at most (R313). -/
def Xfer.sends (x : Xfer) : Bool :=
  decide (x.sent < ceilDiv x.len 4096) && decide (x.err = 0) && decide (x.sent < x.ended + 16)

/-- Send the next piece of a transfer, once the scratchpad that it touches is awake (R49); a spill that meets an uncorrectable word ends
there (R247). -/
def sendPiece (x : Xfer) (s : State) : State :=
  if Xfer.sends x = false then s
  else if spanAwake s x.sp x.len = false then wakeSpan x.sp x.len s
  else
    let o := x.sent * 4096
    let n := min 4096 (x.len - o)
    let put := fun (f : Xfer → Xfer) (s : State) =>
      s.modCue (fun k => { k with xfers := k.xfers.map (fun y => if y.id = x.id then f y else y) })
    match (if x.spill then firstBadWord s (x.sp + o) n else none) with
    | some w =>
      let s := logBadWord w s
      if x.ended = x.sent then failXfer x Err.memUncorr s else stopXfer x Err.memUncorr s
    | none =>
      let s := put (fun y => { y with sent := y.sent + 1 }) s
      if x.spill then
        let v := veiled none s
        sendOwn (.spill x.id x.sent) x.wing x.chip tyReqWr (x.off + o) 0 (spRead v (x.sp + o) n)
          (countRowReads [(x.sp + o, x.sp + o + n)] (readFrom v s))
      else sendOwn (.fetch x.id x.sent) x.wing x.chip tyReqRd (x.off + o) (n / 16 - 1) [] s

/-- The transfer of an id. -/
def xferOf (s : State) (id : Nat) : Option Xfer := s.cue.xfers.find? (fun x => decide (x.id = id))

/-- Send up to `k` pieces. -/
def sendPieces (id : Nat) : Nat → State → State
  | 0, s => s
  | k + 1, s => match xferOf s id with
    | some x => sendPieces id k (sendPiece x s)
    | none => s

/-- Every transfer sends the pieces that it may. -/
def sendXfers (s : State) : State := forEach (fun (x : Xfer) s => sendPieces x.id 16 s) s.cue.xfers s

/-- A transfer ends when no piece is outstanding: with its error, or once every piece has ended (R313). -/
def settleXfer (id : Nat) (s : State) : State :=
  match xferOf s id with
  | none => s
  | some x =>
    if x.err ≠ 0 then (if x.ended = x.sent then failXfer x x.err s else s)
    else if x.ended = xferPieces x then
      ((if (s.ctr x.ctr).kind = 0 then s else openFetched x s).modCue (fun k => { k with xfers := k.xfers.filter (fun y => decide (y.id ≠ id)) })).modCtr x.ctr Ctr.finish
    else sendPieces id 1 s

/-- What a fetched piece of data does: its words are written; part of an uncorrectable word is left (R247). -/
def landPiece (x : Xfer) (piece : Nat) (data : List Byte) (s : State) : Nat × State :=
  let o := x.sp + piece * 4096
  let bs := data.take (min 4096 (x.len - piece * 4096))
  match firstPartBad s o bs.length with
  | some w => (Err.memUncorr, spWrite o bs (logBadWord w s))
  | none => (0, spWrite o bs s)

/-- A piece has been answered: its data, or an error code. -/
def pieceAnswered (id piece : Nat) (data : List Byte) (err : Nat) (s : State) : State :=
  match xferOf s id with
  | none => s
  | some x =>
    let r := if err ≠ 0 ∨ x.spill then (err, s) else landPiece x piece data s
    let s := r.2.modCue (fun k => { k with xfers := k.xfers.map (fun y => if y.id = id then { y with ended := y.ended + 1 } else y) })
    settleXfer id (if r.1 = 0 then s.modCtr x.ctr (Ctr.land false) else stopXfer x r.1 s)

/-- A tensor instruction of the sequencer has completed: SIGCs that wait on it land (R287). -/
def settleSigs (flight : Nat) (s : State) : State :=
  let sigs := s.cue.sigs.map (fun g => { g with after := g.after.filter (fun f => decide (f ≠ flight)) })
  let ready := sigs.filter (fun g => g.after.isEmpty)
  let s := s.modCue (fun k => { k with sigs := sigs.filter (fun g => !g.after.isEmpty) })
  forEach (fun (g : Sig) s => s.modCtr g.ctr (fun c => Ctr.finish (Ctr.land false c))) ready s

/-- The sequencer's tensor instructions that have not completed. -/
def flightsOf (s : State) (q : Nat) : List Flight := s.ten.flights.filter (fun f => decide (f.seq = q))

/-- An extent that a flight of the sequencer writes, or reads or writes (R270). -/
def flightWrites (s : State) (q : Nat) (e : Nat × Nat) : Bool :=
  (flightsOf s q).any (fun f => f.writes.any (overlaps e))
def flightTouches (s : State) (q : Nat) (e : Nat × Nat) : Bool :=
  (flightsOf s q).any (fun f => f.writes.any (overlaps e) || f.reads.any (overlaps e))

/-! Requests to spaces 2 and 3 (R264, R289). -/

/-- A byte of the status page (R288). -/
def statusByte (s : State) (o : Nat) : Byte :=
  if o < 0x2000 then byteOf (Ctr.word (s.ctr (o / 8))) (o % 8)
  else if o < 0x2200 then byteOf (s.word (Reg.seqStatus ((o - 0x2000) / 8))) (o % 8)
  else 0

def statusBytes (s : State) (o n : Nat) : List Byte := (List.range n).map (fun i => statusByte s (o + i))

/-- Serve a request to the status page (R289). -/
def serveStatus (f : Frame) (s : State) : State :=
  let o := spaceOffset f
  let n := (Frame.op f + 1) * 16
  if Frame.type f ≠ tyReqRd ∨ o % 16 ≠ 0 ∨ 0x10000 < o + n then answerErr f Err.memRange s
  else answerData f (statusBytes s o n) s

/-- Serve a request to the cue store (R264). -/
def serveStore (f : Frame) (s : State) : State :=
  let o := spaceOffset f
  if Frame.type f = tyReqRd then
    let n := (Frame.op f + 1) * 16
    if o % 16 ≠ 0 ∨ storeSize < o + n then answerErr f Err.memRange s else answerData f (storeBytes s o n) s
  else
    let n := f.payload.length
    if Frame.type f ≠ tyReqWr ∨ o % 16 ≠ 0 ∨ storeSize < o + n ∨ s.fld Reg.storeWe = 0 ∨ Frame.op f ≠ 0 ∨
        (List.range n).any (fun i => inImage s (o + i)) then answerErr f Err.memRange s
    else filtered f (myChip s) (fun s => (storeWrite o f.payload s, none)) s

end Sys2Proof.Machine
end

