-- ==== Sys2Proof/Machine/Groups.lean ====
section
/-! DEFINITION. The group table (R332 to R334), the box and ring positions (R333), the arithmetic of the engines (R330), circuits
of a cue (R340), and the chunks of an operation (R335, R344). -/
namespace Sys2Proof.Machine

def State.modCol (s : State) (f : Col → Col) : State := { s with col := f s.col }
def State.grp (s : State) (g : Nat) : Grp := Tab.get (fun _ => Grp.init) s.col.grps g
def State.setGrp (s : State) (g : Nat) (x : Grp) : State :=
  s.modCol (fun c => { c with grps := Tab.set (fun _ => Grp.init) c.grps g x })
def State.modGrp (s : State) (g : Nat) (f : Grp → Grp) : State := s.setGrp g (f (s.grp g))

/-! Entry fields (Table 11-1) of four words. -/

def entryField (ws : Nat → Word) (lo w : Nat) : Nat := field (ws (lo / 64)) (lo % 64) w
/-- The entry in force. -/
def grpWords (s : State) (g : Nat) : Nat → Word := fun j => s.word (Reg.grpWord g j)
def grpF (s : State) (g lo w : Nat) : Nat := entryField (grpWords s g) lo w
def grpValid (s : State) (g : Nat) : Bool := decide (grpF s g 0 1 = 1)
def grpSched (s : State) (g : Nat) : Nat := grpF s g 1 2
def grpEngine (s : State) (g : Nat) : Nat := grpF s g 3 4
def grpEdge (s : State) (g : Nat) : Nat := grpF s g 7 8
/-- First coordinate and number of chips of the box on axis a. -/
def grpStart (s : State) (g a : Nat) : Nat := grpF s g (16 + 9 * a) 4
def grpLen (s : State) (g a : Nat) : Nat := grpF s g (20 + 9 * a) 5
def grpChunk (s : State) (g : Nat) : Nat := 256 * 2 ^ grpF s g 43 3
def grpWindow (s : State) (g : Nat) : Nat := grpF s g 46 7
def grpBasepos (s : State) (g : Nat) : Nat := grpF s g 64 16
def grpNmem (s : State) (g : Nat) : Nat := grpF s g 80 16
def grpTimeout (s : State) (g : Nat) : Nat := if grpF s g 96 14 = 0 then s.fld Reg.groupTimeout else grpF s g 96 14
def grpCirBase (s : State) (g : Nat) : Nat := grpF s g 112 12
def grpEpm (s : State) (g : Nat) : Nat := grpF s g 140 11
def grpCap (s : State) (g : Nat) : Nat := grpF s g 152 13

/-- Edge member ports of a mask. -/
def portsOf (mask : Nat) : List Nat := (List.range 8).filter (fun p => mask.testBit p)
def edgePorts (s : State) (g : Nat) : List Nat := portsOf (grpEdge s g)

/-- SCHED codes. -/
def schedLong : Nat := 0
def schedCt : Nat := 2

/-! The box (R333). -/

/-- This chip's ring index on axis a. -/
def ringIndex (s : State) (g a : Nat) : Nat :=
  (coordOf (myChip s) a + ringSize s a - grpStart s g a) % ringSize s a

/-- The chip with ring indices x, y, z of the box. -/
def boxChip (s : State) (g x y z : Nat) : Nat :=
  chipOf ((grpStart s g 0 + x) % ringSize s 0) ((grpStart s g 1 + y) % ringSize s 1) ((grpStart s g 2 + z) % ringSize s 2)

/-- The chip like this one but with ring index i on axis a. -/
def peerChip (s : State) (g a i : Nat) : Nat :=
  let r := fun (b : Nat) => if b = a then i else ringIndex s g b
  boxChip s g (r 0) (r 1) (r 2)

/-- Ring index of a chip on axis a. -/
def indexOn (s : State) (g a chip : Nat) : Nat := (coordOf chip a + ringSize s a - grpStart s g a) % ringSize s a

def boxIndexOf (s : State) (g chip : Nat) : Nat :=
  indexOn s g 0 chip + grpLen s g 0 * (indexOn s g 1 chip + grpLen s g 1 * indexOn s g 2 chip)

def boxSize (s : State) (g : Nat) : Nat := grpLen s g 0 * grpLen s g 1 * grpLen s g 2

/-- The chip of a box index. -/
def boxChipAt (s : State) (g b : Nat) : Nat :=
  let nx := max 1 (grpLen s g 0)
  let ny := max 1 (grpLen s g 1)
  boxChip s g (b % nx) (b / nx % ny) (b / nx / ny)

/-- Other members' positions follow the box index, each chip with the edge members of this chip's entry: an entry holds only this
chip's BASEPOS and EDGE (R333, log entry 12). -/
def perChip (s : State) (g : Nat) : Nat := 1 + (edgePorts s g).length

/-- The chip and port of ring position j. -/
def memberAt (s : State) (g j : Nat) : Nat × Nat :=
  let b := j / perChip s g
  let i := j % perChip s g
  (boxChipAt s g b, if i = 0 then 8 else ((edgePorts s g)[i - 1]?).getD 8)

/-- The ring position of a sender (chip, port). -/
def positionOf (s : State) (g chip port : Nat) : Nat :=
  if chip = myChip s then
    (if port < 8 then grpBasepos s g + 1 + ((edgePorts s g).filter (fun p => decide (p < port))).length else grpBasepos s g)
  else boxIndexOf s g chip * perChip s g + (if port < 8 then 1 + ((edgePorts s g).filter (fun p => decide (p < port))).length else 0)

/-- Axes of the box with more than one chip. -/
def liveAxes (s : State) (g : Nat) : List Nat := [0, 1, 2].filter (fun a => decide (1 < grpLen s g a))

/-! Commit (R334). -/

/-- Minimum staging in 64 KiB units (Table 11-2, fixed part of the route log). -/
def minStage (ws : Nat → Word) : Nat :=
  let n := fun a => entryField ws (20 + 9 * a) 5
  let chunk := 256 * 2 ^ entryField ws 43 3
  let p := if entryField ws 1 2 = 0 then 2 else max (n 0) (max (n 1) (n 2)) - 1
  let slot := entryField ws 46 7 * chunk * (1 + (portsOf (entryField ws 7 8)).length + p)
  let route := if entryField ws 140 11 = 0 then 0
    else 16 * entryField ws 140 11 * n 0 * n 1 * n 2 * entryField ws 152 13
  ceilDiv (4 * slot + route) 65536

/-- A field holds a refused value (Table 11-1). -/
def fieldRefused (s : State) (ws : Nat → Word) : Bool :=
  let f := entryField ws
  decide (f 1 2 = 3) ||
  [0, 1, 2].any (fun a => decide (ringSize s a ≤ f (16 + 9 * a) 4) || decide (f (20 + 9 * a) 5 = 0 ∨ ringSize s a < f (20 + 9 * a) 5)) ||
  decide (4 < f 43 3) || decide (f 46 7 = 0 ∨ 64 < f 46 7) || decide (f 80 16 = 0 ∨ 36864 < f 80 16) || decide (10000 < f 96 14) ||
  decide (f 128 12 = 0 ∨ 2048 < f 128 12) || decide (1024 < f 140 11) ||
  (if f 140 11 = 0 then decide (f 152 13 ≠ 0) else decide (f 152 13 = 0 ∨ 4096 < f 152 13))

/-- This chip lies in the box of an entry and its positions stay below NMEM. -/
def boxOk (s : State) (ws : Nat → Word) : Bool :=
  let f := entryField ws
  s.flag Reg.assigned &&
  [0, 1, 2].all (fun a => decide ((coordOf (myChip s) a + ringSize s a - f (16 + 9 * a) 4) % ringSize s a < f (20 + 9 * a) 5)) &&
  decide (f 64 16 + (portsOf (f 7 8)).length < f 80 16)

/-- RESULT codes of COL_GRPSTAT. -/
def grPlaced : Nat := 1
def grBusy : Nat := 2
def grBadEntry : Nat := 3
def grNoSpace : Nat := 4

/-- The words that a write of word 0 commits (R332). -/
def commitWords (s : State) (g : Nat) (v : Word) : Nat → Word := fun j =>
  if j = 0 then v else (Tab.get (fun _ => none) (s.grp g).held j).getD (s.word (Reg.grpWord g j))

/-- The fields of word j of an entry; its reserved bits read 0 (Table 11-1). -/
def grpMask (j : Nat) : Word :=
  match j with
  | 0 => 0x001FFFFFFFFF7FFF
  | 1 => 0x0FFF3FFFFFFFFFFF
  | 2 => 0x0000001FFF7FFFFF
  | _ => 0

/-- Put an entry in force. -/
def putEntry (g : Nat) (ws : Nat → Word) (s : State) : State :=
  forEach (fun j s => s.setWord (Reg.grpWord g j) (ws j &&& grpMask j)) [0, 1, 2, 3] s

/-- The ARRIVAL entries of a group have fired for no OPSEQ of its new entry. DEDUCED, log entry 83. -/
def forgetArrivals (g : Nat) (s : State) : State :=
  forEach (fun t s => s.modCue (fun k =>
    { k with trigs := Tab.set (fun _ => Trig.init) k.trigs t { Tab.get (fun _ => Trig.init) k.trigs t with firedFor := none } }))
    ((List.range 1024).filter (fun t => s.flag (Reg.trigValid t) && decide (s.fld (Reg.trigKind t) = 0) &&
      decide (s.fld (Reg.trigSource t) = g))) s

/-- What a group forgets at a commit. -/
def clearGroup (g : Nat) (s : State) : State :=
  ((forgetArrivals g s).setGrp g Grp.init).modCol (fun c => { c with aside := c.aside.filter (fun v => decide (v.group ≠ g)) })

/-- The range that a waiting commit holds. -/
def Placing.range (p : Placing) : Range := Range.mk (.group p.group) p.base p.size

/-- A waiting commit is no more; its range is free again. -/
def dropPlacing (p : Placing) (s : State) : State :=
  refreshSpace ((s.modCol (fun c => { c with placing := c.placing.erase p })).modTen (fun t => { t with placed := t.placed.erase p.range }))

/-- A commit takes effect (R334): the old staging is released, the new one holds, the entry is in force. -/
def enforce (p : Placing) (s : State) : State :=
  let s := refreshSpace (place (.group p.group) p.base p.size (release (.group p.group) (dropPlacing p s)))
  let s := clearGroup p.group (putEntry p.group (fun j => (p.words[j]?).getD 0) s)
  bumpGen (((s.setFld (Reg.grpOpseq p.group) 0).setFld (Reg.grpStaging p.group) p.base).setFld (Reg.grpResult p.group) grPlaced)

/-- The group has an operation not ended at this chip. -/
def groupBusy (s : State) (g : Nat) : Bool := s.col.ops.any (fun o => decide (o.group = g) && !o.ended)

/-- A commit whose staging waited goes on once its range is zeroed (R252); an operation issued meanwhile refuses it. -/
def placeOn (p : Placing) (s : State) : State :=
  if waitsZeroing s p.base p.size then s
  else if groupBusy s p.group then (dropPlacing p s).setFld (Reg.grpResult p.group) grBusy
  else enforce p s

/-- Commits that waited for a zeroing. -/
def settlePlacing (s : State) : State := forEach placeOn s.col.placing s

/-- A commit of word 0 (R332, R334); a later one takes the place of one that still waits. DEDUCED, log entry 42. -/
def groupCommit (g : Nat) (v : Word) (s : State) : State :=
  let ws := commitWords s g v
  let s := s.modGrp g (fun x => { x with held := [] })
  let valid := decide (field v 0 1 = 1)
  if groupBusy s g then s.setFld (Reg.grpResult g) grBusy
  else if valid = false then
    let s := forEach dropPlacing (s.col.placing.filter (fun p => decide (p.group = g))) s
    bumpGen (release (.group g) ((((clearGroup g (putEntry g (fun _ => 0) s)).setFld (Reg.grpResult g) 0).setFld (Reg.grpOpseq g) 0).setFld
      (Reg.grpStaging g) 0))
  else if fieldRefused s ws then (s.setFld (Reg.grpResult g) grBadEntry).raise Reg.colCfgErr
  else if !(boxOk s ws) ∨ entryField ws 128 12 < minStage ws then s.setFld (Reg.grpResult g) grBadEntry
  else
    let size := entryField ws 128 12 * 65536
    match findSpace s (entryField ws 3 4 / 4) size with
    | none => s.setFld (Reg.grpResult g) grNoSpace
    | some b =>
      let p := Placing.mk g [ws 0, ws 1, ws 2, ws 3] b size
      let s := forEach dropPlacing (s.col.placing.filter (fun p => decide (p.group = g))) s
      placeOn p (refreshSpace (place (.group g) b size (s.modCol (fun c => { c with placing := c.placing ++ [p] }))))

/-! Arithmetic of the engines (R330). -/

/-- Bytes of an element of a contribution format that is summed. -/
def elemBytes (f : Nat) : Nat := elemBits f / 8

def codesOf (f : Nat) (bs : List Byte) : List Nat :=
  (chunksOf (elemBytes f) (bs.length / max 1 (elemBytes f)) bs).map leNat
def bytesOfCodes (f : Nat) (l : List Nat) : List Byte := l.flatMap (leBytes (elemBytes f))

/-- One combination of two codes under XOP in format f, and whether INT32 saturated. -/
def combine2 (xop f a b : Nat) : Nat × Nat :=
  if f = 11 then
    let x := signedOf 32 a
    let y := signedOf 32 b
    match xop with
    | 0 => let r := sat32 (x + y)
           (wrapTo 32 r.1, if r.2 then 1 else 0)
    | 1 => (if x < y then b else a, 0)
    | 2 => (if y < x then b else a, 0)
    | 3 => (a &&& b, 0)
    | 4 => (a ||| b, 0)
    | _ => (a ^^^ b, 0)
  else
    match floatFmt f with
    | none => (a, 0)
    | some g =>
      let x := decodeF g a
      let y := decodeF g b
      (match xop with
       | 0 => encodeF g (FVal.add x y)
       | 1 => encodeF g (maxV x y)
       | _ => encodeF g (minV x y), 0)

/-- The combination of no values (R341); for MAX and MIN a NaN, or the end of the INT32 range (log entry 13). -/
def identityCode (xop f : Nat) : Nat :=
  match xop with
  | 0 => 0
  | 1 => if f = 11 then 0x80000000 else ((floatFmt f).map nanCode).getD 0
  | 2 => if f = 11 then 0x7FFFFFFF else ((floatFmt f).map nanCode).getD 0
  | _ => 0

/-- Combine the values of one element in order: the code and the saturations. -/
def combineList (xop f : Nat) : List (Option Nat) → Option Nat × Nat
  | [] => (none, 0)
  | l => l.foldl (fun (st : Option Nat × Nat) v => match st.1, v with
    | none, v => (v, st.2)
    | some a, some b => let r := combine2 xop f a b
                        (some r.1, st.2 + r.2)
    | some a, none => (some a, st.2)) (none, 0)

/-- SOFTSTAT: (m, s) ⊕ (m', s') (R325) on a pair of FP32 values. -/
def softPair (p q : FVal × FVal) : FVal × FVal :=
  let mx := maxV p.1 q.1
  let t := fun (x : FVal × FVal) => r32 (FVal.mul x.2 (expR32 (r32 (FVal.sub x.1 mx))))
  (mx, r32 (FVal.add (t p) (t q)))

/-- SOFTSTAT of one row: (max x, Σ exp(x − m)). -/
def softRow (x : List FVal) : FVal × FVal :=
  let m := x.foldl maxV .nan
  (m, sumR32 FVal.zero (x.map (fun v => expR32 (r32 (FVal.sub v m)))))

/-- Pairs of a SOFTSTAT chunk. -/
def softOf (bs : List Byte) : List (FVal × FVal) :=
  (chunksOf 8 (bs.length / 8) bs).map (fun p => (f32 (leAt p 0 4), f32 (leAt p 4 4)))
def softBytes (l : List (FVal × FVal)) : List Byte := l.flatMap (fun p => leBytes 4 (toF32 p.1) ++ leBytes 4 (toF32 p.2))

/-- Combine whole chunks in order; an absent element of an input is none. No pair at all is (−Inf, +0.0), which adds nothing to another
(R341, log entry 13). -/
def combineChunks (soft : Bool) (xop f : Nat) (ins : List (List Byte × (Nat → Bool))) : List Byte × Nat :=
  if soft then
    let cols := ins.map (fun x => (softOf x.1).zipIdx.map (fun (p, i) => if x.2 i then some p else none))
    let n := (cols.map List.length).foldl max 0
    (softBytes ((List.range n).map (fun i =>
      (cols.foldl (fun (acc : Option (FVal × FVal)) c => match acc, c.getD i none with
        | none, v => v
        | some a, some b => some (softPair a b)
        | some a, none => some a) none).getD (.inf true, .zero))), 0)
  else
    let cols := ins.map (fun x => (codesOf f x.1).zipIdx.map (fun (c, i) => if x.2 i then some c else none))
    let n := (cols.map List.length).foldl max 0
    let r := (List.range n).map (fun i => combineList xop f (cols.map (fun c => c.getD i none)))
    (bytesOfCodes f (r.map (fun x => x.1.getD (identityCode xop f))), r.foldl (fun k x => k + x.2) 0)

/-! Chunks of an operation (R335, R344). -/

def Op.w (o : Op) : Nat := o.word.toNat
def Op.xmode (o : Op) : Nat := Isa.xmode o.w
def Op.desc (o : Op) (i : Nat) : Desc := (o.descs[i]?).getD 0
def Op.soft (o : Op) : Bool := decide (Isa.epi o.w = 7) && decide (o.xmode = Isa.xREDUCE)
def Op.isAside (o : Op) : Bool := decide (Isa.opc o.w = Isa.oCURTAIN ∨ Isa.opc o.w = Isa.oASIDE)

/-- Bytes of one contribution row. -/
def rowLen (soft : Bool) (f cols : Nat) : Nat :=
  if soft then 8 else (cols * elemBits f + 7) / 8 + (if isMx f then ceilDiv cols 32 else 0)
def Op.rowLen (o : Op) : Nat := Machine.rowLen o.soft o.fmt o.cols
def Op.bytes (o : Op) : Nat := o.rows * o.rowLen

/-- Chunks that the operation binds (Table 11-5). -/
def boundChunks (s : State) (g xmode bytes : Nat) : Nat :=
  let ch := grpChunk s g
  let n := max 1 (grpNmem s g)
  if xmode = Isa.xREDUCE ∨ xmode = Isa.xBROADCAST then ceilDiv bytes ch
  else if xmode = Isa.xSCATTER then ceilDiv (bytes / n) ch
  else if xmode = Isa.xGATHER then n * ceilDiv bytes ch
  else if xmode = Isa.xEXCHANGE then n * ceilDiv (bytes / n) ch
  else if xmode = Isa.xROUTE then boxSize s g
  else if xmode = Isa.xMERGE then n
  else 1

/-- Chunks of one member's part: a contribution, or one block of EXCHANGE. -/
def Op.perMember (o : Op) (s : State) : Nat :=
  if o.xmode = Isa.xEXCHANGE then ceilDiv (o.bytes / max 1 (grpNmem s o.group)) (grpChunk s o.group)
  else ceilDiv o.bytes (grpChunk s o.group)

/-- Piece k of a byte list. -/
def pieceOf (ch k : Nat) (bs : List Byte) : List Byte := (bs.drop (k * ch)).take ch

/-! Circuits of a cue (R340). -/

/-- Send targets (chip, port) of a cue in the order of R340. -/
def sendTargets (s : State) (g : Nat) : List (Nat × Nat) :=
  (edgePorts s g).map (fun p => (myChip s, p)) ++
  (liveAxes s g).flatMap (fun a =>
    if grpSched s g = schedLong then [(peerChip s g a ((ringIndex s g a + 1) % grpLen s g a), 8)]
    else ((List.range (grpLen s g a)).filter (fun i => decide (i ≠ ringIndex s g a))).map (fun i => (peerChip s g a i, 8)))

/-- The circuit of a send target. -/
def circuitFor (s : State) (g dest dport : Nat) : Nat :=
  grpCirBase s g + ((sendTargets s g).takeWhile (fun t => decide (t ≠ (dest, dport)))).length

/-- SVC = 1 is allowed for a cue's mode (R340). -/
def mayUseCircuits (w : Nat) : Bool :=
  decide (Isa.opc w ≠ Isa.oCURTAIN ∧ Isa.opc w ≠ Isa.oASIDE) &&
  decide (Isa.xmode w = Isa.xREDUCE ∨ Isa.xmode w = Isa.xSCATTER ∨ Isa.xmode w = Isa.xBROADCAST)

/-- CRC-32C, reflected (R278). -/
def crc32cBit (c : Nat) : Nat := if c % 2 = 1 then (c / 2) ^^^ 0x82F63B78 else c / 2
def crc32c (bs : List Byte) : Nat :=
  (bs.foldl (fun c b =>
    let x := c ^^^ b.toNat
    crc32cBit (crc32cBit (crc32cBit (crc32cBit (crc32cBit (crc32cBit (crc32cBit (crc32cBit x)))))))) 0xFFFFFFFF) ^^^ 0xFFFFFFFF

/-- The signature of a crossing (R278, Table 09-7). -/
def signature (xmode xop epi fmt group count opseq : Nat) : Nat :=
  crc32c (leBytes 1 (xmode + 16 * xop) ++ leBytes 1 (epi + 16 * fmt) ++ leBytes 2 group ++ leBytes 4 count ++ leBytes 3 opseq ++
    List.replicate 5 0)

end Sys2Proof.Machine
end

