-- ==== Sys2Proof/Machine/ColOps.lean ====
section
/-! DEFINITION. The collective engines (R335 to R365): inputs, sums, verdicts and retractions of chunks, the gather path, landing and
epilogues, ROUTE, MERGE and SELECT, the aside path, aborts. -/
namespace Sys2Proof.Machine

/-! Operations. -/

def State.op (s : State) (g n : Nat) : Option Op := s.col.ops.find? (fun o => decide (o.group = g) && decide (o.opseq = n))
def putOp (o : Op) (s : State) : State :=
  s.modCol (fun c => { c with ops := c.ops.map (fun p => if p.id = o.id then o else p) })
def modOp (id : Nat) (f : Op → Op) (s : State) : State :=
  s.modCol (fun c => { c with ops := c.ops.map (fun p => if p.id = id then f p else p) })
def State.opById (s : State) (id : Nat) : Option Op := s.col.ops.find? (fun o => decide (o.id = id))

/-- Operations of a group not ended at this chip, oldest first. -/
def openOps (s : State) (g : Nat) : List Op := s.col.ops.filter (fun o => decide (o.group = g) && !o.ended)

/-- The oldest OPSEQ not ended at this chip: an operation's, or the next one to issue (R339). -/
def oldestOpseq (s : State) (g : Nat) : Nat :=
  match openOps s g with
  | o :: _ => o.opseq
  | [] => s.fld (Reg.grpOpseq g)

/-- The operation's wing, that of its engine. -/
def opWing (s : State) (g : Nat) : Nat := grpEngine s g / 4

/-! Sending (R335, R337, R338, R340). -/

/-- A COL_CONTRIB or COL_RESULT frame (Table 11-3); a cue with SVC = 1 sends it on its circuit. -/
def sendColFrame (o : Op) (x : Send) (s : State) : State :=
  let f := mkFrame x.ty x.dest x.dport (myChip s) 8 0 o.opseq o.group (x.chunk % 65536 + o.sig * 65536)
    (x.stage + 16 * x.rev) x.data
  if Isa.svc o.w = 1 then
    let c := circuitFor s o.group x.dest x.dport
    let k := circuitKey c
    let n := Tab.get (fun _ => 0) s.swc.seqCtr k
    let s := s.modSwc (fun w => { w with seqCtr := Tab.set (fun _ => 0) w.seqCtr k ((n + 1) % 2 ^ 24) })
    sendCircuit (opWing s o.group) o.id (Frame.seal (Frame.putBits (Frame.putBits (Frame.putBits f 10 1 1) 124 12 c) 88 24 n)) s
  else sendFrame (opWing s o.group) f s

/-- Chunks that a receiver has released at a STAGE. -/
def relKey (stage dest dport : Nat) : Nat := stage * 65536 + dest * 16 + dport
def releasedBy (o : Op) (x : Send) : Nat := Tab.get (fun _ => 0) o.released (relKey x.stage x.dest x.dport)

/-- Send what the windows allow (R338). -/
def flushSends (id : Nat) (s : State) : State :=
  match s.opById id with
  | none => s
  | some o =>
    let win := grpWindow s o.group
    let go := o.sends.filter (fun x => decide (x.chunk < releasedBy o x + win))
    let s := modOp id (fun p => { p with sends := p.sends.filter (fun x => !(go.contains x)) }) s
    forEach (sendColFrame o) go s

/-- Queue frames of an operation and send what may go. -/
def sendAll (id : Nat) (l : List Send) (s : State) : State :=
  if l.isEmpty then s
  else
    let s := match s.opById id with
      | some o => s.modCtr o.ctr Ctr.start
      | none => s
    flushSends id (modOp id (fun p => { p with sends := p.sends ++ l }) s)

/-- A COL_CTRL frame (Table 11-4). -/
def sendCtrl (g opseq dest dport kind : Nat) (bs : List Byte) (s : State) : State :=
  sendFrame (opWing s g) (mkFrame tyColCtrl dest dport (myChip s) 8 0 opseq g 0 kind (padTo 16 bs)) s

/-! Aborts (R361 to R365). -/

/-- The OPSEQ values that aborted, with their codes. -/
def abortedCode (s : State) (g n : Nat) : Option Nat :=
  ((s.grp g).aborted.find? (fun a => decide (a / 4096 = n))).map (fun a => a % 4096)

/-- The neighbours of this chip in the box, as ports (R364). -/
def boxPorts (s : State) (g : Nat) : List Nat :=
  [0, 1, 2].flatMap (fun a =>
    let n := grpLen s g a
    let i := ringIndex s g a
    let ring := decide (n = ringSize s a)
    if n ≤ 1 then []
    else (if ring ∨ i + 1 < n then [8 + 2 * a] else []) ++ (if ring ∨ 0 < i then [9 + 2 * a] else []))

/-- The chip across a torus port. -/
def neighbour (s : State) (port : Nat) : Nat :=
  let a := axisOf port
  let n := ringSize s a
  let c := fun b => coordOf (myChip s) b
  let m := if port % 2 = 0 then (c a + 1) % n else (c a + n - 1) % n
  chipOf (if a = 0 then m else c 0) (if a = 1 then m else c 1) (if a = 2 then m else c 2)

/-- An ASIDE frame of a group's aside path to a port (R357). DESIGN CHOICE, log entry 182: the ring index of a result and of a notice. -/
def sendAsidePath (port g opseq sig index op : Nat) (bs : List Byte) (s : State) : State :=
  let dest := if port < 8 then myChip s else neighbour s port
  sendAside port (mkFrame tyAside dest (if port < 8 then port else 8) (myChip s) 8 0 opseq g (index + sig * 65536) op bs) s

/-- An abort notice to the edge members and box neighbours, but not where it came from (R364). -/
def sendNotices (g : Nat) (except_ : Nat) (bs : List Byte) (opseq : Nat) (s : State) : State :=
  forEach (fun p s => if p = except_ then s else sendAsidePath p g opseq 0 0 0xE0 bs s) (edgePorts s g ++ boxPorts s g) s

def noticeBytes (code opseq detect offend expect got : Nat) : List Byte :=
  leBytes 2 code ++ leBytes 3 opseq ++ [0] ++ leBytes 2 detect ++ leBytes 2 offend ++ [0, 0] ++ leBytes 4 expect ++ leBytes 4 got ++
    List.replicate 12 0

/-- One operation fewer in the registers of its group and engine. -/
def dropOpCount (g : Nat) (s : State) : State :=
  (s.setFld (Reg.grpOps g) (s.fld (Reg.grpOps g) - 1)).setFld (Reg.engOps (grpEngine s g)) (s.fld (Reg.engOps (grpEngine s g)) - 1)

/-- The result extents of an operation (R324): dst, TOPK's index output, the residual of EPI 3 and 6. -/
def resultExtents (o : Op) : List (Nat × Nat) :=
  if Isa.opc o.w = Isa.oCURTAIN then []
  else [Desc.extent (o.desc 0) false] ++ (if o.xmode = Isa.xSELECT then [Desc.extent (o.desc 3) false] else []) ++
    (if Isa.epi o.w = 3 ∨ Isa.epi o.w = 6 then [Desc.extent (o.desc 4) false] else [])

/-- The contents of the result extents of a crossing whose counter holds an error are unspecified (R282). -/
def openResults (o : Op) (s : State) : State := forEach (fun (e : Nat × Nat) s => openSpan e.1 e.2 s) (resultExtents o) s

/-- An operation aborts (R364): its record, the counter's error, its staging released. -/
def recordAbort (g n code detect offend expect got : Nat) (s : State) : State :=
  let s := s.modGrp g (fun x => { x with aborted := (x.aborted ++ [n * 4096 + code]).drop (x.aborted.length - 7),
                                         early := x.early.filter (fun e => decide (e.1 ≠ n)) })
  let s := s.setWord (Reg.errlog 0) (BitVec.ofNat 64 (g + code * 2 ^ 12 + n * 2 ^ 24 + detect % 65536 * 2 ^ 48))
  let s := s.setWord (Reg.errlog 1) (BitVec.ofNat 64 (expect + got * 2 ^ 32))
  let s := s.setWord (Reg.errlog 2) (BitVec.ofNat 64 (offend % 65536 + s.now % 2 ^ 32 * 2 ^ 32))
  let s := (s.raise Reg.colAbortEv).count Reg.colAborts
  let s := if code = Err.colResidue then s.raise Reg.colResidueEv else s
  let s := match s.op g n with
    | some o => if o.ended then s else
        dropLoads o.id (dropOpCount g
          (((openResults o s).modCtr o.ctr (Ctr.fail 2 code)).modCol (fun c => { c with ops := c.ops.filter (fun p => decide (p.id ≠ o.id)) })))
    | none => s
  s.modCol (fun c => { c with aside := c.aside.filter (fun v => !(decide (v.group = g) && decide (v.opseq = n))) })

/-- The first abort of an operation that this chip learns of: recorded, and the notices with the code `told` (R363 to R365). -/
def abortTelling (g n code told detect offend expect got from_ : Nat) (s : State) : State :=
  if (abortedCode s g n).isSome then s
  else sendNotices g from_ (noticeBytes told n detect offend expect got) n (recordAbort g n code detect offend expect got s)

def abortWith (g n code detect offend expect got from_ : Nat) (s : State) : State :=
  abortTelling g n code code detect offend expect got from_ s

/-- This chip detects the abort itself. -/
def abortOp (o : Op) (code offend expect got : Nat) (s : State) : State :=
  abortWith o.group o.opseq code (grpBasepos s o.group) offend expect got 99 s

/-- This chip's own part fails: the offending position is its own. DEDUCED, log entry 145. -/
def abortHere (o : Op) (code : Nat) (s : State) : State := abortOp o code (grpBasepos s o.group) 0 0 s

/-- Ghost-light mode: recorded as GHOST_LIGHT, told to the members as COL_MEMBER_LOST (R363). -/
def abortDark (o : Op) (s : State) : State :=
  abortTelling o.group o.opseq Err.ghostLight Err.colMemberLost (grpBasepos s o.group) (grpBasepos s o.group) 0 0 99 s

/-- An operation is issued whose abort this chip knows already: it ends at once with that error. -/
def abortKnown (id : Nat) (s : State) : State :=
  match s.opById id with
  | none => s
  | some o =>
    match abortedCode s o.group o.opseq with
    | none => s
    | some code =>
      dropLoads id (dropOpCount o.group
        ((s.modCtr o.ctr (Ctr.fail 2 code)).modCol (fun c => { c with ops := c.ops.filter (fun p => decide (p.id ≠ id)) })))

/-! Landing. -/

/-- Address of byte `i` of a row of a tensor of `packed` element bytes, the scale bytes after them. -/
def byteAddr (d : Desc) (r i packed shift scaleShift : Nat) : Nat :=
  if i < packed then Desc.base d + r * Desc.stride d + shift + i
  else Desc.scaleBase d + r * Desc.scaleRow d + scaleShift + (i - packed)

/-- Land flattened bytes [start, start + length) of a part whose rows have `cols` elements in format `f`, the part starting at
column `col0` of dst. -/
def landBytes (d : Desc) (f cols col0 start : Nat) (bs : List Byte) (s : State) : State :=
  let packed := (cols * elemBits f + 7) / 8
  let len := rowLen false f cols
  forEach (fun (p : Byte × Nat) s =>
    let i := start + p.2
    spWrite (byteAddr d (i / len) (i % len) packed (col0 * elemBits f / 8) (col0 / 32)) [p.1] s) bs.zipIdx s

/-- Bytes of a flattened reduction that lie in the columns of one slice (R344, SCATTER): (dst row, byte in row, byte). -/
def sliceBytes (o : Op) (n i start : Nat) (bs : List Byte) : List (Nat × Nat × Byte) :=
  let eb := elemBytes o.fmt
  let lo := i * (o.cols / n) * eb
  let hi := (i + 1) * (o.cols / n) * eb
  bs.zipIdx.filterMap (fun (b, k) =>
    let p := start + k
    let r := p / o.rowLen
    let c := p % o.rowLen
    if lo ≤ c ∧ c < hi then some (r, c - lo, b) else none)

/-- Source chunks that dst chunk m of slice i needs (SCATTER). -/
def sliceNeeds (s : State) (o : Op) (i m : Nat) : List Nat :=
  let ch := grpChunk s o.group
  let n := max 1 (grpNmem s o.group)
  let len := o.cols / n * elemBytes o.fmt
  let total := o.rows * len
  (((List.range (min ch (total - m * ch))).map (fun b =>
    let p := m * ch + b
    (p / max 1 len * o.rowLen + i * len + p % max 1 len) / ch))).eraseDups

/-- A chunk of the reduction holds bytes of the slice of ring position i. -/
def sliceTouches (s : State) (o : Op) (i k : Nat) : Bool :=
  let ch := grpChunk s o.group
  !(sliceBytes o (max 1 (grpNmem s o.group)) i (k * ch) (List.replicate (min ch (o.bytes - k * ch)) 0)).isEmpty

/-- A chip's members need chunk k: always but under SCATTER (Table 11-5). -/
def chipNeeds (s : State) (o : Op) (chip k : Nat) : Bool :=
  o.xmode ≠ Isa.xSCATTER ||
  (List.range (perChip s o.group)).any (fun i =>
    sliceTouches s o ((if chip = myChip s then grpBasepos s o.group else boxIndexOf s o.group chip * perChip s o.group) + i) k)

/-- EPI values that work on whole rows (R345). -/
def rowEpi (e : Nat) : Bool := decide (e = 2 ∨ e = 3 ∨ e = 6)

/-- The values of row r of the reduction. -/
def reducedRow (s : State) (o : Op) (r : Nat) : List FVal :=
  let ch := grpChunk s o.group
  let bs := (List.range o.rowLen).map (fun i =>
    let p := r * o.rowLen + i
    match o.done.find? (fun d => decide (d.chunk = p / ch)) with
    | some d => nthByte d.data (p % ch)
    | none => 0)
  match floatFmt o.fmt with
  | some g => (codesOf o.fmt bs).map (decodeF g)
  | none => []

/-- Apply a row epilogue and write its rows (R325, Table 10-16). -/
def landRow (o : Op) (r : Nat) (s : State) : State :=
  let y := reducedRow s o r
  let e := Isa.epi o.w
  let v := veiled (some o.id) s
  let h := if e = 2 then y else List.zipWith (fun a b => r32 (FVal.add a b)) y (rowVals v (o.desc 4) r)
  let n := normRow h (rowVals v (o.desc 5) 0) (Isa.epiEps o.w)
  let n4 := Desc.base (o.desc 4) + r * Desc.stride (o.desc 4)
  let n5 := Desc.base (o.desc 5)
  let s := countRowReads ([(n5, n5 + Desc.packedBytes (o.desc 5))] ++
    if e = 2 then [] else [(n4, n4 + Desc.packedBytes (o.desc 4))]) (readFrom v s)
  let s := if e = 2 then s else storeRow (o.desc 4) r (encodeVals (Desc.fmt (o.desc 4)) h) s
  storeRow (o.desc 0) r (encodeVals (Desc.fmt (o.desc 0)) n) s

/-- Rows that chunk k touches. -/
def rowsOfChunk (s : State) (o : Op) (k : Nat) : List Nat :=
  let ch := grpChunk s o.group
  let a := k * ch / max 1 o.rowLen
  let b := (min o.bytes ((k + 1) * ch) - 1) / max 1 o.rowLen
  (List.range (b + 1 - a)).map (fun i => a + i)

/-- Chunks of row r. -/
def chunksOfRow (s : State) (o : Op) (r : Nat) : List Nat :=
  let ch := grpChunk s o.group
  let a := r * o.rowLen / ch
  let b := ((r + 1) * o.rowLen - 1) / ch
  (List.range (b + 1 - a)).map (fun i => a + i)

/-- Land a chunk with an elementwise epilogue (EPI 1, 4, 5): rows of 32 elements at a time for an MX dst. -/
def landElems (o : Op) (k : Nat) (data : List Byte) (s : State) : State :=
  let ch := grpChunk s o.group
  let d := o.desc 0
  let first := k * ch / elemBytes o.fmt
  match floatFmt o.fmt with
  | none => s
  | some g =>
    let seen := veiled (some o.id) s
    let vals := (codesOf o.fmt data).map (decodeF g)
    let vals := if Isa.epi o.w = 1 then
        vals.zipIdx.map (fun (v, i) => r32 (FVal.add v (elemVal seen (o.desc 4) ((first + i) / o.cols) ((first + i) % o.cols))))
      else vals
    let s := readFrom seen s
    if isMx (Desc.fmt d) then
      forEach (fun (b : List FVal × Nat) s =>
        let i := first + 32 * b.2
        let r := i / o.cols
        let c := i % o.cols
        let p := encodeVals (Desc.fmt d) b.1
        spWrite (Desc.scaleBase d + r * Desc.scaleRow d + c / 32) p.2
          (spWrite (Desc.base d + r * Desc.stride d + c * elemBits (Desc.fmt d) / 8) p.1 s))
        (chunksOf 32 (ceilDiv vals.length 32) vals).zipIdx s
    else
      let eb := elemBytes (Desc.fmt d)
      forEach (fun (v : FVal × Nat) s =>
        let i := first + v.2
        spWrite (Desc.base d + i / o.cols * Desc.stride d + i % o.cols * eb) (encodeVals (Desc.fmt d) [v.1]).1 s) vals.zipIdx s

/-- Mark a done chunk. -/
def setDone (o : Op) (k : Nat) (f : Done → Done) : Op :=
  { o with done := o.done.map (fun d => if d.chunk = k then f d else d) }

/-- Chunk k of the operation's counter lands, once more when its landed copy had been retracted (R280, R350). -/
def countLanded (id k : Nat) (s : State) : State :=
  match s.opById id with
  | none => s
  | some o => modOp id (fun p => { p with takenBack := p.takenBack.filter (fun m => decide (m ≠ k)) })
      (s.modCtr o.ctr (Ctr.land (decide (k ∈ o.takenBack))))

/-- The landed copy of chunk k of the operation's counter is retracted (R350). -/
def takeBack (id k : Nat) (s : State) : State :=
  match s.opById id with
  | none => s
  | some o => modOp id (fun p => { p with takenBack := p.takenBack ++ [k] }) (s.modCtr o.ctr Ctr.retract)

/-- SCATTER: dst chunks of this chip's slice that have become whole, and land. -/
def landSlices (id : Nat) (s : State) : State :=
  match s.opById id with
  | none => s
  | some o =>
    let n := boundChunks s o.group o.xmode o.bytes
    let ready := (List.range n).filter (fun m => !(decide (m ∈ o.rowsLanded)) &&
      (sliceNeeds s o (grpBasepos s o.group) m).all (fun k => o.done.any (fun d => decide (d.chunk = k))))
    forEach (countLanded id) ready (modOp id (fun p => { p with rowsLanded := p.rowsLanded ++ ready }) s)

/-- Rows whose chunks are all confirmed and which have not landed: the epilogue, then the chunks that they complete (R345). -/
def landRows (id : Nat) (s : State) : State :=
  match s.opById id with
  | none => s
  | some o =>
    let conf := fun k => o.done.any (fun d => decide (d.chunk = k) && d.confirmed)
    let ready := (List.range o.rows).filter (fun r => !(decide (r ∈ o.rowsLanded)) && (chunksOfRow s o r).all conf)
    let s := forEach (landRow o) ready s
    let landed := o.rowsLanded ++ ready
    let fresh := o.done.filter (fun d => !d.landed && d.confirmed && (rowsOfChunk s o d.chunk).all (fun r => decide (r ∈ landed)))
    let s := modOp id (fun p =>
      fresh.foldl (fun q d => setDone q d.chunk (fun x => { x with landed := true })) { p with rowsLanded := landed }) s
    forEach (fun _ s => s.modCtr o.ctr (Ctr.land false)) fresh s

/-- Land one final chunk of the operation, unless its epilogue works on rows. -/
def landChunk (id k : Nat) (s : State) : State :=
  match s.opById id with
  | none => s
  | some o =>
    match o.done.find? (fun d => decide (d.chunk = k)) with
    | none => s
    | some d =>
      let mark := fun s => modOp id (fun p => setDone p k (fun x => { x with landed := true })) s
      let count := countLanded id k
      let dst := o.desc 0
      let per := o.perMember s
      let ch := grpChunk s o.group
      let n := max 1 (grpNmem s o.group)
      if o.xmode = Isa.xREDUCE ∧ rowEpi (Isa.epi o.w) then landRows id s
      else if o.xmode = Isa.xREDUCE ∧ (Isa.epi o.w = 1 ∨ Isa.epi o.w = 4 ∨ Isa.epi o.w = 5) then
        count (mark (landElems o k d.data s))
      else if o.xmode = Isa.xREDUCE ∨ o.xmode = Isa.xBROADCAST then
        count (mark (landBytes dst o.fmt (if o.soft then 2 else o.cols) 0 (k * ch) d.data s))
      else if o.xmode = Isa.xSCATTER then
        let s := forEach (fun (b : Nat × Nat × Byte) s => spWrite (Desc.base dst + b.1 * Desc.stride dst + b.2.1) [b.2.2] s)
          (sliceBytes o n (grpBasepos s o.group) (k * ch) d.data) s
        landSlices id (mark s)
      else if o.xmode = Isa.xGATHER then
        count (mark (landBytes dst o.fmt o.cols (k / max 1 per * o.cols) (k % max 1 per * ch) d.data s))
      else
        count (mark (landBytes dst o.fmt (o.cols / n) (k / max 1 per * (o.cols / n)) (k % max 1 per * ch) d.data s))

/-! Releases (R338) and the end of an operation. -/

/-- A chunk that no member of this chip needs has gone on for good: under SHORT_CT with VERIFIED (R348, R351). DEDUCED, log entry 146. -/
def passedOn (s : State) (o : Op) (k : Nat) : Bool :=
  !(chipNeeds s o (myChip s) k) &&
  o.sums.any (fun x => decide (x.chunk = k) && (if grpSched s o.group = schedCt then x.covered else x.sent))

/-- Chunks in order from 0 whose inputs this chip no longer retains: confirmed here, or passed on (R351). -/
def inOrder (s : State) (o : Op) : Nat → Nat → Nat
  | 0, k => k
  | fuel + 1, k =>
    if o.done.any (fun d => decide (d.chunk = k) && d.confirmed) ∨ passedOn s o k then inOrder s o fuel (k + 1) else k

/-- Copies held in order from 0 from one sender at a STAGE. -/
def heldInOrder (o : Op) (stage src : Nat) : Nat → Nat → Nat
  | 0, k => k
  | fuel + 1, k =>
    if o.copies.any (fun c => decide (c.stage = stage ∧ c.chunk = k ∧ c.src = src)) then heldInOrder o stage src fuel (k + 1) else k

/-- Ring indices that send to this chip on an axis: the predecessor under LONG, every peer otherwise. -/
def axisSenders (s : State) (g a : Nat) (ring : Bool) : List Nat :=
  if grpSched s g = schedLong ∧ ring = false then [(ringIndex s g a + grpLen s g a - 1) % max 1 (grpLen s g a)]
  else (List.range (grpLen s g a)).filter (fun i => decide (i ≠ ringIndex s g a))

/-- Senders of this chip's inputs (STAGE, chip, port): its edge members, and the chips of its box by the mode's data movement
(R341 to R344, R356). Rows of ROUTE and MERGE travel by piece index and have no window. -/
def sendersOf (s : State) (o : Op) : List (Nat × Nat × Nat) :=
  let g := o.group
  let x := o.xmode
  let sums := x = Isa.xREDUCE ∨ x = Isa.xSCATTER
  let on := fun (stage : Nat → Nat) (ring : Bool) =>
    (liveAxes s g).flatMap (fun a => (axisSenders s g a ring).map (fun i => (stage a, peerChip s g a i, 8)))
  if x = Isa.xROUTE ∨ x = Isa.xMERGE then []
  else
    (if x = Isa.xBROADCAST then [] else (edgePorts s g).map (fun p => (0, myChip s, p))) ++
    (if sums then on (fun a => a + 1) false else []) ++
    (if x = Isa.xGATHER ∨ x = Isa.xBROADCAST ∨ (sums ∧ grpSched s g = schedLong) then on (fun a => 6 - a) false else []) ++
    (if x = Isa.xSELECT then on (fun _ => 10) true else []) ++
    (if x = Isa.xEXCHANGE then
      ((List.range (boxSize s g)).map (boxChipAt s g)).filterMap (fun c => if c = myChip s then none else some (4, c, 8)) else [])

/-- Chunks of edge members that gather, and candidate lists, have an index of their own: their releases count from the sender's first
chunk. DEDUCED, log entry 71. -/
def ownIndex (o : Op) (stage : Nat) : Bool :=
  decide (o.xmode = Isa.xSELECT) || (decide (stage = 0) && decide (o.xmode = Isa.xGATHER ∨ o.xmode = Isa.xEXCHANGE))

/-- RELEASE of n chunks to a sender (Table 11-4). -/
def sendRelease (o : Op) (x : Nat × Nat × Nat) (n : Nat) (s : State) : State :=
  sendCtrl o.group o.opseq x.2.1 x.2.2 3 (leBytes 2 n ++ leBytes 1 x.1) s

/-- Report releases to every sender (R338). -/
def reportReleases (o : Op) (n : Nat) (s : State) : State :=
  forEach (fun (x : Nat × Nat × Nat) s =>
    if ownIndex o x.1 then s else sendRelease o x n s) (sendersOf s o) (modOp o.id (fun p => { p with reported := n }) s)

/-- The last report, when the operation ends (R338). -/
def reportAll (o : Op) (s : State) : State :=
  let n := if o.xmode = Isa.xGATHER ∨ o.xmode = Isa.xEXCHANGE then boundChunks s o.group o.xmode o.bytes else o.perMember s
  forEach (fun (x : Nat × Nat × Nat) s =>
    sendRelease o x (if ownIndex o x.1 then heldInOrder o x.1 (x.2.1 * 16 + x.2.2) o.copies.length 0 else n) s) (sendersOf s o) s

/-- Report to one sender whose chunks have an index of their own, at every half window. -/
def reportOwn (id stage src : Nat) (s : State) : State :=
  match s.opById id with
  | none => s
  | some o =>
    let n := heldInOrder o stage src o.copies.length 0
    if ownIndex o stage ∧ n % max 1 (grpWindow s o.group / 2) = 0 then sendRelease o (stage, src / 16, src % 16) n s else s

/-- Report when half a window has been released. -/
def maybeReport (id : Nat) (s : State) : State :=
  match s.opById id with
  | none => s
  | some o =>
    let n := inOrder s o (o.done.length + o.perMember s) o.reported
    if o.reported + max 1 (grpWindow s o.group / 2) ≤ n then reportReleases o n s else s

/-- Bytes of dst as results to an edge member: SCATTER gives the member its own slice. DEDUCED, log entry 43. -/
def edgeResult (s : State) (o : Op) (port : Nat) : List Byte :=
  let d := o.desc 0
  if o.xmode = Isa.xSCATTER then
    let n := max 1 (grpNmem s o.group)
    let i := positionOf s o.group (myChip s) port
    let len := o.cols / n * elemBytes o.fmt
    let all := o.done.flatMap (fun x => sliceBytes o n i (x.chunk * grpChunk s o.group) x.data)
    (List.range (o.rows * len)).map (fun b =>
      ((all.find? (fun x => decide (x.1 = b / max 1 len ∧ x.2.1 = b % max 1 len))).map (fun x => x.2.2)).getD 0)
  else
    (List.range (Desc.rows d)).flatMap (fun r =>
      spRead s (Desc.base d + r * Desc.stride d) (Desc.packedBytes d) ++
      (if isMx (Desc.fmt d) then spRead s (Desc.scaleBase d + r * Desc.scaleRow d) (ceilDiv (Desc.cols d) 32) else []) ++
      (if o.xmode = Isa.xSELECT then spRead s (Desc.base (o.desc 3) + r * Desc.stride (o.desc 3)) (Desc.packedBytes (o.desc 3)) else []))

/-- Chunks of a contribution that hold columns c0 up to c1 of row r. -/
def spanChunks (s : State) (o : Op) (r c0 c1 : Nat) : List Nat :=
  let ch := grpChunk s o.group
  if c1 ≤ c0 then []
  else
    let whole := o.soft || isMx o.fmt
    let lo := if whole then r * o.rowLen else r * o.rowLen + c0 * elemBits o.fmt / 8
    let hi := if whole then (r + 1) * o.rowLen - 1 else r * o.rowLen + (c1 * elemBits o.fmt - 1) / 8
    (List.range (hi / ch + 1 - lo / ch)).map (fun i => lo / ch + i)

/-- Bytes of one dst row as it goes to an edge member. -/
def resultRow (o : Op) : Nat :=
  let d := o.desc 0
  Desc.packedBytes d + (if isMx (Desc.fmt d) then ceilDiv (Desc.cols d) 32 else 0) +
    (if o.xmode = Isa.xSELECT then Desc.packedBytes (o.desc 3) else 0)

/-- Bytes of the results of an edge member. -/
def resultBytes (s : State) (o : Op) : Nat :=
  if o.xmode = Isa.xSCATTER then o.rows * (o.cols / max 1 (grpNmem s o.group) * elemBytes o.fmt)
  else Desc.rows (o.desc 0) * resultRow o

/-- Rows of dst that result chunk k holds, each with its columns; an MX dst and SELECT take whole rows. -/
def resultSpans (s : State) (o : Op) (k : Nat) : List (Nat × Nat × Nat) :=
  let d := o.desc 0
  let ch := grpChunk s o.group
  let row := max 1 (resultRow o)
  let lo := k * ch
  let hi := min ((k + 1) * ch) (resultBytes s o)
  let bits := max 1 (elemBits (Desc.fmt d))
  (List.range ((hi - 1) / row + 1 - lo / row)).map (fun i =>
    let r := lo / row + i
    if isMx (Desc.fmt d) ∨ o.xmode = Isa.xSELECT then (r, 0, Desc.cols d)
    else (r, (lo - r * row) * 8 / bits, min (Desc.cols d) (ceilDiv ((hi - r * row) * 8) bits)))

/-- Chunks of the operation that result chunk k to an edge port is made of. -/
def resultNeeds (s : State) (o : Op) (port k : Nat) : List Nat :=
  if o.xmode = Isa.xSCATTER then sliceNeeds s o (positionOf s o.group (myChip s) port) k
  else if o.xmode = Isa.xSELECT then [0]
  else (resultSpans s o k).flatMap (fun x =>
    if o.xmode = Isa.xGATHER then
      (List.range (max 1 (grpNmem s o.group))).flatMap (fun j =>
        (spanChunks s o x.1 (max x.2.1 (j * o.cols) - j * o.cols) (min x.2.2 ((j + 1) * o.cols) - j * o.cols)).map
          (fun c => j * o.perMember s + c))
    else spanChunks s o x.1 x.2.1 x.2.2)

/-- Everything that result chunk k holds is confirmed and has landed (R336, R345). -/
def resultReady (s : State) (o : Op) (port k : Nat) : Bool :=
  if o.xmode = Isa.xREDUCE ∧ rowEpi (Isa.epi o.w) then (resultSpans s o k).all (fun x => decide (x.1 ∈ o.rowsLanded))
  else (resultNeeds s o port k).all (fun c => o.done.any (fun d => decide (d.chunk = c) && d.confirmed && d.landed))

/-- Result chunks that can go to the edge member on a port. -/
def dueResults (s : State) (o : Op) (port : Nat) : List Nat :=
  if o.isAside ∨ o.xmode = Isa.xEXCHANGE ∨ o.xmode = Isa.xROUTE ∨ o.xmode = Isa.xMERGE then []
  else (List.range (ceilDiv (resultBytes s o) (grpChunk s o.group))).filter (fun k =>
    !(decide (port * 65536 + k ∈ o.answered)) && resultReady s o port k)

/-- Result frames to the edge members, as their chunks are confirmed (R336, R345). -/
def answerEdges (id : Nat) (s : State) : State :=
  match s.opById id with
  | none => s
  | some o =>
    forEach (fun p s =>
      let ks := dueResults s o p
      if ks.isEmpty then s
      else
        let bs := edgeResult s o p
        sendAll id (ks.map (fun k => Send.mk 7 (myChip s) p k tyColResult 0 (pieceOf (grpChunk s o.group) k bs)))
          (modOp id (fun q => { q with answered := q.answered ++ ks.map (fun k => p * 65536 + k) }) s)) (edgePorts s o.group) s

/-- The operation has ended here: the counter, the register counts, the last releases, the edge results (R275, R283, R338). -/
def endOp (o : Op) (s : State) : State :=
  let s := if (s.ctr o.ctr).kind = 0 then s else openResults o s
  let s := (dropOpCount o.group s).modCtr o.ctr Ctr.finish
  let s := if o.xmode = Isa.xROUTE then
      s.modGrp o.group (fun g => { g with routeEnded := true, routeLog := o.log, filled := o.filled }) else s
  let s := if o.isAside then s else reportAll o s
  let s := modOp o.id (fun p => { p with ended := true, copies := [], sums := [] }) s
  s.modCol (fun c => { c with ops := c.ops.filter (fun p => !(p.ended && p.sends.isEmpty)) })

/-! Where chunks go (R342 to R344). -/

/-- The chunk's owner on axis a under LONG. -/
def ownerOf (s : State) (g a k : Nat) : Nat :=
  let n := fun b => max 1 (grpLen s g b)
  if a = 0 then k % n 0 else if a = 1 then k / n 0 % n 1 else k / (n 0 * n 1) % n 2

/-- Chips below this one on axis b toward `stop`: those at ring index i on axis b with any index on the axes of `later`. -/
def subtree (s : State) (g b i : Nat) (later : List Nat) : List Nat :=
  let idx := fun a => if a = b then [i] else if a ∈ later then List.range (grpLen s g a) else [ringIndex s g a]
  (idx 0).flatMap (fun x => (idx 1).flatMap (fun y => (idx 2).map (fun z => boxChip s g x y z)))

/-- STAGE of the gather path on an axis: 4 Z, 5 Y, 6 X. DEDUCED, log entry 44. -/
def gatherStage (a : Nat) : Nat := 6 - a

/-- Frames that carry chunk k on from this chip on the gather path: `src` gives the source's ring index on each axis, `from_` the
axis it arrived on (none at the source). -/
def gatherSends (s : State) (o : Op) (k : Nat) (src : Nat → Nat) (from_ : Option Nat) (data : List Byte) : List Send :=
  let g := o.group
  if grpSched s g = schedLong then
    let order := [2, 1, 0]
    let later := match from_ with
      | none => order
      | some a => order.filter (fun b => decide (b < a))
    let hop := fun (b : Nat) =>
      let n := grpLen s g b
      let r := ringIndex s g b
      let next := (r + 1) % n
      let rest := (List.range ((src b + n - next) % n)).map (fun i => (next + i) % n)
      let ls := order.filter (fun c => decide (c < b))
      if n ≤ 1 ∨ next = src b then []
      else if rest.any (fun i => (subtree s g b i ls).any (fun c => chipNeeds s o c k)) then
        [Send.mk (gatherStage b) (peerChip s g b next) 8 k tyColResult 0 data]
      else []
    (match from_ with | some a => hop a | none => []) ++ later.flatMap hop
  else
    let order := [0, 1, 2]
    let later := match from_ with
      | none => order
      | some a => order.filter (fun b => decide (a < b))
    later.flatMap (fun b =>
      ((List.range (grpLen s g b)).filter (fun i => decide (i ≠ ringIndex s g b))).map (fun i =>
        Send.mk (gatherStage b) (peerChip s g b i) 8 k tyColResult 0 data))

/-- Ring indices of the source of a gathered chunk: the owner under REDUCE, else the chip of the member it came from. -/
def gatherSource (s : State) (o : Op) (k a : Nat) : Nat :=
  if o.xmode = Isa.xREDUCE ∨ o.xmode = Isa.xSCATTER then ownerOf s o.group a k
  else if o.xmode = Isa.xBROADCAST then indexOn s o.group a (memberAt s o.group 0).1
  else indexOn s o.group a (memberAt s o.group (k / max 1 (o.perMember s))).1

def sumOf (o : Op) (st k : Nat) : Option Sum := o.sums.find? (fun x => decide (x.stage = st ∧ x.chunk = k ∧ x.data ≠ []))
def copyOf (o : Op) (st k src : Nat) : Option Copy :=
  o.copies.find? (fun c => decide (c.stage = st ∧ c.chunk = k ∧ c.src = src ∧ c.data ≠ []))

/-- The stage before axis stage `st`: 0, or the last live axis before it. -/
def prevStage (s : State) (g st : Nat) : Nat :=
  (((liveAxes s g).filter (fun a => decide (a + 1 < st))).getLast?.map (fun a => a + 1)).getD 0
/-- The live axis stage after `st`, if any. -/
def nextStage (s : State) (g st : Nat) : Option Nat := ((liveAxes s g).find? (fun a => decide (st < a + 1))).map (fun a => a + 1)

/-- Place of this chip in the LONG chain of chunk k on an axis: 0 starts it, n − 1 owns it. -/
def chainPlace (s : State) (g a k : Nat) : Nat :=
  let n := max 1 (grpLen s g a)
  (ringIndex s g a + 2 * n - ownerOf s g a k - 1) % n

/-- The axis on which a chunk of the gather path reaches this chip, none at its source: LONG goes Z, Y, X, else X, Y, Z. -/
def arrivalAxis (s : State) (o : Op) (k : Nat) : Option Nat :=
  let order := if grpSched s o.group = schedLong then [0, 1, 2] else [2, 1, 0]
  order.find? (fun a => decide (1 < grpLen s o.group a) && decide (gatherSource s o k a ≠ ringIndex s o.group a))

/-- The stages whose sum of chunk k this chip forms: under LONG only an owner on the earlier axes takes part, and the start of a chain
forms none (R342). -/
def stagesHere (s : State) (o : Op) (k : Nat) : List Nat :=
  let g := o.group
  if grpSched s g ≠ schedLong then 0 :: (liveAxes s g).map (fun a => a + 1)
  else 0 :: ((liveAxes s g).filter (fun a => decide (chainPlace s g a k ≠ 0) &&
    (liveAxes s g).all (fun b => decide (a ≤ b) || decide (ringIndex s g b = ownerOf s g b k)))).map (fun a => a + 1)

/-- SCATTER: this chip's part in the sums of every chunk is done, those that other members need included (R344): each has gone on, and
under SHORT_CT is covered. -/
def partDone (s : State) (o : Op) : Bool :=
  decide (o.xmode ≠ Isa.xSCATTER) ||
  (List.range (o.perMember s)).all (fun k => (stagesHere s o k).all (fun st =>
    o.sums.any (fun x => decide (x.stage = st ∧ x.chunk = k) && x.sent && (x.covered || decide (grpSched s o.group ≠ schedCt)))))

/-- Source chunks that this chip must see final: under SCATTER those that its members need, and those that it carries on along the gather
path. -/
def neededChunks (s : State) (o : Op) : List Nat :=
  if o.xmode = Isa.xSCATTER then (List.range (o.perMember s)).filter (fun k => chipNeeds s o (myChip s) k ||
    (decide (grpSched s o.group = schedLong) && !(gatherSends s o k (gatherSource s o k) (arrivalAxis s o k) []).isEmpty))
  else if o.xmode = Isa.xREDUCE ∨ o.xmode = Isa.xBROADCAST then List.range (o.perMember s)
  else List.range (boundChunks s o.group o.xmode o.bytes)

/-- Answer the edge members; end the operation once every chunk has landed and is confirmed (R275). -/
def settleOp (id : Nat) (s : State) : State :=
  let s := answerEdges id s
  match s.opById id with
  | none => s
  | some o =>
    if o.ended = false ∧ partDone s o ∧ (neededChunks s o).all (fun k => o.done.any (fun d => decide (d.chunk = k) && d.confirmed && d.landed)) then
      endOp o s
    else s

/-- A chunk is confirmed (R513). -/
def countChunk (o : Op) (s : State) : State := pmcEvent evEngChunks (grpEngine s o.group) 1 s

/-- A chunk is final at this chip: recorded, landed (with an epilogue once it is confirmed, R345), confirmed when it is; then releases
and the end. -/
def finalChunk (id k : Nat) (data : List Byte) (confirmed : Bool) (s : State) : State :=
  match s.opById id with
  | none => s
  | some o =>
    let epi := decide (o.xmode = Isa.xREDUCE ∧ Isa.epi o.w ≠ 0)
    match o.done.find? (fun d => decide (d.chunk = k)) with
    | some d =>
      if d.confirmed ∨ confirmed = false then s
      else
        let s := countChunk o (modOp id (fun p => setDone p k (fun d => { d with confirmed := true })) s)
        settleOp id (maybeReport id (if epi then landChunk id k s else s))
    | none =>
      let s := modOp id (fun p => { p with done := p.done ++ [Done.mk k data confirmed false] }) s
      let s := if confirmed then countChunk o s else s
      settleOp id (maybeReport id (if epi ∧ confirmed = false then s else landChunk id k s))

/-! The gather path (R342, R344). -/

/-- A chunk of the gather path is at this chip: it lands, is confirmed and goes on. -/
def gatherHere (id k : Nat) (src : Nat → Nat) (from_ : Option Nat) (data : List Byte) (s : State) : State :=
  match s.opById id with
  | none => s
  | some o => finalChunk id k data true (sendAll id (gatherSends s o k src from_ data) s)

/-! Sums (R341 to R343, R347 to R352). -/

/-- Elements of this chip's output that are present in chunk k (R341). -/
def ownPresent (s : State) (o : Op) (k i : Nat) : Bool :=
  let per := if o.soft then 1 else max 1 o.cols
  let first := k * grpChunk s o.group / (if o.soft then 8 else max 1 (elemBytes o.fmt))
  (o.present[(first + i) / per]?).getD true

/-- The inputs of the sum at stage `st` of chunk k in canonical order, once all are held (R341 to R343). -/
def sumInputs (s : State) (o : Op) (st k : Nat) : Option (List (List Byte × (Nat → Bool))) :=
  let g := o.group
  let all := fun (_ : Nat) => true
  if st = 0 then
    match o.own with
    | none => none
    | some own =>
      let edges := (edgePorts s g).map (fun p => copyOf o 0 k (myChip s * 16 + p))
      if edges.all (fun e => e.isSome) then
        some ((pieceOf (grpChunk s g) k own, ownPresent s o k) :: edges.filterMap (fun e => e.map (fun c => (c.data, all))))
      else none
  else
    let a := st - 1
    match sumOf o (prevStage s g st) k with
    | none => none
    | some part =>
      if grpSched s g ≠ schedCt ∧ part.passed = false then none
      else if grpSched s g = schedLong then
        let pred := peerChip s g a ((ringIndex s g a + grpLen s g a - 1) % grpLen s g a)
        if chainPlace s g a k = 0 then none
        else (copyOf o st k (pred * 16 + 8)).map (fun c => [(c.data, all), (part.data, all)])
      else
        let ins := (List.range (grpLen s g a)).map (fun i =>
          if i = ringIndex s g a then some part.data else (copyOf o st k (peerChip s g a i * 16 + 8)).map (fun c => c.data))
        if ins.all (fun x => x.isSome) then some (ins.filterMap (fun x => x.map (fun d => (d, all)))) else none

/-- Frames that carry the sum of stage `st` on (R342, R343), or none when it is the reduced chunk. -/
def sumSends (s : State) (o : Op) (st k : Nat) (data : List Byte) (rev : Nat) : Option (List Send) :=
  let g := o.group
  let succ := fun (a stage : Nat) =>
    [Send.mk stage (peerChip s g a ((ringIndex s g a + 1) % grpLen s g a)) 8 k tyColContrib rev data]
  if grpSched s g = schedLong ∧ st ≠ 0 ∧ chainPlace s g (st - 1) k + 1 < grpLen s g (st - 1) then some (succ (st - 1) st)
  else match nextStage s g st with
    | none => none
    | some nx =>
      let a := nx - 1
      if grpSched s g = schedLong then
        (if chainPlace s g a k = 0 then some (succ a nx) else some [])
      else
        some (((List.range (grpLen s g a)).filter (fun i => decide (i ≠ ringIndex s g a) &&
          (subtree s g a i ((liveAxes s g).filter (fun b => decide (a < b)))).any (fun c => chipNeeds s o c k))).map (fun i =>
            Send.mk nx (peerChip s g a i) 8 k tyColContrib rev data))

/-! What a cue sends on its circuits (R181, R182, R340). -/

/-- The frames that an operation sends when nothing is retracted, their data zero: results to its edge members, and for each chunk the
partials and the gather path. -/
def cueSends (s : State) (o : Op) : List Send :=
  let g := o.group
  let ch := grpChunk s g
  let part := fun (total k : Nat) => List.replicate (min ch (total - k * ch)) (0 : Byte)
  let results := resultBytes s o
  (edgePorts s g).flatMap (fun p => (List.range (ceilDiv results ch)).map (fun k =>
    Send.mk 7 (myChip s) p k tyColResult 0 (part results k))) ++
  (List.range (o.perMember s)).flatMap (fun k =>
    let data := part o.bytes k
    (if o.xmode = Isa.xBROADCAST then [] else (stagesHere s o k).flatMap (fun st => (sumSends s o st k data 0).getD [])) ++
    (if o.xmode = Isa.xBROADCAST ∨ grpSched s g = schedLong then gatherSends s o k (gatherSource s o k) (arrivalAxis s o k) data else []))

/-- The circuit of a frame of an operation, and its cells. -/
def sendLoad (s : State) (o : Op) (x : Send) : Nat × Nat :=
  (circuitFor s o.group x.dest x.dport, cellsOfLen (ceilDiv x.data.length 16))

/-- The cells of each frame that an operation sends on a circuit. -/
def loadsOn (loads : List (Nat × Nat)) (c : Nat) : List Nat := (loads.filter (fun x => decide (x.1 = c))).map (fun x => x.2)

/-- Circuits of a group's cues. -/
def cueCircuits (s : State) (g : Nat) : List Nat := (List.range (sendTargets s g).length).map (fun j => grpCirBase s g + j)

/-- R181: every circuit of the cue admits its cells. -/
def circuitsAdmit (s : State) (o : Op) : Bool :=
  let loads := (cueSends s o).map (sendLoad s o)
  decide (grpCirBase s o.group ≠ 0) &&
  (cueCircuits s o.group).all (fun c => admits s c ((loadsOn loads c).foldl max 0) ((loadsOn loads c).foldl (· + ·) 0))

/-- R182: the cells of an admitted cue are pending on its circuits. -/
def addLoads (o : Op) (s : State) : State :=
  let loads := (cueSends s o).map (sendLoad s o)
  forEach (fun c s => addPending c (some o.id) ((loadsOn loads c).foldl (· + ·) 0) s) (cueCircuits s o.group) s

/-- A sum goes on: to the next chips, or it is the reduced chunk. -/
def passSum (id st k : Nat) (s : State) : State :=
  match s.opById id with
  | none => s
  | some o =>
    match sumOf o st k with
    | none => s
    | some x =>
      let s := modOp id (fun p => { p with sums := p.sums.map (fun y => if y.stage = st ∧ y.chunk = k then { y with sent := true } else y) }) s
      match sumSends s o st k x.data x.rev with
      | some l => settleOp id (maybeReport id (sendAll id l s))
      | none =>
        if grpSched s o.group = schedLong then gatherHere id k (gatherSource s o k) none x.data s
        else if chipNeeds s o (myChip s) k then finalChunk id k x.data (decide (grpSched s o.group ≠ schedCt)) s
        else settleOp id (maybeReport id s)

/-- Every input of a sum is covered by VERIFIED or local (R348). -/
def inputsCovered (s : State) (o : Op) (st k : Nat) : Bool :=
  decide (st = 0) ||
  (((sumOf o (prevStage s o.group st) k).map (fun x => x.covered)).getD false &&
   (o.copies.filter (fun c => decide (c.stage = st ∧ c.chunk = k))).all (fun c => c.covered && decide (c.data ≠ [])))

/-- The sums of an operation whose every input is covered and whose verdict has passed are covered: those of chunk k, stage by stage
(R348). -/
def coverSums (id k : Nat) (s : State) : State :=
  forEach (fun st s =>
    match s.opById id with
    | none => s
    | some o =>
      match sumOf o st k with
      | none => s
      | some x =>
        if x.covered ∨ !x.passed ∨ !(inputsCovered s o st k) then s
        else modOp id (fun p => { p with sums := p.sums.map (fun y => if y.stage = st ∧ y.chunk = k then { y with covered := true } else y) }) s)
    [0, 1, 2, 3] s

/-- Runs of consecutive chunks, each as first and last. -/
def runsOfChunks : List Nat → List (Nat × Nat)
  | [] => []
  | k :: t => match runsOfChunks t with
    | (a, b) :: r => if k + 1 = a then (k, b) :: r else (k, k) :: (a, b) :: r
    | [] => [(k, k)]

/-- VERIFIED for the sums `fresh`, which have just been covered: to each receiver one frame for every run of consecutive chunks (R348). -/
def sendVerified (o : Op) (fresh : List Sum) (s : State) : State :=
  let l := fresh.flatMap (fun x => (sumSends s o x.stage x.chunk x.data x.rev).getD [])
  let goals := (l.map (fun y => (y.stage, y.dest, y.dport))).eraseDups
  forEach (fun (r : Nat × Nat × Nat) s =>
    let ks := (l.filter (fun y => decide ((y.stage, y.dest, y.dport) = r))).map (fun y => y.chunk)
    forEach (fun (c : Nat × Nat) s =>
      sendCtrl o.group o.opseq r.2.1 r.2.2 2 (leBytes 2 c.1 ++ leBytes 2 c.2 ++ leBytes 1 r.1) s) (runsOfChunks ks) s) goals s

/-- SHORT_CT: the sums of chunks that are ready are covered, VERIFIED goes out, and the reduced chunks among them are confirmed (R348). -/
def coverChunks (id : Nat) (ks : List Nat) (s : State) : State :=
  match s.opById id with
  | none => s
  | some before =>
    let s := forEach (coverSums id) ks s
    match s.opById id with
    | none => s
    | some o =>
      let fresh := o.sums.filter (fun x => x.covered &&
        !(before.sums.any (fun y => y.covered && decide (y.stage = x.stage ∧ y.chunk = x.chunk))))
      let fresh := ks.flatMap (fun k => fresh.filter (fun x => decide (x.chunk = k)))
      let s := maybeReport id (sendVerified o fresh s)
      settleOp id (forEach (fun (x : Sum) s => if (sumSends s o x.stage x.chunk x.data x.rev).isNone then finalChunk id x.chunk x.data true s
        else s) fresh s)

/-- Form the sum of stage `st` of chunk k (CHUNK_SUM): under SHORT_CT it goes on at once. -/
def formSum (id st k : Nat) (ins : List (List Byte × (Nat → Bool))) (s : State) : State :=
  match s.opById id with
  | none => s
  | some o =>
    let r := combineChunks o.soft (if o.soft then 0 else Isa.xop o.w) o.fmt ins
    let old := o.sums.find? (fun x => decide (x.stage = st ∧ x.chunk = k))
    let x : Sum := { stage := st, chunk := k, rev := (old.map (fun y => y.rev)).getD 0, data := r.1, passed := false, sent := false,
                     recomps := (old.map (fun y => y.recomps)).getD 0, covered := false }
    let s := modOp id (fun p => { p with sums := p.sums.filter (fun y => !(decide (y.stage = st ∧ y.chunk = k))) ++ [x] }) s
    let s := s.addFld Reg.colIntSat r.2
    if grpSched s o.group = schedCt then passSum id st k s else s

/-- What names a frame of an operation, whatever its copy: STAGE, chunk, receiver, TYPE. -/
def Send.slot (y : Send) : Nat × Nat × Nat × Nat × Nat := (y.stage, y.chunk, y.dest, y.dport, y.ty)

/-- A sum's frame still waits for its receiver's window. -/
def waitsToGo (o : Op) (y : Send) : Bool := o.sends.any (fun z => decide (z.slot = y.slot))

/-- A copy that was sent is taken back (R349): RETRACT to its receiver, counted; on a circuit its cells are to be sent again (R182). -/
def retractSend (o : Op) (y : Send) (k rev : Nat) (s : State) : State :=
  let s := pmcEvent evEngRetract (grpEngine s o.group) 1 (s.count Reg.colRetract)
  let s := sendCtrl o.group o.opseq y.dest y.dport 1 (leBytes 2 k ++ leBytes 1 y.stage ++ leBytes 1 rev) s
  if Isa.svc o.w = 1 then addPending (sendLoad s o y).1 (some o.id) (sendLoad s o y).2 s else s

/-- Take the sums of chunk k from stage `st` on back: RETRACT to the chips that received them, with the next REV; the counter when
the chunk had landed (R349, R350). Each RETRACT sent is counted. DEDUCED, log entry 147. -/
def unformFrom (id st k : Nat) (s : State) : State :=
  match s.opById id with
  | none => s
  | some o =>
    let hit := o.sums.filter (fun x => decide (st ≤ x.stage ∧ x.chunk = k ∧ x.data ≠ []))
    if hit.any (fun x => x.sent && decide (15 ≤ x.rev)) then abortHere o Err.colResidue s
    else
      let frames := hit.map (fun x => (x, if x.sent then (sumSends s o x.stage k x.data x.rev).getD [] else []))
      let s := forEach (fun (x : Sum × List Send) s =>
        forEach (fun (y : Send) s => retractSend o y k (x.1.rev + 1) s) (x.2.filter (fun y => !(waitsToGo o y))) s) frames s
      let dropped := frames.flatMap (fun x => x.2.map Send.slot)
      let landed := o.done.any (fun d => decide (d.chunk = k) && d.landed)
      let last := hit.any (fun x => (sumSends s o x.stage k x.data x.rev).isNone)
      let slices := if o.xmode = Isa.xSCATTER then
          o.rowsLanded.filter (fun m => decide (k ∈ sliceNeeds s o (grpBasepos s o.group) m)) else []
      let s := modOp id (fun p => { p with
        sums := p.sums.map (fun y => if st ≤ y.stage ∧ y.chunk = k then
          { y with rev := if y.sent then y.rev + 1 else y.rev, data := [], passed := false, sent := false, covered := false } else y)
        sends := p.sends.filter (fun x => !(dropped.contains x.slot))
        rowsLanded := p.rowsLanded.filter (fun m => !(slices.contains m))
        done := if last then p.done.filter (fun d => decide (d.chunk ≠ k)) else p.done }) s
      if o.xmode = Isa.xSCATTER then forEach (takeBack id) slices s
      else if last ∧ landed then takeBack id k s else s

/-- A failed verdict on a sum that no other party sees: it is recomputed in place, three times at most (R352, R360). -/
def recompute (id st k : Nat) (s : State) : State :=
  match s.opById id with
  | none => s
  | some o =>
    let mine := fun (y : Sum) => decide (y.stage = st ∧ y.chunk = k)
    let n := ((o.sums.find? mine).map (fun y => y.recomps)).getD 0
    let s := s.count Reg.colRecompute
    if 3 ≤ n then abortHere o Err.colResidue s
    else modOp id (fun p => { p with sums := p.sums.filter (fun y => !(mine y)) ++ [Sum.mk st k 0 [] false false (n + 1) false] }) s

/-- The verdict on a sum (CHUNK_VERDICT, R331, R347 to R349, R352). DEDUCED, log entry 75. -/
def takeVerdict (id st k : Nat) (pass : Bool) (s : State) : State :=
  match s.opById id with
  | none => s
  | some o =>
    match sumOf o st k with
    | none => s
    | some x =>
      if pass then
        let s := modOp id (fun p => { p with sums := p.sums.map (fun y => if y.stage = st ∧ y.chunk = k then { y with passed := true } else y) }) s
        if grpSched s o.group = schedCt then coverChunks id [k] s else passSum id st k s
      else
        let s := s.count Reg.colRecompute
        if 3 ≤ x.recomps then abortHere o Err.colResidue s
        else
          let s := modOp id (fun p => { p with sums := p.sums.map (fun y => if y.stage = st ∧ y.chunk = k then { y with recomps := y.recomps + 1 } else y) }) s
          unformFrom id st k s

/-! Copies. -/

/-- Store a copy; one of a higher REV than the one held is a retraction first (R349). -/
def storeCopy (id : Nat) (c : Copy) (s : State) : State :=
  match s.opById id with
  | none => s
  | some o =>
    let same := fun (x : Copy) => decide (x.stage = c.stage ∧ x.chunk = c.chunk ∧ x.src = c.src)
    match o.copies.find? same with
    | none => modOp id (fun p => { p with copies := p.copies ++ [c] }) s
    | some old =>
      if c.rev < old.rev ∨ (c.rev = old.rev ∧ old.data ≠ []) then s
      else
        let s := if old.data ≠ [] then unformFrom id c.stage c.chunk (s.count Reg.colRetract) else s
        modOp id (fun p => { p with copies := p.copies.map (fun x =>
          if same x then { c with covered := x.covered && decide (x.data = []) } else x) }) s

/-- RETRACT of a copy (R349). -/
def retractCopy (id stage k src rev : Nat) (s : State) : State :=
  match s.opById id with
  | none => s
  | some o =>
    let same := fun (x : Copy) => decide (x.stage = stage ∧ x.chunk = k ∧ x.src = src)
    match o.copies.find? same with
    | none => if rev = 0 then s
        else modOp id (fun p => { p with copies := p.copies ++ [Copy.mk stage k src rev [] false] }) (s.count Reg.colRetract)
    | some old =>
      if rev ≤ old.rev then s
      else
        let s := unformFrom id stage k (s.count Reg.colRetract)
        modOp id (fun p => { p with copies := p.copies.map (fun x => if same x then { x with rev := rev, data := [], covered := false } else x) }) s

/-! ROUTE and MERGE (R353 to R355). -/

def routeHeader (origin t e : Nat) : List Byte := leBytes 2 origin ++ leBytes 2 t ++ leBytes 2 e ++ List.replicate 10 0
def routePieces (row : List Byte) : List (List Byte) := chunksOf 4064 (max 1 (ceilDiv row.length 4064)) row

/-- The dst row of a routed row (R354). -/
def routeSlot (s : State) (g e origin k : Nat) : Nat :=
  (e % max 1 (grpEpm s g) * boxSize s g + origin) * grpCap s g + k

/-- A routed row's piece is held here until its origin's rows are all here. -/
def routeHold (id origin t e piece : Nat) (bs : List Byte) (s : State) : State :=
  modOp id (fun p => { p with routed := p.routed ++ [(origin, t, e, piece, bs)] }) s

/-- The rows (token, expert) that an origin has sent here. -/
def rowsFrom (o : Op) (origin : Nat) : List (Nat × Nat) :=
  ((o.routed.filter (fun r => decide (r.1 = origin))).map (fun r => (r.2.1, r.2.2.1))).eraseDups

/-- Rows of one origin land: the k-th for an expert in ascending token order at its place (R354). -/
def routeLand (id origin : Nat) (s : State) : State :=
  match s.opById id with
  | none => s
  | some o =>
    let rows := rowsFrom o origin
    let place := fun (x : Nat × Nat) =>
      routeSlot s o.group x.2 origin (rows.filter (fun y => decide (y.2 = x.2) && decide (y.1 < x.1))).length
    let s := forEach (fun (r : Nat × Nat × Nat × Nat × List Byte) s =>
      landBytes (o.desc 0) o.fmt o.cols 0 (place (r.2.1, r.2.2.1) * o.rowLen + r.2.2.2.1 * 4064)
        (r.2.2.2.2.take (o.rowLen - r.2.2.2.1 * 4064)) s) (o.routed.filter (fun r => decide (r.1 = origin))) s
    modOp id (fun p => { p with filled := p.filled ++ rows.map (fun x => (place x, origin, x.1, x.2)) }) s

/-- The dst mask bits of an origin's rows: set where a row is filled, clear elsewhere (R354). -/
def maskRows (o : Op) (origin : Nat) (s : State) : State :=
  let g := o.group
  forEach (fun e s => forEach (fun k s =>
    let slot := routeSlot s g e origin k
    let m := Desc.maskBase (o.desc 0) + slot / 8
    let bit := if o.filled.any (fun x => decide (x.1 = slot)) then 1 else 0
    spWrite m [BitVec.ofNat 8 (putBits (spByte s m).toNat (slot % 8) 1 bit)] s) (List.range (grpCap s g)) s)
    (List.range (grpEpm s g)) s

/-- The chunk of an origin lands: its rows, their mask bits, the counter. -/
def landOrigin (id origin : Nat) (s : State) : State :=
  let s := routeLand id origin s
  match s.opById id with
  | none => s
  | some o =>
    settleOp id ((modOp id (fun p => { p with done := p.done ++ [Done.mk origin [0] true true] }) (maskRows o origin s)).modCtr o.ctr
      (Ctr.land false))

/-- Chunk o of a ROUTE lands when COUNT rows from origin o are held (R354). -/
def settleRoute (id : Nat) (s : State) : State :=
  match s.opById id with
  | none => s
  | some o =>
    let pieces := max 1 (ceilDiv o.rowLen 4064)
    forEach (fun (c : Nat × Nat) s =>
      let got := (o.routed.filter (fun r => decide (r.1 = c.1))).length
      if got = c.2 * pieces ∧ !(o.done.any (fun d => decide (d.chunk = c.1))) then landOrigin id c.1 s else s) o.counts s

/-- The rows that an origin sends (R354): (token, expert, weight code, sent). -/
def routePlan (s : State) (o : Op) : List (Nat × Nat × Nat × Bool) :=
  let gate := o.desc 3
  ((List.range o.rows).flatMap (fun t =>
    if (o.present[t]?).getD true then
      ((List.range (Desc.rows gate)).filter (fun e => expertOn s gate e t)).map (fun e => (t, e, elemCode s gate e t))
    else [])).foldl (fun (l : List (Nat × Nat × Nat × Bool)) x =>
      let k := (l.filter (fun y => decide (y.2.1 = x.2.1) && y.2.2.2)).length
      l ++ [(x.1, x.2.1, x.2.2, decide (k < grpCap s o.group))]) []

/-- ROUTE sends its rows and its counts (R354). -/
def routeStart (id : Nat) (s : State) : State :=
  match s.opById id with
  | none => s
  | some o =>
    let g := o.group
    let me := boxIndexOf s g (myChip s)
    let own := o.own.getD []
    let v := veiled (some id) s
    let plan := routePlan v o
    let s := modOp id (fun p => { p with log := plan }) (readFrom v s)
    let s := s.addFld Reg.colRouteOver (plan.filter (fun x => !x.2.2.2)).length
    let s := forEach (fun (x : Nat × Nat × Nat × Bool) s =>
      if !x.2.2.2 then s
      else
        let row := pieceOf o.rowLen x.1 own
        let m := memberAt s g (x.2.1 / max 1 (grpEpm s g))
        forEach (fun (p : List Byte × Nat) s =>
          if m = (myChip s, 8) then routeHold id me x.1 x.2.1 p.2 p.1 s
          else sendColFrame o (Send.mk 8 m.1 m.2 p.2 tyColContrib 0 (routeHeader me x.1 x.2.1 ++ p.1)) s)
          (routePieces row).zipIdx s) plan s
    let s := forEach (fun j s =>
      let m := memberAt s g j
      let n := (plan.filter (fun x => x.2.2.2 && decide (x.2.1 / max 1 (grpEpm s g) = j))).length
      if m = (myChip s, 8) then modOp id (fun p => { p with counts := p.counts ++ [(me, n)] }) s
      else sendCtrl g o.opseq m.1 m.2 4 (leBytes 4 n) s) (List.range (grpNmem s g)) s
    settleRoute id s

/-- Rows that this origin sent to member j. -/
def sentTo (s : State) (o : Op) (j : Nat) : List (Nat × Nat × Nat × Bool) :=
  o.log.filter (fun x => x.2.2.2 && decide (x.2.1 / max 1 (grpEpm s o.group) = j))

/-- Every piece of the row (t, e) has returned. -/
def rowBack (o : Op) (t e : Nat) : Bool :=
  (List.range (max 1 (ceilDiv o.rowLen 4064))).all (fun p => o.returned.any (fun x => decide (x.1 = t ∧ x.2.1 = e ∧ x.2.2.1 = p)))

/-- MERGE writes its dst rows (R355). DEDUCED, log entry 67. -/
def mergeRows (o : Op) (s : State) : State :=
  let log := o.log
  let d := o.desc 0
  let value := fun (c : Nat) => match floatFmt o.fmt with
    | some f => decodeF f c
    | none => r32 (ofInt (signedOf 32 c))
  forEach (fun t s =>
    let mine := (List.range (grpNmem s o.group * grpEpm s o.group)).filterMap (fun e =>
      log.find? (fun x => decide (x.1 = t ∧ x.2.1 = e) && x.2.2.2))
    let rows := mine.map (fun x =>
      let bs := (List.range (max 1 (ceilDiv o.rowLen 4064))).flatMap (fun p =>
        ((o.returned.find? (fun y => decide (y.1 = t ∧ y.2.1 = x.2.1 ∧ y.2.2.1 = p))).map (fun y => y.2.2.2)).getD [])
      (x.2.2.1, (codesOf o.fmt (bs.take o.rowLen)).map value))
    let sum := rows.foldl (fun acc r => List.zipWith (fun a v => r32 (FVal.add a (r32 (FVal.mul (f32 r.1) v)))) acc r.2)
      (List.replicate (Desc.cols d) FVal.zero)
    let out := if Desc.fmt d = 11 then RowOut.ints (sum.map toInt32) else RowOut.vals sum
    storeRow d t (encodeRow (Desc.fmt d) out) s) (List.range (Desc.rows d)) s

/-- Every row that a MERGE waits for has returned: its sum is formed, and its verdict is due. -/
def mergeFormed (s : State) (o : Op) : Bool := decide (o.done.length = grpNmem s o.group)

/-- The verdict on the sum of a MERGE: it is released once it has passed, or formed again, three times at most (R331, R352, R355). -/
def mergeVerdict (id : Nat) (pass : Bool) (s : State) : State :=
  match s.opById id with
  | none => s
  | some o =>
    if mergeFormed s o = false then s
    else if pass then
      settleOp id (modOp id (fun p => { p with done := p.done.map (fun d => { d with confirmed := true }) }) (mergeRows o s))
    else recompute id 0 0 s

/-- Chunks of a MERGE: chunk j lands when every row sent to member j has returned (R355). -/
def settleMerge (id : Nat) (s : State) : State :=
  match s.opById id with
  | none => s
  | some o =>
    let ready := (List.range (grpNmem s o.group)).filter (fun j => !(o.done.any (fun d => decide (d.chunk = j))) &&
      (sentTo s o j).all (fun x => rowBack o x.1 x.2.1))
    let s := modOp id (fun p => { p with done := p.done ++ ready.map (fun j => Done.mk j [0] false true) }) s
    forEach (fun _ s => s.modCtr o.ctr (Ctr.land false)) ready s

/-- A merge row has come back to its origin. -/
def mergeTake (id t e piece : Nat) (bs : List Byte) (s : State) : State :=
  settleMerge id (modOp id (fun p => { p with returned := p.returned ++ [(t, e, piece, bs)] }) s)

/-- A MERGE goes back to the rows of the group's last ROUTE that has ended (R355). -/
def joinRoute (id g : Nat) (s : State) : State :=
  modOp id (fun p => if p.xmode = Isa.xMERGE then { p with log := (s.grp g).routeLog, filled := (s.grp g).filled } else p) s

/-- MERGE returns the filled rows of its tensor output to their origins (R355). -/
def mergeStart (id : Nat) (s : State) : State :=
  match s.opById id with
  | none => s
  | some o =>
    let g := o.group
    let own := o.own.getD []
    let s := forEach (fun (x : Nat × Nat × Nat × Nat) s =>
      let row := pieceOf o.rowLen x.1 own
      let chip := boxChipAt s g x.2.1
      forEach (fun (p : List Byte × Nat) s =>
        if chip = myChip s then mergeTake id x.2.2.1 x.2.2.2 p.2 p.1 s
        else sendColFrame o (Send.mk 9 chip 8 p.2 tyColContrib 0 (routeHeader x.2.1 x.2.2.1 x.2.2.2 ++ p.1)) s)
        (routePieces row).zipIdx s) o.filled s
    settleMerge id s

/-! SELECT (R356). -/

/-- Candidates of a row: (FP32 code, index). -/
def noCandidate : List Byte := leBytes 4 0x7FC00000 ++ leBytes 4 0xFFFFFFFF

/-- Merge candidate lists of one row: the k best by R320, the lower index on a tie. -/
def mergeCandidates (k : Nat) (lists : List (List Byte)) : List Byte :=
  let all := (lists.flatMap (fun l => chunksOf 8 (l.length / 8) l)).filter (fun c => decide (c ≠ noCandidate))
  let order := all.map (fun c => (leAt c 4 4, f32 (leAt c 0 4)))
  let best := fun (x : List (Nat × FVal)) => x.foldl (fun (b : Option (Nat × FVal)) v => match b with
    | none => some v
    | some w => if (FVal.isNan w.2 && !(FVal.isNan v.2)) || FVal.lt w.2 v.2 ||
        (!(FVal.lt v.2 w.2) && decide (FVal.isNan v.2 = FVal.isNan w.2) && decide (v.1 < w.1)) then some v else some w) none
  let rec_ := (List.range k).foldl (fun (st : List (Nat × FVal) × List Byte) _ =>
    match best st.1 with
    | none => (st.1, st.2 ++ noCandidate)
    | some v => (st.1.erase v, st.2 ++ leBytes 4 (toF32 v.2) ++ leBytes 4 v.1)) (order, [])
  rec_.2

/-- The whole list that a sender has given, when every piece is held; an edge member's under STAGE 0 or Ah. DEDUCED, log entry 148. -/
def listFrom (s : State) (o : Op) (src : Nat) : Option (List Byte) :=
  let ch := grpChunk s o.group
  let total := o.rows * o.cols * 8
  let ps := (List.range (ceilDiv total ch)).map (fun k => (copyOf o 10 k src).orElse (fun _ => copyOf o 0 k src))
  if ps.all (fun p => p.isSome) then some (ps.flatMap (fun p => (p.map (fun c => c.data)).getD [])) else none

/-- The lists that stage `st` of a SELECT merges, once all are held. -/
def selectInputs (s : State) (o : Op) (st : Nat) : Option (List (List Byte)) :=
  let g := o.group
  if st = 0 then
    let edges := (edgePorts s g).map (fun p => listFrom s o (myChip s * 16 + p))
    match o.own with
    | none => none
    | some own => if edges.all (fun e => e.isSome) then some (own :: edges.filterMap id) else none
  else
    match sumOf o (prevStage s g st) 0 with
    | none => none
    | some part =>
      let ins := (List.range (grpLen s g (st - 1))).map (fun i =>
        if i = ringIndex s g (st - 1) then some part.data else listFrom s o (peerChip s g (st - 1) i * 16 + 8))
      if ins.all (fun e => e.isSome) then some (ins.filterMap id) else none

/-- Merge a stage of a SELECT and send the list on, or land it. -/
def selectMerge (id st : Nat) (lists : List (List Byte)) (s : State) : State :=
  match s.opById id with
  | none => s
  | some o =>
    let g := o.group
    let k := o.cols
    let out := (List.range o.rows).flatMap (fun r => mergeCandidates k (lists.map (fun l => pieceOf (8 * k) r l)))
    let s := modOp id (fun p => { p with sums := p.sums ++ [Sum.mk st 0 0 out true true 0 true] }) s
    match nextStage s g st with
    | some nx =>
      let ch := grpChunk s g
      sendAll id (((List.range (grpLen s g (nx - 1))).filter (fun i => decide (i ≠ ringIndex s g (nx - 1)))).flatMap (fun i =>
        (List.range (ceilDiv out.length ch)).map (fun c =>
          Send.mk 10 (peerChip s g (nx - 1) i) 8 c tyColContrib 0 (pieceOf ch c out)))) s
    | none =>
      let s := forEach (fun r s =>
        let cs := chunksOf 8 k (pieceOf (8 * k) r out)
        storeRow (o.desc 3) r (packCodes 32 (cs.map (fun c => leAt c 4 4)), [])
          (storeRow (o.desc 0) r (encodeVals (Desc.fmt (o.desc 0)) (cs.map (fun c => f32 (leAt c 0 4)))) s)) (List.range o.rows) s
      let s := modOp id (fun p => { p with done := p.done ++ [Done.mk 0 [0] true true] }) s
      settleOp id (s.modCtr o.ctr (Ctr.land false))

/-! The tensor output reaches the engine (R274, R324). -/

/-- EXCHANGE: block j of this chip's output goes to member j, the own block lands last (R344). -/
def exchangeOut (id : Nat) (own : List Byte) (s : State) : State :=
  match s.opById id with
  | none => s
  | some o =>
    let g := o.group
    let ch := grpChunk s g
    let pos := grpBasepos s g
    let n := max 1 (grpNmem s g)
    let per := o.perMember s
    let len := rowLen false o.fmt (o.cols / n)
    let block := fun (j : Nat) => (List.range o.rows).flatMap (fun r =>
      let packed := (o.cols * elemBits o.fmt + 7) / 8
      let row := pieceOf o.rowLen r own
      let e := (o.cols / n) * elemBits o.fmt / 8
      (row.drop (j * e)).take e ++ ((row.drop (packed + j * (o.cols / n) / 32)).take (len - e)))
    let mine := fun (j : Nat) => decide (memberAt s g j = (myChip s, 8))
    let s := forEach (fun j s =>
      let m := memberAt s g j
      sendAll id ((List.range per).map (fun k =>
        Send.mk (if m.2 = 8 then 4 else 7) m.1 m.2 (pos * per + k) tyColResult 0 (pieceOf ch k (block j)))) s)
      ((List.range n).filter (fun j => !(mine j))) s
    forEach (fun j s => forEach (fun k s => finalChunk id (pos * per + k) (pieceOf ch k (block j)) true s) (List.range per) s)
      ((List.range n).filter mine) s

/-- This chip's output is whole: its chunks enter their path. -/
def feedOp (id : Nat) (own : List Byte) (present : List Bool) (s : State) : State :=
  let s := modOp id (fun p => { p with own := some own, present := present }) s
  match s.opById id with
  | none => s
  | some o =>
    let g := o.group
    let ch := grpChunk s g
    let pos := grpBasepos s g
    let per := o.perMember s
    if o.xmode = Isa.xGATHER then
      forEach (fun k s => gatherHere id (pos * per + k) (ringIndex s g) none (pieceOf ch k own) s) (List.range per) s
    else if o.xmode = Isa.xBROADCAST then
      (if pos = 0 then forEach (fun k s => gatherHere id k (ringIndex s g) none (pieceOf ch k own) s) (List.range per) s else s)
    else if o.xmode = Isa.xEXCHANGE then exchangeOut id own s
    else if o.xmode = Isa.xROUTE then routeStart id s
    else if o.xmode = Isa.xMERGE then mergeStart id s
    else s

/-! Frames of an operation that is issued here. -/

/-- A copy is covered by a VERIFIED frame, also one that has not arrived. -/
def coverCopy (id stage src k : Nat) (s : State) : State :=
  let same := fun (x : Copy) => decide (x.stage = stage ∧ x.chunk = k ∧ x.src = src)
  let cover := fun (l : List Copy) =>
    if l.any same then l.map (fun x => if same x then { x with covered := true } else x) else l ++ [Copy.mk stage k src 0 [] true]
  modOp id (fun p => { p with copies := cover p.copies }) s

/-- VERIFIED covers the copies of a sender's chunks (R348). DEDUCED, log entry 73. -/
def coverCopies (id stage src first last : Nat) (s : State) : State :=
  let ks := (List.range (last + 1 - first)).map (fun i => first + i)
  coverChunks id ks (forEach (coverCopy id stage src) ks s)

/-- RELEASE lets frames of a STAGE go to a receiver; the count is of 16 bits and rises (R338). DEDUCED, log entry 71. -/
def takeRelease (id stage src n : Nat) (s : State) : State :=
  let key := stage * 65536 + src
  let s := modOp id (fun p =>
    let old := Tab.get (fun _ => 0) p.released key
    { p with released := Tab.set (fun _ => 0) p.released key (old + (n + 65536 - old % 65536) % 65536) }) s
  (flushSends id s).modCol (fun c => { c with ops := c.ops.filter (fun p => !(p.ended && p.sends.isEmpty)) })

/-- A COL_CTRL frame of an operation (Table 11-4). -/
def takeCtrlFrame (id : Nat) (f : Frame) (s : State) : State :=
  match s.opById id with
  | none => s
  | some o =>
    let bs := f.payload
    let src := Frame.src f * 16 + Frame.srcPort f
    let n := o.perMember s
    if Frame.op f = 1 then
      (if leAt bs 0 2 < n then retractCopy id (leAt bs 2 1) (leAt bs 0 2) src (leAt bs 3 1) s else s)
    else if Frame.op f = 2 then coverCopies id (leAt bs 4 1) src (leAt bs 0 2) (min (leAt bs 2 2) (n - 1)) s
    else if Frame.op f = 3 then takeRelease id (leAt bs 2 1) src (leAt bs 0 2) s
    else settleRoute id (modOp id (fun p => { p with counts := p.counts ++ [(boxIndexOf s o.group (Frame.src f), leAt bs 0 4)] }) s)

/-- A gathered chunk's arrival is remembered, for its RELEASE and its circuit's stream. -/
def noteSender (id st k src : Nat) (s : State) : State :=
  reportOwn id st src (modOp id (fun p => { p with copies := p.copies ++ [Copy.mk st k src 0 [] false] }) s)

/-- Bytes of one member's part of an operation: a contribution, a block of EXCHANGE, a candidate list. -/
def partBytes (s : State) (o : Op) : Nat :=
  if o.xmode = Isa.xEXCHANGE then o.bytes / max 1 (grpNmem s o.group)
  else if o.xmode = Isa.xSELECT then o.rows * o.cols * 8
  else o.bytes

/-- The bytes of chunk k without the padding of its frame (R335). -/
def chunkData (s : State) (o : Op) (k : Nat) (payload : List Byte) : List Byte :=
  let ch := grpChunk s o.group
  payload.take (min ch (partBytes s o - k % max 1 (ceilDiv (partBytes s o) ch) * ch))

/-- A frame of an issued operation: the signature check of R361, then its path. -/
def takeColFrame (id : Nat) (f : Frame) (s : State) : State :=
  match s.opById id with
  | none => s
  | some o =>
    if Frame.type f = tyColCtrl then takeCtrlFrame id f s else
    let g := o.group
    let st := Frame.op f % 16
    let rev := Frame.op f / 16
    let k := Frame.addr f % 65536
    let sig := Frame.addr f / 65536
    let src := Frame.src f * 16 + Frame.srcPort f
    let bs := if st = 8 ∨ st = 9 then f.payload else chunkData s o k f.payload
    if sig ≠ o.sig then abortOp o Err.colMismatch (positionOf s g (Frame.src f) (Frame.srcPort f)) o.sig sig s
    else if st = 8 then
      settleRoute id (routeHold id (leAt bs 0 2) (leAt bs 2 2) (leAt bs 4 2) k (bs.drop 16) s)
    else if st = 9 then
      (if boxChipAt s g (leAt bs 0 2) = myChip s then mergeTake id (leAt bs 2 2) (leAt bs 4 2) k (bs.drop 16) s
       else sendColFrame o (Send.mk 9 (boxChipAt s g (leAt bs 0 2)) 8 k tyColContrib 0 bs) s)
    else if 4 ≤ st ∧ st ≤ 6 then
      let s := noteSender id st k src s
      if o.xmode = Isa.xEXCHANGE then finalChunk id k bs true s else gatherHere id k (gatherSource s o k) (some (6 - st)) bs s
    else if st = 0 ∧ o.xmode = Isa.xGATHER then
      let s := noteSender id st k src s
      gatherHere id (positionOf s g (Frame.src f) (Frame.srcPort f) * o.perMember s + k) (ringIndex s g) none bs s
    else if st = 0 ∧ o.xmode = Isa.xEXCHANGE then
      let per := max 1 (o.perMember s)
      let j := k / per
      let m := memberAt s g j
      let idx := positionOf s g (Frame.src f) (Frame.srcPort f) * per + k % per
      let s := noteSender id st k src s
      if m = (myChip s, 8) then finalChunk id idx bs true s
      else sendAll id [Send.mk (if m.2 = 8 then 4 else 7) m.1 m.2 idx tyColResult 0 bs] s
    else if o.xmode = Isa.xSELECT then reportOwn id st src (storeCopy id (Copy.mk st k src rev bs false) s)
    else if k < o.perMember s then storeCopy id (Copy.mk st k src rev bs false) s
    else s

/-! The aside path (R357, R358, R360). -/

def asideVals (s : State) (g n phase : Nat) : List AsideVal :=
  s.col.aside.filter (fun v => decide (v.group = g ∧ v.opseq = n ∧ v.phase = phase))

/-- Combine values in order, with the saturating additions (R330); CURTAIN has none. ARGMAX takes pairs (R327). -/
def combineAside (xop f : Nat) (l : List (List Byte)) : List Byte × Nat :=
  if xop = 6 then
    let better := fun (a b : List Byte) =>
      let x := f32 (leAt a 0 4)
      let y := f32 (leAt b 0 4)
      (FVal.isNan x && !(FVal.isNan y)) || FVal.lt x y || (!(FVal.lt y x) && decide (FVal.isNan x = FVal.isNan y) && decide (leAt b 4 4 < leAt a 4 4))
    (match l with
    | [] => []
    | x :: t => t.foldl (fun acc v =>
        (List.zipWith (fun a b => if better a b then b else a) (chunksOf 8 (acc.length / 8) acc) (chunksOf 8 (v.length / 8) v)).flatten) x, 0)
  else combineChunks false xop f (l.map (fun v => (v, fun _ => true)))

/-- The values of a phase in canonical order, when all are held: phase 0 the own and edge values, phases 1 to 3 the ring's. -/
def asidePhase (s : State) (o : Op) (phase : Nat) : Option (List (List Byte)) :=
  let vs := asideVals s o.group o.opseq phase
  let want := if phase = 0 then 0 :: (edgePorts s o.group).map (fun p => p + 1) else List.range (grpLen s o.group (phase - 1))
  let got := want.map (fun i => (vs.find? (fun v => decide (v.index = i))).map (fun v => v.data))
  if got.all (fun x => x.isSome) then some (got.filterMap id) else none

def depositAside (v : AsideVal) (s : State) : State := s.modCol (fun c => { c with aside := c.aside ++ [v] })

/-- ASIDE data without the padding of its frame. -/
def asideLen (o : Op) : Nat := if Isa.opc o.w = Isa.oASIDE then Desc.packedBytes (o.desc 1) else 0

/-- The value of this chip starts along an axis in both directions (R358). -/
def startAxis (o : Op) (a : Nat) (data : List Byte) (s : State) : State :=
  let g := o.group
  let i := ringIndex s g a
  let n := grpLen s g a
  let ring := decide (n = ringSize s a)
  let s := depositAside (AsideVal.mk g o.opseq (a + 1) i o.sig data) s
  let s := if ring ∨ i + 1 < n then sendAsidePath (8 + 2 * a) g o.opseq o.sig i ((2 + 2 * a) * 16 + Isa.xop o.w) (padTo (round32 data.length / 16 * 16) data) s else s
  if (ring ∧ 2 < n) ∨ (ring = false ∧ 0 < i) then
    sendAsidePath (9 + 2 * a) g o.opseq o.sig i ((3 + 2 * a) * 16 + Isa.xop o.w) (padTo (round32 data.length / 16 * 16) data) s
  else s

/-- The whole group has been combined: land, answer the edge members, end. -/
def finishAside (o : Op) (data : List Byte) (s : State) : State :=
  let s := if Isa.opc o.w = Isa.oASIDE then spWrite (Desc.base (o.desc 0)) data s else s
  let s := forEach (fun p s => sendAsidePath p o.group o.opseq o.sig 0 (16 + Isa.xop o.w) (padTo (round32 data.length / 16 * 16) data) s) (edgePorts s o.group) s
  let s := s.modCol (fun c => { c with aside := c.aside.filter (fun v => !(decide (v.group = o.group ∧ v.opseq = o.opseq))) })
  endOp o (s.modCtr o.ctr (Ctr.land false))

/-- Run the phases that are complete; the fuel bounds the phases. -/
def runAside (o : Op) : Nat → Nat → State → State
  | 0, _, s => s
  | fuel + 1, phase, s =>
    match asidePhase s o phase with
    | none => s
    | some vs =>
      let r := if Isa.opc o.w = Isa.oASIDE then combineAside (Isa.xop o.w) o.fmt (vs.map (fun v => v.take (asideLen o))) else ([], 0)
      let data := r.1
      let s := s.addFld Reg.colIntSat r.2
      match nextStage s o.group phase with
      | none => finishAside o data s
      | some nx =>
        let begun := (asideVals s o.group o.opseq nx).any (fun v => decide (v.index = ringIndex s o.group (nx - 1)))
        let s := if begun then s else startAxis o (nx - 1) data s
        runAside o fuel nx s

/-- A travelling value is relayed onward unless its way ends here (R358). -/
def relayAside (f : Frame) (s : State) : State :=
  let g := Frame.group f
  let dir := Frame.op f / 16 - 2
  let a := dir / 2
  let n := max 1 (grpLen s g a)
  let i := ringIndex s g a
  let from_ := Frame.addr f % 65536
  let ring := decide (n = ringSize s a)
  let plus := decide (dir % 2 = 0)
  let hops := if plus then (i + n - from_ % n) % n else (from_ % n + n - i) % n
  let more := if ring then (if plus then decide (hops < n / 2) else decide (hops < (n - 1) / 2))
    else (if plus then decide (i + 1 < n) else decide (0 < i))
  if more then
    sendAsidePath (8 + dir) g (Frame.seq f) (Frame.addr f / 65536) from_ (Frame.op f) f.payload s
  else s

/-! Ends from outside. -/

/-- Abort every operation of the groups that a link's loss reaches (R363): an edge member's link, or a box peer across it. -/
def memberLost (l : Nat) (s : State) : State :=
  forEach (fun (o : Op) s =>
    if o.ended then s
    else if l < 8 then
      (if l ∈ edgePorts s o.group then abortOp o Err.colMemberLost (positionOf s o.group (myChip s) l) 0 0 s else s)
    else if l ∈ boxPorts s o.group then abortOp o Err.colMemberLost (positionOf s o.group (neighbour s l) 8) 0 0 s
    else s) s.col.ops s

/-- Positions whose input to a sum this chip still lacks: an edge member's chunk, or a partial of a ring peer or, under LONG, of the
predecessor. -/
def lackedSums (s : State) (o : Op) : List Nat :=
  let g := o.group
  let open_ := (List.range (o.perMember s)).filter (fun k =>
    chipNeeds s o (myChip s) k && !(o.done.any (fun d => decide (d.chunk = k) && d.confirmed)))
  let owns := fun (a k : Nat) => (liveAxes s g).all (fun b => decide (a ≤ b) || decide (chainPlace s g b k + 1 = grpLen s g b))
  open_.flatMap (fun k =>
    ((edgePorts s g).filter (fun p => (copyOf o 0 k (myChip s * 16 + p)).isNone)).map (positionOf s g (myChip s)) ++
    (liveAxes s g).flatMap (fun a =>
      if grpSched s g = schedLong ∧ (chainPlace s g a k = 0 ∨ owns a k = false) then []
      else ((axisSenders s g a false).map (peerChip s g a)).filterMap (fun c =>
        if (copyOf o (a + 1) k (c * 16 + 8)).isSome then none else some (positionOf s g c 8))))

/-- Positions of members whose chunks this chip lacks and who send here themselves: its own edge members, and chips that send to it. -/
def lackedMembers (s : State) (o : Op) : List Nat :=
  let g := o.group
  let chips := (sendersOf s o).map (fun x => x.2.1)
  let per := max 1 (o.perMember s)
  let lacks := fun (c : Nat) => !(o.done.any (fun d => decide (d.chunk = c)))
  let js : List (Nat × Nat) := if o.xmode = Isa.xROUTE then
      ((List.range (boxSize s g)).filter lacks).map (fun b => (boxChipAt s g b, 8))
    else if o.xmode = Isa.xMERGE then ((List.range (grpNmem s g)).filter lacks).map (memberAt s g)
    else if o.xmode = Isa.xBROADCAST then (if (List.range per).any lacks then [memberAt s g 0] else [])
    else ((List.range (grpNmem s g)).filter (fun j => (List.range per).any (fun k => lacks (j * per + k)))).map (memberAt s g)
  js.filterMap (fun (m : Nat × Nat) =>
    if (m.1 = myChip s ∧ m.2 < 8) ∨ (m.1 ≠ myChip s ∧ m.2 = 8 ∧ (o.xmode = Isa.xROUTE ∨ o.xmode = Isa.xMERGE ∨ m.1 ∈ chips)) then
      some (positionOf s g m.1 m.2) else none)

/-- Positions whose candidate lists or aside values this chip lacks. -/
def lackedLists (s : State) (o : Op) : List Nat :=
  let g := o.group
  let aside := fun (phase index : Nat) => (asideVals s g o.opseq phase).any (fun v => decide (v.index = index))
  ((edgePorts s g).filter (fun p =>
    if o.isAside then !(aside 0 (p + 1)) else (listFrom s o (myChip s * 16 + p)).isNone)).map (positionOf s g (myChip s)) ++
  (liveAxes s g).flatMap (fun a => (axisSenders s g a true).filterMap (fun i =>
    let c := peerChip s g a i
    if (if o.isAside then aside (a + 1) i else (listFrom s o (c * 16 + 8)).isSome) then none else some (positionOf s g c 8)))

/-- The lowest position whose input this chip still lacks, FFFFh when none of its direct senders owes one (R362). DEDUCED, log
entry 149. -/
def missingPosition (s : State) (o : Op) : Nat :=
  let all := if o.isAside ∨ o.xmode = Isa.xSELECT then lackedLists s o
    else if o.xmode = Isa.xREDUCE ∨ o.xmode = Isa.xSCATTER then lackedSums s o
    else lackedMembers s o
  all.foldl min 0xFFFF

end Sys2Proof.Machine
end

