-- ==== Sys2Proof/Machine/Board.lean ====
section
/-! DEFINITION. The Call Board, the command intake, the output stages, the journal and the checkpoint store (R367 to R387). -/
namespace Sys2Proof.Machine

def State.modBoard (s : State) (f : Board → Board) : State := { s with board := f s.board }

/-- A Prompter at the Call Board. -/
def State.prompter (s : State) (w : Who) : Prompter := Tab.get (fun _ => Prompter.init) s.board.prompters w.idx

def State.modPrompter (s : State) (w : Who) (f : Prompter → Prompter) : State :=
  s.modBoard (fun b => { b with prompters := Tab.set (fun _ => Prompter.init) b.prompters w.idx (f (s.prompter w)) })

/-! Prompter states (Table 12-2). -/

def psOff : Nat := 0
def psBoot : Nat := 1
def psSync : Nat := 2
def psUnderstudy : Nat := 3
def psActive : Nat := 4
def psFailed : Nat := 5
def psHeldOff : Nat := 6

def prompterState (s : State) (w : Who) : Nat := s.fld (Reg.cbState w.idx)
def setPrompter (w : Who) (st : Nat) (s : State) : State := s.setFld (Reg.cbState w.idx) st

/-- The ACTIVE Prompter, if any. -/
def activePrompter (s : State) : Option Who :=
  if prompterState s .a = psActive then some .a else if prompterState s .b = psActive then some .b else none

/-- The rail of a Prompter is good. -/
def prompterRail (s : State) (w : Who) : Bool := s.flag (Reg.rail (1 + w.idx))

/-! The intake (R367). -/

/-- The understudy's MARK, from which the intake keeps every input (R381). -/
def neededFrom (s : State) : Option Nat :=
  if prompterState s .a = psUnderstudy ∨ prompterState s .b = psUnderstudy then some s.board.adoptSeq else none

/-- The log is full of entries still needed. -/
def intakeFull (s : State) : Bool :=
  match neededFrom s with
  | none => false
  | some m => decide (4096 ≤ s.fld Reg.cmdSeq - m)

/-- A Prompter that takes inputs: not OFF, FAILED or HELD_OFF. -/
def takesInputs (s : State) (w : Who) : Bool :=
  let st := prompterState s w
  decide (st ≠ psOff ∧ st ≠ psFailed ∧ st ≠ psHeldOff)

/-- A copy of the checkpoint store starts (R381, R382), unless one is in progress; it takes the LAST_SEQ values and the MARK now. -/
def startCheckpoint (s : State) : State :=
  match activePrompter s, s.board.copying with
  | none, _ => s
  | some _, some _ => s.modBoard (fun b => { b with due := true })
  | some _, none =>
    let lasts := (List.range 8).map (fun k => s.fld (Reg.osLast k))
    let number := (Tab.get (fun _ => Checkpoint.init) s.board.bufs s.board.lastBuf).number + 1
    let c := Checkpoint.mk number (s.fld Reg.cmdSeq) lasts [] false 0 s.board.applied
    s.modBoard (fun b => { b with
      copying := some (s.now, c), startedAt := s.now, due := false, markSeq := c.mark, markApplied := c.applied })

/-- R382: more than 4,096 inputs or writes since the adopted MARK put an understudy into SYNC; 2,048 of either start a
checkpoint. -/
def noteVolume (s : State) : State :=
  let beyond := decide (4096 < s.fld Reg.cmdSeq - s.board.adoptSeq ∨ 4096 < s.board.applied - s.board.adoptApplied)
  let drop (w : Who) (s : State) : State := if prompterState s w = psUnderstudy ∧ beyond then setPrompter w psSync s else s
  let dropped := beyond && decide (prompterState s .a = psUnderstudy ∨ prompterState s .b = psUnderstudy)
  let s := drop .b (drop .a s)
  if dropped ∨ 2048 ≤ s.fld Reg.cmdSeq - s.board.markSeq ∨ 2048 ≤ s.board.applied - s.board.markApplied then startCheckpoint s else s

/-- Deliver an input with the next CMD_SEQ to every Prompter that takes inputs, and log it. -/
def admitOne (i : Input) (s : State) : State :=
  let s := s.count Reg.cmdSeq
  let n := s.fld Reg.cmdSeq
  let log := s.board.log ++ [(n, i)]
  let s := s.modBoard (fun b => { b with log := log.drop (log.length - 4096) })
  let give (w : Who) (s : State) : State :=
    if takesInputs s w then s.modBoard (fun b => { b with delivered := Tab.set (fun _ => 0) b.delivered w.idx n }) else s
  noteVolume (give .b (give .a s))

/-- An input enters the intake, or waits at its source when the log is full of entries still needed (R367). -/
def intake (i : Input) (s : State) : State :=
  if intakeFull s ∨ s.board.waiting ≠ [] then s.modBoard (fun b => { b with waiting := b.waiting ++ [i] }) else admitOne i s

/-- Inputs that waited enter as room allows; the fuel is their number. -/
def admitWaiting : Nat → State → State
  | 0, s => s
  | n + 1, s =>
    match s.board.waiting with
    | [] => s
    | i :: t => if intakeFull s then s else admitWaiting n (admitOne i (s.modBoard (fun b => { b with waiting := t })))

/-- The log needs no understudy's MARK any more, or a later one: inputs that waited enter. -/
def admitAll (s : State) : State := admitWaiting s.board.waiting.length s

/-! Decisions of the three lanes (R370). -/

/-- Take a decision as the lanes vote: by at least two lanes it takes effect, and a lane that disagrees is marked; with no two in
agreement the Call Board freezes. A frozen Call Board takes none. DESIGN CHOICE, log entry 50. -/
def decideBy (v : Votes) (act : State → State) (s : State) : State :=
  if s.flag Reg.cbFrozen then s
  else match v with
    | .agree => act s
    | .but l => ((act s).raise (Reg.laneFaulted l.val)).raise Reg.laneFault |>.count Reg.laneDisagree
    | .split => s.raise Reg.cbFrozen

/-! Output stages (R378 to R380). -/

/-- Enter an applied write in the journal: the newest 4,096 (R380). `off` is FFFF_FFFFh for a message. -/
def journal (k seq claim off value : Nat) (s : State) : State :=
  let held := s.fld Reg.journalHeld
  let oldest := s.fld Reg.journalOldest
  let j := (oldest + held) % 4096
  let s := if held < 4096 then s.setFld Reg.journalHeld (held + 1) else s.setFld Reg.journalOldest ((oldest + 1) % 4096)
  let s := s.setWord (Reg.journalWord j 0) (BitVec.ofNat 64 (seq % 2 ^ 32 + k * 2 ^ 32))
  let s := s.setWord (Reg.journalWord j 1) (BitVec.ofNat 64 (claim % 2 ^ 32 + s.now % 2 ^ 32 * 2 ^ 32))
  let s := s.setWord (Reg.journalWord j 2) (BitVec.ofNat 64 (off % 2 ^ 32))
  s.setWord (Reg.journalWord j 3) (BitVec.ofNat 64 value)

/-- The BAR0 offset and value by which a side effect is journalled. -/
def effectKey : SideEffect → Nat × Nat
  | .reg a bs => (a, leNat (bs.take 8))
  | .message bs => (0xFFFFFFFF, leNat (bs.take 8))
  | .mailSend _ bs => (0xFFFFFFFF, leNat (bs.take 8))
  | .mailPop c => (0xFFFFFFFF, c)
  | .semAcquire n => (0xFFFFFFFF, n)
  | .semRelease n => (0xFFFFFFFF, n)

/-- An accepted write of a stage: LAST_SEQ advances and the journal takes it (R378 rule 4). -/
def stageAccept (k : Nat) (e : SideEffect) (s : State) : State :=
  let seq := (s.fld (Reg.osLast k) + 1) % 2 ^ 32
  let s := s.setFld (Reg.osLast k) seq
  let key := effectKey e
  admitAll (noteVolume ((journal k seq (s.fld Reg.cbClaim) key.1 key.2 s).modBoard (fun b => { b with applied := b.applied + 1 })))

/-- How a stage judges a write (R378). -/
inductive StageVerdict where
  | claimLow
  | dup
  | gap
  | take
  deriving DecidableEq, Repr

def stageJudge (s : State) (k claim seq : Nat) : StageVerdict :=
  let cur := s.fld Reg.cbClaim
  let last := s.fld (Reg.osLast k)
  if cur = 0 ∨ claim ≠ cur ∨ (activePrompter s).isNone then .claimLow
  else
    let ahead := (seq + 2 ^ 32 - last) % 2 ^ 32
    if ahead = 0 ∨ 2 ^ 31 ≤ ahead then .dup
    else if ahead = 1 then .take
    else .gap

/-- A write of the ACTIVE Prompter that carries the next SEQ of its stage: what the firmware does in the course of a command. With no
Prompter ACTIVE nothing is accepted (R377). -/
def throughStage (k : Nat) (e : SideEffect) (act : State → State) (s : State) : State :=
  if (activePrompter s).isNone then s else act (stageAccept k e s)

/-! Claims (R374, R375). -/

/-- The newest journal entries, oldest first, as the first `n` from the last: index of entry i of those held. -/
def journalIndex (s : State) (i : Nat) : Nat := (s.fld Reg.journalOldest + i) % 4096

/-- A journal entry as (stage, SEQ, offset, value). -/
def journalEntry (s : State) (j : Nat) : Nat × Nat × Nat × Nat :=
  (field (s.word (Reg.journalWord j 0)) 32 3, field (s.word (Reg.journalWord j 0)) 0 32, field (s.word (Reg.journalWord j 2)) 0 32,
   (s.word (Reg.journalWord j 3)).toNat)

/-- Journal entries after the adopted MARK that differ from the Prompter's own write of the same stage and SEQ (R383). -/
def differences (s : State) (w : Who) : List (Nat × Nat × Nat × Nat) :=
  let held := s.fld Reg.journalHeld
  let since := min held (s.board.applied - s.board.adoptApplied)
  ((List.range since).map (fun i => journalEntry s (journalIndex s (held - since + i)))).filter (fun e =>
    (s.prompter w).writes.any (fun o => decide (o.1 = e.1 ∧ o.2.1 = e.2.1 ∧ effectKey o.2.2 ≠ e.2.2)))

/-- The write that a journal entry shows: a register write, or the first bytes of a message. -/
def effectOf (e : Nat × Nat × Nat × Nat) : SideEffect :=
  if e.2.2.1 = 0xFFFFFFFF then .message (leBytes 8 e.2.2.2) else .reg e.2.2.1 (leBytes 8 e.2.2.2)

/-- The warm takeover compares its writes with the journal's, which replace them (R383 step 1). -/
def reconcileWrites (w : Who) (s : State) : State :=
  let ds := differences s w
  let fix (o : Nat × Nat × SideEffect) : Nat × Nat × SideEffect :=
    match ds.find? (fun e => decide (e.1 = o.1 ∧ e.2.1 = o.2.1)) with
    | some e => (o.1, o.2.1, effectOf e)
    | none => o
  (s.addFld Reg.reconcile ds.length).modPrompter w (fun p => { p with writes := p.writes.map fix })

/-- The own writes that a Prompter sends again, stage by stage in SEQ order: those with SEQ above the stage's LAST_SEQ (R383 step 2). -/
def aheadWrites (s : State) (w : Who) : List (Nat × Nat × SideEffect) :=
  (List.range 8).flatMap (fun k =>
    (s.prompter w).writes.filter (fun o =>
      let ahead := (o.2.1 + 2 ^ 32 - s.fld (Reg.osLast k)) % 2 ^ 32
      decide (o.1 = k ∧ ahead ≠ 0 ∧ ahead < 2 ^ 31)))

/-- A warm takeover (R383). DEDUCED, log entry 54. -/
def takeWarm (w : Who) (s : State) : State :=
  let s := reconcileWrites w s
  s.modPrompter w (fun p => { p with resend := aheadWrites s w })

/-- A command input, which a reply answers: of the host, of the rack manager or a capsule. -/
def isCommand : Input → Bool
  | .host _ | .rack _ | .capsule _ => true
  | _ => false

/-- The journal holds the reply to an input: a message of stage 6 that answers it. -/
def repliedTo (s : State) (i : Input) : Bool :=
  (List.range (s.fld Reg.journalHeld)).any (fun j =>
    let e := journalEntry s (journalIndex s j)
    decide (e.1 = 6 ∧ e.2.2.1 = 0xFFFFFFFF) && Config.answers i e.2.2.2)

/-- A cold takeover answers each logged command whose reply is not in the journal with status RESTARTED (R385). UNVERIFIED, log
entry 176. -/
def takeCold (w : Who) (s : State) : State :=
  let open_ := (s.board.log.map Prod.snd).filter (fun i => isCommand i && !(repliedTo s i))
  let reply (i : Input) (s : State) : State :=
    let bs := Config.restartedReply i
    throughStage 6 (.message bs) (emit (.stageMessage bs)) s
  forEach reply open_ ((s.modPrompter w (fun p => { p with resend := [] })).raise Reg.evCold)

/-- Grant the next claim to a Prompter (R374, R375): warm from UNDERSTUDY, else cold (R385). DEDUCED, log entry 86. -/
def grant (w : Who) (s : State) : State :=
  if s.fld Reg.cbHighest = 0xFFFFFFFF ∨ s.flag Reg.cbFrozen then s
  else
    let was := prompterState s w
    let n := s.fld Reg.cbHighest + 1
    let s := if s.fld Reg.takeovers = 0 then s.modBoard (fun b => { b with activeAt := s.now }) else s
    let s := (s.setFld Reg.cbHighest n).setFld Reg.cbClaim n
    let s := if n = 0xFFFFFFFF then s.raise Reg.cbExhausted else s
    let s := emit (.prompterCall w) ((setPrompter w psActive s).count Reg.takeovers)
    admitAll (if was = psUnderstudy then takeWarm w s else takeCold w s)

/-- No Prompter is ACTIVE (R375, R377). -/
def orphaned (s : State) : State := if (activePrompter s).isNone then (s.setFld Reg.cbClaim 0).raise Reg.orphan else s

/-- One hour of house-clock periods. -/
def ticksHour : Nat := 3600 * 1000 * ticksPerMs

/-- A Prompter is declared FAILED (R373, R374, R376). DEDUCED, log entry 49. -/
def declareFailed (w : Who) (s : State) : State :=
  let was := prompterState s w
  let p := s.prompter w
  let recent := p.fails.filter (fun t => decide (s.now < t + ticksHour)) ++ [s.now]
  let s := s.modPrompter w (fun q => { q with beat := false, missed := 0, fails := recent })
  let s := setPrompter w (if 3 ≤ recent.length then psHeldOff else psFailed) s
  let s := if s.board.handover.isSome then (s.modBoard (fun b => { b with handover := none })).setFld Reg.handoverResult 4 else s
  if was = psActive then
    let s := s.modBoard (fun b => { b with copying := none, due := false })
    let o := w.other
    if prompterState s o = psSync ∨ prompterState s o = psUnderstudy then
      let s := grant o s
      if (activePrompter s).isSome then s.raise Reg.evTakeover else orphaned s
    else orphaned s
  else if was = psSync ∨ was = psUnderstudy then admitAll (s.raise Reg.understudyLost)
  else s

/-- A Prompter that has completed BOOT joins (R372): ACTIVE by a cold takeover when none is ACTIVE, else into SYNC with a checkpoint
started. DEDUCED, log entry 91. -/
def joinPrompter (w : Who) (s : State) : State :=
  let s := s.modPrompter w (fun p => { p with beat := true, missed := 0, writes := [], resend := [] })
  if (activePrompter s).isNone then orphaned (grant w s)
  else startCheckpoint (setPrompter w psSync s)

/-- A Prompter that beats: SYNC, UNDERSTUDY or ACTIVE (R373). -/
def beats (s : State) (w : Who) : Bool := decide (psSync ≤ prompterState s w ∧ prompterState s w ≤ psActive)

/-- House-clock periods of a heartbeat window: 100 µs, aligned to PRM_TIME (R373). -/
def beatWindow : Nat := 2500

/-- A heartbeat window of one Prompter ends: whether it is to be declared FAILED, with the window counted. -/
def endWindow (w : Who) (s : State) : Bool × State :=
  if !(beats s w) then (false, s)
  else
    let p := s.prompter w
    if p.beat then (false, s.modPrompter w (fun q => { q with beat := false, missed := 0 }))
    else (decide (3 ≤ p.missed + 1), s.modPrompter w (fun q => { q with missed := q.missed + 1 }))

/-- Keep a Prompter's own write: its newest 4,096 (R383). -/
def keepWrite (w : Who) (k seq : Nat) (e : SideEffect) (s : State) : State :=
  s.modPrompter w (fun p =>
    let l := p.writes ++ [(k, seq, e)]
    { p with writes := l.drop (l.length - 4096) })

/-! Checkpoints (R381, R382). -/

/-- The bytes of a header with the digest field zeroed: NUMBER, MARK, LAST_SEQ of each stage, LENGTH, COMPLETE, padding to 256 (the
places are the model's, log entry 16). -/
def headerBytes (c : Checkpoint) : List Byte :=
  padTo 256 (leBytes 8 c.number ++ leBytes 8 c.mark ++ c.lasts.flatMap (leBytes 4) ++ leBytes 8 c.body.length ++
    leBytes 1 (if c.complete then 1 else 0))

/-- The digest of a checkpoint. -/
def checkpointDigest (c : Checkpoint) : BitVec 512 := Config.sha3 (headerBytes c ++ c.body)

/-- The body of a checkpoint is at most 4 MiB less its header. -/
def maxBody : Nat := 4 * 2 ^ 20 - 256

/-- The copy in progress completes with its body: COMPLETE and the digest are written last. -/
def finishCheckpoint (body : List Byte) (s : State) : State :=
  match s.board.copying with
  | none => s
  | some (_, c) =>
    let c := { c with body := body, complete := true }
    let c := { c with digest := checkpointDigest c }
    let buf := 1 - s.board.lastBuf
    let s := s.modBoard (fun b => { b with bufs := Tab.set (fun _ => Checkpoint.init) b.bufs buf c, lastBuf := buf, copying := none })
    let s := s.setFld Reg.ckptLast c.number
    if s.board.due then startCheckpoint s else s

/-- NUMBER of the next checkpoint to start. -/
def nextNumber (s : State) : Nat := (Tab.get (fun _ => Checkpoint.init) s.board.bufs s.board.lastBuf).number + 1

/-- The copy in progress is abandoned after 20 ms; a handover takes another. -/
def abandonCheckpoint (s : State) : State :=
  let s := (s.modBoard (fun b => { b with copying := none })).raise Reg.ckptFail
  let s := s.modBoard (fun b => { b with handover := b.handover.map (fun _ => nextNumber s) })
  if s.board.due ∨ s.board.handover.isSome then startCheckpoint s else s

/-- The last complete checkpoint, if its digest verifies. DEDUCED, log entry 92. -/
def goodCheckpoint (s : State) : Option Checkpoint :=
  let c := Tab.get (fun _ => Checkpoint.init) s.board.bufs s.board.lastBuf
  if c.complete ∧ c.digest = checkpointDigest c then some c else none

/-- A Prompter adopts a checkpoint, executes the inputs after its MARK and enters UNDERSTUDY (R382). A handover that waits for it then
grants it the next claim (R387). -/
def adoptCheckpoint (w : Who) (c : Checkpoint) (s : State) : State :=
  let s := s.modBoard (fun b => { b with adoptSeq := c.mark, adoptApplied := c.applied })
  let s := (setPrompter w psUnderstudy s).setFld Reg.ckptAdopt c.number
  let s := if (s.board.handover.map (fun n => decide (n ≤ c.number))).getD false then
      let s := s.modBoard (fun b => { b with handover := none })
      if s.flag Reg.cbFrozen ∨ s.fld Reg.cbHighest = 0xFFFFFFFF then s.setFld Reg.handoverResult 4 else
      let s := match activePrompter s with
        | some o => setPrompter o psSync s
        | none => s
      ((startCheckpoint (grant w s)).setFld Reg.handoverResult 2).raise Reg.evPlanned
    else s
  admitAll s

end Sys2Proof.Machine
end

