-- ==== Sys2Proof/Machine/MailOps.lean ====
section
/-! DEFINITION. The mailboxes and the hardware semaphores (R388 to R403). A sender or receiver is a party code with a chip. -/
namespace Sys2Proof.Machine

def State.modMail (s : State) (f : Mail → Mail) : State := { s with mail := f s.mail }

/-- The queue of channel c in a direction: 0 from L to R, 1 from R to L. -/
def mailKey (c dir : Nat) : Nat := 2 * c + dir
def State.mailQ (s : State) (c dir : Nat) : List Msg := Tab.get (fun _ => []) s.mail.queues (mailKey c dir)
def State.setMailQ (s : State) (c dir : Nat) (q : List Msg) : State :=
  s.modMail (fun m => { m with queues := Tab.set (fun _ => []) m.queues (mailKey c dir) q })

/-! Parties (R388). -/

def ptHost : Nat := 0x00
def ptPrompter : Nat := 0x01
def ptEdge (p : Nat) : Nat := 0x10 + p
def ptRemote : Nat := 0x20

/-- The party and chip on a side of a channel: 0 L, 1 R. A chip is named only for a remote Prompter. -/
def sideOf (s : State) (c side : Nat) : Nat × Nat :=
  let p := if side = 0 then s.fld (Reg.partyL c) else s.fld (Reg.partyR c)
  (p, if p = ptRemote then (if side = 0 then s.fld (Reg.chipL c) else s.fld (Reg.chipR c)) else 0)

/-- The sender and the receiver of a direction. -/
def senderOf (s : State) (c dir : Nat) : Nat × Nat := sideOf s c dir
def receiverOf (s : State) (c dir : Nat) : Nat × Nat := sideOf s c (1 - dir)

/-- The direction in which a party sends on a channel, when it is a side. -/
def dirFrom (s : State) (c : Nat) (p : Nat × Nat) : Option Nat :=
  if sideOf s c 0 = p then some 0 else if sideOf s c 1 = p then some 1 else none

/-- The party of a frame's source: an edge endpoint of this chip or the Prompter of another. -/
def frameParty (s : State) (f : Frame) : Option (Nat × Nat) :=
  if Frame.src f = myChip s then (if Frame.srcPort f < 8 then some (ptEdge (Frame.srcPort f), 0) else none)
  else if Frame.srcPort f = 8 then some (ptRemote, Frame.src f)
  else none

/-- A fabric party: reached by frames. -/
def isFabric (p : Nat × Nat) : Bool := decide (0x10 ≤ p.1)

/-- Address of a fabric party: its chip and DEST_PORT. -/
def partyAddr (s : State) (p : Nat × Nat) : Nat × Nat := if p.1 = ptRemote then (p.2, 8) else (myChip s, p.1 - 0x10)

/-- A party's reset generation as this chip keeps it (R396). -/
def generationOf (s : State) (p : Nat) : Nat :=
  if p = ptHost then s.fld Reg.genHost
  else if p = ptPrompter then s.fld Reg.genPrm
  else if p < ptRemote then s.fld (Reg.genEdge (p - 0x10))
  else 0

/-- Powered-down domains (R395). -/
def prompterDown (s : State) : Bool := (activePrompter s).isNone
def hostPortDown (s : State) : Bool := s.house.perst || decide (s.fld Reg.hostMode = 0)

/-! Frames of the mailbox (Table 12-6). -/

def opNotice : Nat := 0xA0
def opSemAcq : Nat := 0xA1
def opSemRel : Nat := 0xA2
def opUnsupported : Nat := 0xFE

def ntAck : Nat := 1
def ntFull : Nat := 2
def ntNoChannel : Nat := 3
def ntLenBad : Nat := 4
def ntAborted : Nat := 5
def ntEmpty : Nat := 7

/-- A MGMT answer to a frame, with its TAG and SEQ. -/
def mgmtAnswer (s : State) (f : Frame) (op : Nat) (payload : List Byte) : Frame :=
  mkFrame tyMgmt (Frame.src f) (Frame.srcPort f) (myChip s) 8 (Frame.tag f) (Frame.seq f) 0 0 op payload

/-- Payload of a NOTICE. -/
def mboxNotice (c kind seq : Nat) : List Byte := leBytes 1 c ++ leBytes 1 kind ++ leBytes 2 0 ++ leBytes 3 seq ++ List.replicate 9 0

/-- Queue a notice (R393): 512 places, 384 kept for ABORTED; one that finds no room is dropped and counted. -/
def queueNotice (aborted : Bool) (f : Frame) (s : State) : State :=
  let n := s.mail.notices.length
  let others := (s.mail.notices.filter (fun x => !x.1)).length
  if 512 ≤ n ∨ (¬ aborted ∧ 128 ≤ others) then
    if aborted then s else (s.count Reg.noticeLost).raise Reg.noticeLostEv
  else s.modMail (fun m => { m with notices := m.notices ++ [(aborted, f)] })

/-- The oldest waiting notice leaves (log entry 17: one each idle step). -/
def sendMboxNotice (s : State) : State :=
  match s.mail.notices with
  | [] => s
  | (_, f) :: t => sendFrame 0 f (s.modMail (fun m => { m with notices := t }))

/-- A notice to a fabric party that answers no frame. -/
def noticeTo (p : Nat × Nat) (c kind seq : Nat) (s : State) : State :=
  let a := partyAddr s p
  let r := takeSeq a.1 3 s
  queueNotice (decide (kind = ntAborted)) (mkFrame tyMgmt a.1 a.2 (myChip s) 8 0 r.1 0 0 opNotice (mboxNotice c kind seq)) r.2

/-! Delivery (R394). -/

/-- The MSG that carries the oldest message to a fabric receiver: the stamp is its prefix. -/
def msgFrame (s : State) (c dir seq : Nat) (m : Msg) : Frame :=
  let a := partyAddr s (receiverOf s c dir)
  let stamp := leBytes 2 m.data.length ++ leBytes 1 m.party ++ leBytes 1 0 ++ leBytes 2 m.chip ++ leBytes 2 m.gen ++ leBytes 3 m.seq ++
    leBytes 1 0 ++ leBytes 4 m.time
  mkFrame tyMgmt a.1 a.2 (myChip s) 8 0 seq 0 0 (0x80 + c) (stamp ++ m.data)

/-- Start to deliver the oldest message of a queue whose receiver is a fabric party. -/
def startDelivery (c dir : Nat) (s : State) : State :=
  match s.mailQ c dir with
  | [] => s
  | m :: _ =>
    if !(isFabric (receiverOf s c dir)) ∨ s.mail.out.any (fun d => decide (d.ch = c ∧ d.dir = dir)) then s
    else
      let r := takeSeq (partyAddr s (receiverOf s c dir)).1 3 s
      let s := r.2.modMail (fun k => { k with out := k.out ++ [Delivery.mk c dir r.1 0 s.now] })
      sendFrame 0 (msgFrame s c dir r.1 m) s

/-- Call a party by a channel's call settings (R400). -/
def callParty (c : Nat) (p : Nat × Nat) (i : Input) (s : State) : State :=
  if p.1 = ptHost then signalMsix (s.fld (Reg.chVec c)) s
  else if p.1 = ptPrompter then intake i s
  else s

/-- Put a message at the end of a queue and call its receiver (R389, R400). -/
def enqueueMsg (c dir : Nat) (m : Msg) (s : State) : State :=
  let q := s.mailQ c dir
  let s := s.setMailQ c dir (q ++ [m])
  let s := if s.flag (Reg.callEn c) ∧ q = [] then callParty c (receiverOf s c dir) (.mailCall c) s else s
  let s := if s.flag (Reg.dbEn c) then ringDoorbell (s.fld (Reg.chDoorbell c)) (m.data.length * 256 + c) s else s
  startDelivery c dir s

/-- The oldest message of a queue goes; an emptied queue notifies its sender under EMPTY_EN (R400). -/
def popMsg (c dir : Nat) (s : State) : State :=
  match s.mailQ c dir with
  | [] => s
  | m :: t =>
    let s := s.setMailQ c dir t
    let from_ := senderOf s c dir
    if t = [] ∧ s.flag (Reg.emptyEn c) then
      if isFabric from_ then noticeTo from_ c ntEmpty m.seq s else callParty c from_ (.mailEmpty c) s
    else startDelivery c dir s

/-- A message is discarded undelivered: its sender is told (R394, R397). -/
def abortMsg (c dir : Nat) (m : Msg) (s : State) : State :=
  let from_ := senderOf s c dir
  if isFabric from_ then noticeTo from_ c ntAborted m.seq s
  else if from_.1 = ptHost then s.satFld (Reg.chAborted c) 1
  else intake (.mailAborted c) s

/-! Sending. -/

/-- Results of a host or Prompter send (Table 12-8). -/
def txOk : Nat := 1
def txFull : Nat := 2
def txLenBad : Nat := 3
def txPoweredDown : Nat := 4
def txDisabled : Nat := 5

/-- Judge a send of `n` bytes by a local party (R390, R395): the direction, or why not. -/
def sendVerdict (s : State) (c : Nat) (p n : Nat) : Nat ⊕ Nat :=
  match dirFrom s c (p, 0) with
  | none => .inl txDisabled
  | some dir =>
    if !(s.flag (Reg.chEnable c)) then .inl txDisabled
    else if 1024 < n then .inl txLenBad
    else if c < 8 ∧ (if p = ptHost then prompterDown s else hostPortDown s) then .inl txPoweredDown
    else if 16 ≤ (s.mailQ c dir).length then .inl txFull
    else .inr dir

/-- Queue a message of the host or of the Prompter, stamped (R389). -/
def sendLocal (c dir p : Nat) (data : List Byte) (s : State) : State :=
  let n := Tab.get (fun _ => 0) s.mail.seqs (mailKey c dir)
  let m := Msg.mk p (myChip s) (generationOf s p) n (s.now % 2 ^ 32) data
  enqueueMsg c dir m (s.modMail (fun k => { k with seqs := Tab.set (fun _ => 0) k.seqs (mailKey c dir) ((n + 1) % 2 ^ 24) }))

/-- The bytes of a send window. -/
def windowBytes (s : State) (base n : Nat) : List Byte :=
  (List.range n).map (fun i => byteOf (s.word (base + i / 8 * 8)) (i % 8))

/-- The host sends the window's message (R390). -/
def hostSend (c n : Nat) (s : State) : State :=
  match sendVerdict s c ptHost n with
  | .inl code => s.setFld (Reg.lastTx c) code
  | .inr dir => (sendLocal c dir ptHost (windowBytes s (Reg.txWin c) n) s).setFld (Reg.lastTx c) txOk

/-- The Prompter sends through stage 6; what became of it returns through the intake when it is not queued. -/
def prompterSend (c : Nat) (data : List Byte) (s : State) : State :=
  match sendVerdict s c ptPrompter data.length with
  | .inl code => intake (.mailStatus c code) s
  | .inr dir => sendLocal c dir ptPrompter data s

/-- A local party pops the oldest message toward it. -/
def popFor (c p : Nat) (s : State) : State :=
  match dirFrom s c (p, 0) with
  | none => s
  | some dir => popMsg c (1 - dir) s

/-! A MSG frame (R391, R392). -/

/-- What the answer to a MSG says. -/
def msgVerdict (s : State) (f : Frame) : Nat ⊕ (Nat × Bool) :=
  let c := Frame.op f - 0x80
  let n := leAt f.payload 0 2
  match frameParty s f with
  | none => .inl ntNoChannel
  | some p =>
    match dirFrom s c p with
    | none => .inl ntNoChannel
    | some dir =>
      if c < 8 ∨ !(s.flag (Reg.chEnable c)) then .inl ntNoChannel
      else if 1024 < n ∨ Frame.len f ≠ 1 + ceilDiv n 16 then .inl ntLenBad
      else
        let key := p.2 * 64 + p.1
        let old := s.mail.lastIn.find? (fun x => decide (x.1 = key ∧ x.2.1 = c))
        match old with
        | some x =>
          if (x.2.2 + 2 ^ 24 - Frame.seq f) % 2 ^ 24 < 2 ^ 23 then .inr (dir, false)
          else if 16 ≤ (s.mailQ c dir).length then .inl ntFull else .inr (dir, true)
        | none => if 16 ≤ (s.mailQ c dir).length then .inl ntFull else .inr (dir, true)

/-- Answer a MSG, queueing it when it is new. This chip sets the GEN of its own edge endpoints (R391). -/
def takeMsg (f : Frame) (s : State) : State :=
  let c := Frame.op f - 0x80
  let reply (kind : Nat) (s : State) : State :=
    queueNotice false (mgmtAnswer s f opNotice (mboxNotice c kind (Frame.seq f))) s
  match msgVerdict s f with
  | .inl kind =>
    let s := if kind = ntLenBad then (s.count Reg.mbxBad).raise Reg.badFrameEv else s
    reply kind s
  | .inr (_, false) => reply ntAck s
  | .inr (dir, true) =>
    let p := (frameParty s f).getD (0, 0)
    let key := p.2 * 64 + p.1
    let n := leAt f.payload 0 2
    let gen := if p.1 = ptRemote then leAt f.payload 2 2 else generationOf s p.1
    let m := Msg.mk p.1 (Frame.src f) gen (Frame.seq f) (s.now % 2 ^ 32) ((f.payload.drop 16).take n)
    let rest := s.mail.lastIn.filter (fun x => !(decide (x.1 = key ∧ x.2.1 = c)))
    let s := s.modMail (fun k => { k with lastIn := rest ++ [(key, c, Frame.seq f)] })
    enqueueMsg c dir m (reply ntAck s)

/-- A NOTICE (R394): an ACK pops the message on its way to that receiver; any other is an input to the Prompters. -/
def takeMboxNotice (f : Frame) (s : State) : State :=
  let c := leAt f.payload 0 1
  let kind := leAt f.payload 1 1
  let seq := leAt f.payload 4 3
  let mine (d : Delivery) : Bool :=
    decide (d.ch = c ∧ d.seq = seq) && decide (frameParty s f = some (receiverOf s c d.dir))
  match s.mail.out.find? mine with
  | some d =>
    if kind = ntAck then popMsg c d.dir (s.modMail (fun k => { k with out := k.out.erase d })) else intake (.mailNotice c kind seq) s
  | none => intake (.mailNotice c kind seq) s

/-- House-clock periods after which a message is sent again: 100 µs. -/
def resendAfter : Nat := 2500

/-- No ACK after 100 µs (R394): resend with the same SEQ, up to 15 times, then discard with ABORTED to the sender. -/
def resendMsg (c dir : Nat) (s : State) : State :=
  match s.mail.out.find? (fun d => decide (d.ch = c ∧ d.dir = dir)), s.mailQ c dir with
  | some d, m :: t =>
    if s.now < d.sent + resendAfter then s
    else if d.tries < 15 then
      let again (x : Delivery) : Delivery := if x = d then { x with tries := x.tries + 1, sent := s.now } else x
      let s := s.modMail (fun k => { k with out := k.out.map again })
      sendFrame 0 (msgFrame s c dir d.seq m) s
    else
      let s := s.modMail (fun k => { k with out := k.out.erase d })
      startDelivery c dir (abortMsg c dir m (s.setMailQ c dir t))
  | _, _ => s

/-! Resets (R396, R397, R403). -/

/-- Force-release semaphores that a test picks by holder. -/
def forceSems (p : Nat × Nat → Bool) (s : State) : State :=
  let free (x : Sem) : Sem := match x.holder with
    | some h => if p h then { holder := none, forced := true } else x
    | none => x
  s.modMail (fun m => { m with sems := m.sems.map (fun e => (e.1, free e.2)) })

/-- Discard what is queued on data channels toward a party and tell the senders (R397). -/
def clearToward (party : Nat) (s : State) : State :=
  forEach (fun key s =>
    let c := key / 2
    let dir := key % 2
    if 8 ≤ c ∧ (receiverOf s c dir).1 = party then
      let q := s.mailQ c dir
      let s := (s.setMailQ c dir []).modMail (fun k => { k with out := k.out.filter (fun d => !(decide (d.ch = c ∧ d.dir = dir))) })
      forEach (abortMsg c dir) q s
    else s) (List.range 64) s

/-- Master index of a party (R402). -/
def masterOf (party : Nat) : Nat := if party = ptHost then 1 else if party = ptPrompter then 0 else party - 0x10 + 8

/-- A reset of a local party: its generation, its semaphores, the queues toward it (R396, R397, R403). -/
def resetParty (party : Nat) (s : State) : State :=
  let s := if party = ptHost then s.count Reg.genHost
    else if party = ptPrompter then s.count Reg.genPrm
    else s.count (Reg.genEdge (party - 0x10))
  clearToward party (forceSems (fun h => decide (h.1 = masterOf party)) s)

/-! Semaphores (R401 to R403). -/

def State.sem (s : State) (n : Nat) : Sem := Tab.get (fun _ => Sem.init) s.mail.sems n
def State.setSem (s : State) (n : Nat) (x : Sem) : State :=
  s.modMail (fun m => { m with sems := Tab.set (fun _ => Sem.init) m.sems n x })

/-- The value of Table 12-10. -/
def semValue (result : Nat) (forced : Bool) (h : Nat × Nat) : Nat :=
  result + (if forced then 4 else 0) + h.1 * 2 ^ 8 + h.2 * 2 ^ 16

/-- The chip shown for a master: its own for the local masters. -/
def masterName (s : State) (idx chip : Nat) : Nat × Nat := (idx, if idx = 0x10 then chip else myChip s)

/-- Read-to-acquire: the value returned, and the state (R401). -/
def acquireSem (n : Nat) (who : Nat × Nat) (s : State) : Nat × State :=
  let x := s.sem n
  match x.holder with
  | some h => (semValue 2 x.forced h, s)
  | none => (semValue 1 x.forced who, s.setSem n { x with holder := some who })

/-- The value of a semaphore's register as it stands, of which a write of some bytes keeps the others (R401, R534): 0 when free. -/
def shownSem (n : Nat) (s : State) : Word :=
  match (s.sem n).holder with
  | none => 0
  | some h => BitVec.ofNat 64 (semValue 2 (s.sem n).forced h)

/-- A release by a master (R403): whether it held the semaphore. FORCED clears. -/
def releaseSem (n : Nat) (who : Nat × Nat) (s : State) : Bool × State :=
  if (s.sem n).holder = some who then (true, s.setSem n Sem.init) else (false, s)

/-- The master that a frame's source is. -/
def frameMaster (s : State) (f : Frame) : Option (Nat × Nat) :=
  if Frame.src f = myChip s then (if Frame.srcPort f < 8 then some (masterName s (8 + Frame.srcPort f) 0) else none)
  else some (0x10, Frame.src f)

end Sys2Proof.Machine
end

