-- ==== Sys2Proof/Machine/LinkLoss.lean ====
section
/-! DEFINITION. What the rest of the block does when a link leaves service: operations abort (R363), the endpoint at an edge port
counts as reset (R396), a lost neighbour is reported (R491). -/
namespace Sys2Proof.Machine

/-- A link in UP or RETRAIN: it has not gone down (R89). -/
def inService (s : State) (l : Nat) : Bool := linkUp s l || decide (s.fld (Reg.lnkState l) = stRetrain)

/-- A link has gone down with the cause that LNKn_STATUS shows. -/
def linkLost (l : Nat) (s : State) : State :=
  let cause := s.fld (Reg.lnkCause l)
  let gone := decide (cause = causeRemoved ∨ cause = causeFarDown)
  let s := if l < 8 ∨ gone ∨ cause = causeIron then memberLost l s else s
  if l < 8 then
    let s := s.modSwc (fun w => { w with edgeOut := w.edgeOut.filter (fun e => decide (e.port ≠ l)) })
    if s.fld (Reg.lnkState l) = stDisabled then s else resetParty (ptEdge l) s
  else if gone then alert 0x04 0 Reg.lnkEvent.off s
  else s

/-- Do `f`, and what follows when link l goes down by it. -/
def watchLink (l : Nat) (f : State → State) (s : State) : State :=
  let t := f s
  if inService s l && !(inService t l) then linkLost l t else t

/-- This chip takes a link down by its own act (R89): the down message first. -/
def takeDown (l st cause : Nat) (why : DownCause) (s : State) : State :=
  watchLink l (fun s => enterDown l st cause (sayDown l why s)) s

/-- Every port goes Off with the die's rails: each link is DISABLED with a cause (R89, Table 03-5). -/
def portsOff (cause : Nat) (why : DownCause) (s : State) : State :=
  forEach (fun l s =>
    let s := if s.fld (Reg.lnkState l) = stDisabled then s else takeDown l stDisabled cause why s
    s.setFld (Reg.portState l) 3) (List.range 14) s

end Sys2Proof.Machine
end

