-- ==== Sys2Proof/Machine/Power.lean ====
section
/-! DEFINITION. Power, heat and the iron (R406 to R433): ghost-light mode, the die's rails, the ramp governor, the thermal ladder, the
leak line and the iron latch. -/
namespace Sys2Proof.Machine

def State.modPower (s : State) (f : Power → Power) : State := { s with power := f s.power }

/-! Stopping work (R292). -/

def allTiles : List UnitId := (List.range 240).map tileUnit
def allEngines : List UnitId := (List.range 16).map engUnit
def allSeqs : List UnitId := (List.range 64).map seqUnit
def allDdr : List UnitId := (List.range 12).map ddrUnit

/-- Tiles that have been retired are Off. -/
def retiredOff (s : State) : State :=
  forEach (fun p s => if s.fld (Reg.tileRole p) = 3 then setUnit (tileUnit p) 3 s else s) (List.range 240) s

/-- Every crossing in flight aborts with GHOST_LIGHT (R292, R282): collective operations, copies and signals. -/
def abortCrossings (s : State) : State :=
  let s := forEach (fun o s => if o.ended then s else abortDark o s) s.col.ops s
  let s := forEach (fun x s => failXfer x Err.ghostLight s) s.cue.xfers s
  let s := forEach (fun x s => s.modCtr x.ctr (Ctr.fail 2 Err.ghostLight)) s.cue.sigs s
  (s.modCue (fun k => { k with xfers := [], sigs := [] })).modTen (fun t => { t with flights := [] })

/-- Every context is dropped; its sequencer records GHOST_LIGHT and is HELD (R292). -/
def dropContexts (s : State) : State :=
  forEach (fun q s => if (s.ctx q).isSome then
      ((s.setCtx q none).setFld (Reg.seqErr q) Err.ghostLight).setFld (Reg.seqSt q) sqHeld else s) (List.range 64) s

/-- Pending fires are discarded and counted (R292). -/
def discardFires (s : State) : State :=
  forEach (fun t s => if s.flag (Reg.trigPending t) then
      ((s.setFld (Reg.trigPending t) 0).count Reg.trigLost).raise Reg.trigLostEv else s) (List.range 1024) s

/-- A unit that is neither Off nor Dark goes Dark at once. A sequencer that was in quarantine is HELD and stays marked: it returns through
quarantine (Table 09-2, R424). DEDUCED, log entry 150. -/
def forceDark (u : UnitId) (s : State) : State :=
  if 2 ≤ unitState s u then s
  else
    let s := sendToSleep u 2 s
    match u with
    | .seq q => if s.fld (Reg.seqSt q.val) = sqQuarantine then s.setFld (Reg.seqSt q.val) sqHeld else s
    | _ => s

/-- A unit that stops with work: all but the scratchpads and ports. -/
def stopped : UnitId → Bool
  | .scratch _ => false
  | .port _ => false
  | _ => true

/-- Work stops: crossings abort, contexts and fires go, slices are abandoned, channels enter self-refresh (R292, R423, R501). DEDUCED,
log entry 45. -/
def stopWork (s : State) : State :=
  let s := abandonAllSlices (discardFires (dropContexts (abortCrossings s)))
  let s := { (s.modPower (fun p => { p with loadTiles := [] })) with waking := s.waking.filter (fun u => !(stopped u)) }
  let s := forEach forceDark (allTiles ++ allEngines ++ allSeqs ++ allDdr) (retiredOff s)
  s.setFld Reg.memOpen 0

/-! Ghost-light mode (R422 to R425). -/

def glPwrWarn : Nat := 0
def glFlow : Nat := 1
def glThermal : Nat := 2
def glLeak : Nat := 3
def glLeakLost : Nat := 4
def glCold : Nat := 5

/-- Enter ghost-light mode from ON. -/
def enterGhost (s : State) : State :=
  if dieState s = dieOn then (stopWork (s.setFld Reg.pwrDie dieGhost)).raise Reg.ghostEv else s

/-- A cause is set (R422): the mode is entered; the hold restarts (R424). -/
def setCause (b : Nat) (s : State) : State :=
  enterGhost { s.raise (Reg.glBit b) with house := { s.house with glHold := false } }

/-- A cause clears; the hold starts when it was the last (R424). -/
def clearCause (b : Nat) (s : State) : State :=
  let was := s.flag (Reg.glBit b)
  let s := s.setFld (Reg.glBit b) 0
  if was ∧ s.fld Reg.glCause = 0 ∧ ghostLight s then
    { s.modPower (fun p => { p with glFrom := s.now }) with house := { s.house with glHold := true } }
  else s

/-- House-clock periods of RHS_PERIOD, in s (Table 17-8). -/
def slicePeriod (s : State) : Nat := s.fld Reg.rhsPeriod * 1000 * ticksPerMs

/-- The die has become ON: the slice timer of wing w fires first RHS_PERIOD and w quarters of it later (R499). DEDUCED, log entry 178. -/
def startSlices (s : State) : State :=
  let first (w : Nat) : Nat := s.now + slicePeriod s + w * slicePeriod s / 4
  { s with rhs := { s.rhs with nextFire := [0, 1, 2, 3].foldl (fun t w => Tab.set (fun _ => 0) t w (first w)) s.rhs.nextFire } }

/-- Ghost-light mode ends (R424): channels leave self-refresh, HELD sequencers are IDLE again, OPEN returns; units that quarantine held
when the mode began return through it (log entry 150). -/
def leaveGhost (s : State) : State :=
  let s := startSlices { s.setFld Reg.pwrDie dieOn with house := { s.house with glHold := false } }
  let s := forEach (fun u s => if unitState s u = 2 then unitWakes u s else s) allDdr s
  let s := forEach (fun q s => if s.fld (Reg.seqSt q) = sqHeld then s.setFld (Reg.seqSt q) sqIdle else s) (List.range 64) s
  let s := forEach (fun u s => if inQuarantine s u then wakeUnit u s else s) (allTiles ++ allEngines ++ allSeqs) s
  settleOpen s

/-! The host port with its rail (R456, R457). -/

/-- The host link is lost: INV_HOST_LINK reads down and the host's generation advances (R396). -/
def hostLinkLost (s : State) : State :=
  if s.fld Reg.hostMode = 0 then s
  else resetParty ptHost (((s.setFld Reg.hostMode 0).setFld Reg.hostRate 0).setFld Reg.hostWidth 0)

def State.modHost (s : State) (f : HostPort → HostPort) : State := { s with host := f s.host }

/-- The port in reset (R457): its configuration space, the decoders, the MSI-X table and the mailbox. -/
def resetHostPort (s : State) : State :=
  let s := ((s.setFld Reg.hostMode 0).setFld Reg.hostRate 0).setFld Reg.hostWidth 0
  let s := s.modMem (fun m => { m with hdm := [], hostWait := [] })
  s.modHost (fun h => { h with config := none, msixTable := [], logs := [], logOver := [], logInt := [], nextRec := 1, capacity := 0, vdmEid := 0 })

/-- The host port loses its rail (R457). -/
def hostPortOff (s : State) : State := resetHostPort (hostLinkLost s)

/-! Repairs (R510). -/

/-- Put one entry of the repair log into effect. -/
def applyRepair (cls elem st : Nat) (s : State) : State :=
  if cls = clsLane then
    let site := elem / 17
    let l := linkOfSite site
    let p := siteBase site + elem % 17
    if st = 1 then s.raise (Reg.laneSubst l p) else s.raise (Reg.laneRetired l p)
  else if cls = clsTile then swingTile elem s
  else if cls = clsRow then
    let w := elem / 2 ^ 21 % 4
    if elem.testBit 23 then
      refreshSpace (s.modTen (fun t => { t with retired := t.retired ++ [w * 2048 + elem % 2048] }))
    else
      let b := w * 128 + elem / 2 ^ 14 % 128
      let s := s.modTen (fun t => { t with rowsUsed := Tab.set (fun _ => 0) t.rowsUsed b (Tab.get (fun _ => 0) t.rowsUsed b + 1) })
      (s.setFld (Reg.rowsLeft w) (s.fld (Reg.rowsLeft w) - 1)).addFld (Reg.rowsSwungN w) 1
  else if cls = clsAdder then
    let e := elem / 256
    if s.fld (Reg.engSwings e) ≠ 0 then s.setFld (Reg.engSwings e) (s.fld (Reg.engSwings e) - 1) else s.addFld (Reg.engRetired e) 1
  else if cls = clsDdrPhy then
    if st = 1 then s.raise (Reg.forceFull elem)
    else ((s.setFld (Reg.chState elem) chFailed).setFld (Reg.chCause elem) cauTrainFail).setChan elem { s.chan elem with judged := true }
  else s

/-- The Prompter applies every SOFT and RETIRED entry, the fuses theirs (R510). -/
def applyRepairLog (s : State) : State :=
  forEach (fun j s =>
    let st := s.fld (Reg.repairState j)
    if st = 0 then s else applyRepair (s.fld (Reg.repairCls j)) (s.fld (Reg.repairElem j)) st s) (List.range 256) s

/-! Rails of the die (R407, R415, R416). -/

/-- Registers that show what the die loses with its rails (Table 02-5, R416): the program table, the sequencers, the triggers, the
program bases; channels, sets, mirror regions and copy windows. Every other register keeps its value, R10 naming only power-on
and RESET_N (log entry 18). -/
def lostWord (off : Nat) : Bool :=
  decide (off = 0x1400020) || (decide (0x1410000 ≤ off ∧ off < 0x1414000) && decide (off % 0x100 = 8)) ||
  decide (0x1420000 ≤ off ∧ off < 0x1424000) || decide (0x1430000 ≤ off ∧ off < 0x1430800) ||
  (decide (0x1C01000 ≤ off ∧ off < 0x1C01C00) && !(decide (off % 0x100 = 0))) || decide (0x1C02000 ≤ off ∧ off < 0x1C05000)

/-- A placed range of a group, which stays with the group's entry. -/
def Range.ofGroup (r : Range) : Bool := match r.owner with
  | .group _ => true
  | .prog _ => false

/-- The records of the die's blocks without their rails; what flash holds and the places of groups stay, and with the circuit entries the
counts of the internal sources (log entry 18). -/
def clearDie (s : State) : State :=
  let groups := s.ten.placed.filter (fun r => r.ofGroup && !((s.col.placing.map Placing.range).contains r))
  let ten := { s.ten with sp := [], ue := [], zeroing := [], flights := [], placed := groups }
  let mem := { Mem.init with saved := s.mem.saved, bringUp := s.mem.bringUp }
  let col := { Col.init with laneFails := s.col.laneFails }
  let counts := s.swc.seqCtr.filter (fun e => decide (2 ^ 16 ≤ e.1))
  { s with links := [], swc := { Swc.init with seqCtr := counts }, mem := mem, ten := ten, cue := Cue.init, col := col, spState := [], waking := [] }

/-- What the die holds is lost with its rails (Table 02-5, R416). -/
def loseDie (s : State) : State :=
  let s := forEach (fun (o : Op) s => s.setFld (Reg.grpOps o.group) 0) s.col.ops s
  let s := clearDie { s with regs := s.regs.filter (fun e => !(lostWord e.1)) }
  let s := refreshSpace (retirePending s)
  let s := forEach (fun st s => s.setSite st { s.site st with powerGood := false }) (List.range 20) s
  let s := { s with house := { s.house with siteEn := 0, pmicEn := 0 } }
  let s := s.modPower (fun p => { p with enabled := 0, upAt := 0 })
  let s := forEach (setUnit · 3) (allTiles ++ allEngines ++ allSeqs ++ allDdr) s
  let s := forEach (fun w s => setUnit (.scratch w) 3 s) [0, 1, 2, 3] s
  s.setFld Reg.rails (s.fld Reg.rails % 8)

/-- A strike that drains is abandoned by a power-down or an iron trip (R489). -/
def abandonStrike (s : State) : State :=
  if s.fld Reg.strikeState = 1 then (s.setFld Reg.strikeState 0).setFld Reg.invStrikeResult 6 else s

/-- PRM_OFF_CAUSE codes (Table 13-8). -/
def offOrderHost : Nat := 1
def offOrderRm : Nat := 2
def offFlow : Nat := 3
def offLeak : Nat := 4
def offIron : Nat := 5
def offRailFault : Nat := 6
def offClockLost : Nat := 7

def recordOff (cause : Nat) (s : State) : State := (s.setFld Reg.offCause cause).setFld Reg.offTime s.now

/-- A die power-down starts (R416): work stops, links go down, site power and PMICs go off, the cause is recorded. -/
def startPowerDown (cause : Nat) (s : State) : State :=
  let s := abandonStrike (stopWork (portsOff causeDisabled .other s))
  let s := { s with house := { s.house with siteEn := 0, pmicEn := 0, glHold := false } }
  (recordOff cause (hostPortOff (s.setFld Reg.pwrDie dieSeqDown))).raise Reg.powerDownEv

/-- A die that can be powered down: on, in ghost-light mode or coming up. -/
def diePowered (s : State) : Bool := decide (dieState s = dieOn ∨ dieState s = dieGhost ∨ dieState s = dieSeqUp)

/-- R409: the die is permitted to run. DEDUCED, log entry 100. -/
def permitted (s : State) : Bool :=
  s.flag Reg.hostRun && s.flag Reg.rmRun && !(s.flag Reg.ironLatched) && !(s.flag Reg.safeDown)

/-- The steps of Table 13-4 as masks of PRM_RAILS. -/
def railSteps : List Nat := [0x78, 0x780, 0x7800, 0x78000, 0x80000, 0x100000, 0x200000, 0x400000]

/-- Enable the rails of the first step whose rails are not all good. -/
def enableNext (s : State) : State :=
  match railSteps.find? (fun m => decide (s.fld Reg.rails &&& m ≠ m)) with
  | some m =>
    if s.power.enabled &&& m = m then s else s.modPower (fun p => { p with enabled := p.enabled ||| m, enabledAt := s.now })
  | none => s

/-- Every die rail is good. -/
def allRailsGood (s : State) : Bool := railSteps.all (fun m => decide (s.fld Reg.rails &&& m = m))

/-- A unit returns from Off (R48, R291): it runs, in quarantine. -/
def returnFromOff (u : UnitId) (s : State) : State := quarantine u (setUnit u 0 s)

/-- A tile that is retired stays Off. -/
def tileReturns (p : Nat) (s : State) : State :=
  if s.fld (Reg.tileRole p) = 3 then setUnit (tileUnit p) 3 s else returnFromOff (tileUnit p) s

/-- A port returns from Off when it is used (R43, R291). -/
def portReturns (l : Nat) (s : State) : State :=
  if portOff s l ∨ s.fld (Reg.lnkEnable l) = 0 then s.setFld (Reg.portState l) 3
  else returnFromOff (portUnit l) s

/-- A port that was Off is in use again. -/
def portUsed (l : Nat) (s : State) : State := if s.fld (Reg.portState l) = 3 then returnFromOff (portUnit l) s else s

/-- Die reset is released (Table 13-4, 6.5 ms): units return from Off, links start, the first PMICs are enabled. -/
def dieRises (s : State) : State :=
  let ghost := decide (s.fld Reg.glCause ≠ 0)
  let s := startSlices (s.setFld Reg.pwrDie dieOn)
  let s := forEach returnFromOff (allEngines ++ allSeqs ++ allDdr) (forEach tileReturns (List.range 240) s)
  let s := forEach (fun w s => setUnit (.scratch w) 0 s) [0, 1, 2, 3] s
  let s := forEach portReturns (List.range 14) s
  let s := { s with house := { s.house with pmicEn := 0x249, firstUp := true } }
  let s := s.modPower (fun p => { p with upAt := s.now + 1, offBy := 0 })
  let s := s.addFld Reg.dieUps 1
  let s := forEach (fun l s => freshTraining l s) (List.range 14) s
  if ghost then enterGhost s else s

/-- The later groups of PMICs, 5 ms and 10 ms after the first (Table 13-4). -/
def pmicStep (s : State) : State :=
  let t := s.power.upAt
  if t = 0 then s
  else if t + 10 * ticksPerMs ≤ s.now + 1 then
    ({ s with house := { s.house with pmicEn := 0xFFF } }).modPower (fun p => { p with upAt := 0 })
  else if t + 5 * ticksPerMs ≤ s.now + 1 then { s with house := { s.house with pmicEn := s.house.pmicEn ||| 0x492 } }
  else s

/-! The iron (R432, R433). -/

def ironPin : Nat := 1
def ironL3 : Nat := 2

/-- A trip: down messages with cause IRON, rails off, the latch set. -/
def tripIron (cause : Nat) (s : State) : State :=
  let s := portsOff causeIron .iron s
  let s := hostPortOff (abandonStrike (stopWork s))
  let s := loseDie { s with house := { s.house with glHold := false } }
  let s := ((s.setFld Reg.pwrDie dieTripped).raise Reg.ironLatched).setFld Reg.ironCause cause
  (recordOff offIron (s.setFld Reg.ironTime s.now)).raise Reg.ironTripEv

/-- Every readable diode is below a temperature in 0.1 °C. -/
def allDiodesBelow (s : State) (t : Nat) : Bool :=
  (List.range 64).all (fun i =>
    let v := s.fld (Reg.diodeTemp (i / 16) (i % 16))
    decide (v = 0xFFF ∨ v < t))

/-- R433: the latch may be cleared now. -/
def ironClears (s : State) : Bool :=
  s.flag Reg.ironLevel && allDiodesBelow s (s.fld Reg.threshL1 * 10)

def clearIron (s : State) : State :=
  let s := (s.setFld Reg.ironLatched 0).setFld Reg.ironCause 0
  if dieState s = dieTripped then s.setFld Reg.pwrDie dieOff else s

/-! Caps and the governor (R417, R418). -/

/-- Maximum module input power of the ordering code (Table 18-4). -/
def maxPower (s : State) : Nat := match s.code with
  | .m448 => 2400
  | .m224 => 2150

def capOr (v : Nat) : Nat := if v = 0xFFFF then 65535 else v

/-- The effective cap (R418). -/
def refreshCap (s : State) : State :=
  let rack := capOr (s.fld Reg.rackCap)
  let rack := if s.flag Reg.fallback then min rack (capOr (s.fld Reg.fallbackCap)) else rack
  s.setFld Reg.effectiveCap (min (min (capOr (s.fld Reg.hostCap)) rack) (maxPower s))

/-- A CAP_W that an order may carry (Table 13-2). -/
def capValid (s : State) (v : Nat) : Bool := decide (v = 0xFFFF) || decide (800 ≤ v ∧ v ≤ maxPower s)

/-- One millisecond of the governor: `demand` is the draw without business load, `pacedCycles` what pacing cost. Below the floor
business load fills the gap, on tiles while the die is ON and on the ballast otherwise (R408); above the ceiling issue is paced (R54),
which takes the average no lower than the floor (R418).
While PWR_WARN_N is low the limit is waived (R419, R55). DESIGN CHOICE, log entry 46. DESIGN CHOICE, log entry 103. -/
def governorTick (demand pacedCycles : Nat) (s : State) : State :=
  let a := s.fld Reg.rampA
  let step := s.fld Reg.rampMax / 10
  let waived := s.flag (Reg.glBit glPwrWarn)
  let floor := if waived then 0 else a - step
  let ceiling := min (a + step) (s.fld Reg.effectiveCap)
  let gap := floor - demand
  let ballast := if dieState s = dieOn then 0 else min gap 2400
  let target := max floor ceiling
  let paced := decide (target < demand) && decide (dieState s = dieOn)
  let now := if demand < floor then floor else if paced then target else demand
  let s := ((s.setFld Reg.rampFloor floor).setFld Reg.rampCeiling ceiling).setFld Reg.ballast ballast
  let s := s.setFld Reg.rampA now
  if paced then pmcEvent evPaced 0 pacedCycles (s.addFld Reg.paced pacedCycles) else s

/-- A rack-manager heartbeat (R421). -/
def rmHeartbeat (s : State) : State :=
  refreshCap ((s.modPower (fun p => { p with rmLost := false, rmSeen := s.now })).setFld Reg.fallback 0)

/-! The thermal ladder (R426 to R429). -/

/-- Threshold of a level in 0.1 °C. -/
def threshold (s : State) (k : Nat) : Nat :=
  if k = 1 then s.fld Reg.threshL1 * 10 else if k = 2 then s.fld Reg.threshL2 * 10 else 1100

/-- A diode that the ladder takes: readable and not excluded. -/
def diodeValid (s : State) (w i : Nat) : Bool :=
  decide (s.fld (Reg.diodeTemp w i) ≠ 0xFFF) && !(s.flag (Reg.diodeOut w i))

def validDiodes (s : State) (w : Nat) : List Nat := (List.range 16).filter (diodeValid s w)

/-- Junction temperature of a wing: the highest reading of its valid diodes. -/
def junction (s : State) (w : Nat) : Nat := (validDiodes s w).foldl (fun m i => max m (s.fld (Reg.diodeTemp w i))) 0

/-- The chip's level follows its wings'; L1 halves the tensor clock (R40), L2 is cause THERMAL. -/
def settleLevels (s : State) : State :=
  let old := s.fld Reg.chipLevel
  let new := [0, 1, 2, 3].foldl (fun m w => max m (s.fld (Reg.wingLevel w))) 0
  let s := s.setFld Reg.chipLevel new
  let s := s.setFld Reg.tenHalf (if 1 ≤ new then 1 else 0)
  let s := if old < 1 ∧ 1 ≤ new then s.raise Reg.l1Ev else s
  let s := if old < 2 ∧ 2 ≤ new then setCause glThermal (s.raise Reg.l2Ev) else s
  if 2 ≤ old ∧ new < 2 then clearCause glThermal s else s

/-- Both diode ADCs of a wing, or its reference, have failed: none of its diodes can be read (R509). -/
def wingBlind (s : State) (w : Nat) : Bool :=
  (decide (4 * w ∈ s.rhs.sensorsOut) && decide (4 * w + 1 ∈ s.rhs.sensorsOut)) || decide (4 * w + 2 ∈ s.rhs.sensorsOut)

/-- Take the readings of every diode in 0.1 °C (16 per wing, FFFh unreadable); an unreadable one is excluded at once (R428). -/
def takeReadings (rs : List Nat) (s : State) : State :=
  forEach (fun i s =>
    let v := if wingBlind s (i / 16) then 0xFFF else (rs[i]?).getD 0xFFF
    let s := s.setFld (Reg.diodeTemp (i / 16) (i % 16)) v
    if v = 0xFFF ∧ !(s.flag (Reg.diodeOut (i / 16) (i % 16))) then
      (s.raise (Reg.diodeOut (i / 16) (i % 16))).raise Reg.diodeExcluded else s) (List.range 64) s

/-- Consecutive samples of a wing at or above a level. -/
def countHot (w k : Nat) (s : State) : State :=
  let key := w * 4 + k
  let n := if threshold s k ≤ junction s w then min 2 (Tab.get (fun _ => 0) s.power.hotRuns key + 1) else 0
  s.modPower (fun p => { p with hotRuns := Tab.set (fun _ => 0) p.hotRuns key n })

/-- A wing after a sample: the level rises after two samples at or above its threshold; too few diodes hold it at L1. -/
def wingSample (w : Nat) (s : State) : State :=
  let s := countHot w 3 (countHot w 2 (countHot w 1 s))
  let n := (validDiodes s w).length
  let few := decide (n < 2)
  let s := (s.setFld (Reg.fewDiodes w) (if few then 1 else 0)).setFld (Reg.modelValid w) n
  let up := [1, 2, 3].foldl (fun m k => if Tab.get (fun _ => 0) s.power.hotRuns (w * 4 + k) = 2 then k else m) 0
  s.setFld (Reg.wingLevel w) (max (max (s.fld (Reg.wingLevel w)) up) (if few then 1 else 0))

/-- Consecutive samples of a diode at 110 °C or more, excluded or not (R429): whether it trips, and the state. -/
def countTrip (i : Nat) (s : State) : State :=
  let v := s.fld (Reg.diodeTemp (i / 16) (i % 16))
  let n := if v ≠ 0xFFF ∧ 1100 ≤ v then min 2 (Tab.get (fun _ => 0) s.power.tripRuns i + 1) else 0
  s.modPower (fun p => { p with tripRuns := Tab.set (fun _ => 0) p.tripRuns i n })

/-- One sample of the diodes (R426, R428, R429): a diode at L3 for two samples, or a level that reaches L3, trips. -/
def diodeSample (rs : List Nat) (s : State) : State :=
  let old := s.fld Reg.chipLevel
  let s := forEach countTrip (List.range 64) (takeReadings rs s)
  let s := settleLevels (forEach wingSample [0, 1, 2, 3] s)
  let trips := s.power.tripRuns.any (fun e => decide (e.2 = 2))
  if (trips ∨ (old < 3 ∧ s.fld Reg.chipLevel = 3)) ∧ !(s.flag Reg.ironLatched) then tripIron ironL3 s else s

/-- R427: the temperature of a wing has stayed 3 °C below the threshold that raised its level for 10 ms. L3 does not fall while the iron
latch holds it. DEDUCED, log entry 140. -/
def levelFalls (w : Nat) (s : State) : State :=
  let k := s.fld (Reg.wingLevel w)
  let floor := if s.flag (Reg.fewDiodes w) then 1 else 0
  if k = 0 ∨ (k = 3 ∧ s.flag Reg.ironLatched) ∨ k ≤ floor ∨ threshold s k < junction s w + 30 then s
  else settleLevels (s.setFld (Reg.wingLevel w) (k - 1))

/-- Grid neighbours of a diode: above, below, left and right (R426, R428). -/
def gridNeighbours (i : Nat) : List Nat :=
  (if 4 ≤ i then [i - 4] else []) ++ (if i < 12 then [i + 4] else []) ++ (if i % 4 ≠ 0 then [i - 1] else []) ++
    (if i % 4 ≠ 3 then [i + 1] else [])

/-- A diode that reads more than 8 °C below both references (R428). -/
def readsCool (s : State) (w i : Nat) : Bool :=
  let ns := (gridNeighbours i).filter (diodeValid s w)
  let sum := ns.foldl (fun a j => a + s.fld (Reg.diodeTemp w j)) 0
  let v := s.fld (Reg.diodeTemp w i)
  diodeValid s w i && !ns.isEmpty && decide ((v + 80) * ns.length < sum) && decide (v + 80 < s.fld (Reg.modelTemp w))

/-- One check of a diode against its references; at the third in a row it is stuck-cool, and excluded through stage 5. -/
def checkDiode (i : Nat) (s : State) : State :=
  let w := i / 16
  let n := if readsCool s w (i % 16) then Tab.get (fun _ => 0) s.power.coolRuns i + 1 else 0
  let s := s.modPower (fun p => { p with coolRuns := Tab.set (fun _ => 0) p.coolRuns i (if 3 ≤ n then 0 else n) })
  if 3 ≤ n then
    let e : SideEffect := .reg (Reg.diodeOut w (i % 16)).off (leBytes 8 0x1000)
    throughStage 5 e (fun s => (s.raise (Reg.diodeOut w (i % 16))).raise Reg.diodeExcluded) s
  else s

/-- THM_CLEAR.DIODES ends the exclusions. A diode that cannot be read stays excluded. -/
def clearDiodes (s : State) : State :=
  forEach (fun i s => s.setFld (Reg.diodeOut (i / 16) (i % 16))
    (if s.fld (Reg.diodeTemp (i / 16) (i % 16)) = 0xFFF ∧ s.flag (Reg.diodeOut (i / 16) (i % 16)) then 1 else 0)) (List.range 64) s

/-! Coolant and the leak line (R430, R431). -/

/-- THM alerts carry block code 0Bh. -/
def thmAlert (code : Nat) (s : State) : State := alert 0x0B code Reg.thmEvent s

/-- A reading in range: 0.0 to 150.0 °C, or FFFh. -/
def clampCold (v : Nat) : Nat := if v = 0xFFF then v else min v 0x5DC

/-- A thermistor sample (R430, Table 13-5). -/
def coldSample (i o : Nat) (s : State) : State :=
  let i := clampCold i
  let o := clampCold o
  let newly := (decide (i = 0xFFF) && decide (s.fld Reg.coldIn ≠ 0xFFF)) || (decide (o = 0xFFF) && decide (s.fld Reg.coldOut ≠ 0xFFF))
  let s := (s.setFld Reg.coldIn i).setFld Reg.coldOut o
  let li := s.fld Reg.coldInLimit * 10
  let lo := s.fld Reg.coldOutLimit * 10
  let lost := decide (i = 0xFFF ∨ o = 0xFFF)
  let s := if newly then thmAlert Err.sensorLost (s.raise Reg.sensorLostEv) else s
  if lost ∨ li < i ∨ lo < o then setCause glCold s
  else if i + 20 ≤ li ∧ o + 20 ≤ lo then clearCause glCold s
  else s

def leakDry : Nat := 0
def leakWet : Nat := 1
def leakLost : Nat := 2

/-- The line becomes WET. -/
def becomeWet (s : State) : State :=
  if s.fld Reg.leakState = leakWet then s
  else setCause glLeak (thmAlert 0 (((s.setFld Reg.leakState leakWet).raise Reg.leakEv).modPower (fun p => { p with wetFrom := s.now })))

/-- The line becomes LOST. DEDUCED, log entry 48. -/
def becomeLost (s : State) : State :=
  if s.fld Reg.leakState = leakLost then s
  else setCause glLeakLost (thmAlert Err.sensorLost (((s.setFld Reg.leakState leakLost).raise Reg.leakEv).raise Reg.sensorLostEv))

/-- THM_CLEAR.LEAK on a DRY line. -/
def clearLeak (s : State) : State :=
  if s.fld Reg.leakState = leakDry then clearCause glLeakLost (clearCause glLeak s) else s

end Sys2Proof.Machine
end

