-- ==== Sys2Proof/Machine/LinkCommands.lean ====
section
/-! DEFINITION. Stage Link commands (chapter 3): flits, retry, training, cartridges, lane substitution, test loops. -/
namespace Sys2Proof.Machine

/-- Module input is present, the die runs and RESET_N is high: the links can act (R36, R525). -/
def linksLive (s : State) : Bool := s.house.input && dieRuns s && !s.house.resetLow

/-- The house island runs and RESET_N is high. -/
def houseLive (s : State) : Bool := s.house.input && !s.house.resetLow

def linkIn (s : State) (l st : Nat) : Bool := linksLive s && decide (s.fld (Reg.lnkState l) = st)

/-- Physical lane p exists on link l. -/
def onLink (l p : Nat) : Bool := decide (p ∈ lanesOf l)

/-! Codewords and flits. -/

/-- The lanes that a loop's LANE names: one, or all of them (Table 03-9). -/
def loopLanes (l lane : Nat) : List Nat := if lane = 63 then lanesOf l else (lanesOf l).filter (fun p => decide (p = lane))

/-- A far-end loop that this end has accepted: the received symbols go back on their lane (R94), those of all lanes in lane order. -/
def returnSymbols (l : Nat) (symbols : List Nat) (s : State) : State :=
  let k := s.link l
  match k.farLoop.map (loopLanes l) with
  | none => s
  | some ps => match ps[k.rxCount % ps.length]? with
    | none => s
    | some p => emit (.line l p symbols) (s.modLink l (fun k => { k with rxCount := k.rxCount + 1 }))

/-- A test loop of this end sends its stream on the lanes it tests (R94). -/
def putTest (l : Nat) (s : State) : State :=
  let n := (s.link l).txCount
  forEach (fun p s => emit (.line l p (Config.testSymbols p n)) s) (loopLanes l (s.fld (Reg.loopLane l)))
    (s.modLink l (fun k => { k with txCount := k.txCount + 1 }))

/-- One codeword arrives: in UP it is received (R70 to R79); in TEST its symbol errors are counted (R94), how many the spec does
not let us compute (log entry 5); a link that loops back for the far end returns it. -/
def execFlitReceive (l : Fin 14) (symbols : List (Fin 4)) (s : State) : Host.Outcome State Fault Refusal :=
  .next (
    if linkIn s l stUp then receiveCodeword l (symbols.map (fun x => x.val)) s
    else if linkIn s l stTest ∧ s.flag (Reg.loopActive l) then
      takeFree (s.satFld (Reg.loopErrors l) (min (Config.freeByte s.free).toNat symbols.length))
    else if linksLive s then returnSymbols l (symbols.map (fun x => x.val)) s
    else s)

/-- NAK again, the expected flit missing (R78). -/
def execNakResendTimeout (l : Fin 14) (s : State) : Host.Outcome State Fault Refusal :=
  .next (if linkIn s l stUp ∧ (s.link l).discarding then s.modLink l (fun k => { k with nakDue := true }) else s)

/-- A fast retrain that this end starts: the far end is asked by link message (R87). -/
def ownRetrain (l : Nat) (s : State) : State := watchLink l (fastRetrain l) (sayRetrain l s)

/-- A retained flit has been resent LNK_RETRY_LIMIT times (R81). -/
def overResent (s : State) (l : Nat) : Bool := (s.link l).retry.any (fun r => decide (s.fld Reg.retryLimit ≤ r.resends))

def execRetryLimitReached (l : Fin 14) (s : State) : Host.Outcome State Fault Refusal :=
  .next (if linkIn s l stUp ∧ overResent s l then ownRetrain l s else s)

/-- Two commas in a row have not stood where they were due on a lane (R69). -/
def outOfLock (s : State) (l p : Nat) : Bool := decide (2 ≤ Tab.get (fun _ => 0) (s.link l).missed p)

def execLaneOutOfLock (l : Fin 14) (lane : Fin 34) (s : State) : Host.Outcome State Fault Refusal :=
  .next (if linkIn s l stUp ∧ outOfLock s l lane then ownRetrain l s else s)

/-- One codeword time of an egress link: a flit position of an UP link (R118), the training sequence in RETRAIN (R87), the test stream of
a running loop (R94). -/
def execEgressFlitSlot (l : Fin 14) (s : State) : Host.Outcome State Fault Refusal :=
  .next (
    if linkIn s l stUp then fillPosition l s
    else if linkIn s l stRetrain then putTraining l s
    else if linkIn s l stTest ∧ s.flag (Reg.loopActive l) then putTest l s
    else s)

/-! Fast retrains. -/

/-- R87: UP is left for RETRAIN. -/
def execFastRetrain (l : Fin 14) (s : State) : Host.Outcome State Fault Refusal :=
  .next (if linkIn s l stUp then ownRetrain l s else s)

/-- Both ends have locked (R82, R87): the lanes are assigned afresh (R92), the streams restart at the generation kept, and the transmitter
replays from the far end's ACK_SEQ. -/
def relock (l ack : Nat) (s : State) : State :=
  match laneAssignment s l with
  | none => enterDown l stDown causeWidthLost s
  | some lanes =>
    let s := assignLanes l lanes ((setLinkState l stUp s).setFld (Reg.lnkGen l) (s.link l).trainGen)
    let s := s.modLink l (fun k => restartStream { reportAgain k with grace := .off, discarding := false, nakDue := false })
    let s := takeAck l ack s
    let first := (ack + 1) % 65536
    let s := s.modLink l (fun k =>
      { k with replayFrom := if k.retry.any (fun r => decide (r.seq = first)) then some first else none })
    let s := rebindWaiting l s
    if belowPlan s l then moveCircuits l s else s

def execFastRetrainComplete (l : Fin 14) (ack : Fin 65536) (s : State) : Host.Outcome State Fault Refusal :=
  .next (if linkIn s l stRetrain then watchLink l (relock l ack) s else s)

/-- R88. -/
def execFastRetrainFail (l : Fin 14) (s : State) : Host.Outcome State Fault Refusal :=
  .next (if linkIn s l stRetrain then watchLink l (fullRetrain l) s else s)

/-- The far end asks (R87). -/
def execRetrainRequestReceive (l : Fin 14) (s : State) : Host.Outcome State Fault Refusal :=
  .next (if linkIn s l stUp then watchLink l (fastRetrain l) s else s)

/-- A down message (R89). -/
def execDownMessageReceive (l : Fin 14) (cause : DownCause) (s : State) : Host.Outcome State Fault Refusal :=
  .next (if linksLive s ∧ inService s l then
      watchLink l (enterDown l stDown (if cause = .iron then causeIron else causeFarDown)) s else s)

/-! Training. -/

/-- A link that signal from the far end takes to EQ: in DETECT, or DOWN since its far end went down (R84). -/
def awaitsFar (s : State) (l : Nat) : Bool :=
  linkIn s l stDetect ||
  (linkIn s l stDown && s.flag (Reg.lnkEnable l) && !(portOff s l) && linkReady s l &&
    decide (s.fld (Reg.lnkCause l) = causeFarDown ∨ s.fld (Reg.lnkCause l) = causeIron))

/-- Signal on every lane (R84): EQ at SL1, with every lane tried afresh (R93); from DOWN at the target of R61. -/
def execFarEndDetected (l : Fin 14) (s : State) : Host.Outcome State Fault Refusal :=
  .next (if awaitsFar s l then
      (setLinkState l stEq s).modLink l (fun k =>
        let k := if s.fld (Reg.lnkState l) = stDown then { k with attempts := 0, target := 0 } else k
        { k with postCfg := false, trainGen := 1, farCfg := none, half := false, badLanes := [] })
    else s)

def execEqComplete (l : Fin 14) (s : State) : Host.Outcome State Fault Refusal :=
  .next (if linkIn s l stEq then setLinkState l stAlign s else s)

/-- What this end's CFG says (R85). -/
def ownCfg (s : State) (l : Nat) : Cfg :=
  { chipId := myChip s, link := l, ringX := ringSize s 0, ringY := ringSize s 1, ringZ := ringSize s 2, maxGen := s.fld Reg.lnkCap,
    lanes := BitVec.ofNat 34 (((lanesOf l).filter (fun p => !(s.flag (Reg.laneRetired l p)) && !(s.flag (Reg.laneSubst l p)) &&
      !(decide (p ∈ (s.link l).badLanes)))).foldl (fun m p => m + 2 ^ p) 0),
    credits := (s.link l).alloc, assigned := s.flag Reg.assigned }

def sendCfg (l : Nat) (s : State) : State := emit (.linkMsg l (.cfg (ownCfg s l))) s

/-- ALIGN ends: at SL1 before CONFIG, where the allocations of this training are fixed (R113), or at the target generation, where the link
comes UP (R84). -/
def aligned (l rtt : Nat) (s : State) : State :=
  if (s.link l).postCfg = false then
    sendCfg l ((setLinkState l stConfig s).modLink l (fun k => { k with alloc := (List.range 14).map (vcAlloc s l) }))
  else match laneAssignment s l with
    | none => enterDown l stDown causeWidthLost s
    | some lanes => enterUp l rtt lanes s

/-- ALIGN may end: a port comes UP only with a current generation (R291). -/
def mayAlign (s : State) (l : Nat) : Bool := linkIn s l stAlign && !((s.link l).postCfg && inQuarantine s (portUnit l))

/-- Alignment is done and the round trip measured (R84). DESIGN CHOICE, log entry 56. -/
def execAlignComplete (l : Fin 14) (rtt : Fin 65536) (s : State) : Host.Outcome State Fault Refusal :=
  .next (if mayAlign s l then aligned l rtt s else s)

/-- The chip that R13 places at the far end of a torus link. -/
def predictedFar (s : State) (l : Nat) : Nat :=
  let a := axisOf l
  let n := ringSize s a
  let at_ := fun (i : Nat) => let c := coordOf (myChip s) i
    if i = a then (if l % 2 = 0 then (c + 1) % n else (c + n - 1) % n) else c
  chipOf (at_ 0) (at_ 1) (at_ 2)

/-- The opposite port of the same axis (R86). -/
def oppositeLink (l : Nat) : Nat := if l % 2 = 0 then l + 1 else l - 1

/-- The checks of R19 and R86 on the far end of a torus link. -/
def cfgFits (s : State) (l : Nat) (c : Cfg) : Bool :=
  decide (c.chipId = predictedFar s l) && decide (c.link = oppositeLink l) && decide (c.ringX = ringSize s 0) &&
  decide (c.ringY = ringSize s 1) && decide (c.ringZ = ringSize s 2)

/-- R86: CONFIG may end, the far end's CFG judged. -/
def configReady (s : State) (l : Nat) : Bool :=
  s.flag Reg.assigned && (match (s.link l).farCfg with
    | none => false
    | some c => !(isTorus l) || c.assigned)

/-- A torus link whose far end is not where it should be. -/
def miscabled (s : State) (l : Nat) : Bool :=
  isTorus l && (match (s.link l).farCfg with
    | none => false
    | some c => !(cfgFits s l c))

/-- A CFG arrives (R85); an assigned far end is judged as soon as this chip is assigned (R86). -/
def takeCfg (l : Nat) (c : Cfg) (s : State) : State :=
  let s := ((s.setFld (Reg.farId l) c.chipId).setFld (Reg.farLink l) c.link).modLink l (fun k => { k with farCfg := some c })
  if configReady s l ∧ miscabled s l then enterDown l stMiscabled causeMiscabled s else s

def execCfgReceive (l : Fin 14) (cfg : Cfg) (s : State) : Host.Outcome State Fault Refusal :=
  .next (if linkIn s l stConfig then takeCfg l cfg s else s)

/-- The far end's CFG has not arrived, or does not report it assigned (R85). -/
def repeatsCfg (s : State) (l : Nat) : Bool :=
  match (s.link l).farCfg with
  | none => true
  | some c => !c.assigned

def execCfgResendTick (l : Fin 14) (s : State) : Host.Outcome State Fault Refusal :=
  .next (if linkIn s l stConfig ∧ repeatsCfg s l then sendCfg l s else s)

/-- CONFIG ends (R86): MISCABLED, or EQ at the target generation (R84). -/
def leaveConfig (l : Nat) (s : State) : State :=
  if miscabled s l then enterDown l stMiscabled causeMiscabled s
  else (setLinkState l stEq s).modLink l (fun k => { k with postCfg := true, trainGen := targetGen s l })

def execConfigComplete (l : Fin 14) (s : State) : Host.Outcome State Fault Refusal :=
  .next (if linkIn s l stConfig ∧ configReady s l then leaveConfig l s else s)

/-- A training attempt is running: in CONFIG only while no assignment is waited for (R84). -/
def attemptRuns (s : State) (l : Nat) : Bool :=
  linkIn s l stDetect || linkIn s l stEq || linkIn s l stAlign ||
  (linkIn s l stConfig && s.flag Reg.assigned && !(isTorus l && ((s.link l).farCfg.any (fun c => !c.assigned))))

/-- The floor of R62; one above the target is treated as equal to it. -/
def floorGen (s : State) (l : Nat) : Nat := min (max 1 (s.fld (Reg.genFloor l))) (wantedGen s l)

/-- An attempt fails (R62): the third at a generation falls one generation, at the floor the link goes DOWN. -/
def attemptFails (l : Nat) (s : State) : State :=
  let n := (s.link l).attempts + 1
  let t := targetGen s l
  if n < 3 then startTraining l (s.modLink l (fun k => { k with attempts := n }))
  else if floorGen s l < t then startTraining l (s.modLink l (fun k => { k with attempts := 0, target := t - 1 }))
  else enterDown l stDown causeTrainFail (s.modLink l (fun k => { k with attempts := 0, target := 0 }))

/-- The attempt timer, which stands still while an assignment is waited for, has run for LNK_TRAIN_TIMEOUT (R84). -/
def attemptLate (s : State) (l : Nat) : Bool := decide (s.fld Reg.trainTimeout * ticksPerMs ≤ (s.link l).spent)

def execTrainingTimeout (l : Fin 14) (s : State) : Host.Outcome State Fault Refusal :=
  .next (if attemptRuns s l ∧ attemptLate s l then attemptFails l s else s)

/-- A period of the attempt timers (R84). -/
def countAttempts (s : State) : State :=
  forEach (fun l s => if attemptRuns s l then s.modLink l (fun k => { k with spent := k.spent + 1 }) else s) (List.range 14) s

/-! Cartridges. -/

/-- R59: the pins of a port that R14 turns Off are ignored. The pins are the house island's, which lives on under RESET_N. -/
def siteWatched (s : State) (st : Nat) : Bool := s.house.input && !(portOff s (linkOfSite st))

/-- A cartridge goes in (R96): with every site of the link filled the link is in CART_CHECK, if the die runs (Table 03-6). -/
def insertCart (st : Nat) (s : State) : State :=
  let l := linkOfSite st
  let s := (s.setFld (Reg.hotplug st) 0).setSite st Site.init
  if linkIn s l stDown then startTraining l (s.modLink l (fun k => { k with attempts := 0, target := 0 })) else s

def execCartridgeInsert (site : Fin 20) (s : State) : Host.Outcome State Fault Refusal :=
  .next (if siteWatched s site ∧ s.flag (Reg.hotplug site) then insertCart site s else s)

/-- A cartridge is present and its debounce still runs. -/
def bouncing (s : State) (st : Nat) : Bool := siteWatched s st && !s.house.resetLow && !(s.flag (Reg.hotplug st)) && !((s.site st).debounced)

def execHotplugDebounceExpiry (site : Fin 20) (s : State) : Host.Outcome State Fault Refusal :=
  .next (if bouncing s site then s.setSite site { s.site site with debounced := true } else s)

/-- The EEPROM of a site is being read. -/
def reading (s : State) (st : Nat) : Bool :=
  let x := s.site st
  siteWatched s st && !s.house.resetLow && !(s.flag (Reg.hotplug st)) && x.debounced && !x.accepted && !x.refused

/-- The EEPROM's fields hold valid values, it sums to 0 and its POWER is allowed (Table 03-7, R97). -/
def eepromOk (s : State) (e : List Byte) : Bool :=
  decide (nthByte e 0 = 0x5A) && decide ((nthByte e 1).toNat ≤ 2) && decide (1 ≤ (nthByte e 2).toNat ∧ (nthByte e 2).toNat ≤ 3) &&
  decide (1 ≤ (nthByte e 3).toNat) && ((e.drop 6).take 16).all (fun b => decide (0x20 ≤ b.toNat ∧ b.toNat ≤ 0x7E)) &&
  decide (nthByte e 22 = 17) && decide (((e.take 24).foldl (fun n b => n + b.toNat) 0) % 256 = 0) &&
  decide (leAt e 4 2 ≤ s.fld Reg.cartPmax)

/-- LNKn_CART0 or 1 of an accepted cartridge (Table 03-9). -/
def cartWord (e : List Byte) : Nat :=
  (nthByte e 1).toNat + (nthByte e 2).toNat * 2 ^ 2 + (nthByte e 3).toNat * 2 ^ 4 + leAt e 4 2 * 2 ^ 12 + 2 ^ 28

def cartField (st : Nat) : Field := if st < 8 then Reg.cart st 0 else Reg.cart (linkOfSite st) (st % 2)

/-- The inventory record of an accepted insertion (R493); a cartridge that RESET_N makes the chip read again is no insertion. DEDUCED,
log entry 110. -/
def recordCart (st : Nat) (e : List Byte) (s : State) : State :=
  let lo := BitVec.ofNat 64 (leAt e 6 8)
  let hi := BitVec.ofNat 64 (leAt e 14 8)
  let same := decide (s.word (Reg.invCart st 0) = lo) && decide (s.word (Reg.invCart st 1) = hi)
  let s := if same then s
    else ((s.setWord (Reg.invCart st 0) lo).setWord (Reg.invCart st 1) hi).setFld (Reg.invCartHours st) 0
  if same && s.flag (Reg.invCartPresent st) then s
  else (s.addFld (Reg.invCartInsertions st) 1).raise (Reg.invCartPresent st)

/-- Site power is wanted: for an accepted active or optical cartridge while its port is not Off (R59, R98). -/
def siteWanted (s : State) (st : Nat) : Bool :=
  let x := s.site st
  let l := linkOfSite st
  x.accepted && !(cartPassive x) && dieRuns s && s.flag (Reg.lnkEnable l) && !(portOff s l)

/-- The Prompter switches the power of a site (R98), by output stage 0: with none ACTIVE it stays as it is (R377), until a Prompter is
ACTIVE again. DEDUCED, log entry 159. -/
def settleSite (st : Nat) (s : State) : State :=
  if (activePrompter s).isNone then s
  else if siteWanted s st then { s with house := { s.house with siteEn := s.house.siteEn ||| 2 ^ st } }
  else if s.house.siteEn.testBit st then
    { (s.setSite st { s.site st with powerGood := false }) with house := { s.house with siteEn := s.house.siteEn - 2 ^ st } }
  else s

/-- The power of every site. -/
def settleSites (s : State) : State := forEach settleSite (List.range 20) s

/-- The link of a site that has just become ready starts to train. -/
def siteSettled (l : Nat) (s : State) : State :=
  if (linkIn s l stDown ∨ linkIn s l stCartCheck) ∧ linkReady s l then startTraining l s else s

/-- The cartridge is accepted (R98). -/
def acceptCart (st : Nat) (e : List Byte) (s : State) : State :=
  let s := s.setSite st { s.site st with accepted := true, eeprom := e }
  let s := recordCart st e (s.setFld (cartField st) (cartWord e))
  siteSettled (linkOfSite st) (settleSite st s)

/-- The cartridge is refused and its link held DOWN with CART_BAD (R97); one that is DISABLED or in TEST when it would be DOWN. -/
def refuseCart (st : Nat) (s : State) : State :=
  let l := linkOfSite st
  let s := s.setSite st { s.site st with refused := true }
  if s.fld (Reg.lnkState l) = stDisabled ∨ s.fld (Reg.lnkState l) = stTest then s
  else watchLink l (enterDown l stDown causeCartBad) s

def execCartIdReadComplete (site : Fin 20) (eeprom : List Byte) (s : State) : Host.Outcome State Fault Refusal :=
  .next (if reading s site then (if eepromOk s eeprom then acceptCart site (eeprom.take 24) s else refuseCart site s) else s)

def execCartIdTimeout (site : Fin 20) (s : State) : Host.Outcome State Fault Refusal :=
  .next (if reading s site then refuseCart site s else s)

/-- Power-good of a powered site (R98). -/
def execSitePowerGood (site : Fin 20) (s : State) : Host.Outcome State Fault Refusal :=
  .next (if siteWatched s site ∧ s.house.siteEn.testBit site ∧ !((s.site site).powerGood) then
      siteSettled (linkOfSite site) (s.setSite site { s.site site with powerGood := true }) else s)

/-- HOTPLUG_N goes high (R98, R99): site power goes, and the link goes from any state to DOWN, the far end told; under RESET_N the links
are in reset. -/
def removeCart (st : Nat) (s : State) : State :=
  let l := linkOfSite st
  let s := (s.setFld (Reg.hotplug st) 1).setFld (cartField st) 0
  let s := s.setFld (Reg.invCartPresent st) 0
  let s := settleSite st (s.setSite st { Site.init with powerGood := (s.site st).powerGood })
  if s.house.resetLow then s else takeDown l stDown causeRemoved .other (s.setFld (Reg.loopActive l) 0)

def execCartridgeRemove (site : Fin 20) (s : State) : Host.Outcome State Fault Refusal :=
  .next (if siteWatched s site ∧ !(s.flag (Reg.hotplug site)) then removeCart site s else s)

/-! Lane substitution (R91, R92). -/

/-- The slice that holds the swing of lane p's site. -/
def sliceOnSite (s : State) (l p : Nat) : Option (Slice × Nat) :=
  (s.rhs.slices.filterMap (fun (c : Slice) => match (targetsOf c.wing)[c.target]? with
    | some (.lane k q) => if k = l ∧ swingOf q = swingOf p ∧ isSwing q = false then some (c, q) else none
    | _ => none))[0]?

/-- The swing of lane p's site can take a lane over. -/
def swingFree (s : State) (l p : Nat) : Bool :=
  laneHealthy s l (swingOf p) && !(laneCarries s l (swingOf p)) &&
  !((s.link l).subs.any (fun u => decide (swingOf u.lane = swingOf p)))

/-- The lane that a returning swing stands for: a healthy working lane of its site that no logical lane uses. No message names it (R91);
DESIGN CHOICE, log entry 160: the return is a LANE_SUB of the swing, for the lowest such lane. -/
def heldLane (s : State) (l sw : Nat) : Option Nat :=
  (lanesOf l).find? (fun p => decide (swingOf p = sw) && !(isSwing p) && !(laneCarries s l p) && laneHealthy s l p)

/-- A swing returns to its tested lane. -/
def returnSwing (l sw : Nat) (mine : Bool) (s : State) : State :=
  match (s.link l).subs.find? (fun u => decide (u.onto = sw)) with
  | some u => startSub l sw u.lane mine s
  | none => match heldLane s l sw with
    | some q => if laneCarries s l sw then startSub l sw q mine s else s
    | none => s

/-- The substitution of a tested lane that neither direction has left yet is called off; one further on is undone by a return. -/
def callOff (l sw : Nat) (mine : Bool) (s : State) : State :=
  match (s.link l).subs.find? (fun u => decide (u.onto = sw)) with
  | some u => if u.tx < 2 ∧ u.rx < 2 then s.modLink l (fun k => { k with subs := k.subs.erase u }) else returnSwing l sw mine s
  | none => if (s.link l).subs.any (fun u => decide (u.lane = sw)) then s else returnSwing l sw mine s

/-- R92: rehearsal holds the swing; its lane returns at the next comma, and the swing then replaces lane p. -/
def takeSwing (l p : Nat) (mine : Bool) (s : State) : State := startSub l p (swingOf p) mine (callOff l (swingOf p) mine s)

/-- The swing of lane p's site is not free, and for no lane failure that this end knows of: rehearsal at the far end holds it. DEDUCED,
log entry 161. -/
def farHolds (s : State) (l p : Nat) : Bool :=
  let sw := swingOf p
  laneHealthy s l sw && !(isSwing p) &&
  match (s.link l).subs.find? (fun u => decide (swingOf u.lane = sw)) with
  | some u => decide (u.lane = sw) || (!u.mine && laneHealthy s l u.lane)
  | none => laneCarries s l sw && (heldLane s l sw).isSome

/-- A lane is to be replaced by its swing. -/
def replaceLane (l p : Nat) (mine : Bool) (s : State) : State :=
  match sliceOnSite s l p with
  | some (c, q) =>
    takeSwing l p mine (fireWaiting (abandonSlices (fun _ t => decide (t = .lane l q) && decide (c.wing = wingOfLink l)) s))
  | none =>
    if swingFree s l p then startSub l p (swingOf p) mine s
    else if farHolds s l p then takeSwing l p mine s
    else watchLink l (laneFails l p) s

/-- A lane whose uncorrectable codewords exceed the threshold (R91). -/
def overThreshold (s : State) (l p : Nat) : Bool :=
  s.flag (Reg.autoSub l) && decide (s.fld Reg.subThresh ≠ 0) && decide (s.fld Reg.subThresh < s.fld (Reg.laneUncorr l p)) &&
  laneCarries s l p && !(isSwing p)

/-- Mark a replaced lane and record it by policy (R507, R508). -/
def markReplaced (l p : Nat) (s : State) : State :=
  let s := if s.fld (Reg.rhsPolicy clsLane) = 1 then s.raise (Reg.laneRetired l p) else s.raise (Reg.laneSubst l p)
  recordFailure clsLane (inventoryLane l p) false s

/-- The end that finds a lane failing sends LANE_SUB (R91). -/
def requestSub (l p : Nat) (s : State) : State :=
  if (s.link l).subs.any (fun u => decide (u.lane = p)) then s
  else
    let free := swingFree s l p || (sliceOnSite s l p).isSome || farHolds s l p
    let s := replaceLane l p true s
    if free then markReplaced l p s else s

def execLaneSubRequest (l : Fin 14) (lane : Fin 34) (s : State) : Host.Outcome State Fault Refusal :=
  .next (if linkIn s l stUp ∧ onLink l lane ∧ overThreshold s l lane then requestSub l lane s else s)

/-- The request of this end proceeds in a collision (R92): on an edge link always, else by the lower chip identifier. -/
def ownSubFirst (s : State) (l : Nat) : Bool := decide (l < 8) || decide (myChip s < s.fld (Reg.farId l))

/-- LANE_SUB from the far end (R91, R92). -/
def takeSub (l p : Nat) (s : State) : State :=
  match (s.link l).subs.find? (fun u => decide (swingOf u.lane = swingOf p) && u.mine && decide (u.tx = 0)) with
  | some u =>
    if u.lane = p then s
    else if ownSubFirst s l then watchLink l (laneFails l p) s
    else
      let s := s.modLink l (fun k => { k with subs := k.subs.erase u })
      watchLink l (laneFails l u.lane) (startSub l p (swingOf p) false s)
  | none =>
    if isSwing p then returnSwing l p false s
    else if laneCarries s l p then replaceLane l p false s
    else s

def execLaneSubReceive (l : Fin 14) (lane : Fin 34) (s : State) : Host.Outcome State Fault Refusal :=
  .next (if linkIn s l stUp ∧ onLink l lane then takeSub l lane s else s)

def execLaneSubComma (l : Fin 14) (s : State) : Host.Outcome State Fault Refusal :=
  .next (if linkIn s l stUp then subComma l s else s)

/-- The window of the lanes' counts is over: 2^24 codewords have come on each lane in use (R91). -/
def windowOver (s : State) (l : Nat) : Bool := decide (2 ^ 24 * max 1 (s.fld (Reg.lnkWidth l)) ≤ (s.link l).windowCount)

/-- A window of 2^24 codewords ends (Table 03-9). -/
def execSubWindowEnd (l : Fin 14) (s : State) : Host.Outcome State Fault Refusal :=
  .next (if linksLive s ∧ windowOver s l then
      forEach (fun p s => (s.setFld (Reg.laneUncorr l p) 0).setFld (Reg.laneCorr l p) 0) (lanesOf l)
        (s.modLink l (fun k => { k with windowCount := 0 }))
    else s)

/-- A lane that carries traffic and has no swing to take it (R92). -/
def noSwingLeft (s : State) (l p : Nat) : Bool :=
  laneCarries s l p && !(swingFree s l p && !(isSwing p)) && (sliceOnSite s l p).isNone

def execLaneFailureNoSwing (l : Fin 14) (lane : Fin 34) (s : State) : Host.Outcome State Fault Refusal :=
  .next (if linkIn s l stUp ∧ noSwingLeft s l lane then watchLink l (laneFails l lane) s else s)

/-! LNKn_CTRL (Table 03-10). -/

def execLinkRetrain (l : Fin 14) (s : State) : Host.Outcome State Fault Refusal :=
  .next (if linkIn s l stUp then ownRetrain l s else s)

/-- R88: a full retrain of an enabled link that runs no loop and is not held DOWN by a refused cartridge (R97). -/
def retrainFull (l : Nat) (s : State) : State :=
  if s.fld (Reg.lnkState l) = stDisabled ∨ s.fld (Reg.lnkState l) = stTest ∨ linkRefused s l then s else watchLink l (fullRetrain l) s

def execLinkRetrainFull (l : Fin 14) (s : State) : Host.Outcome State Fault Refusal :=
  .next (if linksLive s then retrainFull l s else s)

/-- ENABLE = 0 (R89): DISABLED, the port Off and its sites unpowered (R59). The spec gives a link whose loop runs both DISABLED and TEST
(R94). DESIGN CHOICE, log entry 162: it stays in TEST and is DISABLED when the loop stops. -/
def disableLink (l : Nat) (s : State) : State :=
  let s := s.setFld (Reg.lnkEnable l) 0
  let s := if s.fld (Reg.lnkState l) = stDisabled ∨ s.fld (Reg.lnkState l) = stTest then s
    else takeDown l stDisabled causeDisabled .other s
  forEach settleSite (sitesOf l) (s.setFld (Reg.portState l) 3)

def execLinkDisable (l : Fin 14) (s : State) : Host.Outcome State Fault Refusal :=
  .next (if linksLive s ∧ s.flag (Reg.lnkEnable l) then disableLink l s else s)

/-- ENABLE from 0 to 1 (R62, R125): training starts, the grace counting as expired, with what its expiry does (R126, R175). -/
def enableLink (l : Nat) (s : State) : State :=
  let s := s.raise (Reg.lnkEnable l)
  let s := if (s.link l).grace = .expired then s else graceExpire l s
  if portOff s l ∨ s.fld (Reg.lnkState l) = stTest then s
  else freshTraining l (forEach settleSite (sitesOf l) (portUsed l s))

def execLinkEnable (l : Fin 14) (s : State) : Host.Outcome State Fault Refusal :=
  .next (if linksLive s ∧ !(s.flag (Reg.lnkEnable l)) then enableLink l s else s)

/-! Test loops (R94, R95). -/

/-- LANE values that LNKn_LOOP refuses. -/
def loopLaneBad (lane : Nat) : Bool := decide (34 ≤ lane ∧ lane ≤ 62)

/-- Start a loop: a far-end loop is asked for, and whether the far end accepts is open (log entry 5). -/
def startLoop (l mode lane : Nat) (s : State) : State :=
  let s := ((s.setFld (Reg.loopMode l) mode).setFld (Reg.loopLane l) lane)
  let s := setLinkState l stTest s
  if mode = 3 then
    takeFree ((emit (.linkMsg l (.loopRequest lane)) s).setFld (Reg.loopActive l) ((Config.freeByte s.free).toNat % 2))
  else s.raise (Reg.loopActive l)

/-- Stop a loop: the link is DOWN, or DISABLED by its ENABLE. -/
def stopLoop (l lane : Nat) (s : State) : State :=
  let s := ((s.setFld (Reg.loopMode l) 0).setFld (Reg.loopLane l) lane).setFld (Reg.loopActive l) 0
  if s.fld (Reg.lnkState l) ≠ stTest then s
  else if s.flag (Reg.lnkEnable l) then enterDown l stDown (if linkRefused s l then causeCartBad else s.fld (Reg.lnkCause l)) s
  else enterDown l stDisabled causeDisabled s

/-- A write of LNKn_LOOP (R95). -/
def writeLoop (l mode lane : Nat) (s : State) : State :=
  let st := s.fld (Reg.lnkState l)
  if loopLaneBad lane then s.raise Reg.lnkCfgErr
  else if mode = 0 ∧ (st = stTest ∨ st = stDown ∨ st = stDisabled) then stopLoop l lane s
  else if st = stDown ∨ st = stDisabled then startLoop l mode lane s
  else s.raise Reg.lnkLoopRefused

def execLoopModeWrite (l : Fin 14) (mode : Fin 4) (lane : Fin 64) (s : State) : Host.Outcome State Fault Refusal :=
  .next (if linksLive s then writeLoop l mode lane s else s)

/-- This end can loop back for the far end: while it could run a loop itself (R95 read for both ends). -/
def loopTaken (s : State) (l lane : Nat) : Bool :=
  decide (s.fld (Reg.lnkState l) = stDown ∨ s.fld (Reg.lnkState l) = stDisabled) && !(loopLaneBad lane)

/-- The far end asks for a loop; one that is accepted runs until the link leaves its state. DESIGN CHOICE, log entry 155. -/
def execFarLoopRequest (l : Fin 14) (lane : Fin 64) (s : State) : Host.Outcome State Fault Refusal :=
  .next (if linksLive s then
      let ok := loopTaken s l lane
      sendLinkMsg l (.loopAnswer ok) (if ok then s.modLink l (fun k => { k with farLoop := some lane.val, rxCount := 0 }) else s)
    else s)

end Sys2Proof.Machine
end

