-- ==== Sys2Proof/Machine/CueCommands.lean ====
section
/-! DEFINITION. The cue instructions (chapter 10): each row of the table names the sequencer whose instruction at the PC is of its
kind, and retries an instruction that waits. -/
namespace Sys2Proof.Machine

/-- Run the instruction at a sequencer's PC when it is of a kind. -/
def runAt (q : Nat) (is : Nat → Bool) (sem : Nat → Nat → State → State) (s : State) : State :=
  if linksLive s then runInsn q is (sem q) s else s

/-! Control instructions (R301 to R306). -/

def semNop (q _ : Nat) (s : State) : State := advance q s

def semBra (q w : Nat) (s : State) : State := branchTo q (bitsOf w 0 20) s

/-- BRC: bit PHASE of MASK chooses the branch. -/
def semBrc (q w : Nat) (s : State) : State :=
  if (bitsOf w 20 16).testBit (Ctr.phase (s.ctr (Isa.ctr0 w))) then branchTo q (bitsOf w 0 20) s else advance q s

/-- CALL (R304): the stack is judged before the target. DEDUCED, log entry 63. -/
def semCall (q w : Nat) (s : State) : State :=
  if 8 ≤ (s.theCtx q).stack.length then seqFaults q Err.stackFault s
  else branchTo q (bitsOf w 0 20) (s.modCtx q (fun c => { c with stack := (s.fld (Reg.seqPc q) + 1) :: c.stack }))

def semRet (q _ : Nat) (s : State) : State :=
  match (s.theCtx q).stack with
  | [] => seqFaults q Err.stackFault s
  | t :: r => branchTo q t (s.modCtx q (fun c => { c with stack := r }))

/-- The condition of a WAITC (R302). DEDUCED, log entry 60. -/
def waitMet (s : State) (q w : Nat) : Bool :=
  let c := s.ctr (Isa.ctr0 w)
  Ctr.settled c || (decide (Isa.mode w = 1) && decide ((s.theCtx q).sreg (Isa.ra0 w) ≤ c.progress % 2 ^ 32))

/-- A WAITC completes with the status word and the outcome; a clear comes after. -/
def endWaitKeep (q w : Nat) (met : Bool) (s : State) : State :=
  let word := (Ctr.word (s.ctr (Isa.ctr0 w))).toNat
  advance q (s.modCtx q (fun x => (x.setS (Isa.rd0 w) word).setP (Isa.pd0 w) met))

/-- The clear of SETTLED_CLEAR. -/
def clearWaited (w : Nat) (s : State) : State := if Isa.mode w = 2 then s.setCtr (Isa.ctr0 w) Ctr.init else s

/-- A WAITC completes: the status word, the outcome, the clear of SETTLED_CLEAR. -/
def endWait (q w : Nat) (met : Bool) (s : State) : State :=
  let s := endWaitKeep q w met s
  if met then clearWaited w s else s

/-- The wait of a sequencer has run out of time. -/
def timedOut (s : State) (q : Nat) : Bool :=
  let t := (s.theCtx q).until_
  decide (t ≠ 0) && decide (t ≤ s.now)

/-- WAITC: it completes, or the sequencer is WAITING from its issue on. -/
def semWaitc (q w : Nat) (s : State) : State :=
  if waitMet s q w then endWait q w true s
  else if s.fld (Reg.seqSt q) = sqWaiting then (if timedOut s q then endWait q w false s else s)
  else
    let t := bitsOf w 0 32
    (s.modCtx q (fun x => { x with until_ := if t = 0 then 0 else s.now + t })).setFld (Reg.seqSt q) sqWaiting

/-- A crossing takes a slot; one that had waited for it is remembered for the round robin (R275). -/
def takeSlot (q : Nat) (s : State) : State :=
  if (s.theCtx q).stall = 5 then s.modCue (fun k => { k with rr := q }) else s

/-- SIGC (R287): its chunk lands once every earlier tensor instruction has completed. -/
def semSigc (q w : Nat) (s : State) : State :=
  let c := Isa.ctr0 w
  if 4096 ≤ inFlight s then waitSlot q s
  else if Ctr.binds (s.ctr c) = false then stallAt q 9 s
  else
    let after := (flightsOf s q).map (fun f => f.id)
    let s := bindCtr c 1 (takeSlot q s)
    let g := Sig.mk s.cue.nextId c after (s.fld (Reg.seqProg q))
    let s := s.modCue (fun k => { k with nextId := k.nextId + 1, sigs := if after.isEmpty then k.sigs else k.sigs ++ [g] })
    advance q (if after.isEmpty then s.modCtr c (fun x => Ctr.finish (Ctr.land false x)) else s)

/-- DOZE of the sequencer itself (R303): at once when its time has come or, with a counter, when that is settled. DEDUCED, log entry 61.
-/
def semDozeSelf (q w : Nat) (s : State) : State :=
  let t := (s.theCtx q).sreg (Isa.ra0 w)
  if t ≤ s.now ∨ (Isa.mode w = 1 ∧ Ctr.settled (s.ctr (Isa.ctr0 w))) then advance q s
  else
    let s := (s.modCtx q (fun x => { x with until_ := t })).setFld (Reg.seqSt q) sqDozing
    sendToSleep (seqUnit q) 1 s

/-- Strips of 256 weight rows or batches of 256 rows that the work makes, none when every row is masked (R239, R241, R242). -/
def stripsOf (s : State) (o : Oper) : Nat :=
  let op := Isa.opc o.w
  let m := Desc.rows o.a
  if (List.range m).all (fun r => !(rowOn s o.a r)) then 0
  else if op = Isa.oMMA ∨ op = Isa.oMMAS then ceilDiv (Desc.rows o.b) 256
  else if op = Isa.oMMAG then
    ((List.range o.experts).filter (fun e => (List.range m).any (fun t => rowOn s o.a t && expertOn s o.c e t))).length *
      ceilDiv (Desc.rows o.b) 256
  else ceilDiv o.outShape.1 256

/-- The logical tiles that receive work (R239). -/
def workLogical (s : State) (o : Oper) : List Nat :=
  (List.range (min (stripsOf s o) (Desc.tileCount o.d))).map (fun i => Desc.tileFirst o.d + i)

/-- The tiles that receive work. -/
def workTiles (s : State) (o : Oper) : List Nat := (tilesOf s o.d).take (stripsOf s o)

/-- The operands of an instruction in flight. -/
def Flight.oper (f : Flight) : Oper :=
  let d := fun (i : Nat) => (f.descs[i]?).getD 0
  { w := f.word.toNat, d := d 0, a := d 1, b := d 2, c := d 3 }

/-- The physical tiles of an instruction in flight: those that it runs on, or those that the map names for it (R225). -/
def flightTiles (s : State) (f : Flight) : List Nat := f.tiles.getD (workTiles s f.oper)

/-- Extents in scratchpad order touch a wing. -/
def wingTouched (w : Nat) (es : List (Nat × Nat)) : Bool := es.any (fun e => (wingsOfSpan e.1 (e.2 - e.1)).contains w)

/-- The scratchpad of a wing has work: instructions, transfers and operations with extents in it, requests to it, a zeroing (R44). -/
def scratchBusy (s : State) (w : Nat) : Bool :=
  s.ten.flights.any (fun f => wingTouched w (f.reads ++ f.writes)) ||
  s.cue.xfers.any (fun x => wingTouched w [(x.sp, x.sp + x.len)]) ||
  s.col.ops.any (fun o => !o.ended && (wingTouched w (o.descs.map (fun d => Desc.extent d false)) ||
    decide (grpEngine s o.group / 4 = w))) ||
  s.swc.inbox.any (fun h => decide (spaceOf h.frame = 1) && decide (spWing (spaceOffset h.frame) = w)) ||
  s.ten.zeroing.any (fun z => decide (spWing z.1 = w))

/-- A unit holds work: a tile with a tensor instruction in flight on it or business load (R53), an engine with an operation, a sequencer
with a context, a channel with a request or a held write, or in the catch-up of its scrub (R204), a scratchpad with an access (R44, R45). -/
def unitBusy (s : State) (u : UnitId) : Bool :=
  match u with
  | .tile p => s.ten.flights.any (fun f => (flightTiles s f).contains p.val) || s.power.loadTiles.contains p.val
  | .eng e => s.col.ops.any (fun o => !o.ended && decide (grpEngine s o.group = e.val))
  | .seq q => (s.ctx q.val).isSome
  | .ddr c => s.swc.inbox.any (fun h => isPoolRequest h.frame && (reqChans s h.frame).contains c.val) || holdOnChan s c ||
      s.mem.catchUp.contains c.val
  | .scratch w => scratchBusy s w
  | .port _ => true

/-- PRM_HOLD_AWAKE keeps a unit from Dark (Table 02-8). -/
def heldAwake (s : State) (u : UnitId) : Bool :=
  match u with
  | .tile _ => (s.fld Reg.holdAwake).testBit 0
  | .eng _ => (s.fld Reg.holdAwake).testBit 1
  | .seq _ => (s.fld Reg.holdAwake).testBit 2
  | .ddr _ => (s.fld Reg.holdAwake).testBit 3
  | _ => false

/-- The state that a DOZE gives a unit now: Dark when it asks for it and PRM_HOLD_AWAKE does not forbid it (R45, R303). -/
def dozeState (s : State) (dark : Bool) (u : UnitId) : Nat := if dark && !(heldAwake s u) then 2 else 1

/-- A unit that DOZE names goes to sleep, unless it sleeps as deeply already. -/
def enterDoze (dark : Bool) (u : UnitId) (s : State) : State :=
  if unitState s u < dozeState s dark u then sendToSleep u (dozeState s dark u) s else s

/-- A unit that DOZE names: it sleeps at once, or when its work ends. -/
def dozeUnit (dark : Bool) (u : UnitId) (s : State) : State :=
  if unitBusy s u then s.modCue (fun k => { k with drowsy := k.drowsy ++ [(u, dark)] }) else enterDoze dark u s

/-- Units whose work has ended enter the state that a DOZE gave them. -/
def settleDoze (s : State) : State :=
  let ready := s.cue.drowsy.filter (fun d => !(unitBusy s d.1))
  forEach (fun (d : UnitId × Bool) s => enterDoze d.2 d.1 s) ready
    (s.modCue (fun k => { k with drowsy := k.drowsy.filter (fun d => !(ready.contains d)) }))

/-- DOZE of logical tiles. -/
def semDozeTiles (q w : Nat) (s : State) : State :=
  let first := bitsOf w 0 8
  let n := bitsOf w 8 8
  if n = 0 ∨ 232 < n ∨ 232 < first + n then seqFaults q Err.descFault s
  else
    let ps := ((List.range n).map (fun i => s.fld (Reg.tmap (first + i)))).filter (fun p => decide (p ≠ 0xFF))
    advance q (forEach (fun p s => dozeUnit ((w.testBit 16)) (tileUnit p) s) ps s)

/-- DOZE of engines. -/
def semDozeEngines (q w : Nat) (s : State) : State :=
  advance q (forEach (fun e s => dozeUnit (w.testBit 16) (engUnit e) s) ((List.range 16).filter (fun e => w.testBit e)) s)

/-- FENCE (R271). -/
def semFence (q _ : Nat) (s : State) : State := if (flightsOf s q).isEmpty then advance q s else stallAt q 0 s

def semTrap (q w : Nat) (s : State) : State := seqFaults q (Err.trap (bitsOf w 0 4)) s

/-- HALT (R305). -/
def semHalt (q _ : Nat) (s : State) : State :=
  if (flightsOf s q).isEmpty then pmcEvent evSeqIssue q 1 (dropCtx q s) else stallAt q 0 s

/-! Scalar instructions (R307). -/

/-- Operand b. -/
def operandB (c : Ctx) (w : Nat) : Nat := if Isa.immFlag1 w = 1 then Isa.imm w else c.sreg (Isa.rb1 w)

/-- A scalar instruction that writes s[RD]. -/
def semAlu (f : Nat → Nat → Nat) (q w : Nat) (s : State) : State :=
  let c := s.theCtx q
  advance q (s.modCtx q (fun x => x.setS (Isa.rd1 w) (f (c.sreg (Isa.ra1 w)) (operandB c w) % 2 ^ 64)))

def aluSub (a b : Nat) : Nat := a + 2 ^ 64 - b
def aluShl (a b : Nat) : Nat := a <<< (b % 64)
def aluShr (a b : Nat) : Nat := a >>> (b % 64)

/-- Write a value to an s or g register; a g register takes no reserved bit. -/
def writeDest (q w v : Nat) (s : State) : State :=
  if Isa.dcls w = 0 then advance q (s.modCtx q (fun x => x.setS (Isa.rd1 w) v))
  else if v / 2 ^ 16 ≠ 0 ∨ bitsOf v 12 3 ≠ 0 then seqFaults q Err.descFault s
  else advance q (s.modCtx q (fun x => x.setG (Isa.rd1 w) v))

def semLdis (q w : Nat) (s : State) : State :=
  if Isa.immFlag1 w = 0 ∨ Isa.ra1 w ≠ 0 ∨ Isa.rb1 w ≠ 0 then seqFaults q Err.descFault s else writeDest q w (Isa.imm w) s

def semMovs (q w : Nat) (s : State) : State :=
  let c := s.theCtx q
  writeDest q w (if Isa.acls w = 0 then c.sreg (Isa.ra1 w) else c.greg (Isa.ra1 w)) s

/-- COND of CMPS (Table 10-6). -/
def condHolds (k a b : Nat) : Bool :=
  match k with
  | 0 => decide (a = b)
  | 1 => decide (a ≠ b)
  | 2 => decide (signedOf 64 a < signedOf 64 b)
  | 3 => decide (signedOf 64 b ≤ signedOf 64 a)
  | 4 => decide (a < b)
  | _ => decide (b ≤ a)

def semCmps (q w : Nat) (s : State) : State :=
  let c := s.theCtx q
  advance q (s.modCtx q (fun x => x.setP (Isa.pd1 w) (condHolds (Isa.cond w) (c.sreg (Isa.ra1 w)) (operandB c w))))

/-! Memory and descriptor instructions (R308 to R314). -/

/-- A span lies within one footprint of the program that a sequencer runs. -/
def ownSpan (s : State) (q o n : Nat) : Bool :=
  (footOf s (s.fld (Reg.seqProg q))).any (fun r => decide (r.1 ≤ o) && decide (o + n ≤ r.1 + r.2))

/-- An access of `n` bytes at a window offset: it waits for the scratchpad and for overlapping tensor instructions (R49, R270). -/
def spAccess (q o n : Nat) (write : Bool) (act : State → State) (s : State) : State :=
  if spanAwake s o n = false then stallAt q 0 (wakeSpan o n s)
  else if (if write then flightTouches s q (o, o + n) else flightWrites s q (o, o + n)) then stallAt q 0 s
  else act s

/-- The effective address of LDS and STS. -/
def effAddr (s : State) (q w : Nat) : Nat := ((s.theCtx q).sreg (Isa.ra2 w) + Isa.imm w) % 2 ^ 64

/-- The address names this chip, is below its window and aligned to 8. -/
def addrOk (s : State) (a : Nat) : Bool :=
  decide (bitsOf a 48 12 = myChip s) && decide (bitsOf a 45 3 = 0) && decide (a % 8 = 0)

/-- A read that meets an uncorrectable word logs it and faults. -/
def guardRead (q o n : Nat) (act : State → State) (s : State) : State :=
  match firstBadWord s o n with
  | some b => seqFaults q Err.memUncorr (logBadWord b s)
  | none => act s

def semLds (q w : Nat) (s : State) : State :=
  let a := effAddr s q w
  let o := a % 2 ^ 45
  if addrOk s a ∧ a / 2 ^ 60 = 2 ∧ o + 8 ≤ 0x10000 then
    advance q (s.modCtx q (fun x => x.setS (Isa.rd2 w) (leNat (statusBytes s o 8))))
  else if addrOk s a ∧ a / 2 ^ 60 = 1 ∧ ownSpan s q o 8 then
    spAccess q o 8 false (guardRead q o 8 (fun s =>
      let v := veiled none s
      advance q ((countRowReads [(o, o + 8)] (readFrom v s)).modCtx q (fun x => x.setS (Isa.rd2 w) (leNat (spRead v o 8)))))) s
  else seqFaults q Err.memRange s

def semSts (q w : Nat) (s : State) : State :=
  let a := effAddr s q w
  let o := a % 2 ^ 45
  if addrOk s a ∧ a / 2 ^ 60 = 1 ∧ ownSpan s q o 8 then
    spAccess q o 8 true (guardRead q o 8 (fun s =>
      advance q (spWrite o (leBytes 8 ((s.theCtx q).sreg (Isa.rb2 w))) s))) s
  else seqFaults q Err.memRange s

/-- The value of DSET and DADD. -/
def fieldValue (c : Ctx) (w : Nat) : Nat := if Isa.immFlag2 w = 1 then Isa.imm w else c.sreg (Isa.rb2 w)

def semDset (q w : Nat) (s : State) : State :=
  let v := fieldValue (s.theCtx q) w
  let n := Isa.selWidth (Isa.sel w)
  if Isa.sel w = 15 then
    (if v ≠ 0 then seqFaults q Err.descFault s else advance q (s.modCtx q (fun x => x.setD (Isa.dd w) 0)))
  else if 2 ^ n ≤ v then seqFaults q Err.descFault s
  else advance q (s.modCtx q (fun x => x.setD (Isa.dd w) (Desc.put (x.dreg (Isa.dd w)) (selLow (Isa.sel w)) n v)))

def semDadd (q w : Nat) (s : State) : State :=
  let c := s.theCtx q
  let n := Isa.selWidth (Isa.sel w)
  let lo := selLow (Isa.sel w)
  let v : Int := (Desc.f (c.dreg (Isa.dd w)) lo n : Int) + signedOf 64 (fieldValue c w)
  if v < 0 ∨ (2 ^ n : Int) ≤ v then seqFaults q Err.descFault s
  else advance q (s.modCtx q (fun x => x.setD (Isa.dd w) (Desc.put (x.dreg (Isa.dd w)) lo n v.toNat)))

def semDcopyReg (q w : Nat) (s : State) : State :=
  advance q (s.modCtx q (fun x => x.setD (Isa.dd w) (x.dreg (Isa.da w))))

/-- The window offset of DCOPY is a multiple of 32 in a footprint. -/
def descSpan (s : State) (q o : Nat) : Bool := decide (o % 32 = 0) && ownSpan s q o 32

def semDcopyLoad (q w : Nat) (s : State) : State :=
  let o := effAddr s q w
  if descSpan s q o = false then seqFaults q Err.memRange s
  else spAccess q o 32 false (guardRead q o 32 (fun s =>
    let seen := veiled none s
    let v := leNat (spRead seen o 32)
    let s := countRowReads [(o, o + 32)] (readFrom seen s)
    if bitsOf v 38 2 ≠ 0 ∨ v / 2 ^ 224 ≠ 0 then seqFaults q Err.descFault s
    else advance q (s.modCtx q (fun x => x.setD (Isa.dd w) (BitVec.ofNat 256 v))))) s

def semDcopyStore (q w : Nat) (s : State) : State :=
  let o := effAddr s q w
  if descSpan s q o = false then seqFaults q Err.memRange s
  else spAccess q o 32 true (fun s => advance q (spWrite o (leBytes 32 ((s.theCtx q).dreg (Isa.da w)).toNat) s)) s

/-- Operands of a transfer that R313 accepts. -/
def xferOk (s : State) (q len sp fa : Nat) : Bool :=
  decide (16 ≤ len ∧ len ≤ 2 ^ 28) && decide (len % 16 = 0) && decide (sp % 16 = 0) && ownSpan s q sp len &&
  decide (fa / 2 ^ 60 = 0) && decide (bitsOf fa 47 1 = 0) && decide (fa % 16 = 0) && decide (fa % 2 ^ 48 + len ≤ 2 ^ 47)

/-- The destination of a PFETCH is a result extent (R272, R313). -/
def addFetched (x : Xfer) (s : State) : State := if x.spill then s else addResult x.ctr x.id (x.sp, x.sp + x.len) s

/-- Steps 3, 4, 5 and 9 of Table 09-6 for a transfer, then its first pieces. -/
def judgeXfer (spill : Bool) (q w : Nat) (s : State) : State :=
  let c := s.theCtx q
  let len := c.sreg (Isa.rd2 w)
  let sp := c.sreg (Isa.ra2 w)
  let fa := c.sreg (Isa.rb2 w)
  let ctr := Isa.ctr2 w
  let n := ceilDiv len 4096
  if xferOk s q len sp fa = false ∨ 2 ^ 32 ≤ Ctr.targetAfter n (s.ctr ctr) then refuse q ctr Err.descFault s
  else if 4096 ≤ inFlight s then waitSlot q s
  else if Ctr.binds (s.ctr ctr) = false then stallAt q 9 s
  else
    let id := s.cue.nextId
    let x := Xfer.mk id ctr spill sp (bitsOf fa 48 12) (fa % 2 ^ 47) len 0 0 0 (q / 16) (s.fld (Reg.seqProg q))
    let s := addFetched x (bindCtr ctr n (takeSlot q s))
    sendPieces id 16 (advance q (s.modCue (fun k => { k with nextId := id + 1, xfers := k.xfers ++ [x] })))

/-- PFETCH and PSPILL (R313). DEDUCED, log entry 66. -/
def semXfer (spill : Bool) (q w : Nat) (s : State) : State := judged (Isa.ctr2 w) (judgeXfer spill) q w s

/-- The lowest free range of a size in a footprint over live allocations (R314). -/
def findAlloc (base size n : Nat) (live : List (Nat × Nat)) : Option Nat :=
  let ok := fun (o : Nat) => decide (o + n ≤ base + size) && live.all (fun a => decide (o + n ≤ a.1) || decide (a.1 + a.2 ≤ o))
  let cands := (base :: live.map (fun a => a.1 + a.2)).filter ok
  match cands with
  | [] => none
  | o :: t => some (t.foldl min o)

def semAlloc (q w : Nat) (s : State) : State :=
  let size := (s.theCtx q).sreg (Isa.ra2 w)
  let p := s.fld (Reg.seqProg q)
  let wing := Isa.wing w
  if size = 0 ∨ 134217728 < size then seqFaults q Err.descFault s
  else
    let n := (size + 255) / 256 * 256
    let live := (((s.prog p).map (fun x => x.allocs)).getD []).map (fun a => (a.2.1, a.2.2))
    let got := (((footOf s p).find? (fun r => decide (spWing r.1 = wing)))).bind (fun r => findAlloc r.1 r.2 n live)
    match got with
    | none => advance q (s.modCtx q (fun x => (x.setS (Isa.rd2 w) (2 ^ 64 - 1)).setP (Isa.pd2 w) false))
    | some o =>
      let s := s.setProg p ((s.prog p).map (fun x => { x with allocs := x.allocs ++ [(wing, o, n)] }))
      advance q (s.modCtx q (fun x => (x.setS (Isa.rd2 w) o).setP (Isa.pd2 w) true))

def semFree (q w : Nat) (s : State) : State :=
  let o := (s.theCtx q).sreg (Isa.ra2 w)
  let p := s.fld (Reg.seqProg q)
  if (((s.prog p).map (fun x => x.allocs)).getD []).any (fun a => decide (a.2.1 = o)) then
    advance q (s.setProg p ((s.prog p).map (fun x => { x with allocs := x.allocs.filter (fun a => decide (a.2.1 ≠ o)) })))
  else seqFaults q Err.descFault s

/-! Tensor instructions (R315 to R322). -/

/-- The descriptors that the word names, read at issue (R312). -/
def operOf (c : Ctx) (w : Nat) : Oper :=
  { w := w, d := c.dreg (Isa.dst w), a := c.dreg (Isa.srcA w), b := c.dreg (Isa.srcB w), c := c.dreg (Isa.srcC w) }

/-- The tiles that an instruction names as units. -/
def operTiles (s : State) (o : Oper) : List UnitId := (tilesOf s o.d).map tileUnit

/-- One of the tiles that an instruction names is not current (R291). -/
def tilesStale (s : State) (o : Oper) : Bool := (operTiles s o).any (unitStale s)

/-- A tensor part issues to its tiles, which are woken (R49, R269) and drop their business load (R53). -/
def launch (q : Nat) (o : Oper) (extra : List Desc) (writes : List (Nat × Nat)) (cross : Option Nat) (s : State) : State :=
  let f := Flight.mk s.ten.nextFlight q (s.fld (Reg.seqPc q)) (BitVec.ofNat 128 o.w) ([o.d, o.a, o.b, o.c] ++ extra) o.reads writes cross
    (s.fld (Reg.seqProg q)) true none
  let s := s.modPower (fun p => { p with loadTiles := p.loadTiles.filter (fun t => !((workTiles s o).contains t)) })
  forEach (fun p s => wakeUnit (tileUnit p) s) (workTiles s o)
    (s.modTen (fun t => { t with nextFlight := t.nextFlight + 1, flights := t.flights ++ [f] }))

/-- A FMT 3 instruction: the checks of Table 08-4 and Table 10-11, STALE tiles, then the tiles run it. -/
def semTensor (q w : Nat) (s : State) : State :=
  let o := operOf (s.theCtx q) w
  if (o.ok s (footOf s (s.fld (Reg.seqProg q))) && o.shapeOk) = false then seqFaults q Err.descFault s
  else if tilesStale s o then seqFaults q Err.stale (countStale Err.stale (forEach wakeUnit (operTiles s o) s))
  else advance q (launch q o [] o.writes none s)

/-! Crossings (R273, R274, R323 to R327). -/

/-- The handle of the crossing names a group that is defined here with this chip a member (step 2). -/
def groupOf (s : State) (q w : Nat) : Option Nat :=
  let h := (s.theCtx q).greg (Isa.greg w)
  let g := h % 4096
  if h.testBit 15 ∧ grpValid s g ∧ boxOk s (grpWords s g) then some g else none

/-- The contribution format is allowed (R324, Table 10-15). -/
def contribFmtOk (w f : Nat) : Bool :=
  let x := Isa.xmode w
  (if Isa.epi w = 0 then true else if Isa.epi w = 7 then decide (f = 9) else decide (f = 7 ∨ f = 8)) &&
  (decide (f = 5 ∨ f = 6 ∨ f = 7 ∨ f = 8 ∨ f = 9 ∨ f = 11) ||
    (isMx f && decide (x = Isa.xGATHER ∨ x = Isa.xEXCHANGE ∨ x = Isa.xBROADCAST ∨ x = Isa.xROUTE))) &&
  (decide (Isa.xop w < 3) || decide (f = 11))

/-- dst has the format that the epilogue gives (Table 10-16). -/
def dstFmtOk (w f : Nat) : Bool :=
  let e := Isa.epi w
  if e = 0 then true
  else if e ≤ 3 then isV f
  else if e = 4 ∨ e = 6 then decide (f = 5 ∨ f = 6)
  else if e = 5 then decide (f = 0)
  else decide (f = 9)

/-- The residual or gain of an epilogue: V, of its shape, well formed and in the footprint (R325). -/
def sideOk (foot : List (Nat × Nat)) (d : Desc) (rows cols : Nat) : Bool :=
  isV (Desc.fmt d) && !(Desc.sparse d) && Desc.wellFormed d false && decide (Desc.rows d = rows) && decide (Desc.cols d = cols) &&
  inFootprint foot (Desc.extent d false)

/-- The epilogue word is accepted (Table 10-15). -/
def epilogueOk (o : Oper) (foot : List (Nat × Nat)) (res gain : Desc) : Bool :=
  let e := Isa.epi o.w
  let m := o.outShape.1
  let c := o.outShape.2
  (!(decide (e = 1 ∨ e = 3 ∨ e = 6)) || sideOk foot res m c) && (!(decide (e = 2 ∨ e = 3 ∨ e = 6)) || sideOk foot gain 1 c) &&
  (!(decide (e = 2 ∨ e = 3 ∨ e = 6)) || posFinite (Isa.epiEps o.w)) &&
  (!(decide (e = 3 ∨ e = 6)) || !(overlaps (Desc.extent res false) (Desc.extent o.d false)))

/-- Bytes of route log that the staging of a group holds beyond four slots and the fixed part (R334). -/
def routeRoom (s : State) (g : Nat) : Nat :=
  let ch := grpChunk s g
  let p := if grpSched s g = schedLong then 2 else max (grpLen s g 0) (max (grpLen s g 1) (grpLen s g 2)) - 1
  let slot := grpWindow s g * ch * (1 + (edgePorts s g).length + p)
  grpF s g 128 12 * 65536 - 4 * slot - 16 * grpEpm s g * boxSize s g * grpCap s g

/-- The shapes that the mode requires (Table 10-14, R353 to R356). -/
def modeShapeOk (s : State) (g : Nat) (o : Oper) : Bool :=
  let x := Isa.xmode o.w
  let n := max 1 (grpNmem s g)
  let m := o.outShape.1
  let c := o.outShape.2
  let d := (Desc.rows o.d, Desc.cols o.d)
  let slots := grpEpm s g * boxSize s g * grpCap s g
  if x = Isa.xREDUCE ∧ Isa.epi o.w = 7 then decide (d = (m, 2))
  else if x = Isa.xREDUCE ∨ x = Isa.xBROADCAST ∨ x = Isa.xSELECT then decide (d = (m, c))
  else if x = Isa.xSCATTER then decide (c % n = 0) && decide (d = (m, c / n))
  else if x = Isa.xGATHER then decide (d = (m, n * c))
  else if x = Isa.xEXCHANGE then decide (c % n = 0) && decide (d = (m, c)) && (!(isMx o.outFmt) || decide (c / n % 32 = 0))
  else if x = Isa.xROUTE then
    decide (grpEpm s g ≠ 0) && Desc.masked o.d && decide (d = (slots, c)) && decide (Desc.fmt o.c = 9) && Desc.masked o.c &&
    !(Desc.sparse o.c) && decide (Desc.cols o.c = m) && decide (Desc.rows o.c ≤ n * grpEpm s g) && decide (8 * m ≤ routeRoom s g)
  else decide (grpEpm s g ≠ 0) && (s.grp g).routeEnded && decide (m = slots) && decide (Desc.cols o.d = c)

/-- Bytes of the contribution. -/
def contribBytes (o : Oper) : Nat :=
  let m := o.outShape.1
  if Isa.xmode o.w = Isa.xSELECT then m * o.outShape.2 * 8
  else m * rowLen (decide (Isa.epi o.w = 7)) o.outFmt o.outShape.2

/-- Step 3 for a cue. -/
def cueOk (s : State) (q g : Nat) (o : Oper) (res gain : Desc) : Bool :=
  let foot := footOf s (s.fld (Reg.seqProg q))
  o.ok s foot && contribFmtOk o.w o.outFmt && dstFmtOk o.w (Desc.fmt o.d) && epilogueOk o foot res gain && modeShapeOk s g o &&
  decide (ceilDiv (contribBytes o) (grpChunk s g) ≤ 65536)

/-- FMT of the signature (Table 10-17). DEDUCED, log entry 64. -/
def sigFmt (o : Oper) : Nat := if Isa.xmode o.w = Isa.xSELECT then Desc.fmt o.d else o.outFmt
def sigCount (o : Oper) : Nat :=
  let x := Isa.xmode o.w
  let m := o.outShape.1
  if x = Isa.xROUTE ∨ x = Isa.xMERGE then o.outShape.2
  else if x = Isa.xREDUCE ∧ Isa.epi o.w = 7 then 2 * m
  else m * o.outShape.2

/-- The units that the work of an operation needs: its engine, and the scratchpad where its result lands (R49). -/
def opUnits (s : State) (o : Op) : List UnitId :=
  let d := Desc.extent (o.desc 0) false
  engUnit (grpEngine s o.group) :: (wingsOfSpan d.1 (d.2 - d.1)).map spUnit

/-- The record of the operation that a crossing would issue now. -/
def newOp (s : State) (q g sig fmt rows cols : Nat) (w : Nat) (descs : List Desc) : Op :=
  Op.mk s.cue.nextId g (s.fld (Reg.grpOpseq g)) (Isa.ctr3 w) (s.fld (Reg.seqProg q)) (BitVec.ofNat 128 w) descs sig fmt rows cols none
    (List.replicate rows true) [] [] [] [] [] [] [] 0 [] [] [] [] [] [] s.now false

/-- An operation enters the chip: its record, the counts of its group and engine, the next OPSEQ, its counter (R274, R276), and with SVC = 1
the cells of its circuits (R182). -/
def openOp (q g n sig fmt rows cols : Nat) (w : Nat) (descs : List Desc) (s : State) : State :=
  let id := s.cue.nextId
  let seq := s.fld (Reg.grpOpseq g)
  let ctr := Isa.ctr3 w
  let o := newOp s q g sig fmt rows cols w descs
  let s := if Isa.svc w = 1 then addLoads o s else s
  let s := forEach (addResult ctr id) (resultExtents o) (bindCtr ctr n (takeSlot q s))
  let s := (s.setFld (Reg.grpOpseq g) (seq + 1)).setFld (Reg.grpOps g) (s.fld (Reg.grpOps g) + 1)
  let e := grpEngine s g
  let s := s.setFld (Reg.engOps e) (s.fld (Reg.engOps e) + 1)
  abortKnown id (forEach wakeUnit (opUnits s o) ((s.modCue (fun k => { k with nextId := id + 1 })).modCol (fun c => { c with ops := c.ops ++ [o] })))

/-- Frames that were held for an operation meet it at its issue (R339, R361). -/
def takeEarly (id g n : Nat) (s : State) : State :=
  let mine := (s.grp g).early.filter (fun e => decide (e.1 = n))
  forEach (fun (e : Nat × Frame) s => takeColFrame id e.2 s) mine
    (s.modGrp g (fun x => { x with early := x.early.filter (fun e => decide (e.1 ≠ n)) }))

/-- Issue of a crossing that has passed steps 1 to 3 (Table 09-6): the rest of the steps, then its launch. SWC_ADMIT_FAIL counts the cues
that R181 refuses; one whose mode takes no circuit is refused by R340. -/
def crossIssue (q g n w : Nat) (tiles : List UnitId) (admitted : Bool) (go : State → State) (s : State) : State :=
  let ctr := Isa.ctr3 w
  let stale := (engUnit (grpEngine s g) :: tiles).filter (unitStale s)
  if 2 ^ 32 ≤ Ctr.targetAfter n (s.ctr ctr) then refuse q ctr Err.descFault s
  else if 4096 ≤ inFlight s then waitSlot q s
  else if 2 ≤ (openOps s g).length then stallAt q 6 s
  else if !stale.isEmpty then refuse q ctr Err.stale (forEach wakeUnit stale s)
  else if !admitted then refuse q ctr Err.admitFail (if mayUseCircuits w then s.count Reg.admitFail else s)
  else if Ctr.binds (s.ctr ctr) = false then stallAt q 9 s
  else go s

/-- The issue steps of a cue, and its issue. -/
def judgeCue (q w : Nat) (s : State) : State :=
  let c := s.theCtx q
  let o := operOf c w
  let res := c.dreg (Isa.epiRes w)
  let gain := c.dreg (Isa.epiGain w)
  match groupOf s q w with
  | none => refuse q (Isa.ctr3 w) Err.descFault s
  | some g =>
    if cueOk s q g o res gain = false then refuse q (Isa.ctr3 w) Err.descFault s
    else
      let bytes := contribBytes o
      let n := boundChunks s g (Isa.xmode w) bytes
      let descs := [o.d, o.a, o.b, o.c, res, gain]
      let admitted := decide (Isa.svc w = 0) ||
        (mayUseCircuits w && circuitsAdmit s (newOp s q g 0 o.outFmt o.outShape.1 o.outShape.2 w descs))
      crossIssue q g n w (operTiles s o) admitted (fun s =>
        let id := s.cue.nextId
        let seq := s.fld (Reg.grpOpseq g)
        let sig := signature (Isa.xmode w) (Isa.xop w) (Isa.epi w) (sigFmt o) g (sigCount o) seq
        let s := joinRoute id g (openOp q g n sig o.outFmt o.outShape.1 o.outShape.2 w descs s)
        let s :=
          if Isa.xmode w = Isa.xBROADCAST ∧ grpBasepos s g ≠ 0 then feedOp id [] [] s
          else launch q o [res, gain] [] (some id) s
        advance q (takeEarly id g seq s)) s

/-- A cue (R273, R274): a tensor instruction with a crossing. -/
def semCue (q w : Nat) (s : State) : State := judged (Isa.ctr3 w) judgeCue q w s

/-- CURTAIN and ASIDE take one row of srcA and one of dst (R327). -/
def asideOk (s : State) (q w : Nat) (a d : Desc) : Bool :=
  let f := Desc.fmt a
  let foot := footOf s (s.fld (Reg.seqProg q))
  decide (Isa.opc w = Isa.oCURTAIN) ||
  (Desc.wellFormed a false && Desc.wellFormed d false && !(Desc.sparse a) && !(Desc.sparse d) && decide (f = 7 ∨ f = 8 ∨ f = 9 ∨ f = 11) &&
   decide (Desc.fmt d = f) && decide (Desc.rows a = 1) && decide (Desc.rows d = 1) && decide (Desc.cols a = Desc.cols d) &&
   decide (Desc.packedBytes a ≤ 64) && (!(decide (3 ≤ Isa.xop w ∧ Isa.xop w ≤ 5)) || decide (f = 11)) &&
   (!(decide (Isa.xop w = 6)) || (decide (f = 9) && decide (Desc.cols a % 2 = 0))) &&
   !(overlaps (Desc.extent a false) (Desc.extent d false)) &&
   inFootprint foot (Desc.extent a false) && inFootprint foot (Desc.extent d false))

/-- The own value of a CURTAIN or ASIDE enters the aside path; the values held for it are compared first (R358, R361). -/
def startAside (id : Nat) (s : State) : State :=
  match s.opById id with
  | none => s
  | some o =>
    let a := o.desc 1
    match (if Isa.opc o.w = Isa.oASIDE then firstBadWord s (Desc.base a) (Desc.packedBytes a) else none) with
    | some b => abortHere o Err.memUncorr (logBadWord b s)
    | none =>
      match (s.col.aside.find? (fun v => decide (v.group = o.group ∧ v.opseq = o.opseq ∧ v.sig ≠ o.sig))) with
      | some v => abortOp o Err.colMismatch (if v.phase = 0 then positionOf s o.group (myChip s) (v.index - 1)
          else positionOf s o.group (peerChip s o.group (v.phase - 1) v.index) 8) o.sig v.sig s
      | none =>
        let v := veiled (some id) s
        let data := if Isa.opc o.w = Isa.oASIDE then spRead v (Desc.base a) (Desc.packedBytes a) else []
        runAside o 4 0 (depositAside (AsideVal.mk o.group o.opseq 0 0 o.sig data) ((countRowReads [(Desc.base a, Desc.base a + data.length)] (readFrom v s)).modCtr o.ctr Ctr.start))

/-- The scratchpad under a descriptor is awake, or is woken (R49). -/
def extentAwake (s : State) (d : Desc) : Bool := spanAwake s (Desc.base d) (Desc.packedBytes d)
def wakeExtent (d : Desc) (s : State) : State := wakeSpan (Desc.base d) (Desc.packedBytes d) s

/-- The issue steps of a CURTAIN or ASIDE, and its issue. DEDUCED, log entry 65. -/
def judgeAside (q w : Nat) (s : State) : State :=
  let c := s.theCtx q
  let a := c.dreg (Isa.srcA w)
  let d := c.dreg (Isa.dst w)
  let aside := decide (Isa.opc w = Isa.oASIDE)
  match groupOf s q w with
  | none => refuse q (Isa.ctr3 w) Err.descFault s
  | some g =>
    if asideOk s q w a d = false then refuse q (Isa.ctr3 w) Err.descFault s
    else if aside && !(extentAwake s a && extentAwake s d) then stallAt q 0 (wakeExtent a (wakeExtent d s))
    else if aside && (flightWrites s q (Desc.extent a false) || flightTouches s q (Desc.extent d false)) then stallAt q 0 s
    else
      crossIssue q g 1 w [] (decide (Isa.svc w = 0)) (fun s =>
        let id := s.cue.nextId
        let seq := s.fld (Reg.grpOpseq g)
        let sig := signature (Isa.xmode w) (Isa.xop w) 0 (if aside then Desc.fmt a else 0) g (if aside then Desc.cols a else 0) seq
        advance q (startAside id (openOp q g 1 sig (if aside then Desc.fmt a else 0) 1 (if aside then Desc.cols a else 0) w [d, a] s))) s

/-- CURTAIN and ASIDE (R327). -/
def semAside (q w : Nat) (s : State) : State := judged (Isa.ctr3 w) judgeAside q w s

/-! All instructions, for the sequencers that wait (R275, R281, R302). -/

/-- The meaning of an instruction word. -/
def semAny (q w : Nat) (s : State) : State :=
  match Isa.opc w with
  | 0x00 => semNop q w s
  | 0x01 => semBra q w s
  | 0x02 => semBrc q w s
  | 0x03 => semCall q w s
  | 0x04 => semRet q w s
  | 0x05 => semWaitc q w s
  | 0x06 => semSigc q w s
  | 0x08 => semFence q w s
  | 0x0A => semHalt q w s
  | 0x40 => semLds q w s
  | 0x41 => semSts q w s
  | 0x44 => if Isa.sel w = 1 then semDcopyLoad q w s else semDcopyStore q w s
  | 0x45 => semXfer false q w s
  | 0x46 => semXfer true q w s
  | 0xA0 => semAside q w s
  | 0xA1 => semAside q w s
  | _ => semCue q w s

/-- The WAITC of a sequencer that can go on is met. -/
def waitReady (s : State) (q : Nat) : Bool :=
  decide (s.fld (Reg.seqSt q) = sqWaiting) && seqReady s q && waitMet s q (fetchWord s q)

/-- Waits that are met together resume with the same words, and each counter is cleared once, before anything binds it (R302). -/
def resumeWaits (s : State) : State :=
  let ready := ((List.range 64).filter (waitReady s)).map (fun q => (q, fetchWord s q))
  forEach (fun (x : Nat × Nat) s => clearWaited x.2 s) ready (forEach (fun (x : Nat × Nat) s => endWaitKeep x.1 x.2 true s) ready s)

/-- A STALLED sequencer tries its instruction again; one asleep whose wait is over is woken. -/
def retrySeq (q : Nat) (s : State) : State :=
  let st := s.fld (Reg.seqSt q)
  if unitState s (seqUnit q) ≠ 0 then
    (if st = sqStalled ∨ (st = sqWaiting ∧ (waitMet s q (fetchWord s q) ∨ timedOut s q)) then wakeUnit (seqUnit q) s else s)
  else if st = sqStalled then runInsn q (fun _ => true) (semAny q) s
  else s

/-- Waiting sequencers in their order: those that wait for a crossing slot last, in round robin. -/
def retryOrder (s : State) : List Nat :=
  (List.range 64).filter (fun q => !(stalledAt s 5 q)) ++
    ((List.range 64).map (fun i => (s.cue.rr + 1 + i) % 64)).filter (stalledAt s 5)

/-- The counter of an instruction that binds one. -/
def boundCtr (w : Nat) : Nat :=
  if Isa.opc w = 0x06 then Isa.ctr0 w else if Isa.opc w = 0x45 ∨ Isa.opc w = 0x46 then Isa.ctr2 w else Isa.ctr3 w

/-- Sequencers that wait at step 9 for a counter that takes bindings now. -/
def binders (s : State) : List Nat :=
  (List.range 64).filter (fun q => stalledAt s 9 q && Ctr.binds (s.ctr (boundCtr (fetchWord s q))))

/-- Crossings that wait for a counter that has settled bind in ascending sequencer index, all of them before anything else happens to the
counter: the first arms it, the others join (R281, R284). -/
def resumeBinders (s : State) : State :=
  let qs := binders s
  let cs := (qs.map (fun q => boundCtr (fetchWord s q))).eraseDups
  forEach (fun c s => s.modCtr c Ctr.settleCycle) cs (forEach retrySeq qs (forEach (fun c s => s.modCtr c Ctr.hold) cs s))

/-- What an event frees goes on: waits that are met, instructions that are stalled, units that a DOZE has named. DESIGN CHOICE, log
entry 82. -/
def resumeAll (s : State) : State :=
  if linksLive s then
    let s := resumeBinders (sendXfers (resumeWaits s))
    settleDoze (forEach retrySeq (retryOrder s) s)
  else s

/-! The rows. -/

/-- FMT 3 with an opcode. -/
def isTensor (o w : Nat) : Bool := decide (Isa.opc w = o) && decide (Isa.fmt w = 3)
/-- A cue of a mode. -/
def isCue (x w : Nat) : Bool := decide (Isa.fmt w = 4) && decide (Isa.opc w ≤ 0x6E) && decide (Isa.xmode w = x)
def isMode (o m w : Nat) : Bool := decide (Isa.opc w = o) && decide (Isa.mode w = m)
def isSel (m w : Nat) : Bool := decide (Isa.opc w = 0x44) && decide (Isa.sel w = m)

def execNop (q : Fin 64) (s : State) : Host.Outcome State Fault Refusal :=
  .next (runAt q (isOp 0x00) semNop s)

def execBra (q : Fin 64) (s : State) : Host.Outcome State Fault Refusal :=
  .next (runAt q (isOp 0x01) semBra s)

def execBrc (q : Fin 64) (s : State) : Host.Outcome State Fault Refusal :=
  .next (runAt q (isOp 0x02) semBrc s)

def execCallTo (q : Fin 64) (s : State) : Host.Outcome State Fault Refusal :=
  .next (runAt q (isOp 0x03) semCall s)

def execRet (q : Fin 64) (s : State) : Host.Outcome State Fault Refusal :=
  .next (runAt q (isOp 0x04) semRet s)

def execWaitcSettled (q : Fin 64) (s : State) : Host.Outcome State Fault Refusal :=
  .next (runAt q (isMode 0x05 0) semWaitc s)

def execWaitcProgress (q : Fin 64) (s : State) : Host.Outcome State Fault Refusal :=
  .next (runAt q (isMode 0x05 1) semWaitc s)

def execWaitcSettledClear (q : Fin 64) (s : State) : Host.Outcome State Fault Refusal :=
  .next (runAt q (isMode 0x05 2) semWaitc s)

def execSigc (q : Fin 64) (s : State) : Host.Outcome State Fault Refusal :=
  .next (runAt q (isOp 0x06) semSigc s)

def execDozeSelf (q : Fin 64) (s : State) : Host.Outcome State Fault Refusal :=
  .next (runAt q (isMode 0x07 0) semDozeSelf s)

def execDozeSelfCtr (q : Fin 64) (s : State) : Host.Outcome State Fault Refusal :=
  .next (runAt q (isMode 0x07 1) semDozeSelf s)

def execDozeTiles (q : Fin 64) (s : State) : Host.Outcome State Fault Refusal :=
  .next (runAt q (isMode 0x07 2) semDozeTiles s)

def execDozeEngines (q : Fin 64) (s : State) : Host.Outcome State Fault Refusal :=
  .next (runAt q (isMode 0x07 3) semDozeEngines s)

def execFence (q : Fin 64) (s : State) : Host.Outcome State Fault Refusal :=
  .next (runAt q (isOp 0x08) semFence s)

def execTrap (q : Fin 64) (s : State) : Host.Outcome State Fault Refusal :=
  .next (runAt q (isOp 0x09) semTrap s)

def execHalt (q : Fin 64) (s : State) : Host.Outcome State Fault Refusal :=
  .next (runAt q (isOp 0x0A) semHalt s)

def execAdds (q : Fin 64) (s : State) : Host.Outcome State Fault Refusal :=
  .next (runAt q (isOp 0x20) (semAlu (· + ·)) s)

def execSubs (q : Fin 64) (s : State) : Host.Outcome State Fault Refusal :=
  .next (runAt q (isOp 0x21) (semAlu aluSub) s)

def execMuls (q : Fin 64) (s : State) : Host.Outcome State Fault Refusal :=
  .next (runAt q (isOp 0x22) (semAlu (· * ·)) s)

def execAnds (q : Fin 64) (s : State) : Host.Outcome State Fault Refusal :=
  .next (runAt q (isOp 0x23) (semAlu Nat.land) s)

def execOrs (q : Fin 64) (s : State) : Host.Outcome State Fault Refusal :=
  .next (runAt q (isOp 0x24) (semAlu Nat.lor) s)

def execXors (q : Fin 64) (s : State) : Host.Outcome State Fault Refusal :=
  .next (runAt q (isOp 0x25) (semAlu Nat.xor) s)

def execShls (q : Fin 64) (s : State) : Host.Outcome State Fault Refusal :=
  .next (runAt q (isOp 0x26) (semAlu aluShl) s)

def execShrs (q : Fin 64) (s : State) : Host.Outcome State Fault Refusal :=
  .next (runAt q (isOp 0x27) (semAlu aluShr) s)

def execLdis (q : Fin 64) (s : State) : Host.Outcome State Fault Refusal :=
  .next (runAt q (isOp 0x28) semLdis s)

def execMovs (q : Fin 64) (s : State) : Host.Outcome State Fault Refusal :=
  .next (runAt q (isOp 0x29) semMovs s)

def execCmps (q : Fin 64) (s : State) : Host.Outcome State Fault Refusal :=
  .next (runAt q (isOp 0x2A) semCmps s)

def execLds (q : Fin 64) (s : State) : Host.Outcome State Fault Refusal :=
  .next (runAt q (isOp 0x40) semLds s)

def execSts (q : Fin 64) (s : State) : Host.Outcome State Fault Refusal :=
  .next (runAt q (isOp 0x41) semSts s)

def execDset (q : Fin 64) (s : State) : Host.Outcome State Fault Refusal :=
  .next (runAt q (isOp 0x42) semDset s)

def execDadd (q : Fin 64) (s : State) : Host.Outcome State Fault Refusal :=
  .next (runAt q (isOp 0x43) semDadd s)

def execDcopyReg (q : Fin 64) (s : State) : Host.Outcome State Fault Refusal :=
  .next (runAt q (isSel 0) semDcopyReg s)

def execDcopyLoad (q : Fin 64) (s : State) : Host.Outcome State Fault Refusal :=
  .next (runAt q (isSel 1) semDcopyLoad s)

def execDcopyStore (q : Fin 64) (s : State) : Host.Outcome State Fault Refusal :=
  .next (runAt q (isSel 2) semDcopyStore s)

def execPfetch (q : Fin 64) (s : State) : Host.Outcome State Fault Refusal :=
  .next (runAt q (isOp 0x45) (semXfer false) s)

def execPspill (q : Fin 64) (s : State) : Host.Outcome State Fault Refusal :=
  .next (runAt q (isOp 0x46) (semXfer true) s)

def execAlloc (q : Fin 64) (s : State) : Host.Outcome State Fault Refusal :=
  .next (runAt q (isOp 0x47) semAlloc s)

def execFreeI (q : Fin 64) (s : State) : Host.Outcome State Fault Refusal :=
  .next (runAt q (isOp 0x48) semFree s)

def execMma (q : Fin 64) (s : State) : Host.Outcome State Fault Refusal :=
  .next (runAt q (isTensor Isa.oMMA) semTensor s)

def execMmas (q : Fin 64) (s : State) : Host.Outcome State Fault Refusal :=
  .next (runAt q (isTensor Isa.oMMAS) semTensor s)

def execMmag (q : Fin 64) (s : State) : Host.Outcome State Fault Refusal :=
  .next (runAt q (isTensor Isa.oMMAG) semTensor s)

def execEwa (q : Fin 64) (s : State) : Host.Outcome State Fault Refusal :=
  .next (runAt q (isTensor Isa.oEWA) semTensor s)

def execEwf (q : Fin 64) (s : State) : Host.Outcome State Fault Refusal :=
  .next (runAt q (isTensor Isa.oEWF) semTensor s)

def execRed (q : Fin 64) (s : State) : Host.Outcome State Fault Refusal :=
  .next (runAt q (isTensor Isa.oRED) semTensor s)

def execNorm (q : Fin 64) (s : State) : Host.Outcome State Fault Refusal :=
  .next (runAt q (isTensor Isa.oNORM) semTensor s)

def execSmax (q : Fin 64) (s : State) : Host.Outcome State Fault Refusal :=
  .next (runAt q (isTensor Isa.oSMAX) semTensor s)

def execTopk (q : Fin 64) (s : State) : Host.Outcome State Fault Refusal :=
  .next (runAt q (isTensor Isa.oTOPK) semTensor s)

def execGate (q : Fin 64) (s : State) : Host.Outcome State Fault Refusal :=
  .next (runAt q (isTensor Isa.oGATE) semTensor s)

def execQnt (q : Fin 64) (s : State) : Host.Outcome State Fault Refusal :=
  .next (runAt q (isTensor Isa.oQNT) semTensor s)

def execCvt (q : Fin 64) (s : State) : Host.Outcome State Fault Refusal :=
  .next (runAt q (isTensor Isa.oCVT) semTensor s)

def execCopy (q : Fin 64) (s : State) : Host.Outcome State Fault Refusal :=
  .next (runAt q (isTensor Isa.oCOPY) semTensor s)

def execGatheri (q : Fin 64) (s : State) : Host.Outcome State Fault Refusal :=
  .next (runAt q (isTensor Isa.oGATHERI) semTensor s)

def execSample (q : Fin 64) (s : State) : Host.Outcome State Fault Refusal :=
  .next (runAt q (isTensor Isa.oSAMPLE) semTensor s)

def execCueReduce (q : Fin 64) (s : State) : Host.Outcome State Fault Refusal :=
  .next (runAt q (isCue Isa.xREDUCE) semCue s)

def execCueScatter (q : Fin 64) (s : State) : Host.Outcome State Fault Refusal :=
  .next (runAt q (isCue Isa.xSCATTER) semCue s)

def execCueGather (q : Fin 64) (s : State) : Host.Outcome State Fault Refusal :=
  .next (runAt q (isCue Isa.xGATHER) semCue s)

def execCueExchange (q : Fin 64) (s : State) : Host.Outcome State Fault Refusal :=
  .next (runAt q (isCue Isa.xEXCHANGE) semCue s)

def execCueRoute (q : Fin 64) (s : State) : Host.Outcome State Fault Refusal :=
  .next (runAt q (isCue Isa.xROUTE) semCue s)

def execCueMerge (q : Fin 64) (s : State) : Host.Outcome State Fault Refusal :=
  .next (runAt q (isCue Isa.xMERGE) semCue s)

def execCueBroadcast (q : Fin 64) (s : State) : Host.Outcome State Fault Refusal :=
  .next (runAt q (isCue Isa.xBROADCAST) semCue s)

def execCueSelect (q : Fin 64) (s : State) : Host.Outcome State Fault Refusal :=
  .next (runAt q (isCue Isa.xSELECT) semCue s)

def execCurtain (q : Fin 64) (s : State) : Host.Outcome State Fault Refusal :=
  .next (runAt q (isOp 0xA0) semAside s)

def execAside (q : Fin 64) (s : State) : Host.Outcome State Fault Refusal :=
  .next (runAt q (isOp 0xA1) semAside s)

/-- The wait of a WAITC ends without its condition (R302). -/
def execWaitcTimeout (q : Fin 64) (s : State) : Host.Outcome State Fault Refusal :=
  .next (if s.fld (Reg.seqSt q) = sqWaiting then runAt q (isOp 0x05) semWaitc s else s)

/-- A DOZING sequencer's time has come, or its counter is settled: it runs on at the next instruction (R303). -/
def dozeOver (s : State) (q : Nat) : Bool :=
  decide (s.fld (Reg.seqSt q) = sqDozing) && (s.ctx q).isSome && !(inQuarantine s (seqUnit q)) && (timedOut s q ||
    (isMode 0x07 1 (fetchWord s q) && Ctr.settled (s.ctr (Isa.ctr0 (fetchWord s q)))))

def execDozeWake (q : Fin 64) (s : State) : Host.Outcome State Fault Refusal :=
  .next (if linksLive s ∧ dozeOver s q then advance q (setUnit (.seq q) 0 s) else s)

end Sys2Proof.Machine
end

