-- ==== Sys2Proof/Machine/Sec.lean ====
section
/-! DEFINITION. The security engine (R435 to R453): judging capsules, carrying out what they order, keys, firmware slots, boot and
measurements. -/
namespace Sys2Proof.Machine

def State.modSec (s : State) (f : Sec → Sec) : State := { s with sec := f s.sec }

/-- The octets of a digest. -/
def digestBytes (d : BitVec 512) : List Byte := leBytes 64 d.toNat

/-! Measurements (R451). -/

def setMeasurement (m : Nat) (d : BitVec 512) (s : State) : State :=
  forEach (fun i s => s.setWord (Reg.meas m i) (BitVec.ofNat 64 (d.toNat >>> (64 * i)))) (List.range 8) s

def measureKeys (s : State) : State :=
  setMeasurement 3 (Config.sha3 (digestBytes Config.pkh ++ leBytes 4 (s.fld Reg.hostKeySet + 2 * s.fld Reg.rackKeySet) ++
    leBytes 4 (s.fld Reg.hostKeyId) ++ leBytes 4 (s.fld Reg.rackKeyId))) s

def measureBoot (s : State) : State :=
  setMeasurement 2 (Config.sha3 (leBytes 4 (s.fld Reg.svnMin) ++ leBytes 4 (s.fld Reg.runSvn) ++ leBytes 4 (s.fld Reg.runSlot) ++
    leBytes 4 (s.fld Reg.bootFallback))) s

/-- Bytes of the words of a span of BAR0. -/
def spanBytes (s : State) (base words : Nat) : List Byte :=
  (List.range words).flatMap (fun i => leBytes 8 (s.word (base + 8 * i)).toNat)

def measurePlan (s : State) : State :=
  let entries := (List.range 4096).flatMap (fun c => spanBytes s (Reg.cirActive c 0) 4)
  setMeasurement 4 (Config.sha3 (entries ++ spanBytes s (Reg.cirLinkActive 0) 14)) s

def measureAct (s : State) : State :=
  let a := s.fld Reg.actSel
  setMeasurement 5 (Config.sha3 (spanBytes s (0x830000 + a * 0x2000) 1024 ++ spanBytes s (0x810000 + a * 0x2000) 1024 ++
    spanBytes s (0x840000 + a * 0x8000) 4096)) s

/-! Firmware images (R438, R439). -/

/-- Unwritten flash reads 0 (log entry 19). -/
def slotBytes (s : State) (slot off n : Nat) : List Byte := Tab.getRange (fun _ => 0) s.sec.slots (slot * 2 ^ 24 + off) n

def slotByteLen (s : State) (slot : Nat) : Nat := leNat (slotBytes s slot 8 4)

/-- Fields within Table 14-2. -/
def imageFields (s : State) (slot : Nat) : Bool :=
  decide (leNat (slotBytes s slot 0 4) = 0x49575246) && decide (leNat (slotBytes s slot 4 4) ≤ 64) &&
  decide (1 ≤ slotByteLen s slot ∧ slotByteLen s slot ≤ 16769933) && decide (leNat (slotBytes s slot 12 52) = 0)

def imageSvn (s : State) (slot : Nat) : Nat := leNat (slotBytes s slot 4 4)
def imageLen (s : State) (slot : Nat) : Nat := 7283 + slotByteLen s slot

/-- Signer and signature: the digest of header, PUBKEY and BODY is the message. -/
def imageSigned (s : State) (slot : Nat) : Bool :=
  let pub := slotBytes s slot 64 2592
  let msg := slotBytes s slot 0 (2656 + slotByteLen s slot)
  let sig := slotBytes s slot (2656 + slotByteLen s slot) 4627
  decide (Config.sha3 pub = Config.pkh) && Config.mlDsaVerify pub (digestBytes (Config.sha3 msg)) sig

def imageValid (s : State) (slot : Nat) : Bool :=
  imageFields s slot && imageSigned s slot && decide (s.fld Reg.svnMin ≤ imageSvn s slot)

/-- Both Prompters boot the chosen slot. -/
def bootFrom (slot : Nat) (fallback : Bool) (s : State) : State :=
  let s := (s.setFld Reg.runSlot slot).setFld Reg.runSvn (imageSvn s slot)
  let s := (s.setFld Reg.bootFallback (if fallback then 1 else 0)).setFld Reg.recovery 0
  let s := if fallback then s.raise Reg.bootFallbackEv else s
  let s := setMeasurement 1 (Config.sha3 (slotBytes s slot 0 (imageLen s slot))) (setMeasurement 0 Config.romId s)
  measureKeys (measureBoot (s.modSec (fun k => { k with booted := true })))

/-- The boot ROM's verification (R439); with no valid slot the Prompters stay in BOOT and the Call Board acts under R377 (R440). -/
def bootVerify (s : State) : State :=
  let sel := s.fld Reg.bootSel
  let start (w : Who) (s : State) : State :=
    if prompterState s w = psOff ∧ prompterRail s w then setPrompter w psBoot s else s
  let s := start .b (start .a s)
  if imageValid s sel then bootFrom sel false s
  else if imageValid s (1 - sel) then bootFrom (1 - sel) true s
  else orphaned (s.raise Reg.recovery)

/-! Capsules (R441 to R446). -/

def cpHost : Nat := 1
def cpRack : Nat := 2

/-- The commander that a transport fixes (R442). -/
def viaCommander : Transport → Nat
  | .rack => cpRack
  | _ => cpHost

namespace Cap

def version (b : List Byte) : Nat := leAt b 0 2
def commander (b : List Byte) : Nat := leAt b 2 1
def kind (b : List Byte) : Nat := leAt b 3 1
def length (b : List Byte) : Nat := leAt b 4 2
def reserved (b : List Byte) : Nat := leAt b 6 2
def deviceId (b : List Byte) : Nat := leAt b 8 8
def counter (b : List Byte) : Nat := leAt b 16 8
def payload (b : List Byte) : List Byte := (b.drop 24).take (Cap.length b)
def signed (b : List Byte) : List Byte := b.take (24 + Cap.length b)
def tag (b : List Byte) : Nat := leAt b (24 + Cap.length b) 32

end Cap

def kPower : Nat := 1
def kFw : Nat := 2
def kAct : Nat := 3
def kPlan : Nat := 4
def kSafety : Nat := 5
def kInstall : Nat := 6
def kClear : Nat := 7

/-- LENGTH that a KIND takes (Table 14-4). -/
def kindLength (kind n : Nat) : Bool :=
  match kind with
  | 1 => decide (n = 16)
  | 2 => decide (n = 80)
  | 3 => decide (n = 16)
  | 4 => decide (n = 80)
  | 5 => decide (16 ≤ n ∧ n ≤ 1024 ∧ n % 16 = 0)
  | 6 => decide (n = 1592)
  | 7 => decide (n = 16)
  | _ => false

/-- What Table 14-4 itself says of a payload. -/
def payloadFormat (kind : Nat) (p : List Byte) : Bool :=
  match kind with
  | 3 => decide (leAt p 0 1 ≤ 1 ∧ leAt p 1 15 = 0)
  | 4 => decide (leAt p 0 4 ≠ 0 ∧ leAt p 4 12 = 0)
  | 7 => decide ((leAt p 0 1 = 1 ∨ leAt p 0 1 = 2) ∧ leAt p 1 15 = 0)
  | _ => true

/-- Step 1. -/
def capFormatOk (b : List Byte) : Bool :=
  decide (24 ≤ b.length) && decide (Cap.version b = 1) && decide (Cap.reserved b = 0) && kindLength (Cap.kind b) (Cap.length b) &&
  decide (b.length = 56 + Cap.length b) && payloadFormat (Cap.kind b) (Cap.payload b)

/-- IDSEED, and the identity key pair derived from it at every power-on (R436). -/
def idSeed : BitVec 256 := Config.kmac Config.puf [] "IS9 IDENTITY"
def identityKeys : List Byte × List Byte := Config.mlDsaKeyGen idSeed

/-- The key-wrap pair: d and z are the first and second 32 bytes (R436). -/
def wrapKeys : List Byte × List Byte :=
  let k := Config.kmac512 Config.puf [] "IS9 KEYWRAP"
  Config.mlKemKeyGen (k.setWidth 256) ((k >>> 256).setWidth 256)

/-- DEVICE_ID: the first 8 bytes of the digest of the identity public key (R437). -/
def deviceId : Nat := (Config.sha3 identityKeys.1).toNat % 2 ^ 64

/-- Whether a commander may send a capsule (Table 14-4, R450). -/
def maySend (s : State) (b : List Byte) : Bool :=
  let which := leAt (Cap.payload b) 0 1
  if Cap.kind b = kClear then decide (Cap.commander b = cpRack)
  else if Cap.kind b = kInstall then
    if Cap.commander b = cpRack then s.sec.rackKey.isSome || decide (which = 2)
    else decide (which = 1)
  else true

/-- Step 2. -/
def capSenderOk (s : State) (c : Capsule) : Bool :=
  decide (Cap.commander c.bytes = viaCommander c.via) && maySend s c.bytes && decide (Cap.deviceId c.bytes = deviceId)

/-- K_new of a KEY_INSTALL payload (R449). -/
def newKey (p : List Byte) : BitVec 256 := Config.mlKemDecap wrapKeys.2 ((p.drop 8).take 1568)

/-- The key that a capsule is judged by (R450). -/
def judgeKey (s : State) (c : Capsule) : Option (BitVec 256) :=
  if viaCommander c.via = cpHost then s.sec.hostKey
  else match s.sec.rackKey with
    | some k => some k
    | none => if Cap.kind c.bytes = kInstall then some (newKey (Cap.payload c.bytes)) else none

/-- Step 3. -/
def capTagOk (s : State) (c : Capsule) : Bool :=
  match judgeKey s c with
  | some k => decide (Cap.tag c.bytes = (Config.kmac k (Cap.signed c.bytes) "IS9 CAPSULE").toNat)
  | none => false

/-- The last accepted COUNTER of a commander. -/
def lastCounter (s : State) (cmd : Nat) : Nat := if cmd = cpHost then s.fld Reg.hostCtr else s.fld Reg.rackCtr

/-- Step 4. -/
def capFresh (s : State) (c : Capsule) : Bool :=
  decide (lastCounter s (viaCommander c.via) < Cap.counter c.bytes ∧ Cap.counter c.bytes ≠ 2 ^ 64 - 1)

def csOk : Nat := 0
def csAuthFail : Nat := 1
def csReplay : Nat := 2
def csRefused : Nat := 3
def csFormat : Nat := 4
def csBusy : Nat := 5
def csStoreFail : Nat := 6

/-- Steps 0 to 4: the STATUS of the first failure, or none. -/
def capVerdict (s : State) (c : Capsule) : Option Nat :=
  if s.sec.holds.any (fun h => decide (h.1 = c.via)) then some csBusy
  else if !(capFormatOk c.bytes) then some csFormat
  else if !(capSenderOk s c) then some csAuthFail
  else if !(capTagOk s c) then some csAuthFail
  else if !(capFresh s c) then some csReplay
  else none

/-- The completion record (Table 14-6). TAG is 0 where no key has verified the capsule. DEDUCED, log entry 184. -/
def completionBytes (c : Capsule) (status result err : Nat) (key : Option (BitVec 256)) : List Byte :=
  let head := padTo 4 (c.bytes.take 4) ++ leBytes 1 status ++ leBytes 1 result ++ leBytes 2 err ++ leBytes 8 deviceId ++
    padTo 8 ((c.bytes.drop 16).take 8)
  head ++ (match key with
    | some k => leBytes 32 (Config.kmac k head "IS9 COMPLETION").toNat
    | none => List.replicate 32 0)

/-- The completion leaves through stage 6, and from SEC_CAP_WIN into SEC_CAP_RSP (R446). In recovery the engine answers itself. -/
def complete (c : Capsule) (status result err : Nat) (key : Option (BitVec 256)) (s : State) : State :=
  let bs := completionBytes c status result err key
  let s := if c.via = .window then
      let s := ((s.setFld Reg.capBusy 0).setFld Reg.capStatus status).setFld Reg.capResult result
      forEach (fun i s => s.setWord (Reg.capRsp i) (BitVec.ofNat 64 (leAt bs (8 * i) 8))) (List.range 7) s
    else s
  if s.flag Reg.recovery then emit (.completion c.via bs) s
  else throughStage 6 (.message bs) (emit (.completion c.via bs)) s

/-- SEC alerts carry block code 01h. -/
def secAlert (code : Nat) (s : State) : State := alert 0x01 code Reg.secEvent s

/-- A capsule fails at steps 0 to 4 (R443, R445). -/
def refuseCapsule (c : Capsule) (status : Nat) (s : State) : State :=
  if status = csAuthFail then
    let s := (s.modSec (fun k => { k with holds := (c.via, s.now) :: k.holds })).count Reg.authFails
    complete c status 0 Err.authFail none (secAlert Err.authFail (s.raise Reg.authFailEv))
  else if status = csReplay then
    complete c status 0 Err.replay (judgeKey s c) (secAlert Err.replay ((s.count Reg.replays).raise Reg.replayEv))
  else complete c status 0 0 none s

/-- Judge one capsule: refused, or its counter goes to the store. -/
def judgeCapsule (c : Capsule) (s : State) : State :=
  match capVerdict s c with
  | some st => refuseCapsule c st s
  | none => s.modSec (fun k => { k with storing := some c })

/-- The engine is busy with a capsule. -/
def engineBusy (s : State) : Bool := s.sec.storing.isSome || s.sec.accepted.isSome

/-- Judge the capsules that wait, in order, while the engine is free; the fuel is their number. -/
def judgeWaiting : Nat → State → State
  | 0, s => s
  | n + 1, s =>
    match s.sec.waiting with
    | [] => s
    | c :: t => if engineBusy s then s else judgeWaiting n (judgeCapsule c (s.modSec (fun k => { k with waiting := t })))

def judgeOn (s : State) : State := judgeWaiting s.sec.waiting.length s

/-- A capsule arrives (R443). -/
def arriveCapsule (c : Capsule) (s : State) : State := judgeOn (s.modSec (fun k => { k with waiting := k.waiting ++ [c] }))

/-- The accepted capsule has been carried out: its completion, then the next one is judged. -/
def finishCapsule (c : Capsule) (status result err : Nat) (key : Option (BitVec 256)) (s : State) : State :=
  judgeOn (complete c status result err key (s.modSec (fun k => { k with accepted := none })))

/-- The accepted capsule when it is of a KIND and can be carried out: a Prompter is ACTIVE, or the engine runs an FW_UPDATE itself. -/
def acceptedOf (s : State) (kind : Nat) : Option Capsule :=
  match s.sec.accepted with
  | some c => if Cap.kind c.bytes = kind ∧ ((activePrompter s).isSome ∨ (s.flag Reg.recovery ∧ kind = kFw)) then some c else none
  | none => none

/-! Power orders (R410 to R413). -/

namespace Order

def kind (p : List Byte) : Nat := leAt p 0 1
def persist (p : List Byte) : Bool := (leAt p 1 1).testBit 0
def cap (p : List Byte) : Nat := leAt p 2 2

end Order

def orOk : Nat := 1
def orHeld : Nat := 2
def orSafety : Nat := 3
def orIron : Nat := 4
def orBad : Nat := 5

/-- A well-formed order of a commander (Tables 13-2, 13-3). -/
def orderWellFormed (s : State) (cmd : Nat) (p : List Byte) : Bool :=
  let k := Order.kind p
  decide (1 ≤ k ∧ k ≤ 5) && decide (leAt p 1 1 ≤ 1) && decide (leAt p 4 12 = 0) &&
  (!(Order.persist p) || (decide (cmd = cpRack) && decide (k = 1 ∨ k = 4))) &&
  (if k = 3 then capValid s (Order.cap p) else decide (Order.cap p = 0)) &&
  (decide (k < 4) || decide (cmd = cpRack))

/-- A cause of SAFE_DOWN persists: no flow, or a wet line. -/
def safetyPersists (s : State) : Bool := !(s.flag Reg.flowOk) || decide (s.fld Reg.leakState = leakWet)

/-- Result of an order (Table 13-3). DEDUCED, log entry 47. -/
def orderVerdict (s : State) (cmd : Nat) (p : List Byte) : Nat :=
  if !(orderWellFormed s cmd p) then orBad
  else if Order.kind p = 2 then
    if cmd = cpHost ∧ s.flag Reg.rmHold then orHeld
    else if s.flag Reg.ironLatched then orIron
    else if safetyPersists s then orSafety
    else orOk
  else orOk

/-- Store the RM_RUN and RM_HOLD that a rack order sets (R412). -/
def storeOrder (s : State) : State := s.modPower (fun p => { p with stored := some (s.fld Reg.rmRun, s.fld Reg.rmHold) })
def eraseOrder (s : State) : State := s.modPower (fun p => { p with stored := none })

/-- An OFF order takes the permission away: its cause goes to the power-down that follows. -/
def noteOff (cause : Nat) (s : State) : State := if permitted s then s.modPower (fun p => { p with offBy := cause }) else s

/-- The effect of an accepted order (Table 13-3). -/
def orderEffect (cmd : Nat) (p : List Byte) (s : State) : State :=
  let k := Order.kind p
  let keep (s : State) : State := if Order.persist p then storeOrder s else s
  if k = 1 then
    if cmd = cpHost then (noteOff offOrderHost s).setFld Reg.hostRun 0
    else keep (((noteOff offOrderRm s).setFld Reg.rmRun 0).raise Reg.rmHold)
  else if k = 2 then
    if cmd = cpHost then (s.raise Reg.hostRun).setFld Reg.safeDown 0
    else eraseOrder (((s.raise Reg.rmRun).setFld Reg.rmHold 0).setFld Reg.safeDown 0)
  else if k = 3 then refreshCap (s.setFld (if cmd = cpHost then Reg.hostCap else Reg.rackCap) (Order.cap p))
  else if k = 4 then keep (s.raise Reg.rmHold)
  else eraseOrder (s.setFld Reg.rmHold 0)

/-- The error code that a refused order's completion carries. -/
def orderErr (r : Nat) : Nat := if r = orHeld then Err.held else if r = orIron then Err.iron else 0

/-- Carry out a POWER_ORDER capsule. -/
def runOrder (c : Capsule) (s : State) : State :=
  let p := Cap.payload c.bytes
  let cmd := viaCommander c.via
  let r := orderVerdict s cmd p
  let s := ((s.setFld Reg.orderResult r).setFld Reg.orderSource (if cmd = cpHost then 0 else 1)).setFld Reg.orderKind (Order.kind p)
  let key := judgeKey s c
  if r = orOk then finishCapsule c csOk r 0 key (orderEffect cmd p s)
  else finishCapsule c csRefused r (orderErr r) key (s.raise Reg.orderRefused)

/-! Safety configuration (R447, R434). -/

/-- Values that a "Capsule" register accepts, and none for another offset. -/
def safetyValid (s : State) (cmd off v : Nat) : Bool :=
  let lo16 := v % 65536
  if off = 0x3018 then decide (lo16 = 0xFFFF) || decide (800 ≤ lo16 ∧ lo16 ≤ maxPower s)
  else if off = 0x3020 then decide (50 ≤ v % 4096 ∧ v % 4096 ≤ 2400)
  else if off = 0x3030 then decide (100 ≤ lo16 ∧ lo16 ≤ 60000)
  else if off = 0x2100018 then
    decide (70 ≤ v % 256 ∧ v % 256 ≤ 95 ∧ v % 256 + 2 ≤ v / 256 % 256 ∧ v / 256 % 256 ≤ 100)
  else if off = 0x2100020 then decide (100 ≤ lo16 ∧ lo16 ≤ 60000)
  else if off = 0x2100038 then decide (lo16 ≤ 30000)
  else if off = 0x2100048 then decide (20 ≤ v % 256 ∧ v % 256 ≤ 60 ∧ 30 ≤ v / 256 % 256 ∧ v / 256 % 256 ≤ 80)
  else if off = 0x2100050 then !(v.testBit 1) || (decide (cmd = cpRack) && ironClears s)
  else false

/-- A "Capsule" register takes a valid value. -/
def safetyWrite (off v : Nat) (s : State) : State :=
  if off = 0x3018 then refreshCap (s.setFld Reg.fallbackCap v)
  else if off = 0x3020 then s.setFld Reg.rampMax v
  else if off = 0x3030 then s.setFld Reg.rmHbTimeout v
  else if off = 0x2100018 then (s.setFld Reg.threshL1 v).setFld Reg.threshL2 (v / 256)
  else if off = 0x2100020 then s.setFld Reg.glHoldMs v
  else if off = 0x2100038 then s.setFld Reg.leakGrace v
  else if off = 0x2100048 then (s.setFld Reg.coldInLimit v).setFld Reg.coldOutLimit (v / 256)
  else if off = 0x2100050 then
    let s := if v.testBit 0 then clearLeak s else s
    let s := if v.testBit 1 then clearIron s else s
    if v.testBit 2 then clearDiodes s else s
  else s

/-- The entries of a SAFETY_CONFIG payload: (offset, zeros, value). -/
def safetyEntries (p : List Byte) : List (Nat × Nat × Nat) :=
  (List.range (p.length / 16)).map (fun i => (leAt p (16 * i) 4, leAt p (16 * i + 4) 4, leAt p (16 * i + 8) 8))

/-- Every entry may be applied. -/
def safetyAccepted (s : State) (cmd : Nat) (p : List Byte) : Bool :=
  (safetyEntries p).all (fun e => decide (e.2.1 = 0) && safetyValid s cmd e.1 e.2.2)

def reState : Nat := 1
def reDieOff : Nat := 2
def reDigestBad : Nat := 3
def reSigBad : Nat := 4
def reSvnLow : Nat := 5
def reKeyBad : Nat := 6
def reSlotBusy : Nat := 7

/-- Carry out a SAFETY_CONFIG capsule: whole, through stage 5, or not at all. -/
def runSafety (c : Capsule) (s : State) : State :=
  let p := Cap.payload c.bytes
  let key := judgeKey s c
  if safetyAccepted s (viaCommander c.via) p then
    let s := forEach (fun e s => throughStage 5 (.reg e.1 (leBytes 8 e.2.2)) (safetyWrite e.1 e.2.2) s) (safetyEntries p) s
    finishCapsule c csOk 0 0 key s
  else finishCapsule c csRefused reState 0 key s

/-- An entry of the accepted SAFETY_CONFIG writes a bit of THM_CLEAR. -/
def clearsBit (c : Capsule) (b : Nat) : Bool :=
  (safetyEntries (Cap.payload c.bytes)).any (fun e => decide (e.1 = 0x2100050) && e.2.2.testBit b)

/-! Keys (R449, R450). -/

/-- CHECK of a KEY_INSTALL payload matches. -/
def keyChecks (p : List Byte) : Bool :=
  decide (leAt p 1576 16 = (Config.kmac (newKey p) [] "IS9 KEYCHECK").toNat % 2 ^ 128)

/-- Bytes that R449 requires to be 0, and WHICH. DEDUCED, log entry 183. -/
def installFormat (p : List Byte) : Bool :=
  decide ((leAt p 0 1 = 1 ∨ leAt p 0 1 = 2) ∧ leAt p 1 3 = 0)

def setKey (which : Nat) (k : Option (BitVec 256)) (id : Nat) (s : State) : State :=
  let s := if which = 1 then
      ((s.modSec (fun x => { x with hostKey := k })).setFld Reg.hostKeySet (if k.isSome then 1 else 0)).setFld Reg.hostKeyId id
    else ((s.modSec (fun x => { x with rackKey := k })).setFld Reg.rackKeySet (if k.isSome then 1 else 0)).setFld Reg.rackKeyId id
  measureKeys (s.raise Reg.keyChanged)

/-- Carry out a KEY_INSTALL: its completion is tagged under K_new. -/
def runInstall (c : Capsule) (s : State) : State :=
  let p := Cap.payload c.bytes
  let old := judgeKey s c
  if installFormat p ∧ keyChecks p then
    finishCapsule c csOk 0 0 (some (newKey p)) (setKey (leAt p 0 1) (some (newKey p)) (leAt p 4 4) s)
  else finishCapsule c csRefused reKeyBad 0 old s

/-- Carry out a KEY_CLEAR. -/
def runClear (c : Capsule) (s : State) : State :=
  let key := judgeKey s c
  finishCapsule c csOk 0 0 key (setKey (leAt (Cap.payload c.bytes) 0 1) none 0 s)

/-! Firmware update (R448). -/

namespace Fw

def phase (p : List Byte) : Nat := leAt p 0 1
def slot (p : List Byte) : Nat := leAt p 1 1
def imageLen (p : List Byte) : Nat := leAt p 4 4
def digest (p : List Byte) : Nat := leAt p 16 64
/-- A payload within R448; only VERIFY reads IMAGE_LEN. DEDUCED, log entry 183. -/
def formed (p : List Byte) : Bool :=
  decide (1 ≤ Fw.phase p ∧ Fw.phase p ≤ 5 ∧ Fw.slot p ≤ 1 ∧ leAt p 2 2 = 0 ∧ leAt p 8 8 = 0) &&
  (decide (Fw.phase p ≠ 2) || decide (7284 ≤ Fw.imageLen p ∧ Fw.imageLen p ≤ 2 ^ 24))

end Fw

def fwClosed : Nat := 0
def fwOpen : Nat := 1
def fwVerified : Nat := 2

/-- The slot that runs, if any: none in recovery. -/
def runningSlot (s : State) : Option Nat := if s.sec.booted then some (s.fld Reg.runSlot) else none

/-- OPEN: the slot is erased and its window opens. -/
def fwOpenSlot (slot : Nat) (s : State) : State :=
  let s := ((s.setFld (Reg.slotValid slot) 0).setFld Reg.fwState fwOpen).setFld Reg.fwSlot slot
  s.modSec (fun k => { k with slots := k.slots.filter (fun e => !(decide (e.1 / 2 ^ 24 = slot))) })

/-- What VERIFY finds wrong with the open slot. -/
def fwFault (s : State) (p : List Byte) : Option Nat :=
  let slot := s.fld Reg.fwSlot
  if (Config.sha3 (slotBytes s slot 0 (Fw.imageLen p))).toNat ≠ Fw.digest p then some reDigestBad
  else if !(imageFields s slot) ∨ imageLen s slot ≠ Fw.imageLen p ∨ !(imageSigned s slot) then some reSigBad
  else if imageSvn s slot < s.fld Reg.svnMin then some reSvnLow
  else none

/-- VERIFY succeeds. -/
def fwVerifySlot (s : State) : State :=
  let slot := s.fld Reg.fwSlot
  ((s.raise (Reg.slotValid slot)).setFld (Reg.slotSvn slot) (imageSvn s slot)).setFld Reg.fwState fwVerified |>.raise Reg.fwVerified

/-- Result of a phase: none accepts it. -/
def fwRefusal (s : State) (p : List Byte) : Option Nat :=
  if !(Fw.formed p) then some reState
  else if Fw.phase p = 1 then
    if runningSlot s = some (Fw.slot p) ∨ s.fld Reg.fwState ≠ fwClosed then some reSlotBusy else none
  else if Fw.phase p = 2 then (if s.fld Reg.fwState ≠ fwOpen then some reState else fwFault s p)
  else if Fw.phase p = 3 then (if s.flag (Reg.slotValid (Fw.slot p)) then none else some reState)
  else if Fw.phase p = 4 then (if s.sec.booted ∧ !(s.flag Reg.bootFallback) then none else some reState)
  else (if s.fld Reg.fwState = fwClosed then some reState else none)

/-- Effect of an accepted phase. -/
def fwEffect (p : List Byte) (s : State) : State :=
  if Fw.phase p = 1 then fwOpenSlot (Fw.slot p) s
  else if Fw.phase p = 2 then fwVerifySlot s
  else if Fw.phase p = 3 then
    let s := (s.setFld Reg.bootSel (Fw.slot p)).setFld Reg.fwState fwClosed
    if s.flag Reg.recovery then bootVerify s else s
  else if Fw.phase p = 4 then measureBoot (s.setFld Reg.svnMin (max (s.fld Reg.svnMin) (s.fld Reg.runSvn)))
  else s.setFld Reg.fwState fwClosed

/-- Carry out an FW_UPDATE. A VERIFY that fails closes the window. -/
def runFw (c : Capsule) (s : State) : State :=
  let p := Cap.payload c.bytes
  let key := judgeKey s c
  match fwRefusal s p with
  | some r =>
    let s := if Fw.formed p ∧ Fw.phase p = 2 ∧ s.fld Reg.fwState = fwOpen then s.setFld Reg.fwState fwClosed else s
    finishCapsule c csRefused r 0 key s
  | none => finishCapsule c csOk 0 0 key (fwEffect p s)

/-- Bytes reach the open slot (R448). -/
def fwBytes (off : Nat) (bs : List Byte) (s : State) : State :=
  s.modSec (fun k => { k with slots := Tab.setRange (fun _ => 0) k.slots (s.fld Reg.fwSlot * 2 ^ 24 + off) bs })

/-! Acts and plans by capsule (R146 to R150, R185, R186, R446). -/

/-- Act a may be swapped in (Table 05-3). -/
def actSwappable (s : State) (a : Nat) : Bool :=
  decide (s.fld (Reg.actState a) = actSealed ∨ s.fld (Reg.actState a) = actDraining)

/-- Act a becomes ACTIVE, the other DRAINING with its arm cleared. -/
def actSwapTo (a : Nat) (s : State) : State :=
  let s := ((s.setFld (Reg.actState a) actActive).setFld (Reg.actState (1 - a)) actDraining).setFld Reg.actSel a
  measureAct (bumpGen (s.modSwc (fun w => { w with armed := [] })))

/-- Carry out an ACT_SWAP. -/
def runActSwap (c : Capsule) (s : State) : State :=
  let a := leAt (Cap.payload c.bytes) 0 1
  let key := judgeKey s c
  if !(dieRuns s) then finishCapsule c csRefused reDieOff 0 key s
  else if actSwappable s a then
    finishCapsule c csOk 0 0 key (throughStage 1 (.reg Reg.actSel.off (leBytes 8 a)) (actSwapTo a) s)
  else finishCapsule c csRefused reState 0 key s

/-- The capsule's digest is that of the staged bank. -/
def planDigestOk (s : State) (p : List Byte) : Bool := decide ((Config.sha3 (stagedBytes s)).toNat = leAt p 16 64)

/-- Carry out a PLAN_COMMIT. -/
def runPlan (c : Capsule) (s : State) : State :=
  let p := Cap.payload c.bytes
  let key := judgeKey s c
  if !(dieRuns s) then finishCapsule c csRefused reDieOff 0 key s
  else
    let r := planCommit (leAt p 0 4) (planDigestOk s p) s
    let code := r.2.fld Reg.planResult
    if r.1 then
      finishCapsule c csOk code 0 key (throughStage 1 (.reg 0x800400 (leBytes 8 (leAt p 0 4))) (fun s => measurePlan (bumpGen s)) r.2)
    else finishCapsule c csRefused code 0 key r.2

/-- The capsule whose counter has been stored enters the intake (R443 step 6). What no command of its own carries out is refused now: a
malformed power order or FW_UPDATE; in recovery, everything but FW_UPDATE (log entry 20). -/
def acceptCapsule (c : Capsule) (s : State) : State :=
  let cmd := viaCommander c.via
  let ctr := Cap.counter c.bytes
  let s := s.setFld (if cmd = cpHost then Reg.hostCtr else Reg.rackCtr) ctr
  let s := intake (.capsule c.bytes) (s.modSec (fun k => { k with storing := none, accepted := some c }))
  let s := if cmd = cpRack then rmHeartbeat s else s
  let p := Cap.payload c.bytes
  if s.flag Reg.recovery ∧ Cap.kind c.bytes ≠ kFw then finishCapsule c csRefused reState 0 (judgeKey s c) s
  else if Cap.kind c.bytes = kPower ∧ !(decide (1 ≤ Order.kind p ∧ Order.kind p ≤ 5)) then runOrder c s
  else if Cap.kind c.bytes = kFw ∧ !(decide (1 ≤ Fw.phase p ∧ Fw.phase p ≤ 5)) then runFw c s
  else s

end Sys2Proof.Machine
end

