-- ==== Sys2Proof/Machine/HostOps.lean ====
section
/-! DEFINITION. The host port, its decoders, event records and doorbells, the tray and rack I3C ports, MCTP addressing and the tray master
role (R26 to R29, R221, R454 to R478). -/
namespace Sys2Proof.Machine

/-! Link-up (R454, R455). -/

def hmDown : Nat := 0
def hmCxl20 : Nat := 1
def hmCxl11 : Nat := 2
def hmPcie : Nat := 3

/-- The host port can be up: the die's rails are, PERST_N and RESET_N are high (R457). -/
def hostMayRun (s : State) : Bool := dieRuns s && !s.house.perst && !s.house.resetLow

/-- The mode that a link-up gives for what the host offers, at a rate of 16 or 32 GT/s and a width (Table 15-1, R455): a CXL mode only
at 32 GT/s and ×4 or wider. -/
def hostModeFor (offer : HostMode) (rate32 : Bool) (width : Nat) : Nat :=
  if rate32 = false ∨ width < 4 then hmPcie
  else match offer with
    | .cxl20 => hmCxl20
    | .cxl11 => hmCxl11
    | .pcie => hmPcie

/-- Vendor ID and Device ID of the function (R458). -/
def pciVendor : Nat := 0x1F3C
def pciDevice : Nat := 0x0950

/-- The configuration space of a mode (R458). -/
def pciConfig (mode stepping : Nat) : PciConfig :=
  { vendor := pciVendor, device := pciDevice, classCode := if mode = hmPcie then 0x120000 else 0x050210, revision := stepping,
    subVendor := Config.subsystemIds.1.toNat, subsystem := Config.subsystemIds.2.toNat, maxPayload := 512, maxRead := 4096, tag10 := true }

/-- Memory_Active of the memory device's DVSEC follows MEM_STATUS.OPEN (R221). -/
def memoryActive (s : State) : Bool := s.flag Reg.memOpen

/-- Reported capacity: up to MEM_FILTER_BASE, rounded down to 256 MiB (R221). -/
def poolCapacity (s : State) : Nat := s.fld Reg.filterBase / 2 ^ 28 * 2 ^ 28

/-! HDM decoders (R221, R461). -/

def State.hdm (s : State) (d : Nat) : Hdm := Tab.get (fun _ => Hdm.mk false false false 0 0 0) s.mem.hdm d
def State.setHdm (s : State) (d : Nat) (x : Hdm) : State :=
  s.modMem (fun m => { m with hdm := Tab.set (fun _ => Hdm.mk false false false 0 0 0) m.hdm d x })

/-- First device address of a decoder: what earlier decoders take, and the skips. -/
def dpaBase (s : State) (d : Nat) : Nat := (if d = 0 then 0 else (s.hdm 0).skip + (s.hdm 0).size) + (s.hdm d).skip

/-- Commit a decoder: one way only, and within the reported capacity. -/
def commitHdm (d base size skip ways : Nat) (lock : Bool) (s : State) : State :=
  let x := s.hdm d
  if x.committed ∧ x.locked then s
  else
    let s1 := s.setHdm d (Hdm.mk false false false base size skip)
    if ways ≠ 1 ∨ s.host.capacity < dpaBase s1 d + size then s.setHdm d (Hdm.mk false true false base size skip)
    else s.setHdm d (Hdm.mk true false lock base size skip)

/-- The device address of a host address: by a committed decoder in CXL 2.0, by the one range of CXL 1.1. PRESUMED, log entry 53. -/
def hostDpa (s : State) (a : Nat) : Option Nat :=
  if s.fld Reg.hostMode = hmCxl11 then (if a < s.host.capacity then some a else none)
  else if s.fld Reg.hostMode = hmCxl20 then
    ([0, 1].find? (fun d => (s.hdm d).committed && decide ((s.hdm d).base ≤ a ∧ a < (s.hdm d).base + (s.hdm d).size))).map
      (fun d => dpaBase s d + (a - (s.hdm d).base))
  else none

/-! Event records (R463). -/

def logInfo : Nat := 0
def logWarning : Nat := 1
def logFailure : Nat := 2
def logFatal : Nat := 3

def State.eventLog (s : State) (k : Nat) : List EventRec := Tab.get (fun _ => []) s.host.logs k

/-- Add a record: a full log of 32 counts its overflow and keeps the oldest. -/
def addEvent (k : Nat) (media : Bool) (code dpa : Nat) (write : Bool) (s : State) : State :=
  if 32 ≤ (s.eventLog k).length then
    s.modHost (fun h => { h with logOver := Tab.set (fun _ => 0) h.logOver k (Tab.get (fun _ => 0) h.logOver k + 1) })
  else
    let r := EventRec.mk s.host.nextRec media code dpa write s.now
    let logs := Tab.set (fun _ => []) s.host.logs k (s.eventLog k ++ [r])
    let s := s.modHost (fun h => { h with logs := logs, nextRec := h.nextRec + 1 })
    let v := Tab.get (fun _ => 0) s.host.logInt k
    if v = 0 then s else signalMsix (v - 1) s

/-- A host access that fails is reported (R463): MEM_UNCORR as a General Media record, any other as a Vendor Specific one. -/
def reportHostFailure (code dpa : Nat) (write : Bool) (s : State) : State :=
  if code = Err.memUncorr then addEvent logFailure true code dpa write s else addEvent logWarning false code dpa write s

/-! Doorbells (R464, R465). -/

def rsRung : Nat := 1
def rsDenied : Nat := 2
def rsBad : Nat := 3
def rsLost : Nat := 4

/-- The bit of CUE_DB_CFG_b that governs a ring frame; none for a ring of this chip's own units. -/
def ringerBit (s : State) (f : Frame) : Option Nat :=
  if Frame.src f = myChip s then (if Frame.srcPort f < 8 then some (1 + Frame.srcPort f) else none) else some 9

/-- ADDR, LEN and payload of a ring are well formed. -/
def ringFormed (f : Frame) : Bool :=
  decide (Frame.len f = 1) && decide (Frame.addr f / 256 = 0) && decide (leAt f.payload 4 12 = 0)

/-- A ring by frame: the result byte, and the state. DESIGN CHOICE, log entry 179. -/
def ringByFrame (f : Frame) (s : State) : Nat × State :=
  let b := Frame.addr f % 256
  let allowed := ((ringerBit s f).map (fun i => (s.word (Reg.doorbellCfg b)).getLsbD i)).getD true
  if !(ringFormed f) then (rsBad, s)
  else if !allowed then (rsDenied, s.count Reg.dbDenied)
  else (if ghostLight s ∧ !(trigsOf s 1 b).isEmpty then rsLost else rsRung, ringDoorbell b (leAt f.payload 0 4) s)

/-- A host write of CUE_DB_b. -/
def ringByHost (b arg : Nat) (s : State) : State :=
  if (s.word (Reg.doorbellCfg b)).getLsbD 0 then ringDoorbell b arg s else s.count Reg.dbDenied

/-! Tray master and controller (R27, R28, R469 to R471). -/

/-- The slot number (R26). -/
def mySlot (s : State) : Nat := s.fld Reg.slot

/-- This chip may be tray master: not struck, no strap conflict. -/
def mayBeMaster (s : State) : Bool := decide (s.fld Reg.strikeState = 0) && !(s.flag Reg.strapConflict)

/-- Take or give up the role, telling of a change. -/
def setMaster (b : Bool) (s : State) : State :=
  if s.flag Reg.master = b then s
  else (s.setFld Reg.master (if b then 1 else 0)).raise Reg.masterChange

/-- An election (R27): the lowest of the eligible slots, this chip's own eligibility judged here. -/
def elect (others : BitVec 4) (s : State) : State :=
  let ok (k : Nat) : Bool := if k = mySlot s then mayBeMaster s else others.getLsbD k
  setMaster (decide ([0, 1, 2, 3].find? ok = some (mySlot s))) s

/-! I3C (R467 to R470). -/

def State.i3cPort (s : State) (tray : Bool) : I3c := Tab.get (fun _ => I3c.init) s.host.i3c (if tray then 0 else 1)
def State.modI3c (s : State) (tray : Bool) (f : I3c → I3c) : State :=
  s.modHost (fun h => { h with i3c := Tab.set (fun _ => I3c.init) h.i3c (if tray then 0 else 1) (f (s.i3cPort tray)) })

/-- The slot that a PID names, when it is an IS9's. -/
def pidSlot (p : BitVec 48) : Option Nat :=
  if bitsOf p.toNat 33 15 = 0x5A3 ∧ bitsOf p.toNat 16 16 = pciDevice then some (bitsOf p.toNat 12 4) else none

/-- The lowest-slot IS9 of the tray without a strap conflict: the lowest of the addresses 08h to 0Bh (R470). Whether another chip is struck
this chip does not know. DEDUCED, log entry 105. -/
def lowestTarget (s : State) : Option Nat :=
  [8, 9, 10, 11].find? (fun a => (s.i3cPort true).targets.any (fun t => decide (t.1 = a)))

/-- Give up the tray master role and hand the controller role on by GETACCMST; with no IS9 to take it this chip stays controller (R470,
R471). -/
def handOn (s : State) : State :=
  let s := setMaster false s
  if s.flag Reg.controller then
    match lowestTarget s with
    | some a => emit (.ccc "GETACCMST" [a]) (s.modHost (fun h => { h with handing := some a }))
    | none => s
  else s

/-- The controller sends GETSTATUS to every IS9 target once per ms (R471). -/
def pollTargets (s : State) : State :=
  if s.flag Reg.controller ∧ s.now % ticksPerMs = 0 then
    forEach (fun (t : Nat × Nat) s => if (pidSlot (BitVec.ofNat 48 t.2)).isSome then emit (.ccc "GETSTATUS" [t.1]) s else s)
      (s.i3cPort true).targets s
  else s

/-- The field of an own dynamic address. -/
def addrField (tray : Bool) : Field := if tray then Reg.trayAddr else Reg.rackAddr

/-- The port has an address, so it answers directed CCCs. -/
def addressed (s : State) (tray : Bool) : Bool := decide (s.fld (addrField tray) ≠ 0)

/-- PID (R468). -/
def myPid (s : State) : Nat := 0x5A3 * 2 ^ 33 + pciDevice * 2 ^ 16 + mySlot s * 2 ^ 12 + deviceId % 2 ^ 12

/-- A target's slot is shared with another target or with the controller. -/
def slotShared (own : Nat) (pids : List (BitVec 48)) (k : Nat) : Bool :=
  decide (k = own) || decide (2 ≤ (pids.filter (fun p => decide (pidSlot p = some k))).length)

/-- Addresses of the targets in order (R470): 08h + slot for an IS9 with a slot of its own, else the next free from 10h. -/
def assignAddresses (own : Nat) (all : List (BitVec 48)) : Nat → List (BitVec 48) → List (Nat × Nat)
  | _, [] => []
  | next, p :: t =>
    match pidSlot p with
    | some k =>
      if slotShared own all k then (next, p.toNat) :: assignAddresses own all (next + 1) t
      else (8 + k, p.toNat) :: assignAddresses own all next t
    | none => (next, p.toNat) :: assignAddresses own all (next + 1) t

/-- EIDs that the tray master assigns (R474): 10h + slot, 20h upward under a strap conflict, 08h to the host endpoint. -/
def assignEids (ts : List (Nat × Nat)) : List (Nat × Nat) :=
  let conflicted := ts.filter (fun t => decide (16 ≤ t.1) && (pidSlot (BitVec.ofNat 48 t.2)).isSome)
  ts.map (fun t => (t.1,
    if t.1 < 16 then 0x10 + (t.1 - 8)
    else if (pidSlot (BitVec.ofNat 48 t.2)).isSome then 0x20 + (conflicted.filter (fun u => decide (u.1 < t.1))).length
    else 0x08))

/-- The controller runs ENTDAA over the targets' PIDs (R470, R474). Its own address is 08h + slot. -/
def runEntdaa (pids : List (BitVec 48)) (s : State) : State :=
  let own := mySlot s
  let conflict := pids.any (fun p => decide (pidSlot p = some own))
  let repeated := pids.any (fun p => match pidSlot p with
    | some k => slotShared own pids k
    | none => false)
  let s := if repeated then emit (.ccc "RSTDAA" []) s else s
  let ts := assignAddresses own pids 16 pids
  let s := forEach (fun t s => emit (.ccc "ENTDAA" [t.1]) s) ts s
  let s := s.modI3c true (fun p => { p with targets := ts })
  let s := (s.setFld Reg.trayAddr (8 + own)).setFld Reg.trayCtlAddr (8 + own)
  if conflict then
    let s := s.raise Reg.strapConflict
    handOn s
  else
    let s := forEach (fun e s => emit (.ccc "SetEndpointID" [e.1, e.2]) s) (assignEids ts) s
    (s.setFld Reg.trayEid (0x10 + own)).setFld Reg.trayHostEid 8

/-- Become controller of the tray bus: RSTDAA, then ENTDAA. -/
def becomeController (s : State) : State :=
  emit (.ccc "ENTDAA" []) (emit (.ccc "RSTDAA" []) (s.raise Reg.controller))

/-- A target receives a dynamic address; one that is not 08h + slot tells of a strap conflict, with which it may not be tray master (R29,
R470). -/
def takeAddress (tray : Bool) (a : Nat) (s : State) : State :=
  let s := s.setFld (addrField tray) a
  if tray ∧ a ≠ 8 + mySlot s then setMaster false (s.raise Reg.strapConflict) else s

/-! MCTP (R472, R474 to R476, R495). -/

/-- The own EID on a port. -/
def eidOf (s : State) : Port → Nat
  | .tray => s.fld Reg.trayEid
  | .rack => s.fld Reg.rackEid
  | .vdm => s.host.vdmEid
  | .relay _ _ => 0

def setEid (p : Port) (e : Nat) (s : State) : State :=
  match p with
  | .tray => s.setFld Reg.trayEid e
  | .rack => s.setFld Reg.rackEid e
  | .vdm => s.modHost (fun h => { h with vdmEid := e })
  | .relay _ _ => s

/-- The port carries messages: VDM only while the host port is up. -/
def portUp (s : State) : Port → Bool
  | .vdm => decide (s.fld Reg.hostMode ≠ 0)
  | .relay _ _ => false
  | _ => true

/-- Messages that need an EID are answered once one is assigned (R474). -/
def portReady (s : State) (p : Port) : Bool := portUp s p && decide (eidOf s p ≠ 0)

/-- MCTP message types (R475), and the command of REG_READ (Table 15-5). -/
def mtControl : Nat := 0x00
def mtSpdm : Nat := 0x05
def mtVendor : Nat := 0x7E
def vcRegRead : Nat := 3

/-- Endpoints that the tray master reaches on its bus. -/
def trayEids (s : State) : List Nat := (assignEids (s.i3cPort true).targets).map (fun e => e.2)

/-- The tray master relays a message for another endpoint of its tray (R472): between the host endpoint and the chips, and a REG_READ of the
rack manager (R495); for a chip that it cannot reach it answers the rack manager that the slot is absent. DEDUCED, log entry 124. -/
def relayMctp (fromRack : Bool) (dest type cmd : Nat) (data : List Byte) (s : State) : State :=
  if s.flag Reg.master = false then s
  else if fromRack && !(decide (type = mtVendor ∧ cmd = vcRegRead)) then s
  else if dest ∈ trayEids s then emit (.relayed dest type cmd data) s
  else if fromRack && decide (0x10 ≤ dest ∧ dest < 0x14) then emit (.absent (dest - 0x10)) s
  else s

/-- A message that arrives for this chip is acted upon; one for another endpoint is relayed. -/
def orRelay (p : Port) (type cmd : Nat) (data : List Byte) (act : State → State) (s : State) : State :=
  match p with
  | .relay r d => relayMctp r d.val type cmd data s
  | _ => act s

def mcOk : Nat := 0
def mcDenied : Nat := 1
def mcBad : Nat := 2
def mcBusy : Nat := 3

/-- The answer to a vendor command (R476): command + 80h, a status byte, the data. -/
def vendorAnswer (p : Port) (cmd status : Nat) (data : List Byte) (s : State) : State :=
  emit (.mctp p (leBytes 1 (cmd + 0x80) ++ leBytes 1 status ++ data)) s

/-! Alerts (R478). -/

/-- The oldest queued alert leaves: to the host over VDM while its port is up, else over the tray bus, and to the rack manager. DESIGN
CHOICE, log entry 134. -/
def sendAlert (s : State) : State :=
  match s.host.alertQ with
  | [] => s
  | a :: t => emit (.alert a (decide (s.fld Reg.hostMode ≠ 0))) (s.modHost (fun h => { h with alertQ := t }))

end Sys2Proof.Machine
end

