-- ==== Sys2Proof/Machine/SwitchCommands.lean ====
section
/-! DEFINITION. Switch-core and routing commands (chapters 4 to 6): ingress, holds and expiries, Acts, end-to-end recovery, circuit
notices, the staged bank. -/
namespace Sys2Proof.Machine

/-! Ingress (Table 04-3). -/

/-- The arrival VC that R111 requires. -/
def vcFits (f : Frame) (vc : Nat) : Bool :=
  if Frame.svc f = 1 then decide (vc = 12)
  else if Frame.type f = tyAside then decide (vc = 13)
  else decide (vc / 3 = Frame.cls f ∧ vc < 12)

/-- The first check of Table 04-3 that a received frame fails: its counter and its REASON. -/
def ingressFault (s : State) (l : Nat) (r : RxFrame) (f : Frame) : Option (Field × Nat) :=
  let need := cellsOfLen (Frame.len f)
  let range := typeLen (Frame.type f)
  if Frame.hcrc f ≠ headerCrc f then some (Reg.hdrBad, 3)
  else if Frame.ver f ≠ 1 then some (Reg.hdrBad, 3)
  else if 11 < Frame.type f then some (Reg.hdrBad, 3)
  else if 256 < Frame.len f then some (Reg.lenOver, 1)
  else if range.2 < Frame.len f then some (Reg.lenOver, 1)
  else if Frame.len f < range.1 then some (Reg.lenShort, 2)
  else if !(Frame.consistent f) || !(vcFits f r.vc) then some (Reg.hdrBad, 3)
  else if 9 ≤ Frame.destPort f ∨ 9 ≤ Frame.srcPort f then some (Reg.hdrBad, 3)
  else if l < 8 ∧ ¬ (Frame.src f = myChip s ∧ Frame.srcPort f = l) then some (Reg.srcBad, 4)
  else if Frame.svc f = 1 ∧ cirInstalled s (Frame.circuit f) l = false then some (Reg.cirUnknown, 5)
  else if r.cells < need then some (Reg.lenShort, 2)
  else if r.eof = false then some (Reg.lenOver, 1)
  else none

/-- R128: GROUP is logged when HCRC was right. -/
def logGroup (f : Frame) : Nat := if Frame.hcrc f = headerCrc f then Frame.group f else 0

/-- R104 and R391 at an edge port: EPOCH, CMARK and AGE are set, and GEN of a mailbox message. -/
def stampEdge (s : State) (l : Nat) (f : Frame) : Frame :=
  let g := Frame.stamp f (s.fld Reg.actSel)
  if Frame.type g = tyMgmt ∧ Frame.destPort g = 8 ∧ 0x80 ≤ Frame.op g ∧ Frame.op g ≤ 0x9F then
    { g with payload := g.payload.take 2 ++ leBytes 2 (s.fld (Reg.genEdge l)) ++ g.payload.drop 4 }
  else g

/-- A strike in DRAINING or DONE answers requests for this chip and from its edge ports, and discards other edge frames (R488
step 2). -/
def struckFrame (s : State) (l : Nat) (f : Frame) : Bool :=
  decide (s.fld Reg.strikeState ≠ 0) &&
  (if Frame.isRequest f then decide (l < 8) || decide (Frame.dest f = myChip s)
   else decide (l < 8) && decide (Frame.type f ≠ tyMgmt))

/-- A checked frame goes on (R20, R109, R129, R488). -/
def takeFrame (l : Nat) (q : QFrame) (s : State) : State :=
  let f := q.frame
  if Frame.isRequest f = false ∧ validChip s (Frame.dest f) = false then releaseStored q (discard Reg.hdrBad 3 l f s)
  else if struckFrame s l f then
    if Frame.isRequest f then
      answerErr f Err.targetGone (releaseStored q (if validChip s (Frame.dest f) then s else s.count Reg.unreach))
    else releaseStored q (discard Reg.graceDrop 7 l f s)
  else routeArrival q s

/-- R205: an edge port with 8,192 requests outstanding takes no further one. -/
def edgeFull (s : State) (l : Nat) (f : Frame) : Bool :=
  decide (l < 8) && Frame.isRequest f && decide (8192 ≤ (s.swc.edgeOut.filter (fun e => decide (e.port = l))).length)

/-- A received frame is held at ingress by R205; the hold counts toward its age, and past the age limit it is held no longer. -/
def heldAtEdge (s : State) (l : Nat) (r : RxFrame) : Bool :=
  let f := Frame.ofBytes r.bytes
  (ingressFault s l r f).isNone && edgeFull s l f && decide (waitedAge s (stampEdge s l f) r.arr ≤ s.fld Reg.ageLimit)

/-- The first received frame of a link that is not held at ingress. -/
def nextAtIngress (s : State) (l : Nat) : Option RxFrame := (s.link l).frames.find? (fun r => !(heldAtEdge s l r))

/-- A received frame is checked and handled. -/
def ingress (l : Nat) (r : RxFrame) (s : State) : State :=
  let f := Frame.ofBytes r.bytes
  let s' := s.modLink l (fun k => { k with frames := k.frames.erase r })
  match ingressFault s l r f with
  | some (c, why) => returnCredit l r.vc (reserveOf r.kept) (dropLog l why (logGroup f) (s'.count c))
  | none =>
    let g := if l < 8 then stampEdge s l f else f
    takeFrame l (freshQ s' g l r.vc (wingOfLink l) r.kept r.arr 0 0) (bumpStor s')

def execFrameIngress (l : Fin 14) (s : State) : Host.Outcome State Fault Refusal :=
  .next (match nextAtIngress s l with
    | none => s
    | some r => if linksLive s then ingress l r s else s)

/-! Holds and expiries. -/

/-- The FENCE-held frame of a name. -/
def fencedAt (s : State) (stor : Nat) : Option QFrame := s.swc.fenced.find? (fun q => decide (q.stor = stor))

/-- Requests that a held one waits for have all been answered (R117). -/
def fenceMet (s : State) (q : QFrame) : Bool :=
  (earlierReqs s q.ing (Frame.dest q.frame) (Frame.destPort q.frame) (Frame.tag q.frame) (Frame.seq q.frame)).isEmpty

def execFenceRelease (stor : Nat) (s : State) : Host.Outcome State Fault Refusal :=
  .next (match fencedAt s stor with
    | none => s
    | some q => if linksLive s ∧ fenceMet s q then
        routeOn answerErr q (s.modSwc (fun w => { w with fenced := w.fenced.erase q })) else s)

/-- A frame, or copy, that waits beyond the age limit: held by FENCE, at the pool's ingress, or queued with no cell sent (R120). -/
def agedFrame (s : State) (stor port : Nat) : Option QFrame :=
  (s.swc.fenced ++ s.swc.poolWait ++ s.swc.queue).find? (fun q => decide (q.stor = stor) &&
    (decide (q.port = port) || decide (q ∈ s.swc.fenced ++ s.swc.poolWait)) && decide (q.sent = 0) && tooOld s q.frame q.ing q.arr)

/-- R120, R121. -/
def ageOut (q : QFrame) (s : State) : State :=
  let s := s.modSwc (fun w => { w with queue := w.queue.erase q, fenced := w.fenced.erase q, poolWait := w.poolWait.erase q })
  let s := releaseStored q (discard Reg.aged 6 q.ing q.frame s)
  if Frame.isRequest q.frame then answerErr q.frame Err.agedOut s else s

def execFrameAgeExpiry (stor : Nat) (port : Fin 14) (s : State) : Host.Outcome State Fault Refusal :=
  .next (match agedFrame s stor port with
    | none => s
    | some q => if linksLive s then ageOut q s else s)

def execPortGraceExpiry (l : Fin 14) (s : State) : Host.Outcome State Fault Refusal :=
  .next (if linksLive s ∧ !(linkUp s l) ∧ (s.link l).grace = .running then graceExpire l s else s)

/-- An adaptive frame that waits for a torus port and may escape (R134, R138). -/
def escapes (s : State) (q : QFrame) : Bool :=
  isTorus q.port && decide (q.vc < 12) && decide (q.sent = 0) && !q.copy && !q.escOnly && q.esc.isNone &&
  !((s.fld (Reg.routeEntry (Frame.epoch q.frame) (Frame.dest q.frame))).testBit 7)

def becomeEligible (q : QFrame) (s : State) : State :=
  let p := escapePort s (Frame.dest q.frame) (s.fld (Reg.routeEntry (Frame.epoch q.frame) (Frame.dest q.frame)))
  s.modSwc (fun w => { w with queue := w.queue.map (fun o => if o = q then { q with esc := some p } else o) })

def execEscapeWaitExpiry (stor : Nat) (s : State) : Host.Outcome State Fault Refusal :=
  .next (match s.swc.queue.find? (fun q => decide (q.stor = stor)) with
    | none => s
    | some q => if linksLive s ∧ escapes s q then becomeEligible q s else s)

/-! The reorder buffer (R141). -/

def streamAt (s : State) (chip port cls : Nat) : Option Stream :=
  s.swc.streams.find? (fun t => decide (t.chip = chip ∧ t.port = port ∧ t.cls = cls))

/-- The hold of a frame expires: it goes with the lower held frames of its stream, in SEQ order, and those that follow on. -/
def holdExpires (t : Stream) (h : InFrame) (s : State) : State :=
  let due := inSeqOrder t (t.held.filter (fun g => decide (aheadBy t g ≤ aheadBy t h)))
  let rest := t.held.filter (fun g => decide (aheadBy t h < aheadBy t g))
  let last := if seqAhead t.last (Frame.seq h.frame) then Frame.seq h.frame else t.last
  let r := drainStream rest.length { t with last := last, held := rest }
  passHeld answerErr (due ++ r.1) (putStream r.2 s)

/-- A frame has been held for SWC_SPRAY_HOLD nanoseconds. -/
def holdDone (s : State) (h : InFrame) : Bool := decide (s.fld Reg.sprayHold ≤ 40 * (s.now - h.arr))

def execSprayHoldExpiry (chip : Fin 4096) (port : Fin 16) (cls : Fin 4) (seq : Fin 16777216) (s : State) :
    Host.Outcome State Fault Refusal :=
  .next (match streamAt s chip port cls with
    | none => s
    | some t => match t.held.find? (fun h => decide (Frame.seq h.frame = seq)) with
      | none => s
      | some h => if linksLive s ∧ holdDone s h then holdExpires t h s else s)

def execSprayStreamExpiry (chip : Fin 4096) (port : Fin 16) (cls : Fin 4) (s : State) : Host.Outcome State Fault Refusal :=
  .next (match streamAt s chip port cls with
    | none => s
    | some t => if linksLive s ∧ t.held.isEmpty then s.modSwc (fun w => { w with streams := w.streams.erase t }) else s)

/-- REORDER is written to 0 (R486): every held frame is passed on, in SEQ order within its stream; no stream is kept. -/
def stopReorder (s : State) : State :=
  let ts := s.swc.streams
  let s := (s.setFld Reg.routeReorder 0).modSwc (fun w => { w with streams := [] })
  forEach (fun (t : Stream) s => passHeld answerErr (inSeqOrder t t.held) s) ts s

def execReorderDisable (s : State) : Host.Outcome State Fault Refusal :=
  .next (if linksLive s ∧ s.flag Reg.routeReorder then stopReorder s else s)

/-! Acts (R147 to R150). -/

/-- The Act of a frame that arrives on a link: at an edge port the one that R104 stamps, whatever the endpoint sent. -/
def arrivalAct (s : State) (l : Nat) (bytes : List Byte) : Nat := if l < 8 then s.fld Reg.actSel else Frame.epoch (Frame.ofBytes bytes)

/-- Frames that a link has received in whole or in part, by their first cell, and that wait for the ingress checks. -/
def arriving (s : State) (l : Nat) : List (List Byte) :=
  (s.link l).frames.map (fun r => r.bytes) ++ ((s.link l).asm.filter (fun a => decide (a.2.cells ≠ 0))).map (fun a => a.2.bytes)

/-- Frames of an Act held in this chip, those in retry buffers included (SWC_ACT_INFLIGHTa, R150). -/
def actInflight (s : State) (a : Nat) : Nat :=
  let of := fun (f : Frame) => decide (Frame.epoch f = a)
  ((storedFrames s).filter (fun q => of q.frame)).length +
  (s.swc.inbox.filter (fun h => of h.frame)).length +
  ((s.swc.streams.flatMap (fun t => t.held)).filter (fun h => of h.frame)).length +
  ((List.range 14).flatMap (fun l => (arriving s l).filter (fun b => decide (arrivalAct s l b = a)))).length +
  ((List.range 14).flatMap (fun l =>
    ((s.link l).retry.filter (fun r => r.eof && decide (r.vc < 14) && decide (r.epoch = a))).map (fun _ => l))).length

/-- R148: a refused write. -/
def refuseAct (s : State) : State := s.raise Reg.swcCfgErr

def sealAct (a : Nat) (s : State) : State :=
  if s.fld (Reg.actState a) = actSpare then s.setFld (Reg.actState a) actSealed else refuseAct s

def execActSeal (act : Fin 2) (s : State) : Host.Outcome State Fault Refusal :=
  .next (if linksLive s then sealAct act s else s)

def armAct (a : Nat) (s : State) : State :=
  if s.fld (Reg.actState a) = actDraining then
    s.modSwc (fun w => { w with armed := if w.armed.any (fun e => decide (e.1 = a)) then w.armed else w.armed ++ [(a, s.now)] })
  else refuseAct s

def execActArm (act : Fin 2) (s : State) : Host.Outcome State Fault Refusal :=
  .next (if linksLive s then armAct act s else s)

def actArmed (s : State) (a : Nat) : Bool := s.swc.armed.any (fun e => decide (e.1 = a)) && decide (s.fld (Reg.actState a) = actDraining)

/-- A retirement: the Act is SPARE, its tables kept (R148). -/
def retireAct (a : Nat) (s : State) : State :=
  (s.setFld (Reg.actState a) actSpare).modSwc (fun w => { w with armed := w.armed.filter (fun e => decide (e.1 ≠ a)) })

def execActRetire (act : Fin 2) (s : State) : Host.Outcome State Fault Refusal :=
  .next (if linksLive s ∧ actArmed s act ∧ !(s.flag Reg.retireMode) ∧ actInflight s act = 0 then retireAct act s else s)

/-- SWC_AGE_LIMIT, in units of 256 ns, and 4 µs have passed since the first arm (R150). -/
def armOver (s : State) (a : Nat) : Bool :=
  s.swc.armed.any (fun e => decide (e.1 = a ∧ 256 * s.fld Reg.ageLimit + 4000 ≤ 40 * (s.now - e.2)))

def execActRetireTimer (act : Fin 2) (s : State) : Host.Outcome State Fault Refusal :=
  .next (if linksLive s ∧ actArmed s act ∧ armOver s act then retireAct act s else s)

/-! End-to-end recovery of the chip's own requests (R155, R156). -/

/-- What became of an own request: data and an error code, 0 for success. -/
def ownEnds (why : Purpose) (data : List Byte) (err : Nat) (s : State) : State :=
  match why with
  | .fetch x p => pieceAnswered x p data err s
  | .spill x p => pieceAnswered x p data err s
  | .mirror _ _ => mirrorAnswered why (decide (err = 0)) s
  | .sync _ => mirrorAnswered why (decide (err = 0)) s
  | .brk => s

/-- The wing whose unit sent a request. -/
def ownWing (s : State) (why : Purpose) : Nat :=
  match why with
  | .fetch x _ => ((xferOf s x).map (fun y => y.wing)).getD 0
  | .spill x _ => ((xferOf s x).map (fun y => y.wing)).getD 0
  | _ => 0

/-- A request of the chip's own units ends; one that waited for its place goes (R158). -/
def dropOwn (r : OwnReq) (s : State) : State :=
  sendWaiting (Frame.dest r.frame) (s.modSwc (fun w => { w with own := w.own.erase r }))

/-- An attempt is over: another one while R155 allows it, or E2E_TIMEOUT; a BREAK is sent once (R215). -/
def attemptOver (r : OwnReq) (s : State) : State :=
  if r.attempts ≤ s.fld Reg.e2eRetries ∧ r.why ≠ .brk then
    let again := { r with attempts := r.attempts + 1, sentAt := s.now }
    sendRequest (ownWing s r.why) r.frame
      ((s.modSwc (fun w => { w with own := w.own.map (fun o => if o = r then again else o) })).count Reg.e2eRetry)
  else ownEnds r.why [] Err.e2eTimeout ((dropOwn r s).count Reg.e2eFail)

/-- A delivered frame that waits for its unit. DESIGN CHOICE, log entry 59. -/
def inboxOf (s : State) (f : Frame) : Option InFrame := s.swc.inbox.find? (fun h => decide (h.frame = f))

def isResponse (f : Frame) : Bool := decide (tyRspData ≤ Frame.type f ∧ Frame.type f ≤ tyRspErr)

/-- A response for one of the chip's own units. -/
def takeResponse (f : Frame) (s : State) : State :=
  match s.swc.own.find? (fun r => decide (Frame.tag r.frame = Frame.tag f ∧ Frame.seq r.frame = Frame.seq f)) with
  | none => s.count Reg.dupRsp
  | some r =>
    if Frame.type f ≠ tyRspErr then ownEnds r.why f.payload 0 (dropOwn r s)
    else
      let code := Frame.addr f % 4096
      if code ≠ Err.agedOut then ownEnds r.why [] code (dropOwn r s)
      else
        let r' := { r with aged := r.aged + 1 }
        let s := s.modSwc (fun w => { w with own := w.own.map (fun o => if o = r then r' else o) })
        if r'.aged < r'.attempts then s.count Reg.dupRsp else attemptOver r' s

/-! Circuits. -/

def isCircuitNotice (f : Frame) : Bool := decide (Frame.type f = tyAside) && decide (Frame.op f = 0xF0)

def execCircuitNoticeReceive (f : Frame) (s : State) : Host.Outcome State Fault Refusal :=
  .next (match inboxOf s f with
    | none => s
    | some h => if linksLive s ∧ isCircuitNotice f then takeNotice h.ing f.payload (dropInbox h s) else s)

/-- SWC_PLAN_CTRL.CLEAR_STAGED (R184). -/
def execClearStaged (s : State) : Host.Outcome State Fault Refusal :=
  .next (if linksLive s then clearStaged s else s)

end Sys2Proof.Machine
end

