-- ==== Sys2Proof/Machine/MemCommands.lean ====
section
/-! DEFINITION. Commands of the pool (chapter 7): DIMMs and training, sets, requests, mirrors, scrubbing, strike, the host's accesses. -/
namespace Sys2Proof.Machine

/-! DIMMs and training (R191 to R195, R219). -/

/-- PMIC_EN of a channel is driven. -/
def pmicOn (s : State) (n : Nat) : Bool := s.house.pmicEn.testBit n

/-- A channel whose PMIC has been enabled and has not answered: at bring-up, or on a return. -/
def awaitsPmic (s : State) (n : Nat) : Bool :=
  pmicOn s n && ((decide (s.fld (Reg.chState n) = chEmpty) && !(s.chan n).judged) ||
    (decide (s.fld (Reg.chState n) = chStruck) && (s.chan n).returning))

/-- The inventory record of a channel takes a new DIMM's serial number; its hours restart (R493). -/
def recordDimm (n serial : Nat) (s : State) : State :=
  if s.fld (Reg.invDimmSerial n) = serial % 2 ^ 32 then s
  else (s.setFld (Reg.invDimmSerial n) serial).setFld (Reg.invDimmHours n) 0

/-- A DIMM has power: it is judged and trains at its highest rate. -/
def dimmPowered (n : Nat) (d : Spd) (s : State) : State :=
  let s := recordDimm n d.serial (showDimm n d s)
  match spdRefusal d with
  | some cause => settleChannels (failChannel n cause s)
  | none =>
    startAttempt n (firstRate s n d.typ) (s.setChan n { s.chan n with typ := d.typ, pmicGood := true })

def execPmicPowerGood (n : Fin 12) (spd : Spd) (s : State) : Host.Outcome State Fault Refusal :=
  .next (if linksLive s ∧ awaitsPmic s n then dimmPowered n spd s else s)

/-- No power-good within 50 ms: an SPD refusal comes first, then PMIC_FAIL; with no DIMM the channel is EMPTY. -/
def dimmSilent (n : Nat) (spd : Option Spd) (s : State) : State :=
  match spd with
  | some d => settleChannels (failChannel n ((spdRefusal d).getD cauPmicFail) (showDimm n d s))
  | none =>
    let back := (s.chan n).returning
    let s := (s.setChan n { s.chan n with judged := true, returning := false }).setFld (Reg.chState n) chEmpty
    let s := ((s.setFld (Reg.chSerial n) 0).setFld (Reg.chCapacity n) 0).setFld (Reg.chCause n) 0
    settleChannels (if back then (s.setFld Reg.strikeResult 5).raise Reg.memStrikeEv else s)

def execPmicTimeout (n : Fin 12) (spd : Option Spd) (s : State) : Host.Outcome State Fault Refusal :=
  .next (if linksLive s ∧ awaitsPmic s n then dimmSilent n spd s else s)

/-- A training attempt succeeds: results are saved after a full training, marks end, a returned channel goes to quarantine. -/
def trained (n : Fin 12) (s : State) : State :=
  let c := s.chan n
  let key := (s.fld (Reg.chSerial n), c.rate)
  let s := (s.setFld (Reg.chSpeed n) c.rate).setFld (Reg.chRestored n) (if c.fromSaved then 1 else 0)
  let s := s.modMem (fun m => { m with
    saved := if c.fromSaved || decide (key ∈ m.saved) then m.saved else m.saved ++ [key]
    rebuilds := m.rebuilds.filter (fun r => decide (r.1 / 20 ≠ n.val)) })
  let s := (s.setFld (Reg.chMark n 0) 0).setFld (Reg.chMark n 1) 0
  if c.returning then
    quarantine (.ddr n) (setUnit (.ddr n) (if heldByGhost s (.ddr n) then 2 else 0) (s.setFld (Reg.chState n) chQuarantine))
  else settleChannels ((s.setChan n { s.chan n with judged := true }).setFld (Reg.chState n) chReady)

/-- A training attempt fails: in full at the same rate after saved results, then at 8,800 MT/s after 12,800, else TRAIN_FAIL. -/
def untrained (n : Fin 12) (s : State) : State :=
  let c := s.chan n
  if c.fromSaved then s.setChan n { c with fromSaved := false }
  else if c.rate = 3 then startAttempt n 2 s
  else settleChannels (failChannel n cauTrainFail s)

def execChannelTrainingComplete (n : Fin 12) (ok : Bool) (s : State) : Host.Outcome State Fault Refusal :=
  .next (if linksLive s ∧ s.fld (Reg.chState n) = chTraining then (if ok then trained n s else untrained n s) else s)

/-! Interleave sets (R199). -/

/-- A write to MEM_SETk. DEDUCED, log entry 58. -/
def writeSet (k : Nat) (v : Word) (s : State) : State :=
  let mask := field v 0 12
  let base := field v 16 16
  let keep := v.getLsbD 13
  let st := s.fld (Reg.setState k)
  if st = setInService ∨ st = setZeroing ∨ 4096 ≤ base then s.raise Reg.memCfgErr
  else if v.getLsbD 12 then
    if setRefused s k mask base ∨ (keep ∧ !(allRetained s mask)) then s.raise Reg.memCfgErr
    else settleOpen (installSet k mask base keep s)
  else
    let s := ((s.setFld (Reg.setMask k) mask).setFld (Reg.setBase k) base).setFld (Reg.setKeep k) (if keep then 1 else 0)
    settleOpen (((s.setFld (Reg.setValid k) 0).setFld (Reg.setState k) setOff).setFld (Reg.setSize k) (sizeOfMask s mask))

def execMemSetWrite (k : Fin 12) (value : Word) (s : State) : Host.Outcome State Fault Refusal :=
  .next (if linksLive s then writeSet k value s else s)

/-- A set has been zeroed and enters service. -/
def setZeroed (k : Nat) (s : State) : State :=
  let s := startScrub (channelsOf (s.fld (Reg.setMask k))) (placeFilter ((zeroSet k s).setFld (Reg.setState k) setInService))
  let s := if k ∈ s.mem.returns then
      ((s.setFld Reg.strikeResult 4).raise Reg.memStrikeEv).modMem (fun m => { m with returns := m.returns.erase k })
    else s
  settleOpen s

def execSetZeroingComplete (k : Fin 12) (s : State) : Host.Outcome State Fault Refusal :=
  .next (if linksLive s ∧ s.fld (Reg.setState k) = setZeroing then setZeroed k s else s)

/-! Requests (R205 to R217). -/

/-- A delivered pool request is served, or waits: the channels that it needs are woken. -/
def takePool (h : InFrame) (serve : State → State) (s : State) : State :=
  if poolWaits s h then
    let cs := reqChans s h.frame
    stopPhySlices cs (wakeChans cs s)
  else settleStrike (admitPool (serve (dropInbox h s)))

def execPoolRequest (f : Frame) (errs : List (Nat × List Byte)) (s : State) : Host.Outcome State Fault Refusal :=
  .next (match inboxOf s f with
    | none => s
    | some h => if linksLive s ∧ isPoolRequest f ∧ !(isMirrorWrite f) then takePool h (servePool f errs) s else s)

def execMirrorWriteReceive (f : Frame) (s : State) : Host.Outcome State Fault Refusal :=
  .next (match inboxOf s f with
    | none => s
    | some h => if linksLive s ∧ isPoolRequest f ∧ isMirrorWrite f then takePool h (serveMirror f) s else s)

/-- A held write whose mirror writes have all been answered ends; a host's is reported when it fails. -/
def endHold (h : MirrorHold) (s : State) : State :=
  let s := finishHold h s
  match h.asker with
  | .host _ => if h.lost.isEmpty = false then reportHostFailure Err.mirrorLost h.off true s else s
  | _ => s

def execMirrorAckReceive (id : Nat) (s : State) : Host.Outcome State Fault Refusal :=
  .next (match s.mem.holds.find? (fun h => decide (h.id = id)) with
    | none => s
    | some h => if linksLive s ∧ h.left = 0 then settleStrike (admitPool (endHold h s)) else s)

/-- MODE = SYNC is written (R215, Table 07-11). -/
def startSync (k : Nat) (s : State) : State :=
  let st := s.fld (Reg.mregState k)
  if st ≠ regOff ∧ st ≠ regBroken then s
  else if regionRefused s k ∨ s.fld (Reg.mregPartner k) = myChip s then s.raise Reg.memCfgErr
  else
    let s := (((s.setFld (Reg.mregMode k) 1).setFld (Reg.mregState k) regSyncing).setFld (Reg.mregSynced k) 0)
    let y := Sync.mk k (s.fld (Reg.mregBase k) * 2 ^ 30) false false false
    s.modMem (fun m => { m with syncs := m.syncs ++ [y] })

def execMirrorSyncStart (k : Fin 16) (s : State) : Host.Outcome State Fault Refusal :=
  .next (if linksLive s then startSync k s else s)

def execMirrorSyncComplete (k : Fin 16) (s : State) : Host.Outcome State Fault Refusal :=
  .next (match s.mem.syncs.find? (fun y => decide (y.region = k.val) && y.doneAcked) with
    | none => s
    | some y => if linksLive s then
        (s.modMem (fun m => { m with syncs := m.syncs.erase y })).setFld (Reg.mregState k) regMirrored else s)

/-- MODE = OFF is written (R215). -/
def stopMirror (k : Nat) (s : State) : State :=
  if s.fld (Reg.mregMode k) = 0 then s
  else
    let s := (s.setFld (Reg.mregMode k) 0).setFld (Reg.mregState k) regOff
    sendBreak k (s.modMem (fun m => { m with syncs := m.syncs.filter (fun y => decide (y.region ≠ k)) }))

def execMirrorOff (k : Fin 16) (s : State) : Host.Outcome State Fault Refusal :=
  .next (if linksLive s then stopMirror k s else s)

/-- ENABLE of a copy window is written (R216, Table 07-12). -/
def enableWindow (k : Nat) (on : Bool) (s : State) : State :=
  if !on then (s.setFld (Reg.mwinEnable k) 0).setFld (Reg.mwinState k) winOff
  else if s.flag (Reg.mwinEnable k) then s
  else if windowRefused s k then s.raise Reg.memCfgErr
  else (s.raise (Reg.mwinEnable k)).setFld (Reg.mwinState k) winFilling

def execWindowEnable (k : Fin 16) (on : Bool) (s : State) : Host.Outcome State Fault Refusal :=
  .next (if linksLive s then enableWindow k on s else s)

/-! The scrubber and device marks (R202, R204). -/

/-- House-clock periods in which the scrub is due to pass one line of a channel (R204): MEM_SCRUB.HOURS over the channel's lines in its
set. -/
def scrubStep (s : State) (c : Nat) : Nat :=
  match setOfChan s c with
  | none => 0
  | some k => s.fld Reg.scrubHours * ticksHour * 64 * (channelsOf (s.fld (Reg.setMask k))).length / max 1 (setBytes s k)

/-- One more line of a channel is scrubbed; a channel held awake for a late scrub is let go once it has caught up (R204). DESIGN CHOICE,
log entry 171. -/
def scrubOn (c : Nat) (s : State) : State :=
  let at_ := Tab.get (fun _ => 0) s.mem.scrubbed c + scrubStep s c
  s.modMem (fun m => { m with
    scrubbed := Tab.set (fun _ => 0) m.scrubbed c (min s.now at_)
    catchUp := if s.now ≤ at_ then m.catchUp.filter (fun d => decide (d ≠ c)) else m.catchUp })

/-- The scrubber reads one line: corrected data go back, an uncorrectable line is logged and left. DEDUCED, log entry 79. -/
def scrubLine (c line o : Nat) (err : List Byte) (s : State) : State :=
  scrubOn c (if isUe s (c * 2 ^ 34 + line) then logUe c line o 2 s
    else lineBack c line (lineSeen s c line err) (meetErrors c line o 2 err s))

def execDdrScrubLine (c : Fin 12) (line : Nat) (err : List Byte) (s : State) : Host.Outcome State Fault Refusal :=
  .next (match offsetOfLine s c line with
    | none => s
    | some (_, o) => if linksLive s ∧ s.fld Reg.scrubHours ≠ 0 ∧ s.fld (Reg.ddrState c) = 0 then scrubLine c line o err s else s)

/-- The scrub of a channel of an in-service set has fallen more than an hour behind (R204). -/
def scrubLate (s : State) (c : Nat) : Bool :=
  decide (s.fld Reg.scrubHours ≠ 0) &&
  ((setOfChan s c).map (fun k => decide (s.fld (Reg.setState k) = setInService))).getD false &&
  decide (Tab.get (fun _ => 0) s.mem.scrubbed c + ticksHour < s.now)

/-- A channel is woken for its late scrub and held awake until the scrub has caught up (R204). -/
def wakeForScrub (c : Fin 12) (s : State) : State :=
  wakeUnit (.ddr c) (s.modMem (fun m => { m with catchUp := if m.catchUp.contains c.val then m.catchUp else m.catchUp ++ [c.val] }))

def execScrubWake (c : Fin 12) (s : State) : Host.Outcome State Fault Refusal :=
  .next (if linksLive s ∧ scrubLate s c then wakeForScrub c s else s)

/-- Rebuilds of a device within 24 h. -/
def rebuildsOf (s : State) (key : Nat) : Nat :=
  (s.mem.rebuilds.filter (fun r => decide (r.1 = key) && decide (s.now < r.2 + ticks24h))).length

/-- A device reaches MEM_DEV_THRESH on an unmarked sub-channel. -/
def markDue (s : State) (c sub d : Nat) : Bool :=
  decide (s.fld Reg.devThresh ≠ 0) && decide (s.fld (Reg.chMark c sub) = 0) &&
  decide (s.fld Reg.devThresh ≤ rebuildsOf s ((c * 2 + sub) * 10 + d))

def execDeviceMark (c : Fin 12) (sub : Fin 2) (device : Fin 10) (s : State) : Host.Outcome State Fault Refusal :=
  .next (if linksLive s ∧ markDue s c sub device then
      (s.setFld (Reg.chMark c sub) (device + 1)).raise Reg.devMarked else s)

/-! Strike, return and failure (R218 to R220). -/

/-- The RESULT of a refused strike of set k: not IN_SERVICE, or a region or copy storage in it. -/
def strikeRefusal (s : State) (k : Nat) : Option Nat :=
  if s.fld (Reg.setState k) ≠ setInService then some 3
  else if (liveRegions s).any (regionIn s k) || (List.range 16).any (storageIn s k) then some 2
  else none

/-- The requests and host accesses that are in service when set k is struck (R218). -/
def markDraining (k : Nat) (s : State) : State :=
  let landsIn := fun (h : InFrame) => isPoolRequest h.frame && (match poolChecks s h.frame with
    | .inl _ => false
    | .inr (j, _, _) => decide (j = k) && !(noAccess h.frame))
  let mine := (s.swc.inbox.filter landsIn).map (fun h => (k, h))
  s.modMem (fun m => { m with
    draining := m.draining.filter (fun d => s.swc.inbox.contains d.2) ++ mine
    hostWait := m.hostWait.map (fun r => if setOfSpan s r.off 64 = some k then { r with exempt := true } else r) })

/-- MEM_STRIKE.GO of a channel. -/
def strikeChannel (c : Nat) (s : State) : State :=
  match setOfChan s c with
  | none => (s.setFld Reg.strikeResult 3).raise Reg.memStrikeEv
  | some k =>
    match strikeRefusal s k with
    | some r => (s.setFld Reg.strikeResult r).raise Reg.memStrikeEv
    | none =>
      let held := decide (highestSet s = some k)
      let s := ((markDraining k s).setFld (Reg.setState k) setStruck).setFld Reg.strikeResult 0
      let s := s.modMem (fun m => { m with striking := m.striking ++ [c] })
      settleStrike (if held then
          if (highestSet s).isSome then s.modMem (fun m => { m with moving := true })
          else (placeFilter (s.modSwc (fun w => { w with filter := [] }))).raise Reg.filterLost
        else s)

def execChannelStrike (c : Fin 12) (s : State) : Host.Outcome State Fault Refusal :=
  .next (if linksLive s then strikeChannel c (s.setFld Reg.strikeChan c) else s)

def execFilterMoveComplete (s : State) : Host.Outcome State Fault Refusal :=
  .next (if linksLive s ∧ s.mem.moving then settleStrike (placeFilter (s.modMem (fun m => { m with moving := false }))) else s)

/-- MEM_STRIKE.RETURN of a channel: its PMIC is switched on. DEDUCED, log entry 69. -/
def returnChannel (c : Nat) (s : State) : State :=
  if s.fld (Reg.chState c) ≠ chStruck then s.raise Reg.memCfgErr
  else
    let s := s.setChan c { s.chan c with returning := true, judged := false, pmicGood := false }
    { s.setFld Reg.strikeResult 0 with house := { s.house with pmicEn := putBits s.house.pmicEn c 1 1 } }

def execChannelReturn (c : Fin 12) (s : State) : Host.Outcome State Fault Refusal :=
  .next (if linksLive s then returnChannel c (s.setFld Reg.strikeChan c) else s)

/-- A channel that can fail outside a strike: training, READY or in QUARANTINE, or STRUCK with its PMIC on (R220, R492). -/
def canFail (s : State) (c : Nat) : Bool :=
  let st := s.fld (Reg.chState c)
  decide (st = chTraining ∨ st = chReady ∨ st = chQuarantine) || (decide (st = chStruck) && pmicOn s c)

def execChannelFail (c : Fin 12) (cause : Fin 256) (s : State) : Host.Outcome State Fault Refusal :=
  .next (if linksLive s ∧ canFail s c ∧ (cause.val = cauPmicFail ∨ cause.val = cauTrainFail ∨ cause.val = cauRemoved) then
      settleChannels (channelFails c cause s) else s)

/-! The host's accesses (R222). -/

/-- The check of Table 07-6 that a host access to the line at offset o fails, or the set that holds it. DEDUCED, log entry 57. -/
def hostVerdict (s : State) (r : HostReq) : Nat ⊕ Nat :=
  if s.fld Reg.memOpen = 0 then .inl Err.targetGone
  else match setOfSpan s r.off 64 with
    | none => .inl Err.memRange
    | some k =>
      if s.fld (Reg.setState k) ≠ setInService ∧ !(r.exempt && decide (s.fld (Reg.setState k) = setStruck)) then .inl Err.targetGone
      else if touchesFilter s r.off 64 ∨ (r.write ∧ touchesCopy s r.off 64) then .inl Err.memRange
      else if r.write ∧ (regionsOf s r.off 64).any (fun g => decide (s.fld (Reg.mregState g) = regBroken)) then
        .inl Err.mirrorLost
      else .inr k

/-- A host access fails: all ones or not applied, CFG_ERR unless uncorrectable, an event record. -/
def hostFailed (write : Bool) (addr o code : Nat) (s : State) : State :=
  let s := if code = Err.memUncorr then s else s.raise Reg.memCfgErr
  reportHostFailure code o write (hostFails write addr s)

/-- A host read of one line. -/
def hostRead (r : HostReq) (k : Nat) (s : State) : State :=
  let data := poolSeen s k r.off 64 [(r.off / 64, r.err)]
  let s := readLine k r.off 3 r.err s
  if (firstUe s k r.off 64).isSome then hostFailed false r.addr r.off Err.memUncorr s else emit (.hostData r.addr data) s

/-- A host write of one line, which a mirrored region sends to its partner first. -/
def hostStore (addr k o : Nat) (bytes : List Byte) (s : State) : State :=
  match mirroredRegions s none o 64 with
  | r :: rs => holdWrite (r :: rs) (.host addr) o bytes [] 0 0 2 1 s
  | [] => emit (.hostDone addr true) (poolWrite k o bytes s)

/-- A host write: a partial one reads the line first and merges. -/
def hostWrite (r : HostReq) (k : Nat) (s : State) : State :=
  if r.enables = 2 ^ 64 - 1 then hostStore r.addr k r.off (padTo 64 r.bytes) s
  else
    let s := refreshLine k r.off 3 r.err s
    if (firstUe s k r.off 64).isSome then hostFailed true r.addr r.off Err.memUncorr s
    else hostStore r.addr k r.off (mergeBytes r.enables (poolRead s k r.off 64) r.bytes) s

/-- A host access is judged and carried out. -/
def hostServe (r : HostReq) (s : State) : State :=
  match hostVerdict s r with
  | .inl code => hostFailed r.write r.addr r.off code s
  | .inr k => if r.write then hostWrite r k s else hostRead r k s

/-- A host access waits in its order (R210): its line is held, a request or host access that came before it for the line has not been
served, the filter store moves, or its channel sleeps (R49). -/
def hostBlocked (s : State) (r : HostReq) : Bool :=
  match hostVerdict s r with
  | .inl _ => false
  | .inr k =>
    spanHeld s r.off 64 || (r.write && s.mem.moving) || r.ahead.any (fun h => s.swc.inbox.contains h) ||
    (s.mem.hostWait.takeWhile (fun q => decide (q ≠ r))).any (fun q => decide (q.off = r.off)) ||
    (chansOfSpan s k r.off 64).any (chanWaits s)

/-- The channels of a host access that waits are woken, their rehearsal slices abandoned (R49, R506). -/
def hostWakes (r : HostReq) (s : State) : State :=
  match setOfSpan s r.off 64 with
  | none => s
  | some k => stopPhySlices (chansOfSpan s k r.off 64) (wakeChans (chansOfSpan s k r.off 64) s)

/-- One host access; the line that it names starts at a multiple of 64 bytes. -/
def hostAccess (write : Bool) (addr enables : Nat) (bytes err : List Byte) (s : State) : State :=
  match hostDpa s addr with
  | none => hostFailed write addr addr Err.memRange s
  | some o =>
    let r : HostReq := { write := write, addr := addr, off := o, enables := enables, bytes := bytes, err := err,
                         ahead := s.swc.inbox.filter (fun h => onLine s h.frame o 64), exempt := false }
    if hostBlocked s r then hostWakes r (s.modMem (fun m => { m with hostWait := m.hostWait ++ [r] })) else hostServe r s

/-- A host access that waited is carried out when it may be. -/
def hostNext (r : HostReq) (s : State) : State :=
  if hostBlocked s r then hostWakes r s else hostServe r (s.modMem (fun m => { m with hostWait := m.hostWait.erase r }))

/-- The host accesses that wait, in their order. DESIGN CHOICE, log entry 70. -/
def serveHost (s : State) : State :=
  if s.mem.hostWait.isEmpty then s else settleStrike (admitPool (forEach hostNext s.mem.hostWait s))

def execHostMemAccess (write : Bool) (addr : Nat) (enables : BitVec 64) (bytes err : List Byte) (s : State) :
    Host.Outcome State Fault Refusal :=
  .next (if linksLive s ∧ (s.fld Reg.hostMode = hmCxl20 ∨ s.fld Reg.hostMode = hmCxl11) then
      hostAccess write addr enables.toNat bytes err s else s)

def execHdmCommit (d : Fin 2) (base size skip ways : Nat) (lock : Bool) (s : State) : Host.Outcome State Fault Refusal :=
  .next (if linksLive s ∧ s.fld Reg.hostMode = hmCxl20 then commitHdm d base size skip ways lock s else s)

end Sys2Proof.Machine
end

