-- ==== Sys2Proof/Machine/TensorCommands.lean ====
section
/-! DEFINITION. Commands of the Tensor Stage and the cue units (chapters 8 and 9): tiles, the scratchpad, tensor instructions that
complete, programs, triggers, sequencer control, counters, quarantine. -/
namespace Sys2Proof.Machine

/-! Instructions that run (R225, R270). -/

/-- An earlier instruction of the sequencer has not completed and overlaps (R270). -/
def flightBlocked (s : State) (f : Flight) : Bool :=
  s.ten.flights.any (fun e => decide (e.seq = f.seq) && decide (e.id < f.id) &&
    (f.reads.any (fun r => e.writes.any (overlaps r)) ||
     f.writes.any (fun w => e.writes.any (overlaps w) || e.reads.any (overlaps w))))

/-- The tiles that an instruction runs on, and the wings of its extents. -/
def flightUnits (s : State) (f : Flight) : List UnitId :=
  ((flightTiles s f).filter (fun p => decide (p < 240))).map tileUnit ++
  ((f.reads ++ f.writes).flatMap (fun e => wingsOfSpan e.1 (e.2 - e.1))).map spUnit

/-- An instruction can run: its units are awake and current (R291). -/
def flightReady (s : State) (f : Flight) : Bool := !(flightBlocked s f) && (flightUnits s f).all (unitCurrent s)

/-- Before the tile map changes: an instruction that runs keeps its tiles (R225). -/
def pinFlights (s : State) : State :=
  s.modTen (fun t => { t with flights := t.flights.map (fun f => if flightReady s f then { f with tiles := some (flightTiles s f) } else f) })

/-- An instruction runs on a tile. -/
def runsOnTile (s : State) (p : Nat) : Bool := s.ten.flights.any (fun f => (f.tiles.getD []).contains p)

/-- A tile that has been given up is Off, once no instruction runs on it (R225). -/
def tileOff (p : Nat) (s : State) : State := if runsOnTile s p then s else setUnit (tileUnit p) 3 s

/-! Tiles (R224 to R226). -/

/-- The swings of a wing's tiles have run out (R512). -/
def noteTilePool (p : Nat) (s : State) : State := if (spareTile s (p / 60)).isNone then swingLowAlert s else s

/-- TEN_TILE_CMD SWING: a tile with a logical number gives it to a SPARE; with none the write is refused. DEDUCED, log entry 76. -/
def swingCmd (p : Nat) (s : State) : State :=
  if (spareTile s (p / 60)).isNone ∨ s.fld (Reg.tileLogical p) = 0xFF then s.raise Reg.tenCfgErr
  else noteTilePool p (tileOff p (swingTile p (pinFlights s)))

def execTileSwingCmd (p : Fin 240) (s : State) : Host.Outcome State Fault Refusal :=
  .next (if linksLive s then swingCmd p s else s)

/-- TEN_TILE_CMD RETIRE. -/
def retireCmd (p : Nat) (s : State) : State :=
  if s.fld (Reg.tileRole p) = 3 then s else tileOff p (retireTile p (pinFlights s))

def execTileRetireCmd (p : Fin 240) (s : State) : Host.Outcome State Fault Refusal :=
  .next (if linksLive s then retireCmd p s else s)

/-- TEN_TILE_CMD RETURN: RETIRED to SPARE through quarantine; in ghost-light mode the tile is held Dark meanwhile (R52). -/
def returnTile (p : Nat) (s : State) : State :=
  if s.fld (Reg.tileRole p) ≠ 3 then s
  else
    let s := s.setFld (Reg.tileRole p) 2
    if heldByGhost s (tileUnit p) then quarantine (tileUnit p) (setUnit (tileUnit p) 2 s)
    else quarantine (tileUnit p) (lightWing (tileUnit p) (setUnit (tileUnit p) 0 s))

def execTileReturnCmd (p : Fin 240) (s : State) : Host.Outcome State Fault Refusal :=
  .next (if linksLive s then returnTile p s else s)

/-- A tile has reached TEN_TILE_THRESH reloads in 24 h. -/
def reloadsDue (s : State) (p : Nat) : Bool :=
  decide (s.fld Reg.tileThresh ≠ 0) && decide (s.fld Reg.tileThresh ≤ reloads24 s p) && decide (s.fld (Reg.tileLogical p) ≠ 0xFF)

/-- The failing tile is swung or retired, and recorded (R226, R508). -/
def tileFails (p : Nat) (s : State) : State :=
  let none_ := (spareTile s (p / 60)).isNone
  let s := recordFailure clsTile p none_ (tileOff p (swingTile p (pinFlights s)))
  if none_ then s else noteTilePool p s

def execTileReloadThreshold (p : Fin 240) (s : State) : Host.Outcome State Fault Refusal :=
  .next (if linksLive s ∧ reloadsDue s p then tileFails p s else s)

/-! The scratchpad (R243 to R252). -/

def execRowSwing (row : Fin 2097152) (s : State) : Host.Outcome State Fault Refusal :=
  .next (if linksLive s ∧ rowDue s row then swingRow row s else s)

/-- Bytes that a request reads or writes. -/
def requestBytes (f : Frame) : Nat := if Frame.type f = tyReqRd then (Frame.op f + 1) * 16 else Frame.len f * 16

/-- A request to space 1 is served, or wakes the scratchpad that it needs (R49, R245). -/
def takeScratch (h : InFrame) (errs : List (Nat × List Byte)) (s : State) : State :=
  let o := spaceOffset h.frame
  if heldByMove s h.frame then s
  else if !(scratchRefused s h.frame) && !(spanAwake s o (requestBytes h.frame)) then wakeSpan o (requestBytes h.frame) s
  else serveScratch h.frame errs (dropInbox h s)

/-- A request to a space of R196 other than the pool. -/
def isSpaceRequest (k : Nat) (f : Frame) : Bool := Frame.isRequest f && decide (spaceOf f = k)

def execScratchpadRequest (f : Frame) (errs : List (Nat × List Byte)) (s : State) : Host.Outcome State Fault Refusal :=
  .next (match inboxOf s f with
    | none => s
    | some h => if linksLive s ∧ isSpaceRequest 1 f then takeScratch h errs s else s)

/-- The scrubber reads a word of a powered wing. -/
def scrubWord (word : Nat) (err : List Byte) (s : State) : State :=
  if unitState s (spUnit (spWing (word * 32))) = 3 then s
  else readWords (word * 32) 32 [(word, err)] s

def execSpScrub (word : Fin 16777216) (err : List Byte) (s : State) : Host.Outcome State Fault Refusal :=
  .next (if linksLive s then scrubWord word err s else s)

def execRangeZeroingComplete (base : Nat) (s : State) : Host.Outcome State Fault Refusal :=
  .next (match s.ten.zeroing.find? (fun z => decide (z.1 = base)) with
    | none => s
    | some z => if linksLive s then settlePlacing (zeroRange z.1 z.2 s) else s)

/-! Tensor instructions in flight (R239, R269, R270, R322). -/

/-- The tensor part of a crossing that can run has started (row 7 of Table 09-8). -/
def startFlights (s : State) : State :=
  forEach (fun (f : Flight) s => match f.cross.bind (s.opById ·) with
    | some o => if flightReady s f then s.modCtr o.ctr Ctr.start else s
    | none => s) s.ten.flights s

/-- The bytes of the rows of a source that are read: elements, scales, metadata. -/
def rowSpans (d : Desc) (rows : List Nat) : List (Nat × Nat) :=
  rows.flatMap (fun r =>
    [(Desc.base d + r * Desc.stride d, Desc.packedBytes d)] ++
    (if isMx (Desc.fmt d) then [(Desc.scaleBase d + r * Desc.scaleRow d, (Desc.cols d + 31) / 32)] else []) ++
    (if Desc.sparse d then [(Desc.metaBase d + r * Desc.metaRow d, Desc.cols d / 8)] else []))

/-- The mask of a source. -/
def maskSpans (d : Desc) (expert : Bool) : List (Nat × Nat) :=
  if Desc.masked d then [(Desc.maskBase d, if expert then Desc.rows d * Desc.expertRow d else (Desc.rows d + 7) / 8)] else []

/-- What an instruction reads: its masks, the unmasked rows of srcA, and, when a row is left, its other sources; an MMAG reads the experts
with a selected token, a GATHERI the rows that its indices name (R241, R242, R321). -/
def readSpans (s : State) (o : Oper) : List (Nat × Nat) :=
  let m := Desc.rows o.a
  let gather := decide (Isa.opc o.w = Isa.oGATHERI)
  let rows := (List.range m).filter (rowOn s o.a)
  let rows := if gather then
      (List.range (Desc.rows o.b)).filterMap (fun r =>
        let i := elemInt s o.b r 0
        if 0 ≤ i ∧ i < (m : Int) ∧ rowOn s o.a i.toNat then some i.toNat else none)
    else rows
  let mask := maskSpans o.a false
  let bs := if Isa.opc o.w = Isa.oMMAG then
      ((List.range o.experts).filter (fun e => rows.any (fun t => expertOn s o.c e t))).flatMap (fun e =>
        rowSpans (o.expert e) (List.range (Desc.rows o.b)))
    else if Isa.usesB o.w then rowSpans o.b (List.range (Desc.rows o.b)) else []
  let cs := if Isa.cEn o.w = 1 ∧ !o.indexC then rowSpans o.c (List.range (Desc.rows o.c)) ++ maskSpans o.c o.expertC else []
  mask ++ (if rows.isEmpty && !gather then [] else rowSpans o.a rows ++ bs ++ cs)

/-- What a FMT 3 instruction writes: the rows of dst that are not masked, a GATE's expert mask, TOPK's index rows. -/
def writeSpans (s : State) (o : Oper) : List (Nat × Nat) :=
  let gate := decide (Isa.opc o.w = Isa.oGATE)
  let rows := (List.range o.outShape.1).filter (fun r =>
    gate || decide (Isa.opc o.w = Isa.oGATHERI) || rowOn s o.a r)
  rowSpans o.d rows ++
  (if gate then rows.map (fun e => (Desc.maskBase o.d + e * Desc.expertRow o.d, (Desc.cols o.d + 7) / 8)) else []) ++
  (if o.indexC then rowSpans o.c rows else [])

/-- The failure that appears when an instruction runs: an uncorrectable word that it reads or writes in part (R247), or bad metadata of
srcB (R322). -/
def lateFailure (s : State) (o : Oper) (cue : Bool) : Option (Nat × Option Nat) :=
  match (readSpans s o).findSome? (fun e => firstBadWord s e.1 e.2) with
  | some w => some (Err.memUncorr, some w)
  | none =>
    if badMeta s o.b && Isa.usesB o.w && (List.range (Desc.rows o.a)).any (rowOn s o.a) then some (Err.descFault, none)
    else if cue then none
    else ((writeSpans s o).findSome? (fun e => firstPartBad s e.1 e.2)).map (fun w => (Err.memUncorr, some w))

/-- The failure of an instruction in flight: a logical tile that has become unmapped before it ran (R225), or what shows when it runs. -/
def flightFailure (s : State) (f : Flight) : Option (Nat × Option Nat) :=
  if (flightTiles s f).contains 0xFF then some (Err.descFault, none) else lateFailure s f.oper f.cross.isSome

/-- An instruction leaves the tiles; one that has been given up meanwhile goes Off (R225), and what waited on it goes on (R270, R271,
R287). -/
def retireFlight (f : Flight) (s : State) : State :=
  let s := s.modTen (fun t => { t with flights := t.flights.filter (fun e => decide (e.id ≠ f.id)) })
  settleSigs f.id (forEach (fun p s => if s.fld (Reg.tileRole p) = 3 then tileOff p s else s) (f.tiles.getD []) s)

/-- A FMT 3 instruction fails: dst is unspecified within its extent, and the sequencer stops with the instruction's PC (R322). -/
def flightFaults (f : Flight) (code : Nat) (s : State) : State :=
  let s := retireFlight f (forEach (fun (e : Nat × Nat) s => openSpan e.1 e.2 s) f.writes s)
  if f.owned then seqFaults f.seq code (s.setFld (Reg.seqPc f.seq) f.pc)
  else (s.setFld (Reg.seqErr f.seq) code).raise Reg.seqFault

/-- A failure after issue: a FMT 3 instruction faults, a cue aborts its crossing (R322). DEDUCED, log entry 78. -/
def failFlight (f : Flight) (code : Nat) (word : Option Nat) (s : State) : State :=
  let s := match word with
    | some w => logBadWord w s
    | none => s
  match f.cross with
  | none => flightFaults f code s
  | some id =>
    match s.opById id with
    | some o => abortHere o code (retireFlight f s)
    | none => retireFlight f s

/-- Rows streamed by each strip or batch (R239, R242). -/
def stripRows (s : State) (o : Oper) : List Nat :=
  let m := Desc.rows o.a
  let on := ((List.range m).filter (rowOn s o.a)).length
  let blocks := fun (d : Desc) => ceilDiv (Desc.cols d) (if Desc.sparse d then 512 else 256)
  let op := Isa.opc o.w
  if op = Isa.oMMA ∨ op = Isa.oMMAS then List.replicate (stripsOf s o) (blocks o.b * on)
  else if op = Isa.oMMAG then
    (List.range o.experts).flatMap (fun e =>
      let k := ((List.range m).filter (fun t => rowOn s o.a t && expertOn s o.c e t)).length
      if k = 0 then [] else List.replicate (ceilDiv (Desc.rows o.b) 256) (blocks o.b * k))
  else (List.range (stripsOf s o)).map (fun j =>
    ((List.range 256).filter (fun i => decide (256 * j + i < o.outShape.1) &&
      (decide (op = Isa.oGATHERI) || rowOn s o.a (256 * j + i)))).length)

/-- Count the rows that the logical tiles stream (R513), the masks read from `v`. DEDUCED, log entry 80. -/
def countRows (v : State) (o : Oper) (s : State) : State :=
  forEach (fun (x : Nat × Nat) s =>
    pmcEvent evTileRows (Desc.tileFirst o.d + x.2 % max 1 (Desc.tileCount o.d)) x.1 s) (stripRows v o).zipIdx s

/-- What a cue hands to its engine, and which rows are present (R324, R356). -/
def cueOutput (s : State) (op : Op) (o : Oper) : List Byte × List Bool :=
  if op.xmode = Isa.xSELECT then
    let k := o.outShape.2
    let rows := (List.range o.outShape.1).map (fun r => match outRow s o 9 r with
      | some (.vals l) => List.zipWith (fun v i => leBytes 4 (toF32 v) ++ leBytes 4 (wrapTo 32 i)) l (topIndices s o r)
      | _ => List.replicate k noCandidate)
    (rows.flatMap (fun r => r.flatten), List.replicate o.outShape.1 true)
  else if op.soft then
    let rows := (List.range o.outShape.1).map (fun r => match outRow s o 9 r with
      | some (.vals l) => some (softRow l)
      | some (.raw e _) => some (softRow ((codesOf 9 e).map f32))
      | _ => none)
    (rows.flatMap (fun r => match r with
      | some p => softBytes [p]
      | none => List.replicate 8 0), rows.map (fun r => r.isSome))
  else contribution s o op.fmt

/-- An instruction that reads from `v` runs to its end: its result is written, or its output goes to the group's engine. -/
def endFlight (v : State) (f : Flight) (reloads : List Nat) (s : State) : State :=
  let o := f.oper
  let s := countSats v o (countRows v o (noteReloads (reloads.filter (fun p => (flightTiles s f).contains p))
    (countRowReads f.reads (readFrom v s))))
  match f.cross with
  | none => retireFlight f (writeResult v o s)
  | some id =>
    match s.opById id with
    | none => retireFlight f s
    | some op =>
      let out := cueOutput v op o
      feedOp id out.1 out.2 ((retireFlight f s).modCtr op.ctr Ctr.start)

/-- The instruction of an id runs when it can; a failure shows first, and sleeping units are woken. -/
def runFlight (f : Flight) (reloads : List Nat) (s : State) : State :=
  if flightBlocked s f then s
  else if (flightUnits s f).all (unitCurrent s) = false then forEach wakeUnit (flightUnits s f) s
  else
    let v := veiled none s
    resumeAll (match flightFailure v f with
      | some e => failFlight f e.1 e.2 (readFrom v s)
      | none => endFlight v f reloads s)

def execTensorInstructionComplete (id : Nat) (reloads : List (Fin 240)) (s : State) : Host.Outcome State Fault Refusal :=
  .next (match s.ten.flights.find? (fun f => decide (f.id = id)) with
    | none => s
    | some f => if linksLive s ∧ !(ghostLight s) then runFlight f (reloads.map (fun p => p.val)) s else s)

/-- A word that an instruction reads is found uncorrectable, or its failure shows (R322). -/
def lateFault (f : Flight) (word : Nat) (s : State) : State :=
  if flightReady s f = false then s
  else if (readSpans s f.oper).any (fun e => (wordsOf e.1 e.2).any (fun x => decide (x.1 = word))) then
    resumeAll (failFlight f Err.memUncorr (some word) (loseWord word s))
  else match flightFailure s f with
    | some e => resumeAll (failFlight f e.1 e.2 s)
    | none => s

def execTensorLateFault (id : Nat) (word : Fin 16777216) (s : State) : Host.Outcome State Fault Refusal :=
  .next (match s.ten.flights.find? (fun f => decide (f.id = id)) with
    | none => s
    | some f => if linksLive s ∧ !(ghostLight s) then lateFault f word s else s)

/-! Programs and the cue store (R260 to R264, R288, R289). -/

/-- A load or unload is refused with a cause. -/
def refuseLoad (cause : Nat) (s : State) : State := (s.setFld Reg.loadResult 4).setFld Reg.loadCause cause

/-- CUE_LOAD_CTRL LOAD. -/
def loadProgram (off : Nat) (s : State) : State :=
  if s.fld Reg.loadResult = 1 then s.raise Reg.cueCfgErr
  else match loadCause s off with
    | some c => refuseLoad c (if c = 7 then writeShort off s else s)
    | none => installImage off (s.setFld Reg.loadCause 0)

def execProgramLoad (off : Nat) (s : State) : Host.Outcome State Fault Refusal :=
  .next (if linksLive s then loadProgram off s else s)

/-- The load of slot n ends once its ranges are zeroed (R252, R262): its triggers are installed. -/
def finishLoad (n : Nat) (s : State) : State :=
  if (footOf s n).any (fun r => waitsZeroing s r.1 r.2) then s
  else
    let s := installTrigs n (((s.prog n).map (fun p => p.image)).getD 0) s
    let s := ((s.setFld Reg.loadResult 2).setFld (Reg.cueProg n) 1).raise Reg.loadDone
    bumpGen (s.modCue (fun k => { k with loading := none }))

def execProgramLoadComplete (s : State) : Host.Outcome State Fault Refusal :=
  .next (match s.cue.loading with
    | none => s
    | some n => if linksLive s then finishLoad n s else s)

/-- CUE_LOAD_CTRL UNLOAD. DEDUCED, log entry 77. -/
def unloadProgram (n : Nat) (s : State) : State :=
  if s.fld Reg.loadResult = 1 then s.raise Reg.cueCfgErr
  else if (s.prog n).isNone then refuseLoad 9 s
  else if progRunning s n || progCrossing s n then refuseLoad 8 s
  else unloadProg n s

def execProgramUnload (n : Fin 64) (s : State) : Host.Outcome State Fault Refusal :=
  .next (if linksLive s then unloadProgram n s else s)

/-- A host write through BAR2, which the host port carries (R30, R459). -/
def hostStoreWrite (off : Nat) (bytes : List Byte) (s : State) : State :=
  let hit := (List.range bytes.length).any (fun i => inImage s (off + i))
  storeWrite off bytes (if hit then s.raise Reg.codeWrite else s)

def execCueStoreHostWrite (off : Nat) (bytes : List Byte) (s : State) : Host.Outcome State Fault Refusal :=
  .next (if linksLive s ∧ s.fld Reg.hostMode ≠ 0 then hostStoreWrite off bytes s else s)

def execCueStoreRequest (f : Frame) (s : State) : Host.Outcome State Fault Refusal :=
  .next (match inboxOf s f with
    | none => s
    | some h => if linksLive s ∧ isSpaceRequest 3 f ∧ !(heldByMove s f) then serveStore f (dropInbox h s) else s)

def execStatusPageRequest (f : Frame) (s : State) : Host.Outcome State Fault Refusal :=
  .next (match inboxOf s f with
    | none => s
    | some h => if linksLive s ∧ isSpaceRequest 2 f then serveStatus f (dropInbox h s) else s)

/-! Triggers and sequencers (R258, R259, R265 to R268). -/

/-- A write to ENABLE of a trigger entry. -/
def enableTrigger (t : Nat) (on : Bool) (s : State) : State :=
  if s.fld (Reg.trigValid t) = 0 then s.raise Reg.cueCfgErr
  else if on then (if s.flag (Reg.trigEnable t) then s else startTimer t (s.setFld (Reg.trigEnable t) 1))
  else s.setFld (Reg.trigEnable t) 0

def execTriggerEnable (t : Fin 1024) (on : Bool) (s : State) : Host.Outcome State Fault Refusal :=
  .next (if linksLive s then enableTrigger t on s else s)

/-- A TIMER entry whose fire time has come. -/
def timerDue (s : State) (t : Nat) : Bool :=
  s.flag (Reg.trigValid t) && s.flag (Reg.trigEnable t) && decide (s.fld (Reg.trigKind t) = 2) &&
  decide ((Tab.get (fun _ => Trig.init) s.cue.trigs t).nextFire ≤ s.now)

/-- A TIMER entry fires: it adds PERIOD, or ENABLE is cleared. -/
def fireTimer (t : Nat) (s : State) : State :=
  let x := Tab.get (fun _ => Trig.init) s.cue.trigs t
  let n := (x.fires + 1) % 2 ^ 64
  let x := { x with fires := n, nextFire := x.nextFire + s.fld (Reg.trigPeriod t) }
  let s := s.modCue (fun k => { k with trigs := Tab.set (fun _ => Trig.init) k.trigs t x })
  fireTrig t n (if s.flag (Reg.trigPeriodic t) then s else s.setFld (Reg.trigEnable t) 0)

def execTimerFire (t : Fin 1024) (s : State) : Host.Outcome State Fault Refusal :=
  .next (if linksLive s ∧ timerDue s t then fireTimer t s else s)

def execContextStart (q : Fin 64) (s : State) : Host.Outcome State Fault Refusal :=
  .next (if linksLive s then takePending q s else s)

/-- CUE_SEQs_CTRL.KILL. -/
def killSeq (q : Nat) (s : State) : State := if (s.ctx q).isSome then dropCtx q s else s

def execSeqKill (q : Fin 64) (s : State) : Host.Outcome State Fault Refusal :=
  .next (if linksLive s then killSeq q s else s)

/-- CUE_SEQs_CTRL.DISABLE. -/
def disableSeq (q : Nat) (on : Bool) (s : State) : State :=
  if on then s.setFld (Reg.seqDisable q) 1 else takePending q (s.setFld (Reg.seqDisable q) 0)

def execSeqDisable (q : Fin 64) (on : Bool) (s : State) : Host.Outcome State Fault Refusal :=
  .next (if linksLive s then disableSeq q on s else s)

/-- CUE_CTR_CLEAR (R286). -/
def clearCounter (c : Nat) (s : State) : State := if Ctr.settled (s.ctr c) then s.setCtr c Ctr.init else s.raise Reg.cueCfgErr

def execCounterClear (c : Fin 1024) (s : State) : Host.Outcome State Fault Refusal :=
  .next (if linksLive s then clearCounter c s else s)

/-! Quarantine (R48, R268, R291). -/

/-- What a unit does once it holds the current generation. -/
def unitReturns (u : UnitId) (s : State) : State :=
  match u with
  | .tile p => if s.fld (Reg.tileRole p) = 2 then
      s.setFld (Reg.tileRole p) (if s.fld (Reg.tileLogical p) = 0xFF then 1 else 0) else s
  | .seq q => takePending q (if s.fld (Reg.seqSt q) = sqQuarantine then s.setFld (Reg.seqSt q) sqIdle else s)
  | .ddr c => if s.fld (Reg.chState c) = chQuarantine then
      settleChannels (returnSet c ((s.setFld (Reg.chState c) chReady).setChan c { s.chan c with judged := true, returning := false })) else s
  | _ => s

/-- Contexts that wait for a unit of their working set start. -/
def startWaiting (s : State) : State := forEach takePending (List.range 64) s

/-- The quarantine of a unit ends. -/
def endQuarantine (u : UnitId) (s : State) : State :=
  let s := match quarField u with
    | some f => s.setFld f 0
    | none => s
  resumeAll (startWaiting (unitReturns u s))

/-- The Prompter has brought a unit to the current generation; one that ghost-light mode holds Dark has not returned yet. -/
def execQuarantineComplete (u : UnitId) (s : State) : Host.Outcome State Fault Refusal :=
  .next (if linksLive s ∧ inQuarantine s u ∧ unitState s u < 2 then endQuarantine u s else s)

end Sys2Proof.Machine
end

