-- ==== Sys2Proof/Machine/ColCommands.lean ====
section
/-! DEFINITION. Commands of the collective engines (chapter 11), and the responses that end the chip's own requests (R155). -/
namespace Sys2Proof.Machine

/-! The group table (R332 to R334). -/

/-- A write to one of words 1 to 3 is held. -/
def holdWord (g j : Nat) (v : Word) (s : State) : State :=
  s.modGrp g (fun x => { x with held := Tab.set (fun _ => none) x.held j (some v) })

def execGroupWordHold (g : Fin 4096) (j : Fin 3) (value : Word) (s : State) : Host.Outcome State Fault Refusal :=
  .next (if linksLive s then holdWord g (j + 1) value s else s)

def execGroupCommit (g : Fin 4096) (value : Word) (s : State) : Host.Outcome State Fault Refusal :=
  .next (if linksLive s then groupCommit g value s else s)

/-! Arrivals (R339). -/

/-- A frame is discarded and counted. -/
def lateDrop (s : State) : State := s.count Reg.colLateDrop

/-- An OPSEQ lies in the four slots of a group, and the operation has not aborted. -/
def inSlots (s : State) (g n : Nat) : Bool :=
  decide ((n + 2 ^ 24 - oldestOpseq s g) % 2 ^ 24 < 4) && (abortedCode s g n).isNone

/-- An OPSEQ in the slots of a group has been issued here. -/
def issuedHere (s : State) (g n : Nat) : Bool :=
  let oldest := oldestOpseq s g
  decide ((n + 2 ^ 24 - oldest) % 2 ^ 24 < (s.fld (Reg.grpOpseq g) + 2 ^ 24 - oldest) % 2 ^ 24)

/-- An operation in the slots of a group has ended here. -/
def endedHere (s : State) (g n : Nat) : Bool :=
  match s.op g n with
  | some o => o.ended
  | none => issuedHere s g n

/-- A chunk from a sender that an issued operation does not hold yet, or holds at a lower REV. -/
def lacksChunk (o : Op) (f : Frame) : Bool :=
  let st := Frame.op f % 16
  let k := Frame.addr f % 65536
  let src := Frame.src f * 16 + Frame.srcPort f
  if 4 ≤ st ∧ st ≤ 6 then !(o.copies.any (fun c => decide (c.stage = st ∧ c.chunk = k ∧ c.src = src)))
  else match o.copies.find? (fun c => decide (c.stage = st ∧ c.chunk = k ∧ c.src = src)) with
    | none => true
    | some c => decide (c.rev < Frame.op f / 16) || decide (c.data = [])

/-- Frames held for an operation from the sender of a frame. -/
def earlyFrom (s : State) (g n : Nat) (f : Frame) : List Frame :=
  ((s.grp g).early.filter (fun e => decide (e.1 = n) && decide (Frame.src e.2 = Frame.src f) &&
    decide (Frame.srcPort e.2 = Frame.srcPort f) && decide (Frame.svc e.2 = 1))).map (fun e => e.2)

/-- The stream of a circuit is not complete at an operation: chunks come in ascending order, an operation's before the next one's.
DEDUCED, log entry 72. -/
def wantsChunk (s : State) (g n : Nat) (f : Frame) : Bool :=
  let later := [1, 2, 3].any (fun i => !(earlyFrom s g ((n + i) % 2 ^ 24) f).isEmpty)
  if later ∧ Frame.op f / 16 = 0 then false
  else match s.op g n with
    | some o => !o.ended && decide (Frame.addr f % 65536 < max 1 (o.perMember s)) && lacksChunk o f
    | none => !(issuedHere s g n) && (earlyFrom s g n f).all (fun e => decide (Frame.op e % 16 ≠ Frame.op f % 16) ||
        decide (Frame.addr e % 65536 < Frame.addr f % 65536) || decide (Frame.op e / 16 < Frame.op f / 16))

/-- The OPSEQ of a frame: its SEQ, or on a circuit the oldest operation whose stream is not complete. -/
def opseqOf (s : State) (f : Frame) : Option Nat :=
  if Frame.svc f = 0 then some (Frame.seq f)
  else
    let g := Frame.group f
    ((List.range 4).map (fun i => (oldestOpseq s g + i) % 2 ^ 24)).find? (fun n => wantsChunk s g n f)

/-- A contribution for an operation that is not issued fires the group's ARRIVAL entries, once for a next OPSEQ (R265). -/
def arrivalFires (g : Nat) (s : State) : State :=
  let next := s.fld (Reg.grpOpseq g)
  forEach (fun t s =>
    let x := Tab.get (fun _ => Trig.init) s.cue.trigs t
    if x.firedFor = some next then s
    else fireTrig t next (s.modCue (fun k => { k with trigs := Tab.set (fun _ => Trig.init) k.trigs t { x with firedFor := some next } })))
    (trigsOf s 0 g) s

/-- A frame for an operation in the slots is taken, or held until the operation is issued; one that has ended here takes RELEASE alone.
DEDUCED, log entry 174. -/
def meetOp (g n : Nat) (f : Frame) (s : State) : State :=
  match s.op g n with
  | some o => if o.ended && !(decide (Frame.type f = tyColCtrl ∧ Frame.op f = 3)) then s else takeColFrame o.id f s
  | none =>
    if issuedHere s g n then s
    else
      let s := s.modGrp g (fun x => { x with early := x.early ++ [(n, f)] })
      if Frame.type f = tyColContrib then arrivalFires g s else s

/-- A COL_CONTRIB, COL_RESULT or COL_CTRL frame: discarded as late (R339), or its operation's. -/
def colArrives (f : Frame) (s : State) : State :=
  let g := Frame.group f
  match (if grpValid s g then opseqOf s f else none) with
  | none => lateDrop s
  | some n => if inSlots s g n then meetOp g n f s else lateDrop s

/-- The open operations of a frame's group whose units sleep: the frame is held until they run (R49, R50). -/
def sleepingOps (s : State) (f : Frame) : List Op :=
  s.col.ops.filter (fun o => !o.ended && decide (o.group = Frame.group f) && !((opUnits s o).all (unitRuns s)))

/-- A delivered frame is taken. -/
def takeFrom (is : Frame → Bool) (f : Frame) (act : Frame → State → State) (s : State) : State :=
  match inboxOf s f with
  | none => s
  | some h => if linksLive s ∧ is f then resumeAll (act f (dropInbox h s)) else s

/-- A delivered collective frame is taken, or wakes the units that it needs. -/
def takeCol (is : Frame → Bool) (f : Frame) (act : Frame → State → State) (s : State) : State :=
  if (sleepingOps s f).isEmpty then takeFrom is f act s
  else if (inboxOf s f).isSome ∧ linksLive s ∧ is f then
    forEach (fun (o : Op) s => forEach wakeUnit (opUnits s o) s) (sleepingOps s f) s
  else s

def execColContribReceive (f : Frame) (s : State) : Host.Outcome State Fault Refusal :=
  .next (takeCol (fun f => decide (Frame.type f = tyColContrib)) f colArrives s)

def execColResultReceive (f : Frame) (s : State) : Host.Outcome State Fault Refusal :=
  .next (takeCol (fun f => decide (Frame.type f = tyColResult)) f colArrives s)

/-- A COL_CTRL frame of a kind. -/
def isCtrl (k : Nat) (f : Frame) : Bool := decide (Frame.type f = tyColCtrl) && decide (Frame.op f = k)

/-- A COL_CTRL frame that is a RETRACT, or whose OP names no kind (R337). DEDUCED, log entry 74. -/
def isRetract (f : Frame) : Bool := decide (Frame.type f = tyColCtrl) && !(decide (2 ≤ Frame.op f ∧ Frame.op f ≤ 4))

def execRetractReceive (f : Frame) (s : State) : Host.Outcome State Fault Refusal :=
  .next (takeCol isRetract f (fun f s => if Frame.op f = 1 then colArrives f s else lateDrop s) s)

def execVerifiedReceive (f : Frame) (s : State) : Host.Outcome State Fault Refusal :=
  .next (takeCol (isCtrl 2) f colArrives s)

def execReleaseReceive (f : Frame) (s : State) : Host.Outcome State Fault Refusal :=
  .next (takeCol (isCtrl 3) f colArrives s)

def execCountReceive (f : Frame) (s : State) : Host.Outcome State Fault Refusal :=
  .next (takeCol (isCtrl 4) f colArrives s)

/-! Sums and verdicts (R331, R341 to R352, R356). -/

/-- Every input of a sum is held: the engine forms it, or merges a stage of candidate lists. -/
def sumReady (o : Op) (st k : Nat) (s : State) : State :=
  if (sumOf o st k).isSome then s
  else if o.xmode = Isa.xSELECT then
    match selectInputs s o st with
    | some lists => if k = 0 then selectMerge o.id st lists s else s
    | none => s
  else if o.xmode = Isa.xREDUCE ∨ o.xmode = Isa.xSCATTER then
    match sumInputs s o st k with
    | some ins => if k < o.perMember s then formSum o.id st k ins s else s
    | none => s
  else s

/-- The engine of an operation works on it, or its units are woken (R49, R50). -/
def onEngine (id : Nat) (act : Op → State → State) (s : State) : State :=
  match s.opById id with
  | none => s
  | some o =>
    if linksLive s = false ∨ o.ended then s
    else if (opUnits s o).all (unitRuns s) then resumeAll (act o s)
    else forEach wakeUnit (opUnits s o) s

def execChunkSum (id : Nat) (stage : Fin 16) (chunk : Nat) (s : State) : Host.Outcome State Fault Refusal :=
  .next (onEngine id (fun o s => sumReady o stage chunk s) s)

/-- A failed verdict is charged to a lane of the engine. -/
def chargeLane (e lane : Nat) (s : State) : State :=
  s.modCol (fun c => { c with laneFails := (c.laneFails.filter (fun x => decide (s.now < x.2 + ticks24h))) ++ [(e * 256 + lane, s.now)] })

/-- The epilogue of chunk k has been applied here. -/
def epilogueDone (o : Op) (k : Nat) : Bool :=
  decide (o.xmode = Isa.xREDUCE ∧ Isa.epi o.w ≠ 0) && o.done.any (fun d => decide (d.chunk = k) && d.landed)

/-- A verdict of the residue check on a sum, on a value of the aside path or a MERGE, or, under STAGE 7, on a chunk's epilogue, which is
applied again to the same effect when it fails (R331, R355). DESIGN CHOICE, log entry 175. -/
def verdict (o : Op) (st k : Nat) (pass : Bool) (lane : Nat) (s : State) : State :=
  let charged := fun s => if pass then s else chargeLane (grpEngine s o.group) lane s
  if o.xmode = Isa.xMERGE then mergeVerdict o.id pass (charged s)
  else if st = 7 then (if !pass && epilogueDone o k then (charged s).count Reg.colRecompute else s)
  else match sumOf o st k with
  | some x => if x.passed ∨ o.xmode = Isa.xSELECT then s else takeVerdict o.id st k pass (charged s)
  | none => if !pass && o.isAside then recompute o.id st k (charged s) else s

def execChunkVerdict (id : Nat) (stage : Fin 16) (chunk : Nat) (pass : Bool) (lane : Fin 256) (s : State) :
    Host.Outcome State Fault Refusal :=
  .next (onEngine id (fun o s => verdict o stage chunk pass lane s) s)

/-- A lane has failed COL_LANE_THRESH times in 24 h. -/
def laneDue (s : State) (e lane : Nat) : Bool :=
  decide (s.fld Reg.laneThresh ≠ 0) && decide (s.fld Reg.laneThresh ≤
    (s.col.laneFails.filter (fun x => decide (x.1 = e * 256 + lane) && decide (s.now < x.2 + ticks24h))).length)

/-- The lane is replaced by a swing lane of its engine, or retired (R331, R508, R512). -/
def swingLane (e lane : Nat) (s : State) : State :=
  let left := s.fld (Reg.engSwings e)
  let s := s.modCol (fun c => { c with laneFails := c.laneFails.filter (fun x => decide (x.1 ≠ e * 256 + lane)) })
  if left = 0 then recordFailure clsAdder (e * 256 + lane) true (s.addFld (Reg.engRetired e) 1)
  else
    let s := recordFailure clsAdder (e * 256 + lane) false ((s.setFld (Reg.engSwings e) (left - 1)).raise Reg.colLaneSwung)
    if left = 1 then swingLowAlert s else s

def execAdderLaneSwing (e : Fin 16) (lane : Fin 256) (s : State) : Host.Outcome State Fault Refusal :=
  .next (if linksLive s ∧ laneDue s e lane then swingLane e lane s else s)

/-! Ends from outside (R361 to R365). -/

/-- The group timer of an operation has run for TIMEOUT since its issue (R362). -/
def groupTimerOut (s : State) (o : Op) : Bool := decide (o.issuedAt + grpTimeout s o.group * ticksPerUs ≤ s.now)

def execGroupTimeout (id : Nat) (s : State) : Host.Outcome State Fault Refusal :=
  .next (match s.opById id with
    | none => s
    | some o => if linksLive s ∧ !o.ended ∧ groupTimerOut s o then resumeAll (abortOp o Err.colTimeout (missingPosition s o) 0 0 s) else s)

/-- A value of the aside path: its phase and index in the group's slot (R357, R358). -/
def asideSlot (f : Frame) : Nat × Nat :=
  let hi := Frame.op f / 16
  if hi = 0 then (0, 1 + Frame.srcPort f) else ((hi - 2) / 2 + 1, Frame.addr f % 65536)

/-- A value is deposited in its slot and relayed; an issued operation goes on with it. DEDUCED, log entry 84. -/
def asideArrives (f : Frame) (s : State) : State :=
  let g := Frame.group f
  let n := Frame.seq f
  let slot := asideSlot f
  if grpValid s g = false ∨ inSlots s g n = false ∨ endedHere s g n ∨ (asideVals s g n slot.1).any (fun v => decide (v.index = slot.2)) then s
  else
    let s := depositAside (AsideVal.mk g n slot.1 slot.2 (Frame.addr f / 65536) (f.payload.take 64)) s
    let s := if Frame.op f / 16 = 0 then s else relayAside f s
    match s.op g n with
    | none => s
    | some o =>
      if o.isAside = false ∨ Frame.addr f / 65536 ≠ o.sig then
        abortOp o Err.colMismatch (if slot.1 = 0 then positionOf s g (myChip s) (slot.2 - 1)
          else positionOf s g (peerChip s g (slot.1 - 1) slot.2) 8) o.sig (Frame.addr f / 65536) s
      else runAside o 4 0 s

/-- A frame with a value for the aside units of this chip. -/
def isAsideValue (f : Frame) : Bool :=
  decide (Frame.type f = tyAside) && (decide (Frame.op f / 16 = 0) || decide (2 ≤ Frame.op f / 16 ∧ Frame.op f / 16 ≤ 7))

def execAsideReceive (f : Frame) (s : State) : Host.Outcome State Fault Refusal :=
  .next (takeCol isAsideValue f asideArrives s)

/-- An abort notice: recorded and relayed the first time, ignored for an operation that has ended here. -/
def noticeArrives (from_ : Nat) (f : Frame) (s : State) : State :=
  let g := Frame.group f
  let bs := f.payload
  let n := leAt bs 2 3
  if grpValid s g = false ∨ inSlots s g n = false ∨ endedHere s g n then s
  else abortWith g n (leAt bs 0 2 % 4096) (leAt bs 6 2) (leAt bs 8 2) (leAt bs 12 4) (leAt bs 16 4) from_ s

def isAbortNotice (f : Frame) : Bool := decide (Frame.type f = tyAside) && decide (Frame.op f / 16 = 14)

def execAbortNoticeReceive (f : Frame) (s : State) : Host.Outcome State Fault Refusal :=
  .next (match inboxOf s f with
    | none => s
    | some h => takeCol isAbortNotice f (noticeArrives h.ing) s)

/-! Responses and timeouts of the chip's own requests. -/

/-- The timer of a request has run for the larger of SWC_E2E_TIMEOUT, in µs, and twice SWC_AGE_LIMIT, in units of 256 ns (R155). -/
def e2eOver (s : State) (r : OwnReq) : Bool :=
  decide (max (1000 * s.fld Reg.e2eTimeout) (512 * s.fld Reg.ageLimit) ≤ 40 * (s.now - r.sentAt))

def execE2eTimeoutExpiry (tag : Fin 1048576) (s : State) : Host.Outcome State Fault Refusal :=
  .next (match s.swc.own.find? (fun r => decide (Frame.tag r.frame = tag)) with
    | none => s
    | some r => if linksLive s ∧ e2eOver s r then resumeAll (attemptOver r s) else s)

def execResponseReceive (f : Frame) (s : State) : Host.Outcome State Fault Refusal :=
  .next (takeFrom isResponse f takeResponse s)

end Sys2Proof.Machine
end

