-- ==== Sys2Proof/Machine/BoardCommands.lean ====
section
/-! DEFINITION. Commands of the Call Board, the checkpoint store, the mailboxes and the semaphores (chapter 12). -/
namespace Sys2Proof.Machine

/-! The Call Board. -/

/-- The house island has input: the intake, the Call Board and the mailboxes work. -/
def islandLive (s : State) : Bool := s.house.input

def execIntakeInput (input : Input) (s : State) : Host.Outcome State Fault Refusal :=
  .next (if islandLive s then intake input s else s)

def execPrompterHeartbeat (who : Who) (s : State) : Host.Outcome State Fault Refusal :=
  .next (if islandLive s ∧ prompterRail s who ∧ beats s who then s.modPrompter who (fun p => { p with beat := true }) else s)

/-- The Prompters that fail together are declared one after the other, the ACTIVE one last (R374). DEDUCED, log entry 87. -/
def declareBoth (a b : Bool) (s : State) : State :=
  let first := if prompterState s .a = psActive then Who.b else Who.a
  let hit := fun (w : Who) => if w = .a then a else b
  let s := if hit first then declareFailed first s else s
  if hit first.other then declareFailed first.other s else s

/-- A heartbeat window of both Prompters ends (R373). -/
def endWindows (votes : Votes) (s : State) : State :=
  let x := endWindow .a s
  let y := endWindow .b x.2
  if x.1 || y.1 then decideBy votes (declareBoth x.1 y.1) y.2 else y.2

/-- Windows of PRM_TIME that have ended (R373). -/
def windowsOver (s : State) : Nat := s.now / beatWindow

/-- A window has ended since the last one taken. DEDUCED, log entry 177. -/
def execHeartbeatWindowEnd (votes : Votes) (s : State) : Host.Outcome State Fault Refusal :=
  .next (if islandLive s ∧ s.board.windows < windowsOver s then
      endWindows votes (s.modBoard (fun b => { b with windows := windowsOver s })) else s)

/-- A Prompter that runs: BOOT, SYNC, UNDERSTUDY or ACTIVE. -/
def prompterRuns (s : State) (w : Who) : Bool := decide (psBoot ≤ prompterState s w ∧ prompterState s w ≤ psActive)

def execPrompterFatal (who : Who) (votes : Votes) (s : State) : Host.Outcome State Fault Refusal :=
  .next (if islandLive s ∧ prompterRail s who ∧ prompterRuns s who then decideBy votes (declareFailed who) s else s)

/-- A Prompter's rail drops. -/
def railDrops (who : Who) (votes : Votes) (s : State) : State :=
  let s := s.setFld (Reg.rail (1 + who.idx)) 0
  if prompterRuns s who then decideBy votes (declareFailed who) s else s

def execPrompterRailDrop (who : Who) (votes : Votes) (s : State) : Host.Outcome State Fault Refusal :=
  .next (if islandLive s ∧ prompterRail s who then railDrops who votes s else s)

/-- Prompters that complete BOOT join, A before B (R372). -/
def joinBoth (a b : Bool) (s : State) : State :=
  let join := fun (on : Bool) (w : Who) (s : State) => if on && decide (prompterState s w = psBoot) then joinPrompter w s else s
  join b .b (join a .a s)

/-- One of the Prompters named is in BOOT, so that there is a decision to take. -/
def someoneJoins (a b : Bool) (s : State) : Bool :=
  (a && decide (prompterState s .a = psBoot)) || (b && decide (prompterState s .b = psBoot))

def execPrompterJoin (a b : Bool) (votes : Votes) (s : State) : Host.Outcome State Fault Refusal :=
  .next (if islandLive s ∧ s.sec.booted ∧ someoneJoins a b s then decideBy votes (joinBoth a b) s else s)

/-- Where a Prompter goes when its reset ends: BOOT, or OFF without its rail. -/
def toBoot (w : Who) (s : State) : State :=
  setPrompter w (if prompterRail s w then psBoot else psOff) (s.modPrompter w (fun p => { p with beat := false, missed := 0 }))

/-- A FAILED Prompter has been held in reset for 1 s (R376). -/
def holdOver (s : State) (w : Who) : Bool := decide ((s.prompter w).fails.getLastD 0 + 1000 * ticksPerMs ≤ s.now)

def execPrompterResetRelease (who : Who) (s : State) : Host.Outcome State Fault Refusal :=
  .next (if islandLive s ∧ prompterState s who = psFailed ∧ holdOver s who then toBoot who s else s)

/-- PRM_CB_CTRL.RELEASE_A and RELEASE_B. -/
def releaseHeld (w : Who) (s : State) : State := if prompterState s w = psHeldOff then toBoot w s else s

def execPrompterRelease (who : Who) (s : State) : Host.Outcome State Fault Refusal :=
  .next (if islandLive s then releaseHeld who s else s)

/-- PRM_CB_CTRL.HANDOVER (R387). DEDUCED, log entry 85. -/
def requestHandover (s : State) : State :=
  if s.board.handover.isSome then s.setFld Reg.handoverResult 1
  else match activePrompter s with
    | none => s.setFld Reg.handoverResult 3
    | some w =>
      if prompterState s w.other ≠ psUnderstudy then s.setFld Reg.handoverResult 3
      else startCheckpoint (s.modBoard (fun b => { b with handover := some (nextNumber s + (if b.copying.isSome then 1 else 0)) }))

def execHandover (s : State) : Host.Outcome State Fault Refusal :=
  .next (if islandLive s then requestHandover s else s)

/-! Checkpoints. -/

/-- PRM_CKPT_PERIOD has elapsed since the last start, or another case of R382 waits; the other cases start one where they arise. -/
def checkpointDue (s : State) : Bool :=
  s.board.due || decide (s.board.startedAt + s.fld Reg.ckptPeriod * ticksPerMs ≤ s.now)

def execCheckpointStart (s : State) : Host.Outcome State Fault Refusal :=
  .next (if islandLive s ∧ checkpointDue s then startCheckpoint s else s)

/-- A copy may complete: within 20 ms, of a body that fits. DEDUCED, log entry 93. -/
def copyFits (s : State) (body : List Byte) : Bool :=
  match s.board.copying with
  | none => false
  | some (t, _) => decide (body.length ≤ maxBody) && decide (s.now ≤ t + 20 * ticksPerMs)

def execCheckpointComplete (body : List Byte) (s : State) : Host.Outcome State Fault Refusal :=
  .next (if islandLive s ∧ copyFits s body then finishCheckpoint body s else s)

/-- A copy is in progress and not complete within 20 ms (R381). -/
def copyLate (s : State) : Bool :=
  match s.board.copying with
  | none => false
  | some (t, _) => decide (t + 20 * ticksPerMs < s.now)

def execCheckpointAbandon (s : State) : Host.Outcome State Fault Refusal :=
  .next (if islandLive s ∧ copyLate s then abandonCheckpoint s else s)

/-- A Prompter adopts the last complete checkpoint when its digest verifies and the log still holds the inputs after its MARK. -/
def adopt (w : Who) (s : State) : State :=
  match goodCheckpoint s with
  | none => s
  | some c => if s.fld Reg.cmdSeq ≤ c.mark + 4096 then adoptCheckpoint w c s else s

def execCheckpointAdopt (who : Who) (s : State) : Host.Outcome State Fault Refusal :=
  .next (if islandLive s ∧ (prompterState s who = psSync ∨ prompterState s who = psUnderstudy) then adopt who s else s)

/-! Mailboxes. -/

def execMailboxHostSend (c : Fin 32) (n : Fin 2048) (s : State) : Host.Outcome State Fault Refusal :=
  .next (if islandLive s then hostSend c n s else s)

def execMailboxHostPop (c : Fin 32) (s : State) : Host.Outcome State Fault Refusal :=
  .next (if islandLive s then popFor c ptHost s else s)

/-- A MGMT frame for this chip with an OP in a range is taken from those delivered. -/
def takeMgmt (lo hi : Nat) (f : Frame) (act : Frame → State → State) (s : State) : State :=
  match inboxOf s f with
  | none => s
  | some h =>
    if linksLive s ∧ Frame.type f = tyMgmt ∧ lo ≤ Frame.op f ∧ Frame.op f ≤ hi then act f (dropInbox h s) else s

def execMailboxMsgReceive (f : Frame) (s : State) : Host.Outcome State Fault Refusal :=
  .next (takeMgmt 0x80 0x9F f takeMsg s)

def execMailboxNoticeReceive (f : Frame) (s : State) : Host.Outcome State Fault Refusal :=
  .next (takeMgmt opNotice opNotice f takeMboxNotice s)

def execMailboxResendTimeout (c : Fin 32) (dir : Fin 2) (s : State) : Host.Outcome State Fault Refusal :=
  .next (if linksLive s then resendMsg c dir s else s)

/-- MGMT operations that a row of its own takes; 11h, 13h and FEh are answers, which ask for nothing. -/
def mgmtAssigned (op : Nat) : Bool := decide ((0x10 ≤ op ∧ op ≤ 0x13) ∨ (0x80 ≤ op ∧ op ≤ 0xA2) ∨ op = opUnsupported)

/-- A MGMT frame that no chapter assigns is counted and answered; an answer is dropped. -/
def unsupported (f : Frame) (s : State) : State :=
  if mgmtAssigned (Frame.op f) then s
  else
    let bs := leBytes 1 (Frame.op f) ++ leBytes 1 1 ++ List.replicate 14 0
    queueNotice false (mgmtAnswer s f opUnsupported bs) ((s.count Reg.mbxBad).raise Reg.badFrameEv)

/-- Frames that MGMT_UNSUPPORTED takes. DEDUCED, log entry 90. -/
def strayMgmt (f : Frame) : Bool :=
  decide (Frame.type f = tyMgmt) && (!(mgmtAssigned (Frame.op f)) || decide (Frame.op f = 0x11 ∨ Frame.op f = 0x13 ∨ Frame.op f = opUnsupported))

def execMgmtUnsupported (f : Frame) (s : State) : Host.Outcome State Fault Refusal :=
  .next (match inboxOf s f with
    | none => s
    | some h => if linksLive s ∧ strayMgmt f then unsupported f (dropInbox h s) else s)

/-! Semaphores. -/

/-- The offset of MBX_SEM_n. -/
def semOff (n : Nat) : Nat := 0x200800 + 8 * n

/-- A read of MBX_SEM_n by the host. -/
def hostReadSem (n : Nat) (s : State) : State :=
  let r := acquireSem n (masterName s 1 0) s
  emit (.barData (semOff n) r.1) r.2

def execSemReadAcquire (n : Fin 64) (s : State) : Host.Outcome State Fault Refusal :=
  .next (if islandLive s then hostReadSem n s else s)

/-- A frame of a source that is no master is discarded and counted (R393, R402). -/
def byMaster (f : Frame) (act : Nat × Nat → State → State) (s : State) : State :=
  match frameMaster s f with
  | some who => act who s
  | none => (s.count Reg.mbxBad).raise Reg.badFrameEv

/-- SEM_ACQ is answered with the value of Table 12-10; an answer to the Prompter's own goes to the intake (R367). DEDUCED, log entry 88.
-/
def semAcquire (f : Frame) (s : State) : State :=
  if Frame.len f ≠ 0 then intake (.semaphore (leAt f.payload 0 4)) s
  else byMaster f (fun who s =>
    let r := acquireSem (Frame.addr f % 64) who s
    queueNotice false (mgmtAnswer r.2 f opSemAcq (leBytes 4 r.1 ++ List.replicate 12 0)) r.2) s

def execSemAcq (f : Frame) (s : State) : Host.Outcome State Fault Refusal :=
  .next (takeMgmt opSemAcq opSemAcq f semAcquire s)

def execSemHostRelease (n : Fin 64) (s : State) : Host.Outcome State Fault Refusal :=
  .next (if islandLive s then (releaseSem n (masterName s 1 0) s).2 else s)

/-- SEM_REL is answered with 01h released or 02h not holder. -/
def semRelease (f : Frame) (s : State) : State :=
  if Frame.len f ≠ 0 then intake (.semaphore (leAt f.payload 0 1)) s
  else byMaster f (fun who s =>
    let r := releaseSem (Frame.addr f % 64) who s
    queueNotice false (mgmtAnswer r.2 f opSemRel (leBytes 1 (if r.1 then 1 else 2) ++ List.replicate 15 0)) r.2) s

def execSemRel (f : Frame) (s : State) : Host.Outcome State Fault Refusal :=
  .next (takeMgmt opSemRel opSemRel f semRelease s)

/-- MBX_SEM_FORCE with GO. DEDUCED, log entry 89. -/
def forceSem (n : Nat) (s : State) : State :=
  let s := if (s.sem n).holder.isSome then s.setSem n { holder := none, forced := true } else s
  s.raise Reg.forcedSem

def execSemForce (n : Fin 64) (s : State) : Host.Outcome State Fault Refusal :=
  .next (if islandLive s then forceSem n s else s)

end Sys2Proof.Machine
end

