-- ==== Sys2Proof/Machine/ResetOps.lean ====
section
/-! DEFINITION. Power-on, the loss of module input and RESET_N (R10, R36, R46, R159, R293, R396, R397, R406, R439, R510, R521, R525). -/
namespace Sys2Proof.Machine

/-! What survives. -/

/-- Words whose Reset column reads Flash or Storage: they keep their values across power loss. -/
def flashWord (off : Nat) : Bool :=
  decide (0x100010 ≤ off ∧ off ≤ 0x100020) || decide (0x100040 ≤ off ∧ off ≤ 0x100060) || decide (off = 0x2000058) ||
  decide (0x2001000 ≤ off ∧ off < 0x2002000) || decide (0x2200100 ≤ off ∧ off ≤ 0x2200128) || decide (0x2201000 ≤ off ∧ off < 0x2204000)

/-- ROS words (R10). -/
def rosWord (off : Nat) : Bool :=
  decide (off = 0x8 ∨ off = 0x28 ∨ off = 0x70 ∨ off = 0x180 ∨ off = 0x2018 ∨ off = 0x3000 ∨ off = 0x3058 ∨ off = 0x2100058 ∨
    off = 0x2200088) || decide (0x100 ≤ off ∧ off < 0x140) || decide (0x10000 ≤ off ∧ off < 0x30000)

/-- Read-only words that show what the house island holds, which RESET_N does not touch (R36, R525; log entry 22): caps, governor, input,
rails, the checkpoint store, generations and queues of the mailboxes, pins, temperatures, coolant and leak line, slot, side-band addresses. -/
def liveWord (off : Nat) : Bool :=
  decide (off = 0x60 ∨ off = 0x3010 ∨ off = 0x3028 ∨ off = 0x3040 ∨ off = 0x3048 ∨ off = 0x400030 ∨ off = 0x1800008 ∨ off = 0x2100008 ∨
    off = 0x2100010 ∨ off = 0x2100028 ∨ off = 0x2100030 ∨ off = 0x2100040 ∨ off = 0x2200008 ∨ off = 0x2200020 ∨ off = 0x2200028) ||
  decide (0x200008 ≤ off ∧ off ≤ 0x200020) || (decide (0x201000 ≤ off ∧ off < 0x201800) && decide (off % 0x40 = 8)) ||
  decide (0x2101000 ≤ off ∧ off < 0x2101420)

/-- Words that RESET_N leaves. DEDUCED, log entry 51. -/
def keptWord (off : Nat) : Bool := flashWord off || rosWord off || liveWord off

/-! Power. -/

/-- The module without power: what flash, fuses and the protected storage hold; the pins that no rail drives keep their levels. -/
def unpowered (s : State) : State :=
  let svn := s.fld Reg.svnMin
  let t := State.resetOf s.code
  let t :=
    { t with
      regs := s.regs.filter (fun e => flashWord e.1 || decide (e.1 = 0x400030))
      house := { House.init with input := false, switchOpen := s.house.switchOpen, perst := s.house.perst, resetLow := s.house.resetLow }
      mem := { Mem.init with saved := s.mem.saved, bringUp := s.mem.bringUp }
      power := { Power.init with stored := s.power.stored }
      sec := { Sec.init with hostKey := s.sec.hostKey, rackKey := s.sec.rackKey, slots := s.sec.slots }
      outbox := s.outbox, free := s.free, pending := s.pending }
  t.setFld Reg.svnMin svn

/-- The stored rack order is applied at every power-on (R412). -/
def applyStored (s : State) : State :=
  match s.power.stored with
  | none => s
  | some (run, hold) => (s.setFld Reg.rmRun run).setFld Reg.rmHold hold

/-- Both Prompters start BOOT where their rails are good. -/
def bootBoth (s : State) : State :=
  let start (w : Who) (s : State) : State := if prompterRail s w then setPrompter w psBoot s else s
  start .b (start .a s)

/-- Safety pins that are low when the house island starts act at once (R422, R432, R524). -/
def pinsAtStart (ironHigh flowOk : Bool) (s : State) : State :=
  let s := if flowOk then s else setCause glFlow s
  if ironHigh then s else tripIron ironPin s

/-- Module input enters its operating range (R521): power-on state, the straps (R26), the pins' levels, the stored order, the repair log. -/
def powerOn (mv slot : Nat) (ironHigh flowOk : Bool) (s : State) : State :=
  let s := unpowered s
  let s := { s with house := { s.house with input := true, switchOpen := false } }
  let s := ((s.setFld Reg.inputMv mv).setFld Reg.slot slot).addFld Reg.powerOns 1
  let s := (s.setFld Reg.ironLevel (if ironHigh then 1 else 0)).setFld Reg.flowOk (if flowOk then 1 else 0)
  let s := bootBoth (applyStored s)
  let s := if s.house.resetLow then s else applyRepairLog s
  pinsAtStart ironHigh flowOk s

/-- The power stage stops, or the input switch opens: loss of module input (R36, R406, R521). DEDUCED, log entry 94. -/
def losePower (mv : Nat) (open_ : Bool) (s : State) : State :=
  let s := unpowered s
  { s.setFld Reg.inputMv mv with house := { s.house with switchOpen := open_ } }

/-! RESET_N. -/

/-- Channels whose contents RESET_N leaves (R46): in self-refresh, their PMIC on. A channel with no trained DIMM has no contents: it is
READY, in QUARANTINE, or has kept them since an earlier RESET_N. DEDUCED, log entry 151. -/
def keepsContents (s : State) (c : Nat) : Bool :=
  decide (s.fld (Reg.ddrState c) = 2) && s.house.pmicEn.testBit c &&
    (decide (s.fld (Reg.chState c) = chReady ∨ s.fld (Reg.chState c) = chQuarantine) || s.flag (Reg.chRetained c))

/-- The pool after RESET_N: contents of kept channels, the recorded sets, the set of the filter store when it keeps its contents
(R159, R199). -/
def resetPool (s : State) : Mem :=
  let sets := (installedSets s).map (fun k => (k, s.fld (Reg.setMask k), s.fld (Reg.setBase k)))
  let keep := (List.range 12).map (fun c => keepsContents s c)
  let kept (c : Nat) : Bool := (keep[c]?).getD false
  let before (k : Nat) : Bool := s.mem.recorded.any (fun r => decide (r.1 = k) && (channelsOf r.2.1).all kept)
  let fs := if s.mem.installed then (highestSet s).filter (fun k => (channelsOf (s.fld (Reg.setMask k))).all kept)
    else s.mem.filterSet.filter before
  { Mem.init with
    saved := s.mem.saved
    bringUp := s.mem.bringUp
    dram := s.mem.dram.filter (fun e => kept (e.1 / 2 ^ 40))
    ue := s.mem.ue.filter (fun u => kept (u / 2 ^ 34))
    recorded := if s.mem.installed then sets else s.mem.recorded
    restore := s.mem.installed || s.mem.restore
    filterSet := fs
    wasReset := true }

/-- The domain's units after RESET_N: Running with the die's rails, held Dark in ghost-light mode, Off without rails. -/
def unitsAfterReset (s : State) : State :=
  let all := allTiles ++ allEngines ++ allSeqs ++ allDdr
  if dieState s = dieOn then s
  else if ghostLight s then forEach (fun u s => setUnit u 2 s) all s
  else
    let s := forEach (fun u s => setUnit u 3 s) (all ++ [.scratch 0, .scratch 1, .scratch 2, .scratch 3]) s
    forEach (fun l s => s.setFld (Reg.portState l) 3) (List.range 14) s

/-- A Prompter under RESET_N: it starts BOOT again, unless the Call Board holds it or its rail is off. -/
def prompterAfterReset (was : Nat) (w : Who) (s : State) : State :=
  let keeps := decide (was = psOff ∨ was = psFailed ∨ was = psHeldOff)
  setPrompter w (if keeps then was else psBoot) (s.modPrompter w (fun p => { p with beat := false, missed := 0, writes := [], resend := [] }))

/-- The records of the blocks outside the house island after RESET_N, RESET_N now low. -/
def clearDomain (pool : Mem) (filter : List Window) (s : State) : State :=
  { s with
    links := [], swc := { Swc.init with filter := filter }, mem := pool, ten := Ten.init, cue := Cue.init, col := Col.init,
    rhs := Rehearsal.init, spState := [], waking := [], house := { s.house with resetLow := true } }

/-- RESET_N takes effect (R525): parties reset (R396, R397), registers at their Reset column but for those it leaves (R10), Table 02-5.
DEDUCED, log entry 98. -/
def chipReset (s : State) : State :=
  let a := prompterState s .a
  let b := prompterState s .b
  let frozen := s.fld Reg.cbFrozen
  let spent := s.fld Reg.cbExhausted
  let svn := s.fld Reg.svnMin
  let pool := resetPool s
  let filter := if pool.filterSet.isSome then s.swc.filter else []
  let retained := (List.range 12).filter (keepsContents s)
  let s := resetHostPort (hostLinkLost s)
  let s := forEach (fun c s => s.setWord (Reg.chBase c + 8) 0) (List.range 32) s
  let s := forEach (fun p s => resetParty p s) (ptPrompter :: (List.range 8).map ptEdge) s
  let s := refreshCap { s with regs := s.regs.filter (fun e => keptWord e.1) }
  let s := ((s.setFld Reg.svnMin svn).setFld Reg.cbFrozen frozen).setFld Reg.cbExhausted spent
  let s := prompterAfterReset b .b (prompterAfterReset a .a s)
  let s := forEach (fun st s => s.setSite st { s.site st with accepted := false, refused := false, eeprom := [] }) (List.range 20) s
  let s := clearDomain pool filter s
  let s := s.modBoard (fun k => { k with copying := none, due := false, handover := none })
  let s := s.modMail (fun m => { m with out := [] })
  let s := s.modSec (fun k => { k with booted := false })
  let s := { s with host := { s.host with struck := [] } }
  let s := forEach (fun c s => s.raise (Reg.chRetained c)) retained s
  unitsAfterReset s

/-- RESET_N is deasserted: straps, image, repair log; links start to train, sets are restored as their channels come back. DEDUCED, log
entry 99. -/
def resetRelease (slot : Nat) (s : State) : State :=
  let s := { s.setFld Reg.slot slot with house := { s.house with resetLow := false } }
  let s := bootVerify (applyRepairLog s)
  let s := if dieState s = dieOn then startSlices s else s
  if dieRuns s then forEach (fun l s => freshTraining l s) (List.range 14) (retiredOff s) else s

end Sys2Proof.Machine
end

