-- ==== Sys2Proof/Machine/PowerCommands.lean ====
section
/-! DEFINITION. Commands of the module's input, clocks and reset, of sleep and wake, of power, heat and the iron (chapters 1, 2, 13, 18). -/
namespace Sys2Proof.Machine

/-! Module input and reset (R26, R406, R521, R525). A voltage beyond Table 18-1 has no behaviour (R520). -/

/-- Highest voltage that the module may see, in mV. -/
def maxInput : Nat := 48000

/-- Module input rises through 32.0 V with its pins at these levels (R521). DEDUCED, log entries 95 and 96. -/
def execPowerOn (mv : Nat) (slot : Fin 4) (ironHigh flowOk : Bool) (s : State) : Host.Outcome State Fault Refusal :=
  if maxInput < mv then .fault .absoluteMaximum
  else .next (if s.house.input = false ∧ s.house.switchOpen = false ∧ 32000 ≤ mv then powerOn mv slot ironHigh flowOk s else s)

def execInputLoss (mv : Nat) (s : State) : Host.Outcome State Fault Refusal :=
  if maxInput < mv then .fault .absoluteMaximum
  else .next (if s.house.input ∧ mv < 28000 then losePower mv false s else s)

/-- PWR_WARN_N falls, or the input is low: ghost-light mode, and the ballast carries nothing (R406, R419). -/
def powerWarning (s : State) : State := setCause glPwrWarn ((s.setFld Reg.ballast 0).raise Reg.pwrWarnEv)

def execInputUndervoltage (mv : Nat) (s : State) : Host.Outcome State Fault Refusal :=
  if maxInput < mv then .fault .absoluteMaximum
  else .next (if s.house.input ∧ 28000 ≤ mv ∧ mv < 31000 then
      powerWarning ((s.setFld Reg.inputMv mv).modPower (fun p => { p with inputLow := true })) else s)

def execInputOvervoltage (mv : Nat) (s : State) : Host.Outcome State Fault Refusal :=
  if maxInput < mv then .fault .absoluteMaximum
  else .next (if s.house.input ∧ 44000 < mv then losePower mv true s else s)

def execOvervoltageExcursionExpiry (s : State) : Host.Outcome State Fault Refusal :=
  .next (if s.house.input then losePower (s.fld Reg.inputMv) true s else s)

/-- The input switch recloses; the module starts if the input is in range. -/
def reclose (mv slot : Nat) (ironHigh flowOk : Bool) (s : State) : State :=
  if 32000 ≤ mv then powerOn mv slot ironHigh flowOk s else { s with house := { s.house with switchOpen := false } }

def execInputReclose (mv : Nat) (slot : Fin 4) (ironHigh flowOk : Bool) (s : State) : Host.Outcome State Fault Refusal :=
  if maxInput < mv then .fault .absoluteMaximum
  else .next (if s.house.switchOpen ∧ mv < 40000 then reclose mv slot ironHigh flowOk s else s)

def execChipReset (s : State) : Host.Outcome State Fault Refusal :=
  .next (if islandLive s ∧ s.house.resetLow = false then chipReset s else s)

def execResetRelease (slot : Fin 4) (s : State) : Host.Outcome State Fault Refusal :=
  .next (if islandLive s ∧ s.house.resetLow then resetRelease slot s else s)

/-! HOUSE_CLK (R41). -/

def execHouseClkLoss (s : State) : Host.Outcome State Fault Refusal :=
  .next (if islandLive s ∧ s.house.clkPresent then
      { s with house := { s.house with clkPresent := false, onOscillator := true } } else s)

/-- HOUSE_CLK returns (R41). DEDUCED, log entry 101. -/
def execHouseClkReturn (s : State) : Host.Outcome State Fault Refusal :=
  .next (if islandLive s ∧ s.house.clkPresent = false then
      { s with house := { s.house with clkPresent := true, onOscillator := false } } else s)

/-- A power-down by the Prompter or the Call Board, when the die is powered. -/
def bringDown (cause : Nat) (s : State) : State := if diePowered s then startPowerDown cause s else s

def execHouseClkHoldoverExpiry (s : State) : Host.Outcome State Fault Refusal :=
  .next (if islandLive s ∧ s.house.clkPresent = false then bringDown offClockLost (s.raise Reg.clockLost) else s)

/-! Sleep and wake (R42 to R52). -/

/-- A unit that may not doze: one with work, a sequencer that is RUNNING or in QUARANTINE (R44, Table 09-2). -/
def busyForDoze (s : State) (u : UnitId) : Bool :=
  match u with
  | .seq q => decide (s.fld (Reg.seqSt q) = sqRunning ∨ s.fld (Reg.seqSt q) = sqQuarantine)
  | _ => unitBusy s u

/-- Every tile and sequencer of a wing is Dark or Off. DESIGN CHOICE, log entry 152: Table 02-4 does not say whether one that is Off
counts as Dark. -/
def wingDark (s : State) (w : Nat) : Bool :=
  (allTiles ++ allSeqs).all (fun u => !(decide (wingOfUnit u = w)) || decide (2 ≤ unitState s u))

/-- A unit may enter Dark (R45, Table 02-4). -/
def darkEligible (s : State) (u : UnitId) : Bool :=
  !(unitBusy s u) && !(heldAwake s u) && (match u with
    | .scratch w => wingDark s w
    | .seq _ => !(inQuarantine s u)
    | _ => true)

def execDozeIdleExpiry (u : UnitId) (s : State) : Host.Outcome State Fault Refusal :=
  .next (if linksLive s ∧ s.fld Reg.dozeIdle ≠ 0 ∧ unitState s u = 0 ∧ !(busyForDoze s u) then sendToSleep u 1 s else s)

def execDarkIdleExpiry (u : UnitId) (s : State) : Host.Outcome State Fault Refusal :=
  .next (if linksLive s ∧ s.fld Reg.darkIdle ≠ 0 ∧ unitState s u < 2 ∧ u ∉ s.waking ∧ darkEligible s u then sendToSleep u 2 s else s)

/-- A wake completes: the unit is Running and its waiting work goes on (R49, R51). -/
def wakes (u : UnitId) (s : State) : State := resumeAll (startWaiting (unitWakes u s))

def execUnitWakeComplete (u : UnitId) (s : State) : Host.Outcome State Fault Refusal :=
  .next (if linksLive s ∧ u ∈ s.waking ∧ !(heldByGhost s u) then wakes u s else s)

/-! The governor (R417). -/

/-- A tile that may run business load: Running, current and idle. -/
def idleTile (s : State) (p : Nat) : Bool :=
  unitCurrent s (tileUnit p) && !(s.ten.flights.any (fun f => (flightTiles s f).contains p))

/-- Business load runs on these tiles while the draw lies below the floor with the die ON (R53, R417). Which idle tiles carry it is the
governor's. DESIGN CHOICE, log entry 103. -/
def businessLoad (demand : Nat) (tiles : List Nat) (s : State) : State :=
  s.modPower (fun p => { p with
    loadTiles := if dieState s = dieOn ∧ demand < s.fld Reg.rampFloor then tiles.filter (idleTile s) else [] })

/-- The millisecond's measurements: draw without business load, input voltage and current, cycles that pacing cost. -/
def governed (demand mv current paced : Nat) (tiles : List Nat) (s : State) : State :=
  businessLoad demand tiles (governorTick demand paced ((s.setFld Reg.inputMv mv).setFld Reg.input10mA current))

def execRampGovernorTick (demand mv current : Nat) (work : Governed) (s : State) : Host.Outcome State Fault Refusal :=
  .next (if islandLive s then governed demand mv current work.paced (work.tiles.map (fun p => p.val)) s else s)

/-! The tray master's role and its grants (R27, R28, R414). -/

/-- The tray comes up: an election, unless this chip holds the role, which it keeps until R28 moves it (R27). DEDUCED, log entry 153. -/
def execTrayMasterElection (others : BitVec 4) (s : State) : Host.Outcome State Fault Refusal :=
  .next (if islandLive s ∧ s.flag Reg.master = false then elect others s else s)

def execTrayMasterLost (others : BitVec 4) (s : State) : Host.Outcome State Fault Refusal :=
  .next (if islandLive s ∧ s.flag Reg.master = false then elect others s else s)

def grantDie (s : State) : State := { s with house := { s.house with granted := true } }

def execTrayGrant (s : State) : Host.Outcome State Fault Refusal :=
  .next (if islandLive s then grantDie s else s)

/-- Without a grant the die may rise slot × PRM_STAGGER ms after 2 s from its Prompter's ACTIVE (R414). -/
def grantOverdue (s : State) : Bool :=
  decide (s.board.activeAt + (2000 + mySlot s * s.fld Reg.stagger) * ticksPerMs ≤ s.now)

def execGrantTimeout (s : State) : Host.Outcome State Fault Refusal :=
  .next (if islandLive s ∧ (activePrompter s).isSome ∧ grantOverdue s then grantDie s else s)

/-- Slots in the order of the master's grants: itself, then the others in slot order. DEDUCED, log entry 104. -/
def grantOrder (own : Nat) : List Nat := own :: [0, 1, 2, 3].filter (fun k => decide (k ≠ own))

/-- The next chip of the tray gets its grant. -/
def giveGrant (s : State) : State :=
  match (grantOrder (mySlot s))[s.house.grantsGiven]? with
  | none => s
  | some k =>
    let s := { s.modPower (fun p => { p with grantAt := s.now }) with house := { s.house with grantsGiven := s.house.grantsGiven + 1 } }
    if k = mySlot s then grantDie s else emit (.grant k) s

/-- PRM_STAGGER ms have passed since the last grant (R414). -/
def staggerOver (s : State) : Bool :=
  decide (s.house.grantsGiven = 0 ∨ s.power.grantAt + s.fld Reg.stagger * ticksPerMs ≤ s.now)

def execStaggerGrant (s : State) : Host.Outcome State Fault Refusal :=
  .next (if islandLive s ∧ s.flag Reg.master ∧ (activePrompter s).isSome ∧ staggerOver s then giveGrant s else s)

/-! Power orders (R410 to R413): the accepted capsule's order of a kind is carried out. -/

/-- Carry out the accepted POWER_ORDER when it is of a kind. -/
def orderOf (k : Nat) (s : State) : State :=
  match acceptedOf s kPower with
  | none => s
  | some c => if Order.kind (Cap.payload c.bytes) = k then runOrder c s else s

def execPowerOrderOff (s : State) : Host.Outcome State Fault Refusal := .next (if islandLive s then orderOf 1 s else s)
def execPowerOrderOn (s : State) : Host.Outcome State Fault Refusal := .next (if islandLive s then orderOf 2 s else s)
def execPowerOrderCap (s : State) : Host.Outcome State Fault Refusal := .next (if islandLive s then orderOf 3 s else s)
def execPowerOrderHold (s : State) : Host.Outcome State Fault Refusal := .next (if islandLive s then orderOf 4 s else s)
def execPowerOrderRelease (s : State) : Host.Outcome State Fault Refusal := .next (if islandLive s then orderOf 5 s else s)

/-! The rails of the die (R409, R414 to R416). -/

/-- A power-up may start: permitted, the first one granted, a house clock, no fuse pass due (R409, R414, R511). -/
def mayRise (s : State) : Bool :=
  permitted s && decide (dieState s = dieOff) && (s.house.firstUp || s.house.granted) && s.house.clkPresent &&
  !(s.flag Reg.fuseArm) && !s.rhs.fusePass

/-- The first rails are enabled (Table 13-4). -/
def startPowerUp (s : State) : State := enableNext (s.setFld Reg.pwrDie dieSeqUp)

def execDiePowerUp (s : State) : Host.Outcome State Fault Refusal :=
  .next (if islandLive s ∧ mayRise s then startPowerUp s else s)

/-- Die reset is released; accepted cartridges get their power. -/
def riseAll (s : State) : State := settleSites (dieRises s)

/-- A die rail reports power-good. -/
def dieRailGood (b : Nat) (s : State) : State :=
  let s := s.raise (Reg.rail b)
  if allRailsGood s then riseAll s
  else if s.power.enabled &&& s.fld Reg.rails = s.power.enabled then enableNext s
  else s

/-- A Prompter's rail reports power-good: it starts BOOT. -/
def prompterRailGood (w : Who) (s : State) : State :=
  let s := s.raise (Reg.rail (1 + w.idx))
  if prompterState s w = psOff then setPrompter w psBoot s else s

/-- The rail is being enabled and is not good yet. -/
def railRising (s : State) (r : Rail) : Bool :=
  decide (dieState s = dieSeqUp) && s.power.enabled.testBit r.bit && !(s.flag (Reg.rail r.bit))

def railGood (r : Rail) (s : State) : State :=
  match r with
  | .ib12 => s.raise (Reg.rail 0)
  | .pra => prompterRailGood .a s
  | .prb => prompterRailGood .b s
  | _ => if railRising s r then dieRailGood r.bit s else s

def execRailPowerGood (r : Rail) (s : State) : Host.Outcome State Fault Refusal :=
  .next (if islandLive s then railGood r s else s)

/-- 5 ms have passed since the rails of the present step were enabled (R415). -/
def railLate (s : State) : Bool := decide (s.power.enabledAt + 5 * ticksPerMs ≤ s.now)

def execRailTimeout (r : Rail) (s : State) : Host.Outcome State Fault Refusal :=
  .next (if islandLive s ∧ railRising s r ∧ railLate s then startPowerDown offRailFault (s.raise Reg.safeDown) else s)

def execDiePowerDown (s : State) : Host.Outcome State Fault Refusal :=
  .next (if islandLive s ∧ diePowered s ∧ !(permitted s) then startPowerDown s.power.offBy s else s)

def execDiePowerDownComplete (s : State) : Host.Outcome State Fault Refusal :=
  .next (if islandLive s ∧ dieState s = dieSeqDown then (loseDie s).setFld Reg.pwrDie dieOff else s)

/-! Ghost-light causes (R419, R420, R422, R424). -/

def execPwrWarnFall (s : State) : Host.Outcome State Fault Refusal :=
  .next (if islandLive s then powerWarning (s.modPower (fun p => { p with warnLow := true })) else s)

def execPwrWarnClear (s : State) : Host.Outcome State Fault Refusal :=
  .next (if islandLive s then clearCause glPwrWarn (s.modPower (fun p => { p with warnLow := false, inputLow := false })) else s)

/-- Flow grace: 30 s. -/
def graceTicks : Nat := 30000 * ticksPerMs

/-- FLOW_OK falls: the grace starts unless it runs. -/
def flowFalls (s : State) : State :=
  let s := (s.setFld Reg.flowOk 0).raise Reg.flowEv
  let s := if s.flag Reg.graceRunning then s
    else (s.raise Reg.graceRunning).modPower (fun p => { p with flowEnds := s.now + graceTicks })
  setCause glFlow s

def execFlowLoss (s : State) : Host.Outcome State Fault Refusal :=
  .next (if islandLive s then flowFalls s else s)

def execFlowClear (s : State) : Host.Outcome State Fault Refusal :=
  .next (if islandLive s then clearCause glFlow (s.raise Reg.flowOk) else s)

/-- The grace expires with FLOW_OK at a level. -/
def flowGraceEnds (high : Bool) (s : State) : State :=
  let s := (s.setFld Reg.graceRunning 0).setFld Reg.flowOk (if high then 1 else 0)
  if high then s else bringDown offFlow (s.raise Reg.safeDown)

def execFlowGraceExpiry (high : Bool) (s : State) : Host.Outcome State Fault Refusal :=
  .next (if islandLive s ∧ s.flag Reg.graceRunning ∧ s.power.flowEnds ≤ s.now then flowGraceEnds high s else s)

/-- THM_GL_HOLD ms have passed since the last cause bit cleared (R424). -/
def holdPassed (s : State) : Bool := decide (s.power.glFrom + s.fld Reg.glHoldMs * ticksPerMs ≤ s.now)

def execGhostLightHoldExpiry (s : State) : Host.Outcome State Fault Refusal :=
  .next (if islandLive s ∧ ghostLight s ∧ s.house.glHold ∧ s.fld Reg.glCause = 0 ∧ holdPassed s then leaveGhost s else s)

/-! The rack manager's heartbeat (R421). -/

/-- PRM_RM_HB_TIMEOUT ms and `more` have passed since the last heartbeat, or since power-on. -/
def rmSilent (more : Nat) (s : State) : Bool :=
  decide (s.power.rmSeen + (s.fld Reg.rmHbTimeout + more) * ticksPerMs ≤ s.now)

def execRmHeartbeatTimeout (s : State) : Host.Outcome State Fault Refusal :=
  .next (if islandLive s ∧ s.power.rmLost = false ∧ rmSilent 0 s then (s.modPower (fun p => { p with rmLost := true })).raise Reg.rmHbLost else s)

def execRmFallback (s : State) : Host.Outcome State Fault Refusal :=
  .next (if islandLive s ∧ s.power.rmLost ∧ s.flag Reg.fallback = false ∧ rmSilent 60000 s then refreshCap ((s.raise Reg.fallback).raise Reg.fallbackEv) else s)

/-! Temperature (R426 to R430). -/

def execDiodeSample (readings : List (Fin 4096)) (s : State) : Host.Outcome State Fault Refusal :=
  .next (if islandLive s then diodeSample (readings.map (fun r => r.val)) s else s)

def execThermalLevelFall (w : Fin 4) (s : State) : Host.Outcome State Fault Refusal :=
  .next (if islandLive s then levelFalls w s else s)

/-- The millisecond's check against the models of the four wings. -/
def checkDiodes (models : List Nat) (s : State) : State :=
  let s := forEach (fun w s => s.setFld (Reg.modelTemp w) ((models[w]?).getD 0)) [0, 1, 2, 3] s
  forEach checkDiode (List.range 64) s

def execDiodeCheck (models : List (Fin 4096)) (s : State) : Host.Outcome State Fault Refusal :=
  .next (if islandLive s ∧ (activePrompter s).isSome then checkDiodes (models.map (fun m => m.val)) s else s)

def execColdPlateSample (inlet outlet : Fin 4096) (s : State) : Host.Outcome State Fault Refusal :=
  .next (if islandLive s then coldSample inlet outlet s else s)

/-! The leak line (R431). -/

def execLeakWet (s : State) : Host.Outcome State Fault Refusal :=
  .next (if islandLive s then becomeWet s else s)

/-- A continuity test ends: whether the current returned, and whether the line reads wet. -/
def leakTested (returns wet : Bool) (s : State) : State :=
  let s := s.setFld Reg.leakTime s.now
  if !returns then becomeLost s
  else if wet then s
  else s.setFld Reg.leakState leakDry

def execLeakTest (returns wet : Bool) (s : State) : Host.Outcome State Fault Refusal :=
  .next (if islandLive s then leakTested returns wet s else s)

/-- The line has been WET for THM_LEAK_GRACE ms (R431). -/
def wetLong (s : State) : Bool := decide (s.power.wetFrom + s.fld Reg.leakGrace * ticksPerMs ≤ s.now)

def execLeakGraceExpiry (s : State) : Host.Outcome State Fault Refusal :=
  .next (if islandLive s ∧ s.fld Reg.leakState = leakWet ∧ wetLong s then bringDown offLeak (s.raise Reg.safeDown) else s)

/-! The iron (R432, R433). -/

/-- IRON_N is low: the trip, unless the latch holds already. -/
def ironPinLow (s : State) : State :=
  let s := s.setFld Reg.ironLevel 0
  if s.flag Reg.ironLatched then s else tripIron ironPin s

def execIronTrip (s : State) : Host.Outcome State Fault Refusal :=
  .next (if islandLive s then ironPinLow s else s)

/-- Carry out the accepted SAFETY_CONFIG when it writes a bit of THM_CLEAR. -/
def clearBy (b : Nat) (s : State) : State :=
  match acceptedOf s kSafety with
  | none => s
  | some c => if clearsBit c b then runSafety c s else s

def execIronClear (ironHigh : Bool) (s : State) : Host.Outcome State Fault Refusal :=
  .next (if islandLive s then clearBy 1 (s.setFld Reg.ironLevel (if ironHigh then 1 else 0)) else s)

def execLeakClear (s : State) : Host.Outcome State Fault Refusal := .next (if islandLive s then clearBy 0 s else s)

def execDiodesClear (s : State) : Host.Outcome State Fault Refusal := .next (if islandLive s then clearBy 2 s else s)

end Sys2Proof.Machine
end

