-- ==== Sys2Proof/Machine/SecCommands.lean ====
section
/-! DEFINITION. Commands of the security engine (chapter 14): capsules and what they order, firmware, boot, attestation. -/
namespace Sys2Proof.Machine

/-! Capsules (R442 to R446). -/

/-- A write of SEC_CAP_GO: the capsule of `n` bytes in SEC_CAP_WIN is judged (R453). -/
def capGo (n : Nat) (s : State) : State :=
  if s.flag Reg.capBusy ∨ n < 56 ∨ 2104 < n then s.raise Reg.secCfgErr
  else arriveCapsule { via := .window, bytes := Tab.getRange (fun _ => 0) s.sec.win 0 n } (s.raise Reg.capBusy)

/-- Bytes written to SEC_CAP_WIN. -/
def capWindow (off : Nat) (bytes : List Byte) (s : State) : State :=
  s.modSec (fun k => { k with win := Tab.setRange (fun _ => 0) k.win off bytes })

/-- The MCTP port of a transport. -/
def transportPort : Transport → Option Port
  | .tray => some .tray
  | .vdm => some .vdm
  | .rack => some .rack
  | .window => none
  | .relay r d => some (.relay r d)

/-- A capsule arrives by its transport; MCTP carries messages of up to 4,112 bytes to a port with an EID (R474). -/
def receiveCapsule (via : Transport) (bytes : List Byte) (s : State) : State :=
  match transportPort via with
  | none => capGo bytes.length (capWindow 0 (bytes.take 4096) s)
  | some p => orRelay p mtVendor 1 bytes (fun s =>
      if portReady s p ∧ bytes.length ≤ 4108 then arriveCapsule { via := via, bytes := bytes } s else s) s

def execCapsuleReceive (via : Transport) (bytes : List Byte) (s : State) : Host.Outcome State Fault Refusal :=
  .next (if islandLive s then receiveCapsule via bytes s else s)

/-- The write of the capsule's counter ends (R443 step 5). -/
def counterStored (ok : Bool) (c : Capsule) (s : State) : State :=
  if ok then acceptCapsule c s
  else
    let key := judgeKey s c
    let s := (s.modSec (fun k => { k with storing := none })).raise Reg.storeFail
    judgeOn (complete c csStoreFail 0 0 key s)

def execCounterStoreComplete (ok : Bool) (s : State) : Host.Outcome State Fault Refusal :=
  .next (match s.sec.storing with
    | some c => if islandLive s then counterStored ok c s else s
    | none => s)

/-- A transport's holds of 10 ms each end when they are over (R445). -/
def endHolds (via : Transport) (s : State) : State :=
  s.modSec (fun k => { k with holds := k.holds.filter (fun h => !(decide (h.1 = via ∧ h.2 + 10 * ticksPerMs ≤ s.now))) })

def execAuthHoldExpiry (via : Transport) (s : State) : Host.Outcome State Fault Refusal :=
  .next (if islandLive s then endHolds via s else s)

/-- Carry out the accepted capsule when it is of a KIND. -/
def carryOut (kind : Nat) (run : Capsule → State → State) (s : State) : State :=
  match acceptedOf s kind with
  | none => s
  | some c => run c s

def execSafetyConfig (s : State) : Host.Outcome State Fault Refusal :=
  .next (if islandLive s then carryOut kSafety runSafety s else s)

def execKeyInstall (s : State) : Host.Outcome State Fault Refusal :=
  .next (if islandLive s then carryOut kInstall runInstall s else s)

def execKeyClear (s : State) : Host.Outcome State Fault Refusal :=
  .next (if islandLive s then carryOut kClear runClear s else s)

def execActSwap (s : State) : Host.Outcome State Fault Refusal :=
  .next (if islandLive s then carryOut kAct runActSwap s else s)

def execPlanCommit (s : State) : Host.Outcome State Fault Refusal :=
  .next (if islandLive s then carryOut kPlan runPlan s else s)

/-! Firmware (R448). -/

/-- Carry out the accepted FW_UPDATE when it is of a PHASE. -/
def phaseOf (k : Nat) (s : State) : State :=
  carryOut kFw (fun c s => if Fw.phase (Cap.payload c.bytes) = k then runFw c s else s) s

def execFwUpdateOpen (s : State) : Host.Outcome State Fault Refusal := .next (if islandLive s then phaseOf 1 s else s)
def execFwUpdateVerify (s : State) : Host.Outcome State Fault Refusal := .next (if islandLive s then phaseOf 2 s else s)
def execFwUpdateActivate (s : State) : Host.Outcome State Fault Refusal := .next (if islandLive s then phaseOf 3 s else s)
def execFwUpdateRaiseSvn (s : State) : Host.Outcome State Fault Refusal := .next (if islandLive s then phaseOf 4 s else s)
def execFwUpdateAbort (s : State) : Host.Outcome State Fault Refusal := .next (if islandLive s then phaseOf 5 s else s)

/-- Bytes written to SEC_FW_WIN (R448, R453). -/
def fwWindow (off : Nat) (bytes : List Byte) (s : State) : State :=
  if s.fld Reg.fwState = fwOpen then fwBytes (s.fld Reg.fwPage * 65536 + off) bytes s else s.raise Reg.secCfgErr

def execFwWindowWrite (off : Fin 65536) (bytes : List Byte) (s : State) : Host.Outcome State Fault Refusal :=
  .next (if islandLive s then fwWindow off (bytes.take (65536 - off)) s else s)

def execBootVerify (s : State) : Host.Outcome State Fault Refusal :=
  .next (if houseLive s ∧ s.sec.booted = false then bootVerify s else s)

/-! Attestation (R452). Codes and places that R452 leaves to DMTF SPDM 1.2 are PRESUMED (log entry 23). -/

def spdmVersion : Nat := 0x04
def spdmCapabilities : Nat := 0x61
def spdmAlgorithms : Nat := 0x63
def spdmDigests : Nat := 0x01
def spdmCertificate : Nat := 0x02
def spdmMeasurements : Nat := 0x60
def spdmError : Nat := 0x7F
def errInvalidRequest : Nat := 0x01
def errUnsupportedRequest : Nat := 0x07

/-- A longer MCTP message is discarded (R474). -/
def maxMessage : Nat := 4112

/-- An SPDM answer on a port with an EID. -/
def answerSpdm (p : Port) (code : Nat) (data : List Byte) (s : State) : State :=
  if portReady s p then emit (.spdm p code data) s else s

def execSpdmGetVersion (p : Port) (request : List Byte) (s : State) : Host.Outcome State Fault Refusal :=
  .next (if islandLive s ∧ request.length ≤ maxMessage then orRelay p mtSpdm 0x84 request (answerSpdm p spdmVersion (Config.spdmAnswer 0x84 request)) s else s)

def execSpdmGetCapabilities (p : Port) (request : List Byte) (s : State) : Host.Outcome State Fault Refusal :=
  .next (if islandLive s ∧ request.length ≤ maxMessage then
      orRelay p mtSpdm 0xE1 request (answerSpdm p spdmCapabilities (Config.spdmAnswer 0xE1 request)) s else s)

def execSpdmNegotiateAlgorithms (p : Port) (request : List Byte) (s : State) : Host.Outcome State Fault Refusal :=
  .next (if islandLive s ∧ request.length ≤ maxMessage then
      orRelay p mtSpdm 0xE3 request (answerSpdm p spdmAlgorithms (Config.spdmAnswer 0xE3 request)) s else s)

/-- SHA3-512 of each certificate: slot 0 identity, slot 1 key-wrap. -/
def certDigests : List Byte := [0, 1].flatMap (fun i => digestBytes (Config.sha3 (Config.certificate i)))

def execSpdmGetDigests (p : Port) (request : List Byte) (s : State) : Host.Outcome State Fault Refusal :=
  .next (if islandLive s ∧ request.length ≤ maxMessage then
      orRelay p mtSpdm 0x81 request (answerSpdm p spdmDigests (Config.spdmAnswer 0x81 request ++ certDigests)) s else s)

/-- A portion of a certificate: its length, what remains after it, its bytes; a slot without one is an invalid request. -/
def sendCertificate (p : Port) (slot off len : Nat) (s : State) : State :=
  if 1 < slot then answerSpdm p spdmError [BitVec.ofNat 8 errInvalidRequest] s
  else
    let c := Config.certificate slot
    let part := (c.drop off).take len
    answerSpdm p spdmCertificate (leBytes 2 part.length ++ leBytes 2 (c.length - off - part.length) ++ part) s

def execSpdmGetCertificate (p : Port) (slot : Fin 8) (off len : Fin 65536) (s : State) : Host.Outcome State Fault Refusal :=
  .next (if islandLive s then
      orRelay p mtSpdm 0x82 (leBytes 1 slot.val ++ leBytes 2 off.val ++ leBytes 2 len.val) (sendCertificate p slot off len) s else s)

/-- Measurement m as its 64 bytes. -/
def measurementBytes (s : State) (m : Nat) : List Byte := spanBytes s (Reg.meas m 0) 8

/-- The measurements that an index of GET_MEASUREMENTS chooses: one of Table 14-8, or with FFh all. -/
def chosenMeasurements (s : State) (index : Nat) : Option (List Byte) :=
  if index < 8 then some (measurementBytes s index)
  else if index = 0xFF then some ((List.range 8).flatMap (measurementBytes s))
  else none

/-- The measurements, signed over the digest of the transcript when the request asks for it. -/
def sendMeasurements (p : Port) (index : Nat) (sign : Bool) (transcript : List Byte) (s : State) : State :=
  match chosenMeasurements s index with
  | none => answerSpdm p spdmError [BitVec.ofNat 8 errInvalidRequest] s
  | some bs =>
    let sig := if sign then Config.mlDsaSign identityKeys.2 (digestBytes (Config.sha3 transcript)) else []
    answerSpdm p spdmMeasurements (bs ++ sig) s

def execSpdmGetMeasurements (p : Port) (index : Fin 256) (sign : Bool) (transcript : List Byte) (s : State) :
    Host.Outcome State Fault Refusal :=
  .next (if islandLive s then
      orRelay p mtSpdm 0xE0 (leBytes 1 index.val ++ leBytes 1 (if sign then 1 else 0) ++ transcript)
        (sendMeasurements p index sign transcript) s else s)

def execSpdmUnsupported (p : Port) (code : Fin 256) (s : State) : Host.Outcome State Fault Refusal :=
  .next (if islandLive s then
      orRelay p mtSpdm code.val [] (answerSpdm p spdmError [BitVec.ofNat 8 errUnsupportedRequest, BitVec.ofNat 8 code]) s else s)

end Sys2Proof.Machine
end

