-- ==== Sys2Proof/Machine/HostCommands.lean ====
section
/-! DEFINITION. Commands of the host port, the memory device, the doorbells, the I3C ports and MCTP (chapter 15), registers apart. -/
namespace Sys2Proof.Machine

/-! The host link (R454 to R457). -/

/-- The link is up in the mode that the offer, rate and width give; the reported capacity is fixed now (R461), and the
function shows its identity (R458). DEDUCED, log entry 97. -/
def hostUp (offer : HostMode) (rate32 : Bool) (width : Nat) (s : State) : State :=
  let s := { s with house := { s.house with perst := false } }
  let mode := hostModeFor offer rate32 width
  let s := (s.setFld Reg.hostMode mode).setFld Reg.hostRate (if rate32 then 2 else 1)
  (s.setFld Reg.hostWidth width).modHost (fun h => { h with
    capacity := poolCapacity s, config := some (pciConfig mode (s.fld Reg.stepping)) })

/-- Widths of Table 15-1. -/
def hostWidths : List Nat := [1, 2, 4, 8, 16]

/-- A link that trains shows that PERST_N is high; the port is in reset while the die's rails are down (R457). -/
def execHostLinkUp (offer : HostMode) (rate32 : Bool) (width : Nat) (s : State) : Host.Outcome State Fault Refusal :=
  .next (if linksLive s ∧ s.fld Reg.hostMode = hmDown ∧ width ∈ hostWidths then hostUp offer rate32 width s else s)

def execHostLinkDown (s : State) : Host.Outcome State Fault Refusal :=
  .next (if islandLive s then hostLinkLost s else s)

/-- PERST_N is asserted (R396, R457). -/
def assertPerst (s : State) : State :=
  let s := if s.fld Reg.hostMode = hmDown then resetParty ptHost s else hostLinkLost s
  let s := resetHostPort s
  { s with house := { s.house with perst := true } }

def execPerstAssert (s : State) : Host.Outcome State Fault Refusal :=
  .next (if islandLive s ∧ s.house.perst = false then assertPerst s else s)

/-! The memory-device mailbox (R462). Return codes and the places of CXL 2.0 that Table 15-4 does not give are PRESUMED (log entry 24). -/

def rcSuccess : Nat := 0
def rcInvalidInput : Nat := 2
def rcUnsupported : Nat := 3
def rcInvalidHandle : Nat := 14

/-- The mailbox exists in the CXL modes. -/
def mailboxLive (s : State) : Bool := islandLive s && decide (s.fld Reg.hostMode = hmCxl20 ∨ s.fld Reg.hostMode = hmCxl11)

/-- A command completes. -/
def mailboxDone (opcode rc : Nat) (data : List Nat) (s : State) : State := emit (.mailboxCmd opcode rc data) s

def execGetEventRecords (log : Fin 4) (s : State) : Host.Outcome State Fault Refusal :=
  .next (if mailboxLive s then
      emit (.eventRecords log (Tab.get (fun _ => 0) s.host.logOver log) (s.eventLog log)) s else s)

/-- Records cleared: all of a log, or those named, the oldest first; the overflow count ends with them. PRESUMED, log entry 106. -/
def clearRecords (log : Nat) (handles : Option (List Nat)) (s : State) : State :=
  let recs := s.eventLog log
  let n := (handles.map (fun h => h.length)).getD recs.length
  let named := (handles.map (fun h => decide (h = (recs.take n).map (fun r => r.handle)))).getD true
  if named then
    let s := s.modHost (fun h => { h with
      logs := Tab.set (fun _ => []) h.logs log (recs.drop n), logOver := Tab.set (fun _ => 0) h.logOver log 0 })
    mailboxDone 0x0101 rcSuccess [] s
  else mailboxDone 0x0101 rcInvalidHandle [] s

def execClearEventRecords (log : Fin 4) (handles : Option (List Nat)) (s : State) : Host.Outcome State Fault Refusal :=
  .next (if mailboxLive s then clearRecords log handles s else s)

/-- The setting of a log: 0 no interrupt, 1 + 16 × vector by MSI-X. -/
def interruptSetting (s : State) (log : Nat) : Nat :=
  let v := Tab.get (fun _ => 0) s.host.logInt log
  if v = 0 then 0 else 1 + 16 * (v - 1)

def execGetEventInterruptPolicy (s : State) : Host.Outcome State Fault Refusal :=
  .next (if mailboxLive s then mailboxDone 0x0102 rcSuccess ([0, 1, 2, 3].map (interruptSetting s)) s else s)

/-- The vectors of the four logs, in their order. -/
def setPolicy (vectors : List (Option (Fin 64))) (s : State) : State :=
  if vectors.length = 4 then
    let put (k : Nat) (s : State) : State :=
      let v := match vectors[k]? with
        | some (some x) => x.val + 1
        | _ => 0
      s.modHost (fun h => { h with logInt := Tab.set (fun _ => 0) h.logInt k v })
    mailboxDone 0x0103 rcSuccess [] (forEach put [0, 1, 2, 3] s)
  else mailboxDone 0x0103 rcInvalidInput [] s

def execSetEventInterruptPolicy (vectors : List (Option (Fin 64))) (s : State) : Host.Outcome State Fault Refusal :=
  .next (if mailboxLive s then setPolicy vectors s else s)

/-- Two slots, the one that runs (1 or 2, 0 none), the SVN of slots A and B as their revisions. -/
def fwInfo (s : State) : List Nat :=
  [2, (match runningSlot s with
    | some k => k + 1
    | none => 0), s.fld (Reg.slotSvn 0), s.fld (Reg.slotSvn 1)]

def execGetFwInfo (s : State) : Host.Outcome State Fault Refusal :=
  .next (if mailboxLive s then mailboxDone 0x0200 rcSuccess (fwInfo s) s else s)

/-- The opcodes of Table 15-4 with their effects in [31:16]: a policy change (bit 3), a log change (bit 4). -/
def effectsLog : List Nat :=
  [0x0100, 0x00100101, 0x0102, 0x00080103, 0x0200, 0x0400, 0x0401, 0x4000, 0x4100, 0x4200]

def execGetSupportedLogs (s : State) : Host.Outcome State Fault Refusal :=
  .next (if mailboxLive s then mailboxDone 0x0400 rcSuccess [1, 4 * effectsLog.length] s else s)

def execGetLog (s : State) : Host.Outcome State Fault Refusal :=
  .next (if mailboxLive s then mailboxDone 0x0401 rcSuccess effectsLog s else s)

/-- Total, volatile and persistent capacity, label storage, poison list. -/
def execIdentifyMemoryDevice (s : State) : Host.Outcome State Fault Refusal :=
  .next (if mailboxLive s then mailboxDone 0x4000 rcSuccess [s.host.capacity, s.host.capacity, 0, 0, 0] s else s)

/-- Active volatile and persistent capacity. -/
def execGetPartitionInfo (s : State) : Host.Outcome State Fault Refusal :=
  .next (if mailboxLive s then mailboxDone 0x4100 rcSuccess [s.host.capacity, 0] s else s)

/-- The hottest junction in °C, and life used. -/
def healthInfo (s : State) : List Nat :=
  [([0, 1, 2, 3].foldl (fun m w => max m (junction s w)) 0) / 10,
   Config.lifeUsed (s.fld Reg.hrsPowered) (s.fld Reg.hrsDie) (s.fld Reg.hrsHot)]

def execGetHealthInfo (s : State) : Host.Outcome State Fault Refusal :=
  .next (if mailboxLive s then mailboxDone 0x4200 rcSuccess (healthInfo s) s else s)

/-- An opcode of Table 15-4. -/
def mailboxOpcode (op : Nat) : Bool := (effectsLog.map (fun e => e % 65536)).contains op

def execMailboxCmdUnsupported (opcode : Fin 65536) (s : State) : Host.Outcome State Fault Refusal :=
  .next (if mailboxLive s ∧ !(mailboxOpcode opcode) then mailboxDone opcode rcUnsupported [] s else s)

/-! Doorbells (R464, R465). -/

def execDoorbellHostRing (b : Fin 256) (arg : BitVec 32) (s : State) : Host.Outcome State Fault Refusal :=
  .next (if linksLive s then ringByHost b arg.toNat s else s)

/-- A ring by frame is answered with OP 11h. -/
def takeRing (f : Frame) (s : State) : State :=
  let r := ringByFrame f s
  sendFrame 0 (mgmtAnswer r.2 f 0x11 (leBytes 1 r.1 ++ List.replicate 15 0)) r.2

def execDoorbellFrame (f : Frame) (s : State) : Host.Outcome State Fault Refusal :=
  .next (takeMgmt 0x10 0x10 f takeRing s)

/-! The I3C ports (R467 to R473). -/

/-- The bus stays idle for the limit of a chip that no controller has addressed; a controller that reads back what it did not drive
abandons the attempt (R469). -/
def execControllerClaim (driven : Bool) (s : State) : Host.Outcome State Fault Refusal :=
  .next (if islandLive s ∧ driven = false ∧ s.flag Reg.controller = false ∧ addressed s true = false then becomeController s else s)

/-- ENTDAA as this chip sees it (R470). -/
def enterDaa (a : Entdaa) (s : State) : State :=
  match a with
  | .target tray addr => takeAddress tray addr s
  | .controller pids => if s.flag Reg.controller then runEntdaa pids s else s

def execEntdaa (a : Entdaa) (s : State) : Host.Outcome State Fault Refusal :=
  .next (if islandLive s then enterDaa a s else s)

def execRstdaa (tray : Bool) (s : State) : Host.Outcome State Fault Refusal :=
  .next (if islandLive s then s.setFld (addrField tray) 0 else s)

def execEnec (tray : Bool) (events : BitVec 8) (s : State) : Host.Outcome State Fault Refusal :=
  .next (if islandLive s then s.modI3c tray (fun p => { p with events := p.events ||| events.toNat }) else s)

def execDisec (tray : Bool) (events : BitVec 8) (s : State) : Host.Outcome State Fault Refusal :=
  .next (if islandLive s then s.modI3c tray (fun p => { p with events := p.events &&& (255 - events.toNat) }) else s)

/-- A directed CCC is answered on a port that has an address. PRESUMED, log entry 108. -/
def answerCcc (tray : Bool) (bytes : List Byte) (s : State) : State :=
  if addressed s tray then emit (.i3c tray bytes) s else s

/-- I3C sends the most significant byte first. -/
def msbBytes (n v : Nat) : List Byte := (leBytes n v).reverse

def execGetpid (tray : Bool) (s : State) : Host.Outcome State Fault Refusal :=
  .next (if islandLive s then answerCcc tray (msbBytes 6 (myPid s)) s else s)

/-- BCR: controller-capable on the tray bus, target only on the rack port. -/
def bcrOf (tray : Bool) : Nat := if tray then 0x46 else 0x06

def execGetbcr (tray : Bool) (s : State) : Host.Outcome State Fault Refusal :=
  .next (if islandLive s then answerCcc tray (leBytes 1 (bcrOf tray)) s else s)

def execGetdcr (tray : Bool) (s : State) : Host.Outcome State Fault Refusal :=
  .next (if islandLive s then answerCcc tray [0] s else s)

/-- The two status bytes are left open. UNVERIFIED, log entry 107. -/
def sendStatus (tray : Bool) (s : State) : State :=
  takeFree (takeFree (answerCcc tray [Config.freeByte s.free, Config.freeByte (s.free + 1)] s))

def execGetstatus (tray : Bool) (s : State) : Host.Outcome State Fault Refusal :=
  .next (if islandLive s then sendStatus tray s else s)

def execGetmwl (tray : Bool) (s : State) : Host.Outcome State Fault Refusal :=
  .next (if islandLive s then answerCcc tray (msbBytes 2 (s.i3cPort tray).mwl) s else s)

def execSetmwl (tray : Bool) (len : Fin 65536) (s : State) : Host.Outcome State Fault Refusal :=
  .next (if islandLive s then s.modI3c tray (fun p => { p with mwl := len }) else s)

def execGetmrl (tray : Bool) (s : State) : Host.Outcome State Fault Refusal :=
  .next (if islandLive s then answerCcc tray (msbBytes 2 (s.i3cPort tray).mrl) s else s)

def execSetmrl (tray : Bool) (len : Fin 65536) (s : State) : Host.Outcome State Fault Refusal :=
  .next (if islandLive s then s.modI3c tray (fun p => { p with mrl := len }) else s)

def execDeftgts (targets : List (Nat × Nat)) (s : State) : Host.Outcome State Fault Refusal :=
  .next (if islandLive s ∧ s.flag Reg.controller = false then s.modI3c true (fun p => { p with targets := targets }) else s)

/-- This chip takes the controller role, and with it the tray master's (R471). DEDUCED, log entry 105. -/
def acceptRole (s : State) : State :=
  setMaster true ((s.raise Reg.controller).setFld Reg.trayCtlAddr (s.fld Reg.trayAddr))

/-- This chip's controller role is gone. -/
def roleGone (s : State) : State := (s.setFld Reg.controller 0).modHost (fun h => { h with handing := none })

/-- GETACCMST: toward this chip, which accepts when it may be master, or the acknowledgement of its own. -/
def handoff (incoming : Bool) (s : State) : State :=
  if incoming then (if addressed s true ∧ mayBeMaster s then acceptRole s else s)
  else match s.host.handing with
    | some a => (roleGone s).setFld Reg.trayCtlAddr a
    | none => s

def execGetaccmst (incoming : Bool) (s : State) : Host.Outcome State Fault Refusal :=
  .next (if islandLive s then handoff incoming s else s)

/-- The event bit of Hot-Join in ENEC and DISEC. -/
def mayHotJoin (s : State) : Bool := (s.i3cPort true).events.testBit 3 && !(addressed s true)

def execHotJoin (s : State) : Host.Outcome State Fault Refusal :=
  .next (if islandLive s ∧ s.flag Reg.controller = false ∧ mayHotJoin s then emit (.ccc "HOT_JOIN" []) s else s)

def execControllerLost (s : State) : Host.Outcome State Fault Refusal :=
  .next (if islandLive s ∧ s.flag Reg.controller = false ∧ addressed s true then becomeController s else s)

def execHandoffTimeout (s : State) : Host.Outcome State Fault Refusal :=
  .next (if islandLive s ∧ s.host.handing.isSome then roleGone s else s)

/-- INV_TRAY_CTRL.RELEASE, ignored on a chip that is not master. -/
def releaseMaster (s : State) : State := if s.flag Reg.master then handOn s else s

def execTrayMasterRelease (s : State) : Host.Outcome State Fault Refusal :=
  .next (if islandLive s then releaseMaster s else s)

/-! MCTP control (R474, R475). Command and completion codes of DMTF DSP0236 are PRESUMED (log entry 25). -/

/-- A control message is answered also before an EID is assigned. -/
def answerControl (p : Port) (bytes : List Byte) (s : State) : State := if portUp s p then emit (.mctp p bytes) s else s

/-- The bus owner's EID that a register shows. -/
def setOwner (p : Port) (owner : Nat) (s : State) : State :=
  match p with
  | .tray => s.setFld Reg.trayHostEid 8
  | .rack => s.setFld Reg.rackMgrEid owner
  | _ => s

/-- An EID that may be assigned: 0 to 7 and FFh are reserved. DEDUCED, log entry 109. -/
def eidOk (e : Nat) : Bool := decide (8 ≤ e ∧ e ≠ 0xFF)

def assignEid (p : Port) (eid owner : Nat) (s : State) : State :=
  if portUp s p = false then s
  else if eidOk eid then answerControl p [1, 0, 0, BitVec.ofNat 8 eid, 0] (setOwner p owner (setEid p eid s))
  else answerControl p [1, 2] s

def execSetEndpointId (p : Port) (eid owner : Fin 256) (s : State) : Host.Outcome State Fault Refusal :=
  .next (if islandLive s then orRelay p mtControl 1 (leBytes 1 eid.val) (assignEid p eid owner) s else s)

def execGetEndpointId (p : Port) (s : State) : Host.Outcome State Fault Refusal :=
  .next (if islandLive s then
      orRelay p mtControl 2 [] (answerControl p
        [2, 0, BitVec.ofNat 8 (eidOf s p), (if s.flag Reg.master ∧ p = .tray then 0x10 else 0), 0]) s else s)

def execGetMctpVersionSupport (p : Port) (s : State) : Host.Outcome State Fault Refusal :=
  .next (if islandLive s then orRelay p mtControl 4 [] (answerControl p ([4, 0] ++ Config.mctpVersions)) s else s)

def execGetMessageTypeSupport (p : Port) (s : State) : Host.Outcome State Fault Refusal :=
  .next (if islandLive s then orRelay p mtControl 5 [] (answerControl p [5, 0, 3, 0x00, 0x05, 0x7E]) s else s)

def execGetVendorMessageSupport (p : Port) (s : State) : Host.Outcome State Fault Refusal :=
  .next (if islandLive s then
      orRelay p mtControl 6 [] (answerControl p ([6, 0, 0xFF, 0x00] ++ msbBytes 2 pciVendor ++ [0, 0])) s else s)

/-- Routing entries of the tray: address and EID of each target. -/
def routingTable (s : State) : List Byte :=
  (assignEids (s.i3cPort true).targets).flatMap (fun e => [BitVec.ofNat 8 e.1, BitVec.ofNat 8 e.2])

/-- The tray master answers; another chip does not support the command. -/
def sendRouting (p : Port) (s : State) : State :=
  if s.flag Reg.master then
    answerControl p ([0x0A, 0, 0xFF, BitVec.ofNat 8 (s.i3cPort true).targets.length] ++ routingTable s) s
  else answerControl p [0x0A, 5] s

def execGetRoutingTableEntries (p : Port) (s : State) : Host.Outcome State Fault Refusal :=
  .next (if islandLive s then orRelay p mtControl 0x0A [] (sendRouting p) s else s)

/-! Vendor messages (R476, R477). -/

/-- FW_DATA: bytes for the open slot. -/
def takeFwData (p : Port) (off : Nat) (bytes : List Byte) (s : State) : State :=
  if s.fld Reg.fwState ≠ fwOpen then vendorAnswer p 2 mcDenied [] s
  else if bytes = [] ∨ 4096 < bytes.length ∨ 2 ^ 24 < off + bytes.length then vendorAnswer p 2 mcBad [] s
  else vendorAnswer p 2 mcOk [] (fwBytes off bytes s)

def execFwData (p : Port) (off : Nat) (bytes : List Byte) (s : State) : Host.Outcome State Fault Refusal :=
  .next (if islandLive s then
      orRelay p mtVendor 2 (leBytes 4 off ++ bytes) (fun s => if portReady s p then takeFwData p off bytes s else s) s else s)

/-- HEARTBEAT: state, level and effective cap, 8 bytes each; only the rack manager's counts. -/
def takeHeartbeat (p : Port) (s : State) : State :=
  if p = .rack then
    let s := rmHeartbeat s
    vendorAnswer p 5 mcOk (leBytes 8 (s.word 0x3000).toNat ++ leBytes 8 (s.word 0x2100008).toNat ++ leBytes 8 (s.fld Reg.effectiveCap)) s
  else vendorAnswer p 5 mcDenied [] s

def execHeartbeat (p : Port) (s : State) : Host.Outcome State Fault Refusal :=
  .next (if islandLive s then orRelay p mtVendor 5 [] (fun s => if portReady s p then takeHeartbeat p s else s) s else s)

def execVendorBad (p : Port) (cmd : Fin 256) (s : State) : Host.Outcome State Fault Refusal :=
  .next (if islandLive s ∧ (cmd.val = 0 ∨ 6 < cmd.val) then
      orRelay p mtVendor cmd.val [] (fun s => if portReady s p then vendorAnswer p cmd mcBad [] s else s) s else s)

end Sys2Proof.Machine
end

