-- ==== Sys2Proof/Machine/ServiceCommands.lean ====
section
/-! DEFINITION. Coordinate assignment, strike, inventory, rehearsal, fuses, performance counters and merged alerts (chapters 15 to 17). -/
namespace Sys2Proof.Machine

/-! Alerts (R478). -/

/-- The merged alert of a source leaves for the queue; its interval starts again. -/
def releaseAlert (src : Nat) (s : State) : State :=
  match s.host.alertHeld.find? (fun h => decide (h.src = src)) with
  | none => s
  | some a => queueAlert a (s.modHost (fun h => { h with
      alertHeld := h.alertHeld.filter (fun x => !(decide (x.src = src)))
      alertLast := Tab.set (fun _ => 0) h.alertLast src (s.now + 1) }))

/-- 10 ms have passed since the source's last alert. -/
def mergeOver (s : State) (src : Nat) : Bool :=
  decide (Tab.get (fun _ => 0) s.host.alertLast src + 10 * ticksPerMs ≤ s.now + 1)

def execAlertMergeExpiry (src : Fin 13) (s : State) : Host.Outcome State Fault Refusal :=
  .next (if islandLive s ∧ mergeOver s src then releaseAlert src s else s)

/-! The coordinate (R14, R16, R59, R479). -/

/-- Coordinate and ring size of axis a in a value of INV_COORD. -/
def valueCoord (v a : Nat) : Nat := bitsOf v (4 * a) 4
def valueRing (v a : Nat) : Nat := bitsOf v (12 + 5 * a) 5

/-- A torus link that forbids a new coordinate: UP, in RETRAIN or TEST, or in EQ or ALIGN after CONFIG. -/
def coordBlocked (s : State) (l : Nat) : Bool :=
  let st := s.fld (Reg.lnkState l)
  decide (st = stUp ∨ st = stRetrain ∨ st = stTest) || (decide (st = stEq ∨ st = stAlign) && (s.link l).postCfg)

def torusLinks : List Nat := [8, 9, 10, 11, 12, 13]

/-- R479: the write is refused. -/
def coordRefused (s : State) (v : Nat) : Bool :=
  [0, 1, 2].any (fun a => decide (valueRing v a = 0 ∨ 16 < valueRing v a ∨ valueRing v a ≤ valueCoord v a)) ||
  torusLinks.any (coordBlocked s)

/-- The port of an axis of size 1 becomes Off. -/
def turnPortOff (l : Nat) (s : State) : State :=
  let s := if s.fld (Reg.lnkState l) = stDisabled then s else enterDown l stDisabled causeDisabled s
  forEach settleSite (sitesOf l) (s.setFld (Reg.portState l) 3)

/-- A port that was Off is in use again. -/
def turnPortOn (l : Nat) (s : State) : State :=
  if s.flag (Reg.lnkEnable l) then freshTraining l (forEach settleSite (sitesOf l) (portUsed l s)) else s

/-- A torus link after an accepted assignment: MISCABLED trains again (R86), a link in CONFIG sends a fresh CFG (R85). -/
def judgeAgain (changed : Bool) (l : Nat) (s : State) : State :=
  if changed ∧ s.fld (Reg.lnkState l) = stMiscabled then freshTraining l s
  else if s.fld (Reg.lnkState l) = stConfig then sendCfg l s
  else s

/-- What an accepted assignment does to the ports; `offBefore` are those that were Off. -/
def settlePorts (changed : Bool) (offBefore : List Nat) (s : State) : State :=
  let s := forEach (fun l s =>
    if portOff s l then turnPortOff l s
    else if l ∈ offBefore then turnPortOn l s
    else judgeAgain changed l s) torusLinks s
  forEach (fun l s =>
    if linkUp s l then watchLink l (fullRetrain l) s else if s.fld (Reg.lnkState l) = stConfig then sendCfg l s else s) (List.range 8) s

/-- A write of INV_COORD. DEDUCED, log entry 123. -/
def assignCoord (v : Nat) (s : State) : State :=
  if coordRefused s v then s.raise Reg.invCfgErr
  else
    let changed := decide (s.fld Reg.coordSizes ≠ v % 2 ^ 27) || !(s.flag Reg.assigned)
    let offBefore := torusLinks.filter (portOff s)
    let s := ((s.setFld Reg.coordSizes v).raise Reg.assigned).raise Reg.coordSet
    if dieRuns s then settlePorts changed offBefore s else s

def execCoordAssign (value : BitVec 32) (s : State) : Host.Outcome State Fault Refusal :=
  .next (if houseLive s then assignCoord value.toNat s else s)

/-! Strike (R487 to R489). -/

def sdNone : Nat := 0
def sdDraining : Nat := 1
def sdDone : Nat := 2

def srDone : Nat := 1
def srGroups : Nat := 2
def srCircuits : Nat := 3
def srMirror : Nat := 4
def srCancelled : Nat := 5
def srReturned : Nat := 7

/-- The RESULT of a refused strike. -/
def strikeVerdict (s : State) : Option Nat :=
  if (List.range 4096).any (grpValid s) then some srGroups
  else if (List.range 4096).any (fun c => decide (field (s.word (Reg.cirActive c 0)) 0 1 = 1)) then some srCircuits
  else if (List.range 16).any (fun k => decide (s.fld (Reg.mregMode k) ≠ 0) || s.flag (Reg.mwinEnable k)) then some srMirror
  else none

/-- INV_STRIKE.GO. A strike that has not been returned is in progress (log entry 26). -/
def startStrike (s : State) : State :=
  if s.fld Reg.strikeState ≠ sdNone then s.raise Reg.invCfgErr
  else match strikeVerdict s with
    | some r => s.setFld Reg.invStrikeResult r
    | none =>
      let s := (s.setFld Reg.strikeState sdDraining).modHost (fun h => { h with drainAt := s.now })
      handOn (abandonAllSlices (s.setFld Reg.invStrikeResult 0))

def execStrikeStart (s : State) : Host.Outcome State Fault Refusal :=
  .next (if houseLive s then startStrike s else s)

/-- Frames still held are discarded and counted in SWC_AGED (R488 step 3); one whose cells have started to leave goes on. -/
def discardHeld (s : State) : State :=
  let held := (s.swc.queue.filter (fun q => decide (q.sent = 0))) ++ s.swc.fenced
  let streamed := s.swc.streams.flatMap (fun t => t.held)
  let boxed := s.swc.inbox
  let s := s.modSwc (fun w => { w with queue := w.queue.filter (fun q => decide (q.sent ≠ 0)), fenced := [], streams := [], inbox := [] })
  let s := forEach (fun (q : QFrame) s => releaseStored q (discard Reg.aged 6 q.ing q.frame s)) (storedOnce [] held) s
  forEach (fun (h : InFrame) s => discard Reg.aged 6 h.ing h.frame s) (streamed ++ boxed) s

/-- The drain ends (R488 steps 3 to 5): each enabled torus link goes DOWN and is disabled. DEDUCED, log entry 121. -/
def endDrain (s : State) : State :=
  let ls := torusLinks.filter (fun l => s.flag (Reg.lnkEnable l))
  let s := forEach disableLink ls (discardHeld s)
  let s := s.modHost (fun h => { h with struck := ls })
  (s.setFld Reg.strikeState sdDone).setFld Reg.invStrikeResult srDone

/-- Nothing is in flight, or SWC_AGE_LIMIT, in units of 256 ns, and 4 µs have passed (R488 step 3). -/
def drained (s : State) : Bool :=
  decide (actInflight s 0 = 0 ∧ actInflight s 1 = 0 ∧ poolInflight s = 0) ||
  decide (256 * s.fld Reg.ageLimit + 4000 ≤ 40 * (s.now - s.host.drainAt))

def execStrikeDrainEnd (s : State) : Host.Outcome State Fault Refusal :=
  .next (if houseLive s ∧ s.fld Reg.strikeState = sdDraining ∧ drained s then endDrain s else s)

/-- INV_STRIKE.CANCEL (R489). -/
def cancelStrike (s : State) : State :=
  if s.fld Reg.strikeState = sdDraining then (s.setFld Reg.strikeState sdNone).setFld Reg.invStrikeResult srCancelled
  else s.raise Reg.invCfgErr

def execStrikeCancel (s : State) : Host.Outcome State Fault Refusal :=
  .next (if houseLive s then cancelStrike s else s)

/-- ENABLE = 1 of a link; training waits for the die. -/
def enableAgain (l : Nat) (s : State) : State :=
  if linksLive s then (if s.flag (Reg.lnkEnable l) then s else enableLink l s) else s.raise (Reg.lnkEnable l)

/-- INV_STRIKE.RETURN (R489). DEDUCED, log entry 122. -/
def returnStrike (s : State) : State :=
  if s.fld Reg.strikeState = sdDone then
    let s := forEach enableAgain s.host.struck s
    ((s.modHost (fun h => { h with struck := [] })).setFld Reg.strikeState sdNone).setFld Reg.invStrikeResult srReturned
  else s.raise Reg.invCfgErr

def execStrikeReturn (s : State) : Host.Outcome State Fault Refusal :=
  .next (if houseLive s then returnStrike s else s)

/-! The inventory (R494). -/

/-- A valid diode reads above 90 °C. -/
def runsHot (s : State) : Bool :=
  [0, 1, 2, 3].any (fun w => (validDiodes s w).any (fun i => decide (900 < s.fld (Reg.diodeTemp w i))))

/-- Hours of lanes that carry traffic on links that are UP. -/
def laneHoursTick (s : State) : State :=
  forEach (fun l s => if linkUp s l then
      forEach (fun p s => s.addFld (Reg.laneHours (inventoryLane l p)) 1) (lanesInUse s l).eraseDups s else s) (List.range 14) s

/-- Hours of cartridges and DIMMs: R494 does not say while what they count, so whether a record counts is open (log entry 5). -/
def moduleHoursTick (s : State) : State :=
  let s := forEach (fun st s => takeFree (if s.flag (Reg.invCartPresent st) then
      s.addFld (Reg.invCartHours st) ((Config.freeByte s.free).toNat % 2) else s)) (List.range 20) s
  forEach (fun n s => takeFree (if s.fld (Reg.chSerial n) ≠ 0 then
      s.addFld (Reg.invDimmHours n) ((Config.freeByte s.free).toNat % 2) else s)) (List.range 12) s

/-- 0.1 h of PRM_TIME has passed. UNVERIFIED, log entry 117. -/
def hoursTick (s : State) : State :=
  let s := s.addFld Reg.hrsPowered 1
  let s := if dieRuns s then s.addFld Reg.hrsDie 1 else s
  let s := if runsHot s then s.addFld Reg.hrsHot 1 else s
  moduleHoursTick (laneHoursTick s)

/-- Tenths of an hour of PRM_TIME. -/
def tenthsOver (s : State) : Nat := s.now / (360 * 1000 * ticksPerMs)

def execInventoryTick (s : State) : Host.Outcome State Fault Refusal :=
  .next (if islandLive s ∧ s.host.tenths < tenthsOver s then
      hoursTick (s.modHost (fun h => { h with tenths := h.tenths + 1 })) else s)

/-! Rehearsal (R499 to R509). -/

/-- The slice timer of a wing is due (R499). -/
def sliceDue (s : State) (w : Nat) : Bool := decide (Tab.get (fun _ => 0) s.rhs.nextFire w ≤ s.now)

/-- The slice timer of a wing starts its next period. -/
def nextPeriod (w : Nat) (s : State) : State :=
  { s with rhs := { s.rhs with nextFire := Tab.set (fun _ => 0) s.rhs.nextFire w (s.now + slicePeriod s) } }

def execRehearsalTimer (w : Fin 4) (s : State) : Host.Outcome State Fault Refusal :=
  .next (if linksLive s ∧ sliceDue s w then fireSlice w (nextPeriod w s) else s)

/-- The slice of a wing. -/
def sliceOf (s : State) (w : Nat) : Option Slice := s.rhs.slices.find? (fun c => decide (c.wing = w))

/-- The target of a slice. -/
def sliceTarget (c : Slice) : Target := ((targetsOf c.wing)[c.target]?).getD (.pll 0)

/-- The test itself runs: a working lane has been freed by its swing (R502, R503). -/
def testRuns (s : State) (t : Target) : Bool :=
  match t with
  | .lane l p => isSwing p || s.flag (Reg.laneSubst l p) ||
      (!(laneCarries s l p) && !((s.link l).subs.any (fun u => decide (u.lane = p ∨ u.onto = p))))
  | _ => true

/-- The golden signature of a target (R505): for lanes that of the link's generation. -/
def goldenOf (s : State) (t : Target) : BitVec 32 :=
  match t with
  | .lane l _ => Config.golden clsLane (s.fld (Reg.lnkGen l))
  | _ => Config.golden (targetClass t) 0

/-- A working lane returns by the reverse exchange (R503 step 3). -/
def returnLane (l p : Nat) (s : State) : State := if laneCarries s l (swingOf p) then startSub l (swingOf p) p true s else s

/-- A target that a heal test may heal: a SOFT lane, a channel with FORCE_FULL by a SOFT failure (R508). DEDUCED, log entry 114. -/
def healing (s : State) (t : Target) : Bool :=
  match t with
  | .lane l p => s.flag (Reg.laneSubst l p)
  | .ddrPhy c => ((entryOf s clsDdrPhy c).map (fun j => decide (s.fld (Reg.repairState j) = 1))).getD false
  | _ => false

/-- Three consecutive passes: the entry is removed, a lane returns and its swing is free, a channel trains from saved results again. -/
def heal (t : Target) (s : State) : State :=
  let s := (s.count Reg.rhsHealed).raise Reg.rhsHealedEv
  match t with
  | .lane l p => returnLane l p ((unlogRepair clsLane (inventoryLane l p) s).setFld (Reg.laneSubst l p) 0)
  | .ddrPhy c => (unlogRepair clsDdrPhy c s).setFld (Reg.forceFull c) 0
  | _ => s

/-- Key of a target in the run counters. -/
def targetKey (c : Slice) : Nat := c.wing * 128 + c.target

def State.modRhs (s : State) (f : Rehearsal → Rehearsal) : State := { s with rhs := f s.rhs }

def setRuns (c : Slice) (mism passes : Nat) (s : State) : State :=
  s.modRhs (fun r => { r with
    mismatches := Tab.set (fun _ => 0) r.mismatches (targetKey c) mism
    passes := Tab.set (fun _ => 0) r.passes (targetKey c) passes })

/-- A pass (R505, R508). -/
def slicePass (c : Slice) (s : State) : State :=
  let t := sliceTarget c
  let n := if healing s t then Tab.get (fun _ => 0) s.rhs.passes (targetKey c) + 1 else 0
  if 3 ≤ n then heal t (setRuns c 0 0 s)
  else
    let s := setRuns c 0 n s
    match t with
    | .lane l p => if isSwing p ∨ s.flag (Reg.laneSubst l p) then s else returnLane l p s
    | _ => s

/-- An alert of the RHS block (R478, R509). DEDUCED, log entry 111. -/
def rhsAlert (s : State) : State := alert 0x0A 0 Reg.rhsEventOff s

/-- Every diode of a wing that cannot be read any more is excluded, and the wing stands at L1 (R426, R428, R509). DEDUCED, log entry
116. -/
def blindWing (w : Nat) (s : State) : State :=
  let s := forEach (fun i s => ((s.setFld (Reg.diodeTemp w i) 0xFFF).raise (Reg.diodeOut w i)).raise Reg.diodeExcluded) (List.range 16) s
  let s := (s.raise (Reg.fewDiodes w)).setFld (Reg.modelValid w) 0
  settleLevels (s.setFld (Reg.wingLevel w) (max 1 (s.fld (Reg.wingLevel w))))

/-- A part of the wing's temperature sensing fails. -/
def sensorFails (w i : Nat) (s : State) : State :=
  let s := rhsAlert (s.modRhs (fun r => { r with
    sensorsOut := if 4 * w + i ∈ r.sensorsOut then r.sensorsOut else r.sensorsOut ++ [4 * w + i] }))
  if wingBlind s w then blindWing w s else s

/-- A lane fails in rehearsal: the swing that has it stays (R508, R512); a swing lane has no swing left. DEDUCED, log entry 112. -/
def laneTestFails (l p : Nat) (s : State) : State :=
  if isSwing p then recordFailure clsLane (inventoryLane l p) true (s.raise (Reg.laneRetired l p))
  else if s.flag (Reg.laneSubst l p) then s
  else swingLowAlert (markReplaced l p s)

/-- A channel's PHY fails (Table 17-5). -/
def phyFails (c : Nat) (s : State) : State :=
  if (entryOf s clsDdrPhy c).isSome then s
  else if s.fld (Reg.rhsPolicy clsDdrPhy) = 1 then settleChannels (channelFails c cauTrainFail (recordFailure clsDdrPhy c false s))
  else (recordFailure clsDdrPhy c false s).raise (Reg.forceFull c)

/-- A failure by class (R507, R509). -/
def targetFails (w : Nat) (t : Target) (s : State) : State :=
  let s := (s.count Reg.rhsFails).raise Reg.rhsFail
  match t with
  | .lane l p => laneTestFails l p s
  | .pll _ => rhsAlert s
  | .ddrPhy c => phyFails c s
  | .sensor i => sensorFails w i s

/-- A mismatch; the second in a row is a failure (R505). DEDUCED, log entry 113. -/
def sliceMismatch (c : Slice) (s : State) : State :=
  let t := sliceTarget c
  let s := s.count Reg.rhsMismatch
  if Tab.get (fun _ => 0) s.rhs.mismatches (targetKey c) = 1 then targetFails c.wing t (setRuns c 0 0 s)
  else
    let s := (setRuns c 1 0 s).modRhs (fun r => { r with again := Tab.set (fun _ => 0) r.again c.wing (c.target + 1) })
    match t with
    | .lane l p => if isSwing p ∨ s.flag (Reg.laneSubst l p) then s else returnLane l p s
    | _ => s

/-- The RESULT code of a signature: 1 PASS, 2 MISMATCH, 3 FAIL. -/
def sliceResult (s : State) (c : Slice) (sig : BitVec 32) : Nat :=
  if sig = goldenOf s (sliceTarget c) then 1 else if Tab.get (fun _ => 0) s.rhs.mismatches (targetKey c) = 1 then 3 else 2

/-- A slice ends with its signature. -/
def endSlice (c : Slice) (sig : BitVec 32) (s : State) : State :=
  let r := sliceResult s c sig
  let s := ((closeSlice c r s).setFld (Reg.rhsSig c.wing) sig.toNat).count Reg.rhsSlices
  fireWaiting (if r = 1 then slicePass c s else sliceMismatch c s)

def execSliceEnd (w : Fin 4) (signature : BitVec 32) (s : State) : Host.Outcome State Fault Refusal :=
  .next (match sliceOf s w with
    | none => s
    | some c => if linksLive s ∧ testRuns s (sliceTarget c) then endSlice c signature s else s)

/-! Fuses (R511). -/

/-- A power-up that FUSE_ARM precedes by a fuse pass. -/
def fusePassDue (s : State) : Bool :=
  s.flag Reg.fuseArm && !s.rhs.fusePass && permitted s && decide (dieState s = dieOff) && (s.house.firstUp || s.house.granted) &&
  s.house.clkPresent

def execFusePass (s : State) : Host.Outcome State Fault Refusal :=
  .next (if islandLive s ∧ fusePassDue s then s.modRhs (fun r => { r with fusePass := true }) else s)

/-- One SOFT entry is blown into the array of 64, or stays SOFT. -/
def blowEntry (j : Nat) (s : State) : State :=
  if s.fld (Reg.repairState j) ≠ 1 then s
  else if s.fld Reg.fusedCount < 64 then (s.setFld (Reg.repairState j) 2).addFld Reg.fusedCount 1
  else s.raise Reg.fuseFull

/-- The pass ends and the power-up proceeds. -/
def endFusePass (s : State) : State :=
  let s := forEach blowEntry (List.range 256) s
  let s := ((s.setFld Reg.fuseArm 0).raise Reg.fuseDone).modRhs (fun r => { r with fusePass := false })
  if mayRise s then startPowerUp s else s

def execFusePassComplete (s : State) : Host.Outcome State Fault Refusal :=
  .next (if islandLive s ∧ s.rhs.fusePass then endFusePass s else s)

/-! Performance counters (R514 to R517). -/

def execPmcCounterWrite (n : Fin 1024) (value : Word) (s : State) : Host.Outcome State Fault Refusal :=
  .next (if houseLive s then s.setFld (Reg.pmcCnt n) (field value 0 48) else s)

/-- The word of a counter for another reader (R516): its value, DENIED, its PMC_OVF bit. DEDUCED, log entry 119. -/
def pmcWord (s : State) (n : Nat) : List Byte :=
  let ok := s.flag (Reg.pmcUserMask (n / 64))
  leBytes 8 ((if ok then s.fld (Reg.pmcCnt n) else 0) + (if ok then 0 else 2 ^ 62) + s.fld (Reg.pmcOvf n) * 2 ^ 63)

/-- A read of counters by frame is well formed: in range, no other ADDR bit, no payload. DEDUCED, log entry 118. -/
def pmcReadOk (f : Frame) : Bool :=
  decide (Frame.len f = 0) && decide (Frame.addr f < 2 ^ 16) && decide (Frame.addr f % 1024 + Frame.addr f / 1024 + 1 ≤ 1024)

/-- The answer's payload. -/
def pmcAnswer (s : State) (f : Frame) : List Byte :=
  if pmcReadOk f then
    let n := Frame.addr f / 1024 + 1
    padTo (16 * (1 + ceilDiv n 2)) (padTo 16 [1] ++ (List.range n).flatMap (fun i => pmcWord s (Frame.addr f % 1024 + i)))
  else padTo 16 [3]

def answerPmc (f : Frame) (s : State) : State := sendFrame 0 (mgmtAnswer s f 0x13 (pmcAnswer s f)) s

def execPmcReadFrame (f : Frame) (s : State) : Host.Outcome State Fault Refusal :=
  .next (takeMgmt 0x12 0x12 f answerPmc s)

/-- The mirror's range lies in one placed footprint (R517). DEDUCED, log entry 120. -/
def mirrorPlaced (s : State) (base : Nat) : Bool :=
  s.ten.placed.any (fun r => (match r.owner with
    | .prog _ => true
    | .group _ => false) && decide (r.base ≤ base) && decide (base + 8192 ≤ r.base + r.size))

/-- The mirror is written, or says that it is off; a scratchpad that sleeps is woken first (R49). -/
def mirrorCounters (s : State) : State :=
  let base := s.fld Reg.pmcMirrorBase
  if mirrorPlaced s base = false then s.raise Reg.mirrorOff
  else if spanAwake s base 8192 then
    spWrite base ((List.range 1024).flatMap (pmcWord s)) (s.modHost (fun h => { h with mirrorAt := s.now }))
  else wakeSpan base 8192 s

/-- PMC_MIRROR.PERIOD is not 0, and that many µs have passed since the last mirror. -/
def mirrorDue (s : State) : Bool :=
  decide (s.fld Reg.pmcMirrorPeriod ≠ 0 ∧ s.host.mirrorAt + s.fld Reg.pmcMirrorPeriod * ticksPerUs ≤ s.now)

def execPmcMirrorTick (s : State) : Host.Outcome State Fault Refusal :=
  .next (if linksLive s ∧ mirrorDue s then mirrorCounters s else s)

end Sys2Proof.Machine
end

