-- ==== Sys2Proof/Machine/RegWrite.lean ====
section
/-! DEFINITION. Reads and writes of BAR0 (R6 to R11, R534): what each register does with a write, the registers whose value is computed,
and the refusals of each block (R127, R161, R188, R223, R254, R294, R366, R404, R405, R434, R453, R480, R496, R518, R519). -/
namespace Sys2Proof.Machine

/-- A torus link has settled: it is in none of CART_CHECK to CONFIG (R482). -/
def linkSettled (s : State) (l : Nat) : Bool :=
  let st := s.fld (Reg.lnkState l)
  !(s.flag (Reg.lnkEnable l)) || !(decide (stCartCheck ≤ st ∧ st ≤ stConfig))

/-- Every enabled torus link has settled. -/
def linksSettled (s : State) : Bool := [8, 9, 10, 11, 12, 13].all (linkSettled s)

/-- Fabric-ready (R482). -/
def fabricReady (s : State) : Bool :=
  decide (dieState s = dieOn) && s.flag Reg.assigned && s.flag Reg.memOpen && linksSettled s

/-! Pieces of an access (R534). -/

/-- One naturally aligned 8-byte piece of a write: the byte enables and the bytes in their places. -/
structure Piece where
  en : Nat
  val : Word
  deriving DecidableEq, Repr

/-- The bits of a word that a piece covers. -/
def Piece.mask (p : Piece) : Word :=
  BitVec.ofNat 64 ((List.range 8).foldl (fun m i => if p.en.testBit i then m + 255 * 2 ^ (8 * i) else m) 0)

/-- The value of a word that a piece gives: other bytes as they stand. -/
def Piece.onto (p : Piece) (old : Word) : Word := (old &&& ~~~p.mask) ||| (p.val &&& p.mask)

/-- The covered bytes, in order, and the index of the first. -/
def Piece.bytes (p : Piece) : List Byte := ((List.range 8).filter (fun i => p.en.testBit i)).map (byteOf p.val)
def Piece.first (p : Piece) : Nat := ((List.range 8).find? (fun i => p.en.testBit i)).getD 0

/-- The pieces of an access of `bytes` at an address: word offset and piece. -/
def piecesOf (addr : Nat) (bytes : List Byte) : List (Nat × Piece) :=
  let n := bytes.length
  if n = 0 then []
  else (List.range ((addr + n - 1) / 8 - addr / 8 + 1)).map (fun k =>
    let base := (addr / 8 + k) * 8
    let inside (i : Nat) : Bool := decide (addr ≤ base + i ∧ base + i < addr + n)
    let en := (List.range 8).foldl (fun m i => if inside i then m + 2 ^ i else m) 0
    let v := (List.range 8).foldl (fun m i => if inside i then m + (nthByte bytes (base + i - addr)).toNat * 2 ^ (8 * i) else m) 0
    (base, { en := en, val := BitVec.ofNat 64 v }))

/-! Refusals. -/

/-- The CFG_ERR bit that a refused write of a register sets. -/
def errOf (off : Nat) : Field :=
  if off < 0x3000 then Reg.cbCfgErr
  else if off < 0x10000 then Reg.pwrCfgErr
  else if off < 0x100000 then Reg.cbCfgErr
  else if off < 0x200000 then Reg.secCfgErr
  else if off < 0x300000 then Reg.mbxCfgErr
  else if off < 0x400000 then Reg.pmcCfgErr
  else if off < 0x800000 then Reg.lnkCfgErr
  else if off < 0x1000000 then Reg.swcCfgErr
  else if off < 0x1400000 then Reg.colCfgErr
  else if off < 0x1800000 then Reg.cueCfgErr
  else if off < 0x1C00000 then Reg.tenCfgErr
  else if off < 0x2000000 then Reg.memCfgErr
  else if off < 0x2100000 then Reg.rhsCfgErr
  else if off < 0x2200000 then Reg.thmCfgErr
  else Reg.invCfgErr

def refuseReg (off : Nat) (s : State) : State := s.raise (errOf off)

/-! RW1C registers. -/

/-- The bits of an RW1C register. -/
def w1cMask (off : Nat) : Option Nat :=
  match off with
  | 0x10 => some 0xFF
  | 0x3050 => some 0x1F
  | 0x100000 => some 0x7F
  | 0x200000 => some 0xF
  | 0x300008 => some 3
  | 0x400008 => some 0xFFFF
  | 0x800038 => some 3
  | 0x1000000 => some 0xF
  | 0x1400000 => some 0x1F
  | 0x1800000 => some 0x7F
  | 0x1C00008 => some 0x7F
  | 0x2000018 => some 0x7F
  | 0x2100000 => some 0x3FF
  | 0x2200048 => some 0x1F
  | _ => if inArray off 0x300100 8 16 then some (2 ^ 64 - 1) else none

/-- 1 clears the bit, 0 has no effect (Table 00-5). -/
def clearBits (off mask : Nat) (p : Piece) (s : State) : State :=
  s.setWord off (s.word off &&& ~~~(p.val &&& p.mask &&& BitVec.ofNat 64 mask))

/-! RW registers that only hold their value. -/

/-- The RW bits of a register that only holds its value. -/
def plainMask (off : Nat) : Option Nat :=
  match off with
  | 0x58 => some 0x3FFF
  | 0x2000 => some 0xFFFF
  | 0x2008 => some 0xFFFFF
  | 0x2010 => some 0xF
  | 0x3038 => some 0x3FF
  | 0x100030 => some 0xFF
  | 0x300000 => some 1
  | 0x300010 => some 0xFFFF
  | 0x300018 => some 0xFFFFFFFFFFFF
  | 0x400010 => some 0xFFFF
  | 0x400018 => some 0xF
  | 0x400020 => some 0xFF
  | 0x400028 => some 0xFFFF
  | 0x800008 => some 0xFFF
  | 0x800010 => some 0xFF
  | 0x800018 => some 0xFFFFFFFF
  | 0x800020 => some 0xFFFFFFFF
  | 0x800028 => some 0xFFFFF
  | 0x800030 => some 0xFFFFFFFF
  | 0x800328 => some 0xFFFF
  | 0x800330 => some 3
  | 0x800338 => some 0xFFFF
  | 0x800340 => some 0xFFFF
  | 0x800418 => some 0x7F
  | 0x1000008 => some 0x3FFF
  | 0x1000010 => some 0xFFFF
  | 0x1400028 => some 1
  | 0x1800010 => some 0xFFFFFFFF
  | 0x1800018 => some 0xFFFF
  | 0x1800020 => some 0xFFFF
  | 0x1C00010 => some 0x1F
  | 0x1C00018 => some 0xFFFF
  | 0x2000008 => some 0xFFF
  | 0x2000010 => some 0x3FF
  | 0x2200038 => some 0x7F
  | _ =>
    if inArray off 0x301000 8 1024 then some 0xFFFF
    else if inArray off 0x303000 8 1024 then some 0xFFFFFFFFFFFF
    else if decide (0x880000 ≤ off) && decide (off < 0x8A0000) && decide (off % 8 = 0) then
      (match off / 8 % 4 with
      | 0 => some 0xFFFFFFFFFFFCF
      | 1 => some 0xFFFFFFFF
      | 2 => some 0xFFFFFFFFFFFFFFFF
      | _ => some 0xFFFFFF000000)
    else if inArray off 0x8C0000 8 14 then some 7
    else if inArray off 0x1441000 8 256 then some 0x3FF
    else if inArray off 0x1C01000 0x100 12 then some 3
    else none

/-- UNIT values of an EVENT of Table 17-8: how many there are; 0 for a refused EVENT. -/
def eventUnits (ev : Nat) : Nat :=
  if ev = 0 ∨ ev = 1 ∨ ev = 0x16 ∨ ev = 0x17 then 1
  else if ev ≤ 5 ∨ ev = 8 ∨ ev = 9 then 14
  else if ev = 6 ∨ ev = 7 then 196
  else if ev = 0xA ∨ ev = 0xB then 232
  else if ev = 0xC ∨ ev = 0xD then 4
  else if ev = 0xE ∨ ev = 0xF then 16
  else if ev = 0x10 ∨ ev = 0x11 then 64
  else if 0x12 ≤ ev ∧ ev ≤ 0x14 then 12
  else if ev = 0x15 then 4
  else 0

/-- Four percentages of a register of bytes. -/
def byteAt (v i : Nat) : Nat := v / 256 ^ i % 256

/-- The values that a plain register accepts; `v` holds its RW bits. -/
def plainOk (off v : Nat) : Bool :=
  match off with
  | 0x58 => decide (10 ≤ v ∧ v ≤ 10000)
  | 0x3038 => decide (v ≤ 1000)
  | 0x300018 => decide (v % 32 = 0)
  | 0x400018 => decide (v ≠ 0)
  | 0x400020 => decide (v ≠ 0)
  | 0x800008 => decide (16 ≤ v)
  | 0x800010 => decide (v ≤ 200)
  | 0x800018 => decide (byteAt v 0 + byteAt v 1 + byteAt v 2 + byteAt v 3 = 100) && decide (5 ≤ byteAt v 3)
  | 0x800020 => [0, 1, 2, 3].all (fun i => decide (1 ≤ byteAt v i ∧ byteAt v i ≤ 100))
  | 0x800030 => decide (32 ≤ v % 65536 ∧ v % 65536 ≤ 4096) && decide (32 ≤ v / 65536 ∧ v / 65536 ≤ 1024)
  | 0x800328 => decide (v ≠ 0)
  | 0x800340 => decide (64 ≤ v)
  | 0x800418 => decide (1 ≤ v ∧ v ≤ 90)
  | 0x880000 => decide (v % 2 = 0)
  | 0x1000008 => decide (1 ≤ v ∧ v ≤ 10000)
  | 0x1C00010 => decide (v ≤ 24)
  | 0x2000008 => decide (1 ≤ v ∧ v ≤ 3600)
  | 0x2000010 => [0, 1, 2, 3, 4].all (fun i => decide (v / 4 ^ i % 4 < 2))
  | _ => if inArray off 0x301000 8 1024 then decide (v / 256 < eventUnits (v % 256)) else true

/-- A write of a register that only holds its value: applied whole, or ignored with CFG_ERR. -/
def plainWrite (off mask : Nat) (p : Piece) (s : State) : State :=
  let m := BitVec.ofNat 64 mask
  let v := p.onto (s.word off) &&& m
  if plainOk off v.toNat then s.setWord off ((s.word off &&& ~~~m) ||| v) else refuseReg off s

/-! Registers that act. -/

/-- Effects in the die need it to run. DEDUCED, log entry 125. -/
def whenLive (f : State → State) (s : State) : State := if linksLive s then f s else s

/-- Bit b of a word does something. -/
def onBit (v : Word) (b : Nat) (f : State → State) (s : State) : State := if v.getLsbD b then f s else s

/-- PRM (Tables 12-7, 13-8): a "Capsule" register takes no direct write (R434); heartbeats come from a Prompter only (R404). -/
def writePrm (who : Option Who) (off : Nat) (v : Word) (s : State) : State :=
  match off with
  | 0x18 => onBit v 2 (releaseHeld .b) (onBit v 1 (releaseHeld .a) (onBit v 0 requestHandover s))
  | 0x40 => match who with
    | none => s
    | some w => if beats s w then s.modPrompter w (fun p => { p with beat := true }) else s
  | 0x3018 => refuseReg off s
  | 0x3020 => refuseReg off s
  | 0x3030 => refuseReg off s
  | _ => s

/-- SEC (Table 14-10), which no Prompter writes (R453). -/
def writeSec (who : Option Who) (off : Nat) (p : Piece) (s : State) : State :=
  if who.isSome then s
  else if off = 0x100078 then capGo (field (p.onto 0) 0 12) s
  else if 0x102000 ≤ off ∧ off < 0x103000 then capWindow (off - 0x102000 + p.first) p.bytes s
  else if 0x110000 ≤ off ∧ off < 0x120000 then fwWindow (off - 0x110000 + p.first) p.bytes s
  else s

/-- A party code (R388). -/
def partyOk (c : Nat) : Bool := decide (c ≤ 1 ∨ (0x10 ≤ c ∧ c ≤ 0x17) ∨ c = 0x20)

/-- A configuration of a data channel: codes assigned, CHIP only with a remote Prompter, sides that differ and are not the host and
the local Prompter (R388, Table 12-9). -/
def chanOk (v : Word) : Bool :=
  let l := field v 0 8
  let cl := field v 8 12
  let r := field v 20 8
  let cr := field v 28 12
  partyOk l && partyOk r && (decide (l = ptRemote) || decide (cl = 0)) && (decide (r = ptRemote) || decide (cr = 0)) &&
  !(decide (l = r ∧ cl = cr)) && !(decide (l ≤ 1 ∧ r ≤ 1))

/-- A write of MBX_CHc_CFG: while ENABLE is 1 only ENABLE is writable; the sides of a control channel are fixed. -/
def writeChan (c : Nat) (v : Word) (s : State) : State :=
  if s.flag (Reg.chEnable c) then s.setFld (Reg.chEnable c) (field v 40 1)
  else
    let fixed : Word := if c < 8 then 0x3FFF0F0000000000 else 0x3FFF0FFFFFFFFFFF
    let new := (s.word (Reg.chBase c) &&& ~~~fixed) ||| (v &&& fixed)
    if c < 8 ∨ chanOk new then s.setWord (Reg.chBase c) new else refuseReg (Reg.chBase c) s

/-- The host is a side of a channel (R405). -/
def hostSide (s : State) (c : Nat) : Bool := (dirFrom s c (ptHost, 0)).isSome

/-- The channel whose registers or windows an offset lies in. -/
def chanOf (off : Nat) : Option Nat :=
  if 0x201000 ≤ off ∧ off < 0x201800 then some ((off - 0x201000) / 0x40)
  else if 0x210000 ≤ off ∧ off < 0x218000 then some ((off - 0x210000) / 0x400)
  else if 0x220000 ≤ off ∧ off < 0x230000 then some ((off - 0x220000) / 0x800)
  else none

/-- A write of a channel's registers or send window. DEDUCED, log entry 126. -/
def writeChannel (who : Option Who) (c off : Nat) (p : Piece) (s : State) : State :=
  if who.isNone ∧ hostSide s c = false then s
  else if 0x210000 ≤ off then (if off < 0x218000 then s.setWord off (p.onto (s.word off)) else s)
  else match off % 0x40 with
    | 0x00 => writeChan c (p.onto (s.word off)) s
    | 0x10 => if who.isNone then hostSend c (field (p.onto 0) 0 11) s else s
    | 0x18 => if who.isNone ∧ (p.onto 0).getLsbD 0 then popFor c ptHost s else s
    | _ => s

/-- The master of a writer: the host or the Prompter (R402). -/
def writerMaster (s : State) (who : Option Who) : Nat × Nat := masterName s (if who.isNone then 1 else 0) 0

/-- MBX (Table 12-8). DEDUCED, log entry 127. -/
def writeMbx (who : Option Who) (off : Nat) (p : Piece) (s : State) : State :=
  match chanOf off with
  | some c => writeChannel who c off p s
  | none =>
    if off = 0x200040 then onBit (p.onto 0) 6 (forceSem (field (p.onto 0) 0 6)) s
    else if inArray off 0x200800 8 64 then
      (if p.onto (shownSem ((off - 0x200800) / 8) s) = 0 then (releaseSem ((off - 0x200800) / 8) (writerMaster s who) s).2 else s)
    else s

/-- ENABLE written while the die is off: a link whose ENABLE falls is DISABLED all the same (R89); one whose ENABLE rises waits for the
die, its port Off. -/
def linkIdle (l : Nat) (on was : Bool) (s : State) : State :=
  if was ∧ !on ∧ !s.house.resetLow ∧ s.fld (Reg.lnkState l) ≠ stDisabled then enterDown l stDisabled causeDisabled s else s

/-- A write of LNKn_CTRL (Table 03-10). -/
def writeLinkCtrl (l : Nat) (v : Word) (s : State) : State :=
  let s := ((s.setFld (Reg.genCfg l) (field v 0 2)).setFld (Reg.genFloor l) (field v 2 2))
  let s := (s.setFld (Reg.autoSub l) (field v 5 1)).setFld (Reg.allowHalf l) (field v 6 1)
  let on := v.getLsbD 4
  let was := s.flag (Reg.lnkEnable l)
  if linksLive s then
    let s := if on ∧ !was then enableLink l s else if !on ∧ was then disableLink l s else s
    let s := onBit v 8 (fun s => if linkUp s l then ownRetrain l s else s) s
    onBit v 9 (retrainFull l) s
  else linkIdle l on was (s.setFld (Reg.lnkEnable l) (if on then 1 else 0))

/-- LNK (Tables 03-9, 03-10). -/
def writeLnk (off : Nat) (p : Piece) (s : State) : State :=
  if 0x410000 ≤ off ∧ off < 0x41E000 then
    let l := (off - 0x410000) / 0x1000
    match (off - 0x410000) % 0x1000 with
    | 0x00 => writeLinkCtrl l (p.onto (s.word off)) s
    | 0x10 => whenLive (writeLoop l (field (p.onto (s.word off)) 0 2) (field (p.onto (s.word off)) 2 6)) s
    | _ => s
  else s

/-- An entry of the multicast or route table (16 bits) is valid (Table 05-1). -/
def entry16Ok (off v : Nat) : Bool :=
  if off < 0x820000 then true else decide (v % 4 ≠ 3) && decide (v / 4 % 4 ≠ 3) && decide (v / 16 % 4 ≠ 3)

/-- The Act of a table entry. -/
def actOfEntry (off : Nat) : Nat :=
  if off < 0x820000 then (off - 0x810000) / 0x2000 else if off < 0x840000 then (off - 0x830000) / 0x2000 else (off - 0x840000) / 0x8000

/-- A write of one of the four 16-bit entries of a word: refused unless its Act is SPARE (R148). -/
def writeEntry16 (off : Nat) (p : Piece) (i : Nat) (s : State) : State :=
  if p.en / 4 ^ i % 4 = 0 then s
  else
    let v := field (p.onto (s.word off)) (16 * i) 16
    let v := if off < 0x820000 then v else v % 256
    if s.fld (Reg.actState (actOfEntry off)) = actSpare ∧ entry16Ok off v then s.setFld ⟨off, 16 * i, 16⟩ v else refuseReg off s

/-- A write of SWC_ROUTE_MODE (R486). -/
def writeRouteMode (v : Word) (s : State) : State :=
  let was := s.flag Reg.routeReorder
  let s := (s.setFld Reg.routeSpray (field v 0 1)).setFld Reg.routeReorder (field v 1 1)
  if was ∧ v.getLsbD 1 = false then stopReorder s else s

/-- A write of SWC_ACT_CTRL: refused whole when one of its transitions is (R127, R148). DEDUCED, log entry 128. -/
def writeActCtrl (v : Word) (s : State) : State :=
  let bad := [0, 1].any (fun a => (v.getLsbD a && decide (s.fld (Reg.actState a) ≠ actSpare)) ||
    (v.getLsbD (2 + a) && decide (s.fld (Reg.actState a) ≠ actDraining)))
  if bad then refuseAct s
  else onBit v 3 (armAct 1) (onBit v 2 (armAct 0) (onBit v 1 (sealAct 1) (onBit v 0 (sealAct 0) (s.setFld Reg.retireMode (field v 4 1)))))

/-- SWC (Tables 04-7, 05-6, 06-5). -/
def writeSwc (off : Nat) (p : Piece) (s : State) : State :=
  if off = 0x800000 then refuseReg off s
  else if off = 0x800300 then writeRouteMode (p.onto (s.word off)) s
  else if off = 0x800308 then writeActCtrl (p.onto (s.word off)) s
  else if off = 0x800400 then onBit (p.onto 0) 0 clearStaged s
  else if (0x810000 ≤ off ∧ off < 0x814000) ∨ (0x830000 ≤ off ∧ off < 0x834000) then forEach (writeEntry16 off p) [0, 1, 2, 3] s
  else if 0x840000 ≤ off ∧ off < 0x850000 then
    (if s.fld (Reg.actState (actOfEntry off)) = actSpare then s.setWord off (p.onto (s.word off) &&& 0xFFFF1FFF) else refuseReg off s)
  else s

/-- The value that a word of a group entry shows to a further write: what is held for it, else the entry's. -/
def heldWord (s : State) (g j : Nat) : Word :=
  (Tab.get (fun _ => none) (s.grp g).held j).getD (s.word (Reg.grpWord g j))

/-- COL (Tables 11-1, 11-9). -/
def writeCol (off : Nat) (p : Piece) (s : State) : State :=
  if 0x1080000 ≤ off ∧ off < 0x10A0000 then
    let g := (off - 0x1080000) / 0x20
    let j := off / 8 % 4
    whenLive (if j = 0 then groupCommit g (p.onto (s.word off)) else holdWord g j (p.onto (heldWord s g j))) s
  else s

/-- A write of CUE_SEQs_CTRL. -/
def writeSeqCtrl (q : Nat) (v : Word) (s : State) : State :=
  let s := s.setFld (Reg.onFault q) (field v 0 1)
  let s := if decide (field v 1 1 ≠ 0) = s.flag (Reg.seqDisable q) then s else disableSeq q (v.getLsbD 1) s
  onBit v 2 (killSeq q) s

/-- A write of CUE_LOAD_CTRL. -/
def writeLoadCtrl (v : Word) (s : State) : State :=
  match field v 0 2 with
  | 0 => s
  | 1 => loadProgram (field v 8 24) s
  | 2 => unloadProgram (field v 2 6) s
  | _ => s.raise Reg.cueCfgErr

/-- CUE (Tables 09-9, 09-11, 15-9). -/
def writeCue (off : Nat) (p : Piece) (s : State) : State :=
  if off = 0x1400010 then whenLive (writeLoadCtrl (p.onto 0)) s
  else if off = 0x1400030 then whenLive (clearCounter (field (p.onto 0) 0 10)) s
  else if inArray off 0x1410000 0x100 64 then whenLive (writeSeqCtrl ((off - 0x1410000) / 0x100) (p.onto (s.word off))) s
  else if 0x1420000 ≤ off ∧ off < 0x1424000 then
    let t := (off - 0x1420000) / 0x10
    whenLive (enableTrigger t (if off % 0x10 = 0 then (p.onto (s.word off)).getLsbD 1 else s.flag (Reg.trigEnable t))) s
  else if inArray off 0x1440000 8 256 then whenLive (ringByHost ((off - 0x1440000) / 8) (field (p.onto 0) 0 32)) s
  else s

/-- TEN_TILE_CMD (Table 08-5). -/
def writeTileCmd (v : Word) (s : State) : State :=
  let t := field v 0 8
  if 240 ≤ t then s.raise Reg.tenCfgErr
  else match field v 8 2 with
    | 0 => s
    | 1 => swingCmd t s
    | 2 => retireCmd t s
    | _ => returnTile t s

/-- MEM_STRIKE (Table 07-8). -/
def writeMemStrike (v : Word) (s : State) : State :=
  let c := field v 0 4
  if 12 ≤ c then s.raise Reg.memCfgErr
  else
    let s := s.setFld Reg.strikeChan c
    whenLive (fun s => onBit v 5 (returnChannel c) (onBit v 4 (strikeChannel c) s)) s

/-- Word 0 of MEM_MREGk: its fields change in state OFF only (Table 07-11). DEDUCED, log entry 129. -/
def writeRegion (k : Nat) (v : Word) (s : State) : State :=
  let t := ((s.setFld (Reg.mregBase k) (field v 0 16)).setFld (Reg.mregSize k) (field v 16 16)).setFld (Reg.mregPartner k) (field v 32 12)
  let t := t.setFld (Reg.mregWinbase k) (field v 48 16)
  let off := Reg.mregBase k
  if s.word off.off = t.word off.off then s
  else if s.fld (Reg.mregState k) ≠ regOff ∨ 4096 ≤ field v 0 16 ∨ 4096 < field v 16 16 ∨ field v 32 12 = myChip s then
    s.raise Reg.memCfgErr
  else t

/-- Word 1 of MEM_MREGk: MODE. -/
def writeMode (k : Nat) (v : Word) (s : State) : State :=
  match field v 0 2 with
  | 0 => whenLive (stopMirror k) s
  | 1 => whenLive (startSync k) s
  | _ => s.raise Reg.memCfgErr

/-- Word 0 of MEM_MWINk: its fields change while ENABLE is 0 only (Table 07-12). DEDUCED, log entry 129. -/
def writeWindow (k : Nat) (v : Word) (s : State) : State :=
  let t := ((s.setFld (Reg.mwinHome k) (field v 0 12)).setFld (Reg.mwinBase k) (field v 16 16)).setFld (Reg.mwinOff k) (field v 32 16)
  let t := t.setFld (Reg.mwinSize k) (field v 48 16)
  if s.flag (Reg.mwinEnable k) ∧ s.word (Reg.mwinHome k).off ≠ t.word (Reg.mwinHome k).off then s.raise Reg.memCfgErr else t

/-- Word 1 of MEM_MWINk: LOCAL_OFF and ENABLE. -/
def writeWindowLocal (k : Nat) (v : Word) (s : State) : State :=
  let t := s.setFld (Reg.mwinLocal k) (field v 0 16)
  let on := v.getLsbD 16
  let changes := decide (s.fld (Reg.mwinLocal k) ≠ field v 0 16)
  if (s.flag (Reg.mwinEnable k) && changes) || (!(s.flag (Reg.mwinEnable k)) && on && windowRefused t k) then s.raise Reg.memCfgErr
  else whenLive (enableWindow k on) t

/-- MEM (Tables 07-8 to 07-12). -/
def writeMem (off : Nat) (p : Piece) (s : State) : State :=
  let v := p.onto (s.word off)
  if off = 0x1C00020 then writeMemStrike v s
  else if inArray off 0x1C02000 8 12 then whenLive (writeSet ((off - 0x1C02000) / 8) v) s
  else if inArray off 0x1C03000 0x10 16 then writeRegion ((off - 0x1C03000) / 0x10) v s
  else if inArray off 0x1C03008 0x10 16 then writeMode ((off - 0x1C03008) / 0x10) v s
  else if inArray off 0x1C04000 0x10 16 then writeWindow ((off - 0x1C04000) / 0x10) v s
  else if inArray off 0x1C04008 0x10 16 then writeWindowLocal ((off - 0x1C04008) / 0x10) v s
  else s

/-- RHS_CTRL: ENABLE = 0 suspends rehearsal (R501). -/
def writeRhsCtrl (v : Word) (s : State) : State :=
  let s := (s.setFld Reg.rhsEnable (field v 0 1)).setFld Reg.fuseArm (field v 1 1)
  if v.getLsbD 0 then s else abandonAllSlices s

/-- THM (Table 13-9): a "Capsule" register takes no direct write (R434). -/
def writeThm (off : Nat) (s : State) : State :=
  if off = 0x2100018 ∨ off = 0x2100020 ∨ off = 0x2100038 ∨ off = 0x2100048 ∨ off = 0x2100050 then refuseReg off s else s

/-- INV (Tables 15-7, 16-3). -/
def writeInv (off : Nat) (p : Piece) (s : State) : State :=
  let v := p.onto (s.word off)
  match off with
  | 0x2200010 => assignCoord (field v 0 32) s
  | 0x2200030 => onBit v 0 releaseMaster s
  | 0x2200090 => onBit v 2 returnStrike (onBit v 1 cancelStrike (onBit v 0 startStrike s))
  | _ => s

/-- A write of a register that acts. A reserved offset or a RO register discards it (R6, R8). -/
def writeAction (who : Option Who) (off : Nat) (p : Piece) (s : State) : State :=
  if off < 0x100000 then writePrm who off (p.onto 0) s
  else if off < 0x200000 then writeSec who off p s
  else if off < 0x300000 then writeMbx who off p s
  else if off < 0x400000 then s
  else if off < 0x800000 then writeLnk off p s
  else if off < 0x1000000 then writeSwc off p s
  else if off < 0x1400000 then writeCol off p s
  else if off < 0x1800000 then writeCue off p s
  else if off < 0x1C00000 then (if off = 0x1800028 then whenLive (writeTileCmd (p.onto 0)) s else s)
  else if off < 0x2000000 then writeMem off p s
  else if off < 0x2100000 then (if off = 0x2000000 then writeRhsCtrl (p.onto (s.word off)) s else s)
  else if off < 0x2200000 then writeThm off s
  else writeInv off p s

/-- Registers that work while RESET_N is low: those of the house island (R36, R525). -/
def inIsland (off : Nat) : Bool := decide (off < 0x300000) || (decide (0x2100000 ≤ off) && decide (off < 0x2200000))

/-- A block takes writes. -/
def blockLive (s : State) (off : Nat) : Bool := islandLive s && (inIsland off || !s.house.resetLow)

/-- A Prompter writes no register of SEC (R453). DEDUCED, log entry 130. -/
def prompterMay (who : Option Who) (off : Nat) : Bool := who.isNone || !(decide (0x100000 ≤ off) && decide (off < 0x200000))

/-- One piece of a write, by the host (none) or a Prompter. -/
def writePiece (who : Option Who) (off : Nat) (p : Piece) (s : State) : State :=
  if !(blockLive s off) ∨ !(prompterMay who off) then s
  else match w1cMask off with
    | some m => clearBits off m p s
    | none => match plainMask off with
      | some m => plainWrite off m p s
      | none => writeAction who off p s

/-- A write to BAR0: its pieces in ascending order (R534). -/
def writeBytes (who : Option Who) (addr : Nat) (bytes : List Byte) (s : State) : State :=
  forEach (fun x s => writePiece who x.1 x.2 s) (piecesOf addr bytes) s

/-! Reads. -/

/-- Registers that read 0: WO ones, and the send windows. -/
def readsZero (off : Nat) : Bool :=
  decide (off = 0x18 ∨ off = 0x40 ∨ off = 0x48 ∨ off = 0x50 ∨ off = 0x100078 ∨ off = 0x200040 ∨ off = 0x800400 ∨ off = 0x1400010 ∨
    off = 0x1400030 ∨ off = 0x1800028 ∨ off = 0x2100050 ∨ off = 0x2200030) ||
  (decide (0x210000 ≤ off) && decide (off < 0x218000)) || inArray off 0x1440000 8 256

/-- INV_BOOT.STAGE (R482, Table 16-3). DEDUCED, log entry 132. -/
def bootStage (s : State) : Nat :=
  let die := dieState s
  if s.fld Reg.strikeState = sdDone then 7
  else if fabricReady s then 5
  else if die = dieOn then
    (if s.fld Reg.assigned = 0 ∨ linksSettled s = false ∨ (List.range 12).any (fun c => decide (s.fld (Reg.chState c) = chTraining)) then 3
     else 4)
  else if die = dieSeqUp ∨ die = dieGhost then 2
  else if die = dieSeqDown ∨ die = dieTripped ∨ s.house.firstUp then 6
  else if (activePrompter s).isNone then 0
  else if s.house.granted then 2
  else 1

def bit01 (b : Bool) (k : Nat) : Nat := if b then 2 ^ k else 0

/-- INV_BOOT. -/
def bootWord (s : State) : Nat :=
  bootStage s + bit01 (s.flag Reg.assigned) 3 + bit01 (s.flag Reg.memOpen) 4 + bit01 (linksSettled s) 5

/-- INV_SAFE (R490, R492). -/
def safeWord (s : State) : Nat :=
  let site (st : Nat) : Bool := !(s.house.siteEn.testBit st) &&
    decide (s.fld (Reg.lnkState (linkOfSite st)) = stDisabled ∨ s.fld (Reg.lnkState (linkOfSite st)) = stDown)
  let dimm (n : Nat) : Bool := decide (s.fld (Reg.chState n) = chStruck) && !(s.house.pmicEn.testBit n)
  (List.range 20).foldl (fun v st => v + bit01 (site st) st) 0 + (List.range 12).foldl (fun v n => v + bit01 (dimm n) (20 + n)) 0 +
    bit01 (decide (s.fld Reg.strikeState = sdDone) && decide (dieState s = dieOff)) 32

/-- RHS_STATUS (R501). -/
def rhsStatus (s : State) : Nat :=
  min 2 s.rhs.slices.length + bit01 (decide (suspendCause s ≠ 0)) 2 + suspendCause s * 8

/-- The stamp and message that MBX_RXc shows the host, 0 beyond (R394, Table 12-5). -/
def rxBytes (s : State) (c : Nat) : List Byte :=
  match dirFrom s c (ptHost, 0) with
  | none => []
  | some d => match s.mailQ c (1 - d) with
    | [] => []
    | m :: _ => leBytes 2 m.data.length ++ leBytes 1 m.party ++ leBytes 1 0 ++ leBytes 2 m.chip ++ leBytes 2 m.gen ++ leBytes 3 m.seq ++
        leBytes 1 0 ++ leBytes 4 m.time ++ m.data

/-- Milliseconds of the flow grace left (THM_FLOW). -/
def graceLeft (s : State) : Nat :=
  if s.flag Reg.graceRunning then min 30000 (ceilDiv (s.power.flowEnds - s.now) ticksPerMs) else 0

/-- Registers whose value is computed from what the block holds. -/
def computed (s : State) (off : Nat) : Option Nat :=
  match off with
  | 0x100038 => some deviceId
  | 0x800318 => some (actInflight s 0)
  | 0x800320 => some (actInflight s 1)
  | 0x1400038 => some (inFlight s)
  | 0x1C00028 => some (poolInflight s)
  | 0x2000020 => some (rhsStatus s)
  | 0x2100028 => some (s.fld Reg.flowOk + s.fld Reg.graceRunning * 2 + graceLeft s * 4)
  | 0x2200080 => some (bootWord s)
  | 0x2200098 => some (safeWord s)
  | _ =>
    if inArray off 0x800200 8 4 then some (sharedInUse s ((off - 0x800200) / 8) none)
    else if 0x820000 ≤ off ∧ off < 0x820E00 ∧ off % 0x100 < 0x70 ∧ off % 8 = 0 then
      some (s.fld (Reg.credit ((off - 0x820000) / 0x100) (off % 0x100 / 8)) +
        65536 * min 65535 (reserveInUse s ((off - 0x820000) / 0x100) (off % 0x100 / 8)))
    else if inArray off 0x1401000 8 1024 then some ((s.ctr ((off - 0x1401000) / 8)).out)
    else if inArray off 0x1802000 8 240 then
      some (field (s.word off) 0 10 + 2 ^ 32 * min 65535 (reloads24 s ((off - 0x1802000) / 8)))
    else if 0x201000 ≤ off ∧ off < 0x201800 ∧ off % 0x40 = 8 then
      let c := (off - 0x201000) / 0x40
      some ((s.mailQ c 0).length + 32 * (s.mailQ c 1).length + 1024 * s.fld (Reg.lastTx c) + 65536 * s.fld (Reg.chAborted c))
    else if 0x220000 ≤ off ∧ off < 0x230000 then
      some (leNat ((padTo 0x800 (rxBytes s ((off - 0x220000) / 0x800))).drop ((off - 0x220000) % 0x800) |>.take 8))
    else none

/-- A channel's registers read 0 for a host that is no side of it (R405). -/
def hiddenChan (s : State) (off : Nat) : Bool :=
  match chanOf off with
  | none => false
  | some c => !(hostSide s c)

/-- The value of a word of BAR0 to the host. -/
def readWord (s : State) (off : Nat) : Word :=
  if readsZero off || hiddenChan s off then 0
  else match computed s off with
    | some v => BitVec.ofNat 64 v
    | none => s.word off

/-- A read of a word: MBX_SEM_n acquires (R401), every other changes nothing. -/
def readBar (off : Nat) (s : State) : Word × State :=
  if inArray off 0x200800 8 64 then
    let r := acquireSem ((off - 0x200800) / 8) (masterName s 1 0) s
    (BitVec.ofNat 64 r.1, r.2)
  else (readWord s off, s)

/-- Reads of consecutive words. -/
def readBars : Nat → Nat → State → List Byte × State
  | 0, _, s => ([], s)
  | n + 1, off, s =>
    let r := readBar off s
    let t := readBars n (off + 8) r.2
    (leBytes 8 r.1.toNat ++ t.1, t.2)

/-- A read of `n` bytes at an address (R534): the naturally aligned 8-byte pieces that it touches, in ascending order, of which it takes
its own bytes. -/
def readBytes (addr n : Nat) (s : State) : List Byte × State :=
  if n = 0 then ([], s)
  else
    let r := readBars ((addr + n - 1) / 8 - addr / 8 + 1) (addr / 8 * 8) s
    ((r.1.drop (addr % 8)).take n, r.2)

end Sys2Proof.Machine
end

