-- ==== Sys2Proof/Machine/RegCommands.lean ====
section
/-! DEFINITION. Commands that write and read registers: a Prompter's write at an output stage (R378), REG_READ and REG_WRITE (R477), a
write of BAR0 (R534). -/
namespace Sys2Proof.Machine

/-- What an accepted side effect of a Prompter does (R369, Table 12-3). -/
def sideEffect (who : Who) (e : SideEffect) (s : State) : State :=
  match e with
  | .reg a bs => writeBytes (some who) a bs s
  | .message bs => emit (.stageMessage bs) s
  | .mailSend c bs => prompterSend c bs s
  | .mailPop c => popFor c ptPrompter s
  | .semAcquire n =>
    let r := acquireSem n (masterName s 0 0) s
    intake (.semaphore r.1) r.2
  | .semRelease n => (releaseSem n (masterName s 0 0) s).2

/-- A stage judges a write and applies or discards it (R378). -/
def stageWrite (who : Who) (k claim seq : Nat) (e : SideEffect) (s : State) : State :=
  match stageJudge s k claim seq with
  | .claimLow => s.count (Reg.claimLow k)
  | .dup => s.count (Reg.osDup k)
  | .gap => s.count (Reg.osGap k)
  | .take => sideEffect who e (stageAccept k e s)

/-- The ACTIVE Prompter sends the next of its own writes again after a warm takeover, with its claim (R383 step 2). DEDUCED, log
entry 54. -/
def resendOne (s : State) : State :=
  match activePrompter s with
  | none => s
  | some w =>
    match (s.prompter w).resend with
    | [] => s
    | (k, seq, e) :: t => stageWrite w k (s.fld Reg.cbClaim) seq e (s.modPrompter w (fun p => { p with resend := t }))

/-- A Prompter that executes the stream keeps what it writes (R383). DEDUCED, log entry 131. -/
def keepOwn (who : Who) (k seq : Nat) (e : SideEffect) (s : State) : State := if beats s who then keepWrite who k seq e s else s

/-- A Prompter writes through an output stage (R369, R378); writes sent again after a takeover come this way too. DEDUCED, log
entry 54. -/
def execStageWrite (who : Who) (k : Fin 8) (claim seq : Fin 4294967296) (effect : SideEffect) (s : State) :
    Host.Outcome State Fault Refusal :=
  .next (if islandLive s ∧ prompterRail s who then stageWrite who k claim seq effect (keepOwn who k seq effect s) else s)

/-- Bytes of BAR0 (R9). -/
def barBytes : Nat := 2 ^ 26

/-- REG_READ (R476, R477). DEDUCED, log entry 124. DEDUCED, log entry 133. -/
def takeRegRead (p : Port) (off words : Nat) (s : State) : State :=
  if off % 8 ≠ 0 ∨ words = 0 ∨ 64 < words ∨ barBytes < off + 8 * words then vendorAnswer p 3 mcBad [] s
  else
    let r := readBytes off (8 * words) s
    vendorAnswer p 3 mcOk r.1 r.2

def execRegRead (p : Port) (off words : Nat) (s : State) : Host.Outcome State Fault Refusal :=
  .next (if islandLive s then
      orRelay p mtVendor vcRegRead (leBytes 4 off ++ leBytes 1 words) (fun s => if portReady s p then takeRegRead p off words s else s) s else s)

/-- REG_WRITE, which only the host may send (R476, R477). -/
def takeRegWrite (p : Port) (off : Nat) (value : Word) (s : State) : State :=
  if p = .rack then vendorAnswer p 4 mcDenied [] s
  else if off % 8 ≠ 0 ∨ barBytes ≤ off then vendorAnswer p 4 mcBad [] s
  else vendorAnswer p 4 mcOk [] (writeBytes none off (leBytes 8 value.toNat) s)

def execRegWrite (p : Port) (off : Nat) (value : Word) (s : State) : Host.Outcome State Fault Refusal :=
  .next (if islandLive s then
      orRelay p mtVendor 4 (leBytes 4 off ++ List.replicate 4 0 ++ leBytes 8 value.toNat)
        (fun s => if portReady s p then takeRegWrite p off value s else s) s else s)

def execRegisterWrite (addr : Fin 67108864) (bytes : List Byte) (s : State) : Host.Outcome State Fault Refusal :=
  .next (if islandLive s then writeBytes none addr (bytes.take (barBytes - addr)) s else s)

end Sys2Proof.Machine
end

