-- ==== Sys2Proof/Machine/Dispatch.lean ====
section
/-! DEFINITION. The effect of a command on everything but the queue, one arm for each constructor. -/
namespace Sys2Proof.Machine

def exec (i : Instr) (s : State) : Host.Outcome State Fault Refusal :=
  match i with
  | .powerOn mv slot ironHigh flowOk => Sys2Proof.Machine.execPowerOn mv slot ironHigh flowOk s
  | .inputLoss mv => Sys2Proof.Machine.execInputLoss mv s
  | .inputUndervoltage mv => Sys2Proof.Machine.execInputUndervoltage mv s
  | .inputOvervoltage mv => Sys2Proof.Machine.execInputOvervoltage mv s
  | .inputReclose mv slot ironHigh flowOk => Sys2Proof.Machine.execInputReclose mv slot ironHigh flowOk s
  | .resetRelease slot => Sys2Proof.Machine.execResetRelease slot s
  | .dozeIdleExpiry u => Sys2Proof.Machine.execDozeIdleExpiry u s
  | .darkIdleExpiry u => Sys2Proof.Machine.execDarkIdleExpiry u s
  | .unitWakeComplete u => Sys2Proof.Machine.execUnitWakeComplete u s
  | .rampGovernorTick demand mv current work => Sys2Proof.Machine.execRampGovernorTick demand mv current work s
  | .trayMasterElection others => Sys2Proof.Machine.execTrayMasterElection others s
  | .trayMasterLost others => Sys2Proof.Machine.execTrayMasterLost others s
  | .flitReceive l symbols => Sys2Proof.Machine.execFlitReceive l symbols s
  | .nakResendTimeout l => Sys2Proof.Machine.execNakResendTimeout l s
  | .retryLimitReached l => Sys2Proof.Machine.execRetryLimitReached l s
  | .laneOutOfLock l lane => Sys2Proof.Machine.execLaneOutOfLock l lane s
  | .egressFlitSlot l => Sys2Proof.Machine.execEgressFlitSlot l s
  | .fastRetrain l => Sys2Proof.Machine.execFastRetrain l s
  | .fastRetrainComplete l ack => Sys2Proof.Machine.execFastRetrainComplete l ack s
  | .fastRetrainFail l => Sys2Proof.Machine.execFastRetrainFail l s
  | .retrainRequestReceive l => Sys2Proof.Machine.execRetrainRequestReceive l s
  | .downMessageReceive l cause => Sys2Proof.Machine.execDownMessageReceive l cause s
  | .farEndDetected l => Sys2Proof.Machine.execFarEndDetected l s
  | .eqComplete l => Sys2Proof.Machine.execEqComplete l s
  | .alignComplete l rtt => Sys2Proof.Machine.execAlignComplete l rtt s
  | .cfgReceive l cfg => Sys2Proof.Machine.execCfgReceive l cfg s
  | .cfgResendTick l => Sys2Proof.Machine.execCfgResendTick l s
  | .configComplete l => Sys2Proof.Machine.execConfigComplete l s
  | .trainingTimeout l => Sys2Proof.Machine.execTrainingTimeout l s
  | .cartridgeInsert site => Sys2Proof.Machine.execCartridgeInsert site s
  | .hotplugDebounceExpiry site => Sys2Proof.Machine.execHotplugDebounceExpiry site s
  | .cartIdReadComplete site eeprom => Sys2Proof.Machine.execCartIdReadComplete site eeprom s
  | .cartIdTimeout site => Sys2Proof.Machine.execCartIdTimeout site s
  | .sitePowerGood site => Sys2Proof.Machine.execSitePowerGood site s
  | .cartridgeRemove site => Sys2Proof.Machine.execCartridgeRemove site s
  | .laneSubRequest l lane => Sys2Proof.Machine.execLaneSubRequest l lane s
  | .laneSubReceive l lane => Sys2Proof.Machine.execLaneSubReceive l lane s
  | .laneSubComma l => Sys2Proof.Machine.execLaneSubComma l s
  | .subWindowEnd l => Sys2Proof.Machine.execSubWindowEnd l s
  | .laneFailureNoSwing l lane => Sys2Proof.Machine.execLaneFailureNoSwing l lane s
  | .linkRetrain l => Sys2Proof.Machine.execLinkRetrain l s
  | .linkRetrainFull l => Sys2Proof.Machine.execLinkRetrainFull l s
  | .linkDisable l => Sys2Proof.Machine.execLinkDisable l s
  | .linkEnable l => Sys2Proof.Machine.execLinkEnable l s
  | .loopModeWrite l mode lane => Sys2Proof.Machine.execLoopModeWrite l mode lane s
  | .farLoopRequest l lane => Sys2Proof.Machine.execFarLoopRequest l lane s
  | .frameIngress l => Sys2Proof.Machine.execFrameIngress l s
  | .fenceRelease stor => Sys2Proof.Machine.execFenceRelease stor s
  | .frameAgeExpiry stor port => Sys2Proof.Machine.execFrameAgeExpiry stor port s
  | .portGraceExpiry l => Sys2Proof.Machine.execPortGraceExpiry l s
  | .escapeWaitExpiry stor => Sys2Proof.Machine.execEscapeWaitExpiry stor s
  | .sprayHoldExpiry chip port cls seq => Sys2Proof.Machine.execSprayHoldExpiry chip port cls seq s
  | .sprayStreamExpiry chip port cls => Sys2Proof.Machine.execSprayStreamExpiry chip port cls s
  | .actSeal act => Sys2Proof.Machine.execActSeal act s
  | .actArm act => Sys2Proof.Machine.execActArm act s
  | .actRetire act => Sys2Proof.Machine.execActRetire act s
  | .actRetireTimer act => Sys2Proof.Machine.execActRetireTimer act s
  | .e2eTimeoutExpiry tag => Sys2Proof.Machine.execE2eTimeoutExpiry tag s
  | .responseReceive f => Sys2Proof.Machine.execResponseReceive f s
  | .circuitNoticeReceive f => Sys2Proof.Machine.execCircuitNoticeReceive f s
  | .pmicPowerGood n spd => Sys2Proof.Machine.execPmicPowerGood n spd s
  | .pmicTimeout n spd => Sys2Proof.Machine.execPmicTimeout n spd s
  | .channelTrainingComplete n ok => Sys2Proof.Machine.execChannelTrainingComplete n ok s
  | .memSetWrite k value => Sys2Proof.Machine.execMemSetWrite k value s
  | .setZeroingComplete k => Sys2Proof.Machine.execSetZeroingComplete k s
  | .poolRequest f errs => Sys2Proof.Machine.execPoolRequest f errs s
  | .mirrorWriteReceive f => Sys2Proof.Machine.execMirrorWriteReceive f s
  | .mirrorAckReceive id => Sys2Proof.Machine.execMirrorAckReceive id s
  | .mirrorSyncStart k => Sys2Proof.Machine.execMirrorSyncStart k s
  | .mirrorSyncComplete k => Sys2Proof.Machine.execMirrorSyncComplete k s
  | .mirrorOff k => Sys2Proof.Machine.execMirrorOff k s
  | .windowEnable k on => Sys2Proof.Machine.execWindowEnable k on s
  | .ddrScrubLine c line err => Sys2Proof.Machine.execDdrScrubLine c line err s
  | .scrubWake c => Sys2Proof.Machine.execScrubWake c s
  | .deviceMark c sub device => Sys2Proof.Machine.execDeviceMark c sub device s
  | .channelStrike c => Sys2Proof.Machine.execChannelStrike c s
  | .channelReturn c => Sys2Proof.Machine.execChannelReturn c s
  | .channelFail c cause => Sys2Proof.Machine.execChannelFail c cause s
  | .hostMemAccess write addr enables bytes err => Sys2Proof.Machine.execHostMemAccess write addr enables bytes err s
  | .hdmCommit d base size skip ways lock => Sys2Proof.Machine.execHdmCommit d base size skip ways lock s
  | .tileSwingCmd p => Sys2Proof.Machine.execTileSwingCmd p s
  | .tileRetireCmd p => Sys2Proof.Machine.execTileRetireCmd p s
  | .tileReturnCmd p => Sys2Proof.Machine.execTileReturnCmd p s
  | .tileReloadThreshold p => Sys2Proof.Machine.execTileReloadThreshold p s
  | .rowSwing row => Sys2Proof.Machine.execRowSwing row s
  | .scratchpadRequest f errs => Sys2Proof.Machine.execScratchpadRequest f errs s
  | .spScrub word err => Sys2Proof.Machine.execSpScrub word err s
  | .rangeZeroingComplete base => Sys2Proof.Machine.execRangeZeroingComplete base s
  | .tensorInstructionComplete id reloads => Sys2Proof.Machine.execTensorInstructionComplete id reloads s
  | .tensorLateFault id word => Sys2Proof.Machine.execTensorLateFault id word s
  | .programLoad off => Sys2Proof.Machine.execProgramLoad off s
  | .programUnload n => Sys2Proof.Machine.execProgramUnload n s
  | .cueStoreHostWrite off bytes => Sys2Proof.Machine.execCueStoreHostWrite off bytes s
  | .cueStoreRequest f => Sys2Proof.Machine.execCueStoreRequest f s
  | .statusPageRequest f => Sys2Proof.Machine.execStatusPageRequest f s
  | .triggerEnable t on => Sys2Proof.Machine.execTriggerEnable t on s
  | .timerFire t => Sys2Proof.Machine.execTimerFire t s
  | .contextStart q => Sys2Proof.Machine.execContextStart q s
  | .seqKill q => Sys2Proof.Machine.execSeqKill q s
  | .seqDisable q on => Sys2Proof.Machine.execSeqDisable q on s
  | .counterClear c => Sys2Proof.Machine.execCounterClear c s
  | .quarantineComplete u => Sys2Proof.Machine.execQuarantineComplete u s
  | .nop q => Sys2Proof.Machine.execNop q s
  | .bra q => Sys2Proof.Machine.execBra q s
  | .brc q => Sys2Proof.Machine.execBrc q s
  | .callTo q => Sys2Proof.Machine.execCallTo q s
  | .ret q => Sys2Proof.Machine.execRet q s
  | .waitcSettled q => Sys2Proof.Machine.execWaitcSettled q s
  | .waitcProgress q => Sys2Proof.Machine.execWaitcProgress q s
  | .waitcSettledClear q => Sys2Proof.Machine.execWaitcSettledClear q s
  | .waitcTimeout q => Sys2Proof.Machine.execWaitcTimeout q s
  | .sigc q => Sys2Proof.Machine.execSigc q s
  | .dozeSelf q => Sys2Proof.Machine.execDozeSelf q s
  | .dozeSelfCtr q => Sys2Proof.Machine.execDozeSelfCtr q s
  | .dozeWake q => Sys2Proof.Machine.execDozeWake q s
  | .dozeTiles q => Sys2Proof.Machine.execDozeTiles q s
  | .dozeEngines q => Sys2Proof.Machine.execDozeEngines q s
  | .fence q => Sys2Proof.Machine.execFence q s
  | .trap q => Sys2Proof.Machine.execTrap q s
  | .halt q => Sys2Proof.Machine.execHalt q s
  | .adds q => Sys2Proof.Machine.execAdds q s
  | .subs q => Sys2Proof.Machine.execSubs q s
  | .muls q => Sys2Proof.Machine.execMuls q s
  | .ands q => Sys2Proof.Machine.execAnds q s
  | .ors q => Sys2Proof.Machine.execOrs q s
  | .xors q => Sys2Proof.Machine.execXors q s
  | .shls q => Sys2Proof.Machine.execShls q s
  | .shrs q => Sys2Proof.Machine.execShrs q s
  | .ldis q => Sys2Proof.Machine.execLdis q s
  | .movs q => Sys2Proof.Machine.execMovs q s
  | .cmps q => Sys2Proof.Machine.execCmps q s
  | .lds q => Sys2Proof.Machine.execLds q s
  | .sts q => Sys2Proof.Machine.execSts q s
  | .dset q => Sys2Proof.Machine.execDset q s
  | .dadd q => Sys2Proof.Machine.execDadd q s
  | .dcopyReg q => Sys2Proof.Machine.execDcopyReg q s
  | .dcopyLoad q => Sys2Proof.Machine.execDcopyLoad q s
  | .dcopyStore q => Sys2Proof.Machine.execDcopyStore q s
  | .pfetch q => Sys2Proof.Machine.execPfetch q s
  | .pspill q => Sys2Proof.Machine.execPspill q s
  | .alloc q => Sys2Proof.Machine.execAlloc q s
  | .freeI q => Sys2Proof.Machine.execFreeI q s
  | .mma q => Sys2Proof.Machine.execMma q s
  | .mmas q => Sys2Proof.Machine.execMmas q s
  | .mmag q => Sys2Proof.Machine.execMmag q s
  | .ewa q => Sys2Proof.Machine.execEwa q s
  | .ewf q => Sys2Proof.Machine.execEwf q s
  | .red q => Sys2Proof.Machine.execRed q s
  | .norm q => Sys2Proof.Machine.execNorm q s
  | .smax q => Sys2Proof.Machine.execSmax q s
  | .topk q => Sys2Proof.Machine.execTopk q s
  | .gate q => Sys2Proof.Machine.execGate q s
  | .qnt q => Sys2Proof.Machine.execQnt q s
  | .cvt q => Sys2Proof.Machine.execCvt q s
  | .copy q => Sys2Proof.Machine.execCopy q s
  | .gatheri q => Sys2Proof.Machine.execGatheri q s
  | .sample q => Sys2Proof.Machine.execSample q s
  | .cueReduce q => Sys2Proof.Machine.execCueReduce q s
  | .cueScatter q => Sys2Proof.Machine.execCueScatter q s
  | .cueGather q => Sys2Proof.Machine.execCueGather q s
  | .cueExchange q => Sys2Proof.Machine.execCueExchange q s
  | .cueRoute q => Sys2Proof.Machine.execCueRoute q s
  | .cueMerge q => Sys2Proof.Machine.execCueMerge q s
  | .cueBroadcast q => Sys2Proof.Machine.execCueBroadcast q s
  | .cueSelect q => Sys2Proof.Machine.execCueSelect q s
  | .curtain q => Sys2Proof.Machine.execCurtain q s
  | .aside q => Sys2Proof.Machine.execAside q s
  | .groupWordHold g j value => Sys2Proof.Machine.execGroupWordHold g j value s
  | .groupCommit g value => Sys2Proof.Machine.execGroupCommit g value s
  | .colContribReceive f => Sys2Proof.Machine.execColContribReceive f s
  | .colResultReceive f => Sys2Proof.Machine.execColResultReceive f s
  | .retractReceive f => Sys2Proof.Machine.execRetractReceive f s
  | .verifiedReceive f => Sys2Proof.Machine.execVerifiedReceive f s
  | .releaseReceive f => Sys2Proof.Machine.execReleaseReceive f s
  | .countReceive f => Sys2Proof.Machine.execCountReceive f s
  | .chunkSum id stage chunk => Sys2Proof.Machine.execChunkSum id stage chunk s
  | .chunkVerdict id stage chunk pass lane => Sys2Proof.Machine.execChunkVerdict id stage chunk pass lane s
  | .adderLaneSwing e lane => Sys2Proof.Machine.execAdderLaneSwing e lane s
  | .groupTimeout id => Sys2Proof.Machine.execGroupTimeout id s
  | .asideReceive f => Sys2Proof.Machine.execAsideReceive f s
  | .abortNoticeReceive f => Sys2Proof.Machine.execAbortNoticeReceive f s
  | .intakeInput input => Sys2Proof.Machine.execIntakeInput input s
  | .stageWrite who k claim seq effect => Sys2Proof.Machine.execStageWrite who k claim seq effect s
  | .prompterHeartbeat who => Sys2Proof.Machine.execPrompterHeartbeat who s
  | .heartbeatWindowEnd votes => Sys2Proof.Machine.execHeartbeatWindowEnd votes s
  | .prompterFatal who votes => Sys2Proof.Machine.execPrompterFatal who votes s
  | .prompterRailDrop who votes => Sys2Proof.Machine.execPrompterRailDrop who votes s
  | .prompterJoin a b votes => Sys2Proof.Machine.execPrompterJoin a b votes s
  | .prompterResetRelease who => Sys2Proof.Machine.execPrompterResetRelease who s
  | .prompterRelease who => Sys2Proof.Machine.execPrompterRelease who s
  | .checkpointComplete body => Sys2Proof.Machine.execCheckpointComplete body s
  | .checkpointAdopt who => Sys2Proof.Machine.execCheckpointAdopt who s
  | .mailboxHostSend c n => Sys2Proof.Machine.execMailboxHostSend c n s
  | .mailboxHostPop c => Sys2Proof.Machine.execMailboxHostPop c s
  | .mailboxMsgReceive f => Sys2Proof.Machine.execMailboxMsgReceive f s
  | .mailboxNoticeReceive f => Sys2Proof.Machine.execMailboxNoticeReceive f s
  | .mailboxResendTimeout c dir => Sys2Proof.Machine.execMailboxResendTimeout c dir s
  | .mgmtUnsupported f => Sys2Proof.Machine.execMgmtUnsupported f s
  | .semReadAcquire n => Sys2Proof.Machine.execSemReadAcquire n s
  | .semAcq f => Sys2Proof.Machine.execSemAcq f s
  | .semHostRelease n => Sys2Proof.Machine.execSemHostRelease n s
  | .semRel f => Sys2Proof.Machine.execSemRel f s
  | .semForce n => Sys2Proof.Machine.execSemForce n s
  | .railPowerGood r => Sys2Proof.Machine.execRailPowerGood r s
  | .railTimeout r => Sys2Proof.Machine.execRailTimeout r s
  | .flowGraceExpiry high => Sys2Proof.Machine.execFlowGraceExpiry high s
  | .diodeSample readings => Sys2Proof.Machine.execDiodeSample readings s
  | .thermalLevelFall w => Sys2Proof.Machine.execThermalLevelFall w s
  | .diodeCheck models => Sys2Proof.Machine.execDiodeCheck models s
  | .coldPlateSample inlet outlet => Sys2Proof.Machine.execColdPlateSample inlet outlet s
  | .leakTest returns wet => Sys2Proof.Machine.execLeakTest returns wet s
  | .ironClear ironHigh => Sys2Proof.Machine.execIronClear ironHigh s
  | .capsuleReceive via bytes => Sys2Proof.Machine.execCapsuleReceive via bytes s
  | .counterStoreComplete ok => Sys2Proof.Machine.execCounterStoreComplete ok s
  | .authHoldExpiry via => Sys2Proof.Machine.execAuthHoldExpiry via s
  | .fwWindowWrite off bytes => Sys2Proof.Machine.execFwWindowWrite off bytes s
  | .spdmGetCertificate p slot off len => Sys2Proof.Machine.execSpdmGetCertificate p slot off len s
  | .spdmGetMeasurements p index sign transcript => Sys2Proof.Machine.execSpdmGetMeasurements p index sign transcript s
  | .hostLinkUp offer rate32 width => Sys2Proof.Machine.execHostLinkUp offer rate32 width s
  | .getEventRecords log => Sys2Proof.Machine.execGetEventRecords log s
  | .clearEventRecords log handles => Sys2Proof.Machine.execClearEventRecords log handles s
  | .setEventInterruptPolicy vectors => Sys2Proof.Machine.execSetEventInterruptPolicy vectors s
  | .doorbellHostRing b arg => Sys2Proof.Machine.execDoorbellHostRing b arg s
  | .doorbellFrame f => Sys2Proof.Machine.execDoorbellFrame f s
  | .controllerClaim driven => Sys2Proof.Machine.execControllerClaim driven s
  | .entdaa a => Sys2Proof.Machine.execEntdaa a s
  | .rstdaa tray => Sys2Proof.Machine.execRstdaa tray s
  | .enec tray events => Sys2Proof.Machine.execEnec tray events s
  | .disec tray events => Sys2Proof.Machine.execDisec tray events s
  | .setmwl tray len => Sys2Proof.Machine.execSetmwl tray len s
  | .setmrl tray len => Sys2Proof.Machine.execSetmrl tray len s
  | .deftgts targets => Sys2Proof.Machine.execDeftgts targets s
  | .setEndpointId p eid owner => Sys2Proof.Machine.execSetEndpointId p eid owner s
  | .fwData p off bytes => Sys2Proof.Machine.execFwData p off bytes s
  | .regRead p off words => Sys2Proof.Machine.execRegRead p off words s
  | .regWrite p off value => Sys2Proof.Machine.execRegWrite p off value s
  | .heartbeat p => Sys2Proof.Machine.execHeartbeat p s
  | .alertMergeExpiry src => Sys2Proof.Machine.execAlertMergeExpiry src s
  | .coordAssign value => Sys2Proof.Machine.execCoordAssign value s
  | .rehearsalTimer w => Sys2Proof.Machine.execRehearsalTimer w s
  | .sliceEnd w signature => Sys2Proof.Machine.execSliceEnd w signature s
  | .pmcCounterWrite n value => Sys2Proof.Machine.execPmcCounterWrite n value s
  | .pmcReadFrame f => Sys2Proof.Machine.execPmcReadFrame f s
  | .registerWrite addr bytes => Sys2Proof.Machine.execRegisterWrite addr bytes s
  | .spdmGetVersion p request => Sys2Proof.Machine.execSpdmGetVersion p request s
  | .spdmGetCapabilities p request => Sys2Proof.Machine.execSpdmGetCapabilities p request s
  | .spdmNegotiateAlgorithms p request => Sys2Proof.Machine.execSpdmNegotiateAlgorithms p request s
  | .spdmGetDigests p request => Sys2Proof.Machine.execSpdmGetDigests p request s
  | .spdmUnsupported p code => Sys2Proof.Machine.execSpdmUnsupported p code s
  | .mailboxCmdUnsupported opcode => Sys2Proof.Machine.execMailboxCmdUnsupported opcode s
  | .getpid tray => Sys2Proof.Machine.execGetpid tray s
  | .getbcr tray => Sys2Proof.Machine.execGetbcr tray s
  | .getdcr tray => Sys2Proof.Machine.execGetdcr tray s
  | .getstatus tray => Sys2Proof.Machine.execGetstatus tray s
  | .getmwl tray => Sys2Proof.Machine.execGetmwl tray s
  | .getmrl tray => Sys2Proof.Machine.execGetmrl tray s
  | .getaccmst incoming => Sys2Proof.Machine.execGetaccmst incoming s
  | .getEndpointId p => Sys2Proof.Machine.execGetEndpointId p s
  | .getMctpVersionSupport p => Sys2Proof.Machine.execGetMctpVersionSupport p s
  | .getMessageTypeSupport p => Sys2Proof.Machine.execGetMessageTypeSupport p s
  | .getVendorMessageSupport p => Sys2Proof.Machine.execGetVendorMessageSupport p s
  | .getRoutingTableEntries p => Sys2Proof.Machine.execGetRoutingTableEntries p s
  | .vendorBad p cmd => Sys2Proof.Machine.execVendorBad p cmd s
  | .overvoltageExcursionExpiry => Sys2Proof.Machine.execOvervoltageExcursionExpiry s
  | .chipReset => Sys2Proof.Machine.execChipReset s
  | .houseClkLoss => Sys2Proof.Machine.execHouseClkLoss s
  | .houseClkReturn => Sys2Proof.Machine.execHouseClkReturn s
  | .houseClkHoldoverExpiry => Sys2Proof.Machine.execHouseClkHoldoverExpiry s
  | .reorderDisable => Sys2Proof.Machine.execReorderDisable s
  | .clearStaged => Sys2Proof.Machine.execClearStaged s
  | .planCommit => Sys2Proof.Machine.execPlanCommit s
  | .actSwap => Sys2Proof.Machine.execActSwap s
  | .filterMoveComplete => Sys2Proof.Machine.execFilterMoveComplete s
  | .programLoadComplete => Sys2Proof.Machine.execProgramLoadComplete s
  | .handover => Sys2Proof.Machine.execHandover s
  | .checkpointStart => Sys2Proof.Machine.execCheckpointStart s
  | .checkpointAbandon => Sys2Proof.Machine.execCheckpointAbandon s
  | .powerOrderOff => Sys2Proof.Machine.execPowerOrderOff s
  | .powerOrderOn => Sys2Proof.Machine.execPowerOrderOn s
  | .powerOrderCap => Sys2Proof.Machine.execPowerOrderCap s
  | .powerOrderHold => Sys2Proof.Machine.execPowerOrderHold s
  | .powerOrderRelease => Sys2Proof.Machine.execPowerOrderRelease s
  | .trayGrant => Sys2Proof.Machine.execTrayGrant s
  | .grantTimeout => Sys2Proof.Machine.execGrantTimeout s
  | .diePowerUp => Sys2Proof.Machine.execDiePowerUp s
  | .diePowerDown => Sys2Proof.Machine.execDiePowerDown s
  | .pwrWarnFall => Sys2Proof.Machine.execPwrWarnFall s
  | .pwrWarnClear => Sys2Proof.Machine.execPwrWarnClear s
  | .flowLoss => Sys2Proof.Machine.execFlowLoss s
  | .flowClear => Sys2Proof.Machine.execFlowClear s
  | .ghostLightHoldExpiry => Sys2Proof.Machine.execGhostLightHoldExpiry s
  | .rmHeartbeatTimeout => Sys2Proof.Machine.execRmHeartbeatTimeout s
  | .rmFallback => Sys2Proof.Machine.execRmFallback s
  | .leakWet => Sys2Proof.Machine.execLeakWet s
  | .leakGraceExpiry => Sys2Proof.Machine.execLeakGraceExpiry s
  | .ironTrip => Sys2Proof.Machine.execIronTrip s
  | .leakClear => Sys2Proof.Machine.execLeakClear s
  | .diodesClear => Sys2Proof.Machine.execDiodesClear s
  | .safetyConfig => Sys2Proof.Machine.execSafetyConfig s
  | .keyInstall => Sys2Proof.Machine.execKeyInstall s
  | .keyClear => Sys2Proof.Machine.execKeyClear s
  | .fwUpdateOpen => Sys2Proof.Machine.execFwUpdateOpen s
  | .fwUpdateVerify => Sys2Proof.Machine.execFwUpdateVerify s
  | .fwUpdateActivate => Sys2Proof.Machine.execFwUpdateActivate s
  | .fwUpdateRaiseSvn => Sys2Proof.Machine.execFwUpdateRaiseSvn s
  | .fwUpdateAbort => Sys2Proof.Machine.execFwUpdateAbort s
  | .bootVerify => Sys2Proof.Machine.execBootVerify s
  | .hostLinkDown => Sys2Proof.Machine.execHostLinkDown s
  | .perstAssert => Sys2Proof.Machine.execPerstAssert s
  | .getEventInterruptPolicy => Sys2Proof.Machine.execGetEventInterruptPolicy s
  | .getFwInfo => Sys2Proof.Machine.execGetFwInfo s
  | .getSupportedLogs => Sys2Proof.Machine.execGetSupportedLogs s
  | .getLog => Sys2Proof.Machine.execGetLog s
  | .identifyMemoryDevice => Sys2Proof.Machine.execIdentifyMemoryDevice s
  | .getPartitionInfo => Sys2Proof.Machine.execGetPartitionInfo s
  | .getHealthInfo => Sys2Proof.Machine.execGetHealthInfo s
  | .hotJoin => Sys2Proof.Machine.execHotJoin s
  | .controllerLost => Sys2Proof.Machine.execControllerLost s
  | .handoffTimeout => Sys2Proof.Machine.execHandoffTimeout s
  | .trayMasterRelease => Sys2Proof.Machine.execTrayMasterRelease s
  | .strikeStart => Sys2Proof.Machine.execStrikeStart s
  | .strikeDrainEnd => Sys2Proof.Machine.execStrikeDrainEnd s
  | .strikeCancel => Sys2Proof.Machine.execStrikeCancel s
  | .strikeReturn => Sys2Proof.Machine.execStrikeReturn s
  | .inventoryTick => Sys2Proof.Machine.execInventoryTick s
  | .fusePass => Sys2Proof.Machine.execFusePass s
  | .fusePassComplete => Sys2Proof.Machine.execFusePassComplete s
  | .pmcMirrorTick => Sys2Proof.Machine.execPmcMirrorTick s
  | .diePowerDownComplete => Sys2Proof.Machine.execDiePowerDownComplete s
  | .staggerGrant => Sys2Proof.Machine.execStaggerGrant s

end Sys2Proof.Machine
end

