-- ==== Sys2Proof/Machine/Tick.lean ====
section
/-! DEFINITION. One house-clock period of 40 ns with no command waiting (R38, log entry 21): what the block does on its own. -/
namespace Sys2Proof.Machine

/-- INV_READY_TIME: PRM_TIME when first fabric-ready (Table 16-3). -/
def noteReady (s : State) : State :=
  if s.fld Reg.readyTime = 0 ∧ fabricReady s then s.setFld Reg.readyTime s.now else s

/-- One piece of the first copy that has one to send (R215). -/
def copyPiece (s : State) : State :=
  match s.mem.syncs.find? (fun y => !y.busy && !y.doneSent) with
  | none => s
  | some y => syncStep y s

/-- Tensor-clock cycles of a period: the tiles run at half rate at L1 (R40). -/
def tileCycles (s : State) : Nat := if s.flag Reg.tenHalf then cyclesPerTick / 2 else cyclesPerTick

/-- Cycles of the switch core and of the memory controller in a period: 1.6 GHz over 25 MHz (R39). -/
def coreCycles : Nat := 64

/-- Links and VCs with a cell ready and no credit for it (R114). -/
def creditStalls (s : State) : List Nat :=
  (s.swc.queue.filter (fun q => decide (q.port < 14 ∧ q.sent = 0) && decide (s.fld (Reg.credit q.port q.vc) < Frame.cells q.frame))).map
    (fun q => q.port * 14 + q.vc) |>.eraseDups

/-- Requests queued for a channel. -/
def channelQueue (s : State) (c : Nat) : Nat :=
  (s.swc.inbox.filter (fun h => isPoolRequest h.frame &&
    spanOnChan s c (Frame.addr h.frame) (max 16 h.frame.payload.length))).length +
  (s.mem.hostWait.filter (fun r => spanOnChan s c r.off 64)).length

/-- The events of Table 17-8 that count cycles pass a period. DESIGN CHOICE, log entry 55. -/
def countCycles (s : State) : State :=
  let c := tileCycles s
  let s := forEach (fun q s => pmcEvent evSeqStall q cyclesPerTick s)
    ((List.range 64).filter (fun q => decide (s.fld (Reg.seqSt q) = sqStalled))) s
  let s := forEach (fun n s => pmcEvent evTileBusy n c s)
    ((s.ten.flights.filter (fun f => !(flightBlocked s f))).flatMap (fun f => workLogical s f.oper)).eraseDups s
  let s := if s.power.loadTiles.isEmpty then s else pmcEvent evBusinessLoad 0 (c * s.power.loadTiles.length) s
  let s := forEach (fun u s => pmcEvent evCreditStall u coreCycles s) (creditStalls s) s
  forEach (fun ch s =>
    let n := channelQueue s ch
    if n = 0 then s else pmcEvent evDdrQueue ch (n * coreCycles) s) (List.range 12) s

/-- One period: the clock and what is sent with it. -/
def tick (s : State) : State :=
  if s.house.input then
    let s := countCycles (pmcEvent evHouseTicks 0 1 (s.setFld Reg.time (s.now + 1)))
    let s := sendMboxNotice (sendAlert (pollTargets (resendOne (countAttempts s))))
    let s := settleSites (pmicStep (copyPiece (startFlights s)))
    let s := countSlotWaits (serveHost (admitCircuits (serveInternal s)))
    noteReady (resumeAll s)
  else s

end Sys2Proof.Machine
end

