-- ==== Sys2Proof/Machine/Step.lean ====
section
/-! DEFINITION. One step: the command at the front of the queue, run on the state with the queue's rest; with an empty queue, one
house-clock period. -/
namespace Sys2Proof.Machine

/-- Put a list of commands in the queue. -/
def State.withQueue (s : State) (q : List Instr) : State := { s with pending := q }

/-- One step of the block. DESIGN CHOICE, log entry 1. -/
def step (s : State) : Host.Outcome State Fault Refusal :=
  match s.pending with
  | [] => .next (tick s)
  | c :: rest => exec c (s.withQueue rest)

/-- The command that a word spells is put at the front of the queue; no row of the table has bits, so none is spelled. DESIGN CHOICE,
log entry 135. -/
def State.withFetchWord (s : State) (nbits w : Nat) : State :=
  match decodeTableWord nbits w with
  | none => s
  | some c => s.withQueue (c :: s.pending)

end Sys2Proof.Machine
end

