-- ==== Sys2Proof/Safety.lean ====
section
/-! DEFINITION. What counts as a safe run: the block stops neither with a fault nor with a refusal. -/
namespace Sys2Proof

/-- A step that goes on. -/
def goesOn (s : Machine.State) : Prop := ∃ t, Machine.step s = .next t

/-- Every command that waits, and every period after them, goes on for `n` steps. -/
def safeFor : Nat → Machine.State → Prop
  | 0, _ => True
  | n + 1, s => ∃ t, Machine.step s = .next t ∧ safeFor n t

/-- Nothing waits at the sequencers: no instruction is STALLED or WAITING, no fire is pending, no DOZE is outstanding and no transfer has
a piece to send. -/
def quiet (s : Machine.State) : Bool :=
  (List.range 64).all (fun q => decide (s.fld (Machine.Reg.seqSt q) ≠ Machine.sqStalled ∧ s.fld (Machine.Reg.seqSt q) ≠ Machine.sqWaiting)) &&
  (List.range 1024).all (fun t => decide (s.fld (Machine.Reg.trigPending t) = 0)) && decide (s.cue.drowsy = []) && s.cue.xfers.all (fun x => !(Machine.Xfer.sends x))

/-- The sequencer runs, the word at its PC is legal and its predicate holds. -/
def issues (s : Machine.State) (q : Nat) : Bool :=
  let w := Machine.fetchWord s q
  Machine.linksLive s && Machine.seqReady s q && decide (s.fld (Machine.Reg.seqSt q) = Machine.sqRunning) && Machine.Isa.legal w &&
  ((s.theCtx q).preg (Machine.Isa.pred w) != decide (Machine.Isa.pneg w = 1))

/-- An instruction follows the one at a sequencer's PC. -/
def follows (s : Machine.State) (q : Nat) : Bool := decide (s.fld (Machine.Reg.seqPc q) + 1 < Machine.insnsOf s q)

/-- A sequencer runs on at a PC with a context. -/
def runsOn (t : Machine.State) (q pc : Nat) (c : Machine.Ctx) : Bool :=
  decide (t.ctx q = some { c with stall := 0, until_ := 0, refusal := 0 }) && decide (t.fld (Machine.Reg.seqSt q) = Machine.sqRunning) &&
  decide (t.fld (Machine.Reg.seqPc q) = pc % 2 ^ 20)

/-- Every register word but those at the named offsets, and but the performance counters of chapter 17, reads as it read (a word
that neither state lists reads as its reset value in both). -/
def onlyRegs (offs : List Nat) (s t : Machine.State) : Bool :=
  (s.regs ++ t.regs).all fun e =>
    offs.contains e.1 || decide (0x300000 ≤ e.1 ∧ e.1 < 0x400000) || decide (t.word e.1 = s.word e.1)

/-- A part of the machine beside its queue and its ordering code. -/
inductive Part where
  /-- Every register word. -/
  | regs
  /-- The pins and the power input. -/
  | house
  /-- What the links hold beside their registers. -/
  | links
  /-- The connector sites. -/
  | sites
  /-- The switch core. -/
  | swc
  /-- The memory pool. -/
  | mem
  /-- The bytes of the pool. -/
  | dram
  /-- The tensor unit. -/
  | ten
  /-- The bytes of the scratchpad. -/
  | sp
  /-- The sequencers. -/
  | cue
  /-- The bytes of the cue store. -/
  | store
  /-- The collective engines. -/
  | col
  /-- The Call Board. -/
  | board
  /-- Mailboxes and semaphores. -/
  | mail
  /-- Power management. -/
  | power
  /-- The trust unit. -/
  | sec
  /-- The capsule keys. -/
  | keys
  /-- The host port and the tray bus. -/
  | host
  /-- The rehearsal. -/
  | rhs
  /-- The state held for each unit. -/
  | spState
  /-- The units that wake. -/
  | waking
  /-- What was sent. -/
  | outbox
  deriving DecidableEq, Repr

/-- A part holds the same in both states. -/
def Part.same (p : Part) (s t : Machine.State) : Prop :=
  match p with
  | .regs => t.regs = s.regs
  | .house => t.house = s.house
  | .links => t.links = s.links
  | .sites => t.sites = s.sites
  | .swc => t.swc = s.swc
  | .mem => t.mem = s.mem
  | .dram => t.mem.dram = s.mem.dram
  | .ten => t.ten = s.ten
  | .sp => t.ten.sp = s.ten.sp
  | .cue => t.cue = s.cue
  | .store => t.cue.store = s.cue.store
  | .col => t.col = s.col
  | .board => t.board = s.board
  | .mail => t.mail = s.mail
  | .power => t.power = s.power
  | .sec => t.sec = s.sec
  | .keys => t.sec.hostKey = s.sec.hostKey ∧ t.sec.rackKey = s.sec.rackKey
  | .host => t.host = s.host
  | .rhs => t.rhs = s.rhs
  | .spState => t.spState = s.spState
  | .waking => t.waking = s.waking
  | .outbox => t.outbox = s.outbox

/-- The parts that a command may change; every other part it leaves as it is. -/
def changes : Instr → List Part
  | .trayMasterElection .. | .trayMasterLost .. | .actSeal .. | .windowEnable .. | .deviceMark .. | .rstdaa .. | .pmcCounterWrite .. |
    .clearStaged .. | .rmFallback .. | .strikeCancel .. => [.regs]
  | .houseClkLoss .. | .houseClkReturn .. | .trayGrant .. | .grantTimeout .. => [.house]
  | .nakResendTimeout .. => [.links]
  | .hotplugDebounceExpiry .. => [.sites]
  | .escapeWaitExpiry .. | .sprayStreamExpiry .. => [.swc]
  | .hdmCommit .. => [.mem]
  | .groupWordHold .. => [.col]
  | .prompterHeartbeat .. | .checkpointStart .. => [.board]
  | .semHostRelease .. => [.mail]
  | .authHoldExpiry .. => [.sec]
  | .enec .. | .disec .. | .setmwl .. | .setmrl .. | .deftgts .. => [.host]
  | .fusePass .. => [.rhs]
  | .cfgResendTick .. | .spdmGetCertificate .. | .spdmGetMeasurements .. | .getEventRecords .. | .spdmGetVersion .. |
    .spdmGetCapabilities .. | .spdmNegotiateAlgorithms .. | .spdmGetDigests .. | .spdmUnsupported .. | .mailboxCmdUnsupported .. |
    .getpid .. | .getbcr .. | .getdcr .. | .getstatus .. | .getmwl .. | .getmrl .. | .getEndpointId .. | .getMctpVersionSupport .. |
    .getMessageTypeSupport .. | .getVendorMessageSupport .. | .getRoutingTableEntries .. | .vendorBad .. | .getEventInterruptPolicy .. |
    .getFwInfo .. | .getSupportedLogs .. | .getLog .. | .identifyMemoryDevice .. | .getPartitionInfo .. | .getHealthInfo ..
    | .hotJoin .. => [.outbox]
  | .farEndDetected .. | .eqComplete .. | .subWindowEnd .. => [.regs, .links]
  | .actArm .. | .actRetire .. | .actRetireTimer .. => [.regs, .swc]
  | .memSetWrite .. | .mirrorSyncStart .. | .mirrorSyncComplete .. => [.regs, .mem]
  | .spScrub .. => [.regs, .ten]
  | .triggerEnable .. | .counterClear .. | .programLoadComplete .. => [.regs, .cue]
  | .intakeInput .. | .prompterResetRelease .. | .prompterRelease .. | .checkpointComplete .. | .handover ..
    | .checkpointAbandon .. => [.regs, .board]
  | .semForce .. => [.regs, .mail]
  | .rampGovernorTick .. | .diePowerUp .. | .rmHeartbeatTimeout .. => [.regs, .power]
  | .fwWindowWrite .. | .bootVerify .. => [.regs, .sec]
  | .getaccmst .. | .handoffTimeout .. | .inventoryTick .. => [.regs, .host]
  | .controllerClaim .. | .controllerLost .. => [.regs, .outbox]
  | .farLoopRequest .. => [.links, .outbox]
  | .scrubWake .. => [.mem, .waking]
  | .semReadAcquire .. | .regRead .. => [.mail, .outbox]
  | .fwData .. => [.sec, .outbox]
  | .clearEventRecords .. | .setEventInterruptPolicy .. => [.host, .outbox]
  | .channelReturn .. => [.regs, .house, .mem]
  | .pwrWarnClear .. | .flowClear .. => [.regs, .house, .power]
  | .hostLinkUp .. => [.regs, .house, .host]
  | .frameIngress .. | .fenceRelease .. | .frameAgeExpiry .. | .portGraceExpiry .. | .sprayHoldExpiry .. | .circuitNoticeReceive .. |
    .statusPageRequest .. | .pmcReadFrame .. | .reorderDisable .. => [.regs, .links, .swc]
  | .pmicPowerGood .. | .pmicTimeout .. => [.regs, .swc, .mem]
  | .mgmtUnsupported .. => [.regs, .swc, .mail]
  | .setZeroingComplete .. | .ddrScrubLine .. => [.regs, .mem, .dram]
  | .programLoad .. | .programUnload .. => [.regs, .ten, .cue]
  | .tileRetireCmd .. => [.regs, .ten, .spState]
  | .cueStoreHostWrite .. => [.regs, .cue, .store]
  | .dozeIdleExpiry .. | .darkIdleExpiry .. => [.regs, .cue, .spState]
  | .timerFire .. | .contextStart .. | .seqDisable .. | .doorbellHostRing .. => [.regs, .cue, .waking]
  | .diodeCheck .. => [.regs, .board, .power]
  | .heartbeatWindowEnd .. | .prompterFatal .. | .prompterRailDrop .. | .prompterJoin .. | .checkpointAdopt .. => [.regs, .board, .outbox]
  | .fusePassComplete .. => [.regs, .power, .rhs]
  | .heartbeat .. => [.regs, .power, .outbox]
  | .entdaa .. | .setEndpointId .. | .alertMergeExpiry .. | .trayMasterRelease .. => [.regs, .host, .outbox]
  | .tileReturnCmd .. => [.regs, .spState, .waking]
  | .staggerGrant .. => [.house, .power, .outbox]
  | .mirrorOff .. => [.regs, .links, .swc, .mem]
  | .flitReceive .. | .egressFlitSlot .. => [.regs, .links, .swc, .outbox]
  | .laneSubComma .. => [.regs, .links, .host, .outbox]
  | .rehearsalTimer .. => [.regs, .links, .rhs, .outbox]
  | .channelTrainingComplete .. => [.regs, .swc, .mem, .spState]
  | .semAcq .. | .semRel .. | .hostLinkDown .. => [.regs, .swc, .board, .mail]
  | .groupCommit .. => [.regs, .ten, .cue, .col]
  | .seqKill .. | .nop .. | .bra .. | .brc .. | .callTo .. | .ret .. | .waitcSettled .. | .waitcProgress .. | .waitcSettledClear .. |
    .waitcTimeout .. | .sigc .. | .fence .. | .trap .. | .halt .. | .adds .. | .subs .. | .muls .. | .ands .. | .ors .. | .xors .. |
    .shls .. | .shrs .. | .ldis .. | .movs .. | .cmps .. | .dset .. | .dadd .. | .dcopyReg .. | .alloc .. | .freeI .. => [.regs, .ten,
      .cue, .waking]
  | .rowSwing .. => [.regs, .ten, .host, .outbox]
  | .adderLaneSwing .. => [.regs, .col, .host, .outbox]
  | .strikeStart .. => [.regs, .host, .rhs, .outbox]
  | .ghostLightHoldExpiry .. => [.regs, .house, .rhs, .spState, .waking]
  | .cueStoreRequest .. => [.regs, .links, .swc, .cue, .store]
  | .doorbellFrame .. => [.regs, .links, .swc, .cue, .waking]
  | .mailboxResendTimeout .. => [.regs, .links, .swc, .board, .mail]
  | .alignComplete .. | .cfgReceive .. | .configComplete .. | .trainingTimeout .. | .loopModeWrite .. => [.regs, .links, .swc, .rhs,
      .outbox]
  | .rangeZeroingComplete .. => [.regs, .ten, .sp, .cue, .col]
  | .lds .. | .sts .. | .dcopyLoad .. | .dcopyStore .. => [.regs, .ten, .sp, .cue, .waking]
  | .pmcMirrorTick .. => [.regs, .ten, .sp, .host, .waking]
  | .mma .. | .mmas .. | .mmag .. | .ewa .. | .ewf .. | .red .. | .norm .. | .smax .. | .topk .. | .gate .. | .qnt .. | .cvt ..
    | .copy .. | .gatheri .. | .sample .. => [.regs, .ten, .cue, .power, .waking]
  | .dozeSelf .. | .dozeSelfCtr .. | .dozeWake .. | .dozeTiles .. | .dozeEngines .. => [.regs, .ten, .cue, .spState, .waking]
  | .capsuleReceive .. | .fwUpdateOpen .. | .fwUpdateVerify .. | .fwUpdateActivate .. | .fwUpdateRaiseSvn ..
    | .fwUpdateAbort .. => [.regs, .board, .sec, .host, .outbox]
  | .filterMoveComplete .. => [.regs, .house, .links, .mem, .rhs, .outbox]
  | .cartridgeInsert .. | .sitePowerGood .. => [.regs, .links, .sites, .swc, .rhs, .outbox]
  | .channelFail .. => [.regs, .links, .swc, .mem, .rhs, .outbox]
  | .scratchpadRequest .. => [.regs, .links, .swc, .ten, .sp, .waking]
  | .mailboxHostPop .. | .mailboxNoticeReceive .. => [.regs, .links, .swc, .board, .mail, .outbox]
  | .planCommit .. | .actSwap .. => [.regs, .swc, .board, .sec, .host, .outbox]
  | .tileSwingCmd .. | .tileReloadThreshold .. => [.regs, .ten, .host, .spState, .waking, .outbox]
  | .counterStoreComplete .. | .powerOrderOff .. | .powerOrderOn .. | .powerOrderCap .. | .powerOrderHold ..
    | .powerOrderRelease .. => [.regs, .board, .power, .sec, .host, .outbox]
  | .keyInstall .. | .keyClear .. => [.regs, .board, .sec, .keys, .host, .outbox]
  | .channelStrike .. => [.regs, .house, .links, .swc, .mem, .rhs, .outbox]
  | .perstAssert .. => [.regs, .house, .swc, .mem, .board, .mail, .host]
  | .ironClear .. | .leakClear .. | .diodesClear .. | .safetyConfig .. => [.regs, .house, .board, .power, .sec, .host, .outbox]
  | .pfetch .. | .pspill .. => [.regs, .links, .swc, .ten, .sp, .cue, .waking]
  | .linkEnable .. => [.regs, .house, .links, .sites, .swc, .rhs, .spState, .outbox]
  | .curtain .. | .aside .. => [.regs, .links, .swc, .ten, .sp, .cue, .col, .waking]
  | .mailboxHostSend .. | .mailboxMsgReceive .. => [.regs, .links, .swc, .cue, .board, .mail, .waking, .outbox]
  | .strikeReturn .. => [.regs, .house, .links, .sites, .swc, .host, .rhs, .spState, .outbox]
  | .mirrorAckReceive .. => [.regs, .house, .links, .swc, .mem, .dram, .host, .rhs, .outbox]
  | .poolRequest .. | .mirrorWriteReceive .. => [.regs, .house, .links, .swc, .mem, .dram, .rhs, .waking, .outbox]
  | .hostMemAccess .. => [.regs, .links, .swc, .mem, .dram, .host, .rhs, .waking, .outbox]
  | .cueReduce .. | .cueScatter .. | .cueGather .. | .cueExchange .. | .cueRoute .. | .cueMerge .. | .cueBroadcast ..
    | .cueSelect .. => [.regs, .links, .swc, .ten, .sp, .cue, .col, .power, .waking]
  | .unitWakeComplete .. | .tensorInstructionComplete .. | .tensorLateFault .. | .colContribReceive .. | .colResultReceive .. |
    .retractReceive .. | .verifiedReceive .. | .releaseReceive .. | .countReceive .. | .chunkSum .. | .chunkVerdict ..
    | .groupTimeout .. | .asideReceive .. | .abortNoticeReceive .. => [.regs, .links, .swc, .ten, .sp, .cue, .col, .power, .spState,
      .waking]
  | .resetRelease .. => [.regs, .house, .links, .swc, .mem, .ten, .sec, .rhs, .spState, .waking, .outbox]
  | .inputUndervoltage .. | .thermalLevelFall .. | .pwrWarnFall .. | .flowLoss .. => [.regs, .house, .swc, .ten, .sp, .cue, .col,
      .power, .rhs, .spState, .waking]
  | .e2eTimeoutExpiry .. | .responseReceive .. | .quarantineComplete .. => [.regs, .links, .swc, .mem, .ten, .sp, .cue, .col, .power,
      .spState, .waking]
  | .retryLimitReached .. | .laneOutOfLock .. | .fastRetrain .. | .fastRetrainComplete .. | .fastRetrainFail ..
    | .retrainRequestReceive .. | .downMessageReceive .. | .laneSubRequest .. | .laneSubReceive .. | .laneFailureNoSwing .. |
    .linkRetrain .. | .linkRetrainFull .. => [.regs, .links, .swc, .ten, .sp, .cue, .col, .board, .mail, .host, .rhs, .outbox]
  | .coldPlateSample .. | .leakTest .. | .leakWet .. => [.regs, .house, .swc, .ten, .sp, .cue, .col, .power, .host, .rhs, .spState,
      .waking, .outbox]
  | .cartIdTimeout .. => [.regs, .links, .sites, .swc, .ten, .sp, .cue, .col, .board, .mail, .host, .rhs, .outbox]
  | .cartIdReadComplete .. | .cartridgeRemove .. | .linkDisable .. | .strikeDrainEnd .. => [.regs, .house, .links, .sites, .swc, .ten,
      .sp, .cue, .col, .board, .mail, .host, .rhs, .outbox]
  | .railPowerGood .. => [.regs, .house, .links, .sites, .swc, .ten, .sp, .cue, .col, .power, .rhs, .spState, .waking, .outbox]
  | .diePowerDownComplete .. => [.regs, .house, .links, .sites, .swc, .mem, .dram, .ten, .sp, .cue, .store, .col, .power, .spState,
      .waking]
  | .coordAssign .. => [.regs, .house, .links, .sites, .swc, .ten, .sp, .cue, .col, .board, .mail, .host, .rhs, .spState, .outbox]
  | .sliceEnd .. => [.regs, .house, .links, .swc, .mem, .ten, .sp, .cue, .col, .power, .host, .rhs, .spState, .waking, .outbox]
  | .railTimeout .. | .flowGraceExpiry .. | .houseClkHoldoverExpiry .. | .diePowerDown .. | .leakGraceExpiry .. => [.regs, .house,
      .links, .swc, .mem, .ten, .sp, .cue, .col, .board, .mail, .power, .host, .rhs, .spState, .waking, .outbox]
  | .stageWrite .. | .regWrite .. | .registerWrite .. => [.regs, .house, .links, .sites, .swc, .mem, .ten, .sp, .cue, .col, .board,
      .mail, .sec, .host, .rhs, .spState, .waking, .outbox]
  | .chipReset .. => [.regs, .house, .links, .sites, .swc, .mem, .dram, .ten, .sp, .cue, .store, .col, .board, .mail, .sec, .host, .rhs,
      .spState, .waking]
  | .diodeSample .. | .ironTrip .. => [.regs, .house, .links, .sites, .swc, .mem, .dram, .ten, .sp, .cue, .store, .col, .board, .mail,
      .power, .host, .rhs, .spState, .waking, .outbox]
  | .powerOn .. | .inputLoss .. | .inputOvervoltage .. | .inputReclose .. | .overvoltageExcursionExpiry .. => [.regs, .house, .links,
      .sites, .swc, .mem, .dram, .ten, .sp, .cue, .store, .col, .board, .mail, .power, .sec, .keys, .host, .rhs, .spState, .waking,
    .outbox]

end Sys2Proof
end

