-- ==== Sys2Proof/WellFormed.lean ====
section
/-! DEFINITION. Which commands are well formed: operands that one IS9 can be sent. A term that fails a check stands for no event of
the module; `exec` still answers for it. -/
namespace Sys2Proof

/-- A frame's payload is LEN units of 16 bytes (Table 04-1, R106). -/
def frameOk (f : Frame) : Bool := decide (f.payload.length = 16 * Machine.Frame.len f)

/-- An error pattern: absent, or one bit for each stored bit of a line or a word (R200, R243). -/
def patternOk (n : Nat) (p : List Byte) : Bool := decide (p = [] ∨ p.length = n)

/-- Error patterns by line or word. -/
def patternsOk (n : Nat) (ps : List (Nat × List Byte)) : Bool := ps.all (fun p => decide (p.2.length = n))

/-- Module input at which the switch is closed: from 32.0 V and not above 44.0 V (R521). -/
def inputOk (mv : Nat) : Bool := decide (32000 ≤ mv ∧ mv ≤ 44000)

/-- The fields of CFG within their widths (R85): coordinates of 12 bits, a port, ring sizes 1 to 16, a generation, 14 credits. -/
def cfgOk (c : Cfg) : Bool :=
  decide (c.chipId < 4096) && decide (c.link < 14) && decide (1 ≤ c.ringX ∧ c.ringX ≤ 16) && decide (1 ≤ c.ringY ∧ c.ringY ≤ 16) &&
  decide (1 ≤ c.ringZ ∧ c.ringZ ≤ 16) && decide (c.maxGen ≤ 3) && decide (c.credits.length = 14)

/-- What a SPD hub can report: one of the types of Table 07-1 or none of them. -/
def spdOk (d : Spd) : Bool := decide (d.typ ≤ 3)

/-- A side effect that a Prompter can make (R369): registers of BAR0, the 32 channels, the 64 semaphores. -/
def effectOk : SideEffect → Bool
  | .reg a bs => decide (bs ≠ []) && decide (a + bs.length ≤ 2 ^ 26)
  | .message _ => true
  | .mailSend c bs => decide (c < 32) && decide (bs.length ≤ 2047)
  | .mailPop c => decide (c < 32)
  | .semAcquire n => decide (n < 64)
  | .semRelease n => decide (n < 64)

/-- Addresses of 7 bits (R470). -/
def entdaaOk : Entdaa → Bool
  | .target _ a => decide (a < 128)
  | .controller ps => decide (ps.length ≤ 11)

/-- A well-formed command. -/
def Instr.wellFormed : Instr → Bool
  | .powerOn mv _ _ _ => inputOk mv
  | .inputLoss mv => decide (mv < 28000)
  | .inputUndervoltage mv => decide (mv < 31000)
  | .inputOvervoltage mv => decide (44000 < mv)
  | .inputReclose mv _ _ _ => inputOk mv
  | .cfgReceive _ cfg => cfgOk cfg
  | .cartIdReadComplete _ eeprom => decide (eeprom ≠ [])
  | .responseReceive f => frameOk f
  | .circuitNoticeReceive f => frameOk f
  | .pmicPowerGood _ spd => spdOk spd
  | .pmicTimeout _ spd => spd.all spdOk
  | .poolRequest f errs => frameOk f && patternsOk 80 errs
  | .mirrorWriteReceive f => frameOk f
  | .ddrScrubLine _ _ err => patternOk 80 err
  | .hostMemAccess _ addr _ bytes err => decide (addr % 64 = 0) && decide (bytes.length = 64) && patternOk 80 err
  | .hdmCommit _ base size _ _ _ => decide (base < 2 ^ 52) && decide (size < 2 ^ 52)
  | .scratchpadRequest f errs => frameOk f && patternsOk 36 errs
  | .spScrub _ err => patternOk 36 err
  | .programLoad off => decide (off < 2 ^ 24)
  | .cueStoreHostWrite off bytes => decide (bytes ≠ []) && decide (off + bytes.length ≤ 2 ^ 24)
  | .cueStoreRequest f => frameOk f
  | .statusPageRequest f => frameOk f
  | .colContribReceive f => frameOk f
  | .colResultReceive f => frameOk f
  | .retractReceive f => frameOk f
  | .verifiedReceive f => frameOk f
  | .releaseReceive f => frameOk f
  | .countReceive f => frameOk f
  | .chunkSum _ _ chunk => decide (chunk < 2 ^ 32)
  | .asideReceive f => frameOk f
  | .abortNoticeReceive f => frameOk f
  | .stageWrite _ _ _ _ effect => effectOk effect
  | .checkpointComplete body => decide (body.length ≤ 2 ^ 22 - 256)
  | .mailboxMsgReceive f => frameOk f
  | .mailboxNoticeReceive f => frameOk f
  | .mgmtUnsupported f => frameOk f
  | .semAcq f => frameOk f
  | .semRel f => frameOk f
  | .diodeSample readings => decide (readings.length = 64)
  | .diodeCheck models => decide (models.length = 4)
  | .capsuleReceive _ bytes => decide (bytes.length ≤ 4096)
  | .fwWindowWrite off bytes => decide (bytes ≠ []) && decide (off.val + bytes.length ≤ 65536)
  | .setEventInterruptPolicy vectors => decide (vectors.length = 4)
  | .doorbellFrame f => frameOk f
  | .entdaa a => entdaaOk a
  | .deftgts targets => targets.all (fun t => decide (t.1 < 128) && decide (t.2 < 2 ^ 48))
  | .pmcReadFrame f => frameOk f
  | .registerWrite addr bytes => decide (bytes ≠ []) && decide (addr.val + bytes.length ≤ 2 ^ 26)
  | .resetRelease _ | .dozeIdleExpiry _ | .darkIdleExpiry _ | .unitWakeComplete _ | .rampGovernorTick _ _ _ _ | .trayMasterElection _
  | .trayMasterLost _ | .flitReceive _ _ | .nakResendTimeout _ | .retryLimitReached _ | .laneOutOfLock _ _ | .egressFlitSlot _
  | .fastRetrain _ | .fastRetrainComplete _ _ | .fastRetrainFail _ | .retrainRequestReceive _ | .downMessageReceive _ _
  | .farEndDetected _ | .eqComplete _ | .alignComplete _ _ | .cfgResendTick _ | .configComplete _ | .trainingTimeout _
  | .cartridgeInsert _ | .hotplugDebounceExpiry _ | .cartIdTimeout _ | .sitePowerGood _ | .cartridgeRemove _ | .laneSubRequest _ _
  | .laneSubReceive _ _ | .laneSubComma _ | .subWindowEnd _ | .laneFailureNoSwing _ _ | .linkRetrain _ | .linkRetrainFull _
  | .linkDisable _ | .linkEnable _ | .loopModeWrite _ _ _ | .farLoopRequest _ _ | .frameIngress _ | .fenceRelease _ | .frameAgeExpiry _ _
  | .portGraceExpiry _ | .escapeWaitExpiry _ | .sprayHoldExpiry _ _ _ _ | .sprayStreamExpiry _ _ _ | .actSeal _ | .actArm _
  | .actRetire _ | .actRetireTimer _ | .e2eTimeoutExpiry _ | .channelTrainingComplete _ _ | .memSetWrite _ _ | .setZeroingComplete _
  | .mirrorAckReceive _ | .mirrorSyncStart _ | .mirrorSyncComplete _ | .mirrorOff _ | .windowEnable _ _ | .scrubWake _
  | .deviceMark _ _ _ | .channelStrike _ | .channelReturn _ | .channelFail _ _ | .tileSwingCmd _ | .tileRetireCmd _ | .tileReturnCmd _
  | .tileReloadThreshold _ | .rowSwing _ | .rangeZeroingComplete _ | .tensorInstructionComplete _ _ | .tensorLateFault _ _
  | .programUnload _ | .triggerEnable _ _ | .timerFire _ | .contextStart _ | .seqKill _ | .seqDisable _ _ | .counterClear _
  | .quarantineComplete _ | .nop _ | .bra _ | .brc _ | .callTo _ | .ret _ | .waitcSettled _ | .waitcProgress _ | .waitcSettledClear _
  | .waitcTimeout _ | .sigc _ | .dozeSelf _ | .dozeSelfCtr _ | .dozeWake _ | .dozeTiles _ | .dozeEngines _ | .fence _ | .trap _ | .halt _
  | .adds _ | .subs _ | .muls _ | .ands _ | .ors _ | .xors _ | .shls _ | .shrs _ | .ldis _ | .movs _ | .cmps _ | .lds _ | .sts _
  | .dset _ | .dadd _ | .dcopyReg _ | .dcopyLoad _ | .dcopyStore _ | .pfetch _ | .pspill _ | .alloc _ | .freeI _ | .mma _ | .mmas _
  | .mmag _ | .ewa _ | .ewf _ | .red _ | .norm _ | .smax _ | .topk _ | .gate _ | .qnt _ | .cvt _ | .copy _ | .gatheri _ | .sample _
  | .cueReduce _ | .cueScatter _ | .cueGather _ | .cueExchange _ | .cueRoute _ | .cueMerge _ | .cueBroadcast _ | .cueSelect _
  | .curtain _ | .aside _ | .groupWordHold _ _ _ | .groupCommit _ _ | .chunkVerdict _ _ _ _ _ | .adderLaneSwing _ _ | .groupTimeout _
  | .intakeInput _ | .prompterHeartbeat _ | .heartbeatWindowEnd _ | .prompterFatal _ _ | .prompterRailDrop _ _ | .prompterJoin _ _ _
  | .prompterResetRelease _ | .prompterRelease _ | .checkpointAdopt _ | .mailboxHostSend _ _ | .mailboxHostPop _
  | .mailboxResendTimeout _ _ | .semReadAcquire _ | .semHostRelease _ | .semForce _ | .railPowerGood _ | .railTimeout _
  | .flowGraceExpiry _ | .thermalLevelFall _ | .coldPlateSample _ _ | .leakTest _ _ | .ironClear _ | .counterStoreComplete _
  | .authHoldExpiry _ | .spdmGetCertificate _ _ _ _ | .spdmGetMeasurements _ _ _ _ | .hostLinkUp _ _ _ | .getEventRecords _
  | .clearEventRecords _ _ | .doorbellHostRing _ _ | .controllerClaim _ | .rstdaa _ | .enec _ _ | .disec _ _ | .setmwl _ _ | .setmrl _ _
  | .setEndpointId _ _ _ | .fwData _ _ _ | .regRead _ _ _ | .regWrite _ _ _ | .heartbeat _ | .alertMergeExpiry _ | .coordAssign _
  | .rehearsalTimer _ | .sliceEnd _ _ | .pmcCounterWrite _ _ | .spdmGetVersion _ _ | .spdmGetCapabilities _ _
  | .spdmNegotiateAlgorithms _ _ | .spdmGetDigests _ _ | .spdmUnsupported _ _ | .mailboxCmdUnsupported _ | .getpid _ | .getbcr _
  | .getdcr _ | .getstatus _ | .getmwl _ | .getmrl _ | .getaccmst _ | .getEndpointId _ | .getMctpVersionSupport _
  | .getMessageTypeSupport _ | .getVendorMessageSupport _ | .getRoutingTableEntries _ | .vendorBad _ _ | .overvoltageExcursionExpiry
  | .chipReset | .houseClkLoss | .houseClkReturn | .houseClkHoldoverExpiry | .reorderDisable | .clearStaged | .planCommit | .actSwap
  | .filterMoveComplete | .programLoadComplete | .handover | .checkpointStart | .checkpointAbandon | .powerOrderOff | .powerOrderOn
  | .powerOrderCap | .powerOrderHold | .powerOrderRelease | .trayGrant | .grantTimeout | .diePowerUp | .diePowerDown | .pwrWarnFall
  | .pwrWarnClear | .flowLoss | .flowClear | .ghostLightHoldExpiry | .rmHeartbeatTimeout | .rmFallback | .leakWet | .leakGraceExpiry
  | .ironTrip | .leakClear | .diodesClear | .safetyConfig | .keyInstall | .keyClear | .fwUpdateOpen | .fwUpdateVerify | .fwUpdateActivate
  | .fwUpdateRaiseSvn | .fwUpdateAbort | .bootVerify | .hostLinkDown | .perstAssert | .getEventInterruptPolicy | .getFwInfo
  | .getSupportedLogs | .getLog | .identifyMemoryDevice | .getPartitionInfo | .getHealthInfo | .hotJoin | .controllerLost
  | .handoffTimeout | .trayMasterRelease | .strikeStart | .strikeDrainEnd | .strikeCancel | .strikeReturn | .inventoryTick | .fusePass
  | .fusePassComplete | .pmcMirrorTick | .diePowerDownComplete | .staggerGrant => true

end Sys2Proof
end

