-- ==== Sys2Proof/Certificates/Slice0/Obligations.lean ====
section
/-! DEFINITION. The statements for the provers. -/

open Sys2Proof Sys2Proof.Machine

/-- When a command stands at the front of the queue, a step at that state is exec of the command on the state with the rest of the queue.
(95_what_each_step_holds.md.) -/
def Obligations.StepRunsFront : Prop :=
    ∀ (s : State) (c : Instr) (rest : List Instr), s.pending = c :: rest → step s = exec c { s with pending := rest }

/-- With an empty queue a step answers next with the state that one period of the house clock leaves: the model's own choice for what
stands in place of idling (log entry 21). (02_wings_clocks_and_sleep.md, R38.) -/
def Obligations.IdleStepTicks : Prop :=
    ∀ (s : State), s.pending = [] → step s = .next (tick s)

/-- At reset the registers, the pool, the scratchpad and the cue store have their canonical form, no command waits, nothing has been sent
and no free value has been taken. (02_wings_clocks_and_sleep.md, 00_scope.md.) -/
def Obligations.ResetIsCanonical : Prop :=
    Memory.wf State.reset = true ∧ State.reset.pending = [] ∧ State.reset.outbox = [] ∧ State.reset.free = 0 ∧ core.reset = State.reset

/-- From every state, a step that answers next keeps the canonical form of the registers, the pool, the scratchpad and the cue store; it
takes at most the front command from the queue and puts none in; the ordering code stays; what was sent stays sent, in its order; free
values already taken are not taken again. (00_scope.md, 02_wings_clocks_and_sleep.md.) -/
def Obligations.EveryStepKeeps : Prop :=
    ∀ (s t : State), step s = .next t →
      (Memory.wf s = true → Memory.wf t = true) ∧ t.pending = s.pending.tail ∧ t.code = s.code ∧ s.outbox <+: t.outbox ∧ s.free ≤ t.free

/-- exec never refuses. It faults only where an input event reports more than 48 V, for which R520 gives no behaviour, and there always;
every other command, with any operands and from every state, answers a next state. (R520, R521.) -/
def Obligations.OnlyOverInputStops : Prop :=
    (∀ (c : Instr) (s : State), ∃ o, exec c s = o ∧ ∀ r, o ≠ .refused r) ∧
    (∀ (c : Instr) (s : State) (f : Fault), exec c s = .fault f →
      ∃ mv, 48000 < mv ∧ (c = .inputLoss mv ∨ c = .inputUndervoltage mv ∨ c = .inputOvervoltage mv ∨
        (∃ slot iron flow, c = .powerOn mv slot iron flow ∨ c = .inputReclose mv slot iron flow))) ∧
    (∀ (s : State) (mv : Nat) (slot : Fin 4) (iron flow : Bool), 48000 < mv →
      exec (.inputLoss mv) s = .fault .absoluteMaximum ∧ exec (.inputUndervoltage mv) s = .fault .absoluteMaximum ∧
      exec (.inputOvervoltage mv) s = .fault .absoluteMaximum ∧ exec (.powerOn mv slot iron flow) s = .fault .absoluteMaximum ∧
      exec (.inputReclose mv slot iron flow) s = .fault .absoluteMaximum) ∧
    (∀ (s : State), goesOn s ∨ step s = .fault .absoluteMaximum)

/-- The frame of every command: a part of the machine that Safety.changes does not list for the command holds after it what it held
before. The parts are the registers, the pins, the links, the sites, the switch core, the pool and its bytes, the tensor unit and the
bytes of the scratchpad, the sequencers and the bytes of the cue store, the engines, the Call Board, the mailboxes and semaphores, power
management, the trust unit and its two capsule keys, the host port and tray bus, the rehearsal, the units' states and wakes, and what was
sent. The table of parts is the model's reading of the command rows; for every command that it lists without a memory part, every byte of
that memory reads as before. (R46, R203, R247, R263, R446.) -/
def Obligations.EffectsStayInTheirParts : Prop :=
    ∀ (c : Instr) (s t : State), exec c s = .next t →
      (∀ p : Part, p ∉ changes c → p.same s t) ∧
      (.dram ∉ changes c → ∀ a, Tab.get (fun _ => 0) t.mem.dram a = Tab.get (fun _ => 0) s.mem.dram a) ∧
      (.sp ∉ changes c → ∀ a, spByte t a = spByte s a) ∧
      (.store ∉ changes c → ∀ a, Tab.get (fun _ => 0) t.cue.store a = Tab.get (fun _ => 0) s.cue.store a)

/-- A write of the scratchpad leaves every byte outside its span, and gives every byte of the span its new value, except in a 32-byte word
that is uncorrectable and not covered whole. A write of the cue store leaves every byte outside its span and every byte of a loaded image
or past the end; the others take their new value. A write of the pool leaves every byte of the DRAM that is not the place of a byte of the
span, and does not touch the other memories. (R203, R246, R247, R263.) -/
def Obligations.MemoryWritesTheirBytes : Prop :=
    (∀ (s : State) (o a : Nat) (bs : List Byte), (a < o ∨ o + bs.length ≤ a) → spByte (spWrite o bs s) a = spByte s a) ∧
    (∀ (s : State) (o i : Nat) (bs : List Byte), i < bs.length →
      ¬ (wordUe s ((o + i) / 32) = true ∧ ¬ (o ≤ (o + i) / 32 * 32 ∧ (o + i) / 32 * 32 + 32 ≤ o + bs.length)) →
      spByte (spWrite o bs s) (o + i) = bs.getD i 0) ∧
    (∀ (s : State) (o i : Nat) (bs : List Byte), i < bs.length →
      (wordUe s ((o + i) / 32) = true ∧ ¬ (o ≤ (o + i) / 32 * 32 ∧ (o + i) / 32 * 32 + 32 ≤ o + bs.length)) →
      spByte (spWrite o bs s) (o + i) = spByte s (o + i)) ∧
    (∀ (s : State) (o a : Nat) (bs : List Byte), (a < o ∨ o + bs.length ≤ a ∨ inImage s a = true ∨ storeSize ≤ a) →
      Tab.get (fun _ => 0) (storeWrite o bs s).cue.store a = Tab.get (fun _ => 0) s.cue.store a) ∧
    (∀ (s : State) (o i : Nat) (bs : List Byte), i < bs.length → inImage s (o + i) = false → o + i < storeSize →
      Tab.get (fun _ => 0) (storeWrite o bs s).cue.store (o + i) = bs.getD i 0) ∧
    (∀ (s : State) (k o key : Nat) (bs : List Byte), (∀ i, i < bs.length → dramKey (dramPlace s k (o + i)) ≠ key) →
      Tab.get (fun _ => 0) (poolWrite k o bs s).mem.dram key = Tab.get (fun _ => 0) s.mem.dram key ∧
      (poolWrite k o bs s).ten = s.ten ∧ (poolWrite k o bs s).cue = s.cue)

/-- After power-on the host reads the values of the Reset columns: the idle times of PRM, the thresholds and limits of LNK, SWC, MEM, TEN,
COL, PRM, THM and RHS, LNKn_CTRL 70h and LNKn_STATUS 1 of every link, TEN_SPACEw 3A80_0000_0800_0000h, TEN_LARGESTw 0800_0000h and
TEN_ROWSw 800h of every wing, COL_ENGe 8 of every engine and CUE_DB_CFG_b 1 of every doorbell. (R10, R56, R100, R127, R161, R188, R223,
R254, R404, R434, R518, R481.) -/
def Obligations.ResetValues : Prop :=
    readWord State.reset 0x2000 = 0x40 ∧
    readWord State.reset 0x2008 = 0xC8 ∧
    readWord State.reset 0x400010 = 0x10 ∧
    readWord State.reset 0x400018 = 8 ∧
    readWord State.reset 0x400020 = 0x1E ∧
    readWord State.reset 0x400028 = 0x96 ∧
    readWord State.reset 0x800008 = 0x30E ∧
    readWord State.reset 0x800010 = 0x14 ∧
    readWord State.reset 0x800018 = 0x05321419 ∧
    readWord State.reset 0x800020 = 0x0A3C2828 ∧
    readWord State.reset 0x800028 = 0x800 ∧
    readWord State.reset 0x800030 = 0x400400 ∧
    readWord State.reset 0x800300 = 3 ∧
    readWord State.reset 0x800310 = 2 ∧
    readWord State.reset 0x800328 = 0x1F4 ∧
    readWord State.reset 0x800330 = 3 ∧
    readWord State.reset 0x800338 = 0x200 ∧
    readWord State.reset 0x800340 = 0x1F40 ∧
    readWord State.reset 0x800418 = 0x28 ∧
    readWord State.reset 0x1C00010 = 0x18 ∧
    readWord State.reset 0x1C00018 = 0x10 ∧
    readWord State.reset 0x1800018 = 8 ∧
    readWord State.reset 0x1800020 = 4 ∧
    readWord State.reset 0x1000008 = 0x32 ∧
    readWord State.reset 0x1000010 = 4 ∧
    readWord State.reset 0x58 = 0x64 ∧
    readWord State.reset 0x3018 = 0xFFFF ∧
    readWord State.reset 0x3020 = 0x12C ∧
    readWord State.reset 0x3030 = 0x7D0 ∧
    readWord State.reset 0x3038 = 0x32 ∧
    readWord State.reset 0x2100018 = 0x645F ∧
    readWord State.reset 0x2100020 = 0x3E8 ∧
    readWord State.reset 0x2100038 = 0x3E8 ∧
    readWord State.reset 0x2100048 = 0x4128 ∧
    readWord State.reset 0x2000000 = 1 ∧
    readWord State.reset 0x2000008 = 0xA ∧
    (∀ l : Fin 14, readWord State.reset (0x410000 + 0x1000 * l) = 0x70 ∧ readWord State.reset (0x410008 + 0x1000 * l) = 1) ∧
    (∀ w : Fin 4, readWord State.reset (0x1800100 + 8 * w) = 0x3A80000008000000 ∧ readWord State.reset (0x1800160 + 8 * w) = 0x8000000 ∧
      readWord State.reset (0x1800200 + 8 * w) = 0x800) ∧
    (∀ e : Fin 16, readWord State.reset (0x1001000 + 8 * e) = 8) ∧
    (∀ b : Fin 256, readWord State.reset (0x1441000 + 8 * b) = 1)

/-- Bit 32 of INV_SAFE, TRAY, reads 1 exactly when STATE is DONE and the die is OFF; so it reads 1 only while both hold. (R490.) -/
def Obligations.TraySafeOnlyWhenStruck : Prop :=
    ∀ (s : State), (readWord s 0x2200098).getLsbD 32 = decide (s.fld Reg.strikeState = sdDone ∧ dieState s = dieOff)

/-- A host write of PMC_CNT_n leaves the counter at the written 48 bits; nothing else of the machine changes with it, so that no event of
that cycle is counted anywhere. While FREEZE is 1, an event, whatever its kind, unit and number, changes nothing; while it is 0 every
counter that selects the event counts it, and no other. (R515.) -/
def Obligations.CountersWrittenAndFrozen : Prop :=
    (∀ (s : State) (n : Fin 1024) (value : Word), houseLive s = true →
      ∃ t, exec (.pmcCounterWrite n value) s = .next t ∧ t.fld (Reg.pmcCnt n) = value.toNat % 2 ^ 48 ∧
        (∀ off, off ≠ (Reg.pmcCnt n).off → t.word off = s.word off) ∧ (∀ p : Part, p ≠ .regs → p.same s t)) ∧
    (∀ (s : State) (ev unit k : Nat), s.fld Reg.pmcFreeze = 1 → pmcEvent ev unit k s = s) ∧
    (∀ (s : State) (ev unit k : Nat) (n : Fin 1024), Memory.wf s = true → s.fld Reg.pmcFreeze = 0 →
      (pmcEvent ev unit k s).fld (Reg.pmcCnt n) =
        if (n : Nat) ∈ pmcSelecting s ev unit then (s.fld (Reg.pmcCnt n) + k) % 2 ^ 48 else s.fld (Reg.pmcCnt n))

/-- A host read of MBX_SEM_n, and a SEM_ACQ frame of any other master, acquire alike: a free semaphore is granted to the reader, which
reads GRANTED (1) with its own identity; a held one stays with its holder, and the reader, even the holder, reads HELD (2) with the
holder's identity; FORCED (bit 2) shows in both. The value has RESULT in bits [1:0], FORCED in [2], the master in [15:8] and the chip in
[27:16]. (R401.) -/
def Obligations.SemaphoreReadsAcquire : Prop :=
    (∀ (s : State) (n : Fin 64), islandLive s = true → (s.sem n).holder = none →
      ∃ t, exec (.semReadAcquire n) s = .next t ∧ (t.sem n).holder = some (1, myChip s) ∧ (t.sem n).forced = (s.sem n).forced ∧
        t.outbox = s.outbox ++ [.barData (0x200800 + 8 * n) (1 + (if (s.sem n).forced then 4 else 0) + 1 * 2 ^ 8 + myChip s * 2 ^ 16)]) ∧
    (∀ (s : State) (n : Fin 64) (m chip : Nat), islandLive s = true → (s.sem n).holder = some (m, chip) →
      ∃ t, exec (.semReadAcquire n) s = .next t ∧ (∀ k, t.sem k = s.sem k) ∧
        t.outbox = s.outbox ++ [.barData (0x200800 + 8 * n) (2 + (if (s.sem n).forced then 4 else 0) + m * 2 ^ 8 + chip * 2 ^ 16)]) ∧
    (∀ (s : State) (f : Frame) (m chip : Nat), frameMaster s f = some (m, chip) → Frame.len f = 0 →
      ((s.sem (Frame.addr f % 64)).holder = none →
        ∃ u, u.outbox = s.outbox ∧ (u.sem (Frame.addr f % 64)).holder = some (m, chip) ∧ (u.sem (Frame.addr f % 64)).forced = (s.sem (Frame.addr f % 64)).forced ∧
          semAcquire f s = queueNotice false (mgmtAnswer u f opSemAcq
            (leBytes 4 (1 + (if (s.sem (Frame.addr f % 64)).forced then 4 else 0) + m * 2 ^ 8 + chip * 2 ^ 16) ++ List.replicate 12 0)) u) ∧
      (∀ (hm hc : Nat), (s.sem (Frame.addr f % 64)).holder = some (hm, hc) →
        semAcquire f s = queueNotice false (mgmtAnswer s f opSemAcq
          (leBytes 4 (2 + (if (s.sem (Frame.addr f % 64)).forced then 4 else 0) + hm * 2 ^ 8 + hc * 2 ^ 16) ++ List.replicate 12 0)) s))

/-- Scrambled bits are taken in pairs, the first-sent bit as the more significant, and each pair maps to its level: 00 to 0, 01 to 1, 11
to 2 and 10 to 3; a level read back gives its pair. (R66.) -/
def Obligations.Pam4Levels : Prop :=
    (∀ (a b : Bool) (rest : List Bool), toLevels (a :: b :: rest) =
      (if a then (if b then 2 else 3) else (if b then 1 else 0)) :: toLevels rest) ∧
    (∀ (bits : List Bool), bits.length % 2 = 0 → (toLevels bits).flatMap levelBits = bits)

/-- The 272 bytes of a flit with any payload of 256 bytes and any link control whose fields fit their widths pass the CRC of R73 and are
read back as that payload and that control. (R72, R73.) -/
def Obligations.FlitsRoundTrip : Prop :=
    ∀ (payload : List Byte) (k : FlitCtl), payload.length = 256 → k.vc < 16 → k.txSeq < 2 ^ 16 → k.ackSeq < 2 ^ 16 → k.crVc < 16 →
      k.crTotal < 2 ^ 16 → (flitBytes payload k).length = 272 ∧ readFlit (flitBytes payload k) = some (payload, k)

/-- What one end sends of a flit on a lane, encoded, scrambled, mapped and stuffed, with the comma in front when it is due, the other end
reads as that flit with no corrected symbol, and both ends go on with the same scrambler, last level and run: for every flit of 272 bytes,
lane and lane state in which fewer than 31 identical data symbols have run. (R64, R65, R66, R67, R68, R70, R71.) -/
def Obligations.LaneCodeRoundTrips : Prop :=
    ∀ (p : Nat) (commaDue : Bool) (lc : LaneCode) (flit : List Byte), flit.length = 272 → lc.run < 31 →
      laneReceive p commaDue lc (laneSend p commaDue lc flit).1 = (some (flit, 0), (laneSend p commaDue lc flit).2) ∧
      (laneSend p commaDue lc flit).2.run < 31

/-- Input rising through 32.0 V starts the house island with the straps sampled; a fall below 28.0 V, a rise above 44.0 V and the end of
an excursion stop it, and what flash, fuses and the protected storage hold stays; below 31.0 V the module goes to ghost-light mode; a
switch that recloses starts the module as at power-on. RESET_N resets the domain outside the house island and its release samples the
straps. (R36, R26, R406, R521, R525, R520.) -/
def Obligations.PowerStageActs : Prop :=
    (∀ (s : State) (mv : Nat) (slot : Fin 4) (ih fo : Bool),
      s.house.input = false →
      s.house.switchOpen = false →
      32000 ≤ mv →
      mv ≤ 48000 →
      ∃ t, exec (.powerOn mv slot ih fo) s = .next t ∧
        t.house.input = true ∧
        t.fld Reg.inputMv = mv ∧
        t.fld Reg.slot = slot.val ∧
        t.fld Reg.dozeIdle = 64 ∧
        t.fld Reg.powerOns = (s.fld Reg.powerOns + 1) % 2 ^ 32 ∧
        t.sec.hostKey = s.sec.hostKey ∧
        t.sec.rackKey = s.sec.rackKey ∧
        t.sec.slots = s.sec.slots) ∧
    (∀ (s : State) (mv : Nat),
      s.house.input = true →
      mv < 28000 →
      ∃ t, exec (.inputLoss mv) s = .next t ∧
        t.house.input = false ∧
        t.fld Reg.pwrDie = 0 ∧
        t.mem.dram = [] ∧
        t.ten.sp = [] ∧
        t.sec.hostKey = s.sec.hostKey ∧
        t.sec.slots = s.sec.slots ∧
        t.fld Reg.hrsPowered = s.fld Reg.hrsPowered) ∧
    (∀ (s : State) (mv : Nat),
      s.house.input = true →
      28000 ≤ mv →
      mv < 31000 →
      ∃ t, exec (.inputUndervoltage mv) s = .next t ∧
        ((if dieState s = dieOn then t.fld Reg.pwrDie = dieGhost else t.fld Reg.pwrDie = s.fld Reg.pwrDie)) ∧
        t.fld (Reg.glBit glPwrWarn) = 1 ∧
        t.fld Reg.pwrWarnEv = 1 ∧
        t.power.inputLow = true) ∧
    (∀ (s : State) (mv : Nat),
      s.house.input = true →
      44000 < mv →
      mv ≤ 48000 →
      ∃ t, exec (.inputOvervoltage mv) s = .next t ∧
        t.house.input = false ∧
        t.house.switchOpen = true ∧
        t.fld Reg.pwrDie = 0 ∧
        t.sec.slots = s.sec.slots) ∧
    (∀ (s : State),
      s.house.input = true →
      ∃ t, exec .overvoltageExcursionExpiry s = .next t ∧
        t.house.input = false ∧
        t.house.switchOpen = true ∧
        t.fld Reg.pwrDie = 0 ∧
        t.sec.slots = s.sec.slots) ∧
    (∀ (s : State) (mv : Nat) (slot : Fin 4) (ih fo : Bool),
      s.house.switchOpen = true →
      32000 ≤ mv →
      mv < 40000 →
      ∃ t, exec (.inputReclose mv slot ih fo) s = .next t ∧
        t.house.input = true ∧
        t.house.switchOpen = false ∧
        t.fld Reg.inputMv = mv ∧
        t.fld Reg.slot = slot.val) ∧
    (∀ (s : State),
      s.house.input = true →
      s.house.resetLow = false →
      ∃ t, exec .chipReset s = .next t ∧
        t.house.resetLow = true ∧
        t.ten.sp = [] ∧
        t.cue.store = [] ∧
        t.cue.ctxs = [] ∧
        t.links = [] ∧
        t.sec.hostKey = s.sec.hostKey ∧
        t.power.stored = s.power.stored ∧
        t.house.input = true ∧
        t.pending = s.pending) ∧
    (∀ (s : State) (slot : Fin 4),
      s.house.input = true →
      s.house.resetLow = true →
      ∃ t, exec (.resetRelease slot) s = .next t ∧
        t.house.resetLow = false ∧
        t.fld Reg.slot = slot.val ∧
        t.house.input = true)

/-- Loss of HOUSE_CLK puts the internal oscillator in its place, its return takes it away, and the end of the holdover powers the die down
with CLOCK_LOST. An idle unit enters Dozing, an eligible one Dark, keeping the configuration generation that it went to sleep with; a wake
that completes leaves the unit Running, in quarantine when it was Dark and holds another generation. (R41, R44, R45, R48, R49, R51, R291.)
-/
def Obligations.ClockAndSleepAct : Prop :=
    (∀ (s : State),
      s.house.input = true →
      s.house.clkPresent = true →
      ∃ t, exec .houseClkLoss s = .next t ∧
        t.house.clkPresent = false ∧
        t.house.onOscillator = true ∧
        t.regs = s.regs ∧
        t.links = s.links ∧
        t.mem = s.mem ∧
        t.outbox = s.outbox) ∧
    (∀ (s : State),
      s.house.input = true →
      s.house.clkPresent = false →
      ∃ t, exec .houseClkReturn s = .next t ∧
        t.house.clkPresent = true ∧
        t.house.onOscillator = false ∧
        t.regs = s.regs ∧
        t.links = s.links ∧
        t.mem = s.mem ∧
        t.outbox = s.outbox) ∧
    (∀ (s : State),
      s.house.input = true →
      s.house.clkPresent = false →
      dieState s = dieOn →
      ∃ t, exec .houseClkHoldoverExpiry s = .next t ∧
        t.fld Reg.clockLost = 1 ∧
        t.fld Reg.pwrDie = dieSeqDown ∧
        t.fld Reg.offCause = offClockLost ∧
        t.fld Reg.powerDownEv = 1 ∧
        t.house.pmicEn = 0 ∧
        t.house.siteEn = 0) ∧
    (∀ (s : State) (u : UnitId),
      linksLive s = true →
      s.fld Reg.dozeIdle ≠ 0 →
      unitState s u = 0 →
      busyForDoze s u = false →
      ∃ t, exec (.dozeIdleExpiry u) s = .next t ∧
        unitState t u = 1 ∧
        (Tab.get (fun _ => 0) t.cue.gens (unitKey u) = s.fld Reg.cueGen) ∧
        t.mem = s.mem ∧
        t.links = s.links) ∧
    (∀ (s : State) (u : UnitId),
      linksLive s = true →
      s.fld Reg.darkIdle ≠ 0 →
      unitState s u < 2 →
      u ∉ s.waking →
      darkEligible s u = true →
      ∃ t, exec (.darkIdleExpiry u) s = .next t ∧
        unitState t u = 2 ∧
        (Tab.get (fun _ => 0) t.cue.gens (unitKey u) = s.fld Reg.cueGen) ∧
        t.mem = s.mem ∧
        t.links = s.links) ∧
    (∀ (s : State) (u : UnitId),
      linksLive s = true →
      u ∈ s.waking →
      unitState s u = 1 →
      heldByGhost s u = false →
      quiet s = true →
      ∃ t, exec (.unitWakeComplete u) s = .next t ∧
        unitState t u = 0 ∧
        u ∉ t.waking) ∧
    (∀ (s : State) (u : UnitId) (e : Fin 16),
      linksLive s = true →
      u ∈ s.waking →
      unitState s u = 2 →
      heldByGhost s u = false →
      quiet s = true →
      u = .eng e →
      oldGeneration s u = false →
      ∃ t, exec (.unitWakeComplete u) s = .next t ∧
        unitState t u = 0 ∧
        u ∉ t.waking ∧
        t.fld (Reg.quarEng e) = s.fld (Reg.quarEng e)) ∧
    (∀ (s : State) (u : UnitId) (e : Fin 16),
      linksLive s = true →
      u ∈ s.waking →
      unitState s u = 2 →
      heldByGhost s u = false →
      quiet s = true →
      u = .eng e →
      oldGeneration s u = true →
      ∃ t, exec (.unitWakeComplete u) s = .next t ∧
        unitState t u = 0 ∧
        u ∉ t.waking ∧
        t.fld (Reg.quarEng e) = 1)

/-- Each millisecond the governor takes its floor and ceiling one step of RAMP_MAX/10 from A, and A becomes the draw held between them:
raised to the floor, and, on a die that is ON, paced down to the ceiling, which stands no lower than the floor; PWR_WARN waives the floor.
The lowest eligible slot becomes tray master, at tray power-up and when the master is lost, where no chip holds the role; the holder keeps
it. (R417, R27, R28, R54, R408.) -/
def Obligations.GovernorAndMasterAct : Prop :=
    (∀ (s : State) (demand mv current : Nat) (work : Governed),
      s.house.input = true →
      demand < 65536 →
      mv < 65536 →
      current < 65536 →
      s.fld Reg.rampA + s.fld Reg.rampMax / 10 < 65536 →
      ∃ t, exec (.rampGovernorTick demand mv current work) s = .next t ∧
        (t.fld Reg.rampFloor = (if s.fld (Reg.glBit glPwrWarn) = 1 then 0 else s.fld Reg.rampA - s.fld Reg.rampMax / 10)) ∧
        t.fld Reg.rampCeiling = (min (s.fld Reg.rampA + s.fld Reg.rampMax / 10) (s.fld Reg.effectiveCap)) ∧
        (t.fld Reg.rampA = (if demand < (if s.fld (Reg.glBit glPwrWarn) = 1 then 0 else s.fld Reg.rampA - s.fld Reg.rampMax / 10) then (if s.fld (Reg.glBit glPwrWarn) = 1 then 0 else s.fld Reg.rampA - s.fld Reg.rampMax / 10) else if dieState s = dieOn then min demand (max (if s.fld (Reg.glBit glPwrWarn) = 1 then 0 else s.fld Reg.rampA - s.fld Reg.rampMax / 10) (min (s.fld Reg.rampA + s.fld Reg.rampMax / 10) (s.fld Reg.effectiveCap))) else demand)) ∧
        ((dieState s = dieOn → t.fld Reg.ballast = 0)) ∧
        t.fld Reg.inputMv = mv ∧
        t.fld Reg.input10mA = current ∧
        t.links = s.links ∧
        t.mem = s.mem) ∧
    (∀ (s : State) (demand mv current : Nat) (work : Governed),
      s.house.input = true →
      demand < 65536 →
      mv < 65536 →
      current < 65536 →
      s.fld Reg.rampA + s.fld Reg.rampMax / 10 < 65536 →
      ∃ t, exec (.rampGovernorTick demand mv current work) s = .next t ∧
        (t.fld Reg.rampFloor = (if s.fld (Reg.glBit glPwrWarn) = 1 then 0 else s.fld Reg.rampA - s.fld Reg.rampMax / 10)) ∧
        t.fld Reg.rampCeiling = (min (s.fld Reg.rampA + s.fld Reg.rampMax / 10) (s.fld Reg.effectiveCap)) ∧
        (t.fld Reg.rampA = (if demand < (if s.fld (Reg.glBit glPwrWarn) = 1 then 0 else s.fld Reg.rampA - s.fld Reg.rampMax / 10) then (if s.fld (Reg.glBit glPwrWarn) = 1 then 0 else s.fld Reg.rampA - s.fld Reg.rampMax / 10) else if dieState s = dieOn then min demand (max (if s.fld (Reg.glBit glPwrWarn) = 1 then 0 else s.fld Reg.rampA - s.fld Reg.rampMax / 10) (min (s.fld Reg.rampA + s.fld Reg.rampMax / 10) (s.fld Reg.effectiveCap))) else demand)) ∧
        ((dieState s = dieOn → t.fld Reg.ballast = 0)) ∧
        t.fld Reg.inputMv = mv ∧
        t.fld Reg.input10mA = current ∧
        t.links = s.links ∧
        t.mem = s.mem) ∧
    (∀ (s : State) (others : BitVec 4),
      s.house.input = true →
      s.fld Reg.master = 1 →
      ∃ t, exec (.trayMasterElection others) s = .next t ∧
        t.fld Reg.master = 1 ∧
        t.regs = s.regs ∧
        t.host = s.host) ∧
    (∀ (s : State) (others : BitVec 4),
      s.house.input = true →
      mayBeMaster s = true →
      s.fld Reg.master = 0 →
      ∃ t, exec (.trayMasterElection others) s = .next t ∧
        (t.fld Reg.master = (if (List.range (mySlot s)).any (fun k => others.getLsbD k) then 0 else 1)) ∧
        t.links = s.links ∧
        t.mem = s.mem) ∧
    (∀ (s : State) (others : BitVec 4),
      s.house.input = true →
      mayBeMaster s = true →
      s.fld Reg.master = 0 →
      ∃ t, exec (.trayMasterLost others) s = .next t ∧
        (t.fld Reg.master = (if (List.range (mySlot s)).any (fun k => others.getLsbD k) then 0 else 1)) ∧
        t.links = s.links ∧
        t.mem = s.mem)

/-- An OFF order of the host clears HOST_RUN, one of the rack manager clears RM_RUN and sets RM_HOLD; an ON order sets the commander's run
bit and clears SAFE_DOWN; a CAP order sets the commander's cap and the effective cap is its minimum with the other cap and the maximum
input power; HOLD and RELEASE set and clear RM_HOLD. PRM_ORDER shows the order carried out. (R411, R412, R413, R418.) -/
def Obligations.PowerOrdersAct : Prop :=
    (∀ (s : State) (c : Capsule),
      s.house.input = true →
      acceptedOf s kPower = some c →
      Order.kind (Cap.payload c.bytes) = 1 →
      viaCommander c.via = cpHost →
      orderVerdict s (viaCommander c.via) (Cap.payload c.bytes) = orOk →
      s.sec.waiting = [] →
      ∃ t, exec .powerOrderOff s = .next t ∧
        t.fld Reg.hostRun = 0 ∧
        t.fld Reg.orderResult = orOk ∧
        t.fld Reg.orderKind = 1 ∧
        t.sec.accepted = none) ∧
    (∀ (s : State) (c : Capsule),
      s.house.input = true →
      acceptedOf s kPower = some c →
      Order.kind (Cap.payload c.bytes) = 1 →
      viaCommander c.via = cpRack →
      orderVerdict s (viaCommander c.via) (Cap.payload c.bytes) = orOk →
      s.sec.waiting = [] →
      ∃ t, exec .powerOrderOff s = .next t ∧
        t.fld Reg.rmRun = 0 ∧
        t.fld Reg.rmHold = 1 ∧
        t.fld Reg.orderResult = orOk ∧
        t.fld Reg.orderKind = 1 ∧
        t.sec.accepted = none) ∧
    (∀ (s : State) (c : Capsule),
      s.house.input = true →
      acceptedOf s kPower = some c →
      Order.kind (Cap.payload c.bytes) = 2 →
      viaCommander c.via = cpHost →
      orderVerdict s (viaCommander c.via) (Cap.payload c.bytes) = orOk →
      s.sec.waiting = [] →
      ∃ t, exec .powerOrderOn s = .next t ∧
        t.fld Reg.hostRun = 1 ∧
        t.fld Reg.safeDown = 0 ∧
        t.fld Reg.orderResult = orOk ∧
        t.fld Reg.orderKind = 2 ∧
        t.sec.accepted = none) ∧
    (∀ (s : State) (c : Capsule),
      s.house.input = true →
      acceptedOf s kPower = some c →
      Order.kind (Cap.payload c.bytes) = 2 →
      viaCommander c.via = cpRack →
      orderVerdict s (viaCommander c.via) (Cap.payload c.bytes) = orOk →
      s.sec.waiting = [] →
      ∃ t, exec .powerOrderOn s = .next t ∧
        t.fld Reg.rmRun = 1 ∧
        t.fld Reg.rmHold = 0 ∧
        t.power.stored = none ∧
        t.fld Reg.orderResult = orOk ∧
        t.fld Reg.orderKind = 2 ∧
        t.sec.accepted = none) ∧
    (∀ (s : State) (c : Capsule),
      s.house.input = true →
      acceptedOf s kPower = some c →
      Order.kind (Cap.payload c.bytes) = 3 →
      viaCommander c.via = cpHost →
      orderVerdict s (viaCommander c.via) (Cap.payload c.bytes) = orOk →
      s.sec.waiting = [] →
      s.fld Reg.fallback = 0 →
      ∃ t, exec .powerOrderCap s = .next t ∧
        t.fld Reg.hostCap = Order.cap (Cap.payload c.bytes) ∧
        t.fld Reg.effectiveCap = min (min (Order.cap (Cap.payload c.bytes)) (s.fld Reg.rackCap)) (maxPower s) ∧
        t.fld Reg.orderResult = orOk ∧
        t.fld Reg.orderKind = 3 ∧
        t.sec.accepted = none) ∧
    (∀ (s : State) (c : Capsule),
      s.house.input = true →
      acceptedOf s kPower = some c →
      Order.kind (Cap.payload c.bytes) = 3 →
      viaCommander c.via = cpRack →
      orderVerdict s (viaCommander c.via) (Cap.payload c.bytes) = orOk →
      s.sec.waiting = [] →
      s.fld Reg.fallback = 0 →
      ∃ t, exec .powerOrderCap s = .next t ∧
        t.fld Reg.rackCap = Order.cap (Cap.payload c.bytes) ∧
        t.fld Reg.effectiveCap = min (min (s.fld Reg.hostCap) (Order.cap (Cap.payload c.bytes))) (maxPower s) ∧
        t.fld Reg.orderResult = orOk ∧
        t.fld Reg.orderKind = 3 ∧
        t.sec.accepted = none) ∧
    (∀ (s : State) (c : Capsule),
      s.house.input = true →
      acceptedOf s kPower = some c →
      Order.kind (Cap.payload c.bytes) = 4 →
      viaCommander c.via = cpRack →
      orderVerdict s (viaCommander c.via) (Cap.payload c.bytes) = orOk →
      s.sec.waiting = [] →
      ∃ t, exec .powerOrderHold s = .next t ∧
        t.fld Reg.rmHold = 1 ∧
        t.fld Reg.orderResult = orOk ∧
        t.fld Reg.orderKind = 4 ∧
        t.sec.accepted = none) ∧
    (∀ (s : State) (c : Capsule),
      s.house.input = true →
      acceptedOf s kPower = some c →
      Order.kind (Cap.payload c.bytes) = 5 →
      viaCommander c.via = cpRack →
      orderVerdict s (viaCommander c.via) (Cap.payload c.bytes) = orOk →
      s.sec.waiting = [] →
      ∃ t, exec .powerOrderRelease s = .next t ∧
        t.fld Reg.rmHold = 0 ∧
        t.power.stored = none ∧
        t.fld Reg.orderResult = orOk ∧
        t.fld Reg.orderKind = 5 ∧
        t.sec.accepted = none)

/-- A grant, of the tray master or for want of one after 2 s, allows the first power-up. A permitted die leaves OFF for SEQ_UP with the
first rails of Table 13-4 enabled; a rail that reports power-good shows in PRM_RAILS, the last one makes the die ON, and a Prompter's rail
starts its BOOT; one that does not come up takes the die down with RAIL_FAULT and SAFE_DOWN. A die that is no longer permitted is powered
down with the cause of the order, every PMIC and site power off, and is OFF when the sequence ends, its contents lost. The tray master
grants itself first. (R407, R409, R414, R415, R416.) -/
def Obligations.DieRailsAct : Prop :=
    (∀ (s : State),
      s.house.input = true →
      ∃ t, exec .trayGrant s = .next t ∧
        t.house.granted = true ∧
        t.regs = s.regs ∧
        t.links = s.links ∧
        t.mem = s.mem ∧
        t.cue = s.cue) ∧
    (∀ (s : State),
      s.house.input = true →
      (activePrompter s).isSome = true →
      grantOverdue s = true →
      ∃ t, exec .grantTimeout s = .next t ∧
        t.house.granted = true ∧
        t.regs = s.regs ∧
        t.links = s.links ∧
        t.mem = s.mem ∧
        t.cue = s.cue) ∧
    (∀ (s : State),
      s.house.input = true →
      s.fld Reg.master = 1 →
      (activePrompter s).isSome = true →
      s.house.grantsGiven = 0 →
      ∃ t, exec .staggerGrant s = .next t ∧
        t.house.granted = true ∧
        t.house.grantsGiven = 1 ∧
        t.outbox = s.outbox ∧
        onlyRegs [] s t = true) ∧
    (∀ (s : State) (k : Fin 4),
      s.house.input = true →
      s.fld Reg.master = 1 →
      (activePrompter s).isSome = true →
      0 < s.house.grantsGiven →
      staggerOver s = true →
      (grantOrder (mySlot s))[s.house.grantsGiven]? = some k.val →
      k.val ≠ mySlot s →
      ∃ t, exec .staggerGrant s = .next t ∧
        t.house.grantsGiven = s.house.grantsGiven + 1 ∧
        t.outbox = s.outbox ++ [.grant k.val] ∧
        t.regs = s.regs) ∧
    (∀ (s : State),
      s.house.input = true →
      permitted s = true →
      s.fld Reg.pwrDie = dieOff →
      (s.house.firstUp = true ∨ s.house.granted = true) →
      s.house.clkPresent = true →
      s.fld Reg.fuseArm = 0 →
      s.rhs.fusePass = false →
      s.fld Reg.rails &&& 0x78 = 0 →
      ∃ t, exec .diePowerUp s = .next t ∧
        t.fld Reg.pwrDie = dieSeqUp ∧
        t.power.enabled = s.power.enabled ||| 0x78 ∧
        t.house = s.house ∧
        t.links = s.links ∧
        onlyRegs [Reg.pwrDie.off] s t = true) ∧
    (∀ (s : State) (r : Rail),
      s.house.input = true →
      railRising s r = true →
      allRailsGood (s.raise (Reg.rail r.bit)) = false →
      2 < r.bit →
      ∃ t, exec (.railPowerGood r) s = .next t ∧
        t.fld (Reg.rail r.bit) = 1 ∧
        t.fld Reg.pwrDie = dieSeqUp ∧
        t.links = s.links ∧
        t.house = s.house ∧
        onlyRegs [(Reg.rail r.bit).off, Reg.pwrDie.off] s t = true) ∧
    (∀ (s : State) (r : Rail),
      s.house.input = true →
      railRising s r = true →
      allRailsGood (s.raise (Reg.rail r.bit)) = true →
      2 < r.bit →
      s.fld Reg.glCause = 0 →
      ∃ t, exec (.railPowerGood r) s = .next t ∧
        t.fld Reg.pwrDie = dieOn ∧
        t.fld (Reg.rail r.bit) = 1 ∧
        t.sec = s.sec) ∧
    (∀ (s : State) (r : Rail),
      s.house.input = true →
      r = .pra →
      prompterState s .a = psOff →
      ∃ t, exec (.railPowerGood r) s = .next t ∧
        prompterState t .a = psBoot ∧
        t.fld (Reg.rail 1) = 1 ∧
        t.board = s.board ∧
        t.links = s.links) ∧
    (∀ (s : State) (r : Rail),
      s.house.input = true →
      railRising s r = true →
      railLate s = true →
      ∃ t, exec (.railTimeout r) s = .next t ∧
        t.fld Reg.pwrDie = dieSeqDown ∧
        t.fld Reg.offCause = offRailFault ∧
        t.fld Reg.safeDown = 1 ∧
        t.fld Reg.powerDownEv = 1 ∧
        t.house.pmicEn = 0) ∧
    (∀ (s : State),
      s.house.input = true →
      diePowered s = true →
      permitted s = false →
      s.power.offBy < 256 →
      ∃ t, exec .diePowerDown s = .next t ∧
        t.fld Reg.pwrDie = dieSeqDown ∧
        t.fld Reg.offCause = s.power.offBy ∧
        t.fld Reg.powerDownEv = 1 ∧
        t.house.pmicEn = 0 ∧
        t.house.siteEn = 0) ∧
    (∀ (s : State),
      s.house.input = true →
      s.fld Reg.pwrDie = dieSeqDown →
      ∃ t, exec .diePowerDownComplete s = .next t ∧
        t.fld Reg.pwrDie = dieOff ∧
        t.mem.dram = [] ∧
        t.ten.sp = [] ∧
        t.cue.store = [] ∧
        t.cue.ctxs = [] ∧
        t.house.pmicEn = 0)

/-- PWR_WARN_N or FLOW_OK falling sets its cause, and a die that is ON goes to GHOST; a cause clears on its own terms; the flow grace ends
in SAFE_DOWN when FLOW_OK is still low; the hold's end with no cause left returns the die to ON with its HELD sequencers IDLE. A rack
manager that is lost is recorded, and 60 s later the fallback cap enters the effective cap. (R419, R420, R421, R422, R424, R418.) -/
def Obligations.GhostLightActs : Prop :=
    (∀ (s : State),
      s.house.input = true →
      s.fld Reg.pwrDie = dieOn →
      ∃ t, exec .pwrWarnFall s = .next t ∧
        t.fld Reg.pwrDie = dieGhost ∧
        t.fld (Reg.glBit glPwrWarn) = 1 ∧
        t.fld Reg.pwrWarnEv = 1 ∧
        t.fld Reg.ghostEv = 1 ∧
        t.power.warnLow = true ∧
        t.house.glHold = false ∧
        t.fld Reg.memOpen = 0) ∧
    (∀ (s : State),
      s.house.input = true →
      ∃ t, exec .pwrWarnClear s = .next t ∧
        t.fld (Reg.glBit glPwrWarn) = 0 ∧
        t.power.warnLow = false ∧
        t.power.inputLow = false ∧
        t.links = s.links ∧
        t.mem = s.mem) ∧
    (∀ (s : State),
      s.house.input = true →
      s.fld Reg.pwrDie = dieOn →
      ∃ t, exec .flowLoss s = .next t ∧
        t.fld Reg.pwrDie = dieGhost ∧
        t.fld (Reg.glBit glFlow) = 1 ∧
        t.fld Reg.flowOk = 0 ∧
        t.fld Reg.flowEv = 1 ∧
        t.fld Reg.graceRunning = 1) ∧
    (∀ (s : State),
      s.house.input = true →
      ∃ t, exec .flowClear s = .next t ∧
        t.fld (Reg.glBit glFlow) = 0 ∧
        t.fld Reg.flowOk = 1 ∧
        t.links = s.links ∧
        t.mem = s.mem) ∧
    (∀ (s : State) (high : Bool),
      s.house.input = true →
      s.fld Reg.graceRunning = 1 →
      s.power.flowEnds ≤ s.now →
      high = true →
      ∃ t, exec (.flowGraceExpiry high) s = .next t ∧
        t.fld Reg.graceRunning = 0 ∧
        t.fld Reg.flowOk = 1 ∧
        t.fld Reg.pwrDie = s.fld Reg.pwrDie ∧
        t.links = s.links ∧
        onlyRegs [Reg.graceRunning.off, Reg.flowOk.off, Reg.pwrDie.off] s t = true) ∧
    (∀ (s : State) (high : Bool),
      s.house.input = true →
      s.fld Reg.graceRunning = 1 →
      s.power.flowEnds ≤ s.now →
      high = false →
      s.fld Reg.pwrDie = dieGhost →
      ∃ t, exec (.flowGraceExpiry high) s = .next t ∧
        t.fld Reg.graceRunning = 0 ∧
        t.fld Reg.flowOk = 0 ∧
        t.fld Reg.safeDown = 1 ∧
        t.fld Reg.pwrDie = dieSeqDown ∧
        t.fld Reg.offCause = offFlow) ∧
    (∀ (s : State) (q : Fin 64),
      s.house.input = true →
      s.fld Reg.pwrDie = dieGhost →
      s.house.glHold = true →
      s.fld Reg.glCause = 0 →
      holdPassed s = true →
      s.fld (Reg.seqSt q) = sqHeld →
      ∃ t, exec .ghostLightHoldExpiry s = .next t ∧
        t.fld Reg.pwrDie = dieOn ∧
        t.house.glHold = false ∧
        t.fld (Reg.seqSt q) = sqIdle) ∧
    (∀ (s : State),
      s.house.input = true →
      s.power.rmLost = false →
      rmSilent 0 s = true →
      ∃ t, exec .rmHeartbeatTimeout s = .next t ∧
        t.power.rmLost = true ∧
        t.fld Reg.rmHbLost = 1 ∧
        t.fld Reg.effectiveCap = s.fld Reg.effectiveCap ∧
        t.links = s.links ∧
        onlyRegs [Reg.rmHbLost.off, Reg.effectiveCap.off] s t = true) ∧
    (∀ (s : State),
      s.house.input = true →
      s.power.rmLost = true →
      s.fld Reg.fallback = 0 →
      rmSilent 60000 s = true →
      ∃ t, exec .rmFallback s = .next t ∧
        t.fld Reg.fallback = 1 ∧
        t.fld Reg.fallbackEv = 1 ∧
        t.fld Reg.effectiveCap = min (min (capOr (s.fld Reg.hostCap)) (min (capOr (s.fld Reg.rackCap)) (capOr (s.fld Reg.fallbackCap)))) (maxPower s))

/-- A sample takes 64 diode readings; an unreadable diode is excluded at once. A wing 3 °C below the threshold of its level falls one
level. The check each millisecond takes the model's temperatures. A thermistor over its limit sets COLD, both 2.0 °C below theirs clear
it, and one that cannot be read is SENSOR_LOST. (R426, R427, R428, R429, R430.) -/
def Obligations.ThermalLadderActs : Prop :=
    (∀ (s : State) (readings : List (Fin 4096)) (i : Fin 64),
      s.house.input = true →
      readings.length = 64 →
      ((readings[i.val]?).map (fun r => r.val) = some 0xFFF) →
      s.power.tripRuns = [] →
      ((List.range 4).all (fun w => !(wingBlind s w)) = true) →
      (readings.all (fun r => decide (r.val < 700 ∨ r.val = 0xFFF)) = true) →
      s.fld Reg.chipLevel < 2 →
      ((List.range 4).all (fun w => decide (s.fld (Reg.wingLevel w) < 2)) = true) →
      s.power.hotRuns = [] →
      70 ≤ s.fld Reg.threshL1 →
      70 ≤ s.fld Reg.threshL2 →
      ∃ t, exec (.diodeSample readings) s = .next t ∧
        t.fld (Reg.diodeTemp (i.val / 16) (i.val % 16)) = 0xFFF ∧
        t.fld (Reg.diodeOut (i.val / 16) (i.val % 16)) = 1) ∧
    (∀ (s : State) (w : Fin 4),
      s.house.input = true →
      0 < s.fld (Reg.wingLevel w) →
      (s.fld (Reg.wingLevel w) < 3 ∨ s.fld Reg.ironLatched = 0) →
      ((if s.fld (Reg.fewDiodes w) = 0 then 0 else 1) < s.fld (Reg.wingLevel w)) →
      junction s w + 30 ≤ threshold s (s.fld (Reg.wingLevel w)) →
      ∃ t, exec (.thermalLevelFall w) s = .next t ∧
        t.fld (Reg.wingLevel w) + 1 = s.fld (Reg.wingLevel w) ∧
        t.links = s.links ∧
        t.mem = s.mem) ∧
    (∀ (s : State) (models : List (Fin 4096)) (w : Fin 4),
      s.house.input = true →
      (activePrompter s).isSome = true →
      models.length = 4 →
      s.power.coolRuns = [] →
      ∃ t, exec (.diodeCheck models) s = .next t ∧
        (t.fld (Reg.modelTemp w) = ((models[w.val]?).map (fun m => m.val)).getD 0) ∧
        t.links = s.links ∧
        t.mem = s.mem) ∧
    (∀ (s : State) (inlet outlet : Fin 4096),
      s.house.input = true →
      inlet.val ≤ 1500 →
      outlet.val ≤ 1500 →
      inlet.val + 20 ≤ s.fld Reg.coldInLimit * 10 →
      outlet.val + 20 ≤ s.fld Reg.coldOutLimit * 10 →
      ∃ t, exec (.coldPlateSample inlet outlet) s = .next t ∧
        t.fld Reg.coldIn = inlet.val ∧
        t.fld Reg.coldOut = outlet.val ∧
        t.fld (Reg.glBit glCold) = 0 ∧
        t.links = s.links ∧
        onlyRegs [Reg.coldIn.off, Reg.coldOut.off, (Reg.glBit glCold).off] s t = true) ∧
    (∀ (s : State) (inlet outlet : Fin 4096),
      s.house.input = true →
      inlet.val ≤ 1500 →
      outlet.val ≤ 1500 →
      s.fld Reg.coldInLimit * 10 < inlet.val →
      s.fld Reg.pwrDie = dieOn →
      ∃ t, exec (.coldPlateSample inlet outlet) s = .next t ∧
        t.fld Reg.coldIn = inlet.val ∧
        t.fld (Reg.glBit glCold) = 1 ∧
        t.fld Reg.pwrDie = dieGhost)

/-- A wet line sets the cause LEAK and is alerted; a continuity test finds it DRY or LOST; the leak grace ends in SAFE_DOWN and a
power-down with cause LEAK. A low IRON_N trips the iron: the die is TRIPPED, the latch set, the cause and the time kept. THM_CLEAR in an
accepted SAFETY_CONFIG clears the latch, the causes of a DRY line and the diode exclusions. (R431, R432, R433, R422, R428.) -/
def Obligations.LeakAndIronAct : Prop :=
    (∀ (s : State),
      s.house.input = true →
      s.fld Reg.leakState ≠ leakWet →
      s.fld Reg.pwrDie = dieOn →
      ∃ t, exec .leakWet s = .next t ∧
        t.fld Reg.leakState = leakWet ∧
        t.fld (Reg.glBit glLeak) = 1 ∧
        t.fld Reg.leakEv = 1 ∧
        t.fld Reg.pwrDie = dieGhost) ∧
    (∀ (s : State) (returns wet : Bool),
      s.house.input = true →
      returns = true →
      wet = false →
      ∃ t, exec (.leakTest returns wet) s = .next t ∧
        t.fld Reg.leakState = leakDry ∧
        t.fld Reg.leakTime = s.now % 2 ^ 32 ∧
        t.links = s.links ∧
        t.mem = s.mem ∧
        onlyRegs [Reg.leakState.off, Reg.leakTime.off] s t = true) ∧
    (∀ (s : State) (returns wet : Bool),
      s.house.input = true →
      returns = false →
      s.fld Reg.leakState ≠ leakLost →
      s.fld Reg.pwrDie = dieOn →
      ∃ t, exec (.leakTest returns wet) s = .next t ∧
        t.fld Reg.leakState = leakLost ∧
        t.fld (Reg.glBit glLeakLost) = 1 ∧
        t.fld Reg.sensorLostEv = 1 ∧
        t.fld Reg.pwrDie = dieGhost) ∧
    (∀ (s : State),
      s.house.input = true →
      s.fld Reg.leakState = leakWet →
      wetLong s = true →
      diePowered s = true →
      ∃ t, exec .leakGraceExpiry s = .next t ∧
        t.fld Reg.safeDown = 1 ∧
        t.fld Reg.pwrDie = dieSeqDown ∧
        t.fld Reg.offCause = offLeak ∧
        t.fld Reg.powerDownEv = 1) ∧
    (∀ (s : State),
      s.house.input = true →
      s.fld Reg.ironLatched = 0 →
      ∃ t, exec .ironTrip s = .next t ∧
        t.fld Reg.pwrDie = dieTripped ∧
        t.fld Reg.ironLatched = 1 ∧
        t.fld Reg.ironCause = ironPin ∧
        t.fld Reg.ironTripEv = 1 ∧
        t.fld Reg.ironTime = s.now % 2 ^ 32 ∧
        t.fld Reg.offCause = offIron ∧
        t.fld Reg.ironLevel = 0 ∧
        t.mem.dram = [] ∧
        t.ten.sp = [] ∧
        t.house.pmicEn = 0 ∧
        t.house.siteEn = 0) ∧
    (∀ (s : State) (high : Bool) (c : Capsule),
      s.house.input = true →
      acceptedOf s kSafety = some c →
      safetyEntries (Cap.payload c.bytes) = [(0x2100050, 0, 2)] →
      s.sec.waiting = [] →
      high = true →
      viaCommander c.via = cpRack →
      allDiodesBelow s (s.fld Reg.threshL1 * 10) = true →
      s.fld Reg.pwrDie = dieTripped →
      ∃ t, exec (.ironClear high) s = .next t ∧
        t.fld Reg.ironLatched = 0 ∧
        t.fld Reg.ironCause = 0 ∧
        t.fld Reg.ironLevel = 1 ∧
        t.fld Reg.pwrDie = dieOff ∧
        t.sec.accepted = none) ∧
    (∀ (s : State) (c : Capsule),
      s.house.input = true →
      acceptedOf s kSafety = some c →
      safetyEntries (Cap.payload c.bytes) = [(0x2100050, 0, 1)] →
      s.sec.waiting = [] →
      s.fld Reg.leakState = leakDry →
      ∃ t, exec .leakClear s = .next t ∧
        t.fld (Reg.glBit glLeak) = 0 ∧
        t.fld (Reg.glBit glLeakLost) = 0 ∧
        t.sec.accepted = none) ∧
    (∀ (s : State) (i : Fin 64) (c : Capsule),
      s.house.input = true →
      acceptedOf s kSafety = some c →
      safetyEntries (Cap.payload c.bytes) = [(0x2100050, 0, 4)] →
      s.sec.waiting = [] →
      s.fld (Reg.diodeTemp (i.val / 16) (i.val % 16)) ≠ 0xFFF →
      ∃ t, exec .diodesClear s = .next t ∧
        t.fld (Reg.diodeOut (i.val / 16) (i.val % 16)) = 0 ∧
        t.sec.accepted = none)

/-- A codeword received in UP advances the count of its lane round and of the 2^24 window; a missing flit makes NAK due again; a flit
position of an UP link is filled by one codeword; a flit resent too often, or a lane whose comma was missed twice in a row, takes the link
from UP to RETRAIN. (R69, R70, R78, R81, R118, R76.) -/
def Obligations.FlitCommandsAct : Prop :=
    (∀ (s : State) (l : Fin 14) (symbols : List (Fin 4)),
      linkIn s l stUp = true →
      ∃ t, exec (.flitReceive l symbols) s = .next t ∧
        (t.link l).rxCount = (s.link l).rxCount + 1 ∧
        (t.link l).windowCount = (s.link l).windowCount + 1 ∧
        (t.link l).txCount = (s.link l).txCount) ∧
    (∀ (s : State) (l : Fin 14),
      linkIn s l stUp = true →
      (s.link l).discarding = true →
      ∃ t, exec (.nakResendTimeout l) s = .next t ∧
        (t.link l).nakDue = true ∧
        t.regs = s.regs ∧
        t.swc = s.swc ∧
        t.mem = s.mem ∧
        t.outbox = s.outbox) ∧
    (∀ (s : State) (l : Fin 14),
      linkIn s l stRetrain = true →
      ∃ t, exec (.egressFlitSlot l) s = .next t ∧
        t.links = s.links ∧
        t.regs = s.regs ∧
        t.mem = s.mem) ∧
    (∀ (s : State) (l : Fin 14),
      linkIn s l stUp = true →
      ∃ t, exec (.egressFlitSlot l) s = .next t ∧
        (t.link l).txCount = (s.link l).txCount + 1 ∧
        (t.link l).rxCount = (s.link l).rxCount ∧
        t.mem = s.mem) ∧
    (∀ (s : State) (l : Fin 14),
      linkIn s l stUp = true →
      overResent s l = true →
      (((s.link l).fastAt.filter (fun t => decide (s.now < t + 1000 * ticksPerMs))).length < 2) →
      ∃ t, exec (.retryLimitReached l) s = .next t ∧
        t.fld (Reg.lnkState l) = stRetrain ∧
        ((t.link l).retry = (if 4096 ≤ (s.link l).retry.length then (s.link l).retry else (s.link l).retry ++ [⟨(s.link l).txSeq, 14, true, true, Config.linkMsgBytes .retrain, 0, 0⟩])) ∧
        t.fld (Reg.lnkGen l) = 0 ∧
        t.mem = s.mem ∧
        t.ten = s.ten) ∧
    (∀ (s : State) (l : Fin 14) (lane : Fin 34),
      linkIn s l stUp = true →
      (2 ≤ Tab.get (fun _ => 0) (s.link l).missed lane) →
      (((s.link l).fastAt.filter (fun t => decide (s.now < t + 1000 * ticksPerMs))).length < 2) →
      ∃ t, exec (.laneOutOfLock l lane) s = .next t ∧
        t.fld (Reg.lnkState l) = stRetrain ∧
        ((t.link l).retry = (if 4096 ≤ (s.link l).retry.length then (s.link l).retry else (s.link l).retry ++ [⟨(s.link l).txSeq, 14, true, true, Config.linkMsgBytes .retrain, 0, 0⟩])) ∧
        t.fld (Reg.lnkGen l) = 0 ∧
        t.mem = s.mem ∧
        t.ten = s.ten)

/-- A retrain asked for at this end is told to the far end and takes the link from UP to RETRAIN with its retry state kept, the request
among it; a request of the far end does the same without a message; when both ends have locked the link is UP again, and when they cannot
it goes through DOWN. A third fast retrain within 1 s is a full one: the link goes through DOWN with FULL_RETRAIN and its retry state is
lost. A down message takes the link DOWN with its cause. ENABLE written 0 leaves the link DISABLED and its port Off, ENABLE written 1
brings the port back. (R87, R88, R89, R62.) -/
def Obligations.RetrainCommandsAct : Prop :=
    (∀ (s : State) (l : Fin 14),
      linkIn s l stUp = true →
      (((s.link l).fastAt.filter (fun t => decide (s.now < t + 1000 * ticksPerMs))).length < 2) →
      ∃ t, exec (.fastRetrain l) s = .next t ∧
        t.fld (Reg.lnkState l) = stRetrain ∧
        ((t.link l).retry = (if 4096 ≤ (s.link l).retry.length then (s.link l).retry else (s.link l).retry ++ [⟨(s.link l).txSeq, 14, true, true, Config.linkMsgBytes .retrain, 0, 0⟩])) ∧
        t.fld (Reg.lnkGen l) = 0 ∧
        t.mem = s.mem ∧
        t.ten = s.ten) ∧
    (∀ (s : State) (l : Fin 14),
      linkIn s l stUp = true →
      (2 ≤ ((s.link l).fastAt.filter (fun t => decide (s.now < t + 1000 * ticksPerMs))).length) →
      linkRefused s l = false →
      ∃ t, exec (.fastRetrain l) s = .next t ∧
        t.fld (Reg.lnkCause l) = causeFullRetrain ∧
        t.fld (Reg.lnkState l) ≠ stUp ∧
        (t.link l).retry = []) ∧
    (∀ (s : State) (l : Fin 14),
      linkIn s l stUp = true →
      (((s.link l).fastAt.filter (fun t => decide (s.now < t + 1000 * ticksPerMs))).length < 2) →
      ∃ t, exec (.linkRetrain l) s = .next t ∧
        t.fld (Reg.lnkState l) = stRetrain ∧
        ((t.link l).retry = (if 4096 ≤ (s.link l).retry.length then (s.link l).retry else (s.link l).retry ++ [⟨(s.link l).txSeq, 14, true, true, Config.linkMsgBytes .retrain, 0, 0⟩])) ∧
        t.fld (Reg.lnkGen l) = 0 ∧
        t.mem = s.mem ∧
        t.ten = s.ten) ∧
    (∀ (s : State) (l : Fin 14),
      linkIn s l stUp = true →
      (2 ≤ ((s.link l).fastAt.filter (fun t => decide (s.now < t + 1000 * ticksPerMs))).length) →
      linkRefused s l = false →
      ∃ t, exec (.linkRetrain l) s = .next t ∧
        t.fld (Reg.lnkCause l) = causeFullRetrain ∧
        t.fld (Reg.lnkState l) ≠ stUp ∧
        (t.link l).retry = []) ∧
    (∀ (s : State) (l : Fin 14),
      linkIn s l stUp = true →
      (((s.link l).fastAt.filter (fun t => decide (s.now < t + 1000 * ticksPerMs))).length < 2) →
      ∃ t, exec (.retrainRequestReceive l) s = .next t ∧
        t.fld (Reg.lnkState l) = stRetrain ∧
        (t.link l).retry = (s.link l).retry ∧
        t.outbox = s.outbox ∧
        t.mem = s.mem ∧
        t.ten = s.ten) ∧
    (∀ (s : State) (l : Fin 14) (ack : Fin 65536),
      linkIn s l stRetrain = true →
      (laneAssignment s l).isSome = true →
      ∃ t, exec (.fastRetrainComplete l ack) s = .next t ∧
        t.fld (Reg.lnkState l) = stUp ∧
        (t.link l).grace = .off ∧
        (t.link l).discarding = false) ∧
    (∀ (s : State) (l : Fin 14),
      linkIn s l stRetrain = true →
      linkRefused s l = false →
      ∃ t, exec (.fastRetrainFail l) s = .next t ∧
        t.fld (Reg.lnkState l) ≠ stUp ∧
        t.fld (Reg.lnkState l) ≠ stRetrain ∧
        t.fld (Reg.lnkCause l) = causeFullRetrain ∧
        (t.link l).retry = []) ∧
    (∀ (s : State) (l : Fin 14) (cause : DownCause),
      linksLive s = true →
      inService s l = true →
      ∃ t, exec (.downMessageReceive l cause) s = .next t ∧
        t.fld (Reg.lnkState l) = stDown ∧
        (t.fld (Reg.lnkCause l) = (if cause = .iron then causeIron else causeFarDown)) ∧
        (t.link l).retry = []) ∧
    (∀ (s : State) (l : Fin 14),
      linksLive s = true →
      s.fld (Reg.lnkState l) ≠ stDisabled →
      s.fld (Reg.lnkState l) ≠ stTest →
      linkRefused s l = false →
      ∃ t, exec (.linkRetrainFull l) s = .next t ∧
        t.fld (Reg.lnkCause l) = causeFullRetrain ∧
        t.fld (Reg.lnkState l) ≠ stUp ∧
        (t.link l).retry = []) ∧
    (∀ (s : State) (l : Fin 14),
      linksLive s = true →
      s.fld (Reg.lnkEnable l) = 1 →
      s.fld (Reg.lnkState l) ≠ stTest →
      ∃ t, exec (.linkDisable l) s = .next t ∧
        t.fld (Reg.lnkEnable l) = 0 ∧
        t.fld (Reg.lnkState l) = stDisabled ∧
        t.fld (Reg.portState l) = 3 ∧
        ((t.link l).retry = (if s.fld (Reg.lnkState l) = stDisabled then (s.link l).retry else []))) ∧
    (∀ (s : State) (l : Fin 14),
      linksLive s = true →
      s.fld (Reg.lnkEnable l) = 0 →
      portOff s l = false →
      s.fld (Reg.lnkState l) ≠ stTest →
      ∃ t, exec (.linkEnable l) s = .next t ∧
        t.fld (Reg.lnkEnable l) = 1 ∧
        t.fld (Reg.portState l) = 0 ∧
        (t.link l).attempts = 0 ∧
        t.mem = s.mem ∧
        t.ten = s.ten)

/-- Signal of the far end takes DETECT to EQ, an equalised link goes to ALIGN, an aligned one to CONFIG with CFG sent, or to UP after
CONFIG; CFG is held and shown, and one that does not fit an assigned chip makes the link MISCABLED; CFG is sent again while the far end is
not known to be assigned; the link leaves CONFIG for its target generation; an attempt that times out is counted, falls to a lower
generation and at the last goes DOWN with TRAIN_FAIL. (R84, R85, R86, R61.) -/
def Obligations.TrainingCommandsAct : Prop :=
    (∀ (s : State) (l : Fin 14),
      linkIn s l stDetect = true →
      ∃ t, exec (.farEndDetected l) s = .next t ∧
        t.fld (Reg.lnkState l) = stEq ∧
        (t.link l).trainGen = 1 ∧
        (t.link l).postCfg = false ∧
        (t.link l).farCfg = none ∧
        t.outbox = s.outbox ∧
        t.mem = s.mem ∧
        onlyRegs [(Reg.lnkState l).off] s t = true) ∧
    (∀ (s : State) (l : Fin 14),
      linkIn s l stEq = true →
      ∃ t, exec (.eqComplete l) s = .next t ∧
        t.fld (Reg.lnkState l) = stAlign ∧
        t.links = s.links ∧
        t.outbox = s.outbox ∧
        t.mem = s.mem ∧
        onlyRegs [(Reg.lnkState l).off] s t = true) ∧
    (∀ (s : State) (l : Fin 14),
      linkIn s l stDown = true →
      s.fld (Reg.lnkEnable l) = 1 →
      portOff s l = false →
      linkReady s l = true →
      (s.fld (Reg.lnkCause l) = causeFarDown ∨ s.fld (Reg.lnkCause l) = causeIron) →
      ∃ t, exec (.farEndDetected l) s = .next t ∧
        t.fld (Reg.lnkState l) = stEq ∧
        (t.link l).attempts = 0 ∧
        (t.link l).target = 0 ∧
        (t.link l).trainGen = 1 ∧
        t.outbox = s.outbox ∧
        t.mem = s.mem ∧
        onlyRegs [(Reg.lnkState l).off] s t = true) ∧
    (∀ (s : State) (l : Fin 14) (rtt : Fin 65536),
      linkIn s l stAlign = true →
      (s.link l).postCfg = false →
      ∃ t, exec (.alignComplete l rtt) s = .next t ∧
        t.fld (Reg.lnkState l) = stConfig ∧
        t.outbox = s.outbox ++ [.linkMsg l (.cfg (ownCfg t l))] ∧
        (t.link l).alloc = (List.range 14).map (vcAlloc s l) ∧
        onlyRegs [(Reg.lnkState l).off] s t = true) ∧
    (∀ (s : State) (l : Fin 14) (rtt : Fin 65536),
      mayAlign s l = true →
      (s.link l).postCfg = true →
      (laneAssignment s l).isSome = true →
      ∃ t, exec (.alignComplete l rtt) s = .next t ∧
        t.fld (Reg.lnkState l) = stUp ∧
        t.fld (Reg.lnkRtt l) = rtt.val) ∧
    (∀ (s : State) (l : Fin 14) (cfg : Cfg),
      linkIn s l stConfig = true →
      s.fld Reg.assigned = 0 →
      cfg.chipId < 4096 →
      cfg.link < 16 →
      ∃ t, exec (.cfgReceive l cfg) s = .next t ∧
        t.fld (Reg.lnkState l) = stConfig ∧
        t.fld (Reg.farId l) = cfg.chipId ∧
        t.fld (Reg.farLink l) = cfg.link ∧
        (t.link l).farCfg = some cfg) ∧
    (∀ (s : State) (l : Fin 14) (cfg : Cfg),
      linkIn s l stConfig = true →
      s.fld Reg.assigned = 1 →
      isTorus l = true →
      cfg.assigned = true →
      cfgFits s l cfg = false →
      cfg.chipId < 4096 →
      ∃ t, exec (.cfgReceive l cfg) s = .next t ∧
        t.fld (Reg.lnkState l) = stMiscabled ∧
        t.fld (Reg.lnkCause l) = causeMiscabled ∧
        t.fld (Reg.farId l) = cfg.chipId) ∧
    (∀ (s : State) (l : Fin 14),
      linkIn s l stConfig = true →
      repeatsCfg s l = true →
      ∃ t, exec (.cfgResendTick l) s = .next t ∧
        t.outbox = s.outbox ++ [.linkMsg l (.cfg (ownCfg s l))] ∧
        t.regs = s.regs ∧
        t.links = s.links) ∧
    (∀ (s : State) (l : Fin 14),
      linkIn s l stConfig = true →
      configReady s l = true →
      miscabled s l = false →
      ∃ t, exec (.configComplete l) s = .next t ∧
        t.fld (Reg.lnkState l) = stEq ∧
        (t.link l).postCfg = true ∧
        (t.link l).trainGen = targetGen s l ∧
        t.outbox = s.outbox) ∧
    (∀ (s : State) (l : Fin 14),
      attemptRuns s l = true →
      attemptLate s l = true →
      (s.link l).attempts < 2 →
      ∃ t, exec (.trainingTimeout l) s = .next t ∧
        (t.link l).attempts = (s.link l).attempts + 1 ∧
        (t.link l).target = (s.link l).target ∧
        t.outbox = s.outbox) ∧
    (∀ (s : State) (l : Fin 14),
      attemptRuns s l = true →
      attemptLate s l = true →
      2 ≤ (s.link l).attempts →
      targetGen s l ≤ floorGen s l →
      linkUp s l = false →
      ∃ t, exec (.trainingTimeout l) s = .next t ∧
        t.fld (Reg.lnkState l) = stDown ∧
        t.fld (Reg.lnkCause l) = causeTrainFail ∧
        (t.link l).attempts = 0) ∧
    (∀ (s : State) (l : Fin 14),
      attemptRuns s l = true →
      attemptLate s l = true →
      2 ≤ (s.link l).attempts →
      floorGen s l < targetGen s l →
      ∃ t, exec (.trainingTimeout l) s = .next t ∧
        (t.link l).attempts = 0 ∧
        (t.link l).target + 1 = targetGen s l)

/-- HOTPLUG_N low starts the debounce, its end the ID read. A cartridge whose EEPROM passes is accepted and shown; one that does not, or
does not answer, is refused with CART_BAD. Power-good of a site is noted. HOTPLUG_N high takes the link from any state DOWN with REMOVED
and, where a Prompter is ACTIVE, removes the site's power. (R96, R97, R98, R99.) -/
def Obligations.CartridgeCommandsAct : Prop :=
    (∀ (s : State) (site : Fin 20),
      siteWatched s site = true →
      s.fld (Reg.hotplug site) = 1 →
      ∃ t, exec (.cartridgeInsert site) s = .next t ∧
        t.fld (Reg.hotplug site) = 0 ∧
        t.site site = Site.init ∧
        t.outbox = s.outbox ∧
        t.mem = s.mem) ∧
    (∀ (s : State) (site : Fin 20),
      bouncing s site = true →
      ∃ t, exec (.hotplugDebounceExpiry site) s = .next t ∧
        (t.site site).debounced = true ∧
        t.regs = s.regs ∧
        t.links = s.links ∧
        t.outbox = s.outbox) ∧
    (∀ (s : State) (site : Fin 20) (eeprom : List Byte),
      reading s site = true →
      eepromOk s eeprom = true →
      ∃ t, exec (.cartIdReadComplete site eeprom) s = .next t ∧
        (t.site site).accepted = true ∧
        (t.site site).eeprom = eeprom.take 24 ∧
        t.fld (cartField site) = cartWord (eeprom.take 24) ∧
        t.fld (Reg.invCartPresent site) = 1) ∧
    (∀ (s : State) (site : Fin 20) (eeprom : List Byte),
      reading s site = true →
      eepromOk s eeprom = false →
      s.fld (Reg.lnkState (linkOfSite site)) ≠ stDisabled →
      s.fld (Reg.lnkState (linkOfSite site)) ≠ stTest →
      ∃ t, exec (.cartIdReadComplete site eeprom) s = .next t ∧
        (t.site site).refused = true ∧
        (t.site site).accepted = false ∧
        t.fld (Reg.lnkState (linkOfSite site)) = stDown ∧
        t.fld (Reg.lnkCause (linkOfSite site)) = causeCartBad) ∧
    (∀ (s : State) (site : Fin 20),
      reading s site = true →
      s.fld (Reg.lnkState (linkOfSite site)) ≠ stDisabled →
      s.fld (Reg.lnkState (linkOfSite site)) ≠ stTest →
      ∃ t, exec (.cartIdTimeout site) s = .next t ∧
        (t.site site).refused = true ∧
        (t.site site).accepted = false ∧
        t.fld (Reg.lnkState (linkOfSite site)) = stDown ∧
        t.fld (Reg.lnkCause (linkOfSite site)) = causeCartBad) ∧
    (∀ (s : State) (site : Fin 20),
      siteWatched s site = true →
      s.house.siteEn.testBit site = true →
      (s.site site).powerGood = false →
      ∃ t, exec (.sitePowerGood site) s = .next t ∧
        (t.site site).powerGood = true ∧
        t.outbox = s.outbox ∧
        t.mem = s.mem ∧
        onlyRegs [(Reg.lnkState (linkOfSite site)).off] s t = true) ∧
    (∀ (s : State) (site : Fin 20),
      siteWatched s site = true →
      s.fld (Reg.hotplug site) = 0 →
      s.house.resetLow = false →
      ∃ t, exec (.cartridgeRemove site) s = .next t ∧
        t.fld (Reg.hotplug site) = 1 ∧
        (t.site site).accepted = false ∧
        (t.site site).debounced = false ∧
        t.fld (Reg.lnkState (linkOfSite site)) = stDown ∧
        t.fld (Reg.lnkCause (linkOfSite site)) = causeRemoved ∧
        (((activePrompter s).isSome = true → t.house.siteEn.testBit site = false)))

/-- A lane over its threshold is given up to the site's swing, with LANE_SUB sent; LANE_SUB of the far end does the same at this end; at
the next comma of a direction both lanes carry its codewords, at the one after the other lane alone, and once both directions have moved
the lane map names it. The end of a window of 2^24 codewords restarts its counts. A lane that fails with no swing left is kept as failed
and the link goes to RETRAIN at half width or DOWN with WIDTH_LOST. A loop puts the link in TEST; a loop that the far end asks for is
answered. (R91, R92, R94, R95.) -/
def Obligations.LaneCommandsAct : Prop :=
    (∀ (s : State) (l : Fin 14) (lane : Fin 34),
      linkIn s l stUp = true →
      overThreshold s l lane = true →
      onLink l lane = true →
      swingFree s l lane = true →
      (sliceOnSite s l lane).isNone = true →
      (s.link l).subs = [] →
      ∃ t, exec (.laneSubRequest l lane) s = .next t ∧
        (t.link l).subs = [LaneSub.waiting lane.val (swingOf lane) true] ∧
        (t.link l).msgs = (s.link l).msgs ++ [.laneSub lane.val]) ∧
    (∀ (s : State) (l : Fin 14) (lane : Fin 34),
      linkIn s l stUp = true →
      isSwing lane = false →
      laneCarries s l lane = true →
      onLink l lane = true →
      swingFree s l lane = true →
      (sliceOnSite s l lane).isNone = true →
      (s.link l).subs = [] →
      ∃ t, exec (.laneSubReceive l lane) s = .next t ∧
        (t.link l).subs = [LaneSub.waiting lane.val (swingOf lane) false] ∧
        t.outbox = s.outbox ∧
        onlyRegs [(Reg.lnkState l).off] s t = true) ∧
    (∀ (s : State) (l : Fin 14) (lane onto : Nat) (mine : Bool),
      linkIn s l stUp = true →
      (s.link l).subs = [LaneSub.waiting lane onto mine] →
      ∃ t, exec (.laneSubComma l) s = .next t ∧
        ((t.link l).subs = [⟨lane, onto, mine, if atComma s l (s.link l).txCount then 1 else 0, if atComma s l (s.link l).rxCount then 1 else 0, if atComma s l (s.link l).txCount then some (s.link l).txCount else none, if atComma s l (s.link l).rxCount then some (s.link l).rxCount else none⟩]) ∧
        t.regs = s.regs ∧
        t.outbox = s.outbox) ∧
    (∀ (s : State) (l : Fin 14) (lane onto tx rx : Nat) (mine : Bool),
      linkIn s l stUp = true →
      (s.link l).subs = [⟨lane, onto, mine, 1, 2, some tx, some rx⟩] →
      atComma s l (s.link l).txCount = true →
      tx ≠ (s.link l).txCount →
      ∃ t, exec (.laneSubComma l) s = .next t ∧
        (t.link l).subs = [] ∧
        ((∀ i, placeOf s l lane = some i → i < 32 → onto < 64 → laneAt t l i = onto)) ∧
        t.mem = s.mem) ∧
    (∀ (s : State) (l : Fin 14) (p : Fin 34),
      linksLive s = true →
      windowOver s l = true →
      onLink l p = true →
      ∃ t, exec (.subWindowEnd l) s = .next t ∧
        (t.link l).windowCount = 0 ∧
        t.fld (Reg.laneUncorr l p) = 0 ∧
        t.fld (Reg.laneCorr l p) = 0 ∧
        t.outbox = s.outbox) ∧
    (∀ (s : State) (l : Fin 14) (lane : Fin 34),
      linkIn s l stUp = true →
      noSwingLeft s l lane = true →
      s.fld (Reg.allowHalf l) = 0 →
      ∃ t, exec (.laneFailureNoSwing l lane) s = .next t ∧
        t.fld (Reg.lnkState l) = stDown ∧
        t.fld (Reg.lnkCause l) = causeWidthLost ∧
        (lane : Nat) ∈ (t.link l).badLanes) ∧
    (∀ (s : State) (l : Fin 14) (lane : Fin 34),
      linkIn s l stUp = true →
      noSwingLeft s l lane = true →
      s.fld (Reg.allowHalf l) = 1 →
      (lane : Nat) ∉ (s.link l).badLanes →
      (fullWidth l / 2 ≤ ((lanesOf l).filter (laneHealthy (s.modLink l (fun k => { k with badLanes := k.badLanes ++ [lane.val] })) l)).length) →
      (((s.link l).fastAt.filter (fun t => decide (s.now < t + 1000 * ticksPerMs))).length < 2) →
      (s.link l).subs = [] →
      ∃ t, exec (.laneFailureNoSwing l lane) s = .next t ∧
        t.fld (Reg.lnkState l) = stRetrain ∧
        (t.link l).half = true ∧
        (t.link l).badLanes = (s.link l).badLanes ++ [lane.val] ∧
        t.mem = s.mem ∧
        t.ten = s.ten) ∧
    (∀ (s : State) (l : Fin 14) (mode : Fin 4) (lane : Fin 64),
      linksLive s = true →
      loopLaneBad lane = false →
      mode ≠ 0 →
      (s.fld (Reg.lnkState l) = stDown ∨ s.fld (Reg.lnkState l) = stDisabled) →
      ∃ t, exec (.loopModeWrite l mode lane) s = .next t ∧
        t.fld (Reg.lnkState l) = stTest ∧
        t.fld (Reg.loopMode l) = mode.val ∧
        t.fld (Reg.loopLane l) = lane.val) ∧
    (∀ (s : State) (l : Fin 14) (mode : Fin 4) (lane : Fin 64),
      linksLive s = true →
      loopLaneBad lane = false →
      mode = 0 →
      s.fld (Reg.lnkState l) = stTest →
      s.fld (Reg.lnkEnable l) = 0 →
      ∃ t, exec (.loopModeWrite l mode lane) s = .next t ∧
        t.fld (Reg.lnkState l) = stDisabled ∧
        t.fld (Reg.loopMode l) = 0 ∧
        t.fld (Reg.loopActive l) = 0) ∧
    (∀ (s : State) (l : Fin 14) (lane : Fin 64),
      linksLive s = true →
      s.fld (Reg.lnkState l) = stDown →
      loopLaneBad lane = false →
      ∃ t, exec (.farLoopRequest l lane) s = .next t ∧
        t.outbox = s.outbox ++ [.linkMsg l (.loopAnswer true)] ∧
        (t.link l).farLoop = some lane.val ∧
        t.regs = s.regs)

/-- A received frame that fails a check of Table 04-3 is removed and logged with its REASON; a response for this chip that passes them is
delivered. A FENCE-held request whose earlier requests are answered joins a queue. A frame beyond the age limit leaves its queue and is
counted. A port grace that ends leaves the port expired. A waiting adaptive frame becomes eligible for its escape port. (R109, R117, R120,
R125, R128, R129, R134.) -/
def Obligations.FramesCross : Prop :=
    (∀ (s : State) (l : Fin 14) (r : RxFrame) (rest : List RxFrame) (c : Field) (why : Nat),
      linksLive s = true →
      (s.link l).frames = r :: rest →
      ingressFault s l r (Frame.ofBytes r.bytes) = some (c, why) →
      ∃ t, exec (.frameIngress l) s = .next t ∧
        (t.link l).frames = rest ∧
        t.fld Reg.dropReason = why ∧
        t.fld Reg.dropLink = l.val ∧
        t.swc = s.swc ∧
        t.mem = s.mem) ∧
    (∀ (s : State) (l : Fin 14) (r : RxFrame) (rest : List RxFrame) (f : Frame),
      linksLive s = true →
      8 ≤ l.val →
      (s.link l).frames = r :: rest →
      f = Frame.ofBytes r.bytes →
      ingressFault s l r f = none →
      isResponse f = true →
      Frame.svc f = 0 →
      Frame.mc f = 0 →
      Frame.dest f = myChip s →
      validChip s (myChip s) = true →
      Frame.destPort f = 8 →
      waitedAge s f r.arr ≤ s.fld Reg.ageLimit →
      s.fld (Reg.actState (Frame.epoch f)) ≠ actSpare →
      s.fld Reg.strikeState = 0 →
      ∃ t, exec (.frameIngress l) s = .next t ∧
        (t.link l).frames = rest ∧
        t.swc.inbox = s.swc.inbox ++ [InFrame.mk f l.val r.arr] ∧
        t.swc.queue = s.swc.queue ∧
        t.mem = s.mem) ∧
    (∀ (s : State) (stor : Nat) (q : QFrame),
      linksLive s = true →
      fencedAt s stor = some q →
      fenceMet s q = true →
      Frame.svc q.frame = 0 →
      Frame.mc q.frame = 0 →
      Frame.dest q.frame ≠ myChip s →
      (s.fld (Reg.routeEntry (Frame.epoch q.frame) (Frame.dest q.frame))).testBit 6 = false →
      ∃ t, exec (.fenceRelease stor) s = .next t ∧
        t.swc.fenced = s.swc.fenced.erase q ∧
        t.swc.queue.length = s.swc.queue.length + 1 ∧
        t.mem = s.mem ∧
        t.links = s.links) ∧
    (∀ (s : State) (stor : Nat) (port : Fin 14) (q : QFrame),
      linksLive s = true →
      agedFrame s stor port = some q →
      ∃ t, exec (.frameAgeExpiry stor port) s = .next t ∧
        t.swc.fenced = s.swc.fenced.erase q ∧
        t.fld Reg.aged = (s.fld Reg.aged + 1) % 2 ^ 48 ∧
        t.mem = s.mem) ∧
    (∀ (s : State) (stor : Nat) (port : Fin 14) (q : QFrame),
      linksLive s = true →
      agedFrame s stor port = some q →
      Frame.isRequest q.frame = false →
      ∃ t, exec (.frameAgeExpiry stor port) s = .next t ∧
        t.swc.queue = s.swc.queue.erase q ∧
        t.fld Reg.dropReason = 6 ∧
        t.mem = s.mem) ∧
    (∀ (s : State) (l : Fin 14),
      linksLive s = true →
      linkUp s l = false →
      (s.link l).grace = .running →
      ∃ t, exec (.portGraceExpiry l) s = .next t ∧
        (t.link l).grace = .expired ∧
        t.mem = s.mem) ∧
    (∀ (s : State) (stor : Nat) (q : QFrame),
      linksLive s = true →
      (s.swc.queue.find? (fun o => decide (o.stor = stor)) = some q) →
      escapes s q = true →
      ∃ t, exec (.escapeWaitExpiry stor) s = .next t ∧
        (t.swc.queue = s.swc.queue.map (fun o => if o = q then { q with esc := some (escapePort s (Frame.dest q.frame) (s.fld (Reg.routeEntry (Frame.epoch q.frame) (Frame.dest q.frame)))) } else o)) ∧
        t.regs = s.regs ∧
        t.links = s.links)

/-- A held frame whose wait ends is passed on, and its stream no longer holds it; an empty stream that lasted its time is forgotten;
REORDER written 0 keeps no stream. A SPARE Act seals, any other raises CFG_ERR; a DRAINING Act arms, and retires to SPARE when no frame of
it is left, or at its timer. (R141, R147, R148, R149, R486.) -/
def Obligations.StreamsAndActsAct : Prop :=
    (∀ (s : State) (chip : Fin 4096) (port : Fin 16) (cls : Fin 4) (seq : Fin 16777216) (u : Stream) (h : InFrame),
      linksLive s = true →
      streamAt s chip port cls = some u →
      (u.held.find? (fun x => decide (Frame.seq x.frame = seq)) = some h) →
      s.fld Reg.sprayHold ≤ 40 * (s.now - h.arr) →
      ∃ t, exec (.sprayHoldExpiry chip port cls seq) s = .next t ∧
        (t.swc.streams.all (fun v => !(decide (v.chip = chip.val ∧ v.port = port.val ∧ v.cls = cls.val)) || !(decide (h ∈ v.held))) = true) ∧
        t.mem = s.mem ∧
        (t.regs.filter (fun e => decide (e.1 < 0x800000)) = s.regs.filter (fun e => decide (e.1 < 0x800000)))) ∧
    (∀ (s : State) (chip : Fin 4096) (port : Fin 16) (cls : Fin 4) (u : Stream),
      linksLive s = true →
      streamAt s chip port cls = some u →
      u.held = [] →
      ∃ t, exec (.sprayStreamExpiry chip port cls) s = .next t ∧
        t.swc.streams = s.swc.streams.erase u ∧
        t.swc.queue = s.swc.queue ∧
        t.regs = s.regs) ∧
    (∀ (s : State),
      linksLive s = true →
      s.fld Reg.routeReorder ≠ 0 →
      ∃ t, exec .reorderDisable s = .next t ∧
        t.fld Reg.routeReorder = 0 ∧
        t.swc.streams = [] ∧
        t.mem = s.mem) ∧
    (∀ (s : State) (act : Fin 2),
      linksLive s = true →
      s.fld (Reg.actState act) = actSpare →
      ∃ t, exec (.actSeal act) s = .next t ∧
        t.fld (Reg.actState act) = actSealed ∧
        t.fld Reg.actSel = s.fld Reg.actSel ∧
        t.swc = s.swc ∧
        onlyRegs [(Reg.actState act).off, Reg.actSel.off] s t = true) ∧
    (∀ (s : State) (act : Fin 2),
      linksLive s = true →
      s.fld (Reg.actState act) ≠ actSpare →
      ∃ t, exec (.actSeal act) s = .next t ∧
        t.fld (Reg.actState act) = s.fld (Reg.actState act) ∧
        t.fld Reg.swcCfgErr = 1 ∧
        t.swc = s.swc ∧
        onlyRegs [(Reg.actState act).off, Reg.swcCfgErr.off] s t = true) ∧
    (∀ (s : State) (act : Fin 2),
      linksLive s = true →
      s.fld (Reg.actState act) = actDraining →
      ∃ t, exec (.actArm act) s = .next t ∧
        (t.swc.armed.any (fun e => decide (e.1 = act.val)) = true) ∧
        ((s.swc.armed.any (fun e => decide (e.1 = act.val)) = true → t.swc.armed = s.swc.armed)) ∧
        t.regs = s.regs) ∧
    (∀ (s : State) (act : Fin 2),
      linksLive s = true →
      s.fld (Reg.actState act) ≠ actDraining →
      ∃ t, exec (.actArm act) s = .next t ∧
        t.fld Reg.swcCfgErr = 1 ∧
        t.swc = s.swc ∧
        onlyRegs [Reg.swcCfgErr.off] s t = true) ∧
    (∀ (s : State) (act : Fin 2),
      linksLive s = true →
      actArmed s act = true →
      s.fld Reg.retireMode = 0 →
      actInflight s act = 0 →
      ∃ t, exec (.actRetire act) s = .next t ∧
        t.fld (Reg.actState act) = actSpare ∧
        (t.swc.armed.all (fun e => decide (e.1 ≠ act.val)) = true) ∧
        t.swc.queue = s.swc.queue ∧
        onlyRegs [(Reg.actState act).off] s t = true) ∧
    (∀ (s : State) (act : Fin 2),
      linksLive s = true →
      actArmed s act = true →
      armOver s act = true →
      ∃ t, exec (.actRetireTimer act) s = .next t ∧
        t.fld (Reg.actState act) = actSpare ∧
        (t.swc.armed.all (fun e => decide (e.1 ≠ act.val)) = true) ∧
        t.swc.queue = s.swc.queue ∧
        onlyRegs [(Reg.actState act).off] s t = true)

/-- An own request that times out is sent again while R155 allows it; a response ends the request of its TAG and SEQ, and one that matches
none is counted. A GUARD_LOST notice moves a circuit in PRIMARY to UNGUARDED at its head. Clearing the staged bank zeroes its words.
(R155, R156, R177, R184.) -/
def Obligations.OwnRequestsEnd : Prop :=
    (∀ (s : State) (tag : Fin 1048576) (r : OwnReq),
      linksLive s = true →
      quiet s = true →
      (s.swc.own.find? (fun o => decide (Frame.tag o.frame = tag)) = some r) →
      e2eOver s r = true →
      r.attempts ≤ s.fld Reg.e2eRetries →
      r.why ≠ .brk →
      ∃ t, exec (.e2eTimeoutExpiry tag) s = .next t ∧
        (t.swc.own = s.swc.own.map (fun o => if o = r then { r with attempts := r.attempts + 1, sentAt := s.now } else o)) ∧
        t.fld Reg.e2eRetry = (s.fld Reg.e2eRetry + 1) % 2 ^ 48 ∧
        t.mem = s.mem) ∧
    (∀ (s : State) (f : Frame) (h : InFrame),
      linksLive s = true →
      quiet s = true →
      inboxOf s f = some h →
      isResponse f = true →
      (s.swc.own.find? (fun o => decide (Frame.tag o.frame = Frame.tag f ∧ Frame.seq o.frame = Frame.seq f)) = none) →
      ∃ t, exec (.responseReceive f) s = .next t ∧
        t.fld Reg.dupRsp = (s.fld Reg.dupRsp + 1) % 2 ^ 48 ∧
        t.swc.inbox = s.swc.inbox.erase h ∧
        t.swc.own = s.swc.own ∧
        t.mem = s.mem) ∧
    (∀ (s : State) (f : Frame) (h : InFrame) (r : OwnReq) (k g : Nat),
      linksLive s = true →
      quiet s = true →
      inboxOf s f = some h →
      isResponse f = true →
      Frame.type f ≠ tyRspErr →
      (s.swc.own.find? (fun o => decide (Frame.tag o.frame = Frame.tag f ∧ Frame.seq o.frame = Frame.seq f)) = some r) →
      r.why = .mirror k g →
      s.swc.ownWait = [] →
      ∃ t, exec (.responseReceive f) s = .next t ∧
        t.swc.own = s.swc.own.erase r ∧
        t.swc.inbox = s.swc.inbox.erase h ∧
        (t.mem.holds = s.mem.holds.map (fun x => if x.id = k then { x with left := x.left - 1 } else x))) ∧
    (∀ (s : State) (f : Frame) (h : InFrame) (c : Fin 4096),
      linksLive s = true →
      inboxOf s f = some h →
      isCircuitNotice f = true →
      leAt f.payload 0 2 = c →
      leAt f.payload 2 1 = kindGuardLost →
      cirValid s c = true →
      cirRole s c % 2 = 1 →
      cirState s c = 0 →
      ∃ t, exec (.circuitNoticeReceive f) s = .next t ∧
        cirState t c = 1 ∧
        t.swc.inbox = s.swc.inbox.erase h ∧
        t.swc.queue = s.swc.queue ∧
        t.links = s.links) ∧
    (∀ (s : State) (c : Fin 4096) (j : Fin 4),
      linksLive s = true →
      ∃ t, exec .clearStaged s = .next t ∧
        t.word (Reg.cirStaged c j) = 0 ∧
        t.word (Reg.cirActive c j) = s.word (Reg.cirActive c j) ∧
        (t.regs.filter (fun e => decide (e.1 < 0x880000)) = s.regs.filter (fun e => decide (e.1 < 0x880000))) ∧
        t.swc = s.swc)

/-- A DIMM with power is judged: it trains at its first rate or its channel is FAILED with the CAUSE; a channel without power-good is
EMPTY, or FAILED when its hub answers. A training attempt that succeeds makes the channel READY; one that fails is tried again in full,
then at the next rate, then leaves TRAIN_FAIL. A struck channel is STRUCK; when its set holds the filter store, that moves first. A return
switches its PMIC on. A channel that fails is FAILED with its CAUSE. (R191, R192, R193, R194, R218, R219, R220.) -/
def Obligations.ChannelsActs : Prop :=
    (∀ (s : State) (n : Fin 12) (d : Spd),
      linksLive s = true →
      awaitsPmic s n = true →
      spdRefusal d = none →
      ∃ t, exec (.pmicPowerGood n d) s = .next t ∧
        t.fld (Reg.chState n) = chTraining ∧
        (t.chan n).rate = firstRate s n d.typ ∧
        (t.chan n).pmicGood = true ∧
        t.fld (Reg.chCause n) = 0 ∧
        t.swc = s.swc) ∧
    (∀ (s : State) (n : Fin 12) (d : Spd) (cause : Nat),
      linksLive s = true →
      awaitsPmic s n = true →
      spdRefusal d = some cause →
      ∃ t, exec (.pmicPowerGood n d) s = .next t ∧
        t.fld (Reg.chState n) = chFailed ∧
        t.fld (Reg.chCause n) = cause) ∧
    (∀ (s : State) (n : Fin 12) (spd : Option Spd),
      linksLive s = true →
      awaitsPmic s n = true →
      spd = none →
      ∃ t, exec (.pmicTimeout n spd) s = .next t ∧
        t.fld (Reg.chState n) = chEmpty ∧
        (t.chan n).judged = true ∧
        t.fld (Reg.chCause n) = 0) ∧
    (∀ (s : State) (n : Fin 12) (spd : Option Spd) (d : Spd),
      linksLive s = true →
      awaitsPmic s n = true →
      spd = some d →
      ∃ t, exec (.pmicTimeout n spd) s = .next t ∧
        t.fld (Reg.chState n) = chFailed ∧
        t.fld (Reg.chCause n) = (spdRefusal d).getD cauPmicFail) ∧
    (∀ (s : State) (n : Fin 12) (ok : Bool),
      linksLive s = true →
      s.fld (Reg.chState n) = chTraining →
      ok = true →
      (s.chan n).returning = false →
      (s.chan n).rate < 4 →
      ∃ t, exec (.channelTrainingComplete n ok) s = .next t ∧
        t.fld (Reg.chState n) = chReady ∧
        t.fld (Reg.chSpeed n) = (s.chan n).rate ∧
        t.fld (Reg.chMark n 0) = 0) ∧
    (∀ (s : State) (n : Fin 12) (ok : Bool),
      linksLive s = true →
      s.fld (Reg.chState n) = chTraining →
      ok = false →
      (s.chan n).fromSaved = true →
      ∃ t, exec (.channelTrainingComplete n ok) s = .next t ∧
        (t.chan n).fromSaved = false ∧
        (t.chan n).rate = (s.chan n).rate ∧
        t.regs = s.regs) ∧
    (∀ (s : State) (n : Fin 12) (ok : Bool),
      linksLive s = true →
      s.fld (Reg.chState n) = chTraining →
      ok = false →
      (s.chan n).fromSaved = false →
      (s.chan n).rate = 3 →
      ∃ t, exec (.channelTrainingComplete n ok) s = .next t ∧
        t.fld (Reg.chState n) = chTraining ∧
        (t.chan n).rate = 2 ∧
        onlyRegs [(Reg.chState n).off] s t = true) ∧
    (∀ (s : State) (n : Fin 12) (ok : Bool),
      linksLive s = true →
      s.fld (Reg.chState n) = chTraining →
      ok = false →
      (s.chan n).fromSaved = false →
      (s.chan n).rate ≠ 3 →
      ∃ t, exec (.channelTrainingComplete n ok) s = .next t ∧
        t.fld (Reg.chState n) = chFailed ∧
        t.fld (Reg.chCause n) = cauTrainFail) ∧
    (∀ (s : State) (c : Fin 12) (k : Nat),
      linksLive s = true →
      setOfChan s c = some k →
      strikeRefusal s k = none →
      highestSet s ≠ some k →
      s.swc.inbox = [] →
      s.mem.hostWait = [] →
      s.mem.holds = [] →
      s.mem.moving = false →
      s.mem.striking = [] →
      ∃ t, exec (.channelStrike c) s = .next t ∧
        t.fld (Reg.setState k) = setStruck ∧
        t.fld (Reg.chState c) = chStruck ∧
        t.fld (Reg.chCause c) = cauStruck ∧
        t.fld Reg.strikeResult = 1 ∧
        t.house.pmicEn.testBit c = false ∧
        t.mem.dram = s.mem.dram) ∧
    (∀ (s : State) (c : Fin 12) (k : Nat),
      linksLive s = true →
      setOfChan s c = some k →
      strikeRefusal s k = none →
      highestSet s = some k →
      ((installedSets s).any (fun j => decide (j ≠ k) && decide (s.fld (Reg.setState j) = setInService)) = true) →
      ∃ t, exec (.channelStrike c) s = .next t ∧
        t.fld (Reg.setState k) = setStruck ∧
        t.fld (Reg.chState c) = s.fld (Reg.chState c) ∧
        t.fld Reg.strikeResult = 0 ∧
        t.mem.moving = true ∧
        t.mem.striking = s.mem.striking ++ [c.val]) ∧
    (∀ (s : State) (c : Fin 12) (k r : Nat),
      linksLive s = true →
      setOfChan s c = some k →
      strikeRefusal s k = some r →
      ∃ t, exec (.channelStrike c) s = .next t ∧
        t.fld Reg.strikeResult = r ∧
        t.fld (Reg.chState c) = s.fld (Reg.chState c) ∧
        t.fld (Reg.setState k) = s.fld (Reg.setState k) ∧
        t.mem = s.mem) ∧
    (∀ (s : State) (c : Fin 12),
      linksLive s = true →
      s.mem.striking = [c.val] →
      s.mem.moving = true →
      s.swc.inbox = [] →
      s.mem.hostWait = [] →
      s.mem.holds = [] →
      ∃ t, exec .filterMoveComplete s = .next t ∧
        t.fld (Reg.chState c) = chStruck ∧
        t.mem.moving = false ∧
        t.mem.striking = [] ∧
        t.fld Reg.strikeResult = 1 ∧
        t.mem.dram = s.mem.dram) ∧
    (∀ (s : State) (c : Fin 12),
      linksLive s = true →
      s.fld (Reg.chState c) = chStruck →
      ∃ t, exec (.channelReturn c) s = .next t ∧
        t.house.pmicEn.testBit c = true ∧
        (t.chan c).returning = true ∧
        t.fld Reg.strikeResult = 0 ∧
        t.fld (Reg.chState c) = chStruck ∧
        onlyRegs [Reg.strikeResult.off, (Reg.chState c).off] s t = true) ∧
    (∀ (s : State) (c : Fin 12),
      linksLive s = true →
      s.fld (Reg.chState c) ≠ chStruck →
      ∃ t, exec (.channelReturn c) s = .next t ∧
        t.fld Reg.memCfgErr = 1 ∧
        t.house = s.house ∧
        t.mem = s.mem) ∧
    (∀ (s : State) (c : Fin 12) (cause : Fin 256),
      linksLive s = true →
      canFail s c = true →
      (cause.val = cauPmicFail ∨ cause.val = cauTrainFail ∨ cause.val = cauRemoved) →
      ∃ t, exec (.channelFail c cause) s = .next t ∧
        t.fld (Reg.chState c) = chFailed ∧
        t.fld (Reg.chCause c) = cause.val ∧
        t.fld Reg.chanFail = 1 ∧
        t.mem.dram = s.mem.dram)

/-- A set written with VALID = 1 that R199 does not refuse starts ZEROING with its size, one that R199 refuses changes nothing and raises
CFG_ERR, VALID = 0 takes it OFF; a zeroed set is IN_SERVICE. A region written SYNC is SYNCING, its acknowledged end makes it MIRRORED, OFF
ends it; a window that Table 07-12 accepts is FILLING, ENABLE = 0 leaves it OFF. The held write of a region ends when every mirror write
of it is answered. (R195, R198, R199, R213, R214, R215, R216.) -/
def Obligations.SetsAndMirrorsAct : Prop :=
    (∀ (s : State) (k : Fin 12) (value : BitVec 64),
      linksLive s = true →
      s.fld (Reg.setState k) ≠ setInService ∧ s.fld (Reg.setState k) ≠ setZeroing →
      value.getLsbD 12 = true →
      value.getLsbD 13 = false →
      field value 16 16 < 4096 →
      setRefused s k (field value 0 12) (field value 16 16) = false →
      ∃ t, exec (.memSetWrite k value) s = .next t ∧
        t.fld (Reg.setState k) = setZeroing ∧
        t.fld (Reg.setValid k) = 1 ∧
        t.fld (Reg.setMask k) = field value 0 12 ∧
        t.fld (Reg.setBase k) = field value 16 16 ∧
        t.mem = s.mem ∧
        onlyRegs [(Reg.setState k).off, (Reg.setValid k).off, (Reg.setMask k).off, (Reg.setBase k).off] s t = true) ∧
    (∀ (s : State) (k : Fin 12) (value : BitVec 64),
      linksLive s = true →
      s.fld (Reg.setState k) ≠ setInService ∧ s.fld (Reg.setState k) ≠ setZeroing →
      value.getLsbD 12 = true →
      value.getLsbD 13 = false →
      setRefused s k (field value 0 12) (field value 16 16) = true →
      ∃ t, exec (.memSetWrite k value) s = .next t ∧
        t.fld Reg.memCfgErr = 1 ∧
        t.fld (Reg.setState k) = s.fld (Reg.setState k) ∧
        t.fld (Reg.setMask k) = s.fld (Reg.setMask k) ∧
        t.mem = s.mem ∧
        onlyRegs [Reg.memCfgErr.off, (Reg.setState k).off, (Reg.setMask k).off] s t = true) ∧
    (∀ (s : State) (k : Fin 12) (value : BitVec 64),
      linksLive s = true →
      s.fld (Reg.setState k) ≠ setInService ∧ s.fld (Reg.setState k) ≠ setZeroing →
      field value 16 16 < 4096 →
      value.getLsbD 12 = false →
      ∃ t, exec (.memSetWrite k value) s = .next t ∧
        t.fld (Reg.setState k) = setOff ∧
        t.fld (Reg.setValid k) = 0 ∧
        t.fld (Reg.setMask k) = field value 0 12 ∧
        t.mem = s.mem) ∧
    (∀ (s : State) (k : Fin 12),
      linksLive s = true →
      s.fld (Reg.setState k) = setZeroing →
      ∃ t, exec (.setZeroingComplete k) s = .next t ∧
        t.fld (Reg.setState k) = setInService ∧
        t.swc = s.swc ∧
        t.ten = s.ten) ∧
    (∀ (s : State) (k : Fin 16),
      linksLive s = true →
      (s.fld (Reg.mregState k) = regOff ∨ s.fld (Reg.mregState k) = regBroken) →
      regionRefused s k = false →
      s.fld (Reg.mregPartner k) ≠ myChip s →
      ∃ t, exec (.mirrorSyncStart k) s = .next t ∧
        t.fld (Reg.mregState k) = regSyncing ∧
        t.fld (Reg.mregMode k) = 1 ∧
        t.mem.syncs = s.mem.syncs ++ [Sync.mk k (s.fld (Reg.mregBase k) * 2 ^ 30) false false false] ∧
        t.mem.dram = s.mem.dram ∧
        onlyRegs [(Reg.mregState k).off, (Reg.mregMode k).off] s t = true) ∧
    (∀ (s : State) (k : Fin 16) (y : Sync),
      linksLive s = true →
      (s.mem.syncs.find? (fun y => decide (y.region = k.val) && y.doneAcked) = some y) →
      ∃ t, exec (.mirrorSyncComplete k) s = .next t ∧
        t.fld (Reg.mregState k) = regMirrored ∧
        t.mem.syncs = s.mem.syncs.erase y ∧
        t.mem.dram = s.mem.dram ∧
        onlyRegs [(Reg.mregState k).off] s t = true) ∧
    (∀ (s : State) (k : Fin 16),
      linksLive s = true →
      s.fld (Reg.mregMode k) ≠ 0 →
      ∃ t, exec (.mirrorOff k) s = .next t ∧
        t.fld (Reg.mregMode k) = 0 ∧
        t.fld (Reg.mregState k) = regOff ∧
        t.mem.dram = s.mem.dram) ∧
    (∀ (s : State) (k : Fin 16) (on : Bool),
      linksLive s = true →
      on = true →
      s.fld (Reg.mwinEnable k) = 0 →
      windowRefused s k = false →
      ∃ t, exec (.windowEnable k on) s = .next t ∧
        t.fld (Reg.mwinEnable k) = 1 ∧
        t.fld (Reg.mwinState k) = winFilling ∧
        t.mem = s.mem ∧
        onlyRegs [(Reg.mwinEnable k).off, (Reg.mwinState k).off] s t = true) ∧
    (∀ (s : State) (k : Fin 16) (on : Bool),
      linksLive s = true →
      on = true →
      s.fld (Reg.mwinEnable k) = 0 →
      windowRefused s k = true →
      ∃ t, exec (.windowEnable k on) s = .next t ∧
        t.fld (Reg.mwinEnable k) = 0 ∧
        t.fld Reg.memCfgErr = 1 ∧
        t.mem = s.mem ∧
        onlyRegs [(Reg.mwinEnable k).off, Reg.memCfgErr.off] s t = true) ∧
    (∀ (s : State) (k : Fin 16) (on : Bool),
      linksLive s = true →
      on = false →
      ∃ t, exec (.windowEnable k on) s = .next t ∧
        t.fld (Reg.mwinEnable k) = 0 ∧
        t.fld (Reg.mwinState k) = winOff ∧
        t.mem = s.mem ∧
        onlyRegs [(Reg.mwinEnable k).off, (Reg.mwinState k).off] s t = true) ∧
    (∀ (s : State) (id : Nat) (h : MirrorHold) (k : Nat),
      linksLive s = true →
      (s.mem.holds.find? (fun h => decide (h.id = id)) = some h) →
      h.left = 0 →
      h.lost = [] →
      setOfSpan s h.off h.data.length = some k →
      ∃ t, exec (.mirrorAckReceive id) s = .next t ∧
        t.mem.holds = s.mem.holds.erase h ∧
        t.mem.dram = (poolWrite k h.off h.data s).mem.dram ∧
        t.mem.syncs = s.mem.syncs)

/-- A pool read that passes the checks of Table 07-6 is answered with the bytes of its span. A write whose SEQ the duplicate filter has
not seen is applied; an atomic likewise, with its old value as the answer. A mirror write stores its data behind a VALID window. The
scrubber logs a line that is uncorrectable; a sleeping channel is woken; a device rebuilt often enough is marked. A host read returns the
line and a host write stores it; one outside what the host may reach fails. (R201, R202, R204, R205, R206, R207, R208, R211, R222.) -/
def Obligations.PoolRequestsAct : Prop :=
    (∀ (s : State) (f : Frame) (errs : List (Nat × List Byte)) (win : Option Nat) (h : InFrame) (k o : Nat),
      linksLive s = true →
      inboxOf s f = some h →
      isPoolRequest f = true →
      poolWaits s h = false →
      isMirrorWrite f = false →
      Frame.type f = tyReqRd →
      poolChecks s f = .inr (k, o, win) →
      firstUe (readLines k o (reqSpan f) 1 errs (dropInbox h s)) k o (reqSpan f) = none →
      s.swc.poolWait = [] →
      s.mem.striking = [] →
      ∃ t, exec (.poolRequest f errs) s = .next t ∧
        t = answerData f (poolSeen s k o (reqSpan f) errs) (readLines k o (reqSpan f) 1 errs (dropInbox h s))) ∧
    (∀ (s : State) (f : Frame) (errs : List (Nat × List Byte)) (win : Option Nat) (h : InFrame) (k o : Nat),
      linksLive s = true →
      inboxOf s f = some h →
      isPoolRequest f = true →
      poolWaits s h = false →
      isMirrorWrite f = false →
      Frame.type f = tyReqWr →
      Frame.len f ≠ 0 →
      poolChecks s f = .inr (k, o, win) →
      partialUe s k o (reqSpan f) = none →
      s.mem.ue = [] →
      mirroredRegions s win o f.payload.length = [] →
      anyChannel s = true →
      filterJudge s (sourceOf f) (homeOf s win) (Frame.seq f) false = .apply →
      errs = [] →
      ∃ t, exec (.poolRequest f errs) s = .next t ∧
        t.mem.dram = (poolWrite k o f.payload s).mem.dram ∧
        t.ten = s.ten) ∧
    (∀ (s : State) (f : Frame) (errs : List (Nat × List Byte)) (win : Option Nat) (h : InFrame) (k o : Nat),
      linksLive s = true →
      inboxOf s f = some h →
      isPoolRequest f = true →
      poolWaits s h = false →
      isMirrorWrite f = false →
      Frame.type f = tyReqAtom →
      poolChecks s f = .inr (k, o, win) →
      s.mem.ue = [] →
      mirroredRegions s win o (atomSpan f) = [] →
      anyChannel s = true →
      filterJudge s (sourceOf f) (homeOf s win) (Frame.seq f) true = .apply →
      errs = [] →
      ∃ t, exec (.poolRequest f errs) s = .next t ∧
        t.mem.dram = (poolWrite k o (atomApply f (poolRead s k o (atomSpan f))) s).mem.dram ∧
        t.ten = s.ten) ∧
    (∀ (s : State) (f : Frame) (errs : List (Nat × List Byte)) (code : Nat) (h : InFrame) (k o : Nat),
      linksLive s = true →
      inboxOf s f = some h →
      isPoolRequest f = true →
      poolWaits s h = false →
      isMirrorWrite f = false →
      poolChecks s f = .inl code →
      k = 0 →
      o = 0 →
      s.swc.poolWait = [] →
      s.mem.striking = [] →
      ∃ t, exec (.poolRequest f errs) s = .next t ∧
        t = answerPool f code (dropInbox h s)) ∧
    (∀ (s : State) (f : Frame) (h : InFrame) (k o e : Nat),
      linksLive s = true →
      inboxOf s f = some h →
      isPoolRequest f = true →
      isMirrorWrite f = true →
      poolWaits s h = false →
      poolChecks s f = .inr (k, o, some e) →
      anyChannel s = true →
      filterJudge s (sourceOf f) (s.fld (Reg.mwinHome e)) (Frame.seq f) false = .apply →
      ∃ t, exec (.mirrorWriteReceive f) s = .next t ∧
        t.mem.dram = (poolWrite k o (f.payload.drop (16 + 16 * mirrorRlen f)) s).mem.dram ∧
        t.ten = s.ten) ∧
    (∀ (s : State) (c : Fin 12) (line : Nat) (err : List Byte) (k o : Nat),
      linksLive s = true →
      offsetOfLine s c line = some (k, o) →
      s.fld Reg.scrubHours ≠ 0 →
      s.fld (Reg.ddrState c) = 0 →
      isUe s (c * 2 ^ 34 + line) = true →
      ∃ t, exec (.ddrScrubLine c line err) s = .next t ∧
        t = scrubOn c (logUe c line o 2 s) ∧
        t.fld Reg.memUncorr = 1 ∧
        t.fld Reg.ueTime = s.now) ∧
    (∀ (s : State) (c : Fin 12) (line : Nat) (err : List Byte) (k o : Nat),
      linksLive s = true →
      offsetOfLine s c line = some (k, o) →
      s.fld Reg.scrubHours ≠ 0 →
      s.fld (Reg.ddrState c) = 0 →
      isUe s (c * 2 ^ 34 + line) = false →
      (err.all (fun b => decide (b = 0)) = true) →
      ∃ t, exec (.ddrScrubLine c line err) s = .next t ∧
        t.regs = s.regs ∧
        ((∀ a, Tab.get (fun _ => 0) t.mem.dram a = Tab.get (fun _ => 0) s.mem.dram a)) ∧
        t.mem.ue = s.mem.ue) ∧
    (∀ (s : State) (c : Fin 12),
      linksLive s = true →
      scrubLate s c = true →
      (s.fld (Reg.ddrState c) = 1 ∨ s.fld (Reg.ddrState c) = 2) →
      .ddr c ∉ s.waking →
      ghostLight s = false →
      inDoze s (.ddr c) = false →
      ∃ t, exec (.scrubWake c) s = .next t ∧
        t.waking = s.waking ++ [.ddr c] ∧
        c.val ∈ t.mem.catchUp ∧
        t.regs = s.regs) ∧
    (∀ (s : State) (c : Fin 12) (sub : Fin 2) (device : Fin 10),
      linksLive s = true →
      markDue s c sub device = true →
      ∃ t, exec (.deviceMark c sub device) s = .next t ∧
        t.fld (Reg.chMark c sub) = device.val + 1 ∧
        t.fld Reg.devMarked = 1 ∧
        t.mem = s.mem ∧
        onlyRegs [(Reg.chMark c sub).off, Reg.devMarked.off] s t = true) ∧
    (∀ (s : State) (write : Bool) (addr : Nat) (enables : BitVec 64) (bytes err : List Byte) (o k : Nat),
      linksLive s = true →
      (s.fld Reg.hostMode = hmCxl20 ∨ s.fld Reg.hostMode = hmCxl11) →
      hostDpa s addr = some o →
      write = false →
      (hostVerdict s ⟨false, addr, o, enables.toNat, bytes, err, s.swc.inbox.filter (fun h => onLine s h.frame o 64), false⟩ = .inr k) →
      (hostBlocked s ⟨false, addr, o, enables.toNat, bytes, err, s.swc.inbox.filter (fun h => onLine s h.frame o 64), false⟩ = false) →
      s.mem.ue = [] →
      err = [] →
      ∃ t, exec (.hostMemAccess write addr enables bytes err) s = .next t ∧
        t.outbox = s.outbox ++ [.hostData addr (poolRead s k o 64)] ∧
        t.mem = s.mem) ∧
    (∀ (s : State) (write : Bool) (addr : Nat) (enables : BitVec 64) (bytes err : List Byte) (o k : Nat),
      linksLive s = true →
      (s.fld Reg.hostMode = hmCxl20 ∨ s.fld Reg.hostMode = hmCxl11) →
      hostDpa s addr = some o →
      write = true →
      (hostVerdict s ⟨true, addr, o, enables.toNat, bytes, err, s.swc.inbox.filter (fun h => onLine s h.frame o 64), false⟩ = .inr k) →
      (hostBlocked s ⟨true, addr, o, enables.toNat, bytes, err, s.swc.inbox.filter (fun h => onLine s h.frame o 64), false⟩ = false) →
      enables.toNat = 2 ^ 64 - 1 →
      mirroredRegions s none o 64 = [] →
      ∃ t, exec (.hostMemAccess write addr enables bytes err) s = .next t ∧
        t.outbox = s.outbox ++ [.hostDone addr true] ∧
        t.mem.dram = (poolWrite k o (padTo 64 bytes) s).mem.dram) ∧
    (∀ (s : State) (write : Bool) (addr : Nat) (enables : BitVec 64) (bytes err : List Byte),
      linksLive s = true →
      (s.fld Reg.hostMode = hmCxl20 ∨ s.fld Reg.hostMode = hmCxl11) →
      hostDpa s addr = none →
      ∃ t, exec (.hostMemAccess write addr enables bytes err) s = .next t ∧
        t.fld Reg.memCfgErr = 1 ∧
        t.mem = s.mem ∧
        t.host.nextRec ≥ s.host.nextRec) ∧
    (∀ (s : State) (d : Fin 2) (base size skip ways : Nat) (lock : Bool),
      linksLive s = true →
      s.fld Reg.hostMode = hmCxl20 →
      ((s.hdm d).committed && (s.hdm d).locked) = false →
      ways = 1 →
      dpaBase (s.setHdm d (Hdm.mk false false false base size skip)) d + size ≤ s.host.capacity →
      ∃ t, exec (.hdmCommit d base size skip ways lock) s = .next t ∧
        t.hdm d = Hdm.mk true false lock base size skip ∧
        t.regs = s.regs) ∧
    (∀ (s : State) (d : Fin 2) (base size skip ways : Nat) (lock : Bool),
      linksLive s = true →
      s.fld Reg.hostMode = hmCxl20 →
      ((s.hdm d).committed && (s.hdm d).locked) = false →
      ways ≠ 1 →
      ∃ t, exec (.hdmCommit d base size skip ways lock) s = .next t ∧
        t.hdm d = Hdm.mk false true false base size skip ∧
        t.regs = s.regs)

/-- A swung tile gives its logical number to the lowest SPARE tile of its wing, which takes it over through quarantine, and is RETIRED and
Off; without a SPARE the write is refused. A retired tile holds no logical number; RETURN brings it back through quarantine. A due row
takes a swing row of its bank, or its region is retired. The range of a zeroing reads 0 when it ends. The scrubber logs an uncorrectable
word. (R225, R226, R246, R247, R248, R252.) -/
def Obligations.TilesAndRowsAct : Prop :=
    (∀ (s : State) (p : Fin 240) (r l : Nat),
      linksLive s = true →
      spareTile s (p.val / 60) = some r →
      s.fld (Reg.tileLogical p) = l →
      l < 232 →
      s.fld (Reg.tileRole p) ≠ 1 →
      ∃ t, exec (.tileSwingCmd p) s = .next t ∧
        t.fld (Reg.tmap l) = r ∧
        t.fld (Reg.tileLogical r) = l ∧
        t.fld (Reg.tileRole r) = 2 ∧
        t.fld (Reg.quarTile r) = 1 ∧
        t.fld (Reg.tileRole p) = 3 ∧
        unitState t (.tile p) = 3 ∧
        t.mem = s.mem) ∧
    (∀ (s : State) (p : Fin 240),
      linksLive s = true →
      spareTile s (p.val / 60) = none →
      ∃ t, exec (.tileSwingCmd p) s = .next t ∧
        t.fld Reg.tenCfgErr = 1 ∧
        t.fld (Reg.tileRole p) = s.fld (Reg.tileRole p) ∧
        t.ten = s.ten ∧
        onlyRegs [Reg.tenCfgErr.off, (Reg.tileRole p).off] s t = true) ∧
    (∀ (s : State) (p : Fin 240) (r l : Nat),
      linksLive s = true →
      reloadsDue s p = true →
      spareTile s (p.val / 60) = some r →
      s.fld (Reg.tileLogical p) = l →
      l < 232 →
      s.fld (Reg.tileRole p) ≠ 1 →
      ∃ t, exec (.tileReloadThreshold p) s = .next t ∧
        t.fld (Reg.tmap l) = r ∧
        t.fld (Reg.tileLogical r) = l ∧
        t.fld (Reg.tileRole r) = 2 ∧
        t.fld (Reg.quarTile r) = 1 ∧
        t.fld (Reg.tileRole p) = 3 ∧
        unitState t (.tile p) = 3 ∧
        t.mem = s.mem) ∧
    (∀ (s : State) (p : Fin 240) (l : Nat),
      linksLive s = true →
      s.fld (Reg.tileRole p) ≠ 3 →
      s.fld (Reg.tileLogical p) = l →
      ((List.range 232).all (fun j => decide (j = l ∨ s.fld (Reg.tmap j) ≠ p.val)) = true) →
      ∃ t, exec (.tileRetireCmd p) s = .next t ∧
        t.fld (Reg.tileRole p) = 3 ∧
        t.fld (Reg.tileLogical p) = 0xFF ∧
        unitState t (.tile p) = 3 ∧
        t.fld Reg.tileRetired = 1 ∧
        t.mem = s.mem) ∧
    (∀ (s : State) (p : Fin 240),
      linksLive s = true →
      s.fld (Reg.tileRole p) = 3 →
      ∃ t, exec (.tileReturnCmd p) s = .next t ∧
        t.fld (Reg.tileRole p) = 2 ∧
        t.fld (Reg.quarTile p) = 1 ∧
        (unitState t (.tile p) = (if ghostLight s then 2 else 0)) ∧
        t.ten = s.ten) ∧
    (∀ (s : State) (row : Fin 2097152) (n : Nat),
      linksLive s = true →
      rowDue s row = true →
      (n = Tab.get (fun _ => 0) s.ten.rowsUsed (bankOf row)) →
      n < 16 →
      ∃ t, exec (.rowSwing row) s = .next t ∧
        (Tab.get (fun _ => 0) t.ten.rowsUsed (bankOf row) = n + 1) ∧
        t.fld Reg.rowSwung = 1 ∧
        t.ten.sp = s.ten.sp ∧
        t.mem = s.mem) ∧
    (∀ (s : State) (row : Fin 2097152) (n : Nat),
      linksLive s = true →
      rowDue s row = true →
      (n = Tab.get (fun _ => 0) s.ten.rowsUsed (bankOf row)) →
      16 ≤ n →
      row.val / 256 ∉ s.ten.retired →
      row.val / 256 ∉ s.ten.pendingRetire →
      regionPlaced s (row.val / 256) = false →
      ∃ t, exec (.rowSwing row) s = .next t ∧
        row.val / 256 ∈ t.ten.retired ∧
        t.fld Reg.regionRetired = 1 ∧
        t.ten.sp = s.ten.sp ∧
        t.mem = s.mem) ∧
    (∀ (s : State) (word : Fin 16777216) (err : List Byte),
      linksLive s = true →
      unitState s (.scratch ⟨spWing (word.val * 32), Nat.mod_lt _ (by decide)⟩) ≠ 3 →
      wordUe s word = true →
      ∃ t, exec (.spScrub word err) s = .next t ∧
        t.fld Reg.spUncorr = 1 ∧
        t.fld Reg.spUeLog = word.val * 32 ∧
        t.ten = s.ten) ∧
    (∀ (s : State) (word : Fin 16777216) (err : List Byte),
      linksLive s = true →
      wordUe s word = false →
      (err.all (fun b => decide (b = 0)) = true) →
      ∃ t, exec (.spScrub word err) s = .next t ∧
        t.ten = s.ten ∧
        t.mem = s.mem ∧
        t.cue = s.cue ∧
        onlyRegs [] s t = true) ∧
    (∀ (s : State) (base n o : Nat),
      linksLive s = true →
      (s.ten.zeroing.find? (fun z => decide (z.1 = base)) = some (base, n)) →
      base ≤ o →
      o < base + n →
      s.col.placing = [] →
      ∃ t, exec (.rangeZeroingComplete base) s = .next t ∧
        spByte t o = 0 ∧
        t.ten.zeroing = s.ten.zeroing.erase (base, n) ∧
        t.regs = s.regs)

/-- A read of space 1 that passes R245 is answered with the bytes of the scratchpad, and a write the filter has not seen stores its
payload. A read of the status page or of the cue store is answered with its bytes; a write of the store outside loaded images stores its
payload when STORE_WE allows it. The host writes the store through BAR2. (R245, R263, R264, R288, R289.) -/
def Obligations.ScratchpadAndStoreServe : Prop :=
    (∀ (s : State) (f : Frame) (h : InFrame) (o : Nat) (errs : List (Nat × List Byte)),
      linksLive s = true →
      inboxOf s f = some h →
      isSpaceRequest 1 f = true →
      o = spaceOffset f →
      scratchRefused s f = false →
      spanAwake s o (requestBytes f) = true →
      Frame.type f = tyReqRd →
      s.ten.ue = [] →
      errs = [] →
      ∃ t, exec (.scratchpadRequest f errs) s = .next t ∧
        t = answerData f (spRead s o (requestBytes f)) (readWords o (requestBytes f) [] (dropInbox h s))) ∧
    (∀ (s : State) (f : Frame) (h : InFrame) (o : Nat) (errs : List (Nat × List Byte)),
      linksLive s = true →
      inboxOf s f = some h →
      isSpaceRequest 1 f = true →
      o = spaceOffset f →
      scratchRefused s f = false →
      spanAwake s o (requestBytes f) = true →
      Frame.type f = tyReqWr →
      heldByMove s f = false →
      s.ten.ue = [] →
      errs = [] →
      anyChannel s = true →
      filterJudge s (sourceOf f) (myChip s) (Frame.seq f) false = .apply →
      ∃ t, exec (.scratchpadRequest f errs) s = .next t ∧
        t.ten.sp = (spWrite o f.payload s).ten.sp ∧
        t.mem = s.mem) ∧
    (∀ (s : State) (f : Frame) (h : InFrame) (o : Nat) (errs : List (Nat × List Byte)),
      linksLive s = true →
      inboxOf s f = some h →
      isSpaceRequest 1 f = true →
      o = spaceOffset f →
      scratchRefused s f = true →
      heldByMove s f = false →
      ∃ t, exec (.scratchpadRequest f errs) s = .next t ∧
        t = answerErr f Err.memRange (dropInbox h s)) ∧
    (∀ (s : State) (f : Frame) (h : InFrame) (o : Nat),
      linksLive s = true →
      inboxOf s f = some h →
      isSpaceRequest 2 f = true →
      o = spaceOffset f →
      Frame.type f = tyReqRd →
      o % 16 = 0 →
      o + (Frame.op f + 1) * 16 ≤ 0x10000 →
      ∃ t, exec (.statusPageRequest f) s = .next t ∧
        t = answerData f (statusBytes s o ((Frame.op f + 1) * 16)) (dropInbox h s)) ∧
    (∀ (s : State) (f : Frame) (h : InFrame) (o : Nat),
      linksLive s = true →
      inboxOf s f = some h →
      isSpaceRequest 2 f = true →
      o = spaceOffset f →
      Frame.type f ≠ tyReqRd →
      ∃ t, exec (.statusPageRequest f) s = .next t ∧
        t = answerErr f Err.memRange (dropInbox h s)) ∧
    (∀ (s : State) (f : Frame) (h : InFrame) (o : Nat),
      linksLive s = true →
      inboxOf s f = some h →
      isSpaceRequest 3 f = true →
      o = spaceOffset f →
      Frame.type f = tyReqRd →
      o % 16 = 0 →
      o + (Frame.op f + 1) * 16 ≤ storeSize →
      ∃ t, exec (.cueStoreRequest f) s = .next t ∧
        t = answerData f (storeBytes s o ((Frame.op f + 1) * 16)) (dropInbox h s)) ∧
    (∀ (s : State) (f : Frame) (h : InFrame) (o : Nat),
      linksLive s = true →
      inboxOf s f = some h →
      isSpaceRequest 3 f = true →
      o = spaceOffset f →
      Frame.type f = tyReqWr →
      o % 16 = 0 →
      o + f.payload.length ≤ storeSize →
      s.fld Reg.storeWe ≠ 0 →
      Frame.op f = 0 →
      s.mem.moving = false →
      ((List.range f.payload.length).any (fun i => inImage s (o + i)) = false) →
      anyChannel s = true →
      filterJudge s (sourceOf f) (myChip s) (Frame.seq f) false = .apply →
      ∃ t, exec (.cueStoreRequest f) s = .next t ∧
        t.cue.store = (storeWrite o f.payload s).cue.store ∧
        t.mem = s.mem) ∧
    (∀ (s : State) (off : Nat) (bytes : List Byte),
      linksLive s = true →
      s.fld Reg.hostMode ≠ hmDown →
      ∃ t, exec (.cueStoreHostWrite off bytes) s = .next t ∧
        t.cue.store = (storeWrite off bytes s).cue.store ∧
        (t.fld Reg.codeWrite = (if (List.range bytes.length).any (fun i => inImage s (off + i)) then 1 else s.fld Reg.codeWrite)) ∧
        t.mem = s.mem ∧
        onlyRegs [Reg.codeWrite.off] s t = true) ∧
    (∀ (s : State) (off : Nat) (bytes : List Byte),
      linksLive s = true →
      s.fld Reg.hostMode = hmDown →
      ∃ t, exec (.cueStoreHostWrite off bytes) s = .next t ∧
        t = s)

/-- A load that passes Table 09-4 is BUSY until its ranges are zeroed and then DONE, one that fails is REFUSED with its cause; an idle
program unloads. A trigger is enabled and disabled by its ENABLE; a TIMER entry whose time has come counts a call, and adds PERIOD or is
disabled. A pending fire whose units are current starts its context with the PC at its entry. KILL ends a context, DISABLE holds a
sequencer. A settled counter is cleared to IDLE, another is refused. Quarantine ends when the unit holds the generation. (R48, R258, R259,
R261, R262, R263, R265, R268, R286, R291.) -/
def Obligations.ProgramsAndTriggersAct : Prop :=
    (∀ (s : State) (off n : Nat),
      linksLive s = true →
      s.fld Reg.loadResult ≠ 1 →
      loadCause s off = none →
      ((List.range 64).find? (fun m => (s.prog m).isNone) = some n) →
      ∃ t, exec (.programLoad off) s = .next t ∧
        t.fld Reg.loadResult = 1 ∧
        t.fld Reg.loadCause = 0 ∧
        t.fld Reg.loadProg = n ∧
        t.cue.loading = some n ∧
        (t.prog n).isSome = true ∧
        t.mem = s.mem ∧
        onlyRegs [Reg.loadResult.off, Reg.loadCause.off, Reg.loadProg.off, (Reg.spCapacity 0).off, (Reg.spCapacity 1).off, (Reg.spCapacity 2).off, (Reg.spCapacity 3).off, (Reg.spFree 0).off, (Reg.spFree 1).off, (Reg.spFree 2).off, (Reg.spFree 3).off, (Reg.spLargest 0).off, (Reg.spLargest 1).off, (Reg.spLargest 2).off, (Reg.spLargest 3).off, (Reg.spReserved 0).off, (Reg.spReserved 1).off, (Reg.spReserved 2).off, (Reg.spReserved 3).off, (Reg.regionsRetired 0).off, (Reg.regionsRetired 1).off, (Reg.regionsRetired 2).off, (Reg.regionsRetired 3).off] s t = true) ∧
    (∀ (s : State) (off c : Nat),
      linksLive s = true →
      s.fld Reg.loadResult ≠ 1 →
      loadCause s off = some c →
      ∃ t, exec (.programLoad off) s = .next t ∧
        t.fld Reg.loadResult = 4 ∧
        t.fld Reg.loadCause = c ∧
        t.cue = s.cue ∧
        onlyRegs [Reg.loadResult.off, Reg.loadCause.off] s t = true) ∧
    (∀ (s : State) (n : Fin 64),
      linksLive s = true →
      s.cue.loading = some n.val →
      ((footOf s n).any (fun r => waitsZeroing s r.1 r.2) = false) →
      ∃ t, exec .programLoadComplete s = .next t ∧
        t.fld Reg.loadResult = 2 ∧
        t.fld (Reg.cueProg n) = 1 ∧
        t.cue.loading = none ∧
        t.fld Reg.cueGen = (s.fld Reg.cueGen + 1) % 2 ^ Reg.cueGen.w ∧
        t.ten = s.ten) ∧
    (∀ (s : State) (n : Fin 64),
      linksLive s = true →
      s.fld Reg.loadResult ≠ 1 →
      (s.prog n).isSome = true →
      progRunning s n = false →
      progCrossing s n = false →
      ∃ t, exec (.programUnload n) s = .next t ∧
        t.prog n = none ∧
        t.fld Reg.loadResult = 3 ∧
        t.fld (Reg.cueProg n) = 0 ∧
        t.fld Reg.cueGen = (s.fld Reg.cueGen + 1) % 2 ^ Reg.cueGen.w ∧
        t.mem = s.mem) ∧
    (∀ (s : State) (i : Fin 1024) (on : Bool),
      linksLive s = true →
      s.fld (Reg.trigValid i) = 1 →
      on = true →
      s.fld (Reg.trigEnable i) = 0 →
      ∃ t, exec (.triggerEnable i on) s = .next t ∧
        t.fld (Reg.trigEnable i) = 1 ∧
        ((Tab.get (fun _ => Trig.init) t.cue.trigs i).nextFire = (if s.fld (Reg.trigKind i) = 2 then s.now + s.fld (Reg.trigPeriod i) else 0)) ∧
        t.mem = s.mem ∧
        onlyRegs [(Reg.trigEnable i).off] s t = true) ∧
    (∀ (s : State) (i : Fin 1024) (on : Bool),
      linksLive s = true →
      s.fld (Reg.trigValid i) = 1 →
      on = false →
      ∃ t, exec (.triggerEnable i on) s = .next t ∧
        t.fld (Reg.trigEnable i) = 0 ∧
        t.cue = s.cue ∧
        onlyRegs [(Reg.trigEnable i).off] s t = true) ∧
    (∀ (s : State) (i : Fin 1024) (on : Bool),
      linksLive s = true →
      s.fld (Reg.trigValid i) = 0 →
      ∃ t, exec (.triggerEnable i on) s = .next t ∧
        t.fld Reg.cueCfgErr = 1 ∧
        t.fld (Reg.trigEnable i) = s.fld (Reg.trigEnable i) ∧
        t.cue = s.cue ∧
        onlyRegs [Reg.cueCfgErr.off, (Reg.trigEnable i).off] s t = true) ∧
    (∀ (s : State) (i : Fin 1024),
      linksLive s = true →
      timerDue s i = true →
      ghostLight s = false →
      ∃ t, exec (.timerFire i) s = .next t ∧
        ((Tab.get (fun _ => Trig.init) t.cue.trigs i).nextFire = (Tab.get (fun _ => Trig.init) s.cue.trigs i).nextFire + s.fld (Reg.trigPeriod i)) ∧
        ((Tab.get (fun _ => Trig.init) t.cue.trigs i).fires = ((Tab.get (fun _ => Trig.init) s.cue.trigs i).fires + 1) % 2 ^ 64) ∧
        t.fld Reg.callCount = (s.fld Reg.callCount + 1) % 2 ^ Reg.callCount.w ∧
        (t.fld (Reg.trigEnable i) = (if s.fld (Reg.trigPeriodic i) = 0 then 0 else 1)) ∧
        t.mem = s.mem) ∧
    (∀ (s : State) (q : Fin 64) (i : Nat),
      linksLive s = true →
      nextPending s q = some i →
      s.ctx q = none →
      s.fld (Reg.seqDisable q) = 0 →
      ghostLight s = false →
      unitCurrent s (seqUnit q) = true →
      (workingSet s i).all (unitCurrent s) = true →
      ∃ t, exec (.contextStart q) s = .next t ∧
        t.fld (Reg.seqSt q) = sqRunning ∧
        t.fld (Reg.seqPc q) = s.fld (Reg.trigEntry i) ∧
        t.fld (Reg.seqTrig q) = i ∧
        t.fld (Reg.trigPending i) = 0 ∧
        (((t.ctx q).map (fun c => c.sreg 1)) = some ((Tab.get (fun _ => Trig.init) s.cue.trigs i).s1 % 2 ^ 64)) ∧
        t.mem = s.mem) ∧
    (∀ (s : State) (q : Fin 64),
      linksLive s = true →
      (s.ctx q).isSome = true →
      nextPending s q = none →
      ∃ t, exec (.seqKill q) s = .next t ∧
        t.ctx q = none ∧
        t.fld (Reg.seqSt q) = sqIdle ∧
        t.mem = s.mem ∧
        t.ten.sp = s.ten.sp) ∧
    (∀ (s : State) (q : Fin 64) (on : Bool),
      linksLive s = true →
      on = true →
      ∃ t, exec (.seqDisable q on) s = .next t ∧
        t.fld (Reg.seqDisable q) = 1 ∧
        t.fld (Reg.seqSt q) = s.fld (Reg.seqSt q) ∧
        t.cue = s.cue) ∧
    (∀ (s : State) (q : Fin 64) (on : Bool),
      linksLive s = true →
      on = false →
      nextPending s q = none →
      ∃ t, exec (.seqDisable q on) s = .next t ∧
        t.fld (Reg.seqDisable q) = 0 ∧
        t.cue = s.cue ∧
        onlyRegs [(Reg.seqDisable q).off, (Reg.seqSt q).off] s t = true) ∧
    (∀ (s : State) (c : Fin 1024),
      linksLive s = true →
      Ctr.settled (s.ctr c) = true →
      ∃ t, exec (.counterClear c) s = .next t ∧
        t.ctr c = Ctr.init ∧
        t.regs = s.regs ∧
        t.mem = s.mem) ∧
    (∀ (s : State) (c : Fin 1024),
      linksLive s = true →
      Ctr.settled (s.ctr c) = false →
      ∃ t, exec (.counterClear c) s = .next t ∧
        t.ctr c = s.ctr c ∧
        t.fld Reg.cueCfgErr = 1 ∧
        t.cue = s.cue ∧
        onlyRegs [Reg.cueCfgErr.off] s t = true) ∧
    (∀ (s : State) (u : UnitId) (p : Fin 240),
      linksLive s = true →
      quiet s = true →
      u = .tile p →
      unitState s u < 2 →
      s.fld (Reg.quarTile p) = 1 →
      s.fld (Reg.tileRole p) = 2 →
      ∃ t, exec (.quarantineComplete u) s = .next t ∧
        t.fld (Reg.quarTile p) = 0 ∧
        (t.fld (Reg.tileRole p) = (if s.fld (Reg.tileLogical p) = 0xFF then 1 else 0)) ∧
        t.mem = s.mem ∧
        onlyRegs [(Reg.quarTile p).off, (Reg.tileRole p).off] s t = true) ∧
    (∀ (s : State) (u : UnitId) (e : Fin 16),
      linksLive s = true →
      quiet s = true →
      u = .eng e →
      unitState s u < 2 →
      s.fld (Reg.quarEng e) = 1 →
      ∃ t, exec (.quarantineComplete u) s = .next t ∧
        t.fld (Reg.quarEng e) = 0 ∧
        t.mem = s.mem ∧
        onlyRegs [(Reg.quarEng e).off] s t = true) ∧
    (∀ (s : State) (u : UnitId) (q : Fin 64),
      linksLive s = true →
      quiet s = true →
      u = .seq q →
      unitState s u < 2 →
      s.fld (Reg.quarSeq q) = 1 →
      s.fld (Reg.seqSt q) = sqQuarantine →
      ∃ t, exec (.quarantineComplete u) s = .next t ∧
        t.fld (Reg.quarSeq q) = 0 ∧
        t.fld (Reg.seqSt q) = sqIdle ∧
        t.mem = s.mem ∧
        onlyRegs [(Reg.quarSeq q).off, (Reg.seqSt q).off] s t = true) ∧
    (∀ (s : State) (u : UnitId) (c : Fin 12),
      linksLive s = true →
      quiet s = true →
      u = .ddr c →
      unitState s u < 2 →
      s.fld (Reg.quarChan c) = 1 →
      s.fld (Reg.chState c) = chQuarantine →
      ∃ t, exec (.quarantineComplete u) s = .next t ∧
        t.fld (Reg.quarChan c) = 0 ∧
        t.fld (Reg.chState c) = chReady ∧
        t.mem.dram = s.mem.dram)

/-- A tensor instruction in flight that can run and meets no failure writes its result and leaves the tiles, a crossing feeds its output
to the engine. One that meets an uncorrectable word makes its sequencer FAULTED with MEM_UNCORR at the PC of the instruction. (R239, R269,
R270, R322.) -/
def Obligations.TensorInstructionsEnd : Prop :=
    (∀ (s : State) (id : Nat) (reloads : List (Fin 240)) (f : Flight),
      linksLive s = true →
      quiet s = true →
      ghostLight s = false →
      (s.ten.flights.find? (fun f => decide (f.id = id)) = some f) →
      flightBlocked s f = false →
      (flightUnits s f).all (unitCurrent s) = true →
      flightFailure (veiled none s) f = none →
      f.cross = none →
      ∃ t, exec (.tensorInstructionComplete id reloads) s = .next t ∧
        (t.ten.flights = s.ten.flights.filter (fun e => decide (e.id ≠ f.id))) ∧
        t.ten.sp = (writeResult (veiled none s) f.oper s).ten.sp ∧
        t.mem = s.mem) ∧
    (∀ (s : State) (id : Nat) (reloads : List (Fin 240)) (f : Flight) (k : Nat),
      linksLive s = true →
      quiet s = true →
      ghostLight s = false →
      (s.ten.flights.find? (fun f => decide (f.id = id)) = some f) →
      flightBlocked s f = false →
      (flightUnits s f).all (unitCurrent s) = true →
      flightFailure (veiled none s) f = none →
      f.cross = some k →
      s.opById k = none →
      ∃ t, exec (.tensorInstructionComplete id reloads) s = .next t ∧
        (t.ten.flights = s.ten.flights.filter (fun e => decide (e.id ≠ f.id))) ∧
        t.ten.sp = s.ten.sp ∧
        t.mem = s.mem) ∧
    (∀ (s : State) (id : Nat) (word : Fin 16777216) (f : Flight),
      linksLive s = true →
      quiet s = true →
      ghostLight s = false →
      (s.ten.flights.find? (fun f => decide (f.id = id)) = some f) →
      flightReady s f = true →
      ((readSpans s f.oper).any (fun e => (wordsOf e.1 e.2).any (fun x => decide (x.1 = word.val))) = true) →
      f.cross = none →
      f.owned = true →
      f.seq < 64 →
      s.fld (Reg.onFault f.seq) = 0 →
      (s.ctx f.seq).isSome = true →
      ∃ t, exec (.tensorLateFault id word) s = .next t ∧
        (t.ten.flights = s.ten.flights.filter (fun e => decide (e.id ≠ f.id))) ∧
        t.fld (Reg.seqSt f.seq) = sqFaulted ∧
        t.fld (Reg.seqErr f.seq) = Err.memUncorr ∧
        t.fld (Reg.seqPc f.seq) = f.pc % 2 ^ 20 ∧
        t.fld Reg.spUncorr = 1 ∧
        t.mem = s.mem)

/-- Each scalar instruction writes the register that it names with the value of R307 and goes on to the next instruction, with the other
registers of the context, the counters and the memories unchanged. Branches, calls and returns set the PC as R301 says, BRC by the phase
of its counter. TRAP faults with its code, HALT ends the context, FENCE waits for the sequencer's tensor instructions. (R271, R298, R301,
R304, R305, R306, R307.) -/
def Obligations.ScalarInstructionsAct : Prop :=
    (∀ (s : State) (q : Fin 64) (w : Nat) (a b : Nat),
      w = fetchWord s q →
      issues s q = true →
      Isa.opc w = 0x20 →
      follows s q = true →
      a = (s.theCtx q).sreg (Isa.ra1 w) →
      (b = (if Isa.immFlag1 w = 1 then Isa.imm w else (s.theCtx q).sreg (Isa.rb1 w))) →
      ∃ t, exec (.adds q) s = .next t ∧
        runsOn t q (s.fld (Reg.seqPc q) + 1) ((s.theCtx q).setS (Isa.rd1 w) ((a + b) % 2 ^ 64)) = true ∧
        t.cue.ctrs = s.cue.ctrs ∧
        t.ten = s.ten ∧
        t.mem = s.mem ∧
        t.swc = s.swc ∧
        onlyRegs [(Reg.seqSt q).off] s t = true) ∧
    (∀ (s : State) (q : Fin 64) (w : Nat) (a b : Nat),
      w = fetchWord s q →
      issues s q = true →
      Isa.opc w = 0x21 →
      follows s q = true →
      a = (s.theCtx q).sreg (Isa.ra1 w) →
      (b = (if Isa.immFlag1 w = 1 then Isa.imm w else (s.theCtx q).sreg (Isa.rb1 w))) →
      ∃ t, exec (.subs q) s = .next t ∧
        runsOn t q (s.fld (Reg.seqPc q) + 1) ((s.theCtx q).setS (Isa.rd1 w) ((a + 2 ^ 64 - b) % 2 ^ 64)) = true ∧
        t.cue.ctrs = s.cue.ctrs ∧
        t.ten = s.ten ∧
        t.mem = s.mem ∧
        t.swc = s.swc ∧
        onlyRegs [(Reg.seqSt q).off] s t = true) ∧
    (∀ (s : State) (q : Fin 64) (w : Nat) (a b : Nat),
      w = fetchWord s q →
      issues s q = true →
      Isa.opc w = 0x22 →
      follows s q = true →
      a = (s.theCtx q).sreg (Isa.ra1 w) →
      (b = (if Isa.immFlag1 w = 1 then Isa.imm w else (s.theCtx q).sreg (Isa.rb1 w))) →
      ∃ t, exec (.muls q) s = .next t ∧
        runsOn t q (s.fld (Reg.seqPc q) + 1) ((s.theCtx q).setS (Isa.rd1 w) ((a * b) % 2 ^ 64)) = true ∧
        t.cue.ctrs = s.cue.ctrs ∧
        t.ten = s.ten ∧
        t.mem = s.mem ∧
        t.swc = s.swc ∧
        onlyRegs [(Reg.seqSt q).off] s t = true) ∧
    (∀ (s : State) (q : Fin 64) (w : Nat) (a b : Nat),
      w = fetchWord s q →
      issues s q = true →
      Isa.opc w = 0x23 →
      follows s q = true →
      a = (s.theCtx q).sreg (Isa.ra1 w) →
      (b = (if Isa.immFlag1 w = 1 then Isa.imm w else (s.theCtx q).sreg (Isa.rb1 w))) →
      ∃ t, exec (.ands q) s = .next t ∧
        runsOn t q (s.fld (Reg.seqPc q) + 1) ((s.theCtx q).setS (Isa.rd1 w) ((Nat.land a b) % 2 ^ 64)) = true ∧
        t.cue.ctrs = s.cue.ctrs ∧
        t.ten = s.ten ∧
        t.mem = s.mem ∧
        t.swc = s.swc ∧
        onlyRegs [(Reg.seqSt q).off] s t = true) ∧
    (∀ (s : State) (q : Fin 64) (w : Nat) (a b : Nat),
      w = fetchWord s q →
      issues s q = true →
      Isa.opc w = 0x24 →
      follows s q = true →
      a = (s.theCtx q).sreg (Isa.ra1 w) →
      (b = (if Isa.immFlag1 w = 1 then Isa.imm w else (s.theCtx q).sreg (Isa.rb1 w))) →
      ∃ t, exec (.ors q) s = .next t ∧
        runsOn t q (s.fld (Reg.seqPc q) + 1) ((s.theCtx q).setS (Isa.rd1 w) ((Nat.lor a b) % 2 ^ 64)) = true ∧
        t.cue.ctrs = s.cue.ctrs ∧
        t.ten = s.ten ∧
        t.mem = s.mem ∧
        t.swc = s.swc ∧
        onlyRegs [(Reg.seqSt q).off] s t = true) ∧
    (∀ (s : State) (q : Fin 64) (w : Nat) (a b : Nat),
      w = fetchWord s q →
      issues s q = true →
      Isa.opc w = 0x25 →
      follows s q = true →
      a = (s.theCtx q).sreg (Isa.ra1 w) →
      (b = (if Isa.immFlag1 w = 1 then Isa.imm w else (s.theCtx q).sreg (Isa.rb1 w))) →
      ∃ t, exec (.xors q) s = .next t ∧
        runsOn t q (s.fld (Reg.seqPc q) + 1) ((s.theCtx q).setS (Isa.rd1 w) ((Nat.xor a b) % 2 ^ 64)) = true ∧
        t.cue.ctrs = s.cue.ctrs ∧
        t.ten = s.ten ∧
        t.mem = s.mem ∧
        t.swc = s.swc ∧
        onlyRegs [(Reg.seqSt q).off] s t = true) ∧
    (∀ (s : State) (q : Fin 64) (w : Nat) (a b : Nat),
      w = fetchWord s q →
      issues s q = true →
      Isa.opc w = 0x26 →
      follows s q = true →
      a = (s.theCtx q).sreg (Isa.ra1 w) →
      (b = (if Isa.immFlag1 w = 1 then Isa.imm w else (s.theCtx q).sreg (Isa.rb1 w))) →
      ∃ t, exec (.shls q) s = .next t ∧
        runsOn t q (s.fld (Reg.seqPc q) + 1) ((s.theCtx q).setS (Isa.rd1 w) ((a <<< (b % 64)) % 2 ^ 64)) = true ∧
        t.cue.ctrs = s.cue.ctrs ∧
        t.ten = s.ten ∧
        t.mem = s.mem ∧
        t.swc = s.swc ∧
        onlyRegs [(Reg.seqSt q).off] s t = true) ∧
    (∀ (s : State) (q : Fin 64) (w : Nat) (a b : Nat),
      w = fetchWord s q →
      issues s q = true →
      Isa.opc w = 0x27 →
      follows s q = true →
      a = (s.theCtx q).sreg (Isa.ra1 w) →
      (b = (if Isa.immFlag1 w = 1 then Isa.imm w else (s.theCtx q).sreg (Isa.rb1 w))) →
      ∃ t, exec (.shrs q) s = .next t ∧
        runsOn t q (s.fld (Reg.seqPc q) + 1) ((s.theCtx q).setS (Isa.rd1 w) ((a >>> (b % 64)) % 2 ^ 64)) = true ∧
        t.cue.ctrs = s.cue.ctrs ∧
        t.ten = s.ten ∧
        t.mem = s.mem ∧
        t.swc = s.swc ∧
        onlyRegs [(Reg.seqSt q).off] s t = true) ∧
    (∀ (s : State) (q : Fin 64) (w : Nat),
      w = fetchWord s q →
      issues s q = true →
      Isa.opc w = 0x28 →
      follows s q = true →
      Isa.immFlag1 w = 1 →
      Isa.ra1 w = 0 →
      Isa.rb1 w = 0 →
      Isa.dcls w = 0 →
      ∃ t, exec (.ldis q) s = .next t ∧
        runsOn t q (s.fld (Reg.seqPc q) + 1) ((s.theCtx q).setS (Isa.rd1 w) (Isa.imm w)) = true ∧
        t.cue.ctrs = s.cue.ctrs ∧
        t.ten = s.ten ∧
        t.mem = s.mem ∧
        t.swc = s.swc ∧
        onlyRegs [(Reg.seqSt q).off] s t = true) ∧
    (∀ (s : State) (q : Fin 64) (w : Nat),
      w = fetchWord s q →
      issues s q = true →
      Isa.opc w = 0x28 →
      follows s q = true →
      Isa.immFlag1 w = 1 →
      Isa.ra1 w = 0 →
      Isa.rb1 w = 0 →
      Isa.dcls w = 1 →
      Isa.imm w / 2 ^ 16 = 0 →
      bitsOf (Isa.imm w) 12 3 = 0 →
      ∃ t, exec (.ldis q) s = .next t ∧
        runsOn t q (s.fld (Reg.seqPc q) + 1) ((s.theCtx q).setG (Isa.rd1 w) (Isa.imm w)) = true ∧
        t.cue.ctrs = s.cue.ctrs ∧
        t.ten = s.ten ∧
        t.mem = s.mem ∧
        t.swc = s.swc ∧
        onlyRegs [(Reg.seqSt q).off] s t = true) ∧
    (∀ (s : State) (q : Fin 64) (w : Nat),
      w = fetchWord s q →
      issues s q = true →
      Isa.opc w = 0x29 →
      follows s q = true →
      Isa.dcls w = 0 →
      ∃ t, exec (.movs q) s = .next t ∧
        (runsOn t q (s.fld (Reg.seqPc q) + 1) ((s.theCtx q).setS (Isa.rd1 w) (if Isa.acls w = 0 then (s.theCtx q).sreg (Isa.ra1 w) else (s.theCtx q).greg (Isa.ra1 w))) = true) ∧
        t.cue.ctrs = s.cue.ctrs ∧
        t.ten = s.ten ∧
        t.mem = s.mem ∧
        t.swc = s.swc ∧
        onlyRegs [(Reg.seqSt q).off] s t = true) ∧
    (∀ (s : State) (q : Fin 64) (w : Nat) (v : Nat),
      w = fetchWord s q →
      issues s q = true →
      Isa.opc w = 0x29 →
      follows s q = true →
      Isa.dcls w = 1 →
      (v = (if Isa.acls w = 0 then (s.theCtx q).sreg (Isa.ra1 w) else (s.theCtx q).greg (Isa.ra1 w))) →
      v / 2 ^ 16 = 0 →
      bitsOf v 12 3 = 0 →
      ∃ t, exec (.movs q) s = .next t ∧
        runsOn t q (s.fld (Reg.seqPc q) + 1) ((s.theCtx q).setG (Isa.rd1 w) v) = true ∧
        t.cue.ctrs = s.cue.ctrs ∧
        t.ten = s.ten ∧
        t.mem = s.mem ∧
        t.swc = s.swc ∧
        onlyRegs [(Reg.seqSt q).off] s t = true) ∧
    (∀ (s : State) (q : Fin 64) (w : Nat),
      w = fetchWord s q →
      issues s q = true →
      Isa.opc w = 0x2a →
      follows s q = true →
      ∃ t, exec (.cmps q) s = .next t ∧
        runsOn t q (s.fld (Reg.seqPc q) + 1) ((s.theCtx q).setP (Isa.pd1 w) (condHolds (Isa.cond w) ((s.theCtx q).sreg (Isa.ra1 w)) (operandB (s.theCtx q) w))) = true ∧
        t.cue.ctrs = s.cue.ctrs ∧
        t.ten = s.ten ∧
        t.mem = s.mem ∧
        t.swc = s.swc ∧
        onlyRegs [(Reg.seqSt q).off] s t = true) ∧
    (∀ (s : State) (q : Fin 64) (w : Nat),
      w = fetchWord s q →
      issues s q = true →
      Isa.opc w = 0x0 →
      follows s q = true →
      ∃ t, exec (.nop q) s = .next t ∧
        runsOn t q (s.fld (Reg.seqPc q) + 1) ((s.theCtx q)) = true ∧
        t.cue.ctrs = s.cue.ctrs ∧
        t.ten = s.ten ∧
        t.mem = s.mem ∧
        t.swc = s.swc ∧
        onlyRegs [(Reg.seqSt q).off] s t = true) ∧
    (∀ (s : State) (q : Fin 64) (w : Nat),
      w = fetchWord s q →
      issues s q = true →
      Isa.opc w = 0x1 →
      bitsOf w 0 20 < insnsOf s q →
      ∃ t, exec (.bra q) s = .next t ∧
        runsOn t q (bitsOf w 0 20) ((s.theCtx q)) = true ∧
        t.cue.ctrs = s.cue.ctrs ∧
        t.ten = s.ten ∧
        t.mem = s.mem ∧
        t.swc = s.swc ∧
        onlyRegs [(Reg.seqSt q).off] s t = true) ∧
    (∀ (s : State) (q : Fin 64) (w : Nat),
      w = fetchWord s q →
      issues s q = true →
      Isa.opc w = 0x2 →
      (bitsOf w 20 16).testBit (Ctr.phase (s.ctr (Isa.ctr0 w))) = true →
      bitsOf w 0 20 < insnsOf s q →
      ∃ t, exec (.brc q) s = .next t ∧
        runsOn t q (bitsOf w 0 20) ((s.theCtx q)) = true ∧
        t.cue.ctrs = s.cue.ctrs ∧
        t.ten = s.ten ∧
        t.mem = s.mem ∧
        t.swc = s.swc ∧
        onlyRegs [(Reg.seqSt q).off] s t = true) ∧
    (∀ (s : State) (q : Fin 64) (w : Nat),
      w = fetchWord s q →
      issues s q = true →
      Isa.opc w = 0x2 →
      follows s q = true →
      (bitsOf w 20 16).testBit (Ctr.phase (s.ctr (Isa.ctr0 w))) = false →
      ∃ t, exec (.brc q) s = .next t ∧
        runsOn t q (s.fld (Reg.seqPc q) + 1) ((s.theCtx q)) = true ∧
        t.cue.ctrs = s.cue.ctrs ∧
        t.ten = s.ten ∧
        t.mem = s.mem ∧
        t.swc = s.swc ∧
        onlyRegs [(Reg.seqSt q).off] s t = true) ∧
    (∀ (s : State) (q : Fin 64) (w : Nat),
      w = fetchWord s q →
      issues s q = true →
      Isa.opc w = 0x3 →
      (s.theCtx q).stack.length < 8 →
      bitsOf w 0 20 < insnsOf s q →
      ∃ t, exec (.callTo q) s = .next t ∧
        runsOn t q (bitsOf w 0 20) ({ (s.theCtx q) with stack := (s.fld (Reg.seqPc q) + 1) :: (s.theCtx q).stack }) = true ∧
        t.cue.ctrs = s.cue.ctrs ∧
        t.ten = s.ten ∧
        t.mem = s.mem ∧
        t.swc = s.swc ∧
        onlyRegs [(Reg.seqSt q).off] s t = true) ∧
    (∀ (s : State) (q : Fin 64) (w : Nat) (p : Nat) (r : List Nat),
      w = fetchWord s q →
      issues s q = true →
      Isa.opc w = 0x4 →
      (s.theCtx q).stack = p :: r →
      p < insnsOf s q →
      ∃ t, exec (.ret q) s = .next t ∧
        runsOn t q (p) ({ (s.theCtx q) with stack := r }) = true ∧
        t.cue.ctrs = s.cue.ctrs ∧
        t.ten = s.ten ∧
        t.mem = s.mem ∧
        t.swc = s.swc ∧
        onlyRegs [(Reg.seqSt q).off] s t = true) ∧
    (∀ (s : State) (q : Fin 64) (w : Nat),
      w = fetchWord s q →
      issues s q = true →
      Isa.opc w = 0x8 →
      follows s q = true →
      (flightsOf s q).isEmpty = true →
      ∃ t, exec (.fence q) s = .next t ∧
        runsOn t q (s.fld (Reg.seqPc q) + 1) ((s.theCtx q)) = true ∧
        t.cue.ctrs = s.cue.ctrs ∧
        t.ten = s.ten ∧
        t.mem = s.mem ∧
        t.swc = s.swc ∧
        onlyRegs [(Reg.seqSt q).off] s t = true) ∧
    (∀ (s : State) (q : Fin 64) (w : Nat),
      w = fetchWord s q →
      issues s q = true →
      Isa.opc w = 0x8 →
      (flightsOf s q).isEmpty = false →
      ∃ t, exec (.fence q) s = .next t ∧
        t.fld (Reg.seqSt q) = sqStalled ∧
        t.fld (Reg.seqPc q) = s.fld (Reg.seqPc q) ∧
        t.cue.ctrs = s.cue.ctrs ∧
        t.ten = s.ten ∧
        t.mem = s.mem ∧
        t.swc = s.swc ∧
        onlyRegs [(Reg.seqSt q).off, (Reg.seqPc q).off] s t = true) ∧
    (∀ (s : State) (q : Fin 64) (w : Nat),
      w = fetchWord s q →
      issues s q = true →
      Isa.opc w = 0x9 →
      s.fld (Reg.onFault q) = 0 →
      ∃ t, exec (.trap q) s = .next t ∧
        t.fld (Reg.seqSt q) = sqFaulted ∧
        t.fld (Reg.seqErr q) = Err.trap (bitsOf w 0 4) ∧
        t.fld (Reg.seqPc q) = s.fld (Reg.seqPc q) ∧
        t.fld Reg.seqFault = 1 ∧
        t.cue.ctrs = s.cue.ctrs ∧
        t.ten = s.ten ∧
        t.mem = s.mem ∧
        t.swc = s.swc ∧
        onlyRegs [(Reg.seqSt q).off, (Reg.seqErr q).off, (Reg.seqPc q).off, Reg.seqFault.off] s t = true) ∧
    (∀ (s : State) (q : Fin 64) (w : Nat),
      w = fetchWord s q →
      issues s q = true →
      Isa.opc w = 0xa →
      (flightsOf s q).isEmpty = true →
      nextPending s q = none →
      ∃ t, exec (.halt q) s = .next t ∧
        t.fld (Reg.seqSt q) = sqIdle ∧
        t.ctx q = none ∧
        t.mem = s.mem ∧
        t.swc = s.swc ∧
        onlyRegs [(Reg.seqSt q).off] s t = true) ∧
    (∀ (s : State) (q : Fin 64) (w : Nat),
      w = fetchWord s q →
      issues s q = true →
      Isa.opc w = 0xa →
      (flightsOf s q).isEmpty = false →
      ∃ t, exec (.halt q) s = .next t ∧
        t.fld (Reg.seqSt q) = sqStalled ∧
        t.fld (Reg.seqPc q) = s.fld (Reg.seqPc q) ∧
        t.cue.ctrs = s.cue.ctrs ∧
        t.ten = s.ten ∧
        t.mem = s.mem ∧
        t.swc = s.swc ∧
        onlyRegs [(Reg.seqSt q).off, (Reg.seqPc q).off] s t = true)

/-- A WAITC whose counter is settled, or in mode 1 has landed as many chunks as asked, completes with the status word and its predicate 1,
mode 2 clearing the counter; before that the sequencer is WAITING, and at its timeout the WAITC completes with predicate 0. SIGC binds one
chunk, which lands at once when the sequencer has no tensor instruction in flight. DOZE of the sequencer itself makes it DOZING until its
time or its counter; DOZE of tiles or engines puts those that are free to sleep. (R287, R302, R303.) -/
def Obligations.WaitsAndSignalsAct : Prop :=
    (∀ (s : State) (q : Fin 64) (w : Nat),
      w = fetchWord s q →
      issues s q = true →
      Isa.opc w = 0x5 →
      Isa.mode w = 0 →
      follows s q = true →
      Ctr.settled (s.ctr (Isa.ctr0 w)) = true →
      ∃ t, exec (.waitcSettled q) s = .next t ∧
        runsOn t q (s.fld (Reg.seqPc q) + 1) (((s.theCtx q).setS (Isa.rd0 w) (Ctr.word (s.ctr (Isa.ctr0 w))).toNat).setP (Isa.pd0 w) true) = true ∧
        t.cue.ctrs = s.cue.ctrs ∧
        t.ten = s.ten ∧
        t.mem = s.mem ∧
        onlyRegs [(Reg.seqSt q).off] s t = true) ∧
    (∀ (s : State) (q : Fin 64) (w : Nat),
      w = fetchWord s q →
      issues s q = true →
      Isa.opc w = 0x5 →
      Isa.mode w = 0 →
      Ctr.settled (s.ctr (Isa.ctr0 w)) = false →
      ∃ t, exec (.waitcSettled q) s = .next t ∧
        t.fld (Reg.seqSt q) = sqWaiting ∧
        (t.ctx q = some { (s.theCtx q) with until_ := if bitsOf w 0 32 = 0 then 0 else s.now + bitsOf w 0 32 }) ∧
        t.fld (Reg.seqPc q) = s.fld (Reg.seqPc q) ∧
        t.cue.ctrs = s.cue.ctrs ∧
        t.ten = s.ten ∧
        t.mem = s.mem ∧
        t.swc = s.swc ∧
        onlyRegs [(Reg.seqSt q).off, (Reg.seqPc q).off] s t = true) ∧
    (∀ (s : State) (q : Fin 64) (w : Nat),
      w = fetchWord s q →
      issues s q = true →
      Isa.opc w = 0x5 →
      Isa.mode w = 1 →
      follows s q = true →
      (Ctr.settled (s.ctr (Isa.ctr0 w)) = true ∨ (s.theCtx q).sreg (Isa.ra0 w) ≤ (s.ctr (Isa.ctr0 w)).progress % 2 ^ 32) →
      ∃ t, exec (.waitcProgress q) s = .next t ∧
        runsOn t q (s.fld (Reg.seqPc q) + 1) (((s.theCtx q).setS (Isa.rd0 w) (Ctr.word (s.ctr (Isa.ctr0 w))).toNat).setP (Isa.pd0 w) true) = true ∧
        t.cue.ctrs = s.cue.ctrs ∧
        t.ten = s.ten ∧
        t.mem = s.mem ∧
        onlyRegs [(Reg.seqSt q).off] s t = true) ∧
    (∀ (s : State) (q : Fin 64) (w : Nat),
      w = fetchWord s q →
      issues s q = true →
      Isa.opc w = 0x5 →
      Isa.mode w = 1 →
      Ctr.settled (s.ctr (Isa.ctr0 w)) = false →
      (s.ctr (Isa.ctr0 w)).progress % 2 ^ 32 < (s.theCtx q).sreg (Isa.ra0 w) →
      ∃ t, exec (.waitcProgress q) s = .next t ∧
        t.fld (Reg.seqSt q) = sqWaiting ∧
        (t.ctx q = some { (s.theCtx q) with until_ := if bitsOf w 0 32 = 0 then 0 else s.now + bitsOf w 0 32 }) ∧
        t.fld (Reg.seqPc q) = s.fld (Reg.seqPc q) ∧
        t.cue.ctrs = s.cue.ctrs ∧
        t.ten = s.ten ∧
        t.mem = s.mem ∧
        t.swc = s.swc ∧
        onlyRegs [(Reg.seqSt q).off, (Reg.seqPc q).off] s t = true) ∧
    (∀ (s : State) (q : Fin 64) (w : Nat),
      w = fetchWord s q →
      issues s q = true →
      Isa.opc w = 0x5 →
      Isa.mode w = 2 →
      follows s q = true →
      Ctr.settled (s.ctr (Isa.ctr0 w)) = true →
      ∃ t, exec (.waitcSettledClear q) s = .next t ∧
        runsOn t q (s.fld (Reg.seqPc q) + 1) (((s.theCtx q).setS (Isa.rd0 w) (Ctr.word (s.ctr (Isa.ctr0 w))).toNat).setP (Isa.pd0 w) true) = true ∧
        t.ctr (Isa.ctr0 w) = Ctr.init ∧
        t.ten = s.ten ∧
        t.mem = s.mem ∧
        onlyRegs [(Reg.seqSt q).off] s t = true) ∧
    (∀ (s : State) (q : Fin 64) (w : Nat),
      w = fetchWord s q →
      issues s q = true →
      Isa.opc w = 0x5 →
      Isa.mode w = 2 →
      Ctr.settled (s.ctr (Isa.ctr0 w)) = false →
      ∃ t, exec (.waitcSettledClear q) s = .next t ∧
        t.fld (Reg.seqSt q) = sqWaiting ∧
        (t.ctx q = some { (s.theCtx q) with until_ := if bitsOf w 0 32 = 0 then 0 else s.now + bitsOf w 0 32 }) ∧
        t.fld (Reg.seqPc q) = s.fld (Reg.seqPc q) ∧
        t.cue.ctrs = s.cue.ctrs ∧
        t.ten = s.ten ∧
        t.mem = s.mem ∧
        t.swc = s.swc ∧
        onlyRegs [(Reg.seqSt q).off, (Reg.seqPc q).off] s t = true) ∧
    (∀ (s : State) (q : Fin 64) (w : Nat),
      w = fetchWord s q →
      linksLive s = true →
      seqReady s q = true →
      s.fld (Reg.seqSt q) = sqWaiting →
      Isa.legal w = true →
      Isa.opc w = 5 →
      waitMet s q w = false →
      timedOut s q = true →
      follows s q = true →
      ∃ t, exec (.waitcTimeout q) s = .next t ∧
        runsOn t q (s.fld (Reg.seqPc q) + 1) (((s.theCtx q).setS (Isa.rd0 w) (Ctr.word (s.ctr (Isa.ctr0 w))).toNat).setP (Isa.pd0 w) false) = true ∧
        t.cue.ctrs = s.cue.ctrs ∧
        t.ten = s.ten ∧
        t.mem = s.mem ∧
        t.swc = s.swc ∧
        onlyRegs [(Reg.seqSt q).off] s t = true) ∧
    (∀ (s : State) (q : Fin 64) (w : Nat),
      w = fetchWord s q →
      issues s q = true →
      Isa.opc w = 0x6 →
      follows s q = true →
      inFlight s < 4096 →
      Ctr.binds (s.ctr (Isa.ctr0 w)) = true →
      flightsOf s q = [] →
      ∃ t, exec (.sigc q) s = .next t ∧
        runsOn t q (s.fld (Reg.seqPc q) + 1) ((s.theCtx q)) = true ∧
        t.ctr (Isa.ctr0 w) = Ctr.finish (Ctr.land false (Ctr.bind 1 (s.ctr (Isa.ctr0 w)))) ∧
        t.ten = s.ten ∧
        t.mem = s.mem ∧
        onlyRegs [(Reg.seqSt q).off] s t = true) ∧
    (∀ (s : State) (q : Fin 64) (w : Nat),
      w = fetchWord s q →
      issues s q = true →
      Isa.opc w = 0x6 →
      follows s q = true →
      inFlight s < 4096 →
      Ctr.binds (s.ctr (Isa.ctr0 w)) = true →
      flightsOf s q ≠ [] →
      ∃ t, exec (.sigc q) s = .next t ∧
        runsOn t q (s.fld (Reg.seqPc q) + 1) ((s.theCtx q)) = true ∧
        t.ctr (Isa.ctr0 w) = Ctr.bind 1 (s.ctr (Isa.ctr0 w)) ∧
        t.cue.sigs.length = s.cue.sigs.length + 1 ∧
        t.ten = s.ten ∧
        t.mem = s.mem ∧
        onlyRegs [(Reg.seqSt q).off] s t = true) ∧
    (∀ (s : State) (q : Fin 64) (w : Nat),
      w = fetchWord s q →
      issues s q = true →
      Isa.opc w = 0x7 →
      Isa.mode w = 0 →
      s.now < (s.theCtx q).sreg (Isa.ra0 w) →
      ∃ t, exec (.dozeSelf q) s = .next t ∧
        t.fld (Reg.seqSt q) = sqDozing ∧
        t.fld (Reg.seqState q) = 1 ∧
        t.ctx q = some { (s.theCtx q) with until_ := (s.theCtx q).sreg (Isa.ra0 w) } ∧
        t.cue.ctrs = s.cue.ctrs ∧
        t.ten = s.ten ∧
        t.mem = s.mem ∧
        onlyRegs [(Reg.seqSt q).off, (Reg.seqState q).off] s t = true) ∧
    (∀ (s : State) (q : Fin 64) (w : Nat),
      w = fetchWord s q →
      issues s q = true →
      Isa.opc w = 0x7 →
      Isa.mode w = 0 →
      follows s q = true →
      (s.theCtx q).sreg (Isa.ra0 w) ≤ s.now →
      ∃ t, exec (.dozeSelf q) s = .next t ∧
        runsOn t q (s.fld (Reg.seqPc q) + 1) ((s.theCtx q)) = true ∧
        t.cue.ctrs = s.cue.ctrs ∧
        t.ten = s.ten ∧
        t.mem = s.mem ∧
        t.swc = s.swc ∧
        onlyRegs [(Reg.seqSt q).off] s t = true) ∧
    (∀ (s : State) (q : Fin 64) (w : Nat),
      w = fetchWord s q →
      issues s q = true →
      Isa.opc w = 0x7 →
      Isa.mode w = 1 →
      s.now < (s.theCtx q).sreg (Isa.ra0 w) →
      Ctr.settled (s.ctr (Isa.ctr0 w)) = false →
      ∃ t, exec (.dozeSelfCtr q) s = .next t ∧
        t.fld (Reg.seqSt q) = sqDozing ∧
        t.fld (Reg.seqState q) = 1 ∧
        t.ctx q = some { (s.theCtx q) with until_ := (s.theCtx q).sreg (Isa.ra0 w) } ∧
        t.cue.ctrs = s.cue.ctrs ∧
        t.ten = s.ten ∧
        t.mem = s.mem ∧
        onlyRegs [(Reg.seqSt q).off, (Reg.seqState q).off] s t = true) ∧
    (∀ (s : State) (q : Fin 64) (w : Nat),
      w = fetchWord s q →
      issues s q = true →
      Isa.opc w = 0x7 →
      Isa.mode w = 1 →
      follows s q = true →
      ((s.theCtx q).sreg (Isa.ra0 w) ≤ s.now ∨ Ctr.settled (s.ctr (Isa.ctr0 w)) = true) →
      ∃ t, exec (.dozeSelfCtr q) s = .next t ∧
        runsOn t q (s.fld (Reg.seqPc q) + 1) ((s.theCtx q)) = true ∧
        t.cue.ctrs = s.cue.ctrs ∧
        t.ten = s.ten ∧
        t.mem = s.mem ∧
        t.swc = s.swc ∧
        onlyRegs [(Reg.seqSt q).off] s t = true) ∧
    (∀ (s : State) (q : Fin 64),
      linksLive s = true →
      dozeOver s q = true →
      follows s q = true →
      ∃ t, exec (.dozeWake q) s = .next t ∧
        runsOn t q (s.fld (Reg.seqPc q) + 1) ((s.theCtx q)) = true ∧
        t.fld (Reg.seqState q) = 0 ∧
        t.cue.ctrs = s.cue.ctrs ∧
        t.ten = s.ten ∧
        t.mem = s.mem ∧
        t.swc = s.swc ∧
        onlyRegs [(Reg.seqState q).off, (Reg.seqSt q).off] s t = true) ∧
    (∀ (s : State) (q : Fin 64) (w : Nat) (p : Fin 240) (l : Nat),
      w = fetchWord s q →
      issues s q = true →
      Isa.opc w = 0x7 →
      Isa.mode w = 2 →
      follows s q = true →
      bitsOf w 0 8 ≤ l →
      l < bitsOf w 0 8 + bitsOf w 8 8 →
      bitsOf w 0 8 + bitsOf w 8 8 ≤ 232 →
      w.testBit 16 = true →
      s.fld (Reg.tmap l) = p.val →
      unitState s (.tile p) = 0 →
      heldAwake s (.tile p) = false →
      unitBusy s (.tile p) = false →
      ∃ t, exec (.dozeTiles q) s = .next t ∧
        runsOn t q (s.fld (Reg.seqPc q) + 1) ((s.theCtx q)) = true ∧
        unitState t (.tile p) = 2 ∧
        t.mem = s.mem) ∧
    (∀ (s : State) (q : Fin 64) (w : Nat) (e : Fin 16),
      w = fetchWord s q →
      issues s q = true →
      Isa.opc w = 0x7 →
      Isa.mode w = 3 →
      follows s q = true →
      w.testBit e.val = true →
      w.testBit 16 = false →
      unitState s (.eng e) = 0 →
      unitBusy s (.eng e) = false →
      ∃ t, exec (.dozeEngines q) s = .next t ∧
        runsOn t q (s.fld (Reg.seqPc q) + 1) ((s.theCtx q)) = true ∧
        unitState t (.eng e) = 1 ∧
        t.mem = s.mem)

/-- LDS reads eight bytes of the status page or of the scratchpad within the program's footprint, STS writes them. DSET and DADD write one
field of a descriptor register, DCOPY copies a descriptor between registers or with the scratchpad. PFETCH and PSPILL bind their pieces to
a counter and start. ALLOC gives the lowest free range of the footprint, or all ones with predicate 0; FREE ends an allocation. (R308,
R309, R310, R311, R312, R313, R314.) -/
def Obligations.MemoryInstructionsAct : Prop :=
    (∀ (s : State) (q : Fin 64) (w : Nat) (o : Nat),
      w = fetchWord s q →
      issues s q = true →
      Isa.opc w = 0x40 →
      follows s q = true →
      o = effAddr s q w % 2 ^ 45 →
      addrOk s (effAddr s q w) = true →
      effAddr s q w / 2 ^ 60 = 1 →
      ownSpan s q o 8 = true →
      spanAwake s o 8 = true →
      firstBadWord s o 8 = none →
      flightWrites s q (o, o + 8) = false →
      ∃ t, exec (.lds q) s = .next t ∧
        runsOn t q (s.fld (Reg.seqPc q) + 1) ((s.theCtx q).setS (Isa.rd2 w) (leNat (spRead (veiled none s) o 8))) = true ∧
        t.cue.ctrs = s.cue.ctrs ∧
        t.ten = s.ten ∧
        t.mem = s.mem ∧
        t.swc = s.swc) ∧
    (∀ (s : State) (q : Fin 64) (w : Nat) (o : Nat),
      w = fetchWord s q →
      issues s q = true →
      Isa.opc w = 0x40 →
      follows s q = true →
      o = effAddr s q w % 2 ^ 45 →
      addrOk s (effAddr s q w) = true →
      effAddr s q w / 2 ^ 60 = 2 →
      o + 8 ≤ 0x10000 →
      ∃ t, exec (.lds q) s = .next t ∧
        runsOn t q (s.fld (Reg.seqPc q) + 1) ((s.theCtx q).setS (Isa.rd2 w) (leNat (statusBytes s o 8))) = true ∧
        t.cue.ctrs = s.cue.ctrs ∧
        t.ten = s.ten ∧
        t.mem = s.mem ∧
        t.swc = s.swc ∧
        onlyRegs [(Reg.seqSt q).off] s t = true) ∧
    (∀ (s : State) (q : Fin 64) (w : Nat) (o : Nat),
      w = fetchWord s q →
      issues s q = true →
      Isa.opc w = 0x41 →
      follows s q = true →
      o = effAddr s q w % 2 ^ 45 →
      addrOk s (effAddr s q w) = true →
      effAddr s q w / 2 ^ 60 = 1 →
      ownSpan s q o 8 = true →
      spanAwake s o 8 = true →
      firstBadWord s o 8 = none →
      flightTouches s q (o, o + 8) = false →
      ∃ t, exec (.sts q) s = .next t ∧
        runsOn t q (s.fld (Reg.seqPc q) + 1) ((s.theCtx q)) = true ∧
        t.ten.sp = (spWrite o (leBytes 8 ((s.theCtx q).sreg (Isa.rb2 w))) s).ten.sp ∧
        t.mem = s.mem ∧
        t.cue.ctrs = s.cue.ctrs) ∧
    (∀ (s : State) (q : Fin 64) (w : Nat) (v : Nat),
      w = fetchWord s q →
      issues s q = true →
      Isa.opc w = 0x42 →
      follows s q = true →
      v = fieldValue (s.theCtx q) w →
      Isa.sel w ≠ 15 →
      v < 2 ^ Isa.selWidth (Isa.sel w) →
      ∃ t, exec (.dset q) s = .next t ∧
        runsOn t q (s.fld (Reg.seqPc q) + 1) ((s.theCtx q).setD (Isa.dd w) (Desc.put ((s.theCtx q).dreg (Isa.dd w)) (selLow (Isa.sel w)) (Isa.selWidth (Isa.sel w)) v)) = true ∧
        t.cue.ctrs = s.cue.ctrs ∧
        t.ten = s.ten ∧
        t.mem = s.mem ∧
        t.swc = s.swc ∧
        onlyRegs [(Reg.seqSt q).off] s t = true) ∧
    (∀ (s : State) (q : Fin 64) (w : Nat),
      w = fetchWord s q →
      issues s q = true →
      Isa.opc w = 0x42 →
      follows s q = true →
      Isa.sel w = 15 →
      fieldValue (s.theCtx q) w = 0 →
      ∃ t, exec (.dset q) s = .next t ∧
        runsOn t q (s.fld (Reg.seqPc q) + 1) ((s.theCtx q).setD (Isa.dd w) 0) = true ∧
        t.cue.ctrs = s.cue.ctrs ∧
        t.ten = s.ten ∧
        t.mem = s.mem ∧
        t.swc = s.swc ∧
        onlyRegs [(Reg.seqSt q).off] s t = true) ∧
    (∀ (s : State) (q : Fin 64) (w : Nat) (v : Int),
      w = fetchWord s q →
      issues s q = true →
      Isa.opc w = 0x43 →
      follows s q = true →
      v = (Desc.f ((s.theCtx q).dreg (Isa.dd w)) (selLow (Isa.sel w)) (Isa.selWidth (Isa.sel w)) : Int) + signedOf 64 (fieldValue (s.theCtx q) w) →
      0 ≤ v →
      v < 2 ^ Isa.selWidth (Isa.sel w) →
      ∃ t, exec (.dadd q) s = .next t ∧
        runsOn t q (s.fld (Reg.seqPc q) + 1) ((s.theCtx q).setD (Isa.dd w) (Desc.put ((s.theCtx q).dreg (Isa.dd w)) (selLow (Isa.sel w)) (Isa.selWidth (Isa.sel w)) v.toNat)) = true ∧
        t.cue.ctrs = s.cue.ctrs ∧
        t.ten = s.ten ∧
        t.mem = s.mem ∧
        t.swc = s.swc ∧
        onlyRegs [(Reg.seqSt q).off] s t = true) ∧
    (∀ (s : State) (q : Fin 64) (w : Nat),
      w = fetchWord s q →
      issues s q = true →
      Isa.opc w = 0x44 →
      Isa.sel w = 0 →
      follows s q = true →
      ∃ t, exec (.dcopyReg q) s = .next t ∧
        runsOn t q (s.fld (Reg.seqPc q) + 1) ((s.theCtx q).setD (Isa.dd w) ((s.theCtx q).dreg (Isa.da w))) = true ∧
        t.cue.ctrs = s.cue.ctrs ∧
        t.ten = s.ten ∧
        t.mem = s.mem ∧
        t.swc = s.swc ∧
        onlyRegs [(Reg.seqSt q).off] s t = true) ∧
    (∀ (s : State) (q : Fin 64) (w : Nat) (o v : Nat),
      w = fetchWord s q →
      issues s q = true →
      Isa.opc w = 0x44 →
      Isa.sel w = 1 →
      follows s q = true →
      o = effAddr s q w →
      descSpan s q o = true →
      spanAwake s o 32 = true →
      firstBadWord s o 32 = none →
      flightWrites s q (o, o + 32) = false →
      v = leNat (spRead (veiled none s) o 32) →
      bitsOf v 38 2 = 0 →
      v / 2 ^ 224 = 0 →
      ∃ t, exec (.dcopyLoad q) s = .next t ∧
        runsOn t q (s.fld (Reg.seqPc q) + 1) ((s.theCtx q).setD (Isa.dd w) (BitVec.ofNat 256 v)) = true ∧
        t.cue.ctrs = s.cue.ctrs ∧
        t.ten = s.ten ∧
        t.mem = s.mem ∧
        t.swc = s.swc) ∧
    (∀ (s : State) (q : Fin 64) (w : Nat) (o : Nat),
      w = fetchWord s q →
      issues s q = true →
      Isa.opc w = 0x44 →
      Isa.sel w = 2 →
      follows s q = true →
      o = effAddr s q w →
      descSpan s q o = true →
      spanAwake s o 32 = true →
      flightTouches s q (o, o + 32) = false →
      ∃ t, exec (.dcopyStore q) s = .next t ∧
        runsOn t q (s.fld (Reg.seqPc q) + 1) ((s.theCtx q)) = true ∧
        t.ten.sp = (spWrite o (leBytes 32 ((s.theCtx q).dreg (Isa.da w)).toNat) s).ten.sp ∧
        t.mem = s.mem ∧
        t.cue.ctrs = s.cue.ctrs) ∧
    (∀ (s : State) (q : Fin 64) (w : Nat) (n : Nat),
      w = fetchWord s q →
      issues s q = true →
      Isa.opc w = 0x45 →
      follows s q = true →
      n = (s.theCtx q).sreg (Isa.rd2 w) →
      (s.theCtx q).refusal = 0 →
      xferOk s q n ((s.theCtx q).sreg (Isa.ra2 w)) ((s.theCtx q).sreg (Isa.rb2 w)) = true →
      Ctr.targetAfter (ceilDiv n 4096) (s.ctr (Isa.ctr2 w)) < 2 ^ 32 →
      inFlight s < 4096 →
      Ctr.binds (s.ctr (Isa.ctr2 w)) = true →
      ∃ t, exec (.pfetch q) s = .next t ∧
        runsOn t q (s.fld (Reg.seqPc q) + 1) ((s.theCtx q)) = true ∧
        t.ctr (Isa.ctr2 w) = Ctr.bind (ceilDiv n 4096) (s.ctr (Isa.ctr2 w)) ∧
        t.cue.xfers.length = s.cue.xfers.length + 1 ∧
        t.ten = s.ten ∧
        t.mem = s.mem) ∧
    (∀ (s : State) (q : Fin 64) (w : Nat) (n : Nat),
      w = fetchWord s q →
      issues s q = true →
      Isa.opc w = 0x46 →
      follows s q = true →
      n = (s.theCtx q).sreg (Isa.rd2 w) →
      (s.theCtx q).refusal = 0 →
      xferOk s q n ((s.theCtx q).sreg (Isa.ra2 w)) ((s.theCtx q).sreg (Isa.rb2 w)) = true →
      Ctr.targetAfter (ceilDiv n 4096) (s.ctr (Isa.ctr2 w)) < 2 ^ 32 →
      inFlight s < 4096 →
      Ctr.binds (s.ctr (Isa.ctr2 w)) = true →
      s.ten.ue = [] →
      ∃ t, exec (.pspill q) s = .next t ∧
        runsOn t q (s.fld (Reg.seqPc q) + 1) ((s.theCtx q)) = true ∧
        t.ctr (Isa.ctr2 w) = Ctr.bind (ceilDiv n 4096) (s.ctr (Isa.ctr2 w)) ∧
        t.cue.xfers.length = s.cue.xfers.length + 1 ∧
        t.ten = s.ten ∧
        t.mem = s.mem) ∧
    (∀ (s : State) (q : Fin 64) (w : Nat) (n p : Nat) (g : Prog) (r : Nat × Nat) (a : Nat),
      w = fetchWord s q →
      issues s q = true →
      Isa.opc w = 0x47 →
      follows s q = true →
      (s.theCtx q).sreg (Isa.ra2 w) = n →
      n ≠ 0 →
      n ≤ 134217728 →
      p = s.fld (Reg.seqProg q) →
      s.prog p = some g →
      ((footOf s p).find? (fun e => decide (spWing e.1 = Isa.wing w)) = some r) →
      (findAlloc r.1 r.2 ((n + 255) / 256 * 256) (g.allocs.map (fun x => (x.2.1, x.2.2))) = some a) →
      ∃ t, exec (.alloc q) s = .next t ∧
        runsOn t q (s.fld (Reg.seqPc q) + 1) (((s.theCtx q).setS (Isa.rd2 w) a).setP (Isa.pd2 w) true) = true ∧
        t.prog p = some { g with allocs := g.allocs ++ [(Isa.wing w, a, (n + 255) / 256 * 256)] } ∧
        t.ten = s.ten ∧
        t.mem = s.mem ∧
        onlyRegs [(Reg.seqSt q).off] s t = true) ∧
    (∀ (s : State) (q : Fin 64) (w : Nat) (n p : Nat) (g : Prog) (r : Nat × Nat),
      w = fetchWord s q →
      issues s q = true →
      Isa.opc w = 0x47 →
      follows s q = true →
      (s.theCtx q).sreg (Isa.ra2 w) = n →
      n ≠ 0 →
      n ≤ 134217728 →
      p = s.fld (Reg.seqProg q) →
      s.prog p = some g →
      ((footOf s p).find? (fun e => decide (spWing e.1 = Isa.wing w)) = some r) →
      (findAlloc r.1 r.2 ((n + 255) / 256 * 256) (g.allocs.map (fun x => (x.2.1, x.2.2))) = none) →
      ∃ t, exec (.alloc q) s = .next t ∧
        runsOn t q (s.fld (Reg.seqPc q) + 1) (((s.theCtx q).setS (Isa.rd2 w) (2 ^ 64 - 1)).setP (Isa.pd2 w) false) = true ∧
        t.cue.ctrs = s.cue.ctrs ∧
        t.ten = s.ten ∧
        t.mem = s.mem ∧
        t.swc = s.swc ∧
        onlyRegs [(Reg.seqSt q).off] s t = true) ∧
    (∀ (s : State) (q : Fin 64) (w : Nat) (p o : Nat) (g : Prog),
      w = fetchWord s q →
      issues s q = true →
      Isa.opc w = 0x48 →
      follows s q = true →
      p = s.fld (Reg.seqProg q) →
      s.prog p = some g →
      o = (s.theCtx q).sreg (Isa.ra2 w) →
      (g.allocs.any (fun a => decide (a.2.1 = o)) = true) →
      ∃ t, exec (.freeI q) s = .next t ∧
        runsOn t q (s.fld (Reg.seqPc q) + 1) ((s.theCtx q)) = true ∧
        (t.prog p = some { g with allocs := g.allocs.filter (fun a => decide (a.2.1 ≠ o)) }) ∧
        t.ten = s.ten ∧
        t.mem = s.mem ∧
        onlyRegs [(Reg.seqSt q).off] s t = true)

/-- A tensor instruction with FMT 3 whose operands pass Tables 08-4 and 10-11, and none of whose tiles is in quarantine, is in flight with
its descriptors and extents, and the sequencer goes on; one that fails a check faults with DESC_FAULT. (R269, R312, R315, R316, R322.) -/
def Obligations.TensorInstructionsIssue : Prop :=
    (∀ (s : State) (q : Fin 64) (w : Nat) (o : Oper),
      w = fetchWord s q →
      issues s q = true →
      Isa.opc w = 0x60 →
      Isa.fmt w = 3 →
      follows s q = true →
      o = operOf (s.theCtx q) w →
      o.ok s (footOf s (s.fld (Reg.seqProg q))) = true →
      o.shapeOk = true →
      tilesStale s o = false →
      ∃ t, exec (.mma q) s = .next t ∧
        runsOn t q (s.fld (Reg.seqPc q) + 1) ((s.theCtx q)) = true ∧
        t.ten.flights = s.ten.flights ++ [Flight.mk s.ten.nextFlight q (s.fld (Reg.seqPc q)) (BitVec.ofNat 128 w) [o.d, o.a, o.b, o.c] o.reads o.writes none (s.fld (Reg.seqProg q)) true none] ∧
        t.ten.sp = s.ten.sp ∧
        t.mem = s.mem ∧
        t.cue.ctrs = s.cue.ctrs ∧
        onlyRegs [(Reg.seqSt q).off] s t = true) ∧
    (∀ (s : State) (q : Fin 64) (w : Nat) (o : Oper),
      w = fetchWord s q →
      issues s q = true →
      Isa.opc w = 0x61 →
      Isa.fmt w = 3 →
      follows s q = true →
      o = operOf (s.theCtx q) w →
      o.ok s (footOf s (s.fld (Reg.seqProg q))) = true →
      o.shapeOk = true →
      tilesStale s o = false →
      ∃ t, exec (.mmas q) s = .next t ∧
        runsOn t q (s.fld (Reg.seqPc q) + 1) ((s.theCtx q)) = true ∧
        t.ten.flights = s.ten.flights ++ [Flight.mk s.ten.nextFlight q (s.fld (Reg.seqPc q)) (BitVec.ofNat 128 w) [o.d, o.a, o.b, o.c] o.reads o.writes none (s.fld (Reg.seqProg q)) true none] ∧
        t.ten.sp = s.ten.sp ∧
        t.mem = s.mem ∧
        t.cue.ctrs = s.cue.ctrs ∧
        onlyRegs [(Reg.seqSt q).off] s t = true) ∧
    (∀ (s : State) (q : Fin 64) (w : Nat) (o : Oper),
      w = fetchWord s q →
      issues s q = true →
      Isa.opc w = 0x62 →
      Isa.fmt w = 3 →
      follows s q = true →
      o = operOf (s.theCtx q) w →
      o.ok s (footOf s (s.fld (Reg.seqProg q))) = true →
      o.shapeOk = true →
      tilesStale s o = false →
      ∃ t, exec (.mmag q) s = .next t ∧
        runsOn t q (s.fld (Reg.seqPc q) + 1) ((s.theCtx q)) = true ∧
        t.ten.flights = s.ten.flights ++ [Flight.mk s.ten.nextFlight q (s.fld (Reg.seqPc q)) (BitVec.ofNat 128 w) [o.d, o.a, o.b, o.c] o.reads o.writes none (s.fld (Reg.seqProg q)) true none] ∧
        t.ten.sp = s.ten.sp ∧
        t.mem = s.mem ∧
        t.cue.ctrs = s.cue.ctrs ∧
        onlyRegs [(Reg.seqSt q).off] s t = true) ∧
    (∀ (s : State) (q : Fin 64) (w : Nat) (o : Oper),
      w = fetchWord s q →
      issues s q = true →
      Isa.opc w = 0x63 →
      Isa.fmt w = 3 →
      follows s q = true →
      o = operOf (s.theCtx q) w →
      o.ok s (footOf s (s.fld (Reg.seqProg q))) = true →
      o.shapeOk = true →
      tilesStale s o = false →
      ∃ t, exec (.ewa q) s = .next t ∧
        runsOn t q (s.fld (Reg.seqPc q) + 1) ((s.theCtx q)) = true ∧
        t.ten.flights = s.ten.flights ++ [Flight.mk s.ten.nextFlight q (s.fld (Reg.seqPc q)) (BitVec.ofNat 128 w) [o.d, o.a, o.b, o.c] o.reads o.writes none (s.fld (Reg.seqProg q)) true none] ∧
        t.ten.sp = s.ten.sp ∧
        t.mem = s.mem ∧
        t.cue.ctrs = s.cue.ctrs ∧
        onlyRegs [(Reg.seqSt q).off] s t = true) ∧
    (∀ (s : State) (q : Fin 64) (w : Nat) (o : Oper),
      w = fetchWord s q →
      issues s q = true →
      Isa.opc w = 0x64 →
      Isa.fmt w = 3 →
      follows s q = true →
      o = operOf (s.theCtx q) w →
      o.ok s (footOf s (s.fld (Reg.seqProg q))) = true →
      o.shapeOk = true →
      tilesStale s o = false →
      ∃ t, exec (.ewf q) s = .next t ∧
        runsOn t q (s.fld (Reg.seqPc q) + 1) ((s.theCtx q)) = true ∧
        t.ten.flights = s.ten.flights ++ [Flight.mk s.ten.nextFlight q (s.fld (Reg.seqPc q)) (BitVec.ofNat 128 w) [o.d, o.a, o.b, o.c] o.reads o.writes none (s.fld (Reg.seqProg q)) true none] ∧
        t.ten.sp = s.ten.sp ∧
        t.mem = s.mem ∧
        t.cue.ctrs = s.cue.ctrs ∧
        onlyRegs [(Reg.seqSt q).off] s t = true) ∧
    (∀ (s : State) (q : Fin 64) (w : Nat) (o : Oper),
      w = fetchWord s q →
      issues s q = true →
      Isa.opc w = 0x65 →
      Isa.fmt w = 3 →
      follows s q = true →
      o = operOf (s.theCtx q) w →
      o.ok s (footOf s (s.fld (Reg.seqProg q))) = true →
      o.shapeOk = true →
      tilesStale s o = false →
      ∃ t, exec (.red q) s = .next t ∧
        runsOn t q (s.fld (Reg.seqPc q) + 1) ((s.theCtx q)) = true ∧
        t.ten.flights = s.ten.flights ++ [Flight.mk s.ten.nextFlight q (s.fld (Reg.seqPc q)) (BitVec.ofNat 128 w) [o.d, o.a, o.b, o.c] o.reads o.writes none (s.fld (Reg.seqProg q)) true none] ∧
        t.ten.sp = s.ten.sp ∧
        t.mem = s.mem ∧
        t.cue.ctrs = s.cue.ctrs ∧
        onlyRegs [(Reg.seqSt q).off] s t = true) ∧
    (∀ (s : State) (q : Fin 64) (w : Nat) (o : Oper),
      w = fetchWord s q →
      issues s q = true →
      Isa.opc w = 0x66 →
      Isa.fmt w = 3 →
      follows s q = true →
      o = operOf (s.theCtx q) w →
      o.ok s (footOf s (s.fld (Reg.seqProg q))) = true →
      o.shapeOk = true →
      tilesStale s o = false →
      ∃ t, exec (.norm q) s = .next t ∧
        runsOn t q (s.fld (Reg.seqPc q) + 1) ((s.theCtx q)) = true ∧
        t.ten.flights = s.ten.flights ++ [Flight.mk s.ten.nextFlight q (s.fld (Reg.seqPc q)) (BitVec.ofNat 128 w) [o.d, o.a, o.b, o.c] o.reads o.writes none (s.fld (Reg.seqProg q)) true none] ∧
        t.ten.sp = s.ten.sp ∧
        t.mem = s.mem ∧
        t.cue.ctrs = s.cue.ctrs ∧
        onlyRegs [(Reg.seqSt q).off] s t = true) ∧
    (∀ (s : State) (q : Fin 64) (w : Nat) (o : Oper),
      w = fetchWord s q →
      issues s q = true →
      Isa.opc w = 0x67 →
      Isa.fmt w = 3 →
      follows s q = true →
      o = operOf (s.theCtx q) w →
      o.ok s (footOf s (s.fld (Reg.seqProg q))) = true →
      o.shapeOk = true →
      tilesStale s o = false →
      ∃ t, exec (.smax q) s = .next t ∧
        runsOn t q (s.fld (Reg.seqPc q) + 1) ((s.theCtx q)) = true ∧
        t.ten.flights = s.ten.flights ++ [Flight.mk s.ten.nextFlight q (s.fld (Reg.seqPc q)) (BitVec.ofNat 128 w) [o.d, o.a, o.b, o.c] o.reads o.writes none (s.fld (Reg.seqProg q)) true none] ∧
        t.ten.sp = s.ten.sp ∧
        t.mem = s.mem ∧
        t.cue.ctrs = s.cue.ctrs ∧
        onlyRegs [(Reg.seqSt q).off] s t = true) ∧
    (∀ (s : State) (q : Fin 64) (w : Nat) (o : Oper),
      w = fetchWord s q →
      issues s q = true →
      Isa.opc w = 0x68 →
      Isa.fmt w = 3 →
      follows s q = true →
      o = operOf (s.theCtx q) w →
      o.ok s (footOf s (s.fld (Reg.seqProg q))) = true →
      o.shapeOk = true →
      tilesStale s o = false →
      ∃ t, exec (.topk q) s = .next t ∧
        runsOn t q (s.fld (Reg.seqPc q) + 1) ((s.theCtx q)) = true ∧
        t.ten.flights = s.ten.flights ++ [Flight.mk s.ten.nextFlight q (s.fld (Reg.seqPc q)) (BitVec.ofNat 128 w) [o.d, o.a, o.b, o.c] o.reads o.writes none (s.fld (Reg.seqProg q)) true none] ∧
        t.ten.sp = s.ten.sp ∧
        t.mem = s.mem ∧
        t.cue.ctrs = s.cue.ctrs ∧
        onlyRegs [(Reg.seqSt q).off] s t = true) ∧
    (∀ (s : State) (q : Fin 64) (w : Nat) (o : Oper),
      w = fetchWord s q →
      issues s q = true →
      Isa.opc w = 0x69 →
      Isa.fmt w = 3 →
      follows s q = true →
      o = operOf (s.theCtx q) w →
      o.ok s (footOf s (s.fld (Reg.seqProg q))) = true →
      o.shapeOk = true →
      tilesStale s o = false →
      ∃ t, exec (.gate q) s = .next t ∧
        runsOn t q (s.fld (Reg.seqPc q) + 1) ((s.theCtx q)) = true ∧
        t.ten.flights = s.ten.flights ++ [Flight.mk s.ten.nextFlight q (s.fld (Reg.seqPc q)) (BitVec.ofNat 128 w) [o.d, o.a, o.b, o.c] o.reads o.writes none (s.fld (Reg.seqProg q)) true none] ∧
        t.ten.sp = s.ten.sp ∧
        t.mem = s.mem ∧
        t.cue.ctrs = s.cue.ctrs ∧
        onlyRegs [(Reg.seqSt q).off] s t = true) ∧
    (∀ (s : State) (q : Fin 64) (w : Nat) (o : Oper),
      w = fetchWord s q →
      issues s q = true →
      Isa.opc w = 0x6a →
      Isa.fmt w = 3 →
      follows s q = true →
      o = operOf (s.theCtx q) w →
      o.ok s (footOf s (s.fld (Reg.seqProg q))) = true →
      o.shapeOk = true →
      tilesStale s o = false →
      ∃ t, exec (.qnt q) s = .next t ∧
        runsOn t q (s.fld (Reg.seqPc q) + 1) ((s.theCtx q)) = true ∧
        t.ten.flights = s.ten.flights ++ [Flight.mk s.ten.nextFlight q (s.fld (Reg.seqPc q)) (BitVec.ofNat 128 w) [o.d, o.a, o.b, o.c] o.reads o.writes none (s.fld (Reg.seqProg q)) true none] ∧
        t.ten.sp = s.ten.sp ∧
        t.mem = s.mem ∧
        t.cue.ctrs = s.cue.ctrs ∧
        onlyRegs [(Reg.seqSt q).off] s t = true) ∧
    (∀ (s : State) (q : Fin 64) (w : Nat) (o : Oper),
      w = fetchWord s q →
      issues s q = true →
      Isa.opc w = 0x6b →
      Isa.fmt w = 3 →
      follows s q = true →
      o = operOf (s.theCtx q) w →
      o.ok s (footOf s (s.fld (Reg.seqProg q))) = true →
      o.shapeOk = true →
      tilesStale s o = false →
      ∃ t, exec (.cvt q) s = .next t ∧
        runsOn t q (s.fld (Reg.seqPc q) + 1) ((s.theCtx q)) = true ∧
        t.ten.flights = s.ten.flights ++ [Flight.mk s.ten.nextFlight q (s.fld (Reg.seqPc q)) (BitVec.ofNat 128 w) [o.d, o.a, o.b, o.c] o.reads o.writes none (s.fld (Reg.seqProg q)) true none] ∧
        t.ten.sp = s.ten.sp ∧
        t.mem = s.mem ∧
        t.cue.ctrs = s.cue.ctrs ∧
        onlyRegs [(Reg.seqSt q).off] s t = true) ∧
    (∀ (s : State) (q : Fin 64) (w : Nat) (o : Oper),
      w = fetchWord s q →
      issues s q = true →
      Isa.opc w = 0x6c →
      Isa.fmt w = 3 →
      follows s q = true →
      o = operOf (s.theCtx q) w →
      o.ok s (footOf s (s.fld (Reg.seqProg q))) = true →
      o.shapeOk = true →
      tilesStale s o = false →
      ∃ t, exec (.copy q) s = .next t ∧
        runsOn t q (s.fld (Reg.seqPc q) + 1) ((s.theCtx q)) = true ∧
        t.ten.flights = s.ten.flights ++ [Flight.mk s.ten.nextFlight q (s.fld (Reg.seqPc q)) (BitVec.ofNat 128 w) [o.d, o.a, o.b, o.c] o.reads o.writes none (s.fld (Reg.seqProg q)) true none] ∧
        t.ten.sp = s.ten.sp ∧
        t.mem = s.mem ∧
        t.cue.ctrs = s.cue.ctrs ∧
        onlyRegs [(Reg.seqSt q).off] s t = true) ∧
    (∀ (s : State) (q : Fin 64) (w : Nat) (o : Oper),
      w = fetchWord s q →
      issues s q = true →
      Isa.opc w = 0x6d →
      Isa.fmt w = 3 →
      follows s q = true →
      o = operOf (s.theCtx q) w →
      o.ok s (footOf s (s.fld (Reg.seqProg q))) = true →
      o.shapeOk = true →
      tilesStale s o = false →
      ∃ t, exec (.gatheri q) s = .next t ∧
        runsOn t q (s.fld (Reg.seqPc q) + 1) ((s.theCtx q)) = true ∧
        t.ten.flights = s.ten.flights ++ [Flight.mk s.ten.nextFlight q (s.fld (Reg.seqPc q)) (BitVec.ofNat 128 w) [o.d, o.a, o.b, o.c] o.reads o.writes none (s.fld (Reg.seqProg q)) true none] ∧
        t.ten.sp = s.ten.sp ∧
        t.mem = s.mem ∧
        t.cue.ctrs = s.cue.ctrs ∧
        onlyRegs [(Reg.seqSt q).off] s t = true) ∧
    (∀ (s : State) (q : Fin 64) (w : Nat) (o : Oper),
      w = fetchWord s q →
      issues s q = true →
      Isa.opc w = 0x6e →
      Isa.fmt w = 3 →
      follows s q = true →
      o = operOf (s.theCtx q) w →
      o.ok s (footOf s (s.fld (Reg.seqProg q))) = true →
      o.shapeOk = true →
      tilesStale s o = false →
      ∃ t, exec (.sample q) s = .next t ∧
        runsOn t q (s.fld (Reg.seqPc q) + 1) ((s.theCtx q)) = true ∧
        t.ten.flights = s.ten.flights ++ [Flight.mk s.ten.nextFlight q (s.fld (Reg.seqPc q)) (BitVec.ofNat 128 w) [o.d, o.a, o.b, o.c] o.reads o.writes none (s.fld (Reg.seqProg q)) true none] ∧
        t.ten.sp = s.ten.sp ∧
        t.mem = s.mem ∧
        t.cue.ctrs = s.cue.ctrs ∧
        onlyRegs [(Reg.seqSt q).off] s t = true) ∧
    (∀ (s : State) (q : Fin 64) (w : Nat),
      w = fetchWord s q →
      issues s q = true →
      Isa.opc w = 0x6c →
      Isa.fmt w = 3 →
      (operOf (s.theCtx q) w).shapeOk = false →
      s.fld (Reg.onFault q) = 0 →
      ∃ t, exec (.copy q) s = .next t ∧
        t.fld (Reg.seqSt q) = sqFaulted ∧
        t.fld (Reg.seqErr q) = Err.descFault ∧
        t.ten = s.ten)

/-- A cue that passes the steps of Table 09-6 binds its chunks to its counter, takes the next OPSEQ of its group, opens an operation and,
unless it receives a BROADCAST, issues its tensor part; CURTAIN and ASIDE bind one chunk and open an operation of the aside path. The
sequencer goes on. (R273, R274, R276, R323, R327.) -/
def Obligations.CuesIssue : Prop :=
    (∀ (s : State) (q : Fin 64) (w : Nat) (g n : Nat),
      w = fetchWord s q →
      issues s q = true →
      Isa.fmt w = 4 →
      Isa.opc w ≤ 0x6E →
      Isa.xmode w = 1 →
      follows s q = true →
      groupOf s q w = some g →
      cueOk s q g (operOf (s.theCtx q) w) ((s.theCtx q).dreg (Isa.epiRes w)) ((s.theCtx q).dreg (Isa.epiGain w)) = true →
      n = boundChunks s g (Isa.xmode w) (contribBytes (operOf (s.theCtx q) w)) →
      Ctr.targetAfter n (s.ctr (Isa.ctr3 w)) < 2 ^ 32 →
      inFlight s < 4096 →
      (openOps s g).length < 2 →
      (s.theCtx q).refusal = 0 →
      ((engUnit (grpEngine s g) :: operTiles s (operOf (s.theCtx q) w)).all (fun u => !(unitStale s u)) = true) →
      (Isa.svc w = 0 ∨ (mayUseCircuits w = true ∧ circuitsAdmit s (newOp s q g 0 (Oper.outFmt (operOf (s.theCtx q) w)) (Oper.outShape (operOf (s.theCtx q) w)).1 (Oper.outShape (operOf (s.theCtx q) w)).2 w [Oper.d (operOf (s.theCtx q) w), Oper.a (operOf (s.theCtx q) w), Oper.b (operOf (s.theCtx q) w), Oper.c (operOf (s.theCtx q) w), (s.theCtx q).dreg (Isa.epiRes w), (s.theCtx q).dreg (Isa.epiGain w)]) = true)) →
      Ctr.binds (s.ctr (Isa.ctr3 w)) = true →
      abortedCode s g (s.fld (Reg.grpOpseq g)) = none →
      s.opById s.cue.nextId = none →
      (s.grp g).early = [] →
      ∃ t, exec (.cueReduce q) s = .next t ∧
        runsOn t q (s.fld (Reg.seqPc q) + 1) ((s.theCtx q)) = true ∧
        t.ctr (Isa.ctr3 w) = Ctr.bind n (s.ctr (Isa.ctr3 w)) ∧
        t.fld (Reg.grpOpseq g) = (s.fld (Reg.grpOpseq g) + 1) % 2 ^ 24 ∧
        t.col.ops.length = s.col.ops.length + 1 ∧
        t.ten.flights.length = s.ten.flights.length + 1 ∧
        t.mem = s.mem ∧
        onlyRegs [(Reg.seqSt q).off, (Reg.grpOpseq g).off, (Reg.engOps (grpEngine s g)).off] s t = true) ∧
    (∀ (s : State) (q : Fin 64) (w : Nat) (g n : Nat),
      w = fetchWord s q →
      issues s q = true →
      Isa.fmt w = 4 →
      Isa.opc w ≤ 0x6E →
      Isa.xmode w = 2 →
      follows s q = true →
      groupOf s q w = some g →
      cueOk s q g (operOf (s.theCtx q) w) ((s.theCtx q).dreg (Isa.epiRes w)) ((s.theCtx q).dreg (Isa.epiGain w)) = true →
      n = boundChunks s g (Isa.xmode w) (contribBytes (operOf (s.theCtx q) w)) →
      Ctr.targetAfter n (s.ctr (Isa.ctr3 w)) < 2 ^ 32 →
      inFlight s < 4096 →
      (openOps s g).length < 2 →
      (s.theCtx q).refusal = 0 →
      ((engUnit (grpEngine s g) :: operTiles s (operOf (s.theCtx q) w)).all (fun u => !(unitStale s u)) = true) →
      (Isa.svc w = 0 ∨ (mayUseCircuits w = true ∧ circuitsAdmit s (newOp s q g 0 (Oper.outFmt (operOf (s.theCtx q) w)) (Oper.outShape (operOf (s.theCtx q) w)).1 (Oper.outShape (operOf (s.theCtx q) w)).2 w [Oper.d (operOf (s.theCtx q) w), Oper.a (operOf (s.theCtx q) w), Oper.b (operOf (s.theCtx q) w), Oper.c (operOf (s.theCtx q) w), (s.theCtx q).dreg (Isa.epiRes w), (s.theCtx q).dreg (Isa.epiGain w)]) = true)) →
      Ctr.binds (s.ctr (Isa.ctr3 w)) = true →
      abortedCode s g (s.fld (Reg.grpOpseq g)) = none →
      s.opById s.cue.nextId = none →
      (s.grp g).early = [] →
      ∃ t, exec (.cueScatter q) s = .next t ∧
        runsOn t q (s.fld (Reg.seqPc q) + 1) ((s.theCtx q)) = true ∧
        t.ctr (Isa.ctr3 w) = Ctr.bind n (s.ctr (Isa.ctr3 w)) ∧
        t.fld (Reg.grpOpseq g) = (s.fld (Reg.grpOpseq g) + 1) % 2 ^ 24 ∧
        t.col.ops.length = s.col.ops.length + 1 ∧
        t.ten.flights.length = s.ten.flights.length + 1 ∧
        t.mem = s.mem ∧
        onlyRegs [(Reg.seqSt q).off, (Reg.grpOpseq g).off, (Reg.engOps (grpEngine s g)).off] s t = true) ∧
    (∀ (s : State) (q : Fin 64) (w : Nat) (g n : Nat),
      w = fetchWord s q →
      issues s q = true →
      Isa.fmt w = 4 →
      Isa.opc w ≤ 0x6E →
      Isa.xmode w = 3 →
      follows s q = true →
      groupOf s q w = some g →
      cueOk s q g (operOf (s.theCtx q) w) ((s.theCtx q).dreg (Isa.epiRes w)) ((s.theCtx q).dreg (Isa.epiGain w)) = true →
      n = boundChunks s g (Isa.xmode w) (contribBytes (operOf (s.theCtx q) w)) →
      Ctr.targetAfter n (s.ctr (Isa.ctr3 w)) < 2 ^ 32 →
      inFlight s < 4096 →
      (openOps s g).length < 2 →
      (s.theCtx q).refusal = 0 →
      ((engUnit (grpEngine s g) :: operTiles s (operOf (s.theCtx q) w)).all (fun u => !(unitStale s u)) = true) →
      (Isa.svc w = 0 ∨ (mayUseCircuits w = true ∧ circuitsAdmit s (newOp s q g 0 (Oper.outFmt (operOf (s.theCtx q) w)) (Oper.outShape (operOf (s.theCtx q) w)).1 (Oper.outShape (operOf (s.theCtx q) w)).2 w [Oper.d (operOf (s.theCtx q) w), Oper.a (operOf (s.theCtx q) w), Oper.b (operOf (s.theCtx q) w), Oper.c (operOf (s.theCtx q) w), (s.theCtx q).dreg (Isa.epiRes w), (s.theCtx q).dreg (Isa.epiGain w)]) = true)) →
      Ctr.binds (s.ctr (Isa.ctr3 w)) = true →
      abortedCode s g (s.fld (Reg.grpOpseq g)) = none →
      s.opById s.cue.nextId = none →
      (s.grp g).early = [] →
      ∃ t, exec (.cueGather q) s = .next t ∧
        runsOn t q (s.fld (Reg.seqPc q) + 1) ((s.theCtx q)) = true ∧
        t.ctr (Isa.ctr3 w) = Ctr.bind n (s.ctr (Isa.ctr3 w)) ∧
        t.fld (Reg.grpOpseq g) = (s.fld (Reg.grpOpseq g) + 1) % 2 ^ 24 ∧
        t.col.ops.length = s.col.ops.length + 1 ∧
        t.ten.flights.length = s.ten.flights.length + 1 ∧
        t.mem = s.mem ∧
        onlyRegs [(Reg.seqSt q).off, (Reg.grpOpseq g).off, (Reg.engOps (grpEngine s g)).off] s t = true) ∧
    (∀ (s : State) (q : Fin 64) (w : Nat) (g n : Nat),
      w = fetchWord s q →
      issues s q = true →
      Isa.fmt w = 4 →
      Isa.opc w ≤ 0x6E →
      Isa.xmode w = 4 →
      follows s q = true →
      groupOf s q w = some g →
      cueOk s q g (operOf (s.theCtx q) w) ((s.theCtx q).dreg (Isa.epiRes w)) ((s.theCtx q).dreg (Isa.epiGain w)) = true →
      n = boundChunks s g (Isa.xmode w) (contribBytes (operOf (s.theCtx q) w)) →
      Ctr.targetAfter n (s.ctr (Isa.ctr3 w)) < 2 ^ 32 →
      inFlight s < 4096 →
      (openOps s g).length < 2 →
      (s.theCtx q).refusal = 0 →
      ((engUnit (grpEngine s g) :: operTiles s (operOf (s.theCtx q) w)).all (fun u => !(unitStale s u)) = true) →
      (Isa.svc w = 0 ∨ (mayUseCircuits w = true ∧ circuitsAdmit s (newOp s q g 0 (Oper.outFmt (operOf (s.theCtx q) w)) (Oper.outShape (operOf (s.theCtx q) w)).1 (Oper.outShape (operOf (s.theCtx q) w)).2 w [Oper.d (operOf (s.theCtx q) w), Oper.a (operOf (s.theCtx q) w), Oper.b (operOf (s.theCtx q) w), Oper.c (operOf (s.theCtx q) w), (s.theCtx q).dreg (Isa.epiRes w), (s.theCtx q).dreg (Isa.epiGain w)]) = true)) →
      Ctr.binds (s.ctr (Isa.ctr3 w)) = true →
      abortedCode s g (s.fld (Reg.grpOpseq g)) = none →
      s.opById s.cue.nextId = none →
      (s.grp g).early = [] →
      ∃ t, exec (.cueExchange q) s = .next t ∧
        runsOn t q (s.fld (Reg.seqPc q) + 1) ((s.theCtx q)) = true ∧
        t.ctr (Isa.ctr3 w) = Ctr.bind n (s.ctr (Isa.ctr3 w)) ∧
        t.fld (Reg.grpOpseq g) = (s.fld (Reg.grpOpseq g) + 1) % 2 ^ 24 ∧
        t.col.ops.length = s.col.ops.length + 1 ∧
        t.ten.flights.length = s.ten.flights.length + 1 ∧
        t.mem = s.mem ∧
        onlyRegs [(Reg.seqSt q).off, (Reg.grpOpseq g).off, (Reg.engOps (grpEngine s g)).off] s t = true) ∧
    (∀ (s : State) (q : Fin 64) (w : Nat) (g n : Nat),
      w = fetchWord s q →
      issues s q = true →
      Isa.fmt w = 4 →
      Isa.opc w ≤ 0x6E →
      Isa.xmode w = 5 →
      follows s q = true →
      groupOf s q w = some g →
      cueOk s q g (operOf (s.theCtx q) w) ((s.theCtx q).dreg (Isa.epiRes w)) ((s.theCtx q).dreg (Isa.epiGain w)) = true →
      n = boundChunks s g (Isa.xmode w) (contribBytes (operOf (s.theCtx q) w)) →
      Ctr.targetAfter n (s.ctr (Isa.ctr3 w)) < 2 ^ 32 →
      inFlight s < 4096 →
      (openOps s g).length < 2 →
      (s.theCtx q).refusal = 0 →
      ((engUnit (grpEngine s g) :: operTiles s (operOf (s.theCtx q) w)).all (fun u => !(unitStale s u)) = true) →
      (Isa.svc w = 0 ∨ (mayUseCircuits w = true ∧ circuitsAdmit s (newOp s q g 0 (Oper.outFmt (operOf (s.theCtx q) w)) (Oper.outShape (operOf (s.theCtx q) w)).1 (Oper.outShape (operOf (s.theCtx q) w)).2 w [Oper.d (operOf (s.theCtx q) w), Oper.a (operOf (s.theCtx q) w), Oper.b (operOf (s.theCtx q) w), Oper.c (operOf (s.theCtx q) w), (s.theCtx q).dreg (Isa.epiRes w), (s.theCtx q).dreg (Isa.epiGain w)]) = true)) →
      Ctr.binds (s.ctr (Isa.ctr3 w)) = true →
      abortedCode s g (s.fld (Reg.grpOpseq g)) = none →
      s.opById s.cue.nextId = none →
      (s.grp g).early = [] →
      ∃ t, exec (.cueRoute q) s = .next t ∧
        runsOn t q (s.fld (Reg.seqPc q) + 1) ((s.theCtx q)) = true ∧
        t.ctr (Isa.ctr3 w) = Ctr.bind n (s.ctr (Isa.ctr3 w)) ∧
        t.fld (Reg.grpOpseq g) = (s.fld (Reg.grpOpseq g) + 1) % 2 ^ 24 ∧
        t.col.ops.length = s.col.ops.length + 1 ∧
        t.ten.flights.length = s.ten.flights.length + 1 ∧
        t.mem = s.mem ∧
        onlyRegs [(Reg.seqSt q).off, (Reg.grpOpseq g).off, (Reg.engOps (grpEngine s g)).off] s t = true) ∧
    (∀ (s : State) (q : Fin 64) (w : Nat) (g n : Nat),
      w = fetchWord s q →
      issues s q = true →
      Isa.fmt w = 4 →
      Isa.opc w ≤ 0x6E →
      Isa.xmode w = 6 →
      follows s q = true →
      groupOf s q w = some g →
      cueOk s q g (operOf (s.theCtx q) w) ((s.theCtx q).dreg (Isa.epiRes w)) ((s.theCtx q).dreg (Isa.epiGain w)) = true →
      n = boundChunks s g (Isa.xmode w) (contribBytes (operOf (s.theCtx q) w)) →
      Ctr.targetAfter n (s.ctr (Isa.ctr3 w)) < 2 ^ 32 →
      inFlight s < 4096 →
      (openOps s g).length < 2 →
      (s.theCtx q).refusal = 0 →
      ((engUnit (grpEngine s g) :: operTiles s (operOf (s.theCtx q) w)).all (fun u => !(unitStale s u)) = true) →
      (Isa.svc w = 0 ∨ (mayUseCircuits w = true ∧ circuitsAdmit s (newOp s q g 0 (Oper.outFmt (operOf (s.theCtx q) w)) (Oper.outShape (operOf (s.theCtx q) w)).1 (Oper.outShape (operOf (s.theCtx q) w)).2 w [Oper.d (operOf (s.theCtx q) w), Oper.a (operOf (s.theCtx q) w), Oper.b (operOf (s.theCtx q) w), Oper.c (operOf (s.theCtx q) w), (s.theCtx q).dreg (Isa.epiRes w), (s.theCtx q).dreg (Isa.epiGain w)]) = true)) →
      Ctr.binds (s.ctr (Isa.ctr3 w)) = true →
      abortedCode s g (s.fld (Reg.grpOpseq g)) = none →
      s.opById s.cue.nextId = none →
      (s.grp g).early = [] →
      ∃ t, exec (.cueMerge q) s = .next t ∧
        runsOn t q (s.fld (Reg.seqPc q) + 1) ((s.theCtx q)) = true ∧
        t.ctr (Isa.ctr3 w) = Ctr.bind n (s.ctr (Isa.ctr3 w)) ∧
        t.fld (Reg.grpOpseq g) = (s.fld (Reg.grpOpseq g) + 1) % 2 ^ 24 ∧
        t.col.ops.length = s.col.ops.length + 1 ∧
        t.ten.flights.length = s.ten.flights.length + 1 ∧
        t.mem = s.mem ∧
        onlyRegs [(Reg.seqSt q).off, (Reg.grpOpseq g).off, (Reg.engOps (grpEngine s g)).off] s t = true) ∧
    (∀ (s : State) (q : Fin 64) (w : Nat) (g n : Nat),
      w = fetchWord s q →
      issues s q = true →
      Isa.fmt w = 4 →
      Isa.opc w ≤ 0x6E →
      Isa.xmode w = 7 →
      follows s q = true →
      groupOf s q w = some g →
      cueOk s q g (operOf (s.theCtx q) w) ((s.theCtx q).dreg (Isa.epiRes w)) ((s.theCtx q).dreg (Isa.epiGain w)) = true →
      n = boundChunks s g (Isa.xmode w) (contribBytes (operOf (s.theCtx q) w)) →
      Ctr.targetAfter n (s.ctr (Isa.ctr3 w)) < 2 ^ 32 →
      inFlight s < 4096 →
      (openOps s g).length < 2 →
      (s.theCtx q).refusal = 0 →
      ((engUnit (grpEngine s g) :: operTiles s (operOf (s.theCtx q) w)).all (fun u => !(unitStale s u)) = true) →
      (Isa.svc w = 0 ∨ (mayUseCircuits w = true ∧ circuitsAdmit s (newOp s q g 0 (Oper.outFmt (operOf (s.theCtx q) w)) (Oper.outShape (operOf (s.theCtx q) w)).1 (Oper.outShape (operOf (s.theCtx q) w)).2 w [Oper.d (operOf (s.theCtx q) w), Oper.a (operOf (s.theCtx q) w), Oper.b (operOf (s.theCtx q) w), Oper.c (operOf (s.theCtx q) w), (s.theCtx q).dreg (Isa.epiRes w), (s.theCtx q).dreg (Isa.epiGain w)]) = true)) →
      Ctr.binds (s.ctr (Isa.ctr3 w)) = true →
      abortedCode s g (s.fld (Reg.grpOpseq g)) = none →
      s.opById s.cue.nextId = none →
      (s.grp g).early = [] →
      grpBasepos s g ≠ 0 →
      ∃ t, exec (.cueBroadcast q) s = .next t ∧
        runsOn t q (s.fld (Reg.seqPc q) + 1) ((s.theCtx q)) = true ∧
        t.ctr (Isa.ctr3 w) = Ctr.bind n (s.ctr (Isa.ctr3 w)) ∧
        t.fld (Reg.grpOpseq g) = (s.fld (Reg.grpOpseq g) + 1) % 2 ^ 24 ∧
        t.col.ops.length = s.col.ops.length + 1 ∧
        t.ten.flights = s.ten.flights ∧
        t.mem = s.mem) ∧
    (∀ (s : State) (q : Fin 64) (w : Nat) (g n : Nat),
      w = fetchWord s q →
      issues s q = true →
      Isa.fmt w = 4 →
      Isa.opc w ≤ 0x6E →
      Isa.xmode w = 7 →
      follows s q = true →
      groupOf s q w = some g →
      cueOk s q g (operOf (s.theCtx q) w) ((s.theCtx q).dreg (Isa.epiRes w)) ((s.theCtx q).dreg (Isa.epiGain w)) = true →
      n = boundChunks s g (Isa.xmode w) (contribBytes (operOf (s.theCtx q) w)) →
      Ctr.targetAfter n (s.ctr (Isa.ctr3 w)) < 2 ^ 32 →
      inFlight s < 4096 →
      (openOps s g).length < 2 →
      (s.theCtx q).refusal = 0 →
      ((engUnit (grpEngine s g) :: operTiles s (operOf (s.theCtx q) w)).all (fun u => !(unitStale s u)) = true) →
      (Isa.svc w = 0 ∨ (mayUseCircuits w = true ∧ circuitsAdmit s (newOp s q g 0 (Oper.outFmt (operOf (s.theCtx q) w)) (Oper.outShape (operOf (s.theCtx q) w)).1 (Oper.outShape (operOf (s.theCtx q) w)).2 w [Oper.d (operOf (s.theCtx q) w), Oper.a (operOf (s.theCtx q) w), Oper.b (operOf (s.theCtx q) w), Oper.c (operOf (s.theCtx q) w), (s.theCtx q).dreg (Isa.epiRes w), (s.theCtx q).dreg (Isa.epiGain w)]) = true)) →
      Ctr.binds (s.ctr (Isa.ctr3 w)) = true →
      abortedCode s g (s.fld (Reg.grpOpseq g)) = none →
      s.opById s.cue.nextId = none →
      (s.grp g).early = [] →
      grpBasepos s g = 0 →
      ∃ t, exec (.cueBroadcast q) s = .next t ∧
        runsOn t q (s.fld (Reg.seqPc q) + 1) ((s.theCtx q)) = true ∧
        t.ctr (Isa.ctr3 w) = Ctr.bind n (s.ctr (Isa.ctr3 w)) ∧
        t.fld (Reg.grpOpseq g) = (s.fld (Reg.grpOpseq g) + 1) % 2 ^ 24 ∧
        t.col.ops.length = s.col.ops.length + 1 ∧
        t.ten.flights.length = s.ten.flights.length + 1 ∧
        t.mem = s.mem ∧
        onlyRegs [(Reg.seqSt q).off, (Reg.grpOpseq g).off, (Reg.engOps (grpEngine s g)).off] s t = true) ∧
    (∀ (s : State) (q : Fin 64) (w : Nat) (g n : Nat),
      w = fetchWord s q →
      issues s q = true →
      Isa.fmt w = 4 →
      Isa.opc w ≤ 0x6E →
      Isa.xmode w = 8 →
      follows s q = true →
      groupOf s q w = some g →
      cueOk s q g (operOf (s.theCtx q) w) ((s.theCtx q).dreg (Isa.epiRes w)) ((s.theCtx q).dreg (Isa.epiGain w)) = true →
      n = boundChunks s g (Isa.xmode w) (contribBytes (operOf (s.theCtx q) w)) →
      Ctr.targetAfter n (s.ctr (Isa.ctr3 w)) < 2 ^ 32 →
      inFlight s < 4096 →
      (openOps s g).length < 2 →
      (s.theCtx q).refusal = 0 →
      ((engUnit (grpEngine s g) :: operTiles s (operOf (s.theCtx q) w)).all (fun u => !(unitStale s u)) = true) →
      (Isa.svc w = 0 ∨ (mayUseCircuits w = true ∧ circuitsAdmit s (newOp s q g 0 (Oper.outFmt (operOf (s.theCtx q) w)) (Oper.outShape (operOf (s.theCtx q) w)).1 (Oper.outShape (operOf (s.theCtx q) w)).2 w [Oper.d (operOf (s.theCtx q) w), Oper.a (operOf (s.theCtx q) w), Oper.b (operOf (s.theCtx q) w), Oper.c (operOf (s.theCtx q) w), (s.theCtx q).dreg (Isa.epiRes w), (s.theCtx q).dreg (Isa.epiGain w)]) = true)) →
      Ctr.binds (s.ctr (Isa.ctr3 w)) = true →
      abortedCode s g (s.fld (Reg.grpOpseq g)) = none →
      s.opById s.cue.nextId = none →
      (s.grp g).early = [] →
      ∃ t, exec (.cueSelect q) s = .next t ∧
        runsOn t q (s.fld (Reg.seqPc q) + 1) ((s.theCtx q)) = true ∧
        t.ctr (Isa.ctr3 w) = Ctr.bind n (s.ctr (Isa.ctr3 w)) ∧
        t.fld (Reg.grpOpseq g) = (s.fld (Reg.grpOpseq g) + 1) % 2 ^ 24 ∧
        t.col.ops.length = s.col.ops.length + 1 ∧
        t.ten.flights.length = s.ten.flights.length + 1 ∧
        t.mem = s.mem ∧
        onlyRegs [(Reg.seqSt q).off, (Reg.grpOpseq g).off, (Reg.engOps (grpEngine s g)).off] s t = true) ∧
    (∀ (s : State) (q : Fin 64) (w : Nat) (g : Nat) (a d : BitVec 256),
      w = fetchWord s q →
      issues s q = true →
      Isa.opc w = 0xa0 →
      follows s q = true →
      groupOf s q w = some g →
      asideOk s q w a d = true →
      a = (s.theCtx q).dreg (Isa.srcA w) →
      d = (s.theCtx q).dreg (Isa.dst w) →
      Ctr.targetAfter 1 (s.ctr (Isa.ctr3 w)) < 2 ^ 32 →
      inFlight s < 4096 →
      (openOps s g).length < 2 →
      (s.theCtx q).refusal = 0 →
      unitStale s (engUnit (grpEngine s g)) = false →
      Isa.svc w = 0 →
      s.col.aside = [] →
      Ctr.binds (s.ctr (Isa.ctr3 w)) = true →
      abortedCode s g (s.fld (Reg.grpOpseq g)) = none →
      s.opById s.cue.nextId = none →
      ∃ t, exec (.curtain q) s = .next t ∧
        runsOn t q (s.fld (Reg.seqPc q) + 1) ((s.theCtx q)) = true ∧
        t.cue.nextId = s.cue.nextId + 1 ∧
        t.fld (Reg.grpOpseq g) = (s.fld (Reg.grpOpseq g) + 1) % 2 ^ 24 ∧
        t.mem = s.mem) ∧
    (∀ (s : State) (q : Fin 64) (w : Nat) (g : Nat) (a d : BitVec 256),
      w = fetchWord s q →
      issues s q = true →
      Isa.opc w = 0xa1 →
      follows s q = true →
      groupOf s q w = some g →
      asideOk s q w a d = true →
      a = (s.theCtx q).dreg (Isa.srcA w) →
      d = (s.theCtx q).dreg (Isa.dst w) →
      extentAwake s a = true →
      extentAwake s d = true →
      firstBadWord s (Desc.base a) (Desc.packedBytes a) = none →
      flightWrites s q (Desc.extent a false) = false →
      flightTouches s q (Desc.extent d false) = false →
      Ctr.targetAfter 1 (s.ctr (Isa.ctr3 w)) < 2 ^ 32 →
      inFlight s < 4096 →
      (openOps s g).length < 2 →
      (s.theCtx q).refusal = 0 →
      unitStale s (engUnit (grpEngine s g)) = false →
      Isa.svc w = 0 →
      s.col.aside = [] →
      Ctr.binds (s.ctr (Isa.ctr3 w)) = true →
      abortedCode s g (s.fld (Reg.grpOpseq g)) = none →
      s.opById s.cue.nextId = none →
      ∃ t, exec (.aside q) s = .next t ∧
        runsOn t q (s.fld (Reg.seqPc q) + 1) ((s.theCtx q)) = true ∧
        t.cue.nextId = s.cue.nextId + 1 ∧
        t.fld (Reg.grpOpseq g) = (s.fld (Reg.grpOpseq g) + 1) % 2 ^ 24 ∧
        t.mem = s.mem)

/-- A write of word 1 to 3 of a group entry is held. A write of word 0 commits: with an operation of the group open it is refused as BUSY,
VALID = 0 dissolves the group, a refused field is BAD_ENTRY with CFG_ERR, and an entry that passes and has space is in force with OPSEQ 0.
(R332, R334.) -/
def Obligations.GroupTableActs : Prop :=
    (∀ (s : State) (g : Fin 4096) (j : Fin 3) (value : Word),
      linksLive s = true →
      ∃ t, exec (.groupWordHold g j value) s = .next t ∧
        (Tab.get (fun _ => none) (t.grp g).held (j + 1) = some value) ∧
        t.regs = s.regs ∧
        t.mem = s.mem ∧
        t.col.ops = s.col.ops) ∧
    (∀ (s : State) (g : Fin 4096) (value : Word),
      linksLive s = true →
      (s.col.ops.any (fun o => decide (o.group = g) && !o.ended) = true) →
      ∃ t, exec (.groupCommit g value) s = .next t ∧
        t.fld (Reg.grpResult g) = grBusy ∧
        t.word (Reg.grpWord g 0) = s.word (Reg.grpWord g 0) ∧
        t.col.ops = s.col.ops ∧
        t.mem = s.mem ∧
        onlyRegs [(Reg.grpResult g).off, (Reg.grpWord g 0)] s t = true) ∧
    (∀ (s : State) (g : Fin 4096) (value : Word) (j : Fin 4),
      linksLive s = true →
      (s.col.ops.any (fun o => decide (o.group = g) && !o.ended) = false) →
      field value 0 1 = 0 →
      ∃ t, exec (.groupCommit g value) s = .next t ∧
        t.word (Reg.grpWord g j) = 0 ∧
        t.fld (Reg.grpResult g) = 0 ∧
        t.fld (Reg.grpOpseq g) = 0 ∧
        t.col.ops = s.col.ops) ∧
    (∀ (s : State) (g : Fin 4096) (value : Word),
      linksLive s = true →
      (s.col.ops.any (fun o => decide (o.group = g) && !o.ended) = false) →
      field value 0 1 = 1 →
      fieldRefused s (commitWords s g value) = true →
      ∃ t, exec (.groupCommit g value) s = .next t ∧
        t.fld (Reg.grpResult g) = grBadEntry ∧
        t.fld Reg.colCfgErr = 1 ∧
        t.word (Reg.grpWord g 0) = s.word (Reg.grpWord g 0) ∧
        t.col.ops = s.col.ops ∧
        t.mem = s.mem) ∧
    (∀ (s : State) (g : Fin 4096) (value : Word) (b : Nat) (j : Fin 4),
      linksLive s = true →
      (s.col.ops.any (fun o => decide (o.group = g) && !o.ended) = false) →
      field value 0 1 = 1 →
      fieldRefused s (commitWords s g value) = false →
      boxOk s (commitWords s g value) = true →
      minStage (commitWords s g value) ≤ entryField (commitWords s g value) 128 12 →
      findSpace s (entryField (commitWords s g value) 3 4 / 4) (entryField (commitWords s g value) 128 12 * 65536) = some b →
      ∃ t, exec (.groupCommit g value) s = .next t ∧
        t.word (Reg.grpWord g j) = commitWords s g value j &&& grpMask j ∧
        t.fld (Reg.grpResult g) = grPlaced ∧
        t.fld (Reg.grpOpseq g) = 0 ∧
        t.fld (Reg.grpStaging g) = b ∧
        t.col.ops = s.col.ops)

/-- A contribution, result or control frame of an operation that this chip has not issued is held for it. A contribution of an issued
operation becomes the copy that the chip holds of its sender; a result lands in dst. RETRACT takes a copy back with its REV and is
counted, VERIFIED covers a copy, RELEASE lets the frames that waited for it go, COUNT is kept for its origin. Each frame leaves the inbox.
(R335, R338, R339, R345, R348, R349, R354.) -/
def Obligations.CollectiveFramesAct : Prop :=
    (∀ (s : State) (f : Frame) (h : InFrame) (n : Nat),
      linksLive s = true →
      quiet s = true →
      inboxOf s f = some h →
      sleepingOps s f = [] →
      Frame.type f = tyColContrib →
      grpValid s (Frame.group f) = true →
      opseqOf s f = some n →
      s.op (Frame.group f) n = none →
      inSlots s (Frame.group f) n = true →
      trigsOf s 0 (Frame.group f) = [] →
      ∃ t, exec (.colContribReceive f) s = .next t ∧
        (t.grp (Frame.group f)).early = (s.grp (Frame.group f)).early ++ [(n, f)] ∧
        t.mem = s.mem ∧
        t.col.ops = s.col.ops ∧
        t.swc.inbox = s.swc.inbox.erase h) ∧
    (∀ (s : State) (f : Frame) (h : InFrame) (o : Op) ,
      linksLive s = true →
      quiet s = true →
      inboxOf s f = some h →
      sleepingOps s f = [] →
      Frame.type f = tyColContrib →
      grpValid s (Frame.group f) = true →
      opseqOf s f = some o.opseq →
      s.op (Frame.group f) o.opseq = some o →
      s.opById o.id = some o →
      o.group = Frame.group f →
      inSlots s (Frame.group f) o.opseq = true →
      o.ended = false →
      Frame.addr f / 65536 = o.sig →
      Frame.op f % 16 < 4 →
      (Frame.op f % 16 = 0 → o.xmode = 1) →
      Frame.addr f % 65536 < o.perMember s →
      o.xmode ≠ Isa.xSELECT →
      o.copies = [] →
      ∃ t, exec (.colContribReceive f) s = .next t ∧
        t.opById o.id = some { o with copies := [Copy.mk (Frame.op f % 16) (Frame.addr f % 65536) (Frame.src f * 16 + Frame.srcPort f) (Frame.op f / 16) (chunkData s o (Frame.addr f % 65536) f.payload) false] } ∧
        t.mem = s.mem ∧
        t.regs = s.regs ∧
        t.swc.inbox = s.swc.inbox.erase h) ∧
    (∀ (s : State) (f : Frame) (h : InFrame) (n : Nat),
      linksLive s = true →
      quiet s = true →
      inboxOf s f = some h →
      sleepingOps s f = [] →
      Frame.type f = tyColResult →
      grpValid s (Frame.group f) = true →
      opseqOf s f = some n →
      s.op (Frame.group f) n = none →
      inSlots s (Frame.group f) n = true →
      ∃ t, exec (.colResultReceive f) s = .next t ∧
        (t.grp (Frame.group f)).early = (s.grp (Frame.group f)).early ++ [(n, f)] ∧
        t.mem = s.mem ∧
        t.col.ops = s.col.ops ∧
        t.swc.inbox = s.swc.inbox.erase h) ∧
    (∀ (s : State) (f : Frame) (h : InFrame) (o : Op) (k per n : Nat),
      linksLive s = true →
      quiet s = true →
      inboxOf s f = some h →
      sleepingOps s f = [] →
      Frame.type f = tyColResult →
      grpValid s (Frame.group f) = true →
      opseqOf s f = some o.opseq →
      s.op (Frame.group f) o.opseq = some o →
      s.opById o.id = some o →
      o.group = Frame.group f →
      inSlots s (Frame.group f) o.opseq = true →
      o.ended = false →
      Frame.addr f / 65536 = o.sig →
      4 ≤ Frame.op f % 16 →
      Frame.op f % 16 ≤ 6 →
      o.xmode = Isa.xEXCHANGE →
      k = Frame.addr f % 65536 →
      (o.done.all (fun d => decide (d.chunk ≠ k)) = true) →
      (s.ctr o.ctr).kind = 0 →
      per = o.perMember s →
      n = max 1 (grpNmem s o.group) →
      ∃ t, exec (.colResultReceive f) s = .next t ∧
        t.ten.sp = (landBytes (o.desc 0) o.fmt (o.cols / n) (k / max 1 per * (o.cols / n)) (k % max 1 per * grpChunk s o.group) (chunkData s o k f.payload) s).ten.sp ∧
        (t.ctr o.ctr).progress = (s.ctr o.ctr).progress + 1 ∧
        t.mem = s.mem ∧
        t.swc.inbox = s.swc.inbox.erase h) ∧
    (∀ (s : State) (f : Frame) (h : InFrame) (o : Op) ,
      linksLive s = true →
      quiet s = true →
      inboxOf s f = some h →
      sleepingOps s f = [] →
      Frame.type f = tyColCtrl →
      grpValid s (Frame.group f) = true →
      opseqOf s f = some o.opseq →
      s.op (Frame.group f) o.opseq = some o →
      s.opById o.id = some o →
      o.group = Frame.group f →
      inSlots s (Frame.group f) o.opseq = true →
      o.ended = false →
      Frame.op f = 1 →
      leAt f.payload 0 2 < o.perMember s →
      o.copies = [] →
      leAt f.payload 3 1 ≠ 0 →
      ∃ t, exec (.retractReceive f) s = .next t ∧
        t.opById o.id = some { o with copies := [Copy.mk (leAt f.payload 2 1) (leAt f.payload 0 2) (Frame.src f * 16 + Frame.srcPort f) (leAt f.payload 3 1) [] false] } ∧
        t.fld Reg.colRetract = (s.fld Reg.colRetract + 1) % 2 ^ Reg.colRetract.w ∧
        t.mem = s.mem ∧
        t.swc.inbox = s.swc.inbox.erase h ∧
        onlyRegs [Reg.colRetract.off] s t = true) ∧
    (∀ (s : State) (f : Frame) (h : InFrame) (o : Op) (c : Copy) ,
      linksLive s = true →
      quiet s = true →
      inboxOf s f = some h →
      sleepingOps s f = [] →
      Frame.type f = tyColCtrl →
      grpValid s (Frame.group f) = true →
      opseqOf s f = some o.opseq →
      s.op (Frame.group f) o.opseq = some o →
      s.opById o.id = some o →
      o.group = Frame.group f →
      inSlots s (Frame.group f) o.opseq = true →
      o.ended = false →
      Frame.op f = 1 →
      leAt f.payload 0 2 < o.perMember s →
      o.copies = [c] →
      c.stage = leAt f.payload 2 1 ∧ c.chunk = leAt f.payload 0 2 ∧ c.src = Frame.src f * 16 + Frame.srcPort f →
      c.rev < leAt f.payload 3 1 →
      o.sums = [] →
      o.sends = [] →
      o.rowsLanded = [] →
      ∃ t, exec (.retractReceive f) s = .next t ∧
        t.opById o.id = some { o with copies := [{ c with rev := leAt f.payload 3 1, data := [], covered := false }] } ∧
        t.fld Reg.colRetract = (s.fld Reg.colRetract + 1) % 2 ^ Reg.colRetract.w ∧
        t.mem = s.mem ∧
        t.swc.inbox = s.swc.inbox.erase h ∧
        onlyRegs [Reg.colRetract.off] s t = true) ∧
    (∀ (s : State) (f : Frame) (h : InFrame) (o : Op) (c : Copy) ,
      linksLive s = true →
      quiet s = true →
      inboxOf s f = some h →
      sleepingOps s f = [] →
      Frame.type f = tyColCtrl →
      grpValid s (Frame.group f) = true →
      opseqOf s f = some o.opseq →
      s.op (Frame.group f) o.opseq = some o →
      s.opById o.id = some o →
      o.group = Frame.group f →
      inSlots s (Frame.group f) o.opseq = true →
      o.ended = false →
      Frame.op f = 2 →
      leAt f.payload 0 2 = leAt f.payload 2 2 →
      leAt f.payload 0 2 < o.perMember s →
      o.copies = [c] →
      c.stage = leAt f.payload 4 1 ∧ c.chunk = leAt f.payload 0 2 ∧ c.src = Frame.src f * 16 + Frame.srcPort f →
      o.sums = [] →
      ∃ t, exec (.verifiedReceive f) s = .next t ∧
        t.opById o.id = some { o with copies := [{ c with covered := true }] } ∧
        t.mem = s.mem ∧
        t.regs = s.regs ∧
        t.swc.inbox = s.swc.inbox.erase h) ∧
    (∀ (s : State) (f : Frame) (h : InFrame) (o : Op) (x : Send) ,
      linksLive s = true →
      quiet s = true →
      inboxOf s f = some h →
      sleepingOps s f = [] →
      Frame.type f = tyColCtrl →
      grpValid s (Frame.group f) = true →
      opseqOf s f = some o.opseq →
      s.op (Frame.group f) o.opseq = some o →
      s.opById o.id = some o →
      o.group = Frame.group f →
      inSlots s (Frame.group f) o.opseq = true →
      o.ended = false →
      Frame.op f = 3 →
      o.sends = [x] →
      relKey x.stage x.dest x.dport = leAt f.payload 2 1 * 65536 + Frame.src f * 16 + Frame.srcPort f →
      o.released = [] →
      x.chunk < leAt f.payload 0 2 + grpWindow s o.group →
      ∃ t, exec (.releaseReceive f) s = .next t ∧
        ((t.opById o.id).map (fun p => p.sends) = some []) ∧
        ((t.opById o.id).map (fun p => releasedBy p x) = some (leAt f.payload 0 2)) ∧
        t.mem = s.mem ∧
        t.swc.inbox = s.swc.inbox.erase h) ∧
    (∀ (s : State) (f : Frame) (h : InFrame) (o : Op) ,
      linksLive s = true →
      quiet s = true →
      inboxOf s f = some h →
      sleepingOps s f = [] →
      Frame.type f = tyColCtrl →
      grpValid s (Frame.group f) = true →
      opseqOf s f = some o.opseq →
      s.op (Frame.group f) o.opseq = some o →
      s.opById o.id = some o →
      o.group = Frame.group f →
      inSlots s (Frame.group f) o.opseq = true →
      o.ended = false →
      Frame.op f = 4 →
      o.counts = [] →
      o.routed = [] →
      0 < leAt f.payload 0 4 →
      ∃ t, exec (.countReceive f) s = .next t ∧
        t.opById o.id = some { o with counts := [(boxIndexOf s o.group (Frame.src f), leAt f.payload 0 4)] } ∧
        t.mem = s.mem ∧
        t.regs = s.regs ∧
        t.swc.inbox = s.swc.inbox.erase h)

/-- A sum whose inputs are held is formed. A verdict that passes lets the sum go on; one that fails counts a recomputation and takes the
sum back. A lane that is due takes a swing lane, or is retired. A timeout aborts the operation at this chip: its code is recorded for the
OPSEQ, COL_ABORT is set and the counter takes the error. An aside value waits in its slot. An abort notice records the abort the first
time. (R331, R341, R342, R347, R352, R357, R361, R362, R364.) -/
def Obligations.SumsVerdictsAndAbortsAct : Prop :=
    (∀ (s : State) (id : Nat) (o : Op) (stage : Fin 16) (k : Nat) (own : List Byte) ,
      linksLive s = true →
      quiet s = true →
      s.opById id = some o →
      o.ended = false →
      (opUnits s o).all (unitRuns s) = true →
      (o.xmode = Isa.xREDUCE ∨ o.xmode = Isa.xSCATTER) →
      grpSched s o.group ≠ schedCt →
      o.sums = [] →
      k < o.perMember s →
      o.own = some own →
      edgePorts s o.group = [] →
      stage.val = 0 →
      ∃ t, exec (.chunkSum id stage k) s = .next t ∧
        (t.opById id = some { o with sums := [Sum.mk 0 k 0 (combineChunks o.soft (if o.soft then 0 else Isa.xop o.w) o.fmt [(pieceOf (grpChunk s o.group) k own, ownPresent s o k)]).1 false false 0 false] }) ∧
        t.mem = s.mem ∧
        t.swc = s.swc) ∧
    (∀ (s : State) (id : Nat) (o : Op) (stage : Fin 16) (k : Nat) (pass : Bool) (lane : Fin 256) (x : Sum) ,
      linksLive s = true →
      quiet s = true →
      s.opById id = some o →
      o.ended = false →
      (opUnits s o).all (unitRuns s) = true →
      (o.xmode = Isa.xREDUCE ∨ o.xmode = Isa.xSCATTER) →
      o.sums = [x] →
      x.stage = stage.val ∧ x.chunk = k ∧ x.data ≠ [] →
      x.passed = false →
      pass = true →
      grpSched s o.group = schedCt →
      x.covered = false →
      o.done = [] →
      neededChunks s o ≠ [] →
      inputsCovered s { o with sums := [{ x with passed := true }] } stage k = false →
      ∃ t, exec (.chunkVerdict id stage k pass lane) s = .next t ∧
        t.opById id = some { o with sums := [{ x with passed := true }] } ∧
        t.mem = s.mem ∧
        t.regs = s.regs) ∧
    (∀ (s : State) (id : Nat) (o : Op) (stage : Fin 16) (k : Nat) (pass : Bool) (lane : Fin 256) (x : Sum) ,
      linksLive s = true →
      quiet s = true →
      s.opById id = some o →
      o.ended = false →
      (opUnits s o).all (unitRuns s) = true →
      (o.xmode = Isa.xREDUCE ∨ o.xmode = Isa.xSCATTER) →
      o.sums = [x] →
      x.stage = stage.val ∧ x.chunk = k ∧ x.data ≠ [] →
      x.passed = false →
      pass = true →
      grpSched s o.group = schedLong →
      sumSends s { o with sums := [{ x with passed := true }] } stage k x.data x.rev = some [] →
      o.xmode = Isa.xREDUCE →
      o.done = [] →
      neededChunks s o ≠ [] →
      ∃ t, exec (.chunkVerdict id stage k pass lane) s = .next t ∧
        t.opById id = some { o with sums := [{ x with passed := true, sent := true }] } ∧
        t.mem = s.mem ∧
        t.regs = s.regs) ∧
    (∀ (s : State) (id : Nat) (o : Op) (stage : Fin 16) (k : Nat) (pass : Bool) (lane : Fin 256) (x : Sum) ,
      linksLive s = true →
      quiet s = true →
      s.opById id = some o →
      o.ended = false →
      (opUnits s o).all (unitRuns s) = true →
      (o.xmode = Isa.xREDUCE ∨ o.xmode = Isa.xSCATTER) →
      o.sums = [x] →
      x.stage = stage.val ∧ x.chunk = k ∧ x.data ≠ [] →
      x.passed = false →
      pass = false →
      x.recomps < 3 →
      x.sent = false →
      o.sends = [] →
      o.rowsLanded = [] →
      o.done = [] →
      ∃ t, exec (.chunkVerdict id stage k pass lane) s = .next t ∧
        t.opById id = some { o with sums := [{ x with recomps := x.recomps + 1, data := [], covered := false }] } ∧
        t.fld Reg.colRecompute = (s.fld Reg.colRecompute + 1) % 2 ^ Reg.colRecompute.w ∧
        t.mem = s.mem) ∧
    (∀ (s : State) (e : Fin 16) (lane : Fin 256) (n : Nat),
      linksLive s = true →
      laneDue s e lane = true →
      s.fld (Reg.engSwings e) = n + 2 →
      ∃ t, exec (.adderLaneSwing e lane) s = .next t ∧
        t.fld (Reg.engSwings e) = n + 1 ∧
        t.fld Reg.colLaneSwung = 1 ∧
        t.col.ops = s.col.ops ∧
        t.mem = s.mem) ∧
    (∀ (s : State) (e : Fin 16) (lane : Fin 256),
      linksLive s = true →
      laneDue s e lane = true →
      s.fld (Reg.engSwings e) = 0 →
      ∃ t, exec (.adderLaneSwing e lane) s = .next t ∧
        t.fld (Reg.engRetired e) = (s.fld (Reg.engRetired e) + 1) % 2 ^ (Reg.engRetired e).w ∧
        t.col.ops = s.col.ops ∧
        t.mem = s.mem) ∧
    (∀ (s : State) (id : Nat) (o : Op) ,
      linksLive s = true →
      quiet s = true →
      s.opById id = some o →
      o.ended = false →
      o.issuedAt + grpTimeout s o.group * ticksPerUs ≤ s.now →
      s.op o.group o.opseq = some o →
      abortedCode s o.group o.opseq = none →
      ∃ t, exec (.groupTimeout id) s = .next t ∧
        abortedCode t o.group o.opseq = some Err.colTimeout ∧
        t.fld Reg.colAbortEv = 1 ∧
        t.fld Reg.colAborts = (s.fld Reg.colAborts + 1) % 2 ^ Reg.colAborts.w ∧
        t.mem = s.mem ∧
        t.opById id = none ∧
        t.ctr o.ctr = Ctr.fail 2 Err.colTimeout (s.ctr o.ctr)) ∧
    (∀ (s : State) (f : Frame) (h : InFrame) ,
      linksLive s = true →
      quiet s = true →
      inboxOf s f = some h →
      sleepingOps s f = [] →
      isAsideValue f = true →
      grpValid s (Frame.group f) = true →
      inSlots s (Frame.group f) (Frame.seq f) = true →
      s.op (Frame.group f) (Frame.seq f) = none →
      ((asideVals s (Frame.group f) (Frame.seq f) (asideSlot f).1).all (fun v => decide (v.index ≠ (asideSlot f).2)) = true) →
      Frame.op f / 16 = 0 →
      ∃ t, exec (.asideReceive f) s = .next t ∧
        t.col.aside = s.col.aside ++ [AsideVal.mk (Frame.group f) (Frame.seq f) (asideSlot f).1 (asideSlot f).2 (Frame.addr f / 65536) f.payload] ∧
        t.col.ops = s.col.ops ∧
        t.mem = s.mem ∧
        t.regs = s.regs ∧
        t.swc.inbox = s.swc.inbox.erase h) ∧
    (∀ (s : State) (f : Frame) (h : InFrame) (o : Op) ,
      linksLive s = true →
      quiet s = true →
      inboxOf s f = some h →
      sleepingOps s f = [] →
      isAbortNotice f = true →
      grpValid s (Frame.group f) = true →
      inSlots s (Frame.group f) (leAt f.payload 2 3) = true →
      s.op (Frame.group f) (leAt f.payload 2 3) = some o →
      s.opById o.id = some o →
      o.ended = false →
      o.group = Frame.group f →
      ∃ t, exec (.abortNoticeReceive f) s = .next t ∧
        abortedCode t (Frame.group f) (leAt f.payload 2 3) = some (leAt f.payload 0 2 % 4096) ∧
        t.fld Reg.colAbortEv = 1 ∧
        t.fld Reg.colAborts = (s.fld Reg.colAborts + 1) % 2 ^ Reg.colAborts.w ∧
        t.mem = s.mem ∧
        t.opById o.id = none ∧
        t.ctr o.ctr = Ctr.fail 2 (leAt f.payload 0 2 % 4096) (s.ctr o.ctr))

/-- An input takes the next CMD_SEQ and is delivered to each Prompter that runs. A stage applies the write of the claimed Prompter that
carries the next SEQ and counts the others by their cause. A heartbeat is kept for its window; a window with a beat starts anew, the third
without one declares the Prompter FAILED, as a fatal event and a lost rail do at once. The understudy takes over with the next claim; with
none the module is orphaned. A Prompter that completes BOOT takes the claim when none is ACTIVE and else enters SYNC with a checkpoint
started. Where no two lanes agree, the board freezes and grants nothing. (R367, R370, R372, R373, R374, R375, R376, R377, R378, R382.) -/
def Obligations.CallBoardActs : Prop :=
    (∀ (s : State) (i : Input) (n : Nat),
      s.house.input = true →
      intakeFull s = false →
      s.board.waiting = [] →
      n = (s.fld Reg.cmdSeq + 1) % 2 ^ 48 →
      s.board.log.length < 4096 →
      ∃ t, exec (.intakeInput i) s = .next t ∧
        t.fld Reg.cmdSeq = n ∧
        t.board.log = s.board.log ++ [(n, i)] ∧
        t.board.waiting = [] ∧
        t.links = s.links ∧
        t.mem = s.mem ∧
        onlyRegs [Reg.cmdSeq.off] s t = true) ∧
    (∀ (s : State) (i : Input),
      s.house.input = true →
      intakeFull s = true →
      ∃ t, exec (.intakeInput i) s = .next t ∧
        t.board.waiting = s.board.waiting ++ [i] ∧
        t.regs = s.regs ∧
        t.mem = s.mem) ∧
    (∀ (s : State) (who : Who) (k : Fin 8) (claim seq : Fin 4294967296) (bytes : List Byte),
      s.house.input = true →
      prompterRail s who = true →
      s.board.waiting = [] →
      stageJudge s k claim seq = .take →
      ∃ t, exec (.stageWrite who k claim seq (.message bytes)) s = .next t ∧
        t.fld (Reg.osLast k) = seq.val ∧
        t.outbox = s.outbox ++ [.stageMessage bytes] ∧
        t.board.applied = s.board.applied + 1 ∧
        t.mem = s.mem ∧
        t.links = s.links) ∧
    (∀ (s : State) (who : Who) (k : Fin 8) (claim seq : Fin 4294967296) (n : Nat),
      s.house.input = true →
      prompterRail s who = true →
      s.board.waiting = [] →
      stageJudge s k claim seq = .take →
      (s.sem n).holder = some (masterName s 0 0) →
      ∃ t, exec (.stageWrite who k claim seq (.semRelease n)) s = .next t ∧
        t.fld (Reg.osLast k) = seq.val ∧
        t.sem n = Sem.init ∧
        t.mem = s.mem ∧
        t.links = s.links) ∧
    (∀ (s : State) (who : Who) (k : Fin 8) (claim seq : Fin 4294967296) (effect : SideEffect),
      s.house.input = true →
      prompterRail s who = true →
      stageJudge s k claim seq = .claimLow →
      ∃ t, exec (.stageWrite who k claim seq effect) s = .next t ∧
        t.fld (Reg.claimLow k) = (s.fld (Reg.claimLow k) + 1) % 2 ^ (Reg.claimLow k).w ∧
        t.outbox = s.outbox ∧
        t.fld (Reg.osLast k) = s.fld (Reg.osLast k) ∧
        t.mem = s.mem ∧
        t.links = s.links) ∧
    (∀ (s : State) (who : Who) (k : Fin 8) (claim seq : Fin 4294967296) (effect : SideEffect),
      s.house.input = true →
      prompterRail s who = true →
      stageJudge s k claim seq = .dup →
      ∃ t, exec (.stageWrite who k claim seq effect) s = .next t ∧
        t.fld (Reg.osDup k) = (s.fld (Reg.osDup k) + 1) % 2 ^ (Reg.osDup k).w ∧
        t.outbox = s.outbox ∧
        t.fld (Reg.osLast k) = s.fld (Reg.osLast k) ∧
        t.mem = s.mem ∧
        t.links = s.links ∧
        onlyRegs [(Reg.osDup k).off, (Reg.osLast k).off] s t = true) ∧
    (∀ (s : State) (who : Who) (k : Fin 8) (claim seq : Fin 4294967296) (effect : SideEffect),
      s.house.input = true →
      prompterRail s who = true →
      stageJudge s k claim seq = .gap →
      ∃ t, exec (.stageWrite who k claim seq effect) s = .next t ∧
        t.fld (Reg.osGap k) = (s.fld (Reg.osGap k) + 1) % 2 ^ (Reg.osGap k).w ∧
        t.outbox = s.outbox ∧
        t.fld (Reg.osLast k) = s.fld (Reg.osLast k) ∧
        t.mem = s.mem ∧
        t.links = s.links ∧
        onlyRegs [(Reg.osGap k).off, (Reg.osLast k).off] s t = true) ∧
    (∀ (s : State) (who : Who),
      s.house.input = true →
      prompterRail s who = true →
      beats s who = true →
      ∃ t, exec (.prompterHeartbeat who) s = .next t ∧
        (t.prompter who).beat = true ∧
        (t.prompter who.other) = s.prompter who.other ∧
        t.regs = s.regs ∧
        t.mem = s.mem) ∧
    (∀ (s : State) (votes : Votes) (who : Who),
      s.house.input = true →
      s.board.windows < s.now / 2500 →
      beats s who = true →
      (s.prompter who).beat = true →
      (beats s who.other = false ∨ (s.prompter who.other).beat = true) →
      ∃ t, exec (.heartbeatWindowEnd votes) s = .next t ∧
        (t.prompter who).beat = false ∧
        (t.prompter who).missed = 0 ∧
        t.board.windows = s.now / 2500 ∧
        t.regs = s.regs ∧
        t.mem = s.mem) ∧
    (∀ (s : State) (votes : Votes) (who : Who),
      s.house.input = true →
      s.board.windows < s.now / 2500 →
      beats s who = true →
      (s.prompter who).beat = false →
      (s.prompter who).missed < 2 →
      ((s.prompter who.other).beat = true ∨ (s.prompter who.other).missed < 2) →
      ∃ t, exec (.heartbeatWindowEnd votes) s = .next t ∧
        (t.prompter who).missed = (s.prompter who).missed + 1 ∧
        (t.prompter who).beat = false ∧
        t.board.windows = s.now / 2500 ∧
        t.regs = s.regs ∧
        t.mem = s.mem) ∧
    (∀ (s : State) (votes : Votes) (who : Who),
      s.house.input = true →
      s.board.windows < s.now / 2500 →
      votes = .agree →
      s.fld Reg.cbFrozen = 0 →
      s.board.waiting = [] →
      prompterState s who = psUnderstudy →
      (s.prompter who).beat = false →
      (s.prompter who).missed = 2 →
      (s.prompter who).fails = [] →
      (s.prompter who.other).beat = true →
      s.board.handover = none →
      ∃ t, exec (.heartbeatWindowEnd votes) s = .next t ∧
        prompterState t who = psFailed ∧
        t.fld Reg.understudyLost = 1 ∧
        prompterState t who.other = prompterState s who.other ∧
        t.board.windows = s.now / 2500 ∧
        t.mem = s.mem) ∧
    (∀ (s : State) (who : Who) (votes : Votes) ,
      s.house.input = true →
      votes = .agree →
      s.fld Reg.cbFrozen = 0 →
      prompterRail s who = true →
      s.board.waiting = [] →
      prompterState s who = psActive →
      (s.prompter who).fails = [] →
      s.board.handover = none →
      prompterState s who.other = psUnderstudy →
      s.fld Reg.cbHighest < 0xFFFFFFFE →
      ∃ t, exec (.prompterFatal who votes) s = .next t ∧
        prompterState t who = psFailed ∧
        prompterState t who.other = psActive ∧
        t.fld Reg.cbClaim = s.fld Reg.cbHighest + 1 ∧
        t.fld Reg.evTakeover = 1 ∧
        t.outbox = s.outbox ++ [.prompterCall who.other] ∧
        t.mem = s.mem) ∧
    (∀ (s : State) (who : Who) (votes : Votes) ,
      s.house.input = true →
      votes = .agree →
      s.fld Reg.cbFrozen = 0 →
      prompterRail s who = true →
      s.board.waiting = [] →
      prompterState s who = psActive →
      (s.prompter who).fails = [] →
      s.board.handover = none →
      prompterState s who.other = psSync →
      s.fld Reg.cbHighest < 0xFFFFFFFE →
      (s.board.log.all (fun e => !(isCommand e.2)) = true) →
      ∃ t, exec (.prompterFatal who votes) s = .next t ∧
        prompterState t who = psFailed ∧
        prompterState t who.other = psActive ∧
        t.fld Reg.cbClaim = s.fld Reg.cbHighest + 1 ∧
        t.fld Reg.evTakeover = 1 ∧
        t.fld Reg.evCold = 1 ∧
        t.outbox = s.outbox ++ [.prompterCall who.other] ∧
        t.mem = s.mem) ∧
    (∀ (s : State) (who : Who) (votes : Votes) ,
      s.house.input = true →
      votes = .split →
      s.fld Reg.cbFrozen = 0 →
      prompterRail s who = true →
      prompterRuns s who = true →
      ∃ t, exec (.prompterFatal who votes) s = .next t ∧
        t.fld Reg.cbFrozen = 1 ∧
        prompterState t who = prompterState s who ∧
        t.fld Reg.cbClaim = s.fld Reg.cbClaim ∧
        t.outbox = s.outbox ∧
        t.mem = s.mem ∧
        onlyRegs [Reg.cbFrozen.off, Reg.cbClaim.off] s t = true) ∧
    (∀ (s : State) (who : Who) (votes : Votes) ,
      s.house.input = true →
      votes = .agree →
      s.fld Reg.cbFrozen = 0 →
      prompterRail s who = true →
      s.board.waiting = [] →
      prompterState s who = psActive →
      (s.prompter who).fails = [] →
      s.board.handover = none →
      prompterState s who.other = psOff →
      ∃ t, exec (.prompterFatal who votes) s = .next t ∧
        prompterState t who = psFailed ∧
        t.fld Reg.cbClaim = 0 ∧
        t.fld Reg.orphan = 1 ∧
        t.outbox = s.outbox ∧
        t.mem = s.mem) ∧
    (∀ (s : State) (who : Who) (votes : Votes) ,
      s.house.input = true →
      votes = .agree →
      s.fld Reg.cbFrozen = 0 →
      prompterRail s who = true →
      s.board.waiting = [] →
      prompterState s who = psActive →
      (s.prompter who).fails = [] →
      s.board.handover = none →
      prompterState s who.other = psUnderstudy →
      s.fld Reg.cbHighest < 0xFFFFFFFE →
      ∃ t, exec (.prompterRailDrop who votes) s = .next t ∧
        prompterState t who = psFailed ∧
        prompterState t who.other = psActive ∧
        t.fld Reg.cbClaim = s.fld Reg.cbHighest + 1 ∧
        t.fld Reg.evTakeover = 1 ∧
        t.outbox = s.outbox ++ [.prompterCall who.other] ∧
        t.mem = s.mem ∧
        t.fld (Reg.rail (1 + who.idx)) = 0) ∧
    (∀ (s : State) (who : Who) (votes : Votes) ,
      s.house.input = true →
      votes = .agree →
      s.fld Reg.cbFrozen = 0 →
      prompterRail s who = true →
      s.board.waiting = [] →
      prompterState s who = psActive →
      (s.prompter who).fails = [] →
      s.board.handover = none →
      prompterState s who.other = psSync →
      s.fld Reg.cbHighest < 0xFFFFFFFE →
      (s.board.log.all (fun e => !(isCommand e.2)) = true) →
      ∃ t, exec (.prompterRailDrop who votes) s = .next t ∧
        prompterState t who = psFailed ∧
        prompterState t who.other = psActive ∧
        t.fld Reg.cbClaim = s.fld Reg.cbHighest + 1 ∧
        t.fld Reg.evTakeover = 1 ∧
        t.fld Reg.evCold = 1 ∧
        t.outbox = s.outbox ++ [.prompterCall who.other] ∧
        t.mem = s.mem ∧
        t.fld (Reg.rail (1 + who.idx)) = 0) ∧
    (∀ (s : State) (who : Who) (votes : Votes) ,
      s.house.input = true →
      votes = .split →
      s.fld Reg.cbFrozen = 0 →
      prompterRail s who = true →
      prompterRuns s who = true →
      ∃ t, exec (.prompterRailDrop who votes) s = .next t ∧
        t.fld Reg.cbFrozen = 1 ∧
        prompterState t who = prompterState s who ∧
        t.fld Reg.cbClaim = s.fld Reg.cbClaim ∧
        t.outbox = s.outbox ∧
        t.mem = s.mem ∧
        t.fld (Reg.rail (1 + who.idx)) = 0 ∧
        onlyRegs [Reg.cbFrozen.off, Reg.cbClaim.off, (Reg.rail (1 + who.idx)).off] s t = true) ∧
    (∀ (s : State) (who : Who) (votes : Votes) ,
      s.house.input = true →
      votes = .agree →
      s.fld Reg.cbFrozen = 0 →
      prompterRail s who = true →
      s.board.waiting = [] →
      prompterState s who = psActive →
      (s.prompter who).fails = [] →
      s.board.handover = none →
      prompterState s who.other = psOff →
      ∃ t, exec (.prompterRailDrop who votes) s = .next t ∧
        prompterState t who = psFailed ∧
        t.fld Reg.cbClaim = 0 ∧
        t.fld Reg.orphan = 1 ∧
        t.outbox = s.outbox ∧
        t.mem = s.mem ∧
        t.fld (Reg.rail (1 + who.idx)) = 0) ∧
    (∀ (s : State) (a b : Bool) (votes : Votes) ,
      s.house.input = true →
      s.sec.booted = true →
      votes = .agree →
      s.fld Reg.cbFrozen = 0 →
      a = true →
      b = false →
      s.board.waiting = [] →
      prompterState s .a = psBoot →
      activePrompter s = none →
      s.fld Reg.cbHighest < 0xFFFFFFFE →
      (s.board.log.all (fun e => !(isCommand e.2)) = true) →
      ∃ t, exec (.prompterJoin a b votes) s = .next t ∧
        prompterState t .a = psActive ∧
        t.fld Reg.cbClaim = s.fld Reg.cbHighest + 1 ∧
        t.fld Reg.evCold = 1 ∧
        t.outbox = s.outbox ++ [.prompterCall .a] ∧
        t.mem = s.mem) ∧
    (∀ (s : State) (a b : Bool) (votes : Votes) (n : Nat) (i : Input),
      s.house.input = true →
      s.sec.booted = true →
      votes = .agree →
      s.fld Reg.cbFrozen = 0 →
      a = true →
      b = false →
      s.board.waiting = [] →
      prompterState s .a = psBoot →
      prompterState s .b = psOff →
      s.fld Reg.cbHighest < 0xFFFFFFFE →
      s.board.log = [(n, i)] →
      isCommand i = true →
      repliedTo s i = false →
      ∃ t, exec (.prompterJoin a b votes) s = .next t ∧
        prompterState t .a = psActive ∧
        t.fld Reg.evCold = 1 ∧
        t.fld (Reg.osLast 6) = (s.fld (Reg.osLast 6) + 1) % 2 ^ 32 ∧
        t.outbox = s.outbox ++ [.prompterCall .a, .stageMessage (Config.restartedReply i)] ∧
        t.mem = s.mem) ∧
    (∀ (s : State) (a b : Bool) (votes : Votes) ,
      s.house.input = true →
      s.sec.booted = true →
      votes = .agree →
      s.fld Reg.cbFrozen = 0 →
      a = false →
      b = true →
      prompterState s .b = psBoot →
      activePrompter s = some .a →
      s.board.copying = none →
      ∃ t, exec (.prompterJoin a b votes) s = .next t ∧
        prompterState t .b = psSync ∧
        t.board.copying.isSome = true ∧
        t.fld Reg.cbClaim = s.fld Reg.cbClaim ∧
        t.mem = s.mem) ∧
    (∀ (s : State) (who : Who),
      s.house.input = true →
      prompterState s who = psFailed →
      (s.prompter who).fails.getLastD 0 + 1000 * ticksPerMs ≤ s.now →
      ∃ t, exec (.prompterResetRelease who) s = .next t ∧
        (prompterState t who = (if prompterRail s who then psBoot else psOff)) ∧
        (t.prompter who).missed = 0 ∧
        prompterState t who.other = prompterState s who.other ∧
        t.mem = s.mem) ∧
    (∀ (s : State) (who : Who),
      s.house.input = true →
      prompterState s who = psHeldOff →
      ∃ t, exec (.prompterRelease who) s = .next t ∧
        (prompterState t who = (if prompterRail s who then psBoot else psOff)) ∧
        (t.prompter who).missed = 0 ∧
        prompterState t who.other = prompterState s who.other ∧
        t.mem = s.mem)

/-- A checkpoint starts with the LAST_SEQ of each stage and the MARK of the moment; a body that fits completes it in the other buffer; one
that is abandoned leaves the last complete one and sets CKPT_FAIL. A Prompter in SYNC that adopts a checkpoint with a good digest is the
UNDERSTUDY. HANDOVER waits for the checkpoint that it starts; without an understudy it is refused. (R381, R382, R387.) -/
def Obligations.CheckpointsAct : Prop :=
    (∀ (s : State),
      s.house.input = true →
      (s.board.due = true ∨ s.board.startedAt + s.fld Reg.ckptPeriod * ticksPerMs ≤ s.now) →
      (activePrompter s).isSome = true →
      s.board.copying = none →
      ∃ t, exec .checkpointStart s = .next t ∧
        (t.board.copying = some (s.now, Checkpoint.mk ((Tab.get (fun _ => Checkpoint.init) s.board.bufs s.board.lastBuf).number + 1) (s.fld Reg.cmdSeq) ((List.range 8).map (fun k => s.fld (Reg.osLast k))) [] false 0 s.board.applied)) ∧
        t.board.markSeq = s.fld Reg.cmdSeq ∧
        t.board.startedAt = s.now ∧
        t.board.due = false ∧
        t.board.bufs = s.board.bufs ∧
        t.regs = s.regs ∧
        t.mem = s.mem) ∧
    (∀ (s : State) (body : List Byte) (a : Nat) (k : Checkpoint),
      s.house.input = true →
      copyFits s body = true →
      s.board.copying = some (a, k) →
      s.board.due = false →
      ∃ t, exec (.checkpointComplete body) s = .next t ∧
        ((Tab.get (fun _ => Checkpoint.init) t.board.bufs t.board.lastBuf).body = body) ∧
        ((Tab.get (fun _ => Checkpoint.init) t.board.bufs t.board.lastBuf).complete = true) ∧
        ((Tab.get (fun _ => Checkpoint.init) t.board.bufs t.board.lastBuf).lasts = k.lasts) ∧
        t.board.lastBuf = 1 - s.board.lastBuf ∧
        t.board.copying = none ∧
        t.fld Reg.ckptLast = k.number % 2 ^ 64 ∧
        t.mem = s.mem ∧
        onlyRegs [Reg.ckptLast.off] s t = true) ∧
    (∀ (s : State) (a : Nat) (k : Checkpoint),
      s.house.input = true →
      s.board.handover = none →
      s.board.copying = some (a, k) →
      s.board.due = false →
      a + 20 * ticksPerMs < s.now →
      ∃ t, exec .checkpointAbandon s = .next t ∧
        t.board.copying = none ∧
        t.fld Reg.ckptFail = 1 ∧
        t.board.bufs = s.board.bufs ∧
        t.mem = s.mem ∧
        onlyRegs [Reg.ckptFail.off] s t = true) ∧
    (∀ (s : State) (who : Who) (k : Checkpoint),
      s.house.input = true →
      prompterState s who = psSync →
      (Tab.get (fun _ => Checkpoint.init) s.board.bufs s.board.lastBuf = k) →
      k.complete = true →
      k.digest = checkpointDigest k →
      s.fld Reg.cmdSeq ≤ k.mark + 4096 →
      s.board.handover = none →
      s.board.waiting = [] →
      ∃ t, exec (.checkpointAdopt who) s = .next t ∧
        prompterState t who = psUnderstudy ∧
        t.board.adoptSeq = k.mark ∧
        t.fld Reg.ckptAdopt = k.number % 2 ^ 64 ∧
        prompterState t who.other = prompterState s who.other ∧
        t.mem = s.mem) ∧
    (∀ (s : State) (w : Who),
      s.house.input = true →
      s.board.handover = none →
      activePrompter s = some w →
      prompterState s w.other = psUnderstudy →
      ∃ t, exec .handover s = .next t ∧
        (t.board.handover = some ((Tab.get (fun _ => Checkpoint.init) s.board.bufs s.board.lastBuf).number + 1 + (if s.board.copying.isSome then 1 else 0))) ∧
        t.board.copying.isSome = true ∧
        t.board.due = s.board.copying.isSome ∧
        t.fld Reg.cbClaim = s.fld Reg.cbClaim ∧
        t.mem = s.mem ∧
        onlyRegs [Reg.cbClaim.off] s t = true) ∧
    (∀ (s : State) (n : Nat),
      s.house.input = true →
      s.board.handover = some n →
      ∃ t, exec .handover s = .next t ∧
        t.fld Reg.handoverResult = 1 ∧
        t.board = s.board ∧
        t.mem = s.mem ∧
        onlyRegs [Reg.handoverResult.off] s t = true) ∧
    (∀ (s : State),
      s.house.input = true →
      s.board.handover = none →
      activePrompter s = none →
      ∃ t, exec .handover s = .next t ∧
        t.fld Reg.handoverResult = 3 ∧
        t.board = s.board ∧
        t.mem = s.mem ∧
        onlyRegs [Reg.handoverResult.off] s t = true) ∧
    (∀ (s : State) (w : Who),
      s.house.input = true →
      s.board.handover = none →
      activePrompter s = some w →
      prompterState s w.other ≠ psUnderstudy →
      ∃ t, exec .handover s = .next t ∧
        t.fld Reg.handoverResult = 3 ∧
        t.board = s.board ∧
        t.mem = s.mem ∧
        onlyRegs [Reg.handoverResult.off] s t = true)

/-- A send by the host that passes is queued with its stamp and OK, one that does not shows its code. A pop takes the oldest message. A
MSG of a party of the channel is queued once and acknowledged. An ACK pops the message on its way; any other NOTICE is an input to the
Prompters. A message without its ACK is sent again. A MGMT frame that no row takes is counted and answered. (R389, R390, R391, R392, R393,
R394.) -/
def Obligations.MailboxesAct : Prop :=
    (∀ (s : State) (c : Fin 32) (n : Fin 2048) (d : Nat),
      s.house.input = true →
      sendVerdict s c ptHost n = .inr d →
      ∃ t, exec (.mailboxHostSend c n) s = .next t ∧
        (t.mailQ c d = s.mailQ c d ++ [Msg.mk ptHost (myChip s) (s.fld Reg.genHost) (Tab.get (fun _ => 0) s.mail.seqs (mailKey c d)) (s.now % 2 ^ 32) (windowBytes s (Reg.txWin c) n)]) ∧
        t.fld (Reg.lastTx c) = txOk ∧
        t.mem = s.mem) ∧
    (∀ (s : State) (c : Fin 32) (n : Fin 2048) (e : Nat),
      s.house.input = true →
      sendVerdict s c ptHost n = .inl e →
      e < 8 →
      ∃ t, exec (.mailboxHostSend c n) s = .next t ∧
        t.fld (Reg.lastTx c) = e ∧
        t.mail = s.mail ∧
        t.mem = s.mem) ∧
    (∀ (s : State) (c : Fin 32) (d : Nat) (m : Msg) (r : List Msg),
      s.house.input = true →
      dirFrom s c (ptHost, 0) = some d →
      s.mailQ c (1 - d) = m :: r →
      ∃ t, exec (.mailboxHostPop c) s = .next t ∧
        t.mailQ c (1 - d) = r ∧
        t.mem = s.mem) ∧
    (∀ (s : State) (f : Frame) (h : InFrame) (d : Nat) (p : Nat × Nat) (c : Nat),
      linksLive s = true →
      inboxOf s f = some h →
      Frame.type f = tyMgmt →
      0x80 ≤ Frame.op f ∧ Frame.op f ≤ 0x9F →
      c = Frame.op f - 0x80 →
      frameParty s f = some p →
      msgVerdict s f = .inr (d, true) →
      s.mail.notices = [] →
      ∃ t, exec (.mailboxMsgReceive f) s = .next t ∧
        t.mailQ c d = s.mailQ c d ++ [Msg.mk p.1 (Frame.src f) (leAt f.payload 2 2) (Frame.seq f) (s.now % 2 ^ 32) ((f.payload.drop 16).take (leAt f.payload 0 2))] ∧
        t.mail.notices = [(false, mgmtAnswer s f opNotice (mboxNotice c ntAck (Frame.seq f)))] ∧
        t.mem = s.mem ∧
        t.swc.inbox = s.swc.inbox.erase h) ∧
    (∀ (s : State) (f : Frame) (h : InFrame) (e : Nat),
      linksLive s = true →
      inboxOf s f = some h →
      Frame.type f = tyMgmt →
      0x80 ≤ Frame.op f ∧ Frame.op f ≤ 0x9F →
      msgVerdict s f = .inl e →
      e ≠ ntLenBad →
      s.mail.notices = [] →
      ∃ t, exec (.mailboxMsgReceive f) s = .next t ∧
        t.mail.notices = [(false, mgmtAnswer s f opNotice (mboxNotice (Frame.op f - 0x80) e (Frame.seq f)))] ∧
        t.mail.queues = s.mail.queues ∧
        t.regs = s.regs ∧
        t.mem = s.mem ∧
        t.swc.inbox = s.swc.inbox.erase h) ∧
    (∀ (s : State) (f : Frame) (h : InFrame) (c : Nat) (d : Delivery) (m : Msg) (r : List Msg),
      linksLive s = true →
      inboxOf s f = some h →
      Frame.type f = tyMgmt →
      Frame.op f = opNotice →
      c = leAt f.payload 0 1 →
      leAt f.payload 1 1 = ntAck →
      s.mail.out = [d] →
      d.ch = c →
      d.seq = leAt f.payload 4 3 →
      frameParty s f = some (receiverOf s c d.dir) →
      s.mailQ c d.dir = m :: r →
      ∃ t, exec (.mailboxNoticeReceive f) s = .next t ∧
        t.mailQ c d.dir = r ∧
        t.mem = s.mem ∧
        t.swc.inbox = s.swc.inbox.erase h) ∧
    (∀ (s : State) (f : Frame) (h : InFrame) ,
      linksLive s = true →
      inboxOf s f = some h →
      Frame.type f = tyMgmt →
      Frame.op f = opNotice →
      s.mail.out = [] →
      intakeFull s = false →
      s.board.waiting = [] →
      ∃ t, exec (.mailboxNoticeReceive f) s = .next t ∧
        t.fld Reg.cmdSeq = (s.fld Reg.cmdSeq + 1) % 2 ^ 48 ∧
        t.mail = s.mail ∧
        t.mem = s.mem ∧
        t.swc.inbox = s.swc.inbox.erase h) ∧
    (∀ (s : State) (c : Fin 32) (dir : Fin 2) (d : Delivery) (m : Msg) (r : List Msg),
      linksLive s = true →
      s.mail.out = [d] →
      d.ch = c.val ∧ d.dir = dir.val →
      s.mailQ c dir = m :: r →
      d.sent + 2500 ≤ s.now →
      d.tries < 15 →
      ∃ t, exec (.mailboxResendTimeout c dir) s = .next t ∧
        t.mail.out = [{ d with tries := d.tries + 1, sent := s.now }] ∧
        t.mailQ c dir = m :: r ∧
        t.mem = s.mem) ∧
    (∀ (s : State) (c : Fin 32) (dir : Fin 2) (d : Delivery) (m : Msg) (r : List Msg),
      linksLive s = true →
      s.board.waiting = [] →
      intakeFull s = false →
      s.mail.out = [d] →
      d.ch = c.val ∧ d.dir = dir.val →
      s.mailQ c dir = m :: r →
      d.sent + 2500 ≤ s.now →
      15 ≤ d.tries →
      senderOf s c dir = (ptPrompter, 0) →
      ∃ t, exec (.mailboxResendTimeout c dir) s = .next t ∧
        t.mailQ c dir = r ∧
        t.fld Reg.cmdSeq = (s.fld Reg.cmdSeq + 1) % 2 ^ 48 ∧
        t.mem = s.mem) ∧
    (∀ (s : State) (f : Frame) (h : InFrame) ,
      linksLive s = true →
      inboxOf s f = some h →
      Frame.type f = tyMgmt →
      mgmtAssigned (Frame.op f) = false →
      s.mail.notices = [] →
      ∃ t, exec (.mgmtUnsupported f) s = .next t ∧
        t.mail.notices = [(false, mgmtAnswer s f opUnsupported (leBytes 1 (Frame.op f) ++ leBytes 1 1 ++ List.replicate 14 0))] ∧
        t.fld Reg.mbxBad = (s.fld Reg.mbxBad + 1) % 2 ^ 48 ∧
        t.fld Reg.badFrameEv = 1 ∧
        t.mem = s.mem ∧
        t.swc.inbox = s.swc.inbox.erase h)

/-- A read of a free semaphore gives it to the reader with RESULT 1, of a held one shows its holder with RESULT 2 and leaves it. SEM_ACQ
and SEM_REL do the same for a fabric master and are answered. The holder frees its semaphore; no other master does. A forced release frees
it and leaves FORCED. (R401, R402, R403.) -/
def Obligations.SemaphoresAct : Prop :=
    (∀ (s : State) (n : Fin 64) ,
      s.house.input = true →
      (s.sem n).holder = none →
      ∃ t, exec (.semReadAcquire n) s = .next t ∧
        (t.sem n).holder = some (1, myChip s) ∧
        (t.sem n).forced = (s.sem n).forced ∧
        t.outbox = s.outbox ++ [.barData (0x200800 + 8 * n.val) (semValue 1 (s.sem n).forced (1, myChip s))] ∧
        t.regs = s.regs ∧
        t.mem = s.mem) ∧
    (∀ (s : State) (n : Fin 64) (m : Nat × Nat),
      s.house.input = true →
      (s.sem n).holder = some m →
      ∃ t, exec (.semReadAcquire n) s = .next t ∧
        t.sem n = s.sem n ∧
        t.outbox = s.outbox ++ [.barData (0x200800 + 8 * n.val) (semValue 2 (s.sem n).forced m)] ∧
        t.regs = s.regs ∧
        t.mem = s.mem) ∧
    (∀ (s : State) (f : Frame) (h : InFrame) (n : Nat) (m : Nat × Nat),
      linksLive s = true →
      inboxOf s f = some h →
      Frame.type f = tyMgmt →
      Frame.op f = opSemAcq →
      Frame.len f = 0 →
      n = Frame.addr f % 64 →
      frameMaster s f = some m →
      (s.sem n).holder = none →
      s.mail.notices = [] →
      ∃ t, exec (.semAcq f) s = .next t ∧
        (t.sem n).holder = some m ∧
        t.mail.notices = [(false, mgmtAnswer s f opSemAcq (leBytes 4 (semValue 1 (s.sem n).forced m) ++ List.replicate 12 0))] ∧
        t.regs = s.regs ∧
        t.mem = s.mem ∧
        t.swc.inbox = s.swc.inbox.erase h) ∧
    (∀ (s : State) (f : Frame) (h : InFrame) (n : Nat) (m : Nat × Nat),
      linksLive s = true →
      inboxOf s f = some h →
      Frame.type f = tyMgmt →
      Frame.op f = opSemRel →
      Frame.len f = 0 →
      n = Frame.addr f % 64 →
      frameMaster s f = some m →
      (s.sem n).holder = some m →
      s.mail.notices = [] →
      ∃ t, exec (.semRel f) s = .next t ∧
        t.sem n = Sem.init ∧
        t.mail.notices = [(false, mgmtAnswer s f opSemRel (leBytes 1 1 ++ List.replicate 15 0))] ∧
        t.regs = s.regs ∧
        t.mem = s.mem ∧
        t.swc.inbox = s.swc.inbox.erase h) ∧
    (∀ (s : State) (f : Frame) (h : InFrame) (n : Nat) (m : Nat × Nat),
      linksLive s = true →
      inboxOf s f = some h →
      Frame.type f = tyMgmt →
      Frame.op f = opSemRel →
      Frame.len f = 0 →
      n = Frame.addr f % 64 →
      frameMaster s f = some m →
      (s.sem n).holder ≠ some m →
      s.mail.notices = [] →
      ∃ t, exec (.semRel f) s = .next t ∧
        t.sem n = s.sem n ∧
        t.mail.notices = [(false, mgmtAnswer s f opSemRel (leBytes 1 2 ++ List.replicate 15 0))] ∧
        t.regs = s.regs ∧
        t.mem = s.mem ∧
        t.swc.inbox = s.swc.inbox.erase h) ∧
    (∀ (s : State) (n : Fin 64) ,
      s.house.input = true →
      (s.sem n).holder = some (1, myChip s) →
      ∃ t, exec (.semHostRelease n) s = .next t ∧
        t.sem n = Sem.init ∧
        t.regs = s.regs ∧
        t.mem = s.mem) ∧
    (∀ (s : State) (n : Fin 64) ,
      s.house.input = true →
      (s.sem n).holder ≠ some (1, myChip s) →
      ∃ t, exec (.semHostRelease n) s = .next t ∧
        t = s) ∧
    (∀ (s : State) (n : Fin 64) ,
      s.house.input = true →
      (s.sem n).holder.isSome = true →
      ∃ t, exec (.semForce n) s = .next t ∧
        t.sem n = { holder := none, forced := true } ∧
        t.fld Reg.forcedSem = 1 ∧
        t.mem = s.mem ∧
        onlyRegs [Reg.forcedSem.off] s t = true)

/-- A capsule that arrives waits while the engine is busy; otherwise one that passes the steps of R443 goes to the counter store. A stored
counter becomes the last of its commander and its capsule the accepted one; a failed store ends it with STORE_FAIL. A hold ends. An
accepted SAFETY_CONFIG writes its register, KEY_INSTALL installs its key when CHECK matches, KEY_CLEAR clears one, ACT_SWAP makes its Act
ACTIVE and the other DRAINING, PLAN_COMMIT commits what R185 does not refuse. (R146, R185, R443, R444, R447, R449, R450.) -/
def Obligations.CapsulesAct : Prop :=
    (∀ (s : State) (via : Transport) (bytes : List Byte) (c : Capsule) (p : Port),
      s.house.input = true →
      transportPort via = some p →
      portReady s p = true →
      bytes.length ≤ 4108 →
      c.via = via ∧ c.bytes = bytes →
      engineBusy s = true →
      ∃ t, exec (.capsuleReceive via bytes) s = .next t ∧
        t.sec.waiting = s.sec.waiting ++ [c] ∧
        t.sec.storing = s.sec.storing ∧
        t.regs = s.regs ∧
        t.mem = s.mem) ∧
    (∀ (s : State) (via : Transport) (bytes : List Byte) (c : Capsule) (p : Port),
      s.house.input = true →
      transportPort via = some p →
      portReady s p = true →
      bytes.length ≤ 4108 →
      c.via = via ∧ c.bytes = bytes →
      engineBusy s = false →
      s.sec.waiting = [] →
      ∃ t, exec (.capsuleReceive via bytes) s = .next t ∧
        (t.sec.storing = (if capVerdict s c = none then some c else none)) ∧
        t.sec.accepted = none ∧
        t.mem = s.mem ∧
        t.links = s.links) ∧
    (∀ (s : State) (via : Transport) (bytes : List Byte) (c : Capsule) ,
      s.house.input = true →
      via = .window →
      56 ≤ bytes.length →
      bytes.length ≤ 2104 →
      s.fld Reg.capBusy = 0 →
      engineBusy s = true →
      c.via = .window →
      (c.bytes = Tab.getRange (fun _ => 0) (Tab.setRange (fun _ => 0) s.sec.win 0 bytes) 0 bytes.length) →
      ∃ t, exec (.capsuleReceive via bytes) s = .next t ∧
        t.fld Reg.capBusy = 1 ∧
        t.sec.waiting = s.sec.waiting ++ [c] ∧
        t.mem = s.mem ∧
        t.links = s.links ∧
        onlyRegs [Reg.capBusy.off] s t = true) ∧
    (∀ (s : State) (ok : Bool) (c : Capsule),
      s.house.input = true →
      s.sec.storing = some c →
      ok = true →
      viaCommander c.via = cpHost →
      s.fld Reg.recovery = 0 →
      Cap.kind c.bytes ≠ kPower →
      Cap.kind c.bytes ≠ kFw →
      ∃ t, exec (.counterStoreComplete ok) s = .next t ∧
        t.fld Reg.hostCtr = Cap.counter c.bytes ∧
        t.sec.accepted = some c ∧
        t.sec.storing = none ∧
        t.sec.waiting = s.sec.waiting ∧
        t.mem = s.mem) ∧
    (∀ (s : State) (ok : Bool) (c : Capsule),
      s.house.input = true →
      s.sec.storing = some c →
      ok = false →
      s.sec.waiting = [] →
      ∃ t, exec (.counterStoreComplete ok) s = .next t ∧
        t.fld Reg.storeFail = 1 ∧
        t.sec.storing = none ∧
        t.sec.accepted = s.sec.accepted ∧
        t.fld Reg.hostCtr = s.fld Reg.hostCtr ∧
        t.mem = s.mem) ∧
    (∀ (s : State) (via : Transport),
      s.house.input = true →
      ∃ t, exec (.authHoldExpiry via) s = .next t ∧
        (t.sec.holds = s.sec.holds.filter (fun h => decide (h.1 ≠ via ∨ s.now < h.2 + 10 * ticksPerMs))) ∧
        t.sec.accepted = s.sec.accepted ∧
        t.regs = s.regs ∧
        t.mem = s.mem) ∧
    (∀ (s : State) (c : Capsule) (p : List Byte) (v : Nat),
      s.house.input = true →
      acceptedOf s kSafety = some c →
      p = Cap.payload c.bytes →
      s.sec.waiting = [] →
      safetyEntries p = [(0x2100018, 0, v)] →
      safetyAccepted s (viaCommander c.via) p = true →
      ∃ t, exec .safetyConfig s = .next t ∧
        t.fld Reg.threshL1 = v % 256 ∧
        t.fld Reg.threshL2 = v / 256 % 256 ∧
        t.fld (Reg.osLast 5) = (s.fld (Reg.osLast 5) + 1) % 2 ^ 32 ∧
        t.mem = s.mem ∧
        t.links = s.links ∧
        t.sec.accepted = none) ∧
    (∀ (s : State) (c : Capsule) (p : List Byte) ,
      s.house.input = true →
      acceptedOf s kSafety = some c →
      p = Cap.payload c.bytes →
      s.sec.waiting = [] →
      safetyAccepted s (viaCommander c.via) p = false →
      ∃ t, exec .safetyConfig s = .next t ∧
        t.fld Reg.threshL1 = s.fld Reg.threshL1 ∧
        t.fld (Reg.osLast 5) = s.fld (Reg.osLast 5) ∧
        t.mem = s.mem ∧
        t.links = s.links ∧
        t.sec.accepted = none) ∧
    (∀ (s : State) (c : Capsule) (p : List Byte) ,
      s.house.input = true →
      acceptedOf s kInstall = some c →
      p = Cap.payload c.bytes →
      s.sec.waiting = [] →
      leAt p 0 1 = 1 →
      leAt p 1 3 = 0 →
      ∃ t, exec .keyInstall s = .next t ∧
        (t.sec.hostKey = (if keyChecks p then some (newKey p) else s.sec.hostKey)) ∧
        (t.fld Reg.hostKeyId = (if keyChecks p then leAt p 4 4 else s.fld Reg.hostKeyId)) ∧
        t.sec.rackKey = s.sec.rackKey ∧
        t.mem = s.mem ∧
        t.links = s.links ∧
        t.sec.accepted = none) ∧
    (∀ (s : State) (c : Capsule) (p : List Byte) ,
      s.house.input = true →
      acceptedOf s kClear = some c →
      p = Cap.payload c.bytes →
      s.sec.waiting = [] →
      leAt p 0 1 = 1 →
      ∃ t, exec .keyClear s = .next t ∧
        t.sec.hostKey = none ∧
        t.fld Reg.hostKeySet = 0 ∧
        t.fld Reg.hostKeyId = 0 ∧
        t.fld Reg.keyChanged = 1 ∧
        t.sec.rackKey = s.sec.rackKey ∧
        t.mem = s.mem ∧
        t.links = s.links ∧
        t.sec.accepted = none) ∧
    (∀ (s : State) (c : Capsule) (p : List Byte) (a : Nat),
      s.house.input = true →
      acceptedOf s kAct = some c →
      p = Cap.payload c.bytes →
      s.sec.waiting = [] →
      a = leAt p 0 1 →
      a < 2 →
      dieRuns s = true →
      actSwappable s a = true →
      ∃ t, exec .actSwap s = .next t ∧
        t.fld (Reg.actState a) = actActive ∧
        t.fld (Reg.actState (1 - a)) = actDraining ∧
        t.fld Reg.actSel = a ∧
        t.swc.armed = [] ∧
        t.mem = s.mem ∧
        t.links = s.links ∧
        t.sec.accepted = none) ∧
    (∀ (s : State) (c : Capsule) (p : List Byte) (k : Fin 4096) (j : Fin 3),
      s.house.input = true →
      acceptedOf s kPlan = some c →
      p = Cap.payload c.bytes →
      s.sec.waiting = [] →
      dieRuns s = true →
      ∃ t, exec .planCommit s = .next t ∧
        t.fld Reg.planResult = (match commitRefusal s (planDigestOk s p) with | some r => r.1 % 256 | none => 1) ∧
        (t.fld Reg.planId = (if commitRefusal s (planDigestOk s p) = none then leAt p 0 4 else s.fld Reg.planId)) ∧
        (t.word (Reg.cirActive k (j + 1)) &&& 0xFFFFFFFFFF000000 = (if commitRefusal s (planDigestOk s p) = none then s.word (Reg.cirStaged k (j + 1)) else s.word (Reg.cirActive k (j + 1))) &&& 0xFFFFFFFFFF000000) ∧
        t.mem = s.mem ∧
        t.sec.accepted = none)

/-- OPEN erases a slot that does not run and opens the window, whose writes reach the slot. VERIFY marks an image without fault valid and
closes the window on a fault. ACTIVATE selects a valid slot for the next boot, RAISE_SVN raises the minimum SVN to the running one, ABORT
closes the window. The boot ROM runs the selected slot when its image is valid, else the other as a fallback, else the module is in
recovery. (R438, R439, R440, R448.) -/
def Obligations.FirmwareAndBootAct : Prop :=
    (∀ (s : State) (c : Capsule) (p : List Byte) (n : Nat),
      s.house.input = true →
      acceptedOf s kFw = some c →
      p = Cap.payload c.bytes →
      s.sec.waiting = [] →
      Fw.phase p = 1 →
      fwRefusal s p = none →
      n = Fw.slot p →
      ∃ t, exec .fwUpdateOpen s = .next t ∧
        t.fld Reg.fwState = fwOpen ∧
        t.fld Reg.fwSlot = n ∧
        t.fld (Reg.slotValid n) = 0 ∧
        slotBytes t n 0 16 = List.replicate 16 0 ∧
        t.mem = s.mem ∧
        t.links = s.links ∧
        t.sec.accepted = none) ∧
    (∀ (s : State) (c : Capsule) (p : List Byte) (n : Nat),
      s.house.input = true →
      acceptedOf s kFw = some c →
      p = Cap.payload c.bytes →
      s.sec.waiting = [] →
      Fw.phase p = 2 →
      Fw.formed p = true →
      s.fld Reg.fwState = fwOpen →
      n = s.fld Reg.fwSlot →
      ∃ t, exec .fwUpdateVerify s = .next t ∧
        (t.fld Reg.fwState = (if fwFault s p = none then fwVerified else fwClosed)) ∧
        (t.fld (Reg.slotValid n) = (if fwFault s p = none then 1 else s.fld (Reg.slotValid n))) ∧
        (t.fld (Reg.slotSvn n) = (if fwFault s p = none then imageSvn s n else s.fld (Reg.slotSvn n))) ∧
        t.mem = s.mem ∧
        t.links = s.links ∧
        t.sec.accepted = none) ∧
    (∀ (s : State) (c : Capsule) (p : List Byte) (n : Nat),
      s.house.input = true →
      acceptedOf s kFw = some c →
      p = Cap.payload c.bytes →
      s.sec.waiting = [] →
      Fw.phase p = 3 →
      fwRefusal s p = none →
      n = Fw.slot p →
      s.fld Reg.recovery = 0 →
      ∃ t, exec .fwUpdateActivate s = .next t ∧
        t.fld Reg.bootSel = n ∧
        t.fld Reg.fwState = fwClosed ∧
        t.fld Reg.runSlot = s.fld Reg.runSlot ∧
        t.mem = s.mem ∧
        t.links = s.links ∧
        t.sec.accepted = none) ∧
    (∀ (s : State) (c : Capsule) (p : List Byte) ,
      s.house.input = true →
      acceptedOf s kFw = some c →
      p = Cap.payload c.bytes →
      s.sec.waiting = [] →
      Fw.phase p = 4 →
      fwRefusal s p = none →
      ∃ t, exec .fwUpdateRaiseSvn s = .next t ∧
        t.fld Reg.svnMin = max (s.fld Reg.svnMin) (s.fld Reg.runSvn) % 2 ^ Reg.svnMin.w ∧
        t.fld Reg.fwState = s.fld Reg.fwState ∧
        t.mem = s.mem ∧
        t.links = s.links ∧
        t.sec.accepted = none) ∧
    (∀ (s : State) (c : Capsule) (p : List Byte) ,
      s.house.input = true →
      acceptedOf s kFw = some c →
      p = Cap.payload c.bytes →
      s.sec.waiting = [] →
      Fw.phase p = 5 →
      fwRefusal s p = none →
      ∃ t, exec .fwUpdateAbort s = .next t ∧
        t.fld Reg.fwState = fwClosed ∧
        t.fld Reg.bootSel = s.fld Reg.bootSel ∧
        t.mem = s.mem ∧
        t.links = s.links ∧
        t.sec.accepted = none) ∧
    (∀ (s : State) (off : Fin 65536) (bytes : List Byte),
      s.house.input = true →
      s.fld Reg.fwState = fwOpen →
      ∃ t, exec (.fwWindowWrite off bytes) s = .next t ∧
        (t.sec.slots = Tab.setRange (fun _ => 0) s.sec.slots (s.fld Reg.fwSlot * 2 ^ 24 + (s.fld Reg.fwPage * 65536 + off.val)) (bytes.take (65536 - off.val))) ∧
        t.regs = s.regs ∧
        t.mem = s.mem) ∧
    (∀ (s : State) (off : Fin 65536) (bytes : List Byte),
      s.house.input = true →
      s.fld Reg.fwState ≠ fwOpen →
      ∃ t, exec (.fwWindowWrite off bytes) s = .next t ∧
        t.sec = s.sec ∧
        t.fld Reg.secCfgErr = 1 ∧
        t.mem = s.mem ∧
        onlyRegs [Reg.secCfgErr.off] s t = true) ∧
    (∀ (s : State),
      s.house.input = true →
      s.house.resetLow = false →
      s.sec.booted = false →
      s.fld Reg.recovery = 0 →
      ∃ t, exec .bootVerify s = .next t ∧
        (t.fld Reg.runSlot = (if imageValid s (s.fld Reg.bootSel) = true then s.fld Reg.bootSel else if imageValid s (1 - s.fld Reg.bootSel) = true then 1 - s.fld Reg.bootSel else s.fld Reg.runSlot)) ∧
        (t.fld Reg.recovery = (if imageValid s (s.fld Reg.bootSel) = true then 0 else if imageValid s (1 - s.fld Reg.bootSel) = true then 0 else 1)) ∧
        (t.fld Reg.bootFallback = (if imageValid s (s.fld Reg.bootSel) = true then 0 else if imageValid s (1 - s.fld Reg.bootSel) = true then 1 else s.fld Reg.bootFallback)) ∧
        t.sec.slots = s.sec.slots ∧
        t.mem = s.mem ∧
        t.links = s.links)

/-- Each SPDM request on a port with an EID is answered with the response of its code; a certificate in the portion asked for, a
measurement of Table 14-8 with the bytes of its registers, a request without support with ERROR. The codes are those of log entry 23.
(R451, R452.) -/
def Obligations.AttestationAnswers : Prop :=
    (∀ (s : State) (p : Port) (request : List Byte),
      s.house.input = true →
      portReady s p = true →
      request.length ≤ 4112 →
      ∃ t, exec (.spdmGetVersion p request) s = .next t ∧
        t.outbox = s.outbox ++ [.spdm p spdmVersion (Config.spdmAnswer 0x84 request)] ∧
        t.regs = s.regs ∧
        t.mem = s.mem ∧
        t.sec = s.sec) ∧
    (∀ (s : State) (p : Port) (request : List Byte),
      s.house.input = true →
      portReady s p = true →
      request.length ≤ 4112 →
      ∃ t, exec (.spdmGetCapabilities p request) s = .next t ∧
        t.outbox = s.outbox ++ [.spdm p spdmCapabilities (Config.spdmAnswer 0xE1 request)] ∧
        t.regs = s.regs ∧
        t.mem = s.mem ∧
        t.sec = s.sec) ∧
    (∀ (s : State) (p : Port) (request : List Byte),
      s.house.input = true →
      portReady s p = true →
      request.length ≤ 4112 →
      ∃ t, exec (.spdmNegotiateAlgorithms p request) s = .next t ∧
        t.outbox = s.outbox ++ [.spdm p spdmAlgorithms (Config.spdmAnswer 0xE3 request)] ∧
        t.regs = s.regs ∧
        t.mem = s.mem ∧
        t.sec = s.sec) ∧
    (∀ (s : State) (p : Port) (request : List Byte),
      s.house.input = true →
      portReady s p = true →
      request.length ≤ 4112 →
      ∃ t, exec (.spdmGetDigests p request) s = .next t ∧
        t.outbox = s.outbox ++ [.spdm p spdmDigests (Config.spdmAnswer 0x81 request ++ certDigests)] ∧
        t.regs = s.regs ∧
        t.mem = s.mem ∧
        t.sec = s.sec) ∧
    (∀ (s : State) (p : Port) (slot : Fin 8) (off len : Fin 65536) (d : List Byte),
      s.house.input = true →
      portReady s p = true →
      slot.val < 2 →
      d = ((Config.certificate slot).drop off).take len →
      ∃ t, exec (.spdmGetCertificate p slot off len) s = .next t ∧
        t.outbox = s.outbox ++ [.spdm p spdmCertificate (leBytes 2 d.length ++ leBytes 2 ((Config.certificate slot).length - off - d.length) ++ d)] ∧
        t.regs = s.regs ∧
        t.mem = s.mem ∧
        t.sec = s.sec) ∧
    (∀ (s : State) (p : Port) (slot : Fin 8) (off len : Fin 65536),
      s.house.input = true →
      portReady s p = true →
      1 < slot.val →
      ∃ t, exec (.spdmGetCertificate p slot off len) s = .next t ∧
        t.outbox = s.outbox ++ [.spdm p spdmError ([BitVec.ofNat 8 errInvalidRequest])] ∧
        t.regs = s.regs ∧
        t.mem = s.mem ∧
        t.sec = s.sec) ∧
    (∀ (s : State) (p : Port) (index : Fin 256) (sign : Bool) (transcript : List Byte) (d : List Byte),
      s.house.input = true →
      portReady s p = true →
      chosenMeasurements s index = some d →
      sign = true →
      ∃ t, exec (.spdmGetMeasurements p index sign transcript) s = .next t ∧
        t.outbox = s.outbox ++ [.spdm p spdmMeasurements (d ++ Config.mlDsaSign identityKeys.2 (digestBytes (Config.sha3 transcript)))] ∧
        t.regs = s.regs ∧
        t.mem = s.mem ∧
        t.sec = s.sec) ∧
    (∀ (s : State) (p : Port) (index : Fin 256) (sign : Bool) (transcript : List Byte) ,
      s.house.input = true →
      portReady s p = true →
      index.val < 8 →
      sign = false →
      ∃ t, exec (.spdmGetMeasurements p index sign transcript) s = .next t ∧
        t.outbox = s.outbox ++ [.spdm p spdmMeasurements (measurementBytes s index)] ∧
        t.regs = s.regs ∧
        t.mem = s.mem ∧
        t.sec = s.sec) ∧
    (∀ (s : State) (p : Port) (index : Fin 256) (sign : Bool) (transcript : List Byte) ,
      s.house.input = true →
      portReady s p = true →
      8 ≤ index.val →
      index.val ≠ 0xFF →
      ∃ t, exec (.spdmGetMeasurements p index sign transcript) s = .next t ∧
        t.outbox = s.outbox ++ [.spdm p spdmError ([BitVec.ofNat 8 errInvalidRequest])] ∧
        t.regs = s.regs ∧
        t.mem = s.mem ∧
        t.sec = s.sec) ∧
    (∀ (s : State) (p : Port) (code : Fin 256),
      s.house.input = true →
      portReady s p = true →
      ∃ t, exec (.spdmUnsupported p code) s = .next t ∧
        t.outbox = s.outbox ++ [.spdm p spdmError ([BitVec.ofNat 8 errUnsupportedRequest, BitVec.ofNat 8 code])] ∧
        t.regs = s.regs ∧
        t.mem = s.mem ∧
        t.sec = s.sec)

/-- The link comes up in the mode that Table 15-1 gives for the offer, rate and width, and fixes the reported capacity. Its loss and
PERST_N make it DOWN and begin a new reset generation of the host; PERST_N also clears the decoders, the logs and the MSI-X table. A
doorbell that its configuration allows fires its trigger with the argument, one that it does not is counted. (R396, R454, R455, R457,
R461, R464, R465.) -/
def Obligations.HostPortActs : Prop :=
    (∀ (s : State) (offer : HostMode) (rate32 : Bool) (width : Nat),
      linksLive s = true →
      s.fld Reg.hostMode = hmDown →
      width ∈ [1, 2, 4, 8, 16] →
      ∃ t, exec (.hostLinkUp offer rate32 width) s = .next t ∧
        t.fld Reg.hostMode = hostModeFor offer rate32 width ∧
        (t.fld Reg.hostRate = (if rate32 then 2 else 1)) ∧
        t.fld Reg.hostWidth = width ∧
        t.host.capacity = poolCapacity s ∧
        (t.host.config = some (PciConfig.mk 0x1F3C 0x0950 (if hostModeFor offer rate32 width = hmPcie then 0x120000 else 0x050210) (s.fld Reg.stepping) Config.subsystemIds.1.toNat Config.subsystemIds.2.toNat 512 4096 true)) ∧
        t.house.perst = false ∧
        t.mem = s.mem ∧
        t.links = s.links ∧
        onlyRegs [Reg.hostMode.off, Reg.hostRate.off, Reg.hostWidth.off] s t = true) ∧
    (∀ (s : State),
      s.house.input = true →
      s.fld Reg.hostMode ≠ hmDown →
      ∃ t, exec .hostLinkDown s = .next t ∧
        t.fld Reg.hostMode = hmDown ∧
        t.fld Reg.hostRate = 0 ∧
        t.fld Reg.hostWidth = 0 ∧
        t.fld Reg.genHost = (s.fld Reg.genHost + 1) % 2 ^ Reg.genHost.w ∧
        t.mem = s.mem ∧
        t.links = s.links) ∧
    (∀ (s : State),
      s.house.input = true →
      s.house.perst = false →
      ∃ t, exec .perstAssert s = .next t ∧
        t.house.perst = true ∧
        t.fld Reg.hostMode = hmDown ∧
        t.mem.hdm = [] ∧
        t.host.logs = [] ∧
        t.host.msixTable = [] ∧
        t.host.config = none ∧
        t.mem.hostWait = [] ∧
        t.fld Reg.genHost = (s.fld Reg.genHost + 1) % 2 ^ Reg.genHost.w ∧
        t.links = s.links) ∧
    (∀ (s : State) (b : Fin 256) (arg : BitVec 32) (i : Nat),
      linksLive s = true →
      (s.word (Reg.doorbellCfg b)).getLsbD 0 = true →
      trigsOf s 1 b = [i] →
      ghostLight s = false →
      ∃ t, exec (.doorbellHostRing b arg) s = .next t ∧
        t.fld Reg.callCount = (s.fld Reg.callCount + 1) % 2 ^ Reg.callCount.w ∧
        t.fld Reg.dbDenied = s.fld Reg.dbDenied ∧
        ((Tab.get (fun _ => Trig.init) t.cue.trigs i).s1 = arg.toNat) ∧
        t.mem = s.mem ∧
        t.links = s.links) ∧
    (∀ (s : State) (b : Fin 256) (arg : BitVec 32) ,
      linksLive s = true →
      (s.word (Reg.doorbellCfg b)).getLsbD 0 = false →
      ∃ t, exec (.doorbellHostRing b arg) s = .next t ∧
        t.fld Reg.dbDenied = (s.fld Reg.dbDenied + 1) % 2 ^ Reg.dbDenied.w ∧
        t.cue = s.cue ∧
        t.mem = s.mem ∧
        t.links = s.links ∧
        onlyRegs [Reg.dbDenied.off] s t = true) ∧
    (∀ (s : State) (f : Frame) (h : InFrame) (n k : Nat) (i : Nat),
      linksLive s = true →
      inboxOf s f = some h →
      Frame.type f = tyMgmt →
      Frame.op f = 0x10 →
      ringFormed f = true →
      n = Frame.addr f % 256 →
      ringerBit s f = some k →
      (s.word (Reg.doorbellCfg n)).getLsbD k = true →
      trigsOf s 1 n = [i] →
      ghostLight s = false →
      ∃ t, exec (.doorbellFrame f) s = .next t ∧
        t.fld Reg.callCount = (s.fld Reg.callCount + 1) % 2 ^ Reg.callCount.w ∧
        ((Tab.get (fun _ => Trig.init) t.cue.trigs i).s1 = leAt f.payload 0 4) ∧
        t.mem = s.mem) ∧
    (∀ (s : State) (f : Frame) (h : InFrame) (n k : Nat) ,
      linksLive s = true →
      inboxOf s f = some h →
      Frame.type f = tyMgmt →
      Frame.op f = 0x10 →
      ringFormed f = true →
      n = Frame.addr f % 256 →
      ringerBit s f = some k →
      (s.word (Reg.doorbellCfg n)).getLsbD k = false →
      ∃ t, exec (.doorbellFrame f) s = .next t ∧
        t.fld Reg.dbDenied = (s.fld Reg.dbDenied + 1) % 2 ^ Reg.dbDenied.w ∧
        t.cue = s.cue ∧
        t.mem = s.mem)

/-- In a CXL mode each command of Table 15-4 completes with its data: the event logs, their clearing with a check of the handles, the
interrupt policy, firmware slots, logs, capacity and health. Another opcode completes as unsupported. The codes are those of log entry 24.
(R462, R463.) -/
def Obligations.DeviceMailboxAnswers : Prop :=
    (∀ (s : State) (log : Fin 4),
      mailboxLive s = true →
      ∃ t, exec (.getEventRecords log) s = .next t ∧
        (t.outbox = s.outbox ++ [.eventRecords log (Tab.get (fun _ => 0) s.host.logOver log) (s.eventLog log)]) ∧
        t.regs = s.regs ∧
        t.mem = s.mem ∧
        t.links = s.links ∧
        t.sec = s.sec ∧
        t.host = s.host) ∧
    (∀ (s : State) (log : Fin 4) (handles : Option (List Nat)),
      mailboxLive s = true →
      handles = none →
      ∃ t, exec (.clearEventRecords log handles) s = .next t ∧
        t.eventLog log = [] ∧
        (Tab.get (fun _ => 0) t.host.logOver log = 0) ∧
        t.outbox = s.outbox ++ [.mailboxCmd 0x0101 rcSuccess []] ∧
        t.regs = s.regs ∧
        t.mem = s.mem ∧
        t.links = s.links ∧
        t.sec = s.sec) ∧
    (∀ (s : State) (log : Fin 4) (handles : Option (List Nat)) (l : List Nat),
      mailboxLive s = true →
      handles = some l →
      (l = ((s.eventLog log).take l.length).map (fun r => r.handle)) →
      ∃ t, exec (.clearEventRecords log handles) s = .next t ∧
        t.eventLog log = (s.eventLog log).drop l.length ∧
        t.outbox = s.outbox ++ [.mailboxCmd 0x0101 rcSuccess []] ∧
        t.regs = s.regs ∧
        t.mem = s.mem ∧
        t.links = s.links ∧
        t.sec = s.sec) ∧
    (∀ (s : State) (log : Fin 4) (handles : Option (List Nat)) (l : List Nat),
      mailboxLive s = true →
      handles = some l →
      (l ≠ ((s.eventLog log).take l.length).map (fun r => r.handle)) →
      ∃ t, exec (.clearEventRecords log handles) s = .next t ∧
        t.host = s.host ∧
        t.outbox = s.outbox ++ [.mailboxCmd 0x0101 rcInvalidHandle []] ∧
        t.regs = s.regs ∧
        t.mem = s.mem ∧
        t.links = s.links ∧
        t.sec = s.sec) ∧
    (∀ (s : State) (vectors : List (Option (Fin 64))) (k : Fin 4) (v : Fin 64),
      mailboxLive s = true →
      vectors.length = 4 →
      vectors[k.val]? = some (some v) →
      ∃ t, exec (.setEventInterruptPolicy vectors) s = .next t ∧
        interruptSetting t k = 1 + 16 * v.val ∧
        t.outbox = s.outbox ++ [.mailboxCmd 0x0103 rcSuccess []] ∧
        t.regs = s.regs ∧
        t.mem = s.mem ∧
        t.links = s.links ∧
        t.sec = s.sec) ∧
    (∀ (s : State) (vectors : List (Option (Fin 64))) (k : Fin 4),
      mailboxLive s = true →
      vectors.length = 4 →
      vectors[k.val]? = some none →
      ∃ t, exec (.setEventInterruptPolicy vectors) s = .next t ∧
        interruptSetting t k = 0 ∧
        t.outbox = s.outbox ++ [.mailboxCmd 0x0103 rcSuccess []] ∧
        t.regs = s.regs ∧
        t.mem = s.mem ∧
        t.links = s.links ∧
        t.sec = s.sec) ∧
    (∀ (s : State),
      mailboxLive s = true →
      ∃ t, exec .getEventInterruptPolicy s = .next t ∧
        t.outbox = s.outbox ++ [.mailboxCmd 0x0102 rcSuccess ([0, 1, 2, 3].map (interruptSetting s))] ∧
        t.regs = s.regs ∧
        t.mem = s.mem ∧
        t.links = s.links ∧
        t.sec = s.sec ∧
        t.host = s.host) ∧
    (∀ (s : State),
      mailboxLive s = true →
      ∃ t, exec .getFwInfo s = .next t ∧
        t.outbox = s.outbox ++ [.mailboxCmd 0x0200 rcSuccess [2, (match runningSlot s with | some k => k + 1 | none => 0), s.fld (Reg.slotSvn 0), s.fld (Reg.slotSvn 1)]] ∧
        t.regs = s.regs ∧
        t.mem = s.mem ∧
        t.links = s.links ∧
        t.sec = s.sec ∧
        t.host = s.host) ∧
    (∀ (s : State),
      mailboxLive s = true →
      ∃ t, exec .getSupportedLogs s = .next t ∧
        t.outbox = s.outbox ++ [.mailboxCmd 0x0400 rcSuccess [1, 4 * effectsLog.length]] ∧
        t.regs = s.regs ∧
        t.mem = s.mem ∧
        t.links = s.links ∧
        t.sec = s.sec ∧
        t.host = s.host) ∧
    (∀ (s : State),
      mailboxLive s = true →
      ∃ t, exec .getLog s = .next t ∧
        t.outbox = s.outbox ++ [.mailboxCmd 0x0401 rcSuccess effectsLog] ∧
        t.regs = s.regs ∧
        t.mem = s.mem ∧
        t.links = s.links ∧
        t.sec = s.sec ∧
        t.host = s.host) ∧
    (∀ (s : State),
      mailboxLive s = true →
      ∃ t, exec .identifyMemoryDevice s = .next t ∧
        t.outbox = s.outbox ++ [.mailboxCmd 0x4000 rcSuccess [s.host.capacity, s.host.capacity, 0, 0, 0]] ∧
        t.regs = s.regs ∧
        t.mem = s.mem ∧
        t.links = s.links ∧
        t.sec = s.sec ∧
        t.host = s.host) ∧
    (∀ (s : State),
      mailboxLive s = true →
      ∃ t, exec .getPartitionInfo s = .next t ∧
        t.outbox = s.outbox ++ [.mailboxCmd 0x4100 rcSuccess [s.host.capacity, 0]] ∧
        t.regs = s.regs ∧
        t.mem = s.mem ∧
        t.links = s.links ∧
        t.sec = s.sec ∧
        t.host = s.host) ∧
    (∀ (s : State),
      mailboxLive s = true →
      ∃ t, exec .getHealthInfo s = .next t ∧
        t.outbox = s.outbox ++ [.mailboxCmd 0x4200 rcSuccess (healthInfo s)] ∧
        t.regs = s.regs ∧
        t.mem = s.mem ∧
        t.links = s.links ∧
        t.sec = s.sec ∧
        t.host = s.host) ∧
    (∀ (s : State) (opcode : Fin 65536),
      mailboxLive s = true →
      mailboxOpcode opcode = false →
      ∃ t, exec (.mailboxCmdUnsupported opcode) s = .next t ∧
        t.outbox = s.outbox ++ [.mailboxCmd opcode rcUnsupported []] ∧
        t.regs = s.regs ∧
        t.mem = s.mem ∧
        t.links = s.links ∧
        t.sec = s.sec ∧
        t.host = s.host)

/-- A controller that claims the bus, or finds it lost, sends RSTDAA and ENTDAA. ENTDAA gives a target its address, and tells of a strap
conflict when it is not 08h plus the slot; as controller the chip assigns one to each target. The common command codes set, clear and
answer with what R468 to R473 give. The controller role is taken and handed on by GETACCMST, and RELEASE gives the tray up. (R28, R468,
R469, R470, R471, R472, R473.) -/
def Obligations.TrayBusActs : Prop :=
    (∀ (s : State) (driven : Bool),
      s.house.input = true →
      driven = false →
      s.fld Reg.controller = 0 →
      addressed s true = false →
      ∃ t, exec (.controllerClaim driven) s = .next t ∧
        t.fld Reg.controller = 1 ∧
        t.outbox = s.outbox ++ [.ccc "RSTDAA" [], .ccc "ENTDAA" []] ∧
        t.mem = s.mem ∧
        t.links = s.links ∧
        onlyRegs [Reg.controller.off] s t = true) ∧
    (∀ (s : State),
      s.house.input = true →
      s.fld Reg.controller = 0 →
      addressed s true = true →
      ∃ t, exec .controllerLost s = .next t ∧
        t.fld Reg.controller = 1 ∧
        t.outbox = s.outbox ++ [.ccc "RSTDAA" [], .ccc "ENTDAA" []] ∧
        t.mem = s.mem ∧
        t.links = s.links ∧
        onlyRegs [Reg.controller.off] s t = true) ∧
    (∀ (s : State) (a : Entdaa) (addr : Nat),
      s.house.input = true →
      a = .target true addr →
      addr < 128 →
      ∃ t, exec (.entdaa a) s = .next t ∧
        t.fld Reg.trayAddr = addr ∧
        (t.fld Reg.strapConflict = (if addr = 8 + mySlot s then s.fld Reg.strapConflict else 1)) ∧
        (t.fld Reg.master = (if addr = 8 + mySlot s then s.fld Reg.master else 0)) ∧
        t.outbox = s.outbox ∧
        t.mem = s.mem ∧
        t.links = s.links) ∧
    (∀ (s : State) (a : Entdaa) (addr : Nat),
      s.house.input = true →
      a = .target false addr →
      addr < 128 →
      ∃ t, exec (.entdaa a) s = .next t ∧
        t.fld Reg.rackAddr = addr ∧
        t.fld Reg.strapConflict = s.fld Reg.strapConflict ∧
        t.outbox = s.outbox ∧
        t.mem = s.mem ∧
        t.links = s.links ∧
        onlyRegs [Reg.rackAddr.off, Reg.strapConflict.off] s t = true) ∧
    (∀ (s : State) (a : Entdaa) (pids : List (BitVec 48)),
      s.house.input = true →
      a = .controller pids →
      s.fld Reg.controller = 1 →
      (pids.all (fun x => decide (pidSlot x ≠ some (mySlot s))) = true) →
      ∃ t, exec (.entdaa a) s = .next t ∧
        (t.i3cPort true).targets = assignAddresses (mySlot s) pids 16 pids ∧
        t.fld Reg.trayAddr = 8 + mySlot s ∧
        t.fld Reg.trayEid = 0x10 + mySlot s ∧
        t.fld Reg.strapConflict = s.fld Reg.strapConflict ∧
        t.fld Reg.master = s.fld Reg.master ∧
        t.mem = s.mem ∧
        t.links = s.links ∧
        onlyRegs [Reg.trayAddr.off, Reg.trayEid.off, Reg.strapConflict.off, Reg.master.off] s t = true) ∧
    (∀ (s : State) (a : Entdaa) (pids : List (BitVec 48)),
      s.house.input = true →
      a = .controller pids →
      s.fld Reg.controller = 1 →
      (pids.any (fun x => decide (pidSlot x = some (mySlot s))) = true) →
      ∃ t, exec (.entdaa a) s = .next t ∧
        (t.i3cPort true).targets = assignAddresses (mySlot s) pids 16 pids ∧
        t.fld Reg.trayAddr = 8 + mySlot s ∧
        t.fld Reg.strapConflict = 1 ∧
        t.fld Reg.master = 0 ∧
        t.mem = s.mem ∧
        t.links = s.links) ∧
    (∀ (s : State) (a : Entdaa) (pids : List (BitVec 48)),
      s.house.input = true →
      a = .controller pids →
      s.fld Reg.controller = 0 →
      ∃ t, exec (.entdaa a) s = .next t ∧
        t = s) ∧
    (∀ (s : State) (tray : Bool) ,
      s.house.input = true →
      ∃ t, exec (.rstdaa tray) s = .next t ∧
        t.fld (addrField tray) = 0 ∧
        t.host = s.host ∧
        t.outbox = s.outbox ∧
        t.mem = s.mem ∧
        t.links = s.links ∧
        onlyRegs [(addrField tray).off] s t = true) ∧
    (∀ (s : State) (tray : Bool) (events : BitVec 8),
      s.house.input = true →
      ∃ t, exec (.enec tray events) s = .next t ∧
        (t.i3cPort tray).events = (s.i3cPort tray).events ||| events.toNat ∧
        t.regs = s.regs ∧
        t.mem = s.mem ∧
        t.links = s.links) ∧
    (∀ (s : State) (tray : Bool) (events : BitVec 8),
      s.house.input = true →
      ∃ t, exec (.disec tray events) s = .next t ∧
        (t.i3cPort tray).events = (s.i3cPort tray).events &&& (255 - events.toNat) ∧
        t.regs = s.regs ∧
        t.mem = s.mem ∧
        t.links = s.links) ∧
    (∀ (s : State) (tray : Bool) (len : Fin 65536),
      s.house.input = true →
      ∃ t, exec (.setmwl tray len) s = .next t ∧
        (t.i3cPort tray).mwl = len.val ∧
        (t.i3cPort tray).mrl = (s.i3cPort tray).mrl ∧
        t.regs = s.regs ∧
        t.mem = s.mem ∧
        t.links = s.links) ∧
    (∀ (s : State) (tray : Bool) (len : Fin 65536),
      s.house.input = true →
      ∃ t, exec (.setmrl tray len) s = .next t ∧
        (t.i3cPort tray).mrl = len.val ∧
        (t.i3cPort tray).mwl = (s.i3cPort tray).mwl ∧
        t.regs = s.regs ∧
        t.mem = s.mem ∧
        t.links = s.links) ∧
    (∀ (s : State) (tray : Bool) ,
      s.house.input = true →
      addressed s tray = true →
      ∃ t, exec (.getpid tray) s = .next t ∧
        t.outbox = s.outbox ++ [.i3c tray (msbBytes 6 (0x5A3 * 2 ^ 33 + 0x0950 * 2 ^ 16 + mySlot s * 2 ^ 12 + deviceId % 2 ^ 12))] ∧
        t.host = s.host ∧
        t.regs = s.regs ∧
        t.mem = s.mem ∧
        t.links = s.links) ∧
    (∀ (s : State) (tray : Bool) ,
      s.house.input = true →
      addressed s tray = true →
      ∃ t, exec (.getbcr tray) s = .next t ∧
        (t.outbox = s.outbox ++ [.i3c tray (leBytes 1 (if tray then 0x46 else 0x06))]) ∧
        t.host = s.host ∧
        t.regs = s.regs ∧
        t.mem = s.mem ∧
        t.links = s.links) ∧
    (∀ (s : State) (tray : Bool) ,
      s.house.input = true →
      addressed s tray = true →
      ∃ t, exec (.getdcr tray) s = .next t ∧
        t.outbox = s.outbox ++ [.i3c tray ([0])] ∧
        t.host = s.host ∧
        t.regs = s.regs ∧
        t.mem = s.mem ∧
        t.links = s.links) ∧
    (∀ (s : State) (tray : Bool) ,
      s.house.input = true →
      addressed s tray = true →
      ∃ t, exec (.getmwl tray) s = .next t ∧
        t.outbox = s.outbox ++ [.i3c tray (msbBytes 2 (s.i3cPort tray).mwl)] ∧
        t.host = s.host ∧
        t.regs = s.regs ∧
        t.mem = s.mem ∧
        t.links = s.links) ∧
    (∀ (s : State) (tray : Bool) ,
      s.house.input = true →
      addressed s tray = true →
      ∃ t, exec (.getmrl tray) s = .next t ∧
        t.outbox = s.outbox ++ [.i3c tray (msbBytes 2 (s.i3cPort tray).mrl)] ∧
        t.host = s.host ∧
        t.regs = s.regs ∧
        t.mem = s.mem ∧
        t.links = s.links) ∧
    (∀ (s : State) (tray : Bool) ,
      s.house.input = true →
      addressed s tray = true →
      ∃ t, exec (.getstatus tray) s = .next t ∧
        t.outbox = s.outbox ++ [.i3c tray [Config.freeByte s.free, Config.freeByte (s.free + 1)]] ∧
        t.free = s.free + 2 ∧
        t.regs = s.regs ∧
        t.mem = s.mem ∧
        t.links = s.links) ∧
    (∀ (s : State) (targets : List (Nat × Nat)),
      s.house.input = true →
      s.fld Reg.controller = 0 →
      ∃ t, exec (.deftgts targets) s = .next t ∧
        (t.i3cPort true).targets = targets ∧
        t.regs = s.regs ∧
        t.mem = s.mem ∧
        t.links = s.links) ∧
    (∀ (s : State) (incoming : Bool),
      s.house.input = true →
      incoming = true →
      addressed s true = true →
      mayBeMaster s = true →
      ∃ t, exec (.getaccmst incoming) s = .next t ∧
        t.fld Reg.controller = 1 ∧
        t.fld Reg.master = 1 ∧
        t.fld Reg.trayCtlAddr = s.fld Reg.trayAddr ∧
        t.mem = s.mem ∧
        t.links = s.links) ∧
    (∀ (s : State) (incoming : Bool) (a : Nat),
      s.house.input = true →
      incoming = false →
      s.host.handing = some a →
      ∃ t, exec (.getaccmst incoming) s = .next t ∧
        t.fld Reg.controller = 0 ∧
        t.host.handing = none ∧
        t.fld Reg.trayCtlAddr = a % 2 ^ Reg.trayCtlAddr.w ∧
        t.mem = s.mem ∧
        t.links = s.links ∧
        onlyRegs [Reg.controller.off, Reg.trayCtlAddr.off] s t = true) ∧
    (∀ (s : State),
      s.house.input = true →
      s.host.handing.isSome = true →
      ∃ t, exec .handoffTimeout s = .next t ∧
        t.fld Reg.controller = 0 ∧
        t.host.handing = none ∧
        t.fld Reg.trayCtlAddr = s.fld Reg.trayCtlAddr ∧
        t.mem = s.mem ∧
        t.links = s.links ∧
        onlyRegs [Reg.controller.off, Reg.trayCtlAddr.off] s t = true) ∧
    (∀ (s : State),
      s.house.input = true →
      s.fld Reg.controller = 0 →
      (s.i3cPort true).events.testBit 3 = true →
      addressed s true = false →
      ∃ t, exec .hotJoin s = .next t ∧
        t.outbox = s.outbox ++ [.ccc "HOT_JOIN" []] ∧
        t.regs = s.regs ∧
        t.mem = s.mem ∧
        t.links = s.links) ∧
    (∀ (s : State) (a : Nat),
      s.house.input = true →
      s.fld Reg.master = 1 →
      s.fld Reg.controller = 1 →
      lowestTarget s = some a →
      ∃ t, exec .trayMasterRelease s = .next t ∧
        t.fld Reg.master = 0 ∧
        t.fld Reg.masterChange = 1 ∧
        t.host.handing = some a ∧
        t.outbox = s.outbox ++ [.ccc "GETACCMST" [a]] ∧
        t.mem = s.mem ∧
        t.links = s.links ∧
        onlyRegs [Reg.master.off, Reg.masterChange.off] s t = true) ∧
    (∀ (s : State),
      s.house.input = true →
      s.fld Reg.master = 1 →
      (s.fld Reg.controller = 0 ∨ lowestTarget s = none) →
      ∃ t, exec .trayMasterRelease s = .next t ∧
        t.fld Reg.master = 0 ∧
        t.fld Reg.masterChange = 1 ∧
        t.fld Reg.controller = s.fld Reg.controller ∧
        t.outbox = s.outbox ∧
        t.host = s.host ∧
        t.mem = s.mem ∧
        t.links = s.links ∧
        onlyRegs [Reg.master.off, Reg.masterChange.off, Reg.controller.off] s t = true) ∧
    (∀ (s : State),
      s.house.input = true →
      s.fld Reg.master = 0 →
      ∃ t, exec .trayMasterRelease s = .next t ∧
        t = s)

/-- A control message is answered on a port that is up: Set Endpoint ID takes an EID that is not reserved, the others answer with what
R474 and R475 give. FW_DATA brings bytes to the open slot, REG_READ answers with the words, REG_WRITE writes one and is denied to the
rack, HEARTBEAT answers the rack manager, another command is bad. The tray master relays a message of the host endpoint for another
endpoint of its tray, and of the rack manager a REG_READ alone, which it answers as an absent slot for a chip that it cannot reach; a chip
that is not the master relays nothing. A merged alert joins the queue when its interval ends. The control codes are those of log entry 25.
(R472, R474, R475, R476, R477, R478, R495.) -/
def Obligations.MctpAnswers : Prop :=
    (∀ (s : State) (p : Port) (eid owner : Fin 256),
      s.house.input = true →
      portUp s p = true →
      8 ≤ eid.val →
      eid.val ≠ 0xFF →
      ∃ t, exec (.setEndpointId p eid owner) s = .next t ∧
        eidOf t p = eid.val ∧
        t.outbox = s.outbox ++ [.mctp p ([1, 0, 0, BitVec.ofNat 8 eid, 0])] ∧
        t.mem = s.mem ∧
        t.links = s.links) ∧
    (∀ (s : State) (p : Port) (eid owner : Fin 256),
      s.house.input = true →
      portUp s p = true →
      (eid.val < 8 ∨ eid.val = 0xFF) →
      ∃ t, exec (.setEndpointId p eid owner) s = .next t ∧
        eidOf t p = eidOf s p ∧
        t.outbox = s.outbox ++ [.mctp p ([1, 2])] ∧
        t.regs = s.regs ∧
        t.mem = s.mem ∧
        t.links = s.links) ∧
    (∀ (s : State) (p : Port) ,
      s.house.input = true →
      portUp s p = true →
      ∃ t, exec (.getEndpointId p) s = .next t ∧
        (t.outbox = s.outbox ++ [.mctp p ([2, 0, BitVec.ofNat 8 (eidOf s p), (if s.fld Reg.master = 1 ∧ p = .tray then 0x10 else 0), 0])]) ∧
        t.host = s.host ∧
        t.regs = s.regs ∧
        t.mem = s.mem ∧
        t.links = s.links) ∧
    (∀ (s : State) (p : Port) ,
      s.house.input = true →
      portUp s p = true →
      ∃ t, exec (.getMctpVersionSupport p) s = .next t ∧
        t.outbox = s.outbox ++ [.mctp p ([4, 0] ++ Config.mctpVersions)] ∧
        t.host = s.host ∧
        t.regs = s.regs ∧
        t.mem = s.mem ∧
        t.links = s.links) ∧
    (∀ (s : State) (p : Port) ,
      s.house.input = true →
      portUp s p = true →
      ∃ t, exec (.getMessageTypeSupport p) s = .next t ∧
        t.outbox = s.outbox ++ [.mctp p ([5, 0, 3, 0x00, 0x05, 0x7E])] ∧
        t.host = s.host ∧
        t.regs = s.regs ∧
        t.mem = s.mem ∧
        t.links = s.links) ∧
    (∀ (s : State) (p : Port) ,
      s.house.input = true →
      portUp s p = true →
      ∃ t, exec (.getVendorMessageSupport p) s = .next t ∧
        t.outbox = s.outbox ++ [.mctp p ([6, 0, 0xFF, 0x00, 0x1F, 0x3C, 0, 0])] ∧
        t.host = s.host ∧
        t.regs = s.regs ∧
        t.mem = s.mem ∧
        t.links = s.links) ∧
    (∀ (s : State) (p : Port) ,
      s.house.input = true →
      portUp s p = true →
      s.fld Reg.master = 1 →
      ∃ t, exec (.getRoutingTableEntries p) s = .next t ∧
        (t.outbox = s.outbox ++ [.mctp p ([0x0A, 0, 0xFF, BitVec.ofNat 8 (s.i3cPort true).targets.length] ++ (assignEids (s.i3cPort true).targets).flatMap (fun e => [BitVec.ofNat 8 e.1, BitVec.ofNat 8 e.2]))]) ∧
        t.regs = s.regs ∧
        t.mem = s.mem ∧
        t.links = s.links) ∧
    (∀ (s : State) (p : Port) (cmd : Fin 256),
      s.house.input = true →
      portReady s p = true →
      (cmd.val = 0 ∨ 6 < cmd.val) →
      ∃ t, exec (.vendorBad p cmd) s = .next t ∧
        t.outbox = s.outbox ++ [.mctp p (leBytes 1 (cmd.val + 0x80) ++ leBytes 1 mcBad)] ∧
        t.regs = s.regs ∧
        t.mem = s.mem ∧
        t.links = s.links) ∧
    (∀ (s : State) (p : Port) (off : Nat) (bytes : List Byte),
      s.house.input = true →
      portReady s p = true →
      s.fld Reg.fwState = fwOpen →
      bytes ≠ [] →
      bytes.length ≤ 4096 →
      off + bytes.length ≤ 2 ^ 24 →
      ∃ t, exec (.fwData p off bytes) s = .next t ∧
        (t.sec.slots = Tab.setRange (fun _ => 0) s.sec.slots (s.fld Reg.fwSlot * 2 ^ 24 + off) bytes) ∧
        t.outbox = s.outbox ++ [.mctp p ([0x82, 0])] ∧
        t.regs = s.regs ∧
        t.mem = s.mem ∧
        t.links = s.links) ∧
    (∀ (s : State) (p : Port) (off words : Nat),
      s.house.input = true →
      portReady s p = true →
      words = 1 →
      off % 8 = 0 →
      off + 8 ≤ barBytes →
      readsZero off = false →
      hiddenChan s off = false →
      computed s off = none →
      inArray off 0x200800 8 64 = false →
      ∃ t, exec (.regRead p off words) s = .next t ∧
        t.outbox = s.outbox ++ [.mctp p ([0x83, 0] ++ leBytes 8 (s.word off).toNat)] ∧
        t.regs = s.regs ∧
        t.mem = s.mem ∧
        t.links = s.links) ∧
    (∀ (s : State) (p : Port) (off words : Nat),
      s.house.input = true →
      portReady s p = true →
      (off % 8 ≠ 0 ∨ words = 0 ∨ 64 < words ∨ barBytes < off + 8 * words) →
      ∃ t, exec (.regRead p off words) s = .next t ∧
        t.outbox = s.outbox ++ [.mctp p ([0x83, 2])] ∧
        t.regs = s.regs ∧
        t.mem = s.mem ∧
        t.links = s.links) ∧
    (∀ (s : State) (p : Port) (off : Nat) (value : Word) (m : Nat),
      s.house.input = true →
      portReady s p = true →
      p ≠ .rack →
      w1cMask off = none →
      plainMask off = some m →
      plainOk off (value &&& BitVec.ofNat 64 m).toNat = true →
      blockLive s off = true →
      off % 8 = 0 →
      off < barBytes →
      ∃ t, exec (.regWrite p off value) s = .next t ∧
        t.word off = (s.word off &&& ~~~ BitVec.ofNat 64 m) ||| (value &&& BitVec.ofNat 64 m) ∧
        t.outbox = s.outbox ++ [.mctp p ([0x84, 0])] ∧
        t.mem = s.mem ∧
        t.links = s.links) ∧
    (∀ (s : State) (p : Port) (off : Nat) (value : Word),
      s.house.input = true →
      portReady s p = true →
      p = .rack →
      ∃ t, exec (.regWrite p off value) s = .next t ∧
        t.outbox = s.outbox ++ [.mctp p ([0x84, 1])] ∧
        t.regs = s.regs ∧
        t.mem = s.mem ∧
        t.links = s.links) ∧
    (∀ (s : State) (p : Port) ,
      s.house.input = true →
      portReady s p = true →
      p = .rack →
      ∃ t, exec (.heartbeat p) s = .next t ∧
        t.power.rmLost = false ∧
        t.fld Reg.fallback = 0 ∧
        t.mem = s.mem ∧
        t.links = s.links) ∧
    (∀ (s : State) (p : Port) ,
      s.house.input = true →
      portReady s p = true →
      p ≠ .rack →
      ∃ t, exec (.heartbeat p) s = .next t ∧
        t.outbox = s.outbox ++ [.mctp p ([0x85, 1])] ∧
        t.power = s.power ∧
        t.regs = s.regs ∧
        t.mem = s.mem ∧
        t.links = s.links) ∧
    (∀ (s : State) (src : Fin 13) (a : Alert),
      s.house.input = true →
      (s.host.alertHeld.find? (fun h => decide (h.src = src.val)) = some a) →
      s.fld Reg.alertMsix = 0 →
      s.host.alertQ.length < 64 →
      (Tab.get (fun _ => 0) s.host.alertLast src + 10 * ticksPerMs ≤ s.now + 1) →
      ∃ t, exec (.alertMergeExpiry src) s = .next t ∧
        t.host.alertQ = s.host.alertQ ++ [a] ∧
        (t.host.alertHeld = s.host.alertHeld.filter (fun h => !(decide (h.src = src.val)))) ∧
        t.regs = s.regs ∧
        t.mem = s.mem ∧
        t.links = s.links) ∧
    (∀ (s : State) (p : Port) (d : Fin 256) (request : List Byte),
      s.house.input = true →
      p = .relay false d →
      s.fld Reg.master = 1 →
      d.val ∈ trayEids s →
      request.length ≤ 4112 →
      ∃ t, exec (.spdmGetVersion p request) s = .next t ∧
        t.outbox = s.outbox ++ [.relayed d 5 0x84 (request)] ∧
        t.regs = s.regs ∧
        t.mem = s.mem ∧
        t.links = s.links) ∧
    (∀ (s : State) (p : Port) (d : Fin 256) (request : List Byte),
      s.house.input = true →
      p = .relay false d →
      s.fld Reg.master = 1 →
      d.val ∈ trayEids s →
      request.length ≤ 4112 →
      ∃ t, exec (.spdmGetCapabilities p request) s = .next t ∧
        t.outbox = s.outbox ++ [.relayed d 5 0xE1 (request)] ∧
        t.regs = s.regs ∧
        t.mem = s.mem ∧
        t.links = s.links) ∧
    (∀ (s : State) (p : Port) (d : Fin 256) (request : List Byte),
      s.house.input = true →
      p = .relay false d →
      s.fld Reg.master = 1 →
      d.val ∈ trayEids s →
      request.length ≤ 4112 →
      ∃ t, exec (.spdmNegotiateAlgorithms p request) s = .next t ∧
        t.outbox = s.outbox ++ [.relayed d 5 0xE3 (request)] ∧
        t.regs = s.regs ∧
        t.mem = s.mem ∧
        t.links = s.links) ∧
    (∀ (s : State) (p : Port) (d : Fin 256) (request : List Byte),
      s.house.input = true →
      p = .relay false d →
      s.fld Reg.master = 1 →
      d.val ∈ trayEids s →
      request.length ≤ 4112 →
      ∃ t, exec (.spdmGetDigests p request) s = .next t ∧
        t.outbox = s.outbox ++ [.relayed d 5 0x81 (request)] ∧
        t.regs = s.regs ∧
        t.mem = s.mem ∧
        t.links = s.links) ∧
    (∀ (s : State) (p : Port) (d : Fin 256) (slot : Fin 8) (off len : Fin 65536),
      s.house.input = true →
      p = .relay false d →
      s.fld Reg.master = 1 →
      d.val ∈ trayEids s →
      ∃ t, exec (.spdmGetCertificate p slot off len) s = .next t ∧
        t.outbox = s.outbox ++ [.relayed d 5 0x82 (leBytes 1 slot.val ++ leBytes 2 off.val ++ leBytes 2 len.val)] ∧
        t.regs = s.regs ∧
        t.mem = s.mem ∧
        t.links = s.links) ∧
    (∀ (s : State) (p : Port) (d : Fin 256) (index : Fin 256) (sign : Bool) (transcript : List Byte),
      s.house.input = true →
      p = .relay false d →
      s.fld Reg.master = 1 →
      d.val ∈ trayEids s →
      ∃ t, exec (.spdmGetMeasurements p index sign transcript) s = .next t ∧
        (t.outbox = s.outbox ++ [.relayed d 5 0xE0 (leBytes 1 index.val ++ leBytes 1 (if sign then 1 else 0) ++ transcript)]) ∧
        t.regs = s.regs ∧
        t.mem = s.mem ∧
        t.links = s.links) ∧
    (∀ (s : State) (p : Port) (d : Fin 256) (code : Fin 256),
      s.house.input = true →
      p = .relay false d →
      s.fld Reg.master = 1 →
      d.val ∈ trayEids s →
      ∃ t, exec (.spdmUnsupported p code) s = .next t ∧
        t.outbox = s.outbox ++ [.relayed d 5 code ([])] ∧
        t.regs = s.regs ∧
        t.mem = s.mem ∧
        t.links = s.links) ∧
    (∀ (s : State) (p : Port) (d : Fin 256) (eid owner : Fin 256),
      s.house.input = true →
      p = .relay false d →
      s.fld Reg.master = 1 →
      d.val ∈ trayEids s →
      ∃ t, exec (.setEndpointId p eid owner) s = .next t ∧
        t.outbox = s.outbox ++ [.relayed d 0 1 (leBytes 1 eid.val)] ∧
        t.regs = s.regs ∧
        t.mem = s.mem ∧
        t.links = s.links) ∧
    (∀ (s : State) (p : Port) (d : Fin 256) ,
      s.house.input = true →
      p = .relay false d →
      s.fld Reg.master = 1 →
      d.val ∈ trayEids s →
      ∃ t, exec (.getEndpointId p) s = .next t ∧
        t.outbox = s.outbox ++ [.relayed d 0 2 ([])] ∧
        t.regs = s.regs ∧
        t.mem = s.mem ∧
        t.links = s.links) ∧
    (∀ (s : State) (p : Port) (d : Fin 256) ,
      s.house.input = true →
      p = .relay false d →
      s.fld Reg.master = 1 →
      d.val ∈ trayEids s →
      ∃ t, exec (.getMctpVersionSupport p) s = .next t ∧
        t.outbox = s.outbox ++ [.relayed d 0 4 ([])] ∧
        t.regs = s.regs ∧
        t.mem = s.mem ∧
        t.links = s.links) ∧
    (∀ (s : State) (p : Port) (d : Fin 256) ,
      s.house.input = true →
      p = .relay false d →
      s.fld Reg.master = 1 →
      d.val ∈ trayEids s →
      ∃ t, exec (.getMessageTypeSupport p) s = .next t ∧
        t.outbox = s.outbox ++ [.relayed d 0 5 ([])] ∧
        t.regs = s.regs ∧
        t.mem = s.mem ∧
        t.links = s.links) ∧
    (∀ (s : State) (p : Port) (d : Fin 256) ,
      s.house.input = true →
      p = .relay false d →
      s.fld Reg.master = 1 →
      d.val ∈ trayEids s →
      ∃ t, exec (.getVendorMessageSupport p) s = .next t ∧
        t.outbox = s.outbox ++ [.relayed d 0 6 ([])] ∧
        t.regs = s.regs ∧
        t.mem = s.mem ∧
        t.links = s.links) ∧
    (∀ (s : State) (p : Port) (d : Fin 256) ,
      s.house.input = true →
      p = .relay false d →
      s.fld Reg.master = 1 →
      d.val ∈ trayEids s →
      ∃ t, exec (.getRoutingTableEntries p) s = .next t ∧
        t.outbox = s.outbox ++ [.relayed d 0 0x0A ([])] ∧
        t.regs = s.regs ∧
        t.mem = s.mem ∧
        t.links = s.links) ∧
    (∀ (s : State) (p : Port) (d : Fin 256) (off : Nat) (bytes : List Byte),
      s.house.input = true →
      p = .relay false d →
      s.fld Reg.master = 1 →
      d.val ∈ trayEids s →
      ∃ t, exec (.fwData p off bytes) s = .next t ∧
        t.outbox = s.outbox ++ [.relayed d 0x7E 2 (leBytes 4 off ++ bytes)] ∧
        t.regs = s.regs ∧
        t.mem = s.mem ∧
        t.links = s.links) ∧
    (∀ (s : State) (p : Port) (d : Fin 256) (off words : Nat),
      s.house.input = true →
      p = .relay false d →
      s.fld Reg.master = 1 →
      d.val ∈ trayEids s →
      ∃ t, exec (.regRead p off words) s = .next t ∧
        t.outbox = s.outbox ++ [.relayed d 0x7E 3 (leBytes 4 off ++ leBytes 1 words)] ∧
        t.regs = s.regs ∧
        t.mem = s.mem ∧
        t.links = s.links) ∧
    (∀ (s : State) (p : Port) (d : Fin 256) (off : Nat) (value : Word),
      s.house.input = true →
      p = .relay false d →
      s.fld Reg.master = 1 →
      d.val ∈ trayEids s →
      ∃ t, exec (.regWrite p off value) s = .next t ∧
        t.outbox = s.outbox ++ [.relayed d 0x7E 4 (leBytes 4 off ++ List.replicate 4 0 ++ leBytes 8 value.toNat)] ∧
        t.regs = s.regs ∧
        t.mem = s.mem ∧
        t.links = s.links) ∧
    (∀ (s : State) (p : Port) (d : Fin 256) ,
      s.house.input = true →
      p = .relay false d →
      s.fld Reg.master = 1 →
      d.val ∈ trayEids s →
      ∃ t, exec (.heartbeat p) s = .next t ∧
        t.outbox = s.outbox ++ [.relayed d 0x7E 5 ([])] ∧
        t.regs = s.regs ∧
        t.mem = s.mem ∧
        t.links = s.links) ∧
    (∀ (s : State) (p : Port) (d : Fin 256) (cmd : Fin 256),
      s.house.input = true →
      p = .relay false d →
      s.fld Reg.master = 1 →
      d.val ∈ trayEids s →
      6 < cmd.val →
      ∃ t, exec (.vendorBad p cmd) s = .next t ∧
        t.outbox = s.outbox ++ [.relayed d 0x7E cmd ([])] ∧
        t.regs = s.regs ∧
        t.mem = s.mem ∧
        t.links = s.links) ∧
    (∀ (s : State) (via : Transport) (d : Fin 256) (bytes : List Byte),
      s.house.input = true →
      via = .relay false d →
      s.fld Reg.master = 1 →
      d.val ∈ trayEids s →
      ∃ t, exec (.capsuleReceive via bytes) s = .next t ∧
        t.outbox = s.outbox ++ [.relayed d 0x7E 1 bytes] ∧
        t.regs = s.regs ∧
        t.mem = s.mem ∧
        t.links = s.links) ∧
    (∀ (s : State) (p : Port) (d : Fin 256) (off words : Nat),
      s.house.input = true →
      p = .relay true d →
      s.fld Reg.master = 1 →
      d.val ∉ trayEids s →
      0x10 ≤ d.val ∧ d.val < 0x14 →
      ∃ t, exec (.regRead p off words) s = .next t ∧
        t.outbox = s.outbox ++ [.absent (d.val - 0x10)] ∧
        t.regs = s.regs ∧
        t.mem = s.mem ∧
        t.links = s.links) ∧
    (∀ (s : State) (p : Port) (d : Fin 256) (off : Nat) (value : Word),
      s.house.input = true →
      p = .relay true d →
      ∃ t, exec (.regWrite p off value) s = .next t ∧
        t = s) ∧
    (∀ (s : State) (p : Port) (d : Fin 256) (off words : Nat) (r : Bool),
      s.house.input = true →
      p = .relay r d →
      s.fld Reg.master = 0 →
      ∃ t, exec (.regRead p off words) s = .next t ∧
        t = s)

/-- A whole-register write of a register that only holds its value puts the RW bits in force when the value is one that the register
takes; otherwise the register keeps its value and the CFG_ERR bit of its block is set. A write of an RW1C register clears the bits that
are 1. A write of a safety limit that takes only a capsule changes nothing but CFG_ERR. (R6, R434.) -/
def Obligations.RegisterWritesAct : Prop :=
    (∀ (s : State) (addr : Fin 67108864) (bytes : List Byte) (value : Word) (m : Nat) ,
      s.house.input = true →
      addr.val % 8 = 0 →
      bytes = leBytes 8 value.toNat →
      blockLive s addr = true →
      w1cMask addr = none →
      plainMask addr = some m →
      plainOk addr (value &&& BitVec.ofNat 64 m).toNat = true →
      ∃ t, exec (.registerWrite addr bytes) s = .next t ∧
        t.word addr = (s.word addr &&& ~~~ BitVec.ofNat 64 m) ||| (value &&& BitVec.ofNat 64 m) ∧
        t.outbox = s.outbox ∧
        t.mem = s.mem ∧
        t.links = s.links) ∧
    (∀ (s : State) (addr : Fin 67108864) (bytes : List Byte) (value : Word) (m : Nat) ,
      s.house.input = true →
      addr.val % 8 = 0 →
      bytes = leBytes 8 value.toNat →
      blockLive s addr = true →
      w1cMask addr = none →
      plainMask addr = some m →
      plainOk addr (value &&& BitVec.ofNat 64 m).toNat = false →
      ∃ t, exec (.registerWrite addr bytes) s = .next t ∧
        t.fld (errOf addr) = 1 ∧
        t.word addr = s.word addr ∧
        t.outbox = s.outbox ∧
        t.mem = s.mem ∧
        t.links = s.links ∧
        onlyRegs [(errOf addr).off, addr] s t = true) ∧
    (∀ (s : State) (addr : Fin 67108864) (bytes : List Byte) (value : Word) (m : Nat) ,
      s.house.input = true →
      addr.val % 8 = 0 →
      bytes = leBytes 8 value.toNat →
      blockLive s addr = true →
      w1cMask addr = some m →
      ∃ t, exec (.registerWrite addr bytes) s = .next t ∧
        t.word addr = s.word addr &&& ~~~(value &&& BitVec.ofNat 64 m) ∧
        t.outbox = s.outbox ∧
        t.mem = s.mem ∧
        t.links = s.links) ∧
    (∀ (s : State) (addr : Fin 67108864) (bytes : List Byte) (value : Word) ,
      s.house.input = true →
      addr.val % 8 = 0 →
      bytes = leBytes 8 value.toNat →
      blockLive s addr = true →
      addr.val ∈ [0x2100018, 0x2100020, 0x2100038, 0x2100048, 0x2100050] →
      ∃ t, exec (.registerWrite addr bytes) s = .next t ∧
        t.fld Reg.thmCfgErr = 1 ∧
        t.word addr = s.word addr ∧
        t.power = s.power ∧
        t.mem = s.mem ∧
        t.links = s.links ∧
        onlyRegs [Reg.thmCfgErr.off, addr] s t = true)

/-- A write of INV_COORD that R479 does not refuse puts the coordinate and ring sizes in force with ASSIGNED set. GO drains the module
when no group, circuit or mirror forbids it, and hands the tray on; the drain ends with the torus links disabled; CANCEL ends a drain,
RETURN a done strike, whose links are enabled again. (R479, R487, R488, R489.) -/
def Obligations.CoordinateAndStrikeAct : Prop :=
    (∀ (s : State) (value : BitVec 32),
      houseLive s = true →
      coordRefused s value.toNat = false →
      ∃ t, exec (.coordAssign value) s = .next t ∧
        t.fld Reg.coordSizes = value.toNat % 2 ^ 27 ∧
        t.fld Reg.assigned = 1 ∧
        t.fld Reg.coordSet = 1 ∧
        t.mem = s.mem) ∧
    (∀ (s : State) (value : BitVec 32),
      houseLive s = true →
      coordRefused s value.toNat = true →
      ∃ t, exec (.coordAssign value) s = .next t ∧
        t.fld Reg.coordSizes = s.fld Reg.coordSizes ∧
        t.fld Reg.invCfgErr = 1 ∧
        t.fld Reg.assigned = s.fld Reg.assigned ∧
        t.mem = s.mem ∧
        t.links = s.links ∧
        onlyRegs [Reg.coordSizes.off, Reg.invCfgErr.off, Reg.assigned.off] s t = true) ∧
    (∀ (s : State),
      houseLive s = true →
      s.fld Reg.strikeState = sdNone →
      strikeVerdict s = none →
      ∃ t, exec .strikeStart s = .next t ∧
        t.fld Reg.strikeState = sdDraining ∧
        t.fld Reg.invStrikeResult = 0 ∧
        t.fld Reg.master = 0 ∧
        t.host.drainAt = s.now ∧
        t.mem = s.mem) ∧
    (∀ (s : State) (r : Nat),
      houseLive s = true →
      s.fld Reg.strikeState = sdNone →
      strikeVerdict s = some r →
      ∃ t, exec .strikeStart s = .next t ∧
        t.fld Reg.strikeState = sdNone ∧
        t.fld Reg.invStrikeResult = r ∧
        t.fld Reg.master = s.fld Reg.master ∧
        t.mem = s.mem ∧
        t.links = s.links ∧
        onlyRegs [Reg.strikeState.off, Reg.invStrikeResult.off, Reg.master.off] s t = true) ∧
    (∀ (s : State),
      houseLive s = true →
      s.fld Reg.strikeState ≠ sdNone →
      ∃ t, exec .strikeStart s = .next t ∧
        t.fld Reg.strikeState = s.fld Reg.strikeState ∧
        t.fld Reg.invCfgErr = 1 ∧
        t.mem = s.mem ∧
        t.links = s.links ∧
        onlyRegs [Reg.strikeState.off, Reg.invCfgErr.off] s t = true) ∧
    (∀ (s : State) (l : Fin 14),
      houseLive s = true →
      s.fld Reg.strikeState = sdDraining →
      ((actInflight s 0 = 0 ∧ actInflight s 1 = 0 ∧ poolInflight s = 0) ∨ 256 * s.fld Reg.ageLimit + 4000 ≤ 40 * (s.now - s.host.drainAt)) →
      8 ≤ l.val →
      ∃ t, exec .strikeDrainEnd s = .next t ∧
        t.fld Reg.strikeState = sdDone ∧
        t.fld Reg.invStrikeResult = srDone ∧
        (t.host.struck = [8, 9, 10, 11, 12, 13].filter (fun k => s.flag (Reg.lnkEnable k))) ∧
        t.fld (Reg.lnkEnable l) = 0) ∧
    (∀ (s : State),
      houseLive s = true →
      s.fld Reg.strikeState = sdDraining →
      ∃ t, exec .strikeCancel s = .next t ∧
        t.fld Reg.strikeState = sdNone ∧
        t.fld Reg.invStrikeResult = srCancelled ∧
        t.mem = s.mem ∧
        t.links = s.links ∧
        onlyRegs [Reg.strikeState.off, Reg.invStrikeResult.off] s t = true) ∧
    (∀ (s : State),
      houseLive s = true →
      s.fld Reg.strikeState ≠ sdDraining →
      ∃ t, exec .strikeCancel s = .next t ∧
        t.fld Reg.strikeState = s.fld Reg.strikeState ∧
        t.fld Reg.invCfgErr = 1 ∧
        t.mem = s.mem ∧
        t.links = s.links ∧
        onlyRegs [Reg.strikeState.off, Reg.invCfgErr.off] s t = true) ∧
    (∀ (s : State) (l : Nat),
      houseLive s = true →
      s.fld Reg.strikeState = sdDone →
      l ∈ s.host.struck →
      l < 14 →
      ∃ t, exec .strikeReturn s = .next t ∧
        t.fld Reg.strikeState = sdNone ∧
        t.fld Reg.invStrikeResult = srReturned ∧
        t.host.struck = [] ∧
        t.fld (Reg.lnkEnable l) = 1 ∧
        t.mem = s.mem)

/-- A rehearsal timer starts a slice on the next eligible target, which it moves past, unless rehearsal is suspended. A slice ends with
the signature it read, PASS when it is the golden one and else MISMATCH or, the second time, FAIL. FUSE_ARM makes the next power-up a fuse
pass, at whose end a SOFT entry is FUSED and FUSE_ARM is clear. Each 0.1 h the powered time advances, and the die's while it runs. (R494,
R499, R500, R501, R505, R511.) -/
def Obligations.RehearsalAndFusesAct : Prop :=
    (∀ (s : State) (w : Fin 4) (idx sk n : Nat),
      linksLive s = true →
      (Tab.get (fun _ => 0) s.rhs.nextFire w ≤ s.now) →
      suspendCause s = 0 →
      s.rhs.slices = [] →
      (Tab.get (fun _ => 0) s.rhs.again w = 0) →
      pickTarget s w (targetsOf w).length (s.fld (Reg.rhsNext w)) = (some (idx, sk), n) →
      ∃ t, exec (.rehearsalTimer w) s = .next t ∧
        t.rhs.slices = [Slice.mk w idx] ∧
        t.fld (Reg.rhsNext w) = (idx + 1) % (targetsOf w).length ∧
        (Tab.get (fun _ => 0) t.rhs.nextFire w = s.now + s.fld Reg.rhsPeriod * 1000 * ticksPerMs) ∧
        t.mem = s.mem) ∧
    (∀ (s : State) (w : Fin 4) ,
      linksLive s = true →
      (Tab.get (fun _ => 0) s.rhs.nextFire w ≤ s.now) →
      suspendCause s = 0 →
      (2 ≤ s.rhs.slices.length ∨ s.rhs.slices.any (fun c => decide (c.wing = w.val)) = true) →
      ∃ t, exec (.rehearsalTimer w) s = .next t ∧
        t.rhs.slices = s.rhs.slices ∧
        (t.rhs.waitingFires = s.rhs.waitingFires.filter (fun v => decide (v ≠ w.val)) ++ [w.val]) ∧
        (Tab.get (fun _ => 0) t.rhs.nextFire w = s.now + s.fld Reg.rhsPeriod * 1000 * ticksPerMs) ∧
        t.regs = s.regs ∧
        t.mem = s.mem ∧
        t.links = s.links) ∧
    (∀ (s : State) (w : Fin 4) ,
      linksLive s = true →
      (Tab.get (fun _ => 0) s.rhs.nextFire w ≤ s.now) →
      suspendCause s ≠ 0 →
      ∃ t, exec (.rehearsalTimer w) s = .next t ∧
        t.rhs.slices = s.rhs.slices ∧
        t.rhs.waitingFires = s.rhs.waitingFires ∧
        (Tab.get (fun _ => 0) t.rhs.nextFire w = s.now + s.fld Reg.rhsPeriod * 1000 * ticksPerMs) ∧
        t.regs = s.regs ∧
        t.mem = s.mem ∧
        t.links = s.links) ∧
    (∀ (s : State) (w : Fin 4) ,
      linksLive s = true →
      (s.now < Tab.get (fun _ => 0) s.rhs.nextFire w) →
      ∃ t, exec (.rehearsalTimer w) s = .next t ∧
        t = s) ∧
    (∀ (s : State) (w : Fin 4) (signature : BitVec 32) (u : Slice),
      linksLive s = true →
      sliceOf s w = some u →
      testRuns s (sliceTarget u) = true →
      ∃ t, exec (.sliceEnd w signature) s = .next t ∧
        (t.fld (Reg.rhsResult w) = (if signature = goldenOf s (sliceTarget u) then 1 else if Tab.get (fun _ => 0) s.rhs.mismatches (targetKey u) = 1 then 3 else 2)) ∧
        t.fld (Reg.rhsSig w) = signature.toNat ∧
        t.fld Reg.rhsSlices = (s.fld Reg.rhsSlices + 1) % 2 ^ Reg.rhsSlices.w) ∧
    (∀ (s : State),
      s.house.input = true →
      fusePassDue s = true →
      ∃ t, exec .fusePass s = .next t ∧
        t.rhs.fusePass = true ∧
        t.rhs.slices = s.rhs.slices ∧
        t.regs = s.regs ∧
        t.mem = s.mem ∧
        t.links = s.links) ∧
    (∀ (s : State) (j : Fin 256),
      s.house.input = true →
      s.rhs.fusePass = true →
      s.fld (Reg.repairState j) = 1 →
      s.fld Reg.fusedCount = 0 →
      ((List.range 256).all (fun k => decide (k = j.val ∨ s.fld (Reg.repairState k) ≠ 1)) = true) →
      ∃ t, exec .fusePassComplete s = .next t ∧
        t.rhs.fusePass = false ∧
        t.fld Reg.fuseArm = 0 ∧
        t.fld Reg.fuseDone = 1 ∧
        t.fld (Reg.repairState j) = 2 ∧
        t.fld Reg.fusedCount = 1 ∧
        t.mem = s.mem) ∧
    (∀ (s : State),
      s.house.input = true →
      s.host.tenths < s.now / (360000 * ticksPerMs) →
      ∃ t, exec .inventoryTick s = .next t ∧
        t.host.tenths = s.host.tenths + 1 ∧
        t.fld Reg.hrsPowered = (s.fld Reg.hrsPowered + 1) % 2 ^ Reg.hrsPowered.w ∧
        (t.fld Reg.hrsDie = (s.fld Reg.hrsDie + (if dieRuns s then 1 else 0)) % 2 ^ Reg.hrsDie.w) ∧
        t.outbox = s.outbox ∧
        t.mem = s.mem ∧
        t.links = s.links)

/-- A write of a counter gives it the 48 bits. A read of counters by frame is answered with the words of R516, a malformed one with BAD.
The mirror tick writes the 1,024 words to the mirror's place, or says that it is off. (R515, R516, R517.) -/
def Obligations.PerformanceCountersAct : Prop :=
    (∀ (s : State) (n : Fin 1024) (value : Word),
      houseLive s = true →
      ∃ t, exec (.pmcCounterWrite n value) s = .next t ∧
        t.fld (Reg.pmcCnt n) = field value 0 48 ∧
        t.outbox = s.outbox ∧
        t.mem = s.mem ∧
        t.links = s.links ∧
        onlyRegs [(Reg.pmcCnt n).off] s t = true) ∧
    (∀ (s : State) (f : Frame) (h : InFrame) (n : Nat),
      linksLive s = true →
      inboxOf s f = some h →
      Frame.type f = tyMgmt →
      Frame.op f = 0x12 →
      pmcReadOk f = true →
      n = Frame.addr f / 1024 + 1 →
      ∃ t, exec (.pmcReadFrame f) s = .next t ∧
        (t = sendFrame 0 (mgmtAnswer s f 0x13 (padTo (16 * (1 + ceilDiv n 2)) (padTo 16 [1] ++ (List.range n).flatMap (fun i => pmcWord s (Frame.addr f % 1024 + i))))) (dropInbox h s))) ∧
    (∀ (s : State) (f : Frame) (h : InFrame) ,
      linksLive s = true →
      inboxOf s f = some h →
      Frame.type f = tyMgmt →
      Frame.op f = 0x12 →
      pmcReadOk f = false →
      ∃ t, exec (.pmcReadFrame f) s = .next t ∧
        t = sendFrame 0 (mgmtAnswer s f 0x13 (padTo 16 [3])) (dropInbox h s)) ∧
    (∀ (s : State) (b : Nat),
      linksLive s = true →
      s.fld Reg.pmcMirrorPeriod ≠ 0 →
      s.host.mirrorAt + s.fld Reg.pmcMirrorPeriod * ticksPerUs ≤ s.now →
      b = s.fld Reg.pmcMirrorBase →
      mirrorPlaced s b = true →
      spanAwake s b 8192 = true →
      ∃ t, exec .pmcMirrorTick s = .next t ∧
        t.ten.sp = (spWrite b ((List.range 1024).flatMap (pmcWord s)) s).ten.sp ∧
        t.host.mirrorAt = s.now ∧
        t.fld Reg.mirrorOff = s.fld Reg.mirrorOff ∧
        t.mem = s.mem ∧
        t.links = s.links ∧
        onlyRegs [Reg.mirrorOff.off] s t = true) ∧
    (∀ (s : State),
      linksLive s = true →
      s.fld Reg.pmcMirrorPeriod ≠ 0 →
      s.host.mirrorAt + s.fld Reg.pmcMirrorPeriod * ticksPerUs ≤ s.now →
      mirrorPlaced s (s.fld Reg.pmcMirrorBase) = false →
      ∃ t, exec .pmcMirrorTick s = .next t ∧
        t.fld Reg.mirrorOff = 1 ∧
        t.ten = s.ten ∧
        t.mem = s.mem ∧
        t.links = s.links ∧
        onlyRegs [Reg.mirrorOff.off] s t = true) ∧
    (∀ (s : State),
      linksLive s = true →
      (s.fld Reg.pmcMirrorPeriod = 0 ∨ s.now < s.host.mirrorAt + s.fld Reg.pmcMirrorPeriod * ticksPerUs) →
      ∃ t, exec .pmcMirrorTick s = .next t ∧
        t = s)
end

