-- ==== Sys2Proof/Laws/Bits.lean ====
section
/-! SUPPORT. Laws of bit fields. -/
namespace Sys2Proof.Machine

theorem getLsbD_putField (v : Word) (lo w x i : Nat) :
    (putField v lo w x).getLsbD i =
      if lo ≤ i ∧ i < lo + w ∧ i < 64 then x.testBit (i - lo) else v.getLsbD i := by
  unfold putField
  by_cases hi : i < 64
  · simp only [BitVec.getLsbD_or, BitVec.getLsbD_and, BitVec.getLsbD_not, BitVec.getLsbD_ofNat, hi, Nat.testBit_shiftLeft,
      Nat.testBit_two_pow_sub_one, Nat.testBit_mod_two_pow]
    by_cases h1 : lo ≤ i
    · by_cases h2 : i < lo + w
      · have : i - lo < w := by omega
        simp [h1, h2, this, ge_iff_le]
      · have : ¬ i - lo < w := by omega
        simp [h1, h2, this, ge_iff_le]
    · simp [h1]
  · have h : ¬ (lo ≤ i ∧ i < lo + w ∧ i < 64) := by omega
    rw [if_neg h, BitVec.getLsbD_of_ge _ _ (by omega), BitVec.getLsbD_of_ge _ _ (by omega)]

theorem testBit_field (v : Word) (lo w i : Nat) : (field v lo w).testBit i = (decide (i < w) && v.getLsbD (lo + i)) := by
  unfold field bitsOf
  rw [Nat.testBit_mod_two_pow, Nat.testBit_shiftRight, BitVec.testBit_toNat]

/-- A field holds what was put there, cut to its width. -/
theorem field_putField_same (v : Word) (lo w x : Nat) (h : lo + w ≤ 64) : field (putField v lo w x) lo w = x % 2 ^ w := by
  apply Nat.eq_of_testBit_eq
  intro i
  rw [testBit_field, getLsbD_putField, Nat.testBit_mod_two_pow]
  by_cases hi : i < w
  · have h1 : lo ≤ lo + i ∧ lo + i < lo + w ∧ lo + i < 64 := by omega
    rw [if_pos h1]; simp [hi]
  · simp [hi]

/-- A field whose bits lie elsewhere keeps its value. -/
theorem field_putField_disjoint (v : Word) (lo w x lo' w' : Nat) (h : lo' + w' ≤ lo ∨ lo + w ≤ lo') :
    field (putField v lo w x) lo' w' = field v lo' w' := by
  apply Nat.eq_of_testBit_eq
  intro i
  rw [testBit_field, testBit_field, getLsbD_putField]
  by_cases hi : i < w'
  · have h1 : ¬ (lo ≤ lo' + i ∧ lo' + i < lo + w ∧ lo' + i < 64) := by omega
    rw [if_neg h1]
  · simp [hi]

/-- A field is below the power of two of its width. -/
theorem field_lt (v : Word) (lo w : Nat) : field v lo w < 2 ^ w := Nat.mod_lt _ (Nat.two_pow_pos w)

end Sys2Proof.Machine
end

