-- ==== Sys2Proof/Laws/Tab.lean ====
section
/-! SUPPORT. Laws of sparse tables: a read after a write, and that every operation keeps the canonical form. -/
namespace Sys2Proof.Machine

theorem Tab.get_insert_same {α : Type} (d : Nat → α) (t : Tab α) (k : Nat) (v : α) : Tab.get d (Tab.insert t k v) k = v := by
  induction t with
  | nil => simp [Tab.insert, Tab.get]
  | cons e t ih =>
    simp only [Tab.insert]
    split
    · simp [Tab.get]
    · split
      · simp [Tab.get]
      · simp only [Tab.get]; rw [if_neg (by assumption)]; exact ih

theorem Tab.get_insert_ne {α : Type} (d : Nat → α) (t : Tab α) (j k : Nat) (v : α) (h : k ≠ j) :
    Tab.get d (Tab.insert t j v) k = Tab.get d t k := by
  induction t with
  | nil => simp [Tab.insert, Tab.get, Ne.symm h]
  | cons e t ih =>
    simp only [Tab.insert]
    split
    · simp [Tab.get, Ne.symm h]
    · split
      · rename_i he; simp [Tab.get, he, Ne.symm h]
      · simp only [Tab.get, ih]

theorem Tab.get_erase_same {α : Type} (d : Nat → α) (t : Tab α) (k : Nat) : Tab.get d (Tab.erase t k) k = d k := by
  induction t with
  | nil => rfl
  | cons e t ih =>
    simp only [Tab.erase]
    split
    · exact ih
    · simp only [Tab.get]; rw [if_neg (by assumption)]; exact ih

theorem Tab.get_erase_ne {α : Type} (d : Nat → α) (t : Tab α) (j k : Nat) (h : k ≠ j) : Tab.get d (Tab.erase t j) k = Tab.get d t k := by
  induction t with
  | nil => rfl
  | cons e t ih =>
    simp only [Tab.erase]
    split
    · rename_i he; simp only [Tab.get]; rw [ih, if_neg (by omega)]
    · simp only [Tab.get, ih]

theorem Tab.get_set_same {α : Type} [DecidableEq α] (d : Nat → α) (t : Tab α) (k : Nat) (v : α) : Tab.get d (Tab.set d t k v) k = v := by
  unfold Tab.set
  split
  · rw [Tab.get_erase_same]; exact Eq.symm (by assumption)
  · exact Tab.get_insert_same d t k v

theorem Tab.get_set_ne {α : Type} [DecidableEq α] (d : Nat → α) (t : Tab α) (j k : Nat) (v : α) (h : k ≠ j) :
    Tab.get d (Tab.set d t j v) k = Tab.get d t k := by
  unfold Tab.set
  split
  · exact Tab.get_erase_ne d t j k h
  · exact Tab.get_insert_ne d t j k v h

theorem Tab.wfFrom_mono {α : Type} [DecidableEq α] (d : Nat → α) (t : Tab α) (a b : Nat) (hab : a ≤ b) (h : Tab.wfFrom d b t = true) :
    Tab.wfFrom d a t = true := by
  cases t with
  | nil => rfl
  | cons e t =>
    simp only [Tab.wfFrom, Bool.and_eq_true, decide_eq_true_eq] at *
    exact ⟨⟨by omega, h.1.2⟩, h.2⟩

theorem Tab.wfFrom_filter {α : Type} [DecidableEq α] (d : Nat → α) (p : Nat × α → Bool) (t : Tab α) (b : Nat) (h : Tab.wfFrom d b t = true) :
    Tab.wfFrom d b (t.filter p) = true := by
  induction t generalizing b with
  | nil => rfl
  | cons e t ih =>
    simp [Tab.wfFrom] at h
    rw [List.filter_cons]
    split
    · simp [Tab.wfFrom, h]; exact ih _ h.2
    · exact ih _ (Tab.wfFrom_mono d t b (e.1 + 1) (by omega) h.2)

theorem Tab.wfFrom_erase {α : Type} [DecidableEq α] (d : Nat → α) (t : Tab α) (k b : Nat) (h : Tab.wfFrom d b t = true) :
    Tab.wfFrom d b (Tab.erase t k) = true := by
  induction t generalizing b with
  | nil => rfl
  | cons e t ih =>
    simp [Tab.wfFrom] at h
    simp only [Tab.erase]
    split
    · exact ih _ (Tab.wfFrom_mono d t b (e.1 + 1) (by omega) h.2)
    · simp [Tab.wfFrom, h]; exact ih _ h.2

theorem Tab.wfFrom_insert {α : Type} [DecidableEq α] (d : Nat → α) (t : Tab α) (k b : Nat) (v : α) (hb : b ≤ k) (hv : v ≠ d k)
    (h : Tab.wfFrom d b t = true) : Tab.wfFrom d b (Tab.insert t k v) = true := by
  induction t generalizing b with
  | nil => simp [Tab.insert, Tab.wfFrom, hb, hv]
  | cons e t ih =>
    simp [Tab.wfFrom] at h
    simp only [Tab.insert]
    split
    · simp [Tab.wfFrom, hb, hv, h]; omega
    · split
      · simp [Tab.wfFrom, hb, hv]; rename_i hne; subst hne; exact h.2
      · simp [Tab.wfFrom, h]; exact ih _ (by omega) h.2

theorem Tab.wf_set {α : Type} [DecidableEq α] (d : Nat → α) (t : Tab α) (k : Nat) (v : α) (h : Tab.wf d t = true) :
    Tab.wf d (Tab.set d t k v) = true := by
  unfold Tab.wf Tab.set at *
  split
  · exact Tab.wfFrom_erase _ _ _ _ h
  · exact Tab.wfFrom_insert _ _ _ _ _ (Nat.zero_le _) (by assumption) h

theorem Tab.wf_setRange {α : Type} [DecidableEq α] (d : Nat → α) (t : Tab α) (k : Nat) (vs : List α) (h : Tab.wf d t = true) :
    Tab.wf d (Tab.setRange d t k vs) = true := by
  induction vs generalizing t k with
  | nil => exact h
  | cons v vs ih => exact ih _ _ (Tab.wf_set _ _ _ _ h)

theorem Tab.wf_filter {α : Type} [DecidableEq α] (d : Nat → α) (p : Nat × α → Bool) (t : Tab α) (h : Tab.wf d t = true) :
    Tab.wf d (t.filter p) = true := Tab.wfFrom_filter d p t 0 h

theorem Tab.wf_foldl {α β : Type} [DecidableEq α] (d : Nat → α) (f : Tab α → β → Tab α) (l : List β) (t : Tab α)
    (hf : ∀ t b, Tab.wf d t = true → Tab.wf d (f t b) = true) (h : Tab.wf d t = true) : Tab.wf d (l.foldl f t) = true := by
  induction l generalizing t with
  | nil => exact h
  | cons a l ih => exact ih _ (hf _ _ h)

end Sys2Proof.Machine
end

