-- ==== Sys2Proof/Laws/Keeps.lean ====
section
/-! SUPPORT. What every operation of the block keeps: the ordering code, the queue, the canonical form of the memory, the free values
already taken, the messages already sent and every part of the machine that may not change. -/
namespace Sys2Proof.Machine

/-- State `b` keeps what state `a` fixes; only the parts `W` may differ. -/
structure Keeps (W : Part → Prop) (a b : State) : Prop where
  code : b.code = a.code
  pending : b.pending = a.pending
  wf : Memory.wf a = true → Memory.wf b = true
  free : a.free ≤ b.free
  sent : a.outbox <+: b.outbox
  same : ∀ p, ¬ W p → p.same a b

/-- The part may change. -/
class May (W : Part → Prop) (p : Part) : Prop where
  may : W p

/-- A table of bytes keeps its canonical form, and stays the same unless its part may change. -/
def ByteStep (W : Part → Prop) (p : Part) (a b : Tab Byte) : Prop :=
  (Tab.wf (fun _ => 0) a = true → Tab.wf (fun _ => 0) b = true) ∧ (¬ W p → b = a)

theorem byteStep_refl {W : Part → Prop} {p : Part} (a : Tab Byte) : ByteStep W p a a := ⟨id, fun _ => rfl⟩

theorem byteStep_of {W : Part → Prop} {p : Part} [m : May W p] {a b : Tab Byte} (h : Tab.wf (fun _ => 0) a = true → Tab.wf (fun _ => 0) b = true) :
    ByteStep W p a b := ⟨h, fun hn => absurd m.may hn⟩

theorem part_refl (p : Part) (s : State) : p.same s s := by
  cases p <;> first | exact rfl | exact ⟨rfl, rfl⟩

theorem part_trans (p : Part) {a b c : State} (h : p.same a b) (g : p.same b c) : p.same a c := by
  cases p <;> first | exact Eq.trans g h | exact ⟨g.1.trans h.1, g.2.trans h.2⟩

theorem Keeps.rfl' {W : Part → Prop} (s : State) : Keeps W s s :=
  ⟨rfl, rfl, id, Nat.le_refl _, List.prefix_refl _, fun p _ => part_refl p s⟩

theorem keeps_ite {W : Part → Prop} {s0 a b : State} {c : Prop} [Decidable c] (ha : Keeps W s0 a) (hb : Keeps W s0 b) : Keeps W s0 (if c then a else b) := by
  split <;> assumption

theorem keeps_forEach {α : Type} {W : Part → Prop} {s0 : State} (f : α → State → State) (l : List α) (s : State)
    (hf : ∀ a s, Keeps W s0 s → Keeps W s0 (f a s)) (h : Keeps W s0 s) : Keeps W s0 (forEach f l s) := by
  induction l generalizing s with
  | nil => exact h
  | cons a t ih => exact ih _ (hf _ _ h)

theorem keeps_foldl {α : Type} {W : Part → Prop} {s0 : State} (f : State → α → State) (l : List α) (s : State)
    (hf : ∀ s a, Keeps W s0 s → Keeps W s0 (f s a)) (h : Keeps W s0 s) : Keeps W s0 (l.foldl f s) := by
  induction l generalizing s with
  | nil => exact h
  | cons a t ih => exact ih _ (hf _ _ h)

theorem Memory.wf_iff (s : State) : Memory.wf s = true ↔ Tab.wf (resetWord s.code) s.regs = true ∧ Tab.wf (fun _ => 0) s.mem.dram = true ∧
    Tab.wf (fun _ => 0) s.ten.sp = true ∧ Tab.wf (fun _ => 0) s.cue.store = true := by
  simp [Memory.wf, and_assoc]

theorem keeps_move {W : Part → Prop} {s0 s t : State} (hc : t.code = s.code) (hp : t.pending = s.pending)
    (hw : Memory.wf s = true → Memory.wf t = true) (hf : s.free ≤ t.free) (ho : s.outbox <+: t.outbox) (hs : ∀ p, ¬ W p → p.same s t)
    (h : Keeps W s0 s) : Keeps W s0 t :=
  ⟨hc.trans h.code, hp.trans h.pending, fun g => hw (h.wf g), Nat.le_trans h.free hf, h.sent.trans ho, fun p g => part_trans p (h.same p g) (hs p g)⟩

theorem keeps_field {W : Part → Prop} {s0 s t : State} (hc : t.code = s.code) (hp : t.pending = s.pending) (hr : t.regs = s.regs)
    (hm : t.mem.dram = s.mem.dram) (ht : t.ten.sp = s.ten.sp) (hk : t.cue.store = s.cue.store) (hf : t.free = s.free) (ho : t.outbox = s.outbox)
    (hs : ∀ p, ¬ W p → p.same s t) (h : Keeps W s0 s) : Keeps W s0 t := by
  refine keeps_move hc hp (fun hw => ?_) (Nat.le_of_eq hf.symm) (ho ▸ List.prefix_refl _) hs h
  rw [Memory.wf_iff] at *
  rw [hc, hr, hm, ht, hk]; exact hw

theorem keeps_State_setWord {W : Part → Prop} [m : May W .regs] {s0 : State} (s : State) (off : Nat) (v : Word) (h : Keeps W s0 s) :
    Keeps W s0 (s.setWord off v) := by
  refine keeps_move (s := s) rfl rfl (fun hw => ?_) (Nat.le_refl _) (List.prefix_refl _) (fun p g => ?_) h
  · rw [Memory.wf_iff] at *; exact ⟨Tab.wf_set _ _ _ _ hw.1, hw.2⟩
  · cases p <;> first | exact absurd m.may g | first | exact rfl | exact ⟨rfl, rfl⟩

theorem keeps_with_regs {W : Part → Prop} [m : May W .regs] {s0 : State} (s : State) (p : Nat × Word → Bool) (h : Keeps W s0 s) :
    Keeps W s0 { s with regs := s.regs.filter p } := by
  refine keeps_move (s := s) rfl rfl (fun hw => ?_) (Nat.le_refl _) (List.prefix_refl _) (fun q g => ?_) h
  · rw [Memory.wf_iff] at *; exact ⟨Tab.wf_filter _ _ _ hw.1, hw.2⟩
  · cases q <;> first | exact absurd m.may g | first | exact rfl | exact ⟨rfl, rfl⟩

theorem keeps_State_modMem {W : Part → Prop} [m : May W .mem] {s0 : State} (s : State) (f : Mem → Mem)
    (hf : ByteStep W .dram s.mem.dram (f s.mem).dram) (h : Keeps W s0 s) : Keeps W s0 (s.modMem f) := by
  refine keeps_move (s := s) rfl rfl (fun hw => ?_) (Nat.le_refl _) (List.prefix_refl _) (fun q g => ?_) h
  · rw [Memory.wf_iff] at *; exact ⟨hw.1, hf.1 hw.2.1, hw.2.2⟩
  · cases q <;> first | exact absurd m.may g | exact hf.2 g | first | exact rfl | exact ⟨rfl, rfl⟩

theorem keeps_State_modTen {W : Part → Prop} [m : May W .ten] {s0 : State} (s : State) (f : Ten → Ten)
    (hf : ByteStep W .sp s.ten.sp (f s.ten).sp) (h : Keeps W s0 s) : Keeps W s0 (s.modTen f) := by
  refine keeps_move (s := s) rfl rfl (fun hw => ?_) (Nat.le_refl _) (List.prefix_refl _) (fun q g => ?_) h
  · rw [Memory.wf_iff] at *; exact ⟨hw.1, hw.2.1, hf.1 hw.2.2.1, hw.2.2.2⟩
  · cases q <;> first | exact absurd m.may g | exact hf.2 g | first | exact rfl | exact ⟨rfl, rfl⟩

theorem keeps_State_modCue {W : Part → Prop} [m : May W .cue] {s0 : State} (s : State) (f : Cue → Cue)
    (hf : ByteStep W .store s.cue.store (f s.cue).store) (h : Keeps W s0 s) : Keeps W s0 (s.modCue f) := by
  refine keeps_move (s := s) rfl rfl (fun hw => ?_) (Nat.le_refl _) (List.prefix_refl _) (fun q g => ?_) h
  · rw [Memory.wf_iff] at *; exact ⟨hw.1, hw.2.1, hw.2.2.1, hf.1 hw.2.2.2⟩
  · cases q <;> first | exact absurd m.may g | exact hf.2 g | first | exact rfl | exact ⟨rfl, rfl⟩

theorem keeps_with_house {W : Part → Prop} [m : May W .house] {s0 : State} (s : State) (v : House) (h : Keeps W s0 s) :
    Keeps W s0 { s with house := v } :=
  keeps_field (s := s) rfl rfl rfl rfl rfl rfl rfl rfl (fun q g => by cases q <;> first | exact absurd m.may g | first | exact rfl | exact ⟨rfl, rfl⟩) h

theorem keeps_with_links {W : Part → Prop} [m : May W .links] {s0 : State} (s : State) (v : Tab Link) (h : Keeps W s0 s) :
    Keeps W s0 { s with links := v } :=
  keeps_field (s := s) rfl rfl rfl rfl rfl rfl rfl rfl (fun q g => by cases q <;> first | exact absurd m.may g | first | exact rfl | exact ⟨rfl, rfl⟩) h

theorem keeps_with_sites {W : Part → Prop} [m : May W .sites] {s0 : State} (s : State) (v : Tab Site) (h : Keeps W s0 s) :
    Keeps W s0 { s with sites := v } :=
  keeps_field (s := s) rfl rfl rfl rfl rfl rfl rfl rfl (fun q g => by cases q <;> first | exact absurd m.may g | first | exact rfl | exact ⟨rfl, rfl⟩) h

theorem keeps_with_swc {W : Part → Prop} [m : May W .swc] {s0 : State} (s : State) (v : Swc) (h : Keeps W s0 s) :
    Keeps W s0 { s with swc := v } :=
  keeps_field (s := s) rfl rfl rfl rfl rfl rfl rfl rfl (fun q g => by cases q <;> first | exact absurd m.may g | first | exact rfl | exact ⟨rfl, rfl⟩) h

theorem keeps_with_col {W : Part → Prop} [m : May W .col] {s0 : State} (s : State) (v : Col) (h : Keeps W s0 s) :
    Keeps W s0 { s with col := v } :=
  keeps_field (s := s) rfl rfl rfl rfl rfl rfl rfl rfl (fun q g => by cases q <;> first | exact absurd m.may g | first | exact rfl | exact ⟨rfl, rfl⟩) h

theorem keeps_with_board {W : Part → Prop} [m : May W .board] {s0 : State} (s : State) (v : Board) (h : Keeps W s0 s) :
    Keeps W s0 { s with board := v } :=
  keeps_field (s := s) rfl rfl rfl rfl rfl rfl rfl rfl (fun q g => by cases q <;> first | exact absurd m.may g | first | exact rfl | exact ⟨rfl, rfl⟩) h

theorem keeps_with_mail {W : Part → Prop} [m : May W .mail] {s0 : State} (s : State) (v : Mail) (h : Keeps W s0 s) :
    Keeps W s0 { s with mail := v } :=
  keeps_field (s := s) rfl rfl rfl rfl rfl rfl rfl rfl (fun q g => by cases q <;> first | exact absurd m.may g | first | exact rfl | exact ⟨rfl, rfl⟩) h

theorem keeps_with_power {W : Part → Prop} [m : May W .power] {s0 : State} (s : State) (v : Power) (h : Keeps W s0 s) :
    Keeps W s0 { s with power := v } :=
  keeps_field (s := s) rfl rfl rfl rfl rfl rfl rfl rfl (fun q g => by cases q <;> first | exact absurd m.may g | first | exact rfl | exact ⟨rfl, rfl⟩) h

theorem keeps_with_host {W : Part → Prop} [m : May W .host] {s0 : State} (s : State) (v : HostPort) (h : Keeps W s0 s) :
    Keeps W s0 { s with host := v } :=
  keeps_field (s := s) rfl rfl rfl rfl rfl rfl rfl rfl (fun q g => by cases q <;> first | exact absurd m.may g | first | exact rfl | exact ⟨rfl, rfl⟩) h

theorem keeps_with_rhs {W : Part → Prop} [m : May W .rhs] {s0 : State} (s : State) (v : Rehearsal) (h : Keeps W s0 s) :
    Keeps W s0 { s with rhs := v } :=
  keeps_field (s := s) rfl rfl rfl rfl rfl rfl rfl rfl (fun q g => by cases q <;> first | exact absurd m.may g | first | exact rfl | exact ⟨rfl, rfl⟩) h

theorem keeps_with_spState {W : Part → Prop} [m : May W .spState] {s0 : State} (s : State) (v : Tab Nat) (h : Keeps W s0 s) :
    Keeps W s0 { s with spState := v } :=
  keeps_field (s := s) rfl rfl rfl rfl rfl rfl rfl rfl (fun q g => by cases q <;> first | exact absurd m.may g | first | exact rfl | exact ⟨rfl, rfl⟩) h

theorem keeps_with_waking {W : Part → Prop} [m : May W .waking] {s0 : State} (s : State) (v : List UnitId) (h : Keeps W s0 s) :
    Keeps W s0 { s with waking := v } :=
  keeps_field (s := s) rfl rfl rfl rfl rfl rfl rfl rfl (fun q g => by cases q <;> first | exact absurd m.may g | first | exact rfl | exact ⟨rfl, rfl⟩) h

theorem keeps_with_sec {W : Part → Prop} [m : May W .sec] {s0 : State} (s : State) (v : Sec)
    (hk : ¬ W .keys → v.hostKey = s.sec.hostKey ∧ v.rackKey = s.sec.rackKey) (h : Keeps W s0 s) : Keeps W s0 { s with sec := v } :=
  keeps_field (s := s) rfl rfl rfl rfl rfl rfl rfl rfl
    (fun q g => by cases q <;> first | exact absurd m.may g | exact hk g | first | exact rfl | exact ⟨rfl, rfl⟩) h

theorem keeps_State_modSec {W : Part → Prop} [m : May W .sec] {s0 : State} (s : State) (f : Sec → Sec)
    (hk : ¬ W .keys → (f s.sec).hostKey = s.sec.hostKey ∧ (f s.sec).rackKey = s.sec.rackKey) (h : Keeps W s0 s) : Keeps W s0 (s.modSec f) :=
  keeps_with_sec s (f s.sec) hk h

theorem keeps_of_pair {W : Part → Prop} {α : Type} {s0 : State} {p : α × State} {a : α} {s : State} (hq : p = (a, s)) (hp : Keeps W s0 p.2) :
    Keeps W s0 s := by
  rw [hq] at hp; exact hp

theorem keeps_takeFrees {W : Part → Prop} {s0 : State} (n : Nat) (s : State) (h : Keeps W s0 s) : Keeps W s0 (takeFrees n s) :=
  keeps_move (s := s) rfl rfl id (Nat.le_add_right _ _) (List.prefix_refl _) (fun q _ => by cases q <;> first | exact rfl | exact ⟨rfl, rfl⟩) h

theorem keeps_emit {W : Part → Prop} [m : May W .outbox] {s0 : State} (x : OutMsg) (s : State) (h : Keeps W s0 s) : Keeps W s0 (emit x s) :=
  keeps_move (s := s) rfl rfl id (Nat.le_refl _) (List.prefix_append _ _)
    (fun q g => by cases q <;> first | exact absurd m.may g | first | exact rfl | exact ⟨rfl, rfl⟩) h

end Sys2Proof.Machine
end

