-- ==== Sys2Proof/Laws/KeepsOps.lean ====
section
/-! SUPPORT. That every operation keeps the memory's canonical form and the queue (`Keeps`): the units of the die: switch core, links, pool, tiles, sequencers, engines. -/
namespace Sys2Proof.Machine

theorem keeps_State_setFld {W : Part → Prop} [May W .regs] {s0 : State} (s : State) (f : Field) (x : Nat) (hk0 : Keeps W s0 s)
    : Keeps W s0 (State.setFld s f x) := by
  unfold State.setFld; apply keeps_State_setWord; assumption

theorem keeps_State_addFld {W : Part → Prop} [May W .regs] {s0 : State} (s : State) (f : Field) (n : Nat) (hk0 : Keeps W s0 s)
    : Keeps W s0 (State.addFld s f n) := by
  unfold State.addFld; apply keeps_State_setFld; assumption

theorem keeps_State_count {W : Part → Prop} [May W .regs] {s0 : State} (s : State) (f : Field) (hk0 : Keeps W s0 s) : Keeps W s0
    (State.count s f) := by
  unfold State.count; apply keeps_State_addFld; assumption

theorem keeps_State_satFld {W : Part → Prop} [May W .regs] {s0 : State} (s : State) (f : Field) (n : Nat) (hk0 : Keeps W s0 s)
    : Keeps W s0 (State.satFld s f n) := by
  unfold State.satFld; apply keeps_State_setFld; assumption

theorem keeps_State_raise {W : Part → Prop} [May W .regs] {s0 : State} (s : State) (f : Field) (hk0 : Keeps W s0 s) : Keeps W s0
    (State.raise s f) := by
  unfold State.raise; apply keeps_State_setFld; assumption

theorem keeps_takeFree {W : Part → Prop} {s0 : State} (s : State) (hk0 : Keeps W s0 s) : Keeps W s0 (takeFree s) := by
  unfold takeFree; apply keeps_takeFrees; assumption

theorem keeps_signalMsix {W : Part → Prop} [May W .outbox] {s0 : State} (v : Nat) (s : State) (hk0 : Keeps W s0 s) : Keeps W s0
    (signalMsix v s) := by
  unfold signalMsix; apply keeps_emit; assumption

theorem keeps_queueAlert {W : Part → Prop} [May W .regs] [May W .host] [May W .outbox] {s0 : State} (a : Alert) (s : State) (hk0
    : Keeps W s0 s) : Keeps W s0 (queueAlert a s) := by
  unfold queueAlert; dsimp only; apply keeps_ite; apply keeps_State_raise; apply keeps_State_count; apply keeps_ite
  apply keeps_signalMsix; assumption; assumption; with_reducible apply keeps_with_host; apply keeps_ite; apply keeps_signalMsix
  assumption; assumption

theorem keeps_alert {W : Part → Prop} [May W .regs] [May W .host] [May W .outbox] {s0 : State} (src code ev : Nat) (s : State)
    (hk0 : Keeps W s0 s) : Keeps W s0 (alert src code ev s) := by
  unfold alert; dsimp only; apply keeps_ite; with_reducible apply keeps_with_host; assumption; apply keeps_queueAlert
  with_reducible apply keeps_with_host; assumption

theorem keeps_pmcAdd {W : Part → Prop} [May W .regs] {s0 : State} (n k : Nat) (s : State) (hk0 : Keeps W s0 s) : Keeps W s0
    (pmcAdd n k s) := by
  unfold pmcAdd; dsimp only; apply keeps_ite; apply keeps_State_raise; apply keeps_State_setFld; assumption; apply keeps_State_setFld
  assumption

theorem keeps_pmcEvent {W : Part → Prop} [May W .regs] {s0 : State} (ev unit k : Nat) (s : State) (hk0 : Keeps W s0 s) : Keeps W s0
    (pmcEvent ev unit k s) := by
  unfold pmcEvent; apply keeps_ite; assumption; apply keeps_forEach; intro _; intro _; intro _; apply keeps_pmcAdd; assumption
  assumption

theorem keeps_setUnit {W : Part → Prop} [May W .regs] [May W .spState] {s0 : State} (u : UnitId) (st : Nat) (s : State) (hk0
    : Keeps W s0 s) : Keeps W s0 (setUnit u st s) := by
  unfold setUnit; split; with_reducible apply keeps_with_spState; assumption; apply keeps_State_setFld; assumption; assumption

theorem keeps_lightScratch {W : Part → Prop} [May W .regs] [May W .spState] [May W .waking] {s0 : State} (w : Fin 4) (s : State)
    (hk0 : Keeps W s0 s) : Keeps W s0 (lightScratch w s) := by
  unfold lightScratch; apply keeps_ite; dsimp only; with_reducible apply keeps_with_waking; apply keeps_setUnit; assumption; assumption

theorem keeps_wakeUnit {W : Part → Prop} [May W .waking] {s0 : State} (u : UnitId) (s : State) (hk0 : Keeps W s0 s) : Keeps W s0
    (wakeUnit u s) := by
  unfold wakeUnit; apply keeps_ite; assumption; with_reducible apply keeps_with_waking; assumption

theorem keeps_State_setLink {W : Part → Prop} [May W .links] {s0 : State} (s : State) (l : Nat) (k : Link) (hk0 : Keeps W s0 s)
    : Keeps W s0 (State.setLink s l k) := by
  unfold State.setLink; with_reducible apply keeps_with_links; assumption

theorem keeps_State_modLink {W : Part → Prop} [May W .links] {s0 : State} (s : State) (l : Nat) (f : Link → Link) (hk0
    : Keeps W s0 s) : Keeps W s0 (State.modLink s l f) := by
  unfold State.modLink; apply keeps_State_setLink; assumption

theorem keeps_State_modSwc {W : Part → Prop} [May W .swc] {s0 : State} (s : State) (f : Swc → Swc) (hk0 : Keeps W s0 s) : Keeps W s0
    (State.modSwc s f) := by
  unfold State.modSwc; with_reducible apply keeps_with_swc; assumption

theorem keeps_returnCredit {W : Part → Prop} [May W .links] {s0 : State} (l vc n : Nat) (s : State) (hk0 : Keeps W s0 s) : Keeps W s0
    (returnCredit l vc n s) := by
  unfold returnCredit; apply keeps_ite; assumption; apply keeps_State_modLink; assumption

theorem keeps_noteSharedFull {W : Part → Prop} [May W .regs] [May W .swc] {s0 : State} (w : Nat) (s : State) (hk0 : Keeps W s0 s)
    : Keeps W s0 (noteSharedFull w s) := by
  unfold noteSharedFull; apply keeps_ite; apply keeps_State_raise; apply keeps_State_modSwc; assumption; assumption

theorem keeps_leavePending {W : Part → Prop} [May W .swc] {s0 : State} (c n : Nat) (s : State) (hk0 : Keeps W s0 s) : Keeps W s0
    (leavePending c n s) := by
  unfold leavePending; apply keeps_State_modSwc; assumption

theorem keeps_releaseStored {W : Part → Prop} [May W .links] [May W .swc] {s0 : State} (q : QFrame) (s : State) (hk0
    : Keeps W s0 s) : Keeps W s0 (releaseStored q s) := by
  unfold releaseStored; apply keeps_ite; assumption; dsimp only; apply keeps_returnCredit; apply keeps_ite; apply keeps_leavePending
  assumption; assumption

theorem keeps_dropLog {W : Part → Prop} [May W .regs] {s0 : State} (ing reason group : Nat) (s : State) (hk0 : Keeps W s0 s)
    : Keeps W s0 (dropLog ing reason group s) := by
  unfold dropLog; apply keeps_State_setFld; apply keeps_State_setFld; apply keeps_State_setFld; apply keeps_State_setFld; assumption

theorem keeps_discard {W : Part → Prop} [May W .regs] {s0 : State} (f : Field) (reason ing : Nat) (fr : Frame) (s : State) (hk0
    : Keeps W s0 s) : Keeps W s0 (discard f reason ing fr s) := by
  unfold discard; apply keeps_dropLog; apply keeps_State_count; assumption

theorem keeps_enqueue {W : Part → Prop} [May W .regs] [May W .swc] {s0 : State} (q : QFrame) (s : State) (hk0 : Keeps W s0 s)
    : Keeps W s0 (enqueue q s) := by
  unfold enqueue; dsimp only; apply keeps_ite; apply keeps_pmcEvent; apply keeps_State_count; apply keeps_noteSharedFull
  apply keeps_State_modSwc; assumption; apply keeps_noteSharedFull; apply keeps_State_modSwc; assumption

theorem keeps_noteSpray {W : Part → Prop} [May W .swc] {s0 : State} (cls : Nat) (port : Option Nat) (s : State) (hk0
    : Keeps W s0 s) : Keeps W s0 (noteSpray cls port s) := by
  unfold noteSpray; split; apply keeps_State_modSwc; assumption; assumption

theorem keeps_retireEdgeReq {W : Part → Prop} [May W .swc] {s0 : State} (port tag seq : Nat) (s : State) (hk0 : Keeps W s0 s)
    : Keeps W s0 (retireEdgeReq port tag seq s) := by
  unfold retireEdgeReq; dsimp only; apply keeps_State_modSwc; assumption

theorem keeps_bumpStor {W : Part → Prop} [May W .swc] {s0 : State} (s : State) (hk0 : Keeps W s0 s) : Keeps W s0 (bumpStor s) := by
  unfold bumpStor; apply keeps_State_modSwc; assumption

theorem keeps_toEdge {W : Part → Prop} [May W .regs] [May W .links] [May W .swc] {s0 : State} (ans : Frame → Nat → State → State)
    (q : QFrame) (s : State) (hf_ans : ∀ x0 x1 x2, Keeps W s0 x2 → Keeps W s0 (ans x0 x1 x2)) (hk0 : Keeps W s0 s) : Keeps W s0
    (toEdge ans q s) := by
  unfold toEdge; apply keeps_ite; dsimp only; apply keeps_ite; apply hf_ans; apply keeps_releaseStored; apply keeps_discard; assumption
  apply keeps_releaseStored; apply keeps_discard; assumption; apply keeps_enqueue; assumption

theorem keeps_copyTo {W : Part → Prop} [May W .regs] [May W .swc] {s0 : State} (q : QFrame) (p : Nat) (s : State) (hk0
    : Keeps W s0 s) : Keeps W s0 (copyTo q p s) := by
  unfold copyTo; apply keeps_ite; apply keeps_discard; assumption; dsimp only; apply keeps_enqueue; assumption

theorem keeps_copiesTo {W : Part → Prop} [May W .regs] [May W .swc] {s0 : State} (ports : List Nat) (q : QFrame) (s : State) (hk0
    : Keeps W s0 s) : Keeps W s0 (copiesTo ports q s) := by
  unfold copiesTo; dsimp only; apply keeps_forEach; intro _; intro _; intro _; apply keeps_copyTo; assumption; assumption

theorem keeps_deliverCopies {W : Part → Prop} [May W .regs] [May W .links] [May W .swc] {s0 : State} (q : QFrame) (s : State) (hk0
    : Keeps W s0 s) : Keeps W s0 (deliverCopies q s) := by
  unfold deliverCopies; dsimp only; apply keeps_releaseStored; apply keeps_ite; apply keeps_State_modSwc; apply keeps_copiesTo
  assumption; apply keeps_copiesTo; assumption

theorem keeps_toUnits {W : Part → Prop} [May W .links] [May W .swc] {s0 : State} (q : QFrame) (s : State) (hk0 : Keeps W s0 s)
    : Keeps W s0 (toUnits q s) := by
  unfold toUnits; apply keeps_returnCredit; apply keeps_State_modSwc; assumption

theorem keeps_takeIn {W : Part → Prop} [May W .links] [May W .swc] {s0 : State} (q : QFrame) (s : State) (hk0 : Keeps W s0 s)
    : Keeps W s0 (takeIn q s) := by
  unfold takeIn; apply keeps_ite; apply keeps_State_modSwc; assumption; apply keeps_toUnits; assumption

theorem keeps_admitPool {W : Part → Prop} [May W .links] [May W .swc] {s0 : State} (s : State) (hk0 : Keeps W s0 s) : Keeps W s0
    (admitPool s) := by
  unfold admitPool; split; assumption; apply keeps_ite; assumption; apply keeps_toUnits; apply keeps_State_modSwc; assumption

theorem keeps_passOn {W : Part → Prop} [May W .regs] [May W .links] [May W .swc] {s0 : State} (ans : Frame → Nat → State → State)
    (q : QFrame) (s : State) (hf_ans : ∀ x0 x1 x2, Keeps W s0 x2 → Keeps W s0 (ans x0 x1 x2)) (hk0 : Keeps W s0 s) : Keeps W s0
    (passOn ans q s) := by
  unfold passOn; dsimp only; apply keeps_ite; apply keeps_deliverCopies; assumption; apply keeps_ite; apply keeps_takeIn; assumption
  apply keeps_toEdge; intro _; intro _; intro _; intro _; apply hf_ans; assumption; assumption

theorem keeps_putStream {W : Part → Prop} [May W .swc] {s0 : State} (t : Stream) (s : State) (hk0 : Keeps W s0 s) : Keeps W s0
    (putStream t s) := by
  unfold putStream; dsimp only; apply keeps_State_modSwc; assumption

theorem keeps_passHeld {W : Part → Prop} [May W .regs] [May W .links] [May W .swc] {s0 : State} (ans : Frame → Nat → State → State)
    (l : List InFrame) (s : State) (hf_ans : ∀ x0 x1 x2, Keeps W s0 x2 → Keeps W s0 (ans x0 x1 x2)) (hk0 : Keeps W s0 s) : Keeps W s0
    (passHeld ans l s) := by
  unfold passHeld; apply keeps_forEach; intro _; intro _; intro _; apply keeps_passOn; intro _; intro _; intro _; intro _; apply hf_ans
  assumption; apply keeps_bumpStor; assumption; assumption

theorem keeps_passOldest {W : Part → Prop} [May W .regs] [May W .links] [May W .swc] {s0 : State} (ans : Frame → Nat → State → State)
    (s : State) (hf_ans : ∀ x0 x1 x2, Keeps W s0 x2 → Keeps W s0 (ans x0 x1 x2)) (hk0 : Keeps W s0 s) : Keeps W s0
    (passOldest ans s) := by
  unfold passOldest; split; assumption; dsimp only; apply keeps_passHeld; intro _; intro _; intro _; intro _; apply hf_ans; assumption
  apply keeps_putStream; apply keeps_State_addFld; assumption

theorem keeps_makeRoom {W : Part → Prop} [May W .regs] [May W .links] [May W .swc] {s0 : State} (ans : Frame → Nat → State → State)
    (need : Nat) (s : State) (hf_ans : ∀ x0 x1 x2, Keeps W s0 x2 → Keeps W s0 (ans x0 x1 x2)) (hk0 : Keeps W s0 s) : Keeps W s0
    (makeRoom ans need s) := by
  unfold makeRoom; apply keeps_forEach; intro _; intro _; intro _; apply keeps_ite; assumption; apply keeps_passOldest; intro _; intro _
  intro _; intro _; apply hf_ans; assumption; assumption; assumption

theorem keeps_reorderIn {W : Part → Prop} [May W .regs] [May W .links] [May W .swc] {s0 : State} (ans : Frame → Nat → State → State)
    (q : QFrame) (t : Stream) (s : State) (hf_ans : ∀ x0 x1 x2, Keeps W s0 x2 → Keeps W s0 (ans x0 x1 x2)) (hk0 : Keeps W s0 s)
    : Keeps W s0 (reorderIn ans q t s) := by
  unfold reorderIn; dsimp only; apply keeps_ite; apply keeps_passOn; intro _; intro _; intro _; intro _; apply hf_ans; assumption
  apply keeps_State_count; assumption; apply keeps_ite; apply keeps_passHeld; intro _; intro _; intro _; intro _; apply hf_ans
  assumption; apply keeps_passOn; intro _; intro _; intro _; intro _; apply hf_ans; assumption; apply keeps_passHeld; intro _; intro _
  intro _; intro _; apply hf_ans; assumption; apply keeps_putStream; assumption; apply keeps_releaseStored; apply keeps_putStream
  assumption

theorem keeps_reorderNew {W : Part → Prop} [May W .regs] [May W .links] [May W .swc] {s0 : State} (ans : Frame → Nat → State → State)
    (q : QFrame) (s : State) (hf_ans : ∀ x0 x1 x2, Keeps W s0 x2 → Keeps W s0 (ans x0 x1 x2)) (hk0 : Keeps W s0 s) : Keeps W s0
    (reorderNew ans q s) := by
  unfold reorderNew; dsimp only; apply keeps_ite; apply keeps_passOn; intro _; intro _; intro _; intro _; apply hf_ans; assumption
  apply keeps_State_count; apply keeps_passOldest; intro _; intro _; intro _; intro _; apply hf_ans; assumption; assumption
  apply keeps_passOn; intro _; intro _; intro _; intro _; apply hf_ans; assumption; apply keeps_State_modSwc; assumption

theorem keeps_makeRoomFor {W : Part → Prop} [May W .regs] [May W .links] [May W .swc] {s0 : State} (ans : Frame → Nat → State → State)
    (f : Frame) (t : Stream) (s : State) (hf_ans : ∀ x0 x1 x2, Keeps W s0 x2 → Keeps W s0 (ans x0 x1 x2)) (hk0 : Keeps W s0 s)
    : Keeps W s0 (makeRoomFor ans f t s) := by
  unfold makeRoomFor; apply keeps_ite; apply keeps_makeRoom; intro _; intro _; intro _; intro _; apply hf_ans; assumption; assumption
  assumption

theorem keeps_reorderKnown {W : Part → Prop} [May W .regs] [May W .links] [May W .swc] {s0 : State} (ans : Frame → Nat → State → State)
    (q : QFrame) (s : State) (hf_ans : ∀ x0 x1 x2, Keeps W s0 x2 → Keeps W s0 (ans x0 x1 x2)) (hk0 : Keeps W s0 s) : Keeps W s0
    (reorderKnown ans q s) := by
  unfold reorderKnown; split; apply keeps_passOn; intro _; intro _; intro _; intro _; apply hf_ans; assumption; assumption
  apply keeps_reorderIn; intro _; intro _; intro _; intro _; apply hf_ans; assumption; assumption

theorem keeps_reorder {W : Part → Prop} [May W .regs] [May W .links] [May W .swc] {s0 : State} (ans : Frame → Nat → State → State)
    (q : QFrame) (s : State) (hf_ans : ∀ x0 x1 x2, Keeps W s0 x2 → Keeps W s0 (ans x0 x1 x2)) (hk0 : Keeps W s0 s) : Keeps W s0
    (reorder ans q s) := by
  unfold reorder; split; apply keeps_reorderNew; intro _; intro _; intro _; intro _; apply hf_ans; assumption; assumption
  apply keeps_reorderKnown; intro _; intro _; intro _; intro _; apply hf_ans; assumption; apply keeps_makeRoomFor; intro _; intro _
  intro _; intro _; apply hf_ans; assumption; assumption

theorem keeps_deliver {W : Part → Prop} [May W .regs] [May W .links] [May W .swc] {s0 : State} (ans : Frame → Nat → State → State)
    (q : QFrame) (s : State) (hf_ans : ∀ x0 x1 x2, Keeps W s0 x2 → Keeps W s0 (ans x0 x1 x2)) (hk0 : Keeps W s0 s) : Keeps W s0
    (deliver ans q s) := by
  unfold deliver; dsimp only; apply keeps_ite; apply keeps_reorder; intro _; intro _; intro _; intro _; apply hf_ans; assumption
  assumption; apply keeps_passOn; intro _; intro _; intro _; intro _; apply hf_ans; assumption; assumption

theorem keeps_spendTokens {W : Part → Prop} [May W .swc] {s0 : State} (c out cells : Nat) (s : State) (hk0 : Keeps W s0 s) : Keeps W s0
    (spendTokens c out cells s) := by
  unfold spendTokens; dsimp only; apply keeps_State_modSwc; assumption

theorem keeps_toInternal {W : Part → Prop} [May W .links] [May W .swc] {s0 : State} (q : QFrame) (s : State) (hk0 : Keeps W s0 s)
    : Keeps W s0 (toInternal q s) := by
  unfold toInternal; apply keeps_ite; dsimp only; apply keeps_toUnits; apply keeps_ite; apply keeps_leavePending
  apply keeps_State_modSwc; apply keeps_spendTokens; assumption; apply keeps_State_modSwc; apply keeps_spendTokens; assumption
  assumption

theorem keeps_serveInternal {W : Part → Prop} [May W .links] [May W .swc] {s0 : State} (s : State) (hk0 : Keeps W s0 s) : Keeps W s0
    (serveInternal s) := by
  unfold serveInternal; apply keeps_forEach; intro _; intro _; intro _; apply keeps_toInternal; assumption; assumption

theorem keeps_toLeg {W : Part → Prop} [May W .regs] [May W .links] [May W .swc] {s0 : State} (ans : Frame → Nat → State → State)
    (q : QFrame) (out : Nat) (s : State) (hf_ans : ∀ x0 x1 x2, Keeps W s0 x2 → Keeps W s0 (ans x0 x1 x2)) (hk0 : Keeps W s0 s)
    : Keeps W s0 (toLeg ans q out s) := by
  unfold toLeg; apply keeps_ite; apply keeps_serveInternal; apply keeps_enqueue; assumption; apply keeps_ite; apply keeps_releaseStored
  apply keeps_discard; assumption; apply keeps_ite; apply keeps_enqueue; assumption; apply keeps_toEdge; intro _; intro _; intro _
  intro _; apply hf_ans; assumption; assumption

theorem keeps_routeCircuit {W : Part → Prop} [May W .regs] [May W .links] [May W .swc] {s0 : State} (ans : Frame → Nat → State → State)
    (q : QFrame) (s : State) (hf_ans : ∀ x0 x1 x2, Keeps W s0 x2 → Keeps W s0 (ans x0 x1 x2)) (hk0 : Keeps W s0 s) : Keeps W s0
    (routeCircuit ans q s) := by
  unfold routeCircuit; dsimp only; split; apply keeps_releaseStored; apply keeps_State_count; assumption; apply keeps_ite
  apply keeps_ite; apply keeps_toLeg; intro _; intro _; intro _; intro _; apply hf_ans; assumption; apply keeps_State_setFld; assumption
  apply keeps_ite; apply keeps_releaseStored; apply keeps_State_count; assumption; apply keeps_releaseStored; apply keeps_State_count
  assumption; apply keeps_toLeg; intro _; intro _; intro _; intro _; apply hf_ans; assumption; assumption

theorem keeps_multicast {W : Part → Prop} [May W .regs] [May W .links] [May W .swc] {s0 : State} (ans : Frame → Nat → State → State)
    (q : QFrame) (s : State) (hf_ans : ∀ x0 x1 x2, Keeps W s0 x2 → Keeps W s0 (ans x0 x1 x2)) (hk0 : Keeps W s0 s) : Keeps W s0
    (multicast ans q s) := by
  unfold multicast; apply keeps_ite; apply keeps_releaseStored; apply keeps_discard; assumption; dsimp only; apply keeps_ite
  apply keeps_reorder; intro _; intro _; intro _; intro _; apply hf_ans; assumption; apply keeps_releaseStored; apply keeps_bumpStor
  apply keeps_copiesTo; assumption; apply keeps_deliverCopies; apply keeps_copiesTo; assumption

theorem keeps_routeByTable {W : Part → Prop} [May W .regs] [May W .links] [May W .swc] {s0 : State} (ans : Frame → Nat → State → State)
    (q : QFrame) (s : State) (hf_ans : ∀ x0 x1 x2, Keeps W s0 x2 → Keeps W s0 (ans x0 x1 x2)) (hk0 : Keeps W s0 s) : Keeps W s0
    (routeByTable ans q s) := by
  unfold routeByTable; dsimp only; apply keeps_ite; apply keeps_ite; apply hf_ans; apply keeps_releaseStored; apply keeps_State_count
  assumption; apply keeps_releaseStored; apply keeps_State_count; assumption; apply keeps_ite; apply keeps_enqueue; assumption
  apply keeps_enqueue; apply keeps_noteSpray; assumption

theorem keeps_routeOn {W : Part → Prop} [May W .regs] [May W .links] [May W .swc] {s0 : State} (ans : Frame → Nat → State → State)
    (q : QFrame) (s : State) (hf_ans : ∀ x0 x1 x2, Keeps W s0 x2 → Keeps W s0 (ans x0 x1 x2)) (hk0 : Keeps W s0 s) : Keeps W s0
    (routeOn ans q s) := by
  unfold routeOn; dsimp only; apply keeps_ite; apply keeps_routeCircuit; intro _; intro _; intro _; intro _; apply hf_ans; assumption
  assumption; apply keeps_ite; apply keeps_multicast; intro _; intro _; intro _; intro _; apply hf_ans; assumption; assumption
  apply keeps_ite; apply keeps_deliver; intro _; intro _; intro _; intro _; apply hf_ans; assumption; assumption
  apply keeps_routeByTable; intro _; intro _; intro _; intro _; apply hf_ans; assumption; assumption

theorem keeps_routeQuiet {W : Part → Prop} [May W .regs] [May W .links] [May W .swc] {s0 : State} (q : QFrame) (s : State) (hk0
    : Keeps W s0 s) : Keeps W s0 (routeQuiet q s) := by
  unfold routeQuiet; apply keeps_routeOn; intro _; intro _; intro _; intro _; assumption; assumption

theorem keeps_sendFrame {W : Part → Prop} [May W .regs] [May W .links] [May W .swc] {s0 : State} (wing : Nat) (f : Frame) (s : State)
    (hk0 : Keeps W s0 s) : Keeps W s0 (sendFrame wing f s) := by
  unfold sendFrame; dsimp only; apply keeps_ite; apply keeps_discard; apply keeps_bumpStor; assumption; apply keeps_routeQuiet
  apply keeps_bumpStor; assumption

theorem keeps_answerErr {W : Part → Prop} [May W .regs] [May W .links] [May W .swc] {s0 : State} (f : Frame) (code : Nat) (s : State)
    (hk0 : Keeps W s0 s) : Keeps W s0 (answerErr f code s) := by
  unfold answerErr; apply keeps_sendFrame; assumption

theorem keeps_answerAck {W : Part → Prop} [May W .regs] [May W .links] [May W .swc] {s0 : State} (f : Frame) (s : State) (hk0
    : Keeps W s0 s) : Keeps W s0 (answerAck f s) := by
  unfold answerAck; apply keeps_sendFrame; assumption

theorem keeps_answerData {W : Part → Prop} [May W .regs] [May W .links] [May W .swc] {s0 : State} (f : Frame) (bs : List Byte)
    (s : State) (hk0 : Keeps W s0 s) : Keeps W s0 (answerData f bs s) := by
  unfold answerData; apply keeps_sendFrame; assumption

theorem keeps_sendAside {W : Part → Prop} [May W .regs] [May W .swc] {s0 : State} (port : Nat) (f : Frame) (s : State) (hk0
    : Keeps W s0 s) : Keeps W s0 (sendAside port f s) := by
  unfold sendAside; dsimp only; apply keeps_ite; apply keeps_discard; apply keeps_bumpStor; assumption; apply keeps_enqueue
  apply keeps_bumpStor; assumption

theorem keeps_sendLinkMsg {W : Part → Prop} [May W .links] [May W .outbox] {s0 : State} (l : Nat) (m : LinkMsg) (s : State) (hk0
    : Keeps W s0 s) : Keeps W s0 (sendLinkMsg l m s) := by
  unfold sendLinkMsg; apply keeps_ite; apply keeps_State_modLink; assumption; apply keeps_emit; assumption

theorem keeps_enterRequest {W : Part → Prop} [May W .regs] [May W .links] [May W .swc] {s0 : State} (q : QFrame) (s : State) (hk0
    : Keeps W s0 s) : Keeps W s0 (enterRequest q s) := by
  unfold enterRequest; dsimp only; apply keeps_ite; apply keeps_answerErr; apply keeps_releaseStored; apply keeps_State_count
  assumption; split; apply keeps_answerErr; apply keeps_releaseStored; apply keeps_ite; apply keeps_State_count; assumption; assumption
  apply keeps_ite; apply keeps_State_modSwc; apply keeps_ite; apply keeps_State_modSwc; assumption; assumption; apply keeps_routeOn
  intro _; intro _; intro _; intro _; apply keeps_answerErr; assumption; apply keeps_ite; apply keeps_State_modSwc; assumption
  assumption

theorem keeps_sendRequest {W : Part → Prop} [May W .regs] [May W .links] [May W .swc] {s0 : State} (wing : Nat) (f : Frame) (s : State)
    (hk0 : Keeps W s0 s) : Keeps W s0 (sendRequest wing f s) := by
  unfold sendRequest; dsimp only; apply keeps_enterRequest; apply keeps_bumpStor; assumption

theorem keeps_takeSeq {W : Part → Prop} [May W .swc] {s0 : State} (chip cls : Nat) (s : State) (hk0 : Keeps W s0 s) : Keeps W s0
    (takeSeq chip cls s).2 := by
  unfold takeSeq; dsimp only; apply keeps_State_modSwc; assumption

theorem keeps_takeAside {W : Part → Prop} [May W .regs] [May W .links] [May W .swc] {s0 : State} (q : QFrame) (s : State) (hk0
    : Keeps W s0 s) : Keeps W s0 (takeAside q s) := by
  unfold takeAside; apply keeps_ite; apply keeps_toUnits; assumption; apply keeps_releaseStored; apply keeps_discard; assumption

theorem keeps_routeArrival {W : Part → Prop} [May W .regs] [May W .links] [May W .swc] {s0 : State} (q : QFrame) (s : State) (hk0
    : Keeps W s0 s) : Keeps W s0 (routeArrival q s) := by
  unfold routeArrival; dsimp only; apply keeps_ite; apply keeps_ite; apply keeps_answerErr; apply keeps_releaseStored
  apply keeps_discard; assumption; apply keeps_releaseStored; apply keeps_discard; assumption; apply keeps_ite; apply keeps_ite
  apply keeps_answerErr; apply keeps_releaseStored; apply keeps_State_count; assumption; apply keeps_releaseStored
  apply keeps_State_count; assumption; apply keeps_ite; apply keeps_takeAside; assumption; apply keeps_ite; apply keeps_ite
  apply keeps_enterRequest; assumption; apply keeps_ite; apply keeps_answerErr; apply keeps_releaseStored; apply keeps_State_count
  assumption; apply keeps_routeOn; intro _; intro _; intro _; intro _; apply keeps_answerErr; assumption; assumption
  apply keeps_routeOn; intro _; intro _; intro _; intro _; apply keeps_answerErr; assumption; assumption

theorem keeps_logRepair {W : Part → Prop} [May W .regs] {s0 : State} (cls elem st : Nat) (s : State) (hk0 : Keeps W s0 s) : Keeps W s0
    (logRepair cls elem st s) := by
  unfold logRepair; dsimp only; split; apply keeps_State_raise; apply keeps_ite; apply keeps_State_raise; assumption
  apply keeps_State_raise; assumption; apply keeps_State_addFld; apply keeps_State_setFld; apply keeps_State_setFld
  apply keeps_State_setFld; apply keeps_State_setFld; apply keeps_ite; apply keeps_State_raise; assumption; apply keeps_State_raise
  assumption

theorem keeps_unlogRepair {W : Part → Prop} [May W .regs] {s0 : State} (cls elem : Nat) (s : State) (hk0 : Keeps W s0 s) : Keeps W s0
    (unlogRepair cls elem s) := by
  unfold unlogRepair; split; assumption; apply keeps_State_setFld; apply keeps_State_setFld; apply keeps_State_setFld
  apply keeps_State_setFld; apply keeps_State_setFld; assumption

theorem keeps_swingLowAlert {W : Part → Prop} [May W .regs] [May W .host] [May W .outbox] {s0 : State} (s : State) (hk0
    : Keeps W s0 s) : Keeps W s0 (swingLowAlert s) := by
  unfold swingLowAlert; apply keeps_alert; apply keeps_State_raise; assumption

theorem keeps_recordFailure {W : Part → Prop} [May W .regs] {s0 : State} (cls elem : Nat) (forced : Bool) (s : State) (hk0
    : Keeps W s0 s) : Keeps W s0 (recordFailure cls elem forced s) := by
  unfold recordFailure; apply keeps_ite; apply keeps_logRepair; assumption; apply keeps_logRepair; assumption

theorem keeps_setLaneAt {W : Part → Prop} [May W .regs] {s0 : State} (l i p : Nat) (s : State) (hk0 : Keeps W s0 s) : Keeps W s0
    (setLaneAt l i p s) := by
  unfold setLaneAt; apply keeps_State_setFld; apply keeps_State_setFld; assumption

theorem keeps_startSub {W : Part → Prop} [May W .links] [May W .outbox] {s0 : State} (l lane onto : Nat) (mine : Bool) (s : State)
    (hk0 : Keeps W s0 s) : Keeps W s0 (startSub l lane onto mine s) := by
  unfold startSub; dsimp only; apply keeps_ite; apply keeps_sendLinkMsg; apply keeps_State_modLink; assumption
  apply keeps_State_modLink; assumption

theorem keeps_startOn {W : Part → Prop} [May W .regs] [May W .links] [May W .rhs] [May W .outbox] {s0 : State} (w idx : Nat) (s : State)
    (hk0 : Keeps W s0 s) : Keeps W s0 (startOn w idx s) := by
  unfold startOn; dsimp only; split; apply keeps_ite; apply keeps_State_setFld; with_reducible apply keeps_with_rhs; assumption
  apply keeps_startSub; apply keeps_State_setFld; with_reducible apply keeps_with_rhs; assumption; apply keeps_State_setFld
  with_reducible apply keeps_with_rhs; assumption

theorem keeps_fireSlice {W : Part → Prop} [May W .regs] [May W .links] [May W .rhs] [May W .outbox] {s0 : State} (w : Nat) (s : State)
    (hk0 : Keeps W s0 s) : Keeps W s0 (fireSlice w s) := by
  unfold fireSlice; apply keeps_ite; assumption; apply keeps_ite; with_reducible apply keeps_with_rhs; assumption; dsimp only
  apply keeps_ite; apply keeps_startOn; with_reducible apply keeps_with_rhs; assumption; split; apply keeps_startOn
  apply keeps_State_setFld; apply keeps_State_addFld; assumption; apply keeps_State_addFld; assumption

theorem keeps_fireWaiting {W : Part → Prop} [May W .regs] [May W .links] [May W .rhs] [May W .outbox] {s0 : State} (s : State)
    (hk0 : Keeps W s0 s) : Keeps W s0 (fireWaiting s) := by
  unfold fireWaiting; split; assumption; apply keeps_ite; assumption; apply keeps_fireSlice; with_reducible apply keeps_with_rhs
  assumption

theorem keeps_closeSlice {W : Part → Prop} [May W .regs] [May W .rhs] {s0 : State} (c : Slice) (result : Nat) (s : State) (hk0
    : Keeps W s0 s) : Keeps W s0 (closeSlice c result s) := by
  unfold closeSlice; dsimp only; apply keeps_State_setFld; apply keeps_State_setFld; apply keeps_State_setFld
  with_reducible apply keeps_with_rhs; assumption

theorem keeps_abandonSlices {W : Part → Prop} [May W .regs] [May W .rhs] {s0 : State} (p : Nat → Target → Bool) (s : State) (hk0
    : Keeps W s0 s) : Keeps W s0 (abandonSlices p s) := by
  unfold abandonSlices; dsimp only; apply keeps_forEach; intro _; intro _; intro _; with_reducible apply keeps_with_rhs
  apply keeps_State_count; apply keeps_closeSlice; assumption; assumption

theorem keeps_abandonLinkSlices {W : Part → Prop} [May W .regs] [May W .links] [May W .rhs] [May W .outbox] {s0 : State} (l : Nat)
    (s : State) (hk0 : Keeps W s0 s) : Keeps W s0 (abandonLinkSlices l s) := by
  unfold abandonLinkSlices; apply keeps_fireWaiting; apply keeps_abandonSlices; assumption

theorem keeps_abandonDdrSlices {W : Part → Prop} [May W .regs] [May W .links] [May W .rhs] [May W .outbox] {s0 : State} (c : Nat)
    (s : State) (hk0 : Keeps W s0 s) : Keeps W s0 (abandonDdrSlices c s) := by
  unfold abandonDdrSlices; apply keeps_fireWaiting; apply keeps_abandonSlices; assumption

theorem keeps_abandonAllSlices {W : Part → Prop} [May W .regs] [May W .rhs] {s0 : State} (s : State) (hk0 : Keeps W s0 s) : Keeps W s0
    (abandonAllSlices s) := by
  unfold abandonAllSlices; dsimp only; with_reducible apply keeps_with_rhs; apply keeps_abandonSlices; assumption

theorem keeps_sendNotice {W : Part → Prop} [May W .regs] [May W .swc] {s0 : State} (l c kind : Nat) (s : State) (hk0
    : Keeps W s0 s) : Keeps W s0 (sendNotice l c kind s) := by
  unfold sendNotice; dsimp only; apply keeps_sendAside; assumption

theorem keeps_setCirState {W : Part → Prop} [May W .regs] {s0 : State} (c st : Nat) (s : State) (hk0 : Keeps W s0 s) : Keeps W s0
    (setCirState c st s) := by
  unfold setCirState; apply keeps_State_setFld; assumption

theorem keeps_rebindCircuit {W : Part → Prop} [May W .swc] {s0 : State} (c : Nat) (s : State) (hk0 : Keeps W s0 s) : Keeps W s0
    (rebindCircuit c s) := by
  unfold rebindCircuit; dsimp only; apply keeps_State_modSwc; assumption

theorem keeps_addPending {W : Part → Prop} [May W .swc] {s0 : State} (c : Nat) (op : Option Nat) (cells : Nat) (s : State) (hk0
    : Keeps W s0 s) : Keeps W s0 (addPending c op cells s) := by
  unfold addPending; apply keeps_State_modSwc; assumption

theorem keeps_launchCircuit {W : Part → Prop} [May W .regs] [May W .links] [May W .swc] {s0 : State} (x : CirWait) (s : State)
    (hk0 : Keeps W s0 s) : Keeps W s0 (launchCircuit x s) := by
  unfold launchCircuit; dsimp only; apply keeps_sendFrame; apply keeps_ite; apply keeps_State_modSwc; assumption; assumption

theorem keeps_admitCircuit {W : Part → Prop} [May W .regs] [May W .links] [May W .swc] {s0 : State} (x : CirWait) (s : State) (hk0
    : Keeps W s0 s) : Keeps W s0 (admitCircuit x s) := by
  unfold admitCircuit; dsimp only; apply keeps_ite; apply keeps_launchCircuit; apply keeps_State_modSwc; assumption; assumption

theorem keeps_admitCircuits {W : Part → Prop} [May W .regs] [May W .links] [May W .swc] {s0 : State} (s : State) (hk0
    : Keeps W s0 s) : Keeps W s0 (admitCircuits s) := by
  unfold admitCircuits; apply keeps_forEach; intro _; intro _; intro _; apply keeps_admitCircuit; assumption; assumption

theorem keeps_sendCircuit {W : Part → Prop} [May W .regs] [May W .links] [May W .swc] {s0 : State} (wing : Nat) (op : Nat) (f : Frame)
    (s : State) (hk0 : Keeps W s0 s) : Keeps W s0 (sendCircuit wing op f s) := by
  unfold sendCircuit; apply keeps_admitCircuits; apply keeps_State_modSwc; assumption

theorem keeps_replayInternal {W : Part → Prop} [May W .regs] [May W .links] [May W .swc] {s0 : State} (c : Nat) (s : State) (hk0
    : Keeps W s0 s) : Keeps W s0 (replayInternal c s) := by
  unfold replayInternal; dsimp only; apply keeps_admitCircuits; apply keeps_State_modSwc; apply keeps_forEach; intro _; intro _; intro _
  apply keeps_addPending; assumption; assumption

theorem keeps_tellSource {W : Part → Prop} [May W .regs] [May W .links] [May W .swc] {s0 : State} (c : Nat) (s : State) (hk0
    : Keeps W s0 s) : Keeps W s0 (tellSource c s) := by
  unfold tellSource; apply keeps_ite; apply keeps_replayInternal; assumption; apply keeps_ite; apply keeps_sendNotice; assumption
  assumption

theorem keeps_loseCircuit {W : Part → Prop} [May W .regs] [May W .links] [May W .swc] {s0 : State} (c : Nat) (s : State) (hk0
    : Keeps W s0 s) : Keeps W s0 (loseCircuit c s) := by
  unfold loseCircuit; dsimp only; apply keeps_forEach; intro _; intro _; intro _; apply keeps_releaseStored; apply keeps_State_count
  apply keeps_State_modSwc; assumption; apply keeps_setCirState; assumption

theorem keeps_headNotice {W : Part → Prop} [May W .regs] [May W .links] [May W .swc] {s0 : State} (c kind : Nat) (under : Bool)
    (s : State) (hk0 : Keeps W s0 s) : Keeps W s0 (headNotice c kind under s) := by
  unfold headNotice; dsimp only; apply keeps_ite; apply keeps_ite; apply keeps_tellSource; apply keeps_rebindCircuit
  apply keeps_State_count; apply keeps_setCirState; assumption; apply keeps_ite; apply keeps_tellSource; apply keeps_loseCircuit
  assumption; apply keeps_State_count; assumption; apply keeps_ite; apply keeps_ite; apply keeps_tellSource; apply keeps_loseCircuit
  assumption; apply keeps_State_count; assumption; apply keeps_ite; apply keeps_setCirState; assumption; apply keeps_State_count
  assumption

theorem keeps_moveCircuits {W : Part → Prop} [May W .regs] [May W .links] [May W .swc] {s0 : State} (l : Nat) (s : State) (hk0
    : Keeps W s0 s) : Keeps W s0 (moveCircuits l s) := by
  unfold moveCircuits; apply keeps_ite; assumption; apply keeps_forEach; intro _; intro _; intro _; dsimp only; apply keeps_ite
  apply keeps_ite; apply keeps_ite; apply keeps_headNotice; apply keeps_ite; apply keeps_ite; apply keeps_headNotice; assumption
  apply keeps_ite; apply keeps_sendNotice; assumption; assumption; assumption; apply keeps_ite; apply keeps_sendNotice; apply keeps_ite
  apply keeps_ite; apply keeps_headNotice; assumption; apply keeps_ite; apply keeps_sendNotice; assumption; assumption; assumption
  apply keeps_ite; apply keeps_ite; apply keeps_headNotice; assumption; apply keeps_ite; apply keeps_sendNotice; assumption; assumption
  assumption; apply keeps_ite; apply keeps_ite; apply keeps_headNotice; apply keeps_ite; apply keeps_ite; apply keeps_headNotice
  assumption; apply keeps_ite; apply keeps_sendNotice; assumption; assumption; assumption; apply keeps_ite; apply keeps_sendNotice
  apply keeps_ite; apply keeps_ite; apply keeps_headNotice; assumption; apply keeps_ite; apply keeps_sendNotice; assumption; assumption
  assumption; apply keeps_ite; apply keeps_ite; apply keeps_headNotice; assumption; apply keeps_ite; apply keeps_sendNotice; assumption
  assumption; assumption; apply keeps_ite; apply keeps_ite; apply keeps_headNotice; assumption; apply keeps_ite; apply keeps_sendNotice
  assumption; assumption; assumption; apply keeps_ite; apply keeps_ite; apply keeps_headNotice; assumption; apply keeps_ite
  apply keeps_sendNotice; assumption; assumption; assumption; assumption

theorem keeps_takeNotice {W : Part → Prop} [May W .regs] [May W .links] [May W .swc] {s0 : State} (ing : Nat) (payload : List Byte)
    (s : State) (hk0 : Keeps W s0 s) : Keeps W s0 (takeNotice ing payload s) := by
  unfold takeNotice; dsimp only; apply keeps_ite; assumption; apply keeps_ite; apply keeps_headNotice; assumption; apply keeps_ite
  apply keeps_sendNotice; assumption; assumption

theorem keeps_dropLoads {W : Part → Prop} [May W .swc] {s0 : State} (op : Nat) (s : State) (hk0 : Keeps W s0 s) : Keeps W s0
    (dropLoads op s) := by
  unfold dropLoads; dsimp only; apply keeps_forEach; intro _; intro _; intro _; apply keeps_State_modSwc; assumption
  apply keeps_State_modSwc; assumption

theorem keeps_clearStaged {W : Part → Prop} [May W .regs] {s0 : State} (s : State) (hk0 : Keeps W s0 s) : Keeps W s0 (clearStaged s) := by
  unfold clearStaged; with_reducible apply keeps_with_regs; assumption

theorem keeps_swapEntry {W : Part → Prop} [May W .regs] [May W .swc] {s0 : State} (c : Nat) (s : State) (hk0 : Keeps W s0 s)
    : Keeps W s0 (swapEntry c s) := by
  unfold swapEntry; dsimp only; apply keeps_ite; apply keeps_State_modSwc; apply keeps_State_setFld; apply keeps_setCirState
  apply keeps_State_setFld; apply keeps_forEach; intro _; intro _; intro _; apply keeps_State_setWord; apply keeps_State_setWord
  assumption; assumption; apply keeps_State_setFld; apply keeps_setCirState; apply keeps_State_setFld; apply keeps_forEach; intro _
  intro _; intro _; apply keeps_State_setWord; apply keeps_State_setWord; assumption; assumption

theorem keeps_swapLink {W : Part → Prop} [May W .regs] {s0 : State} (before : Nat → Nat) (l : Nat) (s : State) (hk0
    : Keeps W s0 s) : Keeps W s0 (swapLink before l s) := by
  unfold swapLink; dsimp only; apply keeps_ite; apply keeps_State_setWord; apply keeps_State_setWord; assumption
  apply keeps_State_raise; apply keeps_State_setWord; apply keeps_State_setWord; assumption

theorem keeps_planCommit {W : Part → Prop} [May W .regs] [May W .swc] {s0 : State} (planId : Nat) (digestOk : Bool) (s : State)
    (hk0 : Keeps W s0 s) : Keeps W s0 (planCommit planId digestOk s).2 := by
  unfold planCommit; split; dsimp only; apply keeps_State_setFld; apply keeps_State_setFld; assumption; dsimp only
  apply keeps_State_setFld; apply keeps_State_setFld; apply keeps_State_setFld; apply keeps_forEach; intro _; intro _; intro _
  apply keeps_swapLink; assumption; apply keeps_forEach; intro _; intro _; intro _; apply keeps_swapEntry; assumption; assumption

theorem keeps_graceFrame {W : Part → Prop} [May W .regs] [May W .links] [May W .swc] {s0 : State} (l : Nat) (q : QFrame) (s : State)
    (hk0 : Keeps W s0 s) : Keeps W s0 (graceFrame l q s) := by
  unfold graceFrame; apply keeps_ite; assumption; dsimp only; apply keeps_ite; apply keeps_releaseStored; apply keeps_discard
  apply keeps_State_modSwc; assumption; apply keeps_ite; apply keeps_releaseStored; apply keeps_discard; apply keeps_State_modSwc
  assumption; apply keeps_ite; apply keeps_ite; apply keeps_releaseStored; apply keeps_discard; apply keeps_State_modSwc; assumption
  apply keeps_ite; apply keeps_State_modSwc; apply keeps_State_modSwc; assumption; apply keeps_enqueue; apply keeps_noteSpray
  apply keeps_State_modSwc; assumption; apply keeps_ite; apply keeps_answerErr; apply keeps_releaseStored; apply keeps_discard
  apply keeps_State_modSwc; assumption; apply keeps_releaseStored; apply keeps_discard; apply keeps_State_modSwc; assumption

theorem keeps_rebindWaiting {W : Part → Prop} [May W .regs] [May W .links] [May W .swc] {s0 : State} (l : Nat) (s : State) (hk0
    : Keeps W s0 s) : Keeps W s0 (rebindWaiting l s) := by
  unfold rebindWaiting; apply keeps_forEach; intro _; intro _; intro _; apply keeps_graceFrame; assumption; assumption

theorem keeps_graceExpire {W : Part → Prop} [May W .regs] [May W .links] [May W .swc] {s0 : State} (l : Nat) (s : State) (hk0
    : Keeps W s0 s) : Keeps W s0 (graceExpire l s) := by
  unfold graceExpire; dsimp only; apply keeps_moveCircuits; apply keeps_forEach; intro _; intro _; intro _; apply keeps_graceFrame
  assumption; apply keeps_State_modLink; assumption

theorem keeps_startGrace {W : Part → Prop} [May W .regs] [May W .links] [May W .swc] {s0 : State} (l : Nat) (s : State) (hk0
    : Keeps W s0 s) : Keeps W s0 (startGrace l s) := by
  unfold startGrace; apply keeps_ite; assumption; apply keeps_ite; apply keeps_graceExpire; assumption; apply keeps_State_modLink
  assumption

theorem keeps_setLinkState {W : Part → Prop} [May W .regs] [May W .links] {s0 : State} (l st : Nat) (s : State) (hk0
    : Keeps W s0 s) : Keeps W s0 (setLinkState l st s) := by
  unfold setLinkState; apply keeps_State_modLink; apply keeps_State_setFld; assumption

theorem keeps_clearTrained {W : Part → Prop} [May W .regs] {s0 : State} (l : Nat) (s : State) (hk0 : Keeps W s0 s) : Keeps W s0
    (clearTrained l s) := by
  unfold clearTrained; apply keeps_State_setFld; apply keeps_State_setFld; apply keeps_State_setFld; assumption

theorem keeps_enterDown {W : Part → Prop} [May W .regs] [May W .links] [May W .swc] [May W .rhs] [May W .outbox] {s0 : State}
    (l st cause : Nat) (s : State) (hk0 : Keeps W s0 s) : Keeps W s0 (enterDown l st cause s) := by
  unfold enterDown; dsimp only; apply keeps_ite; apply keeps_startGrace; apply keeps_forEach; intro _; intro _; intro _
  apply keeps_releaseStored; assumption; apply keeps_State_modSwc; apply keeps_State_modLink; apply keeps_State_raise
  apply keeps_State_setFld; apply keeps_abandonLinkSlices; apply keeps_clearTrained; apply keeps_setLinkState; assumption
  apply keeps_forEach; intro _; intro _; intro _; apply keeps_releaseStored; assumption; apply keeps_State_modSwc
  apply keeps_State_modLink; apply keeps_State_raise; apply keeps_State_setFld; apply keeps_abandonLinkSlices; apply keeps_clearTrained
  apply keeps_setLinkState; assumption

theorem keeps_State_setSite {W : Part → Prop} [May W .sites] {s0 : State} (s : State) (st : Nat) (x : Site) (hk0 : Keeps W s0 s)
    : Keeps W s0 (State.setSite s st x) := by
  unfold State.setSite; with_reducible apply keeps_with_sites; assumption

theorem keeps_holdDown {W : Part → Prop} [May W .regs] [May W .links] [May W .swc] [May W .rhs] [May W .outbox] {s0 : State} (l : Nat)
    (s : State) (hk0 : Keeps W s0 s) : Keeps W s0 (holdDown l s) := by
  unfold holdDown; dsimp only; apply keeps_ite; assumption; apply keeps_enterDown; assumption

theorem keeps_startTraining {W : Part → Prop} [May W .regs] [May W .links] [May W .swc] [May W .rhs] [May W .outbox] {s0 : State}
    (l : Nat) (s : State) (hk0 : Keeps W s0 s) : Keeps W s0 (startTraining l s) := by
  unfold startTraining; apply keeps_ite; assumption; apply keeps_ite; apply keeps_State_modLink; apply keeps_setLinkState; assumption
  apply keeps_ite; apply keeps_setLinkState; assumption; apply keeps_holdDown; assumption

theorem keeps_freshTraining {W : Part → Prop} [May W .regs] [May W .links] [May W .swc] [May W .rhs] [May W .outbox] {s0 : State}
    (l : Nat) (s : State) (hk0 : Keeps W s0 s) : Keeps W s0 (freshTraining l s) := by
  unfold freshTraining; apply keeps_startTraining; apply keeps_State_modLink; assumption

theorem keeps_fullRetrain {W : Part → Prop} [May W .regs] [May W .links] [May W .swc] [May W .rhs] [May W .outbox] {s0 : State}
    (l : Nat) (s : State) (hk0 : Keeps W s0 s) : Keeps W s0 (fullRetrain l s) := by
  unfold fullRetrain; apply keeps_freshTraining; apply keeps_enterDown; assumption

theorem keeps_assignLanes {W : Part → Prop} [May W .regs] [May W .links] {s0 : State} (l : Nat) (lanes : List Nat) (s : State)
    (hk0 : Keeps W s0 s) : Keeps W s0 (assignLanes l lanes s) := by
  unfold assignLanes; dsimp only; apply keeps_State_setFld; apply keeps_State_modLink; apply keeps_State_setFld; apply keeps_forEach
  intro _; intro _; intro _; apply keeps_setLaneAt; assumption; assumption

theorem keeps_enterUp {W : Part → Prop} [May W .regs] [May W .links] [May W .swc] {s0 : State} (l rtt : Nat) (lanes : List Nat)
    (s : State) (hk0 : Keeps W s0 s) : Keeps W s0 (enterUp l rtt lanes s) := by
  unfold enterUp; dsimp only; apply keeps_ite; apply keeps_ite; apply keeps_State_setFld; apply keeps_rebindWaiting; apply keeps_forEach
  intro _; intro _; intro _; apply keeps_State_setFld; assumption; apply keeps_State_modLink; apply keeps_State_setFld
  apply keeps_State_setFld; apply keeps_State_setFld; apply keeps_assignLanes; apply keeps_setLinkState; assumption
  apply keeps_rebindWaiting; apply keeps_forEach; intro _; intro _; intro _; apply keeps_State_setFld; assumption
  apply keeps_State_modLink; apply keeps_State_setFld; apply keeps_State_setFld; apply keeps_State_setFld; apply keeps_assignLanes
  apply keeps_setLinkState; assumption; apply keeps_ite; apply keeps_moveCircuits; apply keeps_rebindWaiting; apply keeps_forEach
  intro _; intro _; intro _; apply keeps_State_setFld; assumption; apply keeps_State_modLink; apply keeps_State_setFld
  apply keeps_State_setFld; apply keeps_State_setFld; apply keeps_assignLanes; apply keeps_setLinkState; assumption
  apply keeps_rebindWaiting; apply keeps_forEach; intro _; intro _; intro _; apply keeps_State_setFld; assumption
  apply keeps_State_modLink; apply keeps_State_setFld; apply keeps_State_setFld; apply keeps_State_setFld; apply keeps_assignLanes
  apply keeps_setLinkState; assumption

theorem keeps_fastRetrain {W : Part → Prop} [May W .regs] [May W .links] [May W .swc] [May W .rhs] [May W .outbox] {s0 : State}
    (l : Nat) (s : State) (hk0 : Keeps W s0 s) : Keeps W s0 (fastRetrain l s) := by
  unfold fastRetrain; apply keeps_ite; assumption; dsimp only; apply keeps_ite; apply keeps_fullRetrain; apply keeps_State_modLink
  assumption; apply keeps_startGrace; apply keeps_abandonLinkSlices; apply keeps_State_setFld; apply keeps_setLinkState
  apply keeps_State_modLink; assumption

theorem keeps_laneFails {W : Part → Prop} [May W .regs] [May W .links] [May W .swc] [May W .rhs] [May W .outbox] {s0 : State}
    (l p : Nat) (s : State) (hk0 : Keeps W s0 s) : Keeps W s0 (laneFails l p s) := by
  unfold laneFails; dsimp only; apply keeps_ite; apply keeps_fastRetrain; apply keeps_State_modLink; apply keeps_State_modLink
  assumption; apply keeps_enterDown; apply keeps_State_modLink; assumption

theorem keeps_putFlit {W : Part → Prop} [May W .links] [May W .outbox] {s0 : State} (l : Nat) (payload : List Byte) (vc : Nat)
    (sof eof : Bool) (seq : Nat) (s : State) (hk0 : Keeps W s0 s) : Keeps W s0 (putFlit l payload vc sof eof seq s) := by
  unfold putFlit; dsimp only; apply keeps_State_modLink; apply keeps_forEach; intro _; intro _; intro _; apply keeps_emit
  apply keeps_State_modLink; assumption; apply keeps_forEach; intro _; intro _; intro _; apply keeps_ite; apply keeps_emit
  apply keeps_State_modLink; assumption; assumption; apply keeps_emit; apply keeps_State_modLink; assumption

theorem keeps_putNull {W : Part → Prop} [May W .regs] [May W .links] [May W .outbox] {s0 : State} (l : Nat) (s : State) (hk0
    : Keeps W s0 s) : Keeps W s0 (putNull l s) := by
  unfold putNull; apply keeps_pmcEvent; apply keeps_putFlit; assumption

theorem keeps_putSequenced {W : Part → Prop} [May W .regs] [May W .links] [May W .outbox] {s0 : State} (l : Nat) (payload : List Byte)
    (vc : Nat) (sof eof : Bool) (epoch : Nat) (s : State) (hk0 : Keeps W s0 s) : Keeps W s0
    (putSequenced l payload vc sof eof epoch s) := by
  unfold putSequenced; dsimp only; apply keeps_pmcEvent; apply keeps_State_modLink; apply keeps_putFlit; assumption

theorem keeps_putMessage {W : Part → Prop} [May W .regs] [May W .links] [May W .outbox] {s0 : State} (l : Nat) (m : LinkMsg) (s : State)
    (hk0 : Keeps W s0 s) : Keeps W s0 (putMessage l m s) := by
  unfold putMessage; apply keeps_putSequenced; assumption

theorem keeps_sayDown {W : Part → Prop} [May W .regs] [May W .links] [May W .outbox] {s0 : State} (l : Nat) (c : DownCause) (s : State)
    (hk0 : Keeps W s0 s) : Keeps W s0 (sayDown l c s) := by
  unfold sayDown; apply keeps_ite; apply keeps_putMessage; assumption; assumption

theorem keeps_sayRetrain {W : Part → Prop} [May W .regs] [May W .links] [May W .outbox] {s0 : State} (l : Nat) (s : State) (hk0
    : Keeps W s0 s) : Keeps W s0 (sayRetrain l s) := by
  unfold sayRetrain; apply keeps_ite; assumption; apply keeps_putMessage; assumption

theorem keeps_putTraining {W : Part → Prop} [May W .outbox] {s0 : State} (l : Nat) (s : State) (hk0 : Keeps W s0 s) : Keeps W s0
    (putTraining l s) := by
  unfold putTraining; apply keeps_forEach; intro _; intro _; intro _; apply keeps_emit; assumption; assumption

theorem keeps_putReplay {W : Part → Prop} [May W .regs] [May W .links] [May W .outbox] {s0 : State} (l seq : Nat) (s : State) (hk0
    : Keeps W s0 s) : Keeps W s0 (putReplay l seq s) := by
  unfold putReplay; split; apply keeps_putNull; apply keeps_State_modLink; assumption; dsimp only; apply keeps_State_modLink
  apply keeps_putFlit; assumption

theorem keeps_passedBack {W : Part → Prop} [May W .swc] {s0 : State} (l : Nat) (f : Frame) (s : State) (hk0 : Keeps W s0 s) : Keeps W s0
    (passedBack l f s) := by
  unfold passedBack; apply keeps_ite; apply keeps_retireEdgeReq; assumption; assumption

theorem keeps_sendCell {W : Part → Prop} [May W .regs] [May W .links] [May W .swc] [May W .outbox] {s0 : State} (l : Nat) (c : Cand)
    (s : State) (hk0 : Keeps W s0 s) : Keeps W s0 (sendCell l c s) := by
  unfold sendCell; dsimp only; apply keeps_ite; apply keeps_admitCircuits; apply keeps_ite; apply keeps_releaseStored
  apply keeps_State_modSwc; apply keeps_ite; apply keeps_passedBack; apply keeps_ite; apply keeps_returnCredit; apply keeps_putSequenced
  apply keeps_pmcEvent; apply keeps_State_setFld; apply keeps_ite; apply keeps_leavePending; apply keeps_ite; apply keeps_pmcEvent
  apply keeps_State_count; apply keeps_ite; apply keeps_spendTokens; assumption; assumption; apply keeps_ite; apply keeps_spendTokens
  assumption; assumption; apply keeps_ite; apply keeps_pmcEvent; apply keeps_State_count; apply keeps_ite; apply keeps_spendTokens
  assumption; assumption; apply keeps_ite; apply keeps_spendTokens; assumption; assumption; apply keeps_putSequenced
  apply keeps_pmcEvent; apply keeps_State_setFld; apply keeps_ite; apply keeps_leavePending; apply keeps_ite; apply keeps_pmcEvent
  apply keeps_State_count; apply keeps_ite; apply keeps_spendTokens; assumption; assumption; apply keeps_ite; apply keeps_spendTokens
  assumption; assumption; apply keeps_ite; apply keeps_pmcEvent; apply keeps_State_count; apply keeps_ite; apply keeps_spendTokens
  assumption; assumption; apply keeps_ite; apply keeps_spendTokens; assumption; assumption; apply keeps_ite; apply keeps_returnCredit
  apply keeps_putSequenced; apply keeps_pmcEvent; apply keeps_State_setFld; apply keeps_ite; apply keeps_leavePending; apply keeps_ite
  apply keeps_pmcEvent; apply keeps_State_count; apply keeps_ite; apply keeps_spendTokens; assumption; assumption; apply keeps_ite
  apply keeps_spendTokens; assumption; assumption; apply keeps_ite; apply keeps_pmcEvent; apply keeps_State_count; apply keeps_ite
  apply keeps_spendTokens; assumption; assumption; apply keeps_ite; apply keeps_spendTokens; assumption; assumption
  apply keeps_putSequenced; apply keeps_pmcEvent; apply keeps_State_setFld; apply keeps_ite; apply keeps_leavePending; apply keeps_ite
  apply keeps_pmcEvent; apply keeps_State_count; apply keeps_ite; apply keeps_spendTokens; assumption; assumption; apply keeps_ite
  apply keeps_spendTokens; assumption; assumption; apply keeps_ite; apply keeps_pmcEvent; apply keeps_State_count; apply keeps_ite
  apply keeps_spendTokens; assumption; assumption; apply keeps_ite; apply keeps_spendTokens; assumption; assumption
  apply keeps_State_modSwc; apply keeps_ite; apply keeps_passedBack; apply keeps_ite; apply keeps_returnCredit; apply keeps_putSequenced
  apply keeps_pmcEvent; apply keeps_State_setFld; apply keeps_ite; apply keeps_leavePending; apply keeps_ite; apply keeps_pmcEvent
  apply keeps_State_count; apply keeps_ite; apply keeps_spendTokens; assumption; assumption; apply keeps_ite; apply keeps_spendTokens
  assumption; assumption; apply keeps_ite; apply keeps_pmcEvent; apply keeps_State_count; apply keeps_ite; apply keeps_spendTokens
  assumption; assumption; apply keeps_ite; apply keeps_spendTokens; assumption; assumption; apply keeps_putSequenced
  apply keeps_pmcEvent; apply keeps_State_setFld; apply keeps_ite; apply keeps_leavePending; apply keeps_ite; apply keeps_pmcEvent
  apply keeps_State_count; apply keeps_ite; apply keeps_spendTokens; assumption; assumption; apply keeps_ite; apply keeps_spendTokens
  assumption; assumption; apply keeps_ite; apply keeps_pmcEvent; apply keeps_State_count; apply keeps_ite; apply keeps_spendTokens
  assumption; assumption; apply keeps_ite; apply keeps_spendTokens; assumption; assumption; apply keeps_ite; apply keeps_returnCredit
  apply keeps_putSequenced; apply keeps_pmcEvent; apply keeps_State_setFld; apply keeps_ite; apply keeps_leavePending; apply keeps_ite
  apply keeps_pmcEvent; apply keeps_State_count; apply keeps_ite; apply keeps_spendTokens; assumption; assumption; apply keeps_ite
  apply keeps_spendTokens; assumption; assumption; apply keeps_ite; apply keeps_pmcEvent; apply keeps_State_count; apply keeps_ite
  apply keeps_spendTokens; assumption; assumption; apply keeps_ite; apply keeps_spendTokens; assumption; assumption
  apply keeps_putSequenced; apply keeps_pmcEvent; apply keeps_State_setFld; apply keeps_ite; apply keeps_leavePending; apply keeps_ite
  apply keeps_pmcEvent; apply keeps_State_count; apply keeps_ite; apply keeps_spendTokens; assumption; assumption; apply keeps_ite
  apply keeps_spendTokens; assumption; assumption; apply keeps_ite; apply keeps_pmcEvent; apply keeps_State_count; apply keeps_ite
  apply keeps_spendTokens; assumption; assumption; apply keeps_ite; apply keeps_spendTokens; assumption; assumption; apply keeps_ite
  apply keeps_releaseStored; apply keeps_State_modSwc; apply keeps_ite; apply keeps_passedBack; apply keeps_ite
  apply keeps_returnCredit; apply keeps_putSequenced; apply keeps_pmcEvent; apply keeps_State_setFld; apply keeps_ite
  apply keeps_leavePending; apply keeps_ite; apply keeps_pmcEvent; apply keeps_State_count; apply keeps_ite; apply keeps_spendTokens
  assumption; assumption; apply keeps_ite; apply keeps_spendTokens; assumption; assumption; apply keeps_ite; apply keeps_pmcEvent
  apply keeps_State_count; apply keeps_ite; apply keeps_spendTokens; assumption; assumption; apply keeps_ite; apply keeps_spendTokens
  assumption; assumption; apply keeps_putSequenced; apply keeps_pmcEvent; apply keeps_State_setFld; apply keeps_ite
  apply keeps_leavePending; apply keeps_ite; apply keeps_pmcEvent; apply keeps_State_count; apply keeps_ite; apply keeps_spendTokens
  assumption; assumption; apply keeps_ite; apply keeps_spendTokens; assumption; assumption; apply keeps_ite; apply keeps_pmcEvent
  apply keeps_State_count; apply keeps_ite; apply keeps_spendTokens; assumption; assumption; apply keeps_ite; apply keeps_spendTokens
  assumption; assumption; apply keeps_ite; apply keeps_returnCredit; apply keeps_putSequenced; apply keeps_pmcEvent
  apply keeps_State_setFld; apply keeps_ite; apply keeps_leavePending; apply keeps_ite; apply keeps_pmcEvent; apply keeps_State_count
  apply keeps_ite; apply keeps_spendTokens; assumption; assumption; apply keeps_ite; apply keeps_spendTokens; assumption; assumption
  apply keeps_ite; apply keeps_pmcEvent; apply keeps_State_count; apply keeps_ite; apply keeps_spendTokens; assumption; assumption
  apply keeps_ite; apply keeps_spendTokens; assumption; assumption; apply keeps_putSequenced; apply keeps_pmcEvent
  apply keeps_State_setFld; apply keeps_ite; apply keeps_leavePending; apply keeps_ite; apply keeps_pmcEvent; apply keeps_State_count
  apply keeps_ite; apply keeps_spendTokens; assumption; assumption; apply keeps_ite; apply keeps_spendTokens; assumption; assumption
  apply keeps_ite; apply keeps_pmcEvent; apply keeps_State_count; apply keeps_ite; apply keeps_spendTokens; assumption; assumption
  apply keeps_ite; apply keeps_spendTokens; assumption; assumption; apply keeps_State_modSwc; apply keeps_ite; apply keeps_passedBack
  apply keeps_ite; apply keeps_returnCredit; apply keeps_putSequenced; apply keeps_pmcEvent; apply keeps_State_setFld; apply keeps_ite
  apply keeps_leavePending; apply keeps_ite; apply keeps_pmcEvent; apply keeps_State_count; apply keeps_ite; apply keeps_spendTokens
  assumption; assumption; apply keeps_ite; apply keeps_spendTokens; assumption; assumption; apply keeps_ite; apply keeps_pmcEvent
  apply keeps_State_count; apply keeps_ite; apply keeps_spendTokens; assumption; assumption; apply keeps_ite; apply keeps_spendTokens
  assumption; assumption; apply keeps_putSequenced; apply keeps_pmcEvent; apply keeps_State_setFld; apply keeps_ite
  apply keeps_leavePending; apply keeps_ite; apply keeps_pmcEvent; apply keeps_State_count; apply keeps_ite; apply keeps_spendTokens
  assumption; assumption; apply keeps_ite; apply keeps_spendTokens; assumption; assumption; apply keeps_ite; apply keeps_pmcEvent
  apply keeps_State_count; apply keeps_ite; apply keeps_spendTokens; assumption; assumption; apply keeps_ite; apply keeps_spendTokens
  assumption; assumption; apply keeps_ite; apply keeps_returnCredit; apply keeps_putSequenced; apply keeps_pmcEvent
  apply keeps_State_setFld; apply keeps_ite; apply keeps_leavePending; apply keeps_ite; apply keeps_pmcEvent; apply keeps_State_count
  apply keeps_ite; apply keeps_spendTokens; assumption; assumption; apply keeps_ite; apply keeps_spendTokens; assumption; assumption
  apply keeps_ite; apply keeps_pmcEvent; apply keeps_State_count; apply keeps_ite; apply keeps_spendTokens; assumption; assumption
  apply keeps_ite; apply keeps_spendTokens; assumption; assumption; apply keeps_putSequenced; apply keeps_pmcEvent
  apply keeps_State_setFld; apply keeps_ite; apply keeps_leavePending; apply keeps_ite; apply keeps_pmcEvent; apply keeps_State_count
  apply keeps_ite; apply keeps_spendTokens; assumption; assumption; apply keeps_ite; apply keeps_spendTokens; assumption; assumption
  apply keeps_ite; apply keeps_pmcEvent; apply keeps_State_count; apply keeps_ite; apply keeps_spendTokens; assumption; assumption
  apply keeps_ite; apply keeps_spendTokens; assumption; assumption

theorem keeps_noteAside {W : Part → Prop} [May W .links] {s0 : State} (l : Nat) (b : Bool) (s : State) (hk0 : Keeps W s0 s) : Keeps W s0
    (noteAside l b s) := by
  unfold noteAside; apply keeps_State_modLink; assumption

theorem keeps_purgeAged {W : Part → Prop} [May W .regs] [May W .links] [May W .swc] {s0 : State} (l : Nat) (s : State) (hk0
    : Keeps W s0 s) : Keeps W s0 (purgeAged l s) := by
  unfold purgeAged; dsimp only; apply keeps_forEach; intro _; intro _; intro _; apply keeps_ite; apply keeps_answerErr
  apply keeps_releaseStored; apply keeps_discard; apply keeps_State_modSwc; assumption; apply keeps_releaseStored; apply keeps_discard
  apply keeps_State_modSwc; assumption; assumption

theorem keeps_fillPosition {W : Part → Prop} [May W .regs] [May W .links] [May W .swc] [May W .outbox] {s0 : State} (l : Nat)
    (s : State) (hk0 : Keeps W s0 s) : Keeps W s0 (fillPosition l s) := by
  unfold fillPosition; dsimp only; split; apply keeps_noteAside; apply keeps_putReplay; apply keeps_purgeAged; assumption
  apply keeps_ite; apply keeps_noteAside; apply keeps_putNull; apply keeps_purgeAged; assumption; split; apply keeps_noteAside
  apply keeps_putMessage; apply keeps_State_modLink; apply keeps_purgeAged; assumption; split; apply keeps_ite; apply keeps_noteAside
  apply keeps_sendCell; apply keeps_purgeAged; assumption; unfold fillPosition.openTurn; dsimp only; split; apply keeps_noteAside
  apply keeps_sendCell; apply keeps_purgeAged; assumption; split; apply keeps_noteAside; apply keeps_putNull; apply keeps_purgeAged
  assumption; apply keeps_noteAside; apply keeps_sendCell; apply keeps_State_modLink; apply keeps_purgeAged; assumption; apply keeps_ite
  apply keeps_noteAside; apply keeps_sendCell; apply keeps_purgeAged; assumption; apply keeps_noteAside; apply keeps_sendCell
  apply keeps_purgeAged; assumption; apply keeps_noteAside; apply keeps_sendCell; apply keeps_purgeAged; assumption
  unfold fillPosition.openTurn; dsimp only; split; apply keeps_noteAside; apply keeps_putNull; apply keeps_purgeAged; assumption; split
  apply keeps_noteAside; apply keeps_putNull; apply keeps_purgeAged; assumption; apply keeps_noteAside; apply keeps_sendCell
  apply keeps_State_modLink; apply keeps_purgeAged; assumption

theorem keeps_takeAck {W : Part → Prop} [May W .links] {s0 : State} (l ack : Nat) (s : State) (hk0 : Keeps W s0 s) : Keeps W s0
    (takeAck l ack s) := by
  unfold takeAck; apply keeps_State_modLink; assumption

theorem keeps_takeReport {W : Part → Prop} [May W .regs] [May W .links] {s0 : State} (l vc total : Nat) (s : State) (hk0
    : Keeps W s0 s) : Keeps W s0 (takeReport l vc total s) := by
  unfold takeReport; apply keeps_ite; assumption; dsimp only; apply keeps_State_addFld; apply keeps_State_modLink; assumption

theorem keeps_takeNak {W : Part → Prop} [May W .regs] [May W .links] {s0 : State} (l ack : Nat) (s : State) (hk0 : Keeps W s0 s)
    : Keeps W s0 (takeNak l ack s) := by
  unfold takeNak; dsimp only; apply keeps_ite; apply keeps_pmcEvent; apply keeps_State_count; apply keeps_State_modLink
  apply keeps_State_modLink; assumption; apply keeps_State_modLink; assumption

theorem keeps_refuseFlit {W : Part → Prop} [May W .links] {s0 : State} (l : Nat) (s : State) (hk0 : Keeps W s0 s) : Keeps W s0
    (refuseFlit l s) := by
  unfold refuseFlit; apply keeps_State_modLink; assumption

theorem keeps_takeCell {W : Part → Prop} [May W .regs] [May W .links] [May W .swc] {s0 : State} (l vc : Nat) (sof eof : Bool)
    (payload : List Byte) (s : State) (hk0 : Keeps W s0 s) : Keeps W s0 (takeCell l vc sof eof payload s) := by
  unfold takeCell; dsimp only; apply keeps_ite; apply keeps_returnCredit; apply keeps_ite; apply keeps_State_modLink; apply keeps_ite
  apply keeps_State_modLink; assumption; assumption; apply keeps_ite; apply keeps_State_modLink; assumption; assumption; apply keeps_ite
  apply keeps_State_modLink; apply keeps_noteSharedFull; apply keeps_State_modLink; apply keeps_ite; apply keeps_returnCredit
  apply keeps_ite; apply keeps_State_modLink; assumption; assumption; apply keeps_ite; apply keeps_State_modLink; assumption; assumption
  apply keeps_ite; apply keeps_State_modLink; apply keeps_noteSharedFull; apply keeps_State_modLink; apply keeps_ite
  apply keeps_returnCredit; apply keeps_ite; apply keeps_State_modLink; assumption; assumption; apply keeps_ite
  apply keeps_State_modLink; assumption; assumption; apply keeps_noteSharedFull; apply keeps_State_modLink; apply keeps_ite
  apply keeps_returnCredit; apply keeps_ite; apply keeps_State_modLink; assumption; assumption; apply keeps_ite
  apply keeps_State_modLink; assumption; assumption

theorem keeps_takeControl {W : Part → Prop} [May W .regs] [May W .links] {s0 : State} (l : Nat) (c : FlitCtl) (s : State) (hk0
    : Keeps W s0 s) : Keeps W s0 (takeControl l c s) := by
  unfold takeControl; dsimp only; apply keeps_ite; apply keeps_takeNak; apply keeps_takeReport; apply keeps_takeAck; assumption
  apply keeps_takeReport; apply keeps_takeAck; assumption

theorem keeps_takeFlit {W : Part → Prop} [May W .regs] [May W .links] [May W .swc] {s0 : State} (l : Nat) (payload : List Byte)
    (c : FlitCtl) (s : State) (hk0 : Keeps W s0 s) : Keeps W s0 (takeFlit l payload c s) := by
  unfold takeFlit; apply keeps_ite; apply keeps_takeControl; assumption; apply keeps_ite; dsimp only; apply keeps_ite
  apply keeps_pmcEvent; apply keeps_State_modLink; apply keeps_takeControl; assumption; apply keeps_takeCell; apply keeps_pmcEvent
  apply keeps_State_modLink; apply keeps_takeControl; assumption; apply keeps_refuseFlit; assumption

theorem keeps_badCodeword {W : Part → Prop} [May W .regs] [May W .links] {s0 : State} (l p : Nat) (s : State) (hk0 : Keeps W s0 s)
    : Keeps W s0 (badCodeword l p s) := by
  unfold badCodeword; apply keeps_refuseFlit; apply keeps_State_count; apply keeps_State_satFld; assumption

theorem keeps_receiveCodeword {W : Part → Prop} [May W .regs] [May W .links] [May W .swc] {s0 : State} (l : Nat) (symbols : List Nat)
    (s : State) (hk0 : Keeps W s0 s) : Keeps W s0 (receiveCodeword l symbols s) := by
  unfold receiveCodeword; dsimp only; split; apply keeps_badCodeword; apply keeps_State_modLink; assumption; split
  apply keeps_badCodeword; apply keeps_State_addFld; apply keeps_State_satFld; apply keeps_State_modLink; assumption
  apply keeps_takeFlit; apply keeps_State_addFld; apply keeps_State_satFld; apply keeps_State_modLink; assumption

theorem keeps_completeSub {W : Part → Prop} [May W .regs] [May W .links] [May W .host] [May W .outbox] {s0 : State} (l : Nat)
    (u : LaneSub) (s : State) (hk0 : Keeps W s0 s) : Keeps W s0 (completeSub l u s) := by
  unfold completeSub; dsimp only; apply keeps_ite; apply keeps_swingLowAlert; apply keeps_State_setFld; apply keeps_State_modLink; split
  apply keeps_setLaneAt; assumption; assumption; apply keeps_State_setFld; apply keeps_State_modLink; split; apply keeps_setLaneAt
  assumption; assumption

theorem keeps_subComma {W : Part → Prop} [May W .regs] [May W .links] [May W .host] [May W .outbox] {s0 : State} (l : Nat) (s : State)
    (hk0 : Keeps W s0 s) : Keeps W s0 (subComma l s) := by
  unfold subComma; dsimp only; apply keeps_forEach; intro _; intro _; intro _; apply keeps_completeSub; assumption
  apply keeps_State_modLink; assumption

theorem keeps_State_setChan {W : Part → Prop} [May W .mem] {s0 : State} (s : State) (n : Nat) (c : Chan) (hk0 : Keeps W s0 s)
    : Keeps W s0 (State.setChan s n c) := by
  unfold State.setChan; apply keeps_State_modMem; exact byteStep_refl _; assumption

theorem keeps_placeFilter {W : Part → Prop} [May W .regs] {s0 : State} (s : State) (hk0 : Keeps W s0 s) : Keeps W s0 (placeFilter s) := by
  unfold placeFilter; split; apply keeps_State_setFld; assumption; apply keeps_State_setFld; assumption

theorem keeps_logUe {W : Part → Prop} [May W .regs] [May W .mem] {s0 : State} (c line off kind : Nat) (s : State) (hk0
    : Keeps W s0 s) : Keeps W s0 (logUe c line off kind s) := by
  unfold logUe; dsimp only; apply keeps_State_raise; apply keeps_State_count; apply keeps_State_setFld; apply keeps_State_setFld
  apply keeps_State_modMem; exact byteStep_refl _; assumption

theorem keeps_meetErrors {W : Part → Prop} [May W .regs] [May W .mem] {s0 : State} (c line off kind : Nat) (err : List Byte) (s : State)
    (hk0 : Keeps W s0 s) : Keeps W s0 (meetErrors c line off kind err s) := by
  unfold meetErrors; split; assumption; apply keeps_State_count; assumption; apply keeps_State_modMem; exact byteStep_refl _
  apply keeps_State_count; assumption; apply keeps_logUe; assumption

theorem keeps_lineBack {W : Part → Prop} [May W .mem] [May W .dram] {s0 : State} (c line : Nat) (data : List Byte) (s : State)
    (hk0 : Keeps W s0 s) : Keeps W s0 (lineBack c line data s) := by
  unfold lineBack; apply keeps_State_modMem; exact byteStep_of (Tab.wf_setRange _ _ _ _); assumption

theorem keeps_poolPoke {W : Part → Prop} [May W .mem] [May W .dram] {s0 : State} (k o : Nat) (bs : List Byte) (s : State) (hk0
    : Keeps W s0 s) : Keeps W s0 (poolPoke k o bs s) := by
  unfold poolPoke; dsimp only; apply keeps_State_modMem; exact byteStep_of (Tab.wf_foldl _ _ _ _ (fun _ _ ht => Tab.wf_set _ _ _ _ ht))
  assumption

theorem keeps_poolWrite {W : Part → Prop} [May W .regs] [May W .mem] [May W .dram] {s0 : State} (k o : Nat) (bs : List Byte) (s : State)
    (hk0 : Keeps W s0 s) : Keeps W s0 (poolWrite k o bs s) := by
  unfold poolWrite; apply keeps_forEach; intro _; intro _; intro _; dsimp only; apply keeps_ite; apply keeps_pmcEvent
  apply keeps_poolPoke; apply keeps_State_modMem; exact byteStep_refl _; assumption; apply keeps_ite; assumption; apply keeps_pmcEvent
  apply keeps_poolPoke; assumption; assumption

theorem keeps_filterEnter {W : Part → Prop} [May W .swc] {s0 : State} (src home seq : Nat) (result : Option (List Byte)) (s : State)
    (hk0 : Keeps W s0 s) : Keeps W s0 (filterEnter src home seq result s) := by
  unfold filterEnter; dsimp only; apply keeps_State_modSwc; assumption

theorem keeps_filtered {W : Part → Prop} [May W .regs] [May W .links] [May W .swc] {s0 : State} (f : Frame) (home : Nat)
    (act : State → State × Option (List Byte)) (s : State) (hf_act : ∀ x0, Keeps W s0 x0 → Keeps W s0 (act x0).1) (hk0
    : Keeps W s0 s) : Keeps W s0 (filtered f home act s) := by
  unfold filtered; dsimp only; apply keeps_ite; apply keeps_answerErr; assumption; split; split; apply keeps_answerData
  apply keeps_filterEnter; apply hf_act; assumption; apply keeps_answerAck; apply keeps_filterEnter; apply hf_act; assumption
  apply keeps_answerAck; apply keeps_State_count; assumption; apply keeps_answerData; apply keeps_State_count; assumption
  apply keeps_answerErr; apply keeps_State_count; assumption

theorem keeps_launchOwn {W : Part → Prop} [May W .regs] [May W .links] [May W .swc] {s0 : State} (why : Purpose)
    (wing dest ty addr op : Nat) (payload : List Byte) (s : State) (hk0 : Keeps W s0 s) : Keeps W s0
    (launchOwn why wing dest ty addr op payload s) := by
  unfold launchOwn; split; dsimp only; apply keeps_sendRequest; apply keeps_State_modSwc; apply keeps_of_pair; assumption
  apply keeps_takeSeq; assumption

theorem keeps_sendOwn {W : Part → Prop} [May W .regs] [May W .links] [May W .swc] {s0 : State} (why : Purpose)
    (wing dest ty addr op : Nat) (payload : List Byte) (s : State) (hk0 : Keeps W s0 s) : Keeps W s0
    (sendOwn why wing dest ty addr op payload s) := by
  unfold sendOwn; apply keeps_ite; apply keeps_State_modSwc; assumption; apply keeps_launchOwn; assumption

theorem keeps_sendWaiting {W : Part → Prop} [May W .regs] [May W .links] [May W .swc] {s0 : State} (dest : Nat) (s : State) (hk0
    : Keeps W s0 s) : Keeps W s0 (sendWaiting dest s) := by
  unfold sendWaiting; split; assumption; apply keeps_ite; assumption; apply keeps_launchOwn; apply keeps_State_modSwc; assumption

theorem keeps_sendBreak {W : Part → Prop} [May W .regs] [May W .links] [May W .swc] {s0 : State} (k : Nat) (s : State) (hk0
    : Keeps W s0 s) : Keeps W s0 (sendBreak k s) := by
  unfold sendBreak; dsimp only; apply keeps_sendOwn; assumption

theorem keeps_breakRegion {W : Part → Prop} [May W .regs] [May W .links] [May W .swc] [May W .mem] {s0 : State} (k : Nat) (s : State)
    (hk0 : Keeps W s0 s) : Keeps W s0 (breakRegion k s) := by
  unfold breakRegion; apply keeps_ite; assumption; dsimp only; apply keeps_sendBreak; apply keeps_State_modMem; exact byteStep_refl _
  apply keeps_State_raise; apply keeps_State_setFld; assumption

theorem keeps_sendMirror {W : Part → Prop} [May W .regs] [May W .links] [May W .swc] {s0 : State}
    (id region off origin seq flags op : Nat) (result data : List Byte) (s : State) (hk0 : Keeps W s0 s) : Keeps W s0
    (sendMirror id region off origin seq flags op result data s) := by
  unfold sendMirror; apply keeps_forEach; intro _; intro _; intro _; dsimp only; apply keeps_sendOwn; assumption; assumption

theorem keeps_holdWrite {W : Part → Prop} [May W .regs] [May W .links] [May W .swc] [May W .mem] {s0 : State} (regions : List Nat)
    (asker : Asker) (off : Nat) (data result : List Byte) (origin seq flags op : Nat) (s : State) (hk0 : Keeps W s0 s) : Keeps W s0
    (holdWrite regions asker off data result origin seq flags op s) := by
  unfold holdWrite; dsimp only; apply keeps_forEach; intro _; intro _; intro _; apply keeps_sendMirror; assumption
  apply keeps_State_modMem; exact byteStep_refl _; assumption

theorem keeps_answerPool {W : Part → Prop} [May W .regs] [May W .links] [May W .swc] {s0 : State} (f : Frame) (code : Nat) (s : State)
    (hk0 : Keeps W s0 s) : Keeps W s0 (answerPool f code s) := by
  unfold answerPool; apply keeps_answerErr; apply keeps_ite; apply keeps_State_count; assumption; assumption

theorem keeps_readLine {W : Part → Prop} [May W .regs] [May W .mem] {s0 : State} (k o kind : Nat) (err : List Byte) (s : State)
    (hk0 : Keeps W s0 s) : Keeps W s0 (readLine k o kind err s) := by
  unfold readLine; dsimp only; apply keeps_ite; apply keeps_logUe; apply keeps_pmcEvent; assumption; apply keeps_meetErrors
  apply keeps_pmcEvent; assumption

theorem keeps_refreshLine {W : Part → Prop} [May W .regs] [May W .mem] [May W .dram] {s0 : State} (k o kind : Nat) (err : List Byte)
    (s : State) (hk0 : Keeps W s0 s) : Keeps W s0 (refreshLine k o kind err s) := by
  unfold refreshLine; dsimp only; apply keeps_ite; apply keeps_readLine; assumption; apply keeps_lineBack; apply keeps_readLine
  assumption

theorem keeps_readLines {W : Part → Prop} [May W .regs] [May W .mem] {s0 : State} (k o n kind : Nat) (errs : List (Nat × List Byte))
    (s : State) (hk0 : Keeps W s0 s) : Keeps W s0 (readLines k o n kind errs s) := by
  unfold readLines; apply keeps_forEach; intro _; intro _; intro _; apply keeps_readLine; assumption; assumption

theorem keeps_refreshLines {W : Part → Prop} [May W .regs] [May W .mem] [May W .dram] {s0 : State} (k o n kind : Nat) (errs : List
    (Nat × List Byte)) (s : State) (hk0 : Keeps W s0 s) : Keeps W s0 (refreshLines k o n kind errs s) := by
  unfold refreshLines; apply keeps_forEach; intro _; intro _; intro _; apply keeps_refreshLine; assumption; assumption

theorem keeps_readPartial {W : Part → Prop} [May W .regs] [May W .mem] [May W .dram] {s0 : State} (k o n : Nat) (errs : List
    (Nat × List Byte)) (s : State) (hk0 : Keeps W s0 s) : Keeps W s0 (readPartial k o n errs s) := by
  unfold readPartial; apply keeps_forEach; intro _; intro _; intro _; apply keeps_ite; assumption; apply keeps_refreshLine; assumption
  assumption

theorem keeps_applyWrite {W : Part → Prop} [May W .regs] [May W .links] [May W .swc] [May W .mem] [May W .dram] {s0 : State} (f : Frame)
    (k o : Nat) (win : Option Nat) (s : State) (hk0 : Keeps W s0 s) : Keeps W s0 (applyWrite f k o win s) := by
  unfold applyWrite; split; apply keeps_filtered; intro _; intro _; dsimp only; apply keeps_poolWrite; assumption; assumption
  apply keeps_ite; apply keeps_holdWrite; assumption; apply keeps_filtered; intro _; intro _; dsimp only; assumption; assumption

theorem keeps_writeAround {W : Part → Prop} [May W .regs] [May W .links] [May W .swc] [May W .mem] [May W .dram] {s0 : State}
    (f : Frame) (k o : Nat) (win : Option Nat) (s : State) (hk0 : Keeps W s0 s) : Keeps W s0 (writeAround f k o win s) := by
  unfold writeAround; dsimp only; apply keeps_answerErr; apply keeps_forEach; intro _; intro _; intro _; apply keeps_ite; assumption
  split; apply keeps_poolWrite; assumption; apply keeps_holdWrite; assumption; assumption

theorem keeps_applyAtom {W : Part → Prop} [May W .regs] [May W .links] [May W .swc] [May W .mem] [May W .dram] {s0 : State} (f : Frame)
    (k o : Nat) (win : Option Nat) (s : State) (hk0 : Keeps W s0 s) : Keeps W s0 (applyAtom f k o win s) := by
  unfold applyAtom; dsimp only; split; apply keeps_filtered; intro _; intro _; dsimp only; apply keeps_poolWrite; assumption; assumption
  apply keeps_ite; apply keeps_holdWrite; assumption; apply keeps_filtered; intro _; intro _; dsimp only; assumption; assumption

theorem keeps_servePool {W : Part → Prop} [May W .regs] [May W .links] [May W .swc] [May W .mem] [May W .dram] {s0 : State} (f : Frame)
    (errs : List (Nat × List Byte)) (s : State) (hk0 : Keeps W s0 s) : Keeps W s0 (servePool f errs s) := by
  unfold servePool; split; apply keeps_answerPool; assumption; dsimp only; apply keeps_ite; apply keeps_ite; apply keeps_answerErr
  apply keeps_readLines; assumption; apply keeps_answerData; apply keeps_readLines; assumption; apply keeps_ite; apply keeps_ite
  apply keeps_filtered; intro _; intro _; dsimp only; assumption; assumption; apply keeps_ite; apply keeps_writeAround
  apply keeps_readPartial; assumption; apply keeps_applyWrite; apply keeps_readPartial; assumption; apply keeps_ite
  apply keeps_answerErr; apply keeps_refreshLines; assumption; apply keeps_applyAtom; apply keeps_refreshLines; assumption

theorem keeps_serveMirror {W : Part → Prop} [May W .regs] [May W .links] [May W .swc] [May W .mem] [May W .dram] {s0 : State}
    (f : Frame) (s : State) (hk0 : Keeps W s0 s) : Keeps W s0 (serveMirror f s) := by
  unfold serveMirror; split; apply keeps_answerPool; assumption; apply keeps_filtered; intro _; intro _; dsimp only; assumption
  assumption; dsimp only; apply keeps_ite; apply keeps_answerErr; apply keeps_poolWrite; apply keeps_readPartial; assumption
  apply keeps_filtered; intro _; intro _; dsimp only; apply keeps_ite; apply keeps_filterEnter; apply keeps_ite
  apply keeps_State_setFld; apply keeps_ite; apply keeps_State_setFld; apply keeps_poolWrite; assumption; apply keeps_poolWrite
  assumption; apply keeps_ite; apply keeps_State_setFld; apply keeps_poolWrite; assumption; apply keeps_poolWrite; assumption
  apply keeps_ite; apply keeps_State_setFld; apply keeps_ite; apply keeps_State_setFld; apply keeps_poolWrite; assumption
  apply keeps_poolWrite; assumption; apply keeps_ite; apply keeps_State_setFld; apply keeps_poolWrite; assumption; apply keeps_poolWrite
  assumption; apply keeps_readPartial; assumption

theorem keeps_dropInbox {W : Part → Prop} [May W .swc] {s0 : State} (h : InFrame) (s : State) (hk0 : Keeps W s0 s) : Keeps W s0
    (dropInbox h s) := by
  unfold dropInbox; apply keeps_State_modSwc; assumption

theorem keeps_wakeChans {W : Part → Prop} [May W .waking] {s0 : State} (cs : List Nat) (s : State) (hk0 : Keeps W s0 s) : Keeps W s0
    (wakeChans cs s) := by
  unfold wakeChans; apply keeps_forEach; intro _; intro _; intro _; split; apply keeps_wakeUnit; assumption; assumption; assumption

theorem keeps_stopPhySlices {W : Part → Prop} [May W .regs] [May W .links] [May W .rhs] [May W .outbox] {s0 : State} (cs : List Nat)
    (s : State) (hk0 : Keeps W s0 s) : Keeps W s0 (stopPhySlices cs s) := by
  unfold stopPhySlices; apply keeps_forEach; intro _; intro _; intro _; apply keeps_abandonDdrSlices; assumption; assumption

theorem keeps_mirrorAnswered {W : Part → Prop} [May W .regs] [May W .links] [May W .swc] [May W .mem] {s0 : State} (why : Purpose)
    (ok : Bool) (s : State) (hk0 : Keeps W s0 s) : Keeps W s0 (mirrorAnswered why ok s) := by
  unfold mirrorAnswered; split; apply keeps_State_modMem; exact byteStep_refl _; assumption; apply keeps_ite; apply keeps_breakRegion
  assumption; apply keeps_State_modMem; exact byteStep_refl _; assumption; assumption

theorem keeps_answerHold {W : Part → Prop} [May W .regs] [May W .links] [May W .swc] [May W .outbox] {s0 : State} (h : MirrorHold)
    (ok : Bool) (s : State) (hk0 : Keeps W s0 s) : Keeps W s0 (answerHold h ok s) := by
  unfold answerHold; split; apply keeps_ite; apply keeps_answerPool; assumption; apply keeps_ite; apply keeps_answerAck; assumption
  apply keeps_answerData; assumption; apply keeps_emit; apply keeps_ite; assumption; apply keeps_State_raise; assumption; assumption

theorem keeps_finishHold {W : Part → Prop} [May W .regs] [May W .links] [May W .swc] [May W .mem] [May W .dram] [May W .outbox]
    {s0 : State} (h : MirrorHold) (s : State) (hk0 : Keeps W s0 s) : Keeps W s0 (finishHold h s) := by
  unfold finishHold; dsimp only; apply keeps_ite; apply keeps_answerHold; apply keeps_forEach; intro _; intro _; intro _
  apply keeps_breakRegion; assumption; apply keeps_State_modMem; exact byteStep_refl _; assumption; split; apply keeps_answerHold
  apply keeps_State_modMem; exact byteStep_refl _; assumption; apply keeps_answerHold; split; apply keeps_filterEnter
  apply keeps_poolWrite; apply keeps_State_modMem; exact byteStep_refl _; assumption; apply keeps_poolWrite; apply keeps_State_modMem
  exact byteStep_refl _; assumption

theorem keeps_syncStep {W : Part → Prop} [May W .regs] [May W .links] [May W .swc] [May W .mem] [May W .waking] {s0 : State} (y : Sync)
    (s : State) (hk0 : Keeps W s0 s) : Keeps W s0 (syncStep y s) := by
  unfold syncStep; dsimp only; apply keeps_ite; assumption; apply keeps_ite; apply keeps_sendOwn; apply keeps_State_modMem
  exact byteStep_refl _; apply keeps_State_setFld; assumption; split; assumption; apply keeps_ite; assumption; apply keeps_ite
  apply keeps_wakeChans; assumption; apply keeps_sendOwn; apply keeps_State_modMem; exact byteStep_refl _; apply keeps_State_setFld
  assumption

theorem keeps_startAttempt {W : Part → Prop} [May W .regs] [May W .mem] {s0 : State} (n rate : Nat) (s : State) (hk0
    : Keeps W s0 s) : Keeps W s0 (startAttempt n rate s) := by
  unfold startAttempt; dsimp only; apply keeps_State_setFld; apply keeps_State_setChan; assumption

theorem keeps_failChannel {W : Part → Prop} [May W .regs] [May W .mem] {s0 : State} (n cause : Nat) (s : State) (hk0
    : Keeps W s0 s) : Keeps W s0 (failChannel n cause s) := by
  unfold failChannel; dsimp only; apply keeps_ite; apply keeps_State_raise; apply keeps_State_setFld; apply keeps_State_setFld
  apply keeps_State_setFld; apply keeps_State_setChan; assumption; apply keeps_State_setFld; apply keeps_State_setFld
  apply keeps_State_setChan; assumption

theorem keeps_showDimm {W : Part → Prop} [May W .regs] {s0 : State} (n : Nat) (d : Spd) (s : State) (hk0 : Keeps W s0 s) : Keeps W s0
    (showDimm n d s) := by
  unfold showDimm; apply keeps_State_setFld; apply keeps_State_setFld; apply keeps_State_setFld; assumption

theorem keeps_settleOpen {W : Part → Prop} [May W .regs] {s0 : State} (s : State) (hk0 : Keeps W s0 s) : Keeps W s0 (settleOpen s) := by
  unfold settleOpen; apply keeps_ite; apply keeps_State_raise; assumption; assumption

theorem keeps_startScrub {W : Part → Prop} [May W .mem] {s0 : State} (cs : List Nat) (s : State) (hk0 : Keeps W s0 s) : Keeps W s0
    (startScrub cs s) := by
  unfold startScrub; apply keeps_forEach; intro _; intro _; intro _; apply keeps_State_modMem; exact byteStep_refl _; assumption
  assumption

theorem keeps_installSet {W : Part → Prop} [May W .regs] [May W .mem] {s0 : State} (k mask base : Nat) (keep : Bool) (s : State)
    (hk0 : Keeps W s0 s) : Keeps W s0 (installSet k mask base keep s) := by
  unfold installSet; dsimp only; apply keeps_ite; apply keeps_startScrub; apply keeps_placeFilter; apply keeps_State_setFld
  apply keeps_State_raise; apply keeps_State_setFld; apply keeps_State_setFld; apply keeps_State_setFld; apply keeps_State_setFld
  assumption; apply keeps_State_setFld; apply keeps_State_raise; apply keeps_State_setFld; apply keeps_State_setFld
  apply keeps_State_setFld; apply keeps_State_setFld; assumption

theorem keeps_zeroSet {W : Part → Prop} [May W .mem] [May W .dram] {s0 : State} (k : Nat) (s : State) (hk0 : Keeps W s0 s) : Keeps W s0
    (zeroSet k s) := by
  unfold zeroSet; dsimp only; apply keeps_State_modMem; exact byteStep_of (Tab.wf_filter _ _ _); assumption

theorem keeps_defaultSet {W : Part → Prop} [May W .regs] [May W .mem] {s0 : State} (p : State × Nat) (w : Nat) (hk0 : Keeps W s0 p.1) : Keeps W s0 (defaultSet p w).1 := by
  unfold defaultSet
  dsimp only; split; assumption; dsimp only; apply keeps_installSet; assumption
theorem keeps_defaultSets {W : Part → Prop} [May W .regs] [May W .mem] {s0 : State} (s : State) (hk0 : Keeps W s0 s) : Keeps W s0 (defaultSets s) := by
  simp only [defaultSets, List.foldl]
  refine keeps_defaultSet _ _ ?_
  refine keeps_defaultSet _ _ ?_
  refine keeps_defaultSet _ _ ?_
  refine keeps_defaultSet _ _ ?_
  exact hk0

theorem keeps_bringUpSets {W : Part → Prop} [May W .regs] [May W .mem] {s0 : State} (s : State) (hk0 : Keeps W s0 s) : Keeps W s0
    (bringUpSets s) := by
  unfold bringUpSets; apply keeps_ite; apply keeps_defaultSets; assumption; apply keeps_forEach; intro _; intro _; intro _
  apply keeps_ite; assumption; apply keeps_installSet; assumption; assumption

theorem keeps_restoreSets {W : Part → Prop} [May W .regs] [May W .mem] {s0 : State} (s : State) (hk0 : Keeps W s0 s) : Keeps W s0
    (restoreSets s) := by
  unfold restoreSets; apply keeps_forEach; intro _; intro _; intro _; dsimp only; apply keeps_ite; apply keeps_installSet; assumption
  apply keeps_ite; apply keeps_State_raise; assumption; apply keeps_State_raise; apply keeps_installSet; assumption; assumption

theorem keeps_settleFilter {W : Part → Prop} [May W .regs] [May W .swc] {s0 : State} (s : State) (hk0 : Keeps W s0 s) : Keeps W s0
    (settleFilter s) := by
  unfold settleFilter; dsimp only; apply keeps_ite; assumption; apply keeps_State_raise; apply keeps_State_modSwc; assumption

theorem keeps_settleChannels {W : Part → Prop} [May W .regs] [May W .swc] [May W .mem] {s0 : State} (s : State) (hk0
    : Keeps W s0 s) : Keeps W s0 (settleChannels s) := by
  unfold settleChannels; apply keeps_ite; apply keeps_ite; apply keeps_settleOpen; assumption; dsimp only; apply keeps_settleOpen
  apply keeps_State_modMem; exact byteStep_refl _; apply keeps_settleFilter; apply keeps_ite; apply keeps_restoreSets; assumption
  apply keeps_bringUpSets; assumption; assumption

theorem keeps_strikeDone {W : Part → Prop} [May W .regs] [May W .house] [May W .links] [May W .mem] [May W .rhs] [May W .outbox]
    {s0 : State} (c : Nat) (s : State) (hk0 : Keeps W s0 s) : Keeps W s0 (strikeDone c s) := by
  unfold strikeDone; dsimp only; apply keeps_State_raise; apply keeps_State_setFld; apply keeps_abandonDdrSlices
  with_reducible apply keeps_with_house; apply keeps_State_setFld; apply keeps_State_setFld; apply keeps_State_modMem
  exact byteStep_refl _; assumption

theorem keeps_settleStrike {W : Part → Prop} [May W .regs] [May W .house] [May W .links] [May W .mem] [May W .rhs] [May W .outbox]
    {s0 : State} (s : State) (hk0 : Keeps W s0 s) : Keeps W s0 (settleStrike s) := by
  unfold settleStrike; apply keeps_ite; assumption; apply keeps_forEach; intro _; intro _; intro _; apply keeps_ite
  apply keeps_strikeDone; assumption; assumption; assumption

theorem keeps_channelFails {W : Part → Prop} [May W .regs] [May W .links] [May W .swc] [May W .mem] [May W .rhs] [May W .outbox]
    {s0 : State} (c cause : Nat) (s : State) (hk0 : Keeps W s0 s) : Keeps W s0 (channelFails c cause s) := by
  unfold channelFails; dsimp only; split; apply keeps_settleOpen; apply keeps_abandonDdrSlices; apply keeps_State_setChan
  apply keeps_State_modMem; exact byteStep_refl _; apply keeps_State_raise; apply keeps_State_setFld; apply keeps_State_setFld
  assumption; apply keeps_settleOpen; apply keeps_ite; apply keeps_State_raise; apply keeps_State_modSwc; apply keeps_placeFilter
  apply keeps_forEach; intro _; intro _; intro _; apply keeps_ite; apply keeps_breakRegion; assumption; assumption
  apply keeps_State_setFld; apply keeps_abandonDdrSlices; apply keeps_State_setChan; apply keeps_State_modMem; exact byteStep_refl _
  apply keeps_State_raise; apply keeps_State_setFld; apply keeps_State_setFld; assumption; apply keeps_forEach; intro _; intro _
  intro _; apply keeps_ite; apply keeps_breakRegion; assumption; assumption; apply keeps_State_setFld; apply keeps_abandonDdrSlices
  apply keeps_State_setChan; apply keeps_State_modMem; exact byteStep_refl _; apply keeps_State_raise; apply keeps_State_setFld
  apply keeps_State_setFld; assumption

theorem keeps_returnSet {W : Part → Prop} [May W .regs] [May W .mem] {s0 : State} (c : Nat) (s : State) (hk0 : Keeps W s0 s)
    : Keeps W s0 (returnSet c s) := by
  unfold returnSet; split; assumption; dsimp only; apply keeps_ite; apply keeps_State_raise; apply keeps_State_setFld; assumption
  apply keeps_State_modMem; exact byteStep_refl _; apply keeps_State_setFld; apply keeps_State_setFld; assumption

theorem keeps_hostFails {W : Part → Prop} [May W .outbox] {s0 : State} (write : Bool) (o : Nat) (s : State) (hk0 : Keeps W s0 s)
    : Keeps W s0 (hostFails write o s) := by
  unfold hostFails; apply keeps_ite; apply keeps_emit; assumption; apply keeps_emit; assumption

theorem keeps_wakeSpan {W : Part → Prop} [May W .waking] {s0 : State} (o n : Nat) (s : State) (hk0 : Keeps W s0 s) : Keeps W s0
    (wakeSpan o n s) := by
  unfold wakeSpan; apply keeps_forEach; intro _; intro _; intro _; apply keeps_wakeUnit; assumption; assumption

theorem keeps_spPoke {W : Part → Prop} [May W .ten] [May W .sp] {s0 : State} (o : Nat) (bs : List Byte) (s : State) (hk0
    : Keeps W s0 s) : Keeps W s0 (spPoke o bs s) := by
  unfold spPoke; apply keeps_State_modTen; exact byteStep_of (Tab.wf_setRange _ _ _ _); assumption

theorem keeps_logBadWord {W : Part → Prop} [May W .regs] {s0 : State} (w : Nat) (s : State) (hk0 : Keeps W s0 s) : Keeps W s0
    (logBadWord w s) := by
  unfold logBadWord; apply keeps_State_raise; apply keeps_State_count; apply keeps_State_setFld; apply keeps_State_setFld; assumption

theorem keeps_spWrite {W : Part → Prop} [May W .ten] [May W .sp] {s0 : State} (o : Nat) (bs : List Byte) (s : State) (hk0
    : Keeps W s0 s) : Keeps W s0 (spWrite o bs s) := by
  unfold spWrite; apply keeps_forEach; intro _; intro _; intro _; dsimp only; apply keeps_ite; apply keeps_spPoke
  apply keeps_State_modTen; exact byteStep_refl _; assumption; apply keeps_ite; assumption; apply keeps_spPoke; assumption; assumption

theorem keeps_loseWord {W : Part → Prop} [May W .ten] {s0 : State} (w : Nat) (s : State) (hk0 : Keeps W s0 s) : Keeps W s0
    (loseWord w s) := by
  unfold loseWord; apply keeps_State_modTen; exact byteStep_refl _; assumption

theorem keeps_openSpan {W : Part → Prop} [May W .ten] [May W .sp] {s0 : State} (lo hi : Nat) (s : State) (hk0 : Keeps W s0 s)
    : Keeps W s0 (openSpan lo hi s) := by
  unfold openSpan; dsimp only; apply keeps_spPoke; apply keeps_takeFrees; assumption

theorem keeps_veiled {W : Part → Prop} [May W .ten] [May W .sp] {s0 : State} (own : Option Nat) (s : State) (hk0 : Keeps W s0 s)
    : Keeps W s0 (veiled own s) := by
  unfold veiled; apply keeps_forEach; intro _; intro _; intro _; apply keeps_openSpan; assumption; assumption

theorem keeps_readFrom {W : Part → Prop} {s0 : State} (v s : State) (hk0 : Keeps W s0 v) (hk0 : Keeps W s0 s) : Keeps W s0
    (readFrom v s) := by
  unfold readFrom; apply keeps_takeFrees; assumption

theorem keeps_meetWord {W : Part → Prop} [May W .regs] [May W .ten] {s0 : State} (w : Nat) (err : List Byte) (s : State) (hk0
    : Keeps W s0 s) : Keeps W s0 (meetWord w err s) := by
  unfold meetWord; apply keeps_ite; assumption; dsimp only; split; apply keeps_State_modTen; exact byteStep_refl _
  apply keeps_State_count; assumption; apply keeps_logBadWord; apply keeps_loseWord; assumption

theorem keeps_countRowReads {W : Part → Prop} [May W .regs] {s0 : State} (es : List (Nat × Nat)) (s : State) (hk0 : Keeps W s0 s)
    : Keeps W s0 (countRowReads es s) := by
  unfold countRowReads; apply keeps_forEach; intro _; intro _; intro _; dsimp only; apply keeps_ite; assumption; apply keeps_pmcEvent
  assumption; assumption

theorem keeps_readWords {W : Part → Prop} [May W .regs] [May W .ten] {s0 : State} (o n : Nat) (errs : List (Nat × List Byte))
    (s : State) (hk0 : Keeps W s0 s) : Keeps W s0 (readWords o n errs s) := by
  unfold readWords; apply keeps_forEach; intro _; intro _; intro _; apply keeps_ite; apply keeps_logBadWord; assumption
  apply keeps_meetWord; assumption; assumption

theorem keeps_refreshWing {W : Part → Prop} [May W .regs] {s0 : State} (w : Nat) (s : State) (hk0 : Keeps W s0 s) : Keeps W s0
    (refreshWing w s) := by
  unfold refreshWing; dsimp only; apply keeps_State_setFld; apply keeps_State_setFld; apply keeps_State_setFld; apply keeps_State_setFld
  apply keeps_State_setFld; apply keeps_State_setFld; assumption

theorem keeps_refreshSpace {W : Part → Prop} [May W .regs] {s0 : State} (s : State) (hk0 : Keeps W s0 s) : Keeps W s0 (refreshSpace s) := by
  unfold refreshSpace; apply keeps_forEach; intro _; intro _; intro _; apply keeps_refreshWing; assumption; assumption

theorem keeps_place {W : Part → Prop} [May W .ten] {s0 : State} (owner : Owner) (base size : Nat) (s : State) (hk0 : Keeps W s0 s)
    : Keeps W s0 (place owner base size s) := by
  unfold place; apply keeps_ite; assumption; apply keeps_State_modTen; exact byteStep_refl _; assumption

theorem keeps_retirePending {W : Part → Prop} [May W .ten] {s0 : State} (s : State) (hk0 : Keeps W s0 s) : Keeps W s0
    (retirePending s) := by
  unfold retirePending; dsimp only; apply keeps_State_modTen; exact byteStep_refl _; assumption

theorem keeps_release {W : Part → Prop} [May W .regs] [May W .ten] {s0 : State} (owner : Owner) (s : State) (hk0 : Keeps W s0 s)
    : Keeps W s0 (release owner s) := by
  unfold release; dsimp only; apply keeps_refreshSpace; apply keeps_retirePending; apply keeps_State_modTen; exact byteStep_refl _
  assumption

theorem keeps_zeroRange {W : Part → Prop} [May W .ten] [May W .sp] {s0 : State} (base size : Nat) (s : State) (hk0 : Keeps W s0 s)
    : Keeps W s0 (zeroRange base size s) := by
  unfold zeroRange; apply keeps_State_modTen; exact byteStep_of (Tab.wf_filter _ _ _); assumption

theorem keeps_retireRegion {W : Part → Prop} [May W .regs] [May W .ten] {s0 : State} (row : Nat) (s : State) (hk0 : Keeps W s0 s)
    : Keeps W s0 (retireRegion row s) := by
  unfold retireRegion; dsimp only; apply keeps_refreshSpace; apply keeps_ite; apply keeps_State_modTen; exact byteStep_refl _
  apply keeps_logRepair; apply keeps_State_raise; assumption; apply keeps_State_modTen; exact byteStep_refl _; apply keeps_logRepair
  apply keeps_State_raise; assumption

theorem keeps_swingRow {W : Part → Prop} [May W .regs] [May W .ten] [May W .host] [May W .outbox] {s0 : State} (row : Nat) (s : State)
    (hk0 : Keeps W s0 s) : Keeps W s0 (swingRow row s) := by
  unfold swingRow; dsimp only; apply keeps_ite; apply keeps_ite; apply keeps_swingLowAlert; apply keeps_recordFailure
  apply keeps_State_raise; apply keeps_State_addFld; apply keeps_State_setFld; apply keeps_State_modTen; exact byteStep_refl _
  apply keeps_State_modTen; exact byteStep_refl _; assumption; apply keeps_recordFailure; apply keeps_State_raise
  apply keeps_State_addFld; apply keeps_State_setFld; apply keeps_State_modTen; exact byteStep_refl _; apply keeps_State_modTen
  exact byteStep_refl _; assumption; apply keeps_ite; apply keeps_State_modTen; exact byteStep_refl _; assumption
  apply keeps_retireRegion; apply keeps_State_modTen; exact byteStep_refl _; assumption

theorem keeps_readPartWords {W : Part → Prop} [May W .regs] [May W .ten] {s0 : State} (o n : Nat) (errs : List (Nat × List Byte))
    (s : State) (hk0 : Keeps W s0 s) : Keeps W s0 (readPartWords o n errs s) := by
  unfold readPartWords; apply keeps_forEach; intro _; intro _; intro _; apply keeps_ite; assumption; apply keeps_ite
  apply keeps_logBadWord; assumption; apply keeps_meetWord; assumption; assumption

theorem keeps_serveScratch {W : Part → Prop} [May W .regs] [May W .links] [May W .swc] [May W .ten] [May W .sp] {s0 : State} (f : Frame)
    (errs : List (Nat × List Byte)) (s : State) (hk0 : Keeps W s0 s) : Keeps W s0 (serveScratch f errs s) := by
  unfold serveScratch; dsimp only; apply keeps_ite; apply keeps_answerErr; assumption; apply keeps_ite; apply keeps_ite
  apply keeps_answerErr; apply keeps_countRowReads; apply keeps_readWords; assumption; apply keeps_answerData; apply keeps_readFrom
  apply keeps_veiled; apply keeps_countRowReads; apply keeps_readWords; assumption; apply keeps_countRowReads; apply keeps_readWords
  assumption; apply keeps_ite; apply keeps_answerErr; apply keeps_spWrite; apply keeps_readPartWords; assumption; apply keeps_filtered
  intro _; intro _; dsimp only; apply keeps_spWrite; assumption; apply keeps_readPartWords; assumption

theorem keeps_storeRow {W : Part → Prop} [May W .ten] [May W .sp] {s0 : State} (d : Desc) (r : Nat) (p : List Byte × List Byte)
    (s : State) (hk0 : Keeps W s0 s) : Keeps W s0 (storeRow d r p s) := by
  unfold storeRow; dsimp only; apply keeps_ite; apply keeps_spWrite; assumption; apply keeps_spWrite; apply keeps_spWrite; assumption

theorem keeps_countSats {W : Part → Prop} [May W .regs] {s0 : State} (v : State) (o : Oper) (s : State) (hk0 : Keeps W s0 v) (hk0
    : Keeps W s0 s) : Keeps W s0 (countSats v o s) := by
  unfold countSats; dsimp only; apply keeps_ite; assumption; apply keeps_State_raise; apply keeps_State_addFld; assumption

theorem keeps_writeGate {W : Part → Prop} [May W .ten] [May W .sp] {s0 : State} (v : State) (o : Oper) (s : State) (hk0 : Keeps W s0 v)
    (hk0 : Keeps W s0 s) : Keeps W s0 (writeGate v o s) := by
  unfold writeGate; dsimp only; apply keeps_forEach; intro _; intro _; intro _; apply keeps_spWrite; apply keeps_storeRow; assumption
  assumption

theorem keeps_writeResult {W : Part → Prop} [May W .ten] [May W .sp] {s0 : State} (v : State) (o : Oper) (s : State) (hk0
    : Keeps W s0 v) (hk0 : Keeps W s0 s) : Keeps W s0 (writeResult v o s) := by
  unfold writeResult; apply keeps_ite; apply keeps_writeGate; assumption; assumption; dsimp only; apply keeps_forEach; intro _; intro _
  intro _; split; assumption; apply keeps_ite; apply keeps_storeRow; apply keeps_storeRow; assumption; apply keeps_storeRow; assumption
  assumption

theorem keeps_bumpGen {W : Part → Prop} [May W .regs] {s0 : State} (s : State) (hk0 : Keeps W s0 s) : Keeps W s0 (bumpGen s) := by
  unfold bumpGen; apply keeps_State_addFld; assumption

theorem keeps_mapTile {W : Part → Prop} [May W .regs] {s0 : State} (l p : Nat) (s : State) (hk0 : Keeps W s0 s) : Keeps W s0
    (mapTile l p s) := by
  unfold mapTile; apply keeps_State_setFld; apply keeps_State_setFld; apply keeps_State_setFld; assumption

theorem keeps_moveTile {W : Part → Prop} [May W .regs] {s0 : State} (l p : Nat) (s : State) (hk0 : Keeps W s0 s) : Keeps W s0
    (moveTile l p s) := by
  unfold moveTile; apply keeps_State_setFld; apply keeps_State_setFld; assumption

theorem keeps_repackWing {W : Part → Prop} [May W .regs] {s0 : State} (w : Nat) (s : State) (hk0 : Keeps W s0 s) : Keeps W s0
    (repackWing w s) := by
  unfold repackWing; dsimp only; apply keeps_State_setFld; apply keeps_forEach; intro _; intro _; intro _; split; apply keeps_moveTile
  assumption; apply keeps_State_setFld; assumption; assumption

theorem keeps_retireTile {W : Part → Prop} [May W .regs] {s0 : State} (p : Nat) (s : State) (hk0 : Keeps W s0 s) : Keeps W s0
    (retireTile p s) := by
  unfold retireTile; dsimp only; apply keeps_bumpGen; apply keeps_State_raise; apply keeps_ite; apply keeps_repackWing
  apply keeps_State_setFld; apply keeps_State_setFld; apply keeps_State_setFld; assumption; apply keeps_State_setFld
  apply keeps_State_setFld; assumption

theorem keeps_swingTile {W : Part → Prop} [May W .regs] [May W .waking] {s0 : State} (p : Nat) (s : State) (hk0 : Keeps W s0 s)
    : Keeps W s0 (swingTile p s) := by
  unfold swingTile; dsimp only; split; apply keeps_retireTile; assumption; apply keeps_bumpGen; apply keeps_State_raise; apply keeps_ite
  apply keeps_wakeUnit; apply keeps_State_raise; apply keeps_State_setFld; apply keeps_mapTile; apply keeps_State_setFld
  apply keeps_State_setFld; assumption; apply keeps_State_setFld; apply keeps_State_setFld; assumption

theorem keeps_noteReloads {W : Part → Prop} [May W .regs] [May W .ten] {s0 : State} (tiles : List Nat) (s : State) (hk0
    : Keeps W s0 s) : Keeps W s0 (noteReloads tiles s) := by
  unfold noteReloads; apply keeps_forEach; intro _; intro _; intro _; apply keeps_State_modTen; exact byteStep_refl _
  apply keeps_State_count; assumption; assumption

theorem keeps_State_setCtr {W : Part → Prop} [May W .cue] {s0 : State} (s : State) (c : Nat) (x : Ctr) (hk0 : Keeps W s0 s) : Keeps W s0
    (State.setCtr s c x) := by
  unfold State.setCtr; apply keeps_State_modCue; exact byteStep_refl _; assumption

theorem keeps_State_modCtr {W : Part → Prop} [May W .cue] {s0 : State} (s : State) (c : Nat) (f : Ctr → Ctr) (hk0 : Keeps W s0 s)
    : Keeps W s0 (State.modCtr s c f) := by
  unfold State.modCtr; apply keeps_State_setCtr; assumption

theorem keeps_bindCtr {W : Part → Prop} [May W .cue] {s0 : State} (c n : Nat) (s : State) (hk0 : Keeps W s0 s) : Keeps W s0
    (bindCtr c n s) := by
  unfold bindCtr; dsimp only; apply keeps_State_modCtr; apply keeps_ite; apply keeps_State_modCue; exact byteStep_refl _; assumption
  assumption

theorem keeps_addResult {W : Part → Prop} [May W .cue] {s0 : State} (c id : Nat) (e : Nat × Nat) (s : State) (hk0 : Keeps W s0 s)
    : Keeps W s0 (addResult c id e s) := by
  unfold addResult; apply keeps_State_modCue; exact byteStep_refl _; assumption

theorem keeps_State_setProg {W : Part → Prop} [May W .cue] {s0 : State} (s : State) (n : Nat) (p : Option Prog) (hk0
    : Keeps W s0 s) : Keeps W s0 (State.setProg s n p) := by
  unfold State.setProg; apply keeps_State_modCue; exact byteStep_refl _; assumption

theorem keeps_storeWrite {W : Part → Prop} [May W .cue] [May W .store] {s0 : State} (o : Nat) (bs : List Byte) (s : State) (hk0
    : Keeps W s0 s) : Keeps W s0 (storeWrite o bs s) := by
  unfold storeWrite; dsimp only; apply keeps_State_modCue
  (refine byteStep_of (Tab.wf_foldl _ _ _ _ (fun _ _ ht => ?_)); split <;> first | assumption | exact Tab.wf_set _ _ _ _ ht); assumption

theorem keeps_writeShort {W : Part → Prop} [May W .regs] {s0 : State} (o : Nat) (s : State) (hk0 : Keeps W s0 s) : Keeps W s0
    (writeShort o s) := by
  unfold writeShort; apply keeps_forEach; intro _; intro _; intro _; apply keeps_State_setFld; apply keeps_State_setFld; assumption
  assumption

theorem keeps_startTimer {W : Part → Prop} [May W .cue] {s0 : State} (t : Nat) (s : State) (hk0 : Keeps W s0 s) : Keeps W s0
    (startTimer t s) := by
  unfold startTimer; dsimp only; apply keeps_State_modCue; exact byteStep_refl _; assumption

theorem keeps_installTrig {W : Part → Prop} [May W .regs] [May W .cue] {s0 : State} (n t r : Nat) (s : State) (hk0 : Keeps W s0 s)
    : Keeps W s0 (installTrig n t r s) := by
  unfold installTrig; dsimp only; apply keeps_startTimer; apply keeps_State_setWord; apply keeps_State_setWord; assumption

theorem keeps_installTrigs {W : Part → Prop} [May W .regs] [May W .cue] {s0 : State} (n o : Nat) (s : State) (hk0 : Keeps W s0 s)
    : Keeps W s0 (installTrigs n o s) := by
  unfold installTrigs; apply keeps_forEach; intro _; intro _; intro _; apply keeps_installTrig; assumption; assumption

theorem keeps_installImage {W : Part → Prop} [May W .regs] [May W .ten] [May W .cue] {s0 : State} (o : Nat) (s : State) (hk0
    : Keeps W s0 s) : Keeps W s0 (installImage o s) := by
  unfold installImage; dsimp only; apply keeps_refreshSpace; apply keeps_State_modCue; exact byteStep_refl _; apply keeps_State_setFld
  apply keeps_State_setFld; apply keeps_forEach; intro _; intro _; intro _; apply keeps_place; apply keeps_State_setFld; assumption
  apply keeps_State_setProg; assumption

theorem keeps_State_setCtx {W : Part → Prop} [May W .cue] {s0 : State} (s : State) (q : Nat) (c : Option Ctx) (hk0 : Keeps W s0 s)
    : Keeps W s0 (State.setCtx s q c) := by
  unfold State.setCtx; apply keeps_State_modCue; exact byteStep_refl _; assumption

theorem keeps_unloadProg {W : Part → Prop} [May W .regs] [May W .ten] [May W .cue] {s0 : State} (n : Nat) (s : State) (hk0
    : Keeps W s0 s) : Keeps W s0 (unloadProg n s) := by
  unfold unloadProg; dsimp only; apply keeps_bumpGen; apply keeps_State_setFld; apply keeps_State_setFld; apply keeps_release
  apply keeps_State_setFld; apply keeps_State_setProg; apply keeps_forEach; intro _; intro _; intro _; apply keeps_State_setFld
  assumption; apply keeps_forEach; intro _; intro _; intro _; apply keeps_State_modCue; exact byteStep_refl _; apply keeps_State_setWord
  apply keeps_State_setWord; assumption; assumption

theorem keeps_sendToSleep {W : Part → Prop} [May W .regs] [May W .cue] [May W .spState] {s0 : State} (u : UnitId) (st : Nat) (s : State)
    (hk0 : Keeps W s0 s) : Keeps W s0 (sendToSleep u st s) := by
  unfold sendToSleep; apply keeps_State_modCue; exact byteStep_refl _; apply keeps_setUnit; assumption

theorem keeps_quarantine {W : Part → Prop} [May W .regs] {s0 : State} (u : UnitId) (s : State) (hk0 : Keeps W s0 s) : Keeps W s0
    (quarantine u s) := by
  unfold quarantine; dsimp only; split; apply keeps_State_setFld; split; apply keeps_State_raise; assumption; assumption; split
  apply keeps_State_raise; assumption; assumption

theorem keeps_wokeFromDark {W : Part → Prop} [May W .regs] {s0 : State} (u : UnitId) (s : State) (hk0 : Keeps W s0 s) : Keeps W s0
    (wokeFromDark u s) := by
  unfold wokeFromDark; split; assumption; dsimp only; apply keeps_ite; apply keeps_quarantine; apply keeps_pmcEvent; assumption
  apply keeps_pmcEvent; assumption

theorem keeps_lightWing {W : Part → Prop} [May W .regs] [May W .spState] [May W .waking] {s0 : State} (u : UnitId) (s : State)
    (hk0 : Keeps W s0 s) : Keeps W s0 (lightWing u s) := by
  unfold lightWing; split; apply keeps_lightScratch; assumption; apply keeps_lightScratch; assumption; assumption

theorem keeps_unitWakes {W : Part → Prop} [May W .regs] [May W .spState] [May W .waking] {s0 : State} (u : UnitId) (s : State)
    (hk0 : Keeps W s0 s) : Keeps W s0 (unitWakes u s) := by
  unfold unitWakes; dsimp only; apply keeps_ite; apply keeps_wokeFromDark; apply keeps_lightWing; with_reducible apply keeps_with_waking
  apply keeps_setUnit; assumption; with_reducible apply keeps_with_waking; apply keeps_setUnit; assumption

theorem keeps_startContext {W : Part → Prop} [May W .regs] [May W .cue] {s0 : State} (q t : Nat) (s : State) (hk0 : Keeps W s0 s)
    : Keeps W s0 (startContext q t s) := by
  unfold startContext; dsimp only; apply keeps_State_setFld; apply keeps_State_setFld; apply keeps_State_setFld
  apply keeps_State_setFld; apply keeps_State_setCtx; apply keeps_State_setFld; assumption

theorem keeps_takePending {W : Part → Prop} [May W .regs] [May W .cue] [May W .waking] {s0 : State} (q : Nat) (s : State) (hk0
    : Keeps W s0 s) : Keeps W s0 (takePending q s) := by
  unfold takePending; split; assumption; apply keeps_ite; assumption; apply keeps_ite; apply keeps_startContext; assumption
  apply keeps_forEach; intro _; intro _; intro _; apply keeps_wakeUnit; assumption; assumption

theorem keeps_dropCtx {W : Part → Prop} [May W .regs] [May W .ten] [May W .cue] [May W .waking] {s0 : State} (q : Nat) (s : State)
    (hk0 : Keeps W s0 s) : Keeps W s0 (dropCtx q s) := by
  unfold dropCtx; dsimp only; apply keeps_takePending; apply keeps_State_setFld; apply keeps_State_setCtx; apply keeps_State_modTen
  exact byteStep_refl _; assumption

theorem keeps_seqFaults {W : Part → Prop} [May W .regs] [May W .ten] [May W .cue] [May W .waking] {s0 : State} (q code : Nat)
    (s : State) (hk0 : Keeps W s0 s) : Keeps W s0 (seqFaults q code s) := by
  unfold seqFaults; dsimp only; apply keeps_ite; apply keeps_dropCtx; apply keeps_State_raise; apply keeps_State_setFld; assumption
  split; apply keeps_State_setFld; apply keeps_State_setCtx; apply keeps_State_raise; apply keeps_State_setFld; assumption
  apply keeps_State_raise; apply keeps_State_setFld; assumption

theorem keeps_countStale {W : Part → Prop} [May W .regs] {s0 : State} (code : Nat) (s : State) (hk0 : Keeps W s0 s) : Keeps W s0
    (countStale code s) := by
  unfold countStale; apply keeps_ite; apply keeps_State_count; assumption; assumption

theorem keeps_resume {W : Part → Prop} [May W .regs] [May W .cue] {s0 : State} (q : Nat) (s : State) (hk0 : Keeps W s0 s) : Keeps W s0
    (resume q s) := by
  unfold resume; split; apply keeps_State_setFld; apply keeps_State_setCtx; assumption; assumption

theorem keeps_advance {W : Part → Prop} [May W .regs] [May W .ten] [May W .cue] [May W .waking] {s0 : State} (q : Nat) (s : State)
    (hk0 : Keeps W s0 s) : Keeps W s0 (advance q s) := by
  unfold advance; dsimp only; apply keeps_ite; apply keeps_seqFaults; apply keeps_resume; assumption; apply keeps_pmcEvent
  apply keeps_State_setFld; apply keeps_resume; assumption

theorem keeps_branchTo {W : Part → Prop} [May W .regs] [May W .ten] [May W .cue] [May W .waking] {s0 : State} (q target : Nat)
    (s : State) (hk0 : Keeps W s0 s) : Keeps W s0 (branchTo q target s) := by
  unfold branchTo; apply keeps_ite; apply keeps_seqFaults; assumption; apply keeps_pmcEvent; apply keeps_State_setFld
  apply keeps_resume; assumption

theorem keeps_stallAt {W : Part → Prop} [May W .regs] [May W .cue] {s0 : State} (q step : Nat) (s : State) (hk0 : Keeps W s0 s)
    : Keeps W s0 (stallAt q step s) := by
  unfold stallAt; split; apply keeps_State_setFld; apply keeps_State_setCtx; assumption; assumption

theorem keeps_State_modCtx {W : Part → Prop} [May W .cue] {s0 : State} (s : State) (q : Nat) (f : Ctx → Ctx) (hk0 : Keeps W s0 s)
    : Keeps W s0 (State.modCtx s q f) := by
  unfold State.modCtx; split; apply keeps_State_setCtx; assumption; assumption

theorem keeps_runInsn {W : Part → Prop} [May W .regs] [May W .ten] [May W .cue] [May W .waking] {s0 : State} (q : Nat) (is : Nat → Bool)
    (sem : Nat → State → State) (s : State) (hf_sem : ∀ x0 x1, Keeps W s0 x1 → Keeps W s0 (sem x0 x1)) (hk0 : Keeps W s0 s) : Keeps W s0
    (runInsn q is sem s) := by
  unfold runInsn; apply keeps_ite; assumption; dsimp only; apply keeps_ite; apply keeps_seqFaults; assumption; apply keeps_ite
  assumption; apply keeps_ite; apply hf_sem; assumption; apply keeps_advance; assumption

theorem keeps_fireTrig {W : Part → Prop} [May W .regs] [May W .cue] [May W .waking] {s0 : State} (t s1 : Nat) (s : State) (hk0
    : Keeps W s0 s) : Keeps W s0 (fireTrig t s1 s) := by
  unfold fireTrig; apply keeps_ite; apply keeps_State_raise; apply keeps_State_count; assumption; dsimp only; apply keeps_takePending
  apply keeps_forEach; intro _; intro _; intro _; apply keeps_wakeUnit; assumption; apply keeps_State_count; apply keeps_ite
  apply keeps_State_count; apply keeps_State_modCue; exact byteStep_refl _; assumption; apply keeps_State_raise
  apply keeps_State_modCue; exact byteStep_refl _; assumption

theorem keeps_ringDoorbell {W : Part → Prop} [May W .regs] [May W .cue] [May W .waking] {s0 : State} (b arg : Nat) (s : State)
    (hk0 : Keeps W s0 s) : Keeps W s0 (ringDoorbell b arg s) := by
  unfold ringDoorbell; apply keeps_forEach; intro _; intro _; intro _; apply keeps_fireTrig; assumption; assumption

theorem keeps_refuse {W : Part → Prop} [May W .regs] [May W .ten] [May W .cue] [May W .waking] {s0 : State} (q c code : Nat) (s : State)
    (hk0 : Keeps W s0 s) : Keeps W s0 (refuse q c code s) := by
  unfold refuse; apply keeps_ite; apply keeps_advance; apply keeps_countStale; apply keeps_State_modCtr; apply keeps_bindCtr; assumption
  apply keeps_State_modCtx; apply keeps_stallAt; assumption

theorem keeps_judged {W : Part → Prop} [May W .regs] [May W .ten] [May W .cue] [May W .waking] {s0 : State} (c : Nat)
    (judge : Nat → Nat → State → State) (q w : Nat) (s : State) (hf_judge : ∀ x0 x1 x2, Keeps W s0 x2 → Keeps W s0 (judge x0 x1 x2))
    (hk0 : Keeps W s0 s) : Keeps W s0 (judged c judge q w s) := by
  unfold judged; apply keeps_ite; apply hf_judge; assumption; apply keeps_refuse; assumption

theorem keeps_waitSlot {W : Part → Prop} [May W .regs] [May W .cue] {s0 : State} (q : Nat) (s : State) (hk0 : Keeps W s0 s) : Keeps W s0
    (waitSlot q s) := by
  unfold waitSlot; apply keeps_stallAt; assumption

theorem keeps_countSlotWaits {W : Part → Prop} [May W .regs] {s0 : State} (s : State) (hk0 : Keeps W s0 s) : Keeps W s0
    (countSlotWaits s) := by
  unfold countSlotWaits; apply keeps_State_addFld; assumption

theorem keeps_openFetched {W : Part → Prop} [May W .ten] [May W .sp] {s0 : State} (x : Xfer) (s : State) (hk0 : Keeps W s0 s)
    : Keeps W s0 (openFetched x s) := by
  unfold openFetched; apply keeps_ite; assumption; apply keeps_openSpan; assumption

theorem keeps_failXfer {W : Part → Prop} [May W .ten] [May W .sp] [May W .cue] {s0 : State} (x : Xfer) (err : Nat) (s : State)
    (hk0 : Keeps W s0 s) : Keeps W s0 (failXfer x err s) := by
  unfold failXfer; dsimp only; apply keeps_State_modCtr; apply keeps_State_modCue; exact byteStep_refl _; apply keeps_openFetched
  assumption

theorem keeps_stopXfer {W : Part → Prop} [May W .cue] {s0 : State} (x : Xfer) (err : Nat) (s : State) (hk0 : Keeps W s0 s) : Keeps W s0
    (stopXfer x err s) := by
  unfold stopXfer; apply keeps_State_modCtr; apply keeps_State_modCue; exact byteStep_refl _; assumption

theorem keeps_sendPiece {W : Part → Prop} [May W .regs] [May W .links] [May W .swc] [May W .ten] [May W .sp] [May W .cue]
    [May W .waking] {s0 : State} (x : Xfer) (s : State) (hk0 : Keeps W s0 s) : Keeps W s0 (sendPiece x s) := by
  unfold sendPiece; apply keeps_ite; assumption; apply keeps_ite; apply keeps_wakeSpan; assumption; dsimp only; split; apply keeps_ite
  apply keeps_failXfer; apply keeps_logBadWord; assumption; apply keeps_stopXfer; apply keeps_logBadWord; assumption; apply keeps_ite
  apply keeps_sendOwn; apply keeps_countRowReads; apply keeps_readFrom; apply keeps_veiled; apply keeps_State_modCue
  exact byteStep_refl _; assumption; apply keeps_State_modCue; exact byteStep_refl _; assumption; apply keeps_sendOwn
  apply keeps_State_modCue; exact byteStep_refl _; assumption

theorem keeps_sendPieces {W : Part → Prop} [May W .regs] [May W .links] [May W .swc] [May W .ten] [May W .sp] [May W .cue] [May W .waking] {s0 : State} (id n : Nat) (s : State) (hk0 : Keeps W s0 s) : Keeps W s0 (sendPieces id n s) := by
  induction n generalizing s with
  | zero => exact hk0
  | succ k ih =>
    unfold sendPieces
    split
    · exact ih _ (keeps_sendPiece _ _ hk0)
    · exact hk0

theorem keeps_sendXfers {W : Part → Prop} [May W .regs] [May W .links] [May W .swc] [May W .ten] [May W .sp] [May W .cue]
    [May W .waking] {s0 : State} (s : State) (hk0 : Keeps W s0 s) : Keeps W s0 (sendXfers s) := by
  unfold sendXfers; apply keeps_forEach; intro _; intro _; intro _; apply keeps_sendPieces; assumption; assumption

theorem keeps_settleXfer {W : Part → Prop} [May W .regs] [May W .links] [May W .swc] [May W .ten] [May W .sp] [May W .cue]
    [May W .waking] {s0 : State} (id : Nat) (s : State) (hk0 : Keeps W s0 s) : Keeps W s0 (settleXfer id s) := by
  unfold settleXfer; split; assumption; apply keeps_ite; apply keeps_ite; apply keeps_failXfer; assumption; assumption; apply keeps_ite
  apply keeps_State_modCtr; apply keeps_State_modCue; exact byteStep_refl _; apply keeps_ite; assumption; apply keeps_openFetched
  assumption; apply keeps_sendPieces; assumption

theorem keeps_landPiece {W : Part → Prop} [May W .regs] [May W .ten] [May W .sp] {s0 : State} (x : Xfer) (piece : Nat)
    (data : List Byte) (s : State) (hk0 : Keeps W s0 s) : Keeps W s0 (landPiece x piece data s).2 := by
  unfold landPiece; dsimp only; split; dsimp only; apply keeps_spWrite; apply keeps_logBadWord; assumption; dsimp only
  apply keeps_spWrite; assumption

theorem keeps_pieceAnswered {W : Part → Prop} [May W .regs] [May W .links] [May W .swc] [May W .ten] [May W .sp] [May W .cue]
    [May W .waking] {s0 : State} (id piece : Nat) (data : List Byte) (err : Nat) (s : State) (hk0 : Keeps W s0 s) : Keeps W s0
    (pieceAnswered id piece data err s) := by
  unfold pieceAnswered; split; assumption; dsimp only; apply keeps_settleXfer; apply keeps_ite; apply keeps_State_modCtr
  apply keeps_State_modCue; exact byteStep_refl _; split; dsimp only; assumption; apply keeps_landPiece; assumption
  apply keeps_stopXfer; apply keeps_State_modCue; exact byteStep_refl _; split; dsimp only; assumption; apply keeps_landPiece
  assumption

theorem keeps_settleSigs {W : Part → Prop} [May W .cue] {s0 : State} (flight : Nat) (s : State) (hk0 : Keeps W s0 s) : Keeps W s0
    (settleSigs flight s) := by
  unfold settleSigs; dsimp only; apply keeps_forEach; intro _; intro _; intro _; apply keeps_State_modCtr; assumption
  apply keeps_State_modCue; exact byteStep_refl _; assumption

theorem keeps_serveStatus {W : Part → Prop} [May W .regs] [May W .links] [May W .swc] {s0 : State} (f : Frame) (s : State) (hk0
    : Keeps W s0 s) : Keeps W s0 (serveStatus f s) := by
  unfold serveStatus; dsimp only; apply keeps_ite; apply keeps_answerErr; assumption; apply keeps_answerData; assumption

theorem keeps_serveStore {W : Part → Prop} [May W .regs] [May W .links] [May W .swc] [May W .cue] [May W .store] {s0 : State}
    (f : Frame) (s : State) (hk0 : Keeps W s0 s) : Keeps W s0 (serveStore f s) := by
  unfold serveStore; dsimp only; apply keeps_ite; apply keeps_ite; apply keeps_answerErr; assumption; apply keeps_answerData; assumption
  apply keeps_ite; apply keeps_answerErr; assumption; apply keeps_filtered; intro _; intro _; dsimp only; apply keeps_storeWrite
  assumption; assumption

theorem keeps_State_modCol {W : Part → Prop} [May W .col] {s0 : State} (s : State) (f : Col → Col) (hk0 : Keeps W s0 s) : Keeps W s0
    (State.modCol s f) := by
  unfold State.modCol; with_reducible apply keeps_with_col; assumption

theorem keeps_State_setGrp {W : Part → Prop} [May W .col] {s0 : State} (s : State) (g : Nat) (x : Grp) (hk0 : Keeps W s0 s) : Keeps W s0
    (State.setGrp s g x) := by
  unfold State.setGrp; apply keeps_State_modCol; assumption

theorem keeps_State_modGrp {W : Part → Prop} [May W .col] {s0 : State} (s : State) (g : Nat) (f : Grp → Grp) (hk0 : Keeps W s0 s)
    : Keeps W s0 (State.modGrp s g f) := by
  unfold State.modGrp; apply keeps_State_setGrp; assumption

theorem keeps_putEntry {W : Part → Prop} [May W .regs] {s0 : State} (g : Nat) (ws : Nat → Word) (s : State) (hk0 : Keeps W s0 s)
    : Keeps W s0 (putEntry g ws s) := by
  unfold putEntry; apply keeps_forEach; intro _; intro _; intro _; apply keeps_State_setWord; assumption; assumption

theorem keeps_forgetArrivals {W : Part → Prop} [May W .cue] {s0 : State} (g : Nat) (s : State) (hk0 : Keeps W s0 s) : Keeps W s0
    (forgetArrivals g s) := by
  unfold forgetArrivals; apply keeps_forEach; intro _; intro _; intro _; apply keeps_State_modCue; exact byteStep_refl _; assumption
  assumption

theorem keeps_clearGroup {W : Part → Prop} [May W .cue] [May W .col] {s0 : State} (g : Nat) (s : State) (hk0 : Keeps W s0 s)
    : Keeps W s0 (clearGroup g s) := by
  unfold clearGroup; apply keeps_State_modCol; apply keeps_State_setGrp; apply keeps_forgetArrivals; assumption

theorem keeps_dropPlacing {W : Part → Prop} [May W .regs] [May W .ten] [May W .col] {s0 : State} (p : Placing) (s : State) (hk0
    : Keeps W s0 s) : Keeps W s0 (dropPlacing p s) := by
  unfold dropPlacing; apply keeps_refreshSpace; apply keeps_State_modTen; exact byteStep_refl _; apply keeps_State_modCol; assumption

theorem keeps_enforce {W : Part → Prop} [May W .regs] [May W .ten] [May W .cue] [May W .col] {s0 : State} (p : Placing) (s : State)
    (hk0 : Keeps W s0 s) : Keeps W s0 (enforce p s) := by
  unfold enforce; dsimp only; apply keeps_bumpGen; apply keeps_State_setFld; apply keeps_State_setFld; apply keeps_State_setFld
  apply keeps_clearGroup; apply keeps_putEntry; apply keeps_refreshSpace; apply keeps_place; apply keeps_release
  apply keeps_dropPlacing; assumption

theorem keeps_placeOn {W : Part → Prop} [May W .regs] [May W .ten] [May W .cue] [May W .col] {s0 : State} (p : Placing) (s : State)
    (hk0 : Keeps W s0 s) : Keeps W s0 (placeOn p s) := by
  unfold placeOn; apply keeps_ite; assumption; apply keeps_ite; apply keeps_State_setFld; apply keeps_dropPlacing; assumption
  apply keeps_enforce; assumption

theorem keeps_settlePlacing {W : Part → Prop} [May W .regs] [May W .ten] [May W .cue] [May W .col] {s0 : State} (s : State) (hk0
    : Keeps W s0 s) : Keeps W s0 (settlePlacing s) := by
  unfold settlePlacing; apply keeps_forEach; intro _; intro _; intro _; apply keeps_placeOn; assumption; assumption

theorem keeps_groupCommit {W : Part → Prop} [May W .regs] [May W .ten] [May W .cue] [May W .col] {s0 : State} (g : Nat) (v : Word)
    (s : State) (hk0 : Keeps W s0 s) : Keeps W s0 (groupCommit g v s) := by
  unfold groupCommit; dsimp only; apply keeps_ite; apply keeps_State_setFld; apply keeps_State_modGrp; assumption; apply keeps_ite
  apply keeps_bumpGen; apply keeps_release; apply keeps_State_setFld; apply keeps_State_setFld; apply keeps_State_setFld
  apply keeps_clearGroup; apply keeps_putEntry; apply keeps_forEach; intro _; intro _; intro _; apply keeps_dropPlacing; assumption
  apply keeps_State_modGrp; assumption; apply keeps_ite; apply keeps_State_raise; apply keeps_State_setFld; apply keeps_State_modGrp
  assumption; apply keeps_ite; apply keeps_State_setFld; apply keeps_State_modGrp; assumption; split; apply keeps_State_setFld
  apply keeps_State_modGrp; assumption; apply keeps_placeOn; apply keeps_refreshSpace; apply keeps_place; apply keeps_State_modCol
  apply keeps_forEach; intro _; intro _; intro _; apply keeps_dropPlacing; assumption; apply keeps_State_modGrp; assumption

theorem keeps_putOp {W : Part → Prop} [May W .col] {s0 : State} (o : Op) (s : State) (hk0 : Keeps W s0 s) : Keeps W s0 (putOp o s) := by
  unfold putOp; apply keeps_State_modCol; assumption

theorem keeps_modOp {W : Part → Prop} [May W .col] {s0 : State} (id : Nat) (f : Op → Op) (s : State) (hk0 : Keeps W s0 s) : Keeps W s0
    (modOp id f s) := by
  unfold modOp; apply keeps_State_modCol; assumption

theorem keeps_sendColFrame {W : Part → Prop} [May W .regs] [May W .links] [May W .swc] {s0 : State} (o : Op) (x : Send) (s : State)
    (hk0 : Keeps W s0 s) : Keeps W s0 (sendColFrame o x s) := by
  unfold sendColFrame; dsimp only; apply keeps_ite; apply keeps_sendCircuit; apply keeps_State_modSwc; assumption; apply keeps_sendFrame
  assumption

theorem keeps_flushSends {W : Part → Prop} [May W .regs] [May W .links] [May W .swc] [May W .col] {s0 : State} (id : Nat) (s : State)
    (hk0 : Keeps W s0 s) : Keeps W s0 (flushSends id s) := by
  unfold flushSends; split; assumption; dsimp only; apply keeps_forEach; intro _; intro _; intro _; apply keeps_sendColFrame; assumption
  apply keeps_modOp; assumption

theorem keeps_sendAll {W : Part → Prop} [May W .regs] [May W .links] [May W .swc] [May W .cue] [May W .col] {s0 : State} (id : Nat)
    (l : List Send) (s : State) (hk0 : Keeps W s0 s) : Keeps W s0 (sendAll id l s) := by
  unfold sendAll; apply keeps_ite; assumption; dsimp only; apply keeps_flushSends; apply keeps_modOp; split; apply keeps_State_modCtr
  assumption; assumption

theorem keeps_sendCtrl {W : Part → Prop} [May W .regs] [May W .links] [May W .swc] {s0 : State} (g opseq dest dport kind : Nat)
    (bs : List Byte) (s : State) (hk0 : Keeps W s0 s) : Keeps W s0 (sendCtrl g opseq dest dport kind bs s) := by
  unfold sendCtrl; apply keeps_sendFrame; assumption

theorem keeps_sendAsidePath {W : Part → Prop} [May W .regs] [May W .swc] {s0 : State} (port g opseq sig index op : Nat) (bs : List Byte)
    (s : State) (hk0 : Keeps W s0 s) : Keeps W s0 (sendAsidePath port g opseq sig index op bs s) := by
  unfold sendAsidePath; dsimp only; apply keeps_sendAside; assumption

theorem keeps_sendNotices {W : Part → Prop} [May W .regs] [May W .swc] {s0 : State} (g : Nat) (except_ : Nat) (bs : List Byte)
    (opseq : Nat) (s : State) (hk0 : Keeps W s0 s) : Keeps W s0 (sendNotices g except_ bs opseq s) := by
  unfold sendNotices; apply keeps_forEach; intro _; intro _; intro _; apply keeps_ite; assumption; apply keeps_sendAsidePath; assumption
  assumption

theorem keeps_dropOpCount {W : Part → Prop} [May W .regs] {s0 : State} (g : Nat) (s : State) (hk0 : Keeps W s0 s) : Keeps W s0
    (dropOpCount g s) := by
  unfold dropOpCount; apply keeps_State_setFld; apply keeps_State_setFld; assumption

theorem keeps_openResults {W : Part → Prop} [May W .ten] [May W .sp] {s0 : State} (o : Op) (s : State) (hk0 : Keeps W s0 s) : Keeps W s0
    (openResults o s) := by
  unfold openResults; apply keeps_forEach; intro _; intro _; intro _; apply keeps_openSpan; assumption; assumption

theorem keeps_recordAbort {W : Part → Prop} [May W .regs] [May W .swc] [May W .ten] [May W .sp] [May W .cue] [May W .col] {s0 : State}
    (g n code detect offend expect got : Nat) (s : State) (hk0 : Keeps W s0 s) : Keeps W s0
    (recordAbort g n code detect offend expect got s) := by
  unfold recordAbort; dsimp only; apply keeps_State_modCol; split; apply keeps_ite; apply keeps_ite; apply keeps_State_raise
  apply keeps_State_count; apply keeps_State_raise; apply keeps_State_setWord; apply keeps_State_setWord; apply keeps_State_setWord
  apply keeps_State_modGrp; assumption; apply keeps_State_count; apply keeps_State_raise; apply keeps_State_setWord
  apply keeps_State_setWord; apply keeps_State_setWord; apply keeps_State_modGrp; assumption; apply keeps_dropLoads
  apply keeps_dropOpCount; apply keeps_State_modCol; apply keeps_State_modCtr; apply keeps_openResults; apply keeps_ite
  apply keeps_State_raise; apply keeps_State_count; apply keeps_State_raise; apply keeps_State_setWord; apply keeps_State_setWord
  apply keeps_State_setWord; apply keeps_State_modGrp; assumption; apply keeps_State_count; apply keeps_State_raise
  apply keeps_State_setWord; apply keeps_State_setWord; apply keeps_State_setWord; apply keeps_State_modGrp; assumption; apply keeps_ite
  apply keeps_State_raise; apply keeps_State_count; apply keeps_State_raise; apply keeps_State_setWord; apply keeps_State_setWord
  apply keeps_State_setWord; apply keeps_State_modGrp; assumption; apply keeps_State_count; apply keeps_State_raise
  apply keeps_State_setWord; apply keeps_State_setWord; apply keeps_State_setWord; apply keeps_State_modGrp; assumption

theorem keeps_abortTelling {W : Part → Prop} [May W .regs] [May W .swc] [May W .ten] [May W .sp] [May W .cue] [May W .col] {s0 : State}
    (g n code told detect offend expect got from_ : Nat) (s : State) (hk0 : Keeps W s0 s) : Keeps W s0
    (abortTelling g n code told detect offend expect got from_ s) := by
  unfold abortTelling; apply keeps_ite; assumption; apply keeps_sendNotices; apply keeps_recordAbort; assumption

theorem keeps_abortWith {W : Part → Prop} [May W .regs] [May W .swc] [May W .ten] [May W .sp] [May W .cue] [May W .col] {s0 : State}
    (g n code detect offend expect got from_ : Nat) (s : State) (hk0 : Keeps W s0 s) : Keeps W s0
    (abortWith g n code detect offend expect got from_ s) := by
  unfold abortWith; apply keeps_abortTelling; assumption

theorem keeps_abortOp {W : Part → Prop} [May W .regs] [May W .swc] [May W .ten] [May W .sp] [May W .cue] [May W .col] {s0 : State}
    (o : Op) (code offend expect got : Nat) (s : State) (hk0 : Keeps W s0 s) : Keeps W s0 (abortOp o code offend expect got s) := by
  unfold abortOp; apply keeps_abortWith; assumption

theorem keeps_abortHere {W : Part → Prop} [May W .regs] [May W .swc] [May W .ten] [May W .sp] [May W .cue] [May W .col] {s0 : State}
    (o : Op) (code : Nat) (s : State) (hk0 : Keeps W s0 s) : Keeps W s0 (abortHere o code s) := by
  unfold abortHere; apply keeps_abortOp; assumption

theorem keeps_abortDark {W : Part → Prop} [May W .regs] [May W .swc] [May W .ten] [May W .sp] [May W .cue] [May W .col] {s0 : State}
    (o : Op) (s : State) (hk0 : Keeps W s0 s) : Keeps W s0 (abortDark o s) := by
  unfold abortDark; apply keeps_abortTelling; assumption

theorem keeps_abortKnown {W : Part → Prop} [May W .regs] [May W .swc] [May W .cue] [May W .col] {s0 : State} (id : Nat) (s : State)
    (hk0 : Keeps W s0 s) : Keeps W s0 (abortKnown id s) := by
  unfold abortKnown; split; assumption; split; assumption; apply keeps_dropLoads; apply keeps_dropOpCount; apply keeps_State_modCol
  apply keeps_State_modCtr; assumption

theorem keeps_landBytes {W : Part → Prop} [May W .ten] [May W .sp] {s0 : State} (d : Desc) (f cols col0 start : Nat) (bs : List Byte)
    (s : State) (hk0 : Keeps W s0 s) : Keeps W s0 (landBytes d f cols col0 start bs s) := by
  unfold landBytes; dsimp only; apply keeps_forEach; intro _; intro _; intro _; apply keeps_spWrite; assumption; assumption

theorem keeps_landRow {W : Part → Prop} [May W .regs] [May W .ten] [May W .sp] {s0 : State} (o : Op) (r : Nat) (s : State) (hk0
    : Keeps W s0 s) : Keeps W s0 (landRow o r s) := by
  unfold landRow; dsimp only; apply keeps_storeRow; apply keeps_ite; apply keeps_countRowReads; apply keeps_readFrom; apply keeps_veiled
  assumption; assumption; apply keeps_storeRow; apply keeps_countRowReads; apply keeps_readFrom; apply keeps_veiled; assumption
  assumption

theorem keeps_landElems {W : Part → Prop} [May W .ten] [May W .sp] {s0 : State} (o : Op) (k : Nat) (data : List Byte) (s : State)
    (hk0 : Keeps W s0 s) : Keeps W s0 (landElems o k data s) := by
  unfold landElems; dsimp only; split; assumption; apply keeps_ite; apply keeps_forEach; intro _; intro _; intro _; apply keeps_spWrite
  apply keeps_spWrite; assumption; apply keeps_readFrom; apply keeps_veiled; assumption; assumption; apply keeps_forEach; intro _
  intro _; intro _; apply keeps_spWrite; assumption; apply keeps_readFrom; apply keeps_veiled; assumption; assumption

theorem keeps_countLanded {W : Part → Prop} [May W .cue] [May W .col] {s0 : State} (id k : Nat) (s : State) (hk0 : Keeps W s0 s)
    : Keeps W s0 (countLanded id k s) := by
  unfold countLanded; split; assumption; apply keeps_modOp; apply keeps_State_modCtr; assumption

theorem keeps_takeBack {W : Part → Prop} [May W .cue] [May W .col] {s0 : State} (id k : Nat) (s : State) (hk0 : Keeps W s0 s)
    : Keeps W s0 (takeBack id k s) := by
  unfold takeBack; split; assumption; apply keeps_modOp; apply keeps_State_modCtr; assumption

theorem keeps_landSlices {W : Part → Prop} [May W .cue] [May W .col] {s0 : State} (id : Nat) (s : State) (hk0 : Keeps W s0 s)
    : Keeps W s0 (landSlices id s) := by
  unfold landSlices; split; assumption; dsimp only; apply keeps_forEach; intro _; intro _; intro _; apply keeps_countLanded; assumption
  apply keeps_modOp; assumption

theorem keeps_landRows {W : Part → Prop} [May W .regs] [May W .ten] [May W .sp] [May W .cue] [May W .col] {s0 : State} (id : Nat)
    (s : State) (hk0 : Keeps W s0 s) : Keeps W s0 (landRows id s) := by
  unfold landRows; split; assumption; dsimp only; apply keeps_forEach; intro _; intro _; intro _; apply keeps_State_modCtr; assumption
  apply keeps_modOp; apply keeps_forEach; intro _; intro _; intro _; apply keeps_landRow; assumption; assumption

theorem keeps_landChunk {W : Part → Prop} [May W .regs] [May W .ten] [May W .sp] [May W .cue] [May W .col] {s0 : State} (id k : Nat)
    (s : State) (hk0 : Keeps W s0 s) : Keeps W s0 (landChunk id k s) := by
  unfold landChunk; split; assumption; split; assumption; dsimp only; apply keeps_ite; apply keeps_landRows; assumption; apply keeps_ite
  apply keeps_countLanded; apply keeps_modOp; apply keeps_landElems; assumption; apply keeps_ite; apply keeps_countLanded
  apply keeps_modOp; apply keeps_landBytes; assumption; apply keeps_ite; apply keeps_landSlices; apply keeps_modOp; apply keeps_forEach
  intro _; intro _; intro _; apply keeps_spWrite; assumption; assumption; apply keeps_ite; apply keeps_countLanded; apply keeps_modOp
  apply keeps_landBytes; assumption; apply keeps_countLanded; apply keeps_modOp; apply keeps_landBytes; assumption

theorem keeps_sendRelease {W : Part → Prop} [May W .regs] [May W .links] [May W .swc] {s0 : State} (o : Op) (x : Nat × Nat × Nat)
    (n : Nat) (s : State) (hk0 : Keeps W s0 s) : Keeps W s0 (sendRelease o x n s) := by
  unfold sendRelease; apply keeps_sendCtrl; assumption

theorem keeps_reportReleases {W : Part → Prop} [May W .regs] [May W .links] [May W .swc] [May W .col] {s0 : State} (o : Op) (n : Nat)
    (s : State) (hk0 : Keeps W s0 s) : Keeps W s0 (reportReleases o n s) := by
  unfold reportReleases; apply keeps_forEach; intro _; intro _; intro _; apply keeps_ite; assumption; apply keeps_sendRelease
  assumption; apply keeps_modOp; assumption

theorem keeps_reportAll {W : Part → Prop} [May W .regs] [May W .links] [May W .swc] {s0 : State} (o : Op) (s : State) (hk0
    : Keeps W s0 s) : Keeps W s0 (reportAll o s) := by
  unfold reportAll; dsimp only; apply keeps_forEach; intro _; intro _; intro _; apply keeps_sendRelease; assumption; assumption

theorem keeps_reportOwn {W : Part → Prop} [May W .regs] [May W .links] [May W .swc] {s0 : State} (id stage src : Nat) (s : State)
    (hk0 : Keeps W s0 s) : Keeps W s0 (reportOwn id stage src s) := by
  unfold reportOwn; split; assumption; dsimp only; apply keeps_ite; apply keeps_sendRelease; assumption; assumption

theorem keeps_maybeReport {W : Part → Prop} [May W .regs] [May W .links] [May W .swc] [May W .col] {s0 : State} (id : Nat) (s : State)
    (hk0 : Keeps W s0 s) : Keeps W s0 (maybeReport id s) := by
  unfold maybeReport; split; assumption; dsimp only; apply keeps_ite; apply keeps_reportReleases; assumption; assumption

theorem keeps_answerEdges {W : Part → Prop} [May W .regs] [May W .links] [May W .swc] [May W .cue] [May W .col] {s0 : State} (id : Nat)
    (s : State) (hk0 : Keeps W s0 s) : Keeps W s0 (answerEdges id s) := by
  unfold answerEdges; split; assumption; apply keeps_forEach; intro _; intro _; intro _; dsimp only; apply keeps_ite; assumption
  apply keeps_sendAll; apply keeps_modOp; assumption; assumption

theorem keeps_endOp {W : Part → Prop} [May W .regs] [May W .links] [May W .swc] [May W .ten] [May W .sp] [May W .cue] [May W .col]
    {s0 : State} (o : Op) (s : State) (hk0 : Keeps W s0 s) : Keeps W s0 (endOp o s) := by
  unfold endOp; dsimp only; apply keeps_State_modCol; apply keeps_modOp; apply keeps_ite; apply keeps_ite; apply keeps_State_modGrp
  apply keeps_State_modCtr; apply keeps_dropOpCount; apply keeps_ite; assumption; apply keeps_openResults; assumption
  apply keeps_State_modCtr; apply keeps_dropOpCount; apply keeps_ite; assumption; apply keeps_openResults; assumption
  apply keeps_reportAll; apply keeps_ite; apply keeps_State_modGrp; apply keeps_State_modCtr; apply keeps_dropOpCount; apply keeps_ite
  assumption; apply keeps_openResults; assumption; apply keeps_State_modCtr; apply keeps_dropOpCount; apply keeps_ite; assumption
  apply keeps_openResults; assumption

theorem keeps_settleOp {W : Part → Prop} [May W .regs] [May W .links] [May W .swc] [May W .ten] [May W .sp] [May W .cue] [May W .col]
    {s0 : State} (id : Nat) (s : State) (hk0 : Keeps W s0 s) : Keeps W s0 (settleOp id s) := by
  unfold settleOp; dsimp only; split; apply keeps_answerEdges; assumption; apply keeps_ite; apply keeps_endOp; apply keeps_answerEdges
  assumption; apply keeps_answerEdges; assumption

theorem keeps_countChunk {W : Part → Prop} [May W .regs] {s0 : State} (o : Op) (s : State) (hk0 : Keeps W s0 s) : Keeps W s0
    (countChunk o s) := by
  unfold countChunk; apply keeps_pmcEvent; assumption

theorem keeps_finalChunk {W : Part → Prop} [May W .regs] [May W .links] [May W .swc] [May W .ten] [May W .sp] [May W .cue] [May W .col]
    {s0 : State} (id k : Nat) (data : List Byte) (confirmed : Bool) (s : State) (hk0 : Keeps W s0 s) : Keeps W s0
    (finalChunk id k data confirmed s) := by
  unfold finalChunk; split; assumption; dsimp only; split; apply keeps_ite; assumption; apply keeps_settleOp; apply keeps_maybeReport
  apply keeps_ite; apply keeps_landChunk; apply keeps_countChunk; apply keeps_modOp; assumption; apply keeps_countChunk
  apply keeps_modOp; assumption; apply keeps_settleOp; apply keeps_maybeReport; apply keeps_ite; apply keeps_ite; apply keeps_countChunk
  apply keeps_modOp; assumption; apply keeps_modOp; assumption; apply keeps_landChunk; apply keeps_ite; apply keeps_countChunk
  apply keeps_modOp; assumption; apply keeps_modOp; assumption

theorem keeps_gatherHere {W : Part → Prop} [May W .regs] [May W .links] [May W .swc] [May W .ten] [May W .sp] [May W .cue] [May W .col]
    {s0 : State} (id k : Nat) (src : Nat → Nat) (from_ : Option Nat) (data : List Byte) (s : State) (hk0 : Keeps W s0 s) : Keeps W s0
    (gatherHere id k src from_ data s) := by
  unfold gatherHere; split; assumption; apply keeps_finalChunk; apply keeps_sendAll; assumption

theorem keeps_addLoads {W : Part → Prop} [May W .swc] {s0 : State} (o : Op) (s : State) (hk0 : Keeps W s0 s) : Keeps W s0
    (addLoads o s) := by
  unfold addLoads; dsimp only; apply keeps_forEach; intro _; intro _; intro _; apply keeps_addPending; assumption; assumption

theorem keeps_passSum {W : Part → Prop} [May W .regs] [May W .links] [May W .swc] [May W .ten] [May W .sp] [May W .cue] [May W .col]
    {s0 : State} (id st k : Nat) (s : State) (hk0 : Keeps W s0 s) : Keeps W s0 (passSum id st k s) := by
  unfold passSum; split; assumption; split; assumption; dsimp only; split; apply keeps_settleOp; apply keeps_maybeReport
  apply keeps_sendAll; apply keeps_modOp; assumption; apply keeps_ite; apply keeps_gatherHere; apply keeps_modOp; assumption
  apply keeps_ite; apply keeps_finalChunk; apply keeps_modOp; assumption; apply keeps_settleOp; apply keeps_maybeReport
  apply keeps_modOp; assumption

theorem keeps_coverSums {W : Part → Prop} [May W .col] {s0 : State} (id k : Nat) (s : State) (hk0 : Keeps W s0 s) : Keeps W s0
    (coverSums id k s) := by
  unfold coverSums; apply keeps_forEach; intro _; intro _; intro _; split; assumption; split; assumption; apply keeps_ite; assumption
  apply keeps_modOp; assumption; assumption

theorem keeps_sendVerified {W : Part → Prop} [May W .regs] [May W .links] [May W .swc] {s0 : State} (o : Op) (fresh : List Sum)
    (s : State) (hk0 : Keeps W s0 s) : Keeps W s0 (sendVerified o fresh s) := by
  unfold sendVerified; dsimp only; apply keeps_forEach; intro _; intro _; intro _; apply keeps_forEach; intro _; intro _; intro _
  apply keeps_sendCtrl; assumption; assumption; assumption

theorem keeps_coverChunks {W : Part → Prop} [May W .regs] [May W .links] [May W .swc] [May W .ten] [May W .sp] [May W .cue] [May W .col]
    {s0 : State} (id : Nat) (ks : List Nat) (s : State) (hk0 : Keeps W s0 s) : Keeps W s0 (coverChunks id ks s) := by
  unfold coverChunks; split; assumption; dsimp only; split; apply keeps_forEach; intro _; intro _; intro _; apply keeps_coverSums
  assumption; assumption; apply keeps_settleOp; apply keeps_forEach; intro _; intro _; intro _; apply keeps_ite; apply keeps_finalChunk
  assumption; assumption; apply keeps_maybeReport; apply keeps_sendVerified; apply keeps_forEach; intro _; intro _; intro _
  apply keeps_coverSums; assumption; assumption

theorem keeps_formSum {W : Part → Prop} [May W .regs] [May W .links] [May W .swc] [May W .ten] [May W .sp] [May W .cue] [May W .col]
    {s0 : State} (id st k : Nat) (ins : List (List Byte × (Nat → Bool))) (s : State) (hk0 : Keeps W s0 s) : Keeps W s0
    (formSum id st k ins s) := by
  unfold formSum; split; assumption; dsimp only; apply keeps_ite; apply keeps_passSum; apply keeps_State_addFld; apply keeps_modOp
  assumption; apply keeps_State_addFld; apply keeps_modOp; assumption

theorem keeps_retractSend {W : Part → Prop} [May W .regs] [May W .links] [May W .swc] {s0 : State} (o : Op) (y : Send) (k rev : Nat)
    (s : State) (hk0 : Keeps W s0 s) : Keeps W s0 (retractSend o y k rev s) := by
  unfold retractSend; dsimp only; apply keeps_ite; apply keeps_addPending; apply keeps_sendCtrl; apply keeps_pmcEvent
  apply keeps_State_count; assumption; apply keeps_sendCtrl; apply keeps_pmcEvent; apply keeps_State_count; assumption

theorem keeps_unformFrom {W : Part → Prop} [May W .regs] [May W .links] [May W .swc] [May W .ten] [May W .sp] [May W .cue] [May W .col]
    {s0 : State} (id st k : Nat) (s : State) (hk0 : Keeps W s0 s) : Keeps W s0 (unformFrom id st k s) := by
  unfold unformFrom; split; assumption; dsimp only; apply keeps_ite; apply keeps_abortHere; assumption; apply keeps_ite
  apply keeps_forEach; intro _; intro _; intro _; apply keeps_takeBack; assumption; apply keeps_modOp; apply keeps_forEach; intro _
  intro _; intro _; apply keeps_forEach; intro _; intro _; intro _; apply keeps_retractSend; assumption; assumption; assumption
  apply keeps_ite; apply keeps_takeBack; apply keeps_modOp; apply keeps_forEach; intro _; intro _; intro _; apply keeps_forEach; intro _
  intro _; intro _; apply keeps_retractSend; assumption; assumption; assumption; apply keeps_modOp; apply keeps_forEach; intro _
  intro _; intro _; apply keeps_forEach; intro _; intro _; intro _; apply keeps_retractSend; assumption; assumption; assumption

theorem keeps_recompute {W : Part → Prop} [May W .regs] [May W .swc] [May W .ten] [May W .sp] [May W .cue] [May W .col] {s0 : State}
    (id st k : Nat) (s : State) (hk0 : Keeps W s0 s) : Keeps W s0 (recompute id st k s) := by
  unfold recompute; split; assumption; dsimp only; apply keeps_ite; apply keeps_abortHere; apply keeps_State_count; assumption
  apply keeps_modOp; apply keeps_State_count; assumption

theorem keeps_takeVerdict {W : Part → Prop} [May W .regs] [May W .links] [May W .swc] [May W .ten] [May W .sp] [May W .cue] [May W .col]
    {s0 : State} (id st k : Nat) (pass : Bool) (s : State) (hk0 : Keeps W s0 s) : Keeps W s0 (takeVerdict id st k pass s) := by
  unfold takeVerdict; split; assumption; split; assumption; apply keeps_ite; dsimp only; apply keeps_ite; apply keeps_coverChunks
  apply keeps_modOp; assumption; apply keeps_passSum; apply keeps_modOp; assumption; dsimp only; apply keeps_ite; apply keeps_abortHere
  apply keeps_State_count; assumption; apply keeps_unformFrom; apply keeps_modOp; apply keeps_State_count; assumption

theorem keeps_storeCopy {W : Part → Prop} [May W .regs] [May W .links] [May W .swc] [May W .ten] [May W .sp] [May W .cue] [May W .col]
    {s0 : State} (id : Nat) (c : Copy) (s : State) (hk0 : Keeps W s0 s) : Keeps W s0 (storeCopy id c s) := by
  unfold storeCopy; split; assumption; dsimp only; split; apply keeps_modOp; assumption; apply keeps_ite; assumption; apply keeps_modOp
  apply keeps_ite; apply keeps_unformFrom; apply keeps_State_count; assumption; assumption

theorem keeps_retractCopy {W : Part → Prop} [May W .regs] [May W .links] [May W .swc] [May W .ten] [May W .sp] [May W .cue] [May W .col]
    {s0 : State} (id stage k src rev : Nat) (s : State) (hk0 : Keeps W s0 s) : Keeps W s0 (retractCopy id stage k src rev s) := by
  unfold retractCopy; split; assumption; dsimp only; split; apply keeps_ite; assumption; apply keeps_modOp; apply keeps_State_count
  assumption; apply keeps_ite; assumption; apply keeps_modOp; apply keeps_unformFrom; apply keeps_State_count; assumption

theorem keeps_routeHold {W : Part → Prop} [May W .col] {s0 : State} (id origin t e piece : Nat) (bs : List Byte) (s : State) (hk0
    : Keeps W s0 s) : Keeps W s0 (routeHold id origin t e piece bs s) := by
  unfold routeHold; apply keeps_modOp; assumption

theorem keeps_routeLand {W : Part → Prop} [May W .ten] [May W .sp] [May W .col] {s0 : State} (id origin : Nat) (s : State) (hk0
    : Keeps W s0 s) : Keeps W s0 (routeLand id origin s) := by
  unfold routeLand; split; assumption; dsimp only; apply keeps_modOp; apply keeps_forEach; intro _; intro _; intro _
  apply keeps_landBytes; assumption; assumption

theorem keeps_maskRows {W : Part → Prop} [May W .ten] [May W .sp] {s0 : State} (o : Op) (origin : Nat) (s : State) (hk0
    : Keeps W s0 s) : Keeps W s0 (maskRows o origin s) := by
  unfold maskRows; dsimp only; apply keeps_forEach; intro _; intro _; intro _; apply keeps_forEach; intro _; intro _; intro _
  apply keeps_spWrite; assumption; assumption; assumption

theorem keeps_landOrigin {W : Part → Prop} [May W .regs] [May W .links] [May W .swc] [May W .ten] [May W .sp] [May W .cue] [May W .col]
    {s0 : State} (id origin : Nat) (s : State) (hk0 : Keeps W s0 s) : Keeps W s0 (landOrigin id origin s) := by
  unfold landOrigin; dsimp only; split; apply keeps_routeLand; assumption; apply keeps_settleOp; apply keeps_State_modCtr
  apply keeps_modOp; apply keeps_maskRows; apply keeps_routeLand; assumption

theorem keeps_settleRoute {W : Part → Prop} [May W .regs] [May W .links] [May W .swc] [May W .ten] [May W .sp] [May W .cue] [May W .col]
    {s0 : State} (id : Nat) (s : State) (hk0 : Keeps W s0 s) : Keeps W s0 (settleRoute id s) := by
  unfold settleRoute; split; assumption; dsimp only; apply keeps_forEach; intro _; intro _; intro _; apply keeps_ite
  apply keeps_landOrigin; assumption; assumption; assumption

theorem keeps_routeStart {W : Part → Prop} [May W .regs] [May W .links] [May W .swc] [May W .ten] [May W .sp] [May W .cue] [May W .col]
    {s0 : State} (id : Nat) (s : State) (hk0 : Keeps W s0 s) : Keeps W s0 (routeStart id s) := by
  unfold routeStart; split; assumption; dsimp only; apply keeps_settleRoute; apply keeps_forEach; intro _; intro _; intro _
  apply keeps_ite; apply keeps_modOp; assumption; apply keeps_sendCtrl; assumption; apply keeps_forEach; intro _; intro _; intro _
  apply keeps_ite; assumption; apply keeps_forEach; intro _; intro _; intro _; apply keeps_ite; apply keeps_routeHold; assumption
  apply keeps_sendColFrame; assumption; assumption; apply keeps_State_addFld; apply keeps_modOp; apply keeps_readFrom
  apply keeps_veiled; assumption; assumption

theorem keeps_mergeRows {W : Part → Prop} [May W .ten] [May W .sp] {s0 : State} (o : Op) (s : State) (hk0 : Keeps W s0 s) : Keeps W s0
    (mergeRows o s) := by
  unfold mergeRows; dsimp only; apply keeps_forEach; intro _; intro _; intro _; apply keeps_storeRow; assumption; assumption

theorem keeps_mergeVerdict {W : Part → Prop} [May W .regs] [May W .links] [May W .swc] [May W .ten] [May W .sp] [May W .cue]
    [May W .col] {s0 : State} (id : Nat) (pass : Bool) (s : State) (hk0 : Keeps W s0 s) : Keeps W s0 (mergeVerdict id pass s) := by
  unfold mergeVerdict; split; assumption; apply keeps_ite; assumption; apply keeps_ite; apply keeps_settleOp; apply keeps_modOp
  apply keeps_mergeRows; assumption; apply keeps_recompute; assumption

theorem keeps_settleMerge {W : Part → Prop} [May W .cue] [May W .col] {s0 : State} (id : Nat) (s : State) (hk0 : Keeps W s0 s)
    : Keeps W s0 (settleMerge id s) := by
  unfold settleMerge; split; assumption; dsimp only; apply keeps_forEach; intro _; intro _; intro _; apply keeps_State_modCtr
  assumption; apply keeps_modOp; assumption

theorem keeps_mergeTake {W : Part → Prop} [May W .cue] [May W .col] {s0 : State} (id t e piece : Nat) (bs : List Byte) (s : State)
    (hk0 : Keeps W s0 s) : Keeps W s0 (mergeTake id t e piece bs s) := by
  unfold mergeTake; apply keeps_settleMerge; apply keeps_modOp; assumption

theorem keeps_joinRoute {W : Part → Prop} [May W .col] {s0 : State} (id g : Nat) (s : State) (hk0 : Keeps W s0 s) : Keeps W s0
    (joinRoute id g s) := by
  unfold joinRoute; apply keeps_modOp; assumption

theorem keeps_mergeStart {W : Part → Prop} [May W .regs] [May W .links] [May W .swc] [May W .cue] [May W .col] {s0 : State} (id : Nat)
    (s : State) (hk0 : Keeps W s0 s) : Keeps W s0 (mergeStart id s) := by
  unfold mergeStart; split; assumption; dsimp only; apply keeps_settleMerge; apply keeps_forEach; intro _; intro _; intro _
  apply keeps_forEach; intro _; intro _; intro _; apply keeps_ite; apply keeps_mergeTake; assumption; apply keeps_sendColFrame
  assumption; assumption; assumption

theorem keeps_selectMerge {W : Part → Prop} [May W .regs] [May W .links] [May W .swc] [May W .ten] [May W .sp] [May W .cue] [May W .col]
    {s0 : State} (id st : Nat) (lists : List (List Byte)) (s : State) (hk0 : Keeps W s0 s) : Keeps W s0 (selectMerge id st lists s) := by
  unfold selectMerge; split; assumption; dsimp only; split; apply keeps_sendAll; apply keeps_modOp; assumption; apply keeps_settleOp
  apply keeps_State_modCtr; apply keeps_modOp; apply keeps_forEach; intro _; intro _; intro _; apply keeps_storeRow
  apply keeps_storeRow; assumption; apply keeps_modOp; assumption

theorem keeps_exchangeOut {W : Part → Prop} [May W .regs] [May W .links] [May W .swc] [May W .ten] [May W .sp] [May W .cue] [May W .col]
    {s0 : State} (id : Nat) (own : List Byte) (s : State) (hk0 : Keeps W s0 s) : Keeps W s0 (exchangeOut id own s) := by
  unfold exchangeOut; split; assumption; dsimp only; apply keeps_forEach; intro _; intro _; intro _; apply keeps_forEach; intro _
  intro _; intro _; apply keeps_finalChunk; assumption; assumption; apply keeps_forEach; intro _; intro _; intro _; apply keeps_sendAll
  assumption; assumption

theorem keeps_feedOp {W : Part → Prop} [May W .regs] [May W .links] [May W .swc] [May W .ten] [May W .sp] [May W .cue] [May W .col]
    {s0 : State} (id : Nat) (own : List Byte) (present : List Bool) (s : State) (hk0 : Keeps W s0 s) : Keeps W s0
    (feedOp id own present s) := by
  unfold feedOp; dsimp only; split; apply keeps_modOp; assumption; apply keeps_ite; apply keeps_forEach; intro _; intro _; intro _
  apply keeps_gatherHere; assumption; apply keeps_modOp; assumption; apply keeps_ite; apply keeps_ite; apply keeps_forEach; intro _
  intro _; intro _; apply keeps_gatherHere; assumption; apply keeps_modOp; assumption; apply keeps_modOp; assumption; apply keeps_ite
  apply keeps_exchangeOut; apply keeps_modOp; assumption; apply keeps_ite; apply keeps_routeStart; apply keeps_modOp; assumption
  apply keeps_ite; apply keeps_mergeStart; apply keeps_modOp; assumption; apply keeps_modOp; assumption

theorem keeps_coverCopy {W : Part → Prop} [May W .col] {s0 : State} (id stage src k : Nat) (s : State) (hk0 : Keeps W s0 s) : Keeps W s0
    (coverCopy id stage src k s) := by
  unfold coverCopy; dsimp only; apply keeps_modOp; assumption

theorem keeps_coverCopies {W : Part → Prop} [May W .regs] [May W .links] [May W .swc] [May W .ten] [May W .sp] [May W .cue] [May W .col]
    {s0 : State} (id stage src first last : Nat) (s : State) (hk0 : Keeps W s0 s) : Keeps W s0
    (coverCopies id stage src first last s) := by
  unfold coverCopies; dsimp only; apply keeps_coverChunks; apply keeps_forEach; intro _; intro _; intro _; apply keeps_coverCopy
  assumption; assumption

theorem keeps_takeRelease {W : Part → Prop} [May W .regs] [May W .links] [May W .swc] [May W .col] {s0 : State} (id stage src n : Nat)
    (s : State) (hk0 : Keeps W s0 s) : Keeps W s0 (takeRelease id stage src n s) := by
  unfold takeRelease; dsimp only; apply keeps_State_modCol; apply keeps_flushSends; apply keeps_modOp; assumption

theorem keeps_takeCtrlFrame {W : Part → Prop} [May W .regs] [May W .links] [May W .swc] [May W .ten] [May W .sp] [May W .cue]
    [May W .col] {s0 : State} (id : Nat) (f : Frame) (s : State) (hk0 : Keeps W s0 s) : Keeps W s0 (takeCtrlFrame id f s) := by
  unfold takeCtrlFrame; split; assumption; dsimp only; apply keeps_ite; apply keeps_ite; apply keeps_retractCopy; assumption; assumption
  apply keeps_ite; apply keeps_coverCopies; assumption; apply keeps_ite; apply keeps_takeRelease; assumption; apply keeps_settleRoute
  apply keeps_modOp; assumption

theorem keeps_noteSender {W : Part → Prop} [May W .regs] [May W .links] [May W .swc] [May W .col] {s0 : State} (id st k src : Nat)
    (s : State) (hk0 : Keeps W s0 s) : Keeps W s0 (noteSender id st k src s) := by
  unfold noteSender; apply keeps_reportOwn; apply keeps_modOp; assumption

theorem keeps_takeColFrame {W : Part → Prop} [May W .regs] [May W .links] [May W .swc] [May W .ten] [May W .sp] [May W .cue]
    [May W .col] {s0 : State} (id : Nat) (f : Frame) (s : State) (hk0 : Keeps W s0 s) : Keeps W s0 (takeColFrame id f s) := by
  unfold takeColFrame; split; assumption; apply keeps_ite; apply keeps_takeCtrlFrame; assumption; dsimp only; apply keeps_ite
  apply keeps_abortOp; assumption; apply keeps_ite; apply keeps_settleRoute; apply keeps_routeHold; assumption; apply keeps_ite
  apply keeps_ite; apply keeps_mergeTake; assumption; apply keeps_sendColFrame; assumption; apply keeps_ite; apply keeps_ite
  apply keeps_finalChunk; apply keeps_noteSender; assumption; apply keeps_gatherHere; apply keeps_noteSender; assumption
  apply keeps_ite; apply keeps_gatherHere; apply keeps_noteSender; assumption; apply keeps_ite; apply keeps_ite; apply keeps_finalChunk
  apply keeps_noteSender; assumption; apply keeps_sendAll; apply keeps_noteSender; assumption; apply keeps_ite; apply keeps_reportOwn
  apply keeps_storeCopy; assumption; apply keeps_ite; apply keeps_storeCopy; assumption; assumption

theorem keeps_depositAside {W : Part → Prop} [May W .col] {s0 : State} (v : AsideVal) (s : State) (hk0 : Keeps W s0 s) : Keeps W s0
    (depositAside v s) := by
  unfold depositAside; apply keeps_State_modCol; assumption

theorem keeps_startAxis {W : Part → Prop} [May W .regs] [May W .swc] [May W .col] {s0 : State} (o : Op) (a : Nat) (data : List Byte)
    (s : State) (hk0 : Keeps W s0 s) : Keeps W s0 (startAxis o a data s) := by
  unfold startAxis; dsimp only; apply keeps_ite; apply keeps_sendAsidePath; apply keeps_ite; apply keeps_sendAsidePath
  apply keeps_depositAside; assumption; apply keeps_depositAside; assumption; apply keeps_ite; apply keeps_sendAsidePath
  apply keeps_depositAside; assumption; apply keeps_depositAside; assumption

theorem keeps_finishAside {W : Part → Prop} [May W .regs] [May W .links] [May W .swc] [May W .ten] [May W .sp] [May W .cue] [May W .col]
    {s0 : State} (o : Op) (data : List Byte) (s : State) (hk0 : Keeps W s0 s) : Keeps W s0 (finishAside o data s) := by
  unfold finishAside; dsimp only; apply keeps_endOp; apply keeps_State_modCtr; apply keeps_State_modCol; apply keeps_forEach; intro _
  intro _; intro _; apply keeps_sendAsidePath; assumption; apply keeps_ite; apply keeps_spWrite; assumption; assumption

theorem keeps_runAside {W : Part → Prop} [May W .regs] [May W .links] [May W .swc] [May W .ten] [May W .sp] [May W .cue] [May W .col] {s0 : State} (o : Op) (n phase : Nat) (s : State) (hk0 : Keeps W s0 s) : Keeps W s0 (runAside o n phase s) := by
  induction n generalizing phase s with
  | zero => exact hk0
  | succ k ih =>
    unfold runAside
    split
    · exact hk0
    · dsimp only
      split
      · exact keeps_finishAside _ _ _ (keeps_State_addFld _ _ _ hk0)
      · exact ih _ _ (keeps_ite (keeps_State_addFld _ _ _ hk0) (keeps_startAxis _ _ _ _ (keeps_State_addFld _ _ _ hk0)))

theorem keeps_relayAside {W : Part → Prop} [May W .regs] [May W .swc] {s0 : State} (f : Frame) (s : State) (hk0 : Keeps W s0 s)
    : Keeps W s0 (relayAside f s) := by
  unfold relayAside; dsimp only; apply keeps_ite; apply keeps_sendAsidePath; assumption; assumption

theorem keeps_memberLost {W : Part → Prop} [May W .regs] [May W .swc] [May W .ten] [May W .sp] [May W .cue] [May W .col] {s0 : State}
    (l : Nat) (s : State) (hk0 : Keeps W s0 s) : Keeps W s0 (memberLost l s) := by
  unfold memberLost; apply keeps_forEach; intro _; intro _; intro _; apply keeps_ite; assumption; apply keeps_ite; apply keeps_ite
  apply keeps_abortOp; assumption; assumption; apply keeps_ite; apply keeps_abortOp; assumption; assumption; assumption

end Sys2Proof.Machine
end

