-- ==== Sys2Proof/Laws/KeepsHouse.lean ====
section
/-! SUPPORT. That every operation keeps the memory's canonical form and the queue (`Keeps`): the house island and the host port. -/
namespace Sys2Proof.Machine

theorem keeps_State_modBoard {W : Part → Prop} [May W .board] {s0 : State} (s : State) (f : Board → Board) (hk0 : Keeps W s0 s)
    : Keeps W s0 (State.modBoard s f) := by
  unfold State.modBoard; with_reducible apply keeps_with_board; assumption

theorem keeps_State_modPrompter {W : Part → Prop} [May W .board] {s0 : State} (s : State) (w : Who) (f : Prompter → Prompter) (hk0
    : Keeps W s0 s) : Keeps W s0 (State.modPrompter s w f) := by
  unfold State.modPrompter; apply keeps_State_modBoard; assumption

theorem keeps_setPrompter {W : Part → Prop} [May W .regs] {s0 : State} (w : Who) (st : Nat) (s : State) (hk0 : Keeps W s0 s)
    : Keeps W s0 (setPrompter w st s) := by
  unfold setPrompter; apply keeps_State_setFld; assumption

theorem keeps_startCheckpoint {W : Part → Prop} [May W .board] {s0 : State} (s : State) (hk0 : Keeps W s0 s) : Keeps W s0
    (startCheckpoint s) := by
  unfold startCheckpoint; split; assumption; apply keeps_State_modBoard; assumption; dsimp only; apply keeps_State_modBoard; assumption

theorem keeps_noteVolume {W : Part → Prop} [May W .regs] [May W .board] {s0 : State} (s : State) (hk0 : Keeps W s0 s) : Keeps W s0
    (noteVolume s) := by
  unfold noteVolume; dsimp only; apply keeps_ite; apply keeps_startCheckpoint; apply keeps_ite; apply keeps_setPrompter; apply keeps_ite
  apply keeps_setPrompter; assumption; assumption; apply keeps_ite; apply keeps_setPrompter; assumption; assumption; apply keeps_ite
  apply keeps_setPrompter; apply keeps_ite; apply keeps_setPrompter; assumption; assumption; apply keeps_ite; apply keeps_setPrompter
  assumption; assumption

theorem keeps_admitOne {W : Part → Prop} [May W .regs] [May W .board] {s0 : State} (i : Input) (s : State) (hk0 : Keeps W s0 s)
    : Keeps W s0 (admitOne i s) := by
  unfold admitOne; dsimp only; apply keeps_noteVolume; apply keeps_ite; apply keeps_State_modBoard; apply keeps_ite
  apply keeps_State_modBoard; apply keeps_State_modBoard; apply keeps_State_count; assumption; apply keeps_State_modBoard
  apply keeps_State_count; assumption; apply keeps_ite; apply keeps_State_modBoard; apply keeps_State_modBoard; apply keeps_State_count
  assumption; apply keeps_State_modBoard; apply keeps_State_count; assumption

theorem keeps_intake {W : Part → Prop} [May W .regs] [May W .board] {s0 : State} (i : Input) (s : State) (hk0 : Keeps W s0 s)
    : Keeps W s0 (intake i s) := by
  unfold intake; apply keeps_ite; apply keeps_State_modBoard; assumption; apply keeps_admitOne; assumption

theorem keeps_admitWaiting {W : Part → Prop} [May W .regs] [May W .board] {s0 : State} (n : Nat) (s : State) (hk0 : Keeps W s0 s) : Keeps W s0 (admitWaiting n s) := by
  induction n generalizing s with
  | zero => exact hk0
  | succ k ih =>
    unfold admitWaiting
    split
    · exact hk0
    · exact keeps_ite hk0 (ih _ (keeps_admitOne _ _ (keeps_State_modBoard _ _ hk0)))

theorem keeps_admitAll {W : Part → Prop} [May W .regs] [May W .board] {s0 : State} (s : State) (hk0 : Keeps W s0 s) : Keeps W s0
    (admitAll s) := by
  unfold admitAll; apply keeps_admitWaiting; assumption

theorem keeps_decideBy {W : Part → Prop} [May W .regs] {s0 : State} (v : Votes) (act : State → State) (s : State)
    (hf_act : ∀ x0, Keeps W s0 x0 → Keeps W s0 (act x0)) (hk0 : Keeps W s0 s) : Keeps W s0 (decideBy v act s) := by
  unfold decideBy; apply keeps_ite; assumption; split; apply hf_act; assumption; apply keeps_State_count; apply keeps_State_raise
  apply keeps_State_raise; apply hf_act; assumption; apply keeps_State_raise; assumption

theorem keeps_journal {W : Part → Prop} [May W .regs] {s0 : State} (k seq claim off value : Nat) (s : State) (hk0 : Keeps W s0 s)
    : Keeps W s0 (journal k seq claim off value s) := by
  unfold journal; dsimp only; apply keeps_State_setWord; apply keeps_State_setWord; apply keeps_State_setWord; apply keeps_State_setWord
  apply keeps_ite; apply keeps_State_setFld; assumption; apply keeps_State_setFld; assumption

theorem keeps_stageAccept {W : Part → Prop} [May W .regs] [May W .board] {s0 : State} (k : Nat) (e : SideEffect) (s : State) (hk0
    : Keeps W s0 s) : Keeps W s0 (stageAccept k e s) := by
  unfold stageAccept; dsimp only; apply keeps_admitAll; apply keeps_noteVolume; apply keeps_State_modBoard; apply keeps_journal
  apply keeps_State_setFld; assumption

theorem keeps_throughStage {W : Part → Prop} [May W .regs] [May W .board] {s0 : State} (k : Nat) (e : SideEffect) (act : State → State)
    (s : State) (hf_act : ∀ x0, Keeps W s0 x0 → Keeps W s0 (act x0)) (hk0 : Keeps W s0 s) : Keeps W s0 (throughStage k e act s) := by
  unfold throughStage; apply keeps_ite; assumption; apply hf_act; apply keeps_stageAccept; assumption

theorem keeps_reconcileWrites {W : Part → Prop} [May W .regs] [May W .board] {s0 : State} (w : Who) (s : State) (hk0
    : Keeps W s0 s) : Keeps W s0 (reconcileWrites w s) := by
  unfold reconcileWrites; dsimp only; apply keeps_State_modPrompter; apply keeps_State_addFld; assumption

theorem keeps_takeWarm {W : Part → Prop} [May W .regs] [May W .board] {s0 : State} (w : Who) (s : State) (hk0 : Keeps W s0 s)
    : Keeps W s0 (takeWarm w s) := by
  unfold takeWarm; dsimp only; apply keeps_State_modPrompter; apply keeps_reconcileWrites; assumption

theorem keeps_takeCold {W : Part → Prop} [May W .regs] [May W .board] [May W .outbox] {s0 : State} (w : Who) (s : State) (hk0
    : Keeps W s0 s) : Keeps W s0 (takeCold w s) := by
  unfold takeCold; dsimp only; apply keeps_forEach; intro _; intro _; intro _; apply keeps_throughStage; intro _; intro _
  apply keeps_emit; assumption; assumption; apply keeps_State_raise; apply keeps_State_modPrompter; assumption

theorem keeps_grant {W : Part → Prop} [May W .regs] [May W .board] [May W .outbox] {s0 : State} (w : Who) (s : State) (hk0
    : Keeps W s0 s) : Keeps W s0 (grant w s) := by
  unfold grant; apply keeps_ite; assumption; dsimp only; apply keeps_admitAll; apply keeps_ite; apply keeps_takeWarm; apply keeps_emit
  apply keeps_State_count; apply keeps_setPrompter; apply keeps_ite; apply keeps_State_raise; apply keeps_State_setFld
  apply keeps_State_setFld; apply keeps_ite; apply keeps_State_modBoard; assumption; assumption; apply keeps_State_setFld
  apply keeps_State_setFld; apply keeps_ite; apply keeps_State_modBoard; assumption; assumption; apply keeps_takeCold; apply keeps_emit
  apply keeps_State_count; apply keeps_setPrompter; apply keeps_ite; apply keeps_State_raise; apply keeps_State_setFld
  apply keeps_State_setFld; apply keeps_ite; apply keeps_State_modBoard; assumption; assumption; apply keeps_State_setFld
  apply keeps_State_setFld; apply keeps_ite; apply keeps_State_modBoard; assumption; assumption

theorem keeps_orphaned {W : Part → Prop} [May W .regs] {s0 : State} (s : State) (hk0 : Keeps W s0 s) : Keeps W s0 (orphaned s) := by
  unfold orphaned; apply keeps_ite; apply keeps_State_raise; apply keeps_State_setFld; assumption; assumption

theorem keeps_declareFailed {W : Part → Prop} [May W .regs] [May W .board] [May W .outbox] {s0 : State} (w : Who) (s : State) (hk0
    : Keeps W s0 s) : Keeps W s0 (declareFailed w s) := by
  unfold declareFailed; dsimp only; apply keeps_ite; apply keeps_ite; apply keeps_ite; apply keeps_State_raise; apply keeps_grant
  apply keeps_State_modBoard; apply keeps_ite; apply keeps_State_setFld; apply keeps_State_modBoard; apply keeps_setPrompter
  apply keeps_State_modPrompter; assumption; apply keeps_setPrompter; apply keeps_State_modPrompter; assumption; apply keeps_orphaned
  apply keeps_grant; apply keeps_State_modBoard; apply keeps_ite; apply keeps_State_setFld; apply keeps_State_modBoard
  apply keeps_setPrompter; apply keeps_State_modPrompter; assumption; apply keeps_setPrompter; apply keeps_State_modPrompter; assumption
  apply keeps_orphaned; apply keeps_State_modBoard; apply keeps_ite; apply keeps_State_setFld; apply keeps_State_modBoard
  apply keeps_setPrompter; apply keeps_State_modPrompter; assumption; apply keeps_setPrompter; apply keeps_State_modPrompter; assumption
  apply keeps_ite; apply keeps_admitAll; apply keeps_State_raise; apply keeps_ite; apply keeps_State_setFld; apply keeps_State_modBoard
  apply keeps_setPrompter; apply keeps_State_modPrompter; assumption; apply keeps_setPrompter; apply keeps_State_modPrompter; assumption
  apply keeps_ite; apply keeps_State_setFld; apply keeps_State_modBoard; apply keeps_setPrompter; apply keeps_State_modPrompter
  assumption; apply keeps_setPrompter; apply keeps_State_modPrompter; assumption

theorem keeps_joinPrompter {W : Part → Prop} [May W .regs] [May W .board] [May W .outbox] {s0 : State} (w : Who) (s : State) (hk0
    : Keeps W s0 s) : Keeps W s0 (joinPrompter w s) := by
  unfold joinPrompter; dsimp only; apply keeps_ite; apply keeps_orphaned; apply keeps_grant; apply keeps_State_modPrompter; assumption
  apply keeps_startCheckpoint; apply keeps_setPrompter; apply keeps_State_modPrompter; assumption

theorem keeps_endWindow {W : Part → Prop} [May W .board] {s0 : State} (w : Who) (s : State) (hk0 : Keeps W s0 s) : Keeps W s0
    (endWindow w s).2 := by
  unfold endWindow; split; dsimp only; assumption; dsimp only; split; dsimp only; apply keeps_State_modPrompter; assumption; dsimp only
  apply keeps_State_modPrompter; assumption

theorem keeps_keepWrite {W : Part → Prop} [May W .board] {s0 : State} (w : Who) (k seq : Nat) (e : SideEffect) (s : State) (hk0
    : Keeps W s0 s) : Keeps W s0 (keepWrite w k seq e s) := by
  unfold keepWrite; apply keeps_State_modPrompter; assumption

theorem keeps_finishCheckpoint {W : Part → Prop} [May W .regs] [May W .board] {s0 : State} (body : List Byte) (s : State) (hk0
    : Keeps W s0 s) : Keeps W s0 (finishCheckpoint body s) := by
  unfold finishCheckpoint; split; assumption; dsimp only; apply keeps_ite; apply keeps_startCheckpoint; apply keeps_State_setFld
  apply keeps_State_modBoard; assumption; apply keeps_State_setFld; apply keeps_State_modBoard; assumption

theorem keeps_abandonCheckpoint {W : Part → Prop} [May W .regs] [May W .board] {s0 : State} (s : State) (hk0 : Keeps W s0 s)
    : Keeps W s0 (abandonCheckpoint s) := by
  unfold abandonCheckpoint; dsimp only; apply keeps_ite; apply keeps_startCheckpoint; apply keeps_State_modBoard
  apply keeps_State_raise; apply keeps_State_modBoard; assumption; apply keeps_State_modBoard; apply keeps_State_raise
  apply keeps_State_modBoard; assumption

theorem keeps_adoptCheckpoint {W : Part → Prop} [May W .regs] [May W .board] [May W .outbox] {s0 : State} (w : Who) (c : Checkpoint)
    (s : State) (hk0 : Keeps W s0 s) : Keeps W s0 (adoptCheckpoint w c s) := by
  unfold adoptCheckpoint; dsimp only; apply keeps_admitAll; apply keeps_ite; apply keeps_ite; apply keeps_State_setFld
  apply keeps_State_modBoard; apply keeps_State_setFld; apply keeps_setPrompter; apply keeps_State_modBoard; assumption
  apply keeps_State_raise; apply keeps_State_setFld; apply keeps_startCheckpoint; apply keeps_grant; split; apply keeps_setPrompter
  apply keeps_State_modBoard; apply keeps_State_setFld; apply keeps_setPrompter; apply keeps_State_modBoard; assumption
  apply keeps_State_modBoard; apply keeps_State_setFld; apply keeps_setPrompter; apply keeps_State_modBoard; assumption
  apply keeps_State_setFld; apply keeps_setPrompter; apply keeps_State_modBoard; assumption

theorem keeps_State_modMail {W : Part → Prop} [May W .mail] {s0 : State} (s : State) (f : Mail → Mail) (hk0 : Keeps W s0 s) : Keeps W s0
    (State.modMail s f) := by
  unfold State.modMail; with_reducible apply keeps_with_mail; assumption

theorem keeps_State_setMailQ {W : Part → Prop} [May W .mail] {s0 : State} (s : State) (c dir : Nat) (q : List Msg) (hk0
    : Keeps W s0 s) : Keeps W s0 (State.setMailQ s c dir q) := by
  unfold State.setMailQ; apply keeps_State_modMail; assumption

theorem keeps_queueNotice {W : Part → Prop} [May W .regs] [May W .mail] {s0 : State} (aborted : Bool) (f : Frame) (s : State) (hk0
    : Keeps W s0 s) : Keeps W s0 (queueNotice aborted f s) := by
  unfold queueNotice; dsimp only; apply keeps_ite; apply keeps_ite; assumption; apply keeps_State_raise; apply keeps_State_count
  assumption; apply keeps_State_modMail; assumption

theorem keeps_sendMboxNotice {W : Part → Prop} [May W .regs] [May W .links] [May W .swc] [May W .mail] {s0 : State} (s : State)
    (hk0 : Keeps W s0 s) : Keeps W s0 (sendMboxNotice s) := by
  unfold sendMboxNotice; split; assumption; apply keeps_sendFrame; apply keeps_State_modMail; assumption

theorem keeps_noticeTo {W : Part → Prop} [May W .regs] [May W .swc] [May W .mail] {s0 : State} (p : Nat × Nat) (c kind seq : Nat)
    (s : State) (hk0 : Keeps W s0 s) : Keeps W s0 (noticeTo p c kind seq s) := by
  unfold noticeTo; dsimp only; apply keeps_queueNotice; apply keeps_takeSeq; assumption

theorem keeps_startDelivery {W : Part → Prop} [May W .regs] [May W .links] [May W .swc] [May W .mail] {s0 : State} (c dir : Nat)
    (s : State) (hk0 : Keeps W s0 s) : Keeps W s0 (startDelivery c dir s) := by
  unfold startDelivery; split; assumption; apply keeps_ite; assumption; dsimp only; apply keeps_sendFrame; apply keeps_State_modMail
  apply keeps_takeSeq; assumption

theorem keeps_callParty {W : Part → Prop} [May W .regs] [May W .board] [May W .outbox] {s0 : State} (c : Nat) (p : Nat × Nat)
    (i : Input) (s : State) (hk0 : Keeps W s0 s) : Keeps W s0 (callParty c p i s) := by
  unfold callParty; apply keeps_ite; apply keeps_signalMsix; assumption; apply keeps_ite; apply keeps_intake; assumption; assumption

theorem keeps_enqueueMsg {W : Part → Prop} [May W .regs] [May W .links] [May W .swc] [May W .cue] [May W .board] [May W .mail]
    [May W .waking] [May W .outbox] {s0 : State} (c dir : Nat) (m : Msg) (s : State) (hk0 : Keeps W s0 s) : Keeps W s0
    (enqueueMsg c dir m s) := by
  unfold enqueueMsg; dsimp only; apply keeps_startDelivery; apply keeps_ite; apply keeps_ringDoorbell; apply keeps_ite
  apply keeps_callParty; apply keeps_State_setMailQ; assumption; apply keeps_State_setMailQ; assumption; apply keeps_ite
  apply keeps_callParty; apply keeps_State_setMailQ; assumption; apply keeps_State_setMailQ; assumption

theorem keeps_popMsg {W : Part → Prop} [May W .regs] [May W .links] [May W .swc] [May W .board] [May W .mail] [May W .outbox]
    {s0 : State} (c dir : Nat) (s : State) (hk0 : Keeps W s0 s) : Keeps W s0 (popMsg c dir s) := by
  unfold popMsg; split; assumption; dsimp only; apply keeps_ite; apply keeps_ite; apply keeps_noticeTo; apply keeps_State_setMailQ
  assumption; apply keeps_callParty; apply keeps_State_setMailQ; assumption; apply keeps_startDelivery; apply keeps_State_setMailQ
  assumption

theorem keeps_abortMsg {W : Part → Prop} [May W .regs] [May W .swc] [May W .board] [May W .mail] {s0 : State} (c dir : Nat) (m : Msg)
    (s : State) (hk0 : Keeps W s0 s) : Keeps W s0 (abortMsg c dir m s) := by
  unfold abortMsg; dsimp only; apply keeps_ite; apply keeps_noticeTo; assumption; apply keeps_ite; apply keeps_State_satFld; assumption
  apply keeps_intake; assumption

theorem keeps_sendLocal {W : Part → Prop} [May W .regs] [May W .links] [May W .swc] [May W .cue] [May W .board] [May W .mail]
    [May W .waking] [May W .outbox] {s0 : State} (c dir p : Nat) (data : List Byte) (s : State) (hk0 : Keeps W s0 s) : Keeps W s0
    (sendLocal c dir p data s) := by
  unfold sendLocal; dsimp only; apply keeps_enqueueMsg; apply keeps_State_modMail; assumption

theorem keeps_hostSend {W : Part → Prop} [May W .regs] [May W .links] [May W .swc] [May W .cue] [May W .board] [May W .mail]
    [May W .waking] [May W .outbox] {s0 : State} (c n : Nat) (s : State) (hk0 : Keeps W s0 s) : Keeps W s0 (hostSend c n s) := by
  unfold hostSend; split; apply keeps_State_setFld; assumption; apply keeps_State_setFld; apply keeps_sendLocal; assumption

theorem keeps_prompterSend {W : Part → Prop} [May W .regs] [May W .links] [May W .swc] [May W .cue] [May W .board] [May W .mail]
    [May W .waking] [May W .outbox] {s0 : State} (c : Nat) (data : List Byte) (s : State) (hk0 : Keeps W s0 s) : Keeps W s0
    (prompterSend c data s) := by
  unfold prompterSend; split; apply keeps_intake; assumption; apply keeps_sendLocal; assumption

theorem keeps_popFor {W : Part → Prop} [May W .regs] [May W .links] [May W .swc] [May W .board] [May W .mail] [May W .outbox]
    {s0 : State} (c p : Nat) (s : State) (hk0 : Keeps W s0 s) : Keeps W s0 (popFor c p s) := by
  unfold popFor; split; assumption; apply keeps_popMsg; assumption

theorem keeps_takeMsg {W : Part → Prop} [May W .regs] [May W .links] [May W .swc] [May W .cue] [May W .board] [May W .mail]
    [May W .waking] [May W .outbox] {s0 : State} (f : Frame) (s : State) (hk0 : Keeps W s0 s) : Keeps W s0 (takeMsg f s) := by
  unfold takeMsg; dsimp only; split; apply keeps_queueNotice; apply keeps_ite; apply keeps_State_raise; apply keeps_State_count
  assumption; assumption; apply keeps_queueNotice; assumption; apply keeps_enqueueMsg; apply keeps_queueNotice
  apply keeps_State_modMail; assumption

theorem keeps_takeMboxNotice {W : Part → Prop} [May W .regs] [May W .links] [May W .swc] [May W .board] [May W .mail] [May W .outbox]
    {s0 : State} (f : Frame) (s : State) (hk0 : Keeps W s0 s) : Keeps W s0 (takeMboxNotice f s) := by
  unfold takeMboxNotice; dsimp only; split; apply keeps_ite; apply keeps_popMsg; apply keeps_State_modMail; assumption
  apply keeps_intake; assumption; apply keeps_intake; assumption

theorem keeps_resendMsg {W : Part → Prop} [May W .regs] [May W .links] [May W .swc] [May W .board] [May W .mail] {s0 : State}
    (c dir : Nat) (s : State) (hk0 : Keeps W s0 s) : Keeps W s0 (resendMsg c dir s) := by
  unfold resendMsg; split; apply keeps_ite; assumption; apply keeps_ite; dsimp only; apply keeps_sendFrame; apply keeps_State_modMail
  assumption; dsimp only; apply keeps_startDelivery; apply keeps_abortMsg; apply keeps_State_setMailQ; apply keeps_State_modMail
  assumption; assumption

theorem keeps_forceSems {W : Part → Prop} [May W .mail] {s0 : State} (p : Nat × Nat → Bool) (s : State) (hk0 : Keeps W s0 s)
    : Keeps W s0 (forceSems p s) := by
  unfold forceSems; dsimp only; apply keeps_State_modMail; assumption

theorem keeps_clearToward {W : Part → Prop} [May W .regs] [May W .swc] [May W .board] [May W .mail] {s0 : State} (party : Nat)
    (s : State) (hk0 : Keeps W s0 s) : Keeps W s0 (clearToward party s) := by
  unfold clearToward; apply keeps_forEach; intro _; intro _; intro _; dsimp only; apply keeps_ite; apply keeps_forEach; intro _; intro _
  intro _; apply keeps_abortMsg; assumption; apply keeps_State_modMail; apply keeps_State_setMailQ; assumption; assumption; assumption

theorem keeps_resetParty {W : Part → Prop} [May W .regs] [May W .swc] [May W .board] [May W .mail] {s0 : State} (party : Nat)
    (s : State) (hk0 : Keeps W s0 s) : Keeps W s0 (resetParty party s) := by
  unfold resetParty; dsimp only; apply keeps_clearToward; apply keeps_forceSems; apply keeps_ite; apply keeps_State_count; assumption
  apply keeps_ite; apply keeps_State_count; assumption; apply keeps_State_count; assumption

theorem keeps_State_setSem {W : Part → Prop} [May W .mail] {s0 : State} (s : State) (n : Nat) (x : Sem) (hk0 : Keeps W s0 s)
    : Keeps W s0 (State.setSem s n x) := by
  unfold State.setSem; apply keeps_State_modMail; assumption

theorem keeps_acquireSem {W : Part → Prop} [May W .mail] {s0 : State} (n : Nat) (who : Nat × Nat) (s : State) (hk0 : Keeps W s0 s)
    : Keeps W s0 (acquireSem n who s).2 := by
  unfold acquireSem; dsimp only; split; dsimp only; assumption; dsimp only; apply keeps_State_setSem; assumption

theorem keeps_releaseSem {W : Part → Prop} [May W .mail] {s0 : State} (n : Nat) (who : Nat × Nat) (s : State) (hk0 : Keeps W s0 s)
    : Keeps W s0 (releaseSem n who s).2 := by
  unfold releaseSem; split; dsimp only; apply keeps_State_setSem; assumption; dsimp only; assumption

theorem keeps_linkLost {W : Part → Prop} [May W .regs] [May W .swc] [May W .ten] [May W .sp] [May W .cue] [May W .col] [May W .board]
    [May W .mail] [May W .host] [May W .outbox] {s0 : State} (l : Nat) (s : State) (hk0 : Keeps W s0 s) : Keeps W s0 (linkLost l s) := by
  unfold linkLost; dsimp only; apply keeps_ite; apply keeps_ite; apply keeps_State_modSwc; apply keeps_ite; apply keeps_memberLost
  assumption; assumption; apply keeps_resetParty; apply keeps_State_modSwc; apply keeps_ite; apply keeps_memberLost; assumption
  assumption; apply keeps_ite; apply keeps_alert; apply keeps_ite; apply keeps_memberLost; assumption; assumption; apply keeps_ite
  apply keeps_memberLost; assumption; assumption

theorem keeps_watchLink {W : Part → Prop} [May W .regs] [May W .swc] [May W .ten] [May W .sp] [May W .cue] [May W .col] [May W .board]
    [May W .mail] [May W .host] [May W .outbox] {s0 : State} (l : Nat) (f : State → State) (s : State)
    (hf_f : ∀ x0, Keeps W s0 x0 → Keeps W s0 (f x0)) (hk0 : Keeps W s0 s) : Keeps W s0 (watchLink l f s) := by
  unfold watchLink; dsimp only; apply keeps_ite; apply keeps_linkLost; apply hf_f; assumption; apply hf_f; assumption

theorem keeps_takeDown {W : Part → Prop} [May W .regs] [May W .links] [May W .swc] [May W .ten] [May W .sp] [May W .cue] [May W .col]
    [May W .board] [May W .mail] [May W .host] [May W .rhs] [May W .outbox] {s0 : State} (l st cause : Nat) (why : DownCause)
    (s : State) (hk0 : Keeps W s0 s) : Keeps W s0 (takeDown l st cause why s) := by
  unfold takeDown; apply keeps_watchLink; intro _; intro _; apply keeps_enterDown; apply keeps_sayDown; assumption; assumption

theorem keeps_portsOff {W : Part → Prop} [May W .regs] [May W .links] [May W .swc] [May W .ten] [May W .sp] [May W .cue] [May W .col]
    [May W .board] [May W .mail] [May W .host] [May W .rhs] [May W .outbox] {s0 : State} (cause : Nat) (why : DownCause) (s : State)
    (hk0 : Keeps W s0 s) : Keeps W s0 (portsOff cause why s) := by
  unfold portsOff; apply keeps_forEach; intro _; intro _; intro _; dsimp only; apply keeps_State_setFld; apply keeps_ite; assumption
  apply keeps_takeDown; assumption; assumption

theorem keeps_State_modPower {W : Part → Prop} [May W .power] {s0 : State} (s : State) (f : Power → Power) (hk0 : Keeps W s0 s)
    : Keeps W s0 (State.modPower s f) := by
  unfold State.modPower; with_reducible apply keeps_with_power; assumption

theorem keeps_retiredOff {W : Part → Prop} [May W .regs] [May W .spState] {s0 : State} (s : State) (hk0 : Keeps W s0 s) : Keeps W s0
    (retiredOff s) := by
  unfold retiredOff; apply keeps_forEach; intro _; intro _; intro _; apply keeps_ite; apply keeps_setUnit; assumption; assumption
  assumption

theorem keeps_abortCrossings {W : Part → Prop} [May W .regs] [May W .swc] [May W .ten] [May W .sp] [May W .cue] [May W .col]
    {s0 : State} (s : State) (hk0 : Keeps W s0 s) : Keeps W s0 (abortCrossings s) := by
  unfold abortCrossings; dsimp only; apply keeps_State_modTen; exact byteStep_refl _; apply keeps_State_modCue; exact byteStep_refl _
  apply keeps_forEach; intro _; intro _; intro _; apply keeps_State_modCtr; assumption; apply keeps_forEach; intro _; intro _; intro _
  apply keeps_failXfer; assumption; apply keeps_forEach; intro _; intro _; intro _; apply keeps_ite; assumption; apply keeps_abortDark
  assumption; assumption

theorem keeps_dropContexts {W : Part → Prop} [May W .regs] [May W .cue] {s0 : State} (s : State) (hk0 : Keeps W s0 s) : Keeps W s0
    (dropContexts s) := by
  unfold dropContexts; apply keeps_forEach; intro _; intro _; intro _; apply keeps_ite; apply keeps_State_setFld
  apply keeps_State_setFld; apply keeps_State_setCtx; assumption; assumption; assumption

theorem keeps_discardFires {W : Part → Prop} [May W .regs] {s0 : State} (s : State) (hk0 : Keeps W s0 s) : Keeps W s0 (discardFires s) := by
  unfold discardFires; apply keeps_forEach; intro _; intro _; intro _; apply keeps_ite; apply keeps_State_raise; apply keeps_State_count
  apply keeps_State_setFld; assumption; assumption; assumption

theorem keeps_forceDark {W : Part → Prop} [May W .regs] [May W .cue] [May W .spState] {s0 : State} (u : UnitId) (s : State) (hk0
    : Keeps W s0 s) : Keeps W s0 (forceDark u s) := by
  unfold forceDark; apply keeps_ite; assumption; dsimp only; split; apply keeps_ite; apply keeps_State_setFld; apply keeps_sendToSleep
  assumption; apply keeps_sendToSleep; assumption; apply keeps_sendToSleep; assumption

theorem keeps_stopWork {W : Part → Prop} [May W .regs] [May W .swc] [May W .ten] [May W .sp] [May W .cue] [May W .col] [May W .power]
    [May W .rhs] [May W .spState] [May W .waking] {s0 : State} (s : State) (hk0 : Keeps W s0 s) : Keeps W s0 (stopWork s) := by
  unfold stopWork; dsimp only; apply keeps_State_setFld; apply keeps_forEach; intro _; intro _; intro _; apply keeps_forceDark
  assumption; apply keeps_retiredOff; with_reducible apply keeps_with_waking; apply keeps_State_modPower; apply keeps_abandonAllSlices
  apply keeps_discardFires; apply keeps_dropContexts; apply keeps_abortCrossings; assumption

theorem keeps_enterGhost {W : Part → Prop} [May W .regs] [May W .swc] [May W .ten] [May W .sp] [May W .cue] [May W .col] [May W .power]
    [May W .rhs] [May W .spState] [May W .waking] {s0 : State} (s : State) (hk0 : Keeps W s0 s) : Keeps W s0 (enterGhost s) := by
  unfold enterGhost; apply keeps_ite; apply keeps_State_raise; apply keeps_stopWork; apply keeps_State_setFld; assumption; assumption

theorem keeps_setCause {W : Part → Prop} [May W .regs] [May W .house] [May W .swc] [May W .ten] [May W .sp] [May W .cue] [May W .col]
    [May W .power] [May W .rhs] [May W .spState] [May W .waking] {s0 : State} (b : Nat) (s : State) (hk0 : Keeps W s0 s) : Keeps W s0
    (setCause b s) := by
  unfold setCause; apply keeps_enterGhost; dsimp only; with_reducible apply keeps_with_house; apply keeps_State_raise; assumption

theorem keeps_clearCause {W : Part → Prop} [May W .regs] [May W .house] [May W .power] {s0 : State} (b : Nat) (s : State) (hk0
    : Keeps W s0 s) : Keeps W s0 (clearCause b s) := by
  unfold clearCause; dsimp only; apply keeps_ite; with_reducible apply keeps_with_house; apply keeps_State_modPower
  apply keeps_State_setFld; assumption; apply keeps_State_setFld; assumption

theorem keeps_startSlices {W : Part → Prop} [May W .rhs] {s0 : State} (s : State) (hk0 : Keeps W s0 s) : Keeps W s0 (startSlices s) := by
  unfold startSlices; dsimp only; with_reducible apply keeps_with_rhs; assumption

theorem keeps_leaveGhost {W : Part → Prop} [May W .regs] [May W .house] [May W .rhs] [May W .spState] [May W .waking] {s0 : State}
    (s : State) (hk0 : Keeps W s0 s) : Keeps W s0 (leaveGhost s) := by
  unfold leaveGhost; dsimp only; apply keeps_settleOpen; apply keeps_forEach; intro _; intro _; intro _; apply keeps_ite
  apply keeps_wakeUnit; assumption; assumption; apply keeps_forEach; intro _; intro _; intro _; apply keeps_ite
  apply keeps_State_setFld; assumption; assumption; apply keeps_forEach; intro _; intro _; intro _; apply keeps_ite
  apply keeps_unitWakes; assumption; assumption; apply keeps_startSlices; with_reducible apply keeps_with_house
  apply keeps_State_setFld; assumption

theorem keeps_hostLinkLost {W : Part → Prop} [May W .regs] [May W .swc] [May W .board] [May W .mail] {s0 : State} (s : State) (hk0
    : Keeps W s0 s) : Keeps W s0 (hostLinkLost s) := by
  unfold hostLinkLost; apply keeps_ite; assumption; apply keeps_resetParty; apply keeps_State_setFld; apply keeps_State_setFld
  apply keeps_State_setFld; assumption

theorem keeps_State_modHost {W : Part → Prop} [May W .host] {s0 : State} (s : State) (f : HostPort → HostPort) (hk0
    : Keeps W s0 s) : Keeps W s0 (State.modHost s f) := by
  unfold State.modHost; with_reducible apply keeps_with_host; assumption

theorem keeps_resetHostPort {W : Part → Prop} [May W .regs] [May W .mem] [May W .host] {s0 : State} (s : State) (hk0
    : Keeps W s0 s) : Keeps W s0 (resetHostPort s) := by
  unfold resetHostPort; dsimp only; apply keeps_State_modHost; apply keeps_State_modMem; exact byteStep_refl _; apply keeps_State_setFld
  apply keeps_State_setFld; apply keeps_State_setFld; assumption

theorem keeps_hostPortOff {W : Part → Prop} [May W .regs] [May W .swc] [May W .mem] [May W .board] [May W .mail] [May W .host]
    {s0 : State} (s : State) (hk0 : Keeps W s0 s) : Keeps W s0 (hostPortOff s) := by
  unfold hostPortOff; apply keeps_resetHostPort; apply keeps_hostLinkLost; assumption

theorem keeps_applyRepair {W : Part → Prop} [May W .regs] [May W .mem] [May W .ten] [May W .waking] {s0 : State} (cls elem st : Nat)
    (s : State) (hk0 : Keeps W s0 s) : Keeps W s0 (applyRepair cls elem st s) := by
  unfold applyRepair; apply keeps_ite; dsimp only; apply keeps_ite; apply keeps_State_raise; assumption; apply keeps_State_raise
  assumption; apply keeps_ite; apply keeps_swingTile; assumption; apply keeps_ite; dsimp only; apply keeps_ite; apply keeps_refreshSpace
  apply keeps_State_modTen; exact byteStep_refl _; assumption; apply keeps_State_addFld; apply keeps_State_setFld
  apply keeps_State_modTen; exact byteStep_refl _; assumption; apply keeps_ite; dsimp only; apply keeps_ite; apply keeps_State_setFld
  assumption; apply keeps_State_addFld; assumption; apply keeps_ite; apply keeps_ite; apply keeps_State_raise; assumption
  apply keeps_State_setChan; apply keeps_State_setFld; apply keeps_State_setFld; assumption; assumption

theorem keeps_applyRepairLog {W : Part → Prop} [May W .regs] [May W .mem] [May W .ten] [May W .waking] {s0 : State} (s : State)
    (hk0 : Keeps W s0 s) : Keeps W s0 (applyRepairLog s) := by
  unfold applyRepairLog; apply keeps_forEach; intro _; intro _; intro _; dsimp only; apply keeps_ite; assumption
  apply keeps_applyRepair; assumption; assumption

theorem keeps_clearDie {W : Part → Prop} [May W .links] [May W .swc] [May W .mem] [May W .dram] [May W .ten] [May W .sp] [May W .cue] [May W .store] [May W .col] [May W .spState] [May W .waking] {s0 : State} (s : State) (hk0 : Keeps W s0 s) : Keeps W s0 (clearDie s) := by
  refine keeps_move (s := s) rfl rfl (fun hw => ?_) (Nat.le_refl _) (List.prefix_refl _) (fun q g => ?_) hk0
  · rw [Memory.wf_iff] at *; exact ⟨hw.1, by first | exact hw.2.1 | rfl, rfl, by first | exact hw.2.2.2 | rfl⟩
  · cases q <;> first | exact absurd May.may g | first | exact rfl | exact ⟨rfl, rfl⟩

theorem keeps_loseDie {W : Part → Prop} [May W .regs] [May W .house] [May W .links] [May W .sites] [May W .swc] [May W .mem]
    [May W .dram] [May W .ten] [May W .sp] [May W .cue] [May W .store] [May W .col] [May W .power] [May W .spState] [May W .waking]
    {s0 : State} (s : State) (hk0 : Keeps W s0 s) : Keeps W s0 (loseDie s) := by
  unfold loseDie; dsimp only; apply keeps_State_setFld; apply keeps_forEach; intro _; intro _; intro _; apply keeps_setUnit; assumption
  apply keeps_forEach; intro _; intro _; intro _; apply keeps_setUnit; assumption; apply keeps_State_modPower
  with_reducible apply keeps_with_house; apply keeps_forEach; intro _; intro _; intro _; apply keeps_State_setSite; assumption
  apply keeps_refreshSpace; apply keeps_retirePending; apply keeps_clearDie; with_reducible apply keeps_with_regs; apply keeps_forEach
  intro _; intro _; intro _; apply keeps_State_setFld; assumption; assumption

theorem keeps_abandonStrike {W : Part → Prop} [May W .regs] {s0 : State} (s : State) (hk0 : Keeps W s0 s) : Keeps W s0
    (abandonStrike s) := by
  unfold abandonStrike; apply keeps_ite; apply keeps_State_setFld; apply keeps_State_setFld; assumption; assumption

theorem keeps_recordOff {W : Part → Prop} [May W .regs] {s0 : State} (cause : Nat) (s : State) (hk0 : Keeps W s0 s) : Keeps W s0
    (recordOff cause s) := by
  unfold recordOff; apply keeps_State_setFld; apply keeps_State_setFld; assumption

theorem keeps_startPowerDown {W : Part → Prop} [May W .regs] [May W .house] [May W .links] [May W .swc] [May W .mem] [May W .ten]
    [May W .sp] [May W .cue] [May W .col] [May W .board] [May W .mail] [May W .power] [May W .host] [May W .rhs] [May W .spState]
    [May W .waking] [May W .outbox] {s0 : State} (cause : Nat) (s : State) (hk0 : Keeps W s0 s) : Keeps W s0
    (startPowerDown cause s) := by
  unfold startPowerDown; dsimp only; apply keeps_State_raise; apply keeps_recordOff; apply keeps_hostPortOff; apply keeps_State_setFld
  with_reducible apply keeps_with_house; apply keeps_abandonStrike; apply keeps_stopWork; apply keeps_portsOff; assumption

theorem keeps_enableNext {W : Part → Prop} [May W .power] {s0 : State} (s : State) (hk0 : Keeps W s0 s) : Keeps W s0 (enableNext s) := by
  unfold enableNext; split; apply keeps_ite; assumption; apply keeps_State_modPower; assumption; assumption

theorem keeps_returnFromOff {W : Part → Prop} [May W .regs] [May W .spState] {s0 : State} (u : UnitId) (s : State) (hk0
    : Keeps W s0 s) : Keeps W s0 (returnFromOff u s) := by
  unfold returnFromOff; apply keeps_quarantine; apply keeps_setUnit; assumption

theorem keeps_tileReturns {W : Part → Prop} [May W .regs] [May W .spState] {s0 : State} (p : Nat) (s : State) (hk0 : Keeps W s0 s)
    : Keeps W s0 (tileReturns p s) := by
  unfold tileReturns; apply keeps_ite; apply keeps_setUnit; assumption; apply keeps_returnFromOff; assumption

theorem keeps_portReturns {W : Part → Prop} [May W .regs] [May W .spState] {s0 : State} (l : Nat) (s : State) (hk0 : Keeps W s0 s)
    : Keeps W s0 (portReturns l s) := by
  unfold portReturns; apply keeps_ite; apply keeps_State_setFld; assumption; apply keeps_returnFromOff; assumption

theorem keeps_portUsed {W : Part → Prop} [May W .regs] [May W .spState] {s0 : State} (l : Nat) (s : State) (hk0 : Keeps W s0 s)
    : Keeps W s0 (portUsed l s) := by
  unfold portUsed; apply keeps_ite; apply keeps_returnFromOff; assumption; assumption

theorem keeps_dieRises {W : Part → Prop} [May W .regs] [May W .house] [May W .links] [May W .swc] [May W .ten] [May W .sp] [May W .cue]
    [May W .col] [May W .power] [May W .rhs] [May W .spState] [May W .waking] [May W .outbox] {s0 : State} (s : State) (hk0
    : Keeps W s0 s) : Keeps W s0 (dieRises s) := by
  unfold dieRises; dsimp only; apply keeps_ite; apply keeps_enterGhost; apply keeps_forEach; intro _; intro _; intro _
  apply keeps_freshTraining; assumption; apply keeps_State_addFld; apply keeps_State_modPower; with_reducible apply keeps_with_house
  apply keeps_forEach; intro _; intro _; intro _; apply keeps_portReturns; assumption; apply keeps_forEach; intro _; intro _; intro _
  apply keeps_setUnit; assumption; apply keeps_forEach; intro _; intro _; intro _; apply keeps_returnFromOff; assumption
  apply keeps_forEach; intro _; intro _; intro _; apply keeps_tileReturns; assumption; apply keeps_startSlices; apply keeps_State_setFld
  assumption; apply keeps_forEach; intro _; intro _; intro _; apply keeps_freshTraining; assumption; apply keeps_State_addFld
  apply keeps_State_modPower; with_reducible apply keeps_with_house; apply keeps_forEach; intro _; intro _; intro _
  apply keeps_portReturns; assumption; apply keeps_forEach; intro _; intro _; intro _; apply keeps_setUnit; assumption
  apply keeps_forEach; intro _; intro _; intro _; apply keeps_returnFromOff; assumption; apply keeps_forEach; intro _; intro _; intro _
  apply keeps_tileReturns; assumption; apply keeps_startSlices; apply keeps_State_setFld; assumption

theorem keeps_pmicStep {W : Part → Prop} [May W .house] [May W .power] {s0 : State} (s : State) (hk0 : Keeps W s0 s) : Keeps W s0
    (pmicStep s) := by
  unfold pmicStep; dsimp only; apply keeps_ite; assumption; apply keeps_ite; apply keeps_State_modPower
  with_reducible apply keeps_with_house; assumption; apply keeps_ite; with_reducible apply keeps_with_house; assumption; assumption

theorem keeps_tripIron {W : Part → Prop} [May W .regs] [May W .house] [May W .links] [May W .sites] [May W .swc] [May W .mem]
    [May W .dram] [May W .ten] [May W .sp] [May W .cue] [May W .store] [May W .col] [May W .board] [May W .mail] [May W .power]
    [May W .host] [May W .rhs] [May W .spState] [May W .waking] [May W .outbox] {s0 : State} (cause : Nat) (s : State) (hk0
    : Keeps W s0 s) : Keeps W s0 (tripIron cause s) := by
  unfold tripIron; dsimp only; apply keeps_State_raise; apply keeps_recordOff; apply keeps_State_setFld; apply keeps_State_setFld
  apply keeps_State_raise; apply keeps_State_setFld; apply keeps_loseDie; with_reducible apply keeps_with_house; apply keeps_hostPortOff
  apply keeps_abandonStrike; apply keeps_stopWork; apply keeps_portsOff; assumption

theorem keeps_clearIron {W : Part → Prop} [May W .regs] {s0 : State} (s : State) (hk0 : Keeps W s0 s) : Keeps W s0 (clearIron s) := by
  unfold clearIron; dsimp only; apply keeps_ite; apply keeps_State_setFld; apply keeps_State_setFld; apply keeps_State_setFld
  assumption; apply keeps_State_setFld; apply keeps_State_setFld; assumption

theorem keeps_refreshCap {W : Part → Prop} [May W .regs] {s0 : State} (s : State) (hk0 : Keeps W s0 s) : Keeps W s0 (refreshCap s) := by
  unfold refreshCap; dsimp only; apply keeps_State_setFld; assumption

theorem keeps_governorTick {W : Part → Prop} [May W .regs] {s0 : State} (demand pacedCycles : Nat) (s : State) (hk0
    : Keeps W s0 s) : Keeps W s0 (governorTick demand pacedCycles s) := by
  unfold governorTick; dsimp only; apply keeps_ite; apply keeps_pmcEvent; apply keeps_State_addFld; apply keeps_State_setFld
  apply keeps_State_setFld; apply keeps_State_setFld; apply keeps_State_setFld; assumption; apply keeps_State_setFld
  apply keeps_State_setFld; apply keeps_State_setFld; apply keeps_State_setFld; assumption

theorem keeps_rmHeartbeat {W : Part → Prop} [May W .regs] [May W .power] {s0 : State} (s : State) (hk0 : Keeps W s0 s) : Keeps W s0
    (rmHeartbeat s) := by
  unfold rmHeartbeat; apply keeps_refreshCap; apply keeps_State_setFld; apply keeps_State_modPower; assumption

theorem keeps_settleLevels {W : Part → Prop} [May W .regs] [May W .house] [May W .swc] [May W .ten] [May W .sp] [May W .cue]
    [May W .col] [May W .power] [May W .rhs] [May W .spState] [May W .waking] {s0 : State} (s : State) (hk0 : Keeps W s0 s) : Keeps W s0
    (settleLevels s) := by
  unfold settleLevels; dsimp only; apply keeps_ite; apply keeps_clearCause; apply keeps_ite; apply keeps_setCause
  apply keeps_State_raise; apply keeps_ite; apply keeps_State_raise; apply keeps_State_setFld; apply keeps_State_setFld; assumption
  apply keeps_State_setFld; apply keeps_State_setFld; assumption; apply keeps_ite; apply keeps_State_raise; apply keeps_State_setFld
  apply keeps_State_setFld; assumption; apply keeps_State_setFld; apply keeps_State_setFld; assumption; apply keeps_ite
  apply keeps_setCause; apply keeps_State_raise; apply keeps_ite; apply keeps_State_raise; apply keeps_State_setFld
  apply keeps_State_setFld; assumption; apply keeps_State_setFld; apply keeps_State_setFld; assumption; apply keeps_ite
  apply keeps_State_raise; apply keeps_State_setFld; apply keeps_State_setFld; assumption; apply keeps_State_setFld
  apply keeps_State_setFld; assumption

theorem keeps_takeReadings {W : Part → Prop} [May W .regs] {s0 : State} (rs : List Nat) (s : State) (hk0 : Keeps W s0 s) : Keeps W s0
    (takeReadings rs s) := by
  unfold takeReadings; apply keeps_forEach; intro _; intro _; intro _; dsimp only; apply keeps_ite; apply keeps_State_raise
  apply keeps_State_raise; apply keeps_State_setFld; assumption; apply keeps_State_setFld; assumption; assumption

theorem keeps_countHot {W : Part → Prop} [May W .power] {s0 : State} (w k : Nat) (s : State) (hk0 : Keeps W s0 s) : Keeps W s0
    (countHot w k s) := by
  unfold countHot; dsimp only; apply keeps_State_modPower; assumption

theorem keeps_wingSample {W : Part → Prop} [May W .regs] [May W .power] {s0 : State} (w : Nat) (s : State) (hk0 : Keeps W s0 s)
    : Keeps W s0 (wingSample w s) := by
  unfold wingSample; dsimp only; apply keeps_State_setFld; apply keeps_State_setFld; apply keeps_State_setFld; apply keeps_countHot
  apply keeps_countHot; apply keeps_countHot; assumption

theorem keeps_countTrip {W : Part → Prop} [May W .power] {s0 : State} (i : Nat) (s : State) (hk0 : Keeps W s0 s) : Keeps W s0
    (countTrip i s) := by
  unfold countTrip; dsimp only; apply keeps_State_modPower; assumption

theorem keeps_diodeSample {W : Part → Prop} [May W .regs] [May W .house] [May W .links] [May W .sites] [May W .swc] [May W .mem]
    [May W .dram] [May W .ten] [May W .sp] [May W .cue] [May W .store] [May W .col] [May W .board] [May W .mail] [May W .power]
    [May W .host] [May W .rhs] [May W .spState] [May W .waking] [May W .outbox] {s0 : State} (rs : List Nat) (s : State) (hk0
    : Keeps W s0 s) : Keeps W s0 (diodeSample rs s) := by
  unfold diodeSample; dsimp only; apply keeps_ite; apply keeps_tripIron; apply keeps_settleLevels; apply keeps_forEach; intro _; intro _
  intro _; apply keeps_wingSample; assumption; apply keeps_forEach; intro _; intro _; intro _; apply keeps_countTrip; assumption
  apply keeps_takeReadings; assumption; apply keeps_settleLevels; apply keeps_forEach; intro _; intro _; intro _; apply keeps_wingSample
  assumption; apply keeps_forEach; intro _; intro _; intro _; apply keeps_countTrip; assumption; apply keeps_takeReadings; assumption

theorem keeps_levelFalls {W : Part → Prop} [May W .regs] [May W .house] [May W .swc] [May W .ten] [May W .sp] [May W .cue] [May W .col]
    [May W .power] [May W .rhs] [May W .spState] [May W .waking] {s0 : State} (w : Nat) (s : State) (hk0 : Keeps W s0 s) : Keeps W s0
    (levelFalls w s) := by
  unfold levelFalls; dsimp only; apply keeps_ite; assumption; apply keeps_settleLevels; apply keeps_State_setFld; assumption

theorem keeps_checkDiode {W : Part → Prop} [May W .regs] [May W .board] [May W .power] {s0 : State} (i : Nat) (s : State) (hk0
    : Keeps W s0 s) : Keeps W s0 (checkDiode i s) := by
  unfold checkDiode; dsimp only; apply keeps_ite; apply keeps_throughStage; intro _; intro _; apply keeps_State_raise
  apply keeps_State_raise; assumption; apply keeps_State_modPower; assumption; apply keeps_State_modPower; assumption

theorem keeps_clearDiodes {W : Part → Prop} [May W .regs] {s0 : State} (s : State) (hk0 : Keeps W s0 s) : Keeps W s0 (clearDiodes s) := by
  unfold clearDiodes; apply keeps_forEach; intro _; intro _; intro _; apply keeps_State_setFld; assumption; assumption

theorem keeps_thmAlert {W : Part → Prop} [May W .regs] [May W .host] [May W .outbox] {s0 : State} (code : Nat) (s : State) (hk0
    : Keeps W s0 s) : Keeps W s0 (thmAlert code s) := by
  unfold thmAlert; apply keeps_alert; assumption

theorem keeps_coldSample {W : Part → Prop} [May W .regs] [May W .house] [May W .swc] [May W .ten] [May W .sp] [May W .cue] [May W .col]
    [May W .power] [May W .host] [May W .rhs] [May W .spState] [May W .waking] [May W .outbox] {s0 : State} (i o : Nat) (s : State)
    (hk0 : Keeps W s0 s) : Keeps W s0 (coldSample i o s) := by
  unfold coldSample; dsimp only; apply keeps_ite; apply keeps_setCause; apply keeps_ite; apply keeps_thmAlert; apply keeps_State_raise
  apply keeps_State_setFld; apply keeps_State_setFld; assumption; apply keeps_State_setFld; apply keeps_State_setFld; assumption
  apply keeps_ite; apply keeps_clearCause; apply keeps_ite; apply keeps_thmAlert; apply keeps_State_raise; apply keeps_State_setFld
  apply keeps_State_setFld; assumption; apply keeps_State_setFld; apply keeps_State_setFld; assumption; apply keeps_ite
  apply keeps_thmAlert; apply keeps_State_raise; apply keeps_State_setFld; apply keeps_State_setFld; assumption
  apply keeps_State_setFld; apply keeps_State_setFld; assumption

theorem keeps_becomeWet {W : Part → Prop} [May W .regs] [May W .house] [May W .swc] [May W .ten] [May W .sp] [May W .cue] [May W .col]
    [May W .power] [May W .host] [May W .rhs] [May W .spState] [May W .waking] [May W .outbox] {s0 : State} (s : State) (hk0
    : Keeps W s0 s) : Keeps W s0 (becomeWet s) := by
  unfold becomeWet; apply keeps_ite; assumption; apply keeps_setCause; apply keeps_thmAlert; apply keeps_State_modPower
  apply keeps_State_raise; apply keeps_State_setFld; assumption

theorem keeps_becomeLost {W : Part → Prop} [May W .regs] [May W .house] [May W .swc] [May W .ten] [May W .sp] [May W .cue] [May W .col]
    [May W .power] [May W .host] [May W .rhs] [May W .spState] [May W .waking] [May W .outbox] {s0 : State} (s : State) (hk0
    : Keeps W s0 s) : Keeps W s0 (becomeLost s) := by
  unfold becomeLost; apply keeps_ite; assumption; apply keeps_setCause; apply keeps_thmAlert; apply keeps_State_raise
  apply keeps_State_raise; apply keeps_State_setFld; assumption

theorem keeps_clearLeak {W : Part → Prop} [May W .regs] [May W .house] [May W .power] {s0 : State} (s : State) (hk0
    : Keeps W s0 s) : Keeps W s0 (clearLeak s) := by
  unfold clearLeak; apply keeps_ite; apply keeps_clearCause; apply keeps_clearCause; assumption; assumption

theorem keeps_setMeasurement {W : Part → Prop} [May W .regs] {s0 : State} (m : Nat) (d : BitVec 512) (s : State) (hk0
    : Keeps W s0 s) : Keeps W s0 (setMeasurement m d s) := by
  unfold setMeasurement; apply keeps_forEach; intro _; intro _; intro _; apply keeps_State_setWord; assumption; assumption

theorem keeps_measureKeys {W : Part → Prop} [May W .regs] {s0 : State} (s : State) (hk0 : Keeps W s0 s) : Keeps W s0 (measureKeys s) := by
  unfold measureKeys; apply keeps_setMeasurement; assumption

theorem keeps_measureBoot {W : Part → Prop} [May W .regs] {s0 : State} (s : State) (hk0 : Keeps W s0 s) : Keeps W s0 (measureBoot s) := by
  unfold measureBoot; apply keeps_setMeasurement; assumption

theorem keeps_measurePlan {W : Part → Prop} [May W .regs] {s0 : State} (s : State) (hk0 : Keeps W s0 s) : Keeps W s0 (measurePlan s) := by
  unfold measurePlan; dsimp only; apply keeps_setMeasurement; assumption

theorem keeps_measureAct {W : Part → Prop} [May W .regs] {s0 : State} (s : State) (hk0 : Keeps W s0 s) : Keeps W s0 (measureAct s) := by
  unfold measureAct; dsimp only; apply keeps_setMeasurement; assumption

theorem keeps_bootFrom {W : Part → Prop} [May W .regs] [May W .sec] {s0 : State} (slot : Nat) (fallback : Bool) (s : State) (hk0
    : Keeps W s0 s) : Keeps W s0 (bootFrom slot fallback s) := by
  unfold bootFrom; dsimp only; apply keeps_measureKeys; apply keeps_measureBoot; apply keeps_State_modSec; exact fun _ => ⟨rfl, rfl⟩
  apply keeps_setMeasurement; apply keeps_setMeasurement; apply keeps_ite; apply keeps_State_raise; apply keeps_State_setFld
  apply keeps_State_setFld; apply keeps_State_setFld; apply keeps_State_setFld; assumption; apply keeps_State_setFld
  apply keeps_State_setFld; apply keeps_State_setFld; apply keeps_State_setFld; assumption

theorem keeps_bootVerify {W : Part → Prop} [May W .regs] [May W .sec] {s0 : State} (s : State) (hk0 : Keeps W s0 s) : Keeps W s0
    (bootVerify s) := by
  unfold bootVerify; dsimp only; apply keeps_ite; apply keeps_bootFrom; apply keeps_ite; apply keeps_setPrompter; apply keeps_ite
  apply keeps_setPrompter; assumption; assumption; apply keeps_ite; apply keeps_setPrompter; assumption; assumption; apply keeps_ite
  apply keeps_bootFrom; apply keeps_ite; apply keeps_setPrompter; apply keeps_ite; apply keeps_setPrompter; assumption; assumption
  apply keeps_ite; apply keeps_setPrompter; assumption; assumption; apply keeps_orphaned; apply keeps_State_raise; apply keeps_ite
  apply keeps_setPrompter; apply keeps_ite; apply keeps_setPrompter; assumption; assumption; apply keeps_ite; apply keeps_setPrompter
  assumption; assumption

theorem keeps_complete {W : Part → Prop} [May W .regs] [May W .board] [May W .outbox] {s0 : State} (c : Capsule)
    (status result err : Nat) (key : Option (BitVec 256)) (s : State) (hk0 : Keeps W s0 s) : Keeps W s0
    (complete c status result err key s) := by
  unfold complete; dsimp only; apply keeps_ite; apply keeps_emit; apply keeps_ite; apply keeps_forEach; intro _; intro _; intro _
  apply keeps_State_setWord; assumption; apply keeps_State_setFld; apply keeps_State_setFld; apply keeps_State_setFld; assumption
  assumption; apply keeps_throughStage; intro _; intro _; apply keeps_emit; assumption; apply keeps_ite; apply keeps_forEach; intro _
  intro _; intro _; apply keeps_State_setWord; assumption; apply keeps_State_setFld; apply keeps_State_setFld; apply keeps_State_setFld
  assumption; assumption

theorem keeps_secAlert {W : Part → Prop} [May W .regs] [May W .host] [May W .outbox] {s0 : State} (code : Nat) (s : State) (hk0
    : Keeps W s0 s) : Keeps W s0 (secAlert code s) := by
  unfold secAlert; apply keeps_alert; assumption

theorem keeps_refuseCapsule {W : Part → Prop} [May W .regs] [May W .board] [May W .sec] [May W .host] [May W .outbox] {s0 : State}
    (c : Capsule) (status : Nat) (s : State) (hk0 : Keeps W s0 s) : Keeps W s0 (refuseCapsule c status s) := by
  unfold refuseCapsule; apply keeps_ite; dsimp only; apply keeps_complete; apply keeps_secAlert; apply keeps_State_raise
  apply keeps_State_count; apply keeps_State_modSec; exact fun _ => ⟨rfl, rfl⟩; assumption; apply keeps_ite; apply keeps_complete
  apply keeps_secAlert; apply keeps_State_raise; apply keeps_State_count; assumption; apply keeps_complete; assumption

theorem keeps_judgeCapsule {W : Part → Prop} [May W .regs] [May W .board] [May W .sec] [May W .host] [May W .outbox] {s0 : State}
    (c : Capsule) (s : State) (hk0 : Keeps W s0 s) : Keeps W s0 (judgeCapsule c s) := by
  unfold judgeCapsule; split; apply keeps_refuseCapsule; assumption; apply keeps_State_modSec; exact fun _ => ⟨rfl, rfl⟩; assumption

theorem keeps_judgeWaiting {W : Part → Prop} [May W .regs] [May W .board] [May W .sec] [May W .host] [May W .outbox] {s0 : State} (n : Nat) (s : State) (hk0 : Keeps W s0 s) : Keeps W s0 (judgeWaiting n s) := by
  induction n generalizing s with
  | zero => exact hk0
  | succ k ih =>
    unfold judgeWaiting
    split
    · exact hk0
    · exact keeps_ite hk0 (ih _ (keeps_judgeCapsule _ _ (keeps_State_modSec _ _ (fun _ => ⟨rfl, rfl⟩) hk0)))

theorem keeps_judgeOn {W : Part → Prop} [May W .regs] [May W .board] [May W .sec] [May W .host] [May W .outbox] {s0 : State} (s : State)
    (hk0 : Keeps W s0 s) : Keeps W s0 (judgeOn s) := by
  unfold judgeOn; apply keeps_judgeWaiting; assumption

theorem keeps_arriveCapsule {W : Part → Prop} [May W .regs] [May W .board] [May W .sec] [May W .host] [May W .outbox] {s0 : State}
    (c : Capsule) (s : State) (hk0 : Keeps W s0 s) : Keeps W s0 (arriveCapsule c s) := by
  unfold arriveCapsule; apply keeps_judgeOn; apply keeps_State_modSec; exact fun _ => ⟨rfl, rfl⟩; assumption

theorem keeps_finishCapsule {W : Part → Prop} [May W .regs] [May W .board] [May W .sec] [May W .host] [May W .outbox] {s0 : State}
    (c : Capsule) (status result err : Nat) (key : Option (BitVec 256)) (s : State) (hk0 : Keeps W s0 s) : Keeps W s0
    (finishCapsule c status result err key s) := by
  unfold finishCapsule; apply keeps_judgeOn; apply keeps_complete; apply keeps_State_modSec; exact fun _ => ⟨rfl, rfl⟩; assumption

theorem keeps_storeOrder {W : Part → Prop} [May W .power] {s0 : State} (s : State) (hk0 : Keeps W s0 s) : Keeps W s0 (storeOrder s) := by
  unfold storeOrder; apply keeps_State_modPower; assumption

theorem keeps_eraseOrder {W : Part → Prop} [May W .power] {s0 : State} (s : State) (hk0 : Keeps W s0 s) : Keeps W s0 (eraseOrder s) := by
  unfold eraseOrder; apply keeps_State_modPower; assumption

theorem keeps_noteOff {W : Part → Prop} [May W .power] {s0 : State} (cause : Nat) (s : State) (hk0 : Keeps W s0 s) : Keeps W s0
    (noteOff cause s) := by
  unfold noteOff; apply keeps_ite; apply keeps_State_modPower; assumption; assumption

theorem keeps_orderEffect {W : Part → Prop} [May W .regs] [May W .power] {s0 : State} (cmd : Nat) (p : List Byte) (s : State) (hk0
    : Keeps W s0 s) : Keeps W s0 (orderEffect cmd p s) := by
  unfold orderEffect; dsimp only; apply keeps_ite; apply keeps_ite; apply keeps_State_setFld; apply keeps_noteOff; assumption
  apply keeps_ite; apply keeps_storeOrder; apply keeps_State_raise; apply keeps_State_setFld; apply keeps_noteOff; assumption
  apply keeps_State_raise; apply keeps_State_setFld; apply keeps_noteOff; assumption; apply keeps_ite; apply keeps_ite
  apply keeps_State_setFld; apply keeps_State_raise; assumption; apply keeps_eraseOrder; apply keeps_State_setFld
  apply keeps_State_setFld; apply keeps_State_raise; assumption; apply keeps_ite; apply keeps_refreshCap; apply keeps_State_setFld
  assumption; apply keeps_ite; apply keeps_ite; apply keeps_storeOrder; apply keeps_State_raise; assumption; apply keeps_State_raise
  assumption; apply keeps_eraseOrder; apply keeps_State_setFld; assumption

theorem keeps_runOrder {W : Part → Prop} [May W .regs] [May W .board] [May W .power] [May W .sec] [May W .host] [May W .outbox]
    {s0 : State} (c : Capsule) (s : State) (hk0 : Keeps W s0 s) : Keeps W s0 (runOrder c s) := by
  unfold runOrder; dsimp only; apply keeps_ite; apply keeps_finishCapsule; apply keeps_orderEffect; apply keeps_State_setFld
  apply keeps_State_setFld; apply keeps_State_setFld; assumption; apply keeps_finishCapsule; apply keeps_State_raise
  apply keeps_State_setFld; apply keeps_State_setFld; apply keeps_State_setFld; assumption

theorem keeps_safetyWrite {W : Part → Prop} [May W .regs] [May W .house] [May W .power] {s0 : State} (off v : Nat) (s : State)
    (hk0 : Keeps W s0 s) : Keeps W s0 (safetyWrite off v s) := by
  unfold safetyWrite; apply keeps_ite; apply keeps_refreshCap; apply keeps_State_setFld; assumption; apply keeps_ite
  apply keeps_State_setFld; assumption; apply keeps_ite; apply keeps_State_setFld; assumption; apply keeps_ite; apply keeps_State_setFld
  apply keeps_State_setFld; assumption; apply keeps_ite; apply keeps_State_setFld; assumption; apply keeps_ite; apply keeps_State_setFld
  assumption; apply keeps_ite; apply keeps_State_setFld; apply keeps_State_setFld; assumption; apply keeps_ite; dsimp only
  apply keeps_ite; apply keeps_clearDiodes; apply keeps_ite; apply keeps_clearIron; apply keeps_ite; apply keeps_clearLeak; assumption
  assumption; apply keeps_ite; apply keeps_clearLeak; assumption; assumption; apply keeps_ite; apply keeps_clearIron; apply keeps_ite
  apply keeps_clearLeak; assumption; assumption; apply keeps_ite; apply keeps_clearLeak; assumption; assumption; assumption

theorem keeps_runSafety {W : Part → Prop} [May W .regs] [May W .house] [May W .board] [May W .power] [May W .sec] [May W .host]
    [May W .outbox] {s0 : State} (c : Capsule) (s : State) (hk0 : Keeps W s0 s) : Keeps W s0 (runSafety c s) := by
  unfold runSafety; dsimp only; apply keeps_ite; apply keeps_finishCapsule; apply keeps_forEach; intro _; intro _; intro _
  apply keeps_throughStage; intro _; intro _; apply keeps_safetyWrite; assumption; assumption; assumption; apply keeps_finishCapsule
  assumption

theorem keeps_setKey {W : Part → Prop} [May W .regs] [May W .sec] [May W .keys] {s0 : State} (which : Nat) (k : Option (BitVec 256))
    (id : Nat) (s : State) (hk0 : Keeps W s0 s) : Keeps W s0 (setKey which k id s) := by
  unfold setKey; dsimp only; apply keeps_measureKeys; apply keeps_State_raise; apply keeps_ite; apply keeps_State_setFld
  apply keeps_State_setFld; apply keeps_State_modSec; exact fun g => absurd May.may g; assumption; apply keeps_State_setFld
  apply keeps_State_setFld; apply keeps_State_modSec; exact fun g => absurd May.may g; assumption

theorem keeps_runInstall {W : Part → Prop} [May W .regs] [May W .board] [May W .sec] [May W .keys] [May W .host] [May W .outbox]
    {s0 : State} (c : Capsule) (s : State) (hk0 : Keeps W s0 s) : Keeps W s0 (runInstall c s) := by
  unfold runInstall; dsimp only; apply keeps_ite; apply keeps_finishCapsule; apply keeps_setKey; assumption; apply keeps_finishCapsule
  assumption

theorem keeps_runClear {W : Part → Prop} [May W .regs] [May W .board] [May W .sec] [May W .keys] [May W .host] [May W .outbox]
    {s0 : State} (c : Capsule) (s : State) (hk0 : Keeps W s0 s) : Keeps W s0 (runClear c s) := by
  unfold runClear; dsimp only; apply keeps_finishCapsule; apply keeps_setKey; assumption

theorem keeps_fwOpenSlot {W : Part → Prop} [May W .regs] [May W .sec] {s0 : State} (slot : Nat) (s : State) (hk0 : Keeps W s0 s)
    : Keeps W s0 (fwOpenSlot slot s) := by
  unfold fwOpenSlot; dsimp only; apply keeps_State_modSec; exact fun _ => ⟨rfl, rfl⟩; apply keeps_State_setFld; apply keeps_State_setFld
  apply keeps_State_setFld; assumption

theorem keeps_fwVerifySlot {W : Part → Prop} [May W .regs] {s0 : State} (s : State) (hk0 : Keeps W s0 s) : Keeps W s0 (fwVerifySlot s) := by
  unfold fwVerifySlot; dsimp only; apply keeps_State_raise; apply keeps_State_setFld; apply keeps_State_setFld; apply keeps_State_raise
  assumption

theorem keeps_fwEffect {W : Part → Prop} [May W .regs] [May W .sec] {s0 : State} (p : List Byte) (s : State) (hk0 : Keeps W s0 s)
    : Keeps W s0 (fwEffect p s) := by
  unfold fwEffect; apply keeps_ite; apply keeps_fwOpenSlot; assumption; apply keeps_ite; apply keeps_fwVerifySlot; assumption
  apply keeps_ite; dsimp only; apply keeps_ite; apply keeps_bootVerify; apply keeps_State_setFld; apply keeps_State_setFld; assumption
  apply keeps_State_setFld; apply keeps_State_setFld; assumption; apply keeps_ite; apply keeps_measureBoot; apply keeps_State_setFld
  assumption; apply keeps_State_setFld; assumption

theorem keeps_runFw {W : Part → Prop} [May W .regs] [May W .board] [May W .sec] [May W .host] [May W .outbox] {s0 : State} (c : Capsule)
    (s : State) (hk0 : Keeps W s0 s) : Keeps W s0 (runFw c s) := by
  unfold runFw; dsimp only; split; apply keeps_finishCapsule; apply keeps_ite; apply keeps_State_setFld; assumption; assumption
  apply keeps_finishCapsule; apply keeps_fwEffect; assumption

theorem keeps_fwBytes {W : Part → Prop} [May W .sec] {s0 : State} (off : Nat) (bs : List Byte) (s : State) (hk0 : Keeps W s0 s)
    : Keeps W s0 (fwBytes off bs s) := by
  unfold fwBytes; apply keeps_State_modSec; exact fun _ => ⟨rfl, rfl⟩; assumption

theorem keeps_actSwapTo {W : Part → Prop} [May W .regs] [May W .swc] {s0 : State} (a : Nat) (s : State) (hk0 : Keeps W s0 s)
    : Keeps W s0 (actSwapTo a s) := by
  unfold actSwapTo; dsimp only; apply keeps_measureAct; apply keeps_bumpGen; apply keeps_State_modSwc; apply keeps_State_setFld
  apply keeps_State_setFld; apply keeps_State_setFld; assumption

theorem keeps_runActSwap {W : Part → Prop} [May W .regs] [May W .swc] [May W .board] [May W .sec] [May W .host] [May W .outbox]
    {s0 : State} (c : Capsule) (s : State) (hk0 : Keeps W s0 s) : Keeps W s0 (runActSwap c s) := by
  unfold runActSwap; dsimp only; apply keeps_ite; apply keeps_finishCapsule; assumption; apply keeps_ite; apply keeps_finishCapsule
  apply keeps_throughStage; intro _; intro _; apply keeps_actSwapTo; assumption; assumption; apply keeps_finishCapsule; assumption

theorem keeps_runPlan {W : Part → Prop} [May W .regs] [May W .swc] [May W .board] [May W .sec] [May W .host] [May W .outbox]
    {s0 : State} (c : Capsule) (s : State) (hk0 : Keeps W s0 s) : Keeps W s0 (runPlan c s) := by
  unfold runPlan; dsimp only; apply keeps_ite; apply keeps_finishCapsule; assumption; apply keeps_ite; apply keeps_finishCapsule
  apply keeps_throughStage; intro _; intro _; apply keeps_measurePlan; apply keeps_bumpGen; assumption; apply keeps_planCommit
  assumption; apply keeps_finishCapsule; apply keeps_planCommit; assumption

theorem keeps_acceptCapsule {W : Part → Prop} [May W .regs] [May W .board] [May W .power] [May W .sec] [May W .host] [May W .outbox]
    {s0 : State} (c : Capsule) (s : State) (hk0 : Keeps W s0 s) : Keeps W s0 (acceptCapsule c s) := by
  unfold acceptCapsule; dsimp only; apply keeps_ite; apply keeps_finishCapsule; apply keeps_ite; apply keeps_rmHeartbeat
  apply keeps_intake; apply keeps_State_modSec; exact fun _ => ⟨rfl, rfl⟩; apply keeps_State_setFld; assumption; apply keeps_intake
  apply keeps_State_modSec; exact fun _ => ⟨rfl, rfl⟩; apply keeps_State_setFld; assumption; apply keeps_ite; apply keeps_runOrder
  apply keeps_ite; apply keeps_rmHeartbeat; apply keeps_intake; apply keeps_State_modSec; exact fun _ => ⟨rfl, rfl⟩
  apply keeps_State_setFld; assumption; apply keeps_intake; apply keeps_State_modSec; exact fun _ => ⟨rfl, rfl⟩
  apply keeps_State_setFld; assumption; apply keeps_ite; apply keeps_runFw; apply keeps_ite; apply keeps_rmHeartbeat; apply keeps_intake
  apply keeps_State_modSec; exact fun _ => ⟨rfl, rfl⟩; apply keeps_State_setFld; assumption; apply keeps_intake
  apply keeps_State_modSec; exact fun _ => ⟨rfl, rfl⟩; apply keeps_State_setFld; assumption; apply keeps_ite; apply keeps_rmHeartbeat
  apply keeps_intake; apply keeps_State_modSec; exact fun _ => ⟨rfl, rfl⟩; apply keeps_State_setFld; assumption; apply keeps_intake
  apply keeps_State_modSec; exact fun _ => ⟨rfl, rfl⟩; apply keeps_State_setFld; assumption

theorem keeps_State_setHdm {W : Part → Prop} [May W .mem] {s0 : State} (s : State) (d : Nat) (x : Hdm) (hk0 : Keeps W s0 s) : Keeps W s0
    (State.setHdm s d x) := by
  unfold State.setHdm; apply keeps_State_modMem; exact byteStep_refl _; assumption

theorem keeps_commitHdm {W : Part → Prop} [May W .mem] {s0 : State} (d base size skip ways : Nat) (lock : Bool) (s : State) (hk0
    : Keeps W s0 s) : Keeps W s0 (commitHdm d base size skip ways lock s) := by
  unfold commitHdm; dsimp only; apply keeps_ite; assumption; apply keeps_ite; apply keeps_State_setHdm; assumption
  apply keeps_State_setHdm; assumption

theorem keeps_addEvent {W : Part → Prop} [May W .host] [May W .outbox] {s0 : State} (k : Nat) (media : Bool) (code dpa : Nat)
    (write : Bool) (s : State) (hk0 : Keeps W s0 s) : Keeps W s0 (addEvent k media code dpa write s) := by
  unfold addEvent; apply keeps_ite; apply keeps_State_modHost; assumption; dsimp only; apply keeps_ite; apply keeps_State_modHost
  assumption; apply keeps_signalMsix; apply keeps_State_modHost; assumption

theorem keeps_reportHostFailure {W : Part → Prop} [May W .host] [May W .outbox] {s0 : State} (code dpa : Nat) (write : Bool) (s : State)
    (hk0 : Keeps W s0 s) : Keeps W s0 (reportHostFailure code dpa write s) := by
  unfold reportHostFailure; apply keeps_ite; apply keeps_addEvent; assumption; apply keeps_addEvent; assumption

theorem keeps_ringByFrame {W : Part → Prop} [May W .regs] [May W .cue] [May W .waking] {s0 : State} (f : Frame) (s : State) (hk0
    : Keeps W s0 s) : Keeps W s0 (ringByFrame f s).2 := by
  unfold ringByFrame; dsimp only; split; dsimp only; assumption; split; dsimp only; apply keeps_State_count; assumption; dsimp only
  apply keeps_ringDoorbell; assumption

theorem keeps_ringByHost {W : Part → Prop} [May W .regs] [May W .cue] [May W .waking] {s0 : State} (b arg : Nat) (s : State) (hk0
    : Keeps W s0 s) : Keeps W s0 (ringByHost b arg s) := by
  unfold ringByHost; apply keeps_ite; apply keeps_ringDoorbell; assumption; apply keeps_State_count; assumption

theorem keeps_setMaster {W : Part → Prop} [May W .regs] {s0 : State} (b : Bool) (s : State) (hk0 : Keeps W s0 s) : Keeps W s0
    (setMaster b s) := by
  unfold setMaster; apply keeps_ite; assumption; apply keeps_State_raise; apply keeps_State_setFld; assumption

theorem keeps_elect {W : Part → Prop} [May W .regs] {s0 : State} (others : BitVec 4) (s : State) (hk0 : Keeps W s0 s) : Keeps W s0
    (elect others s) := by
  unfold elect; dsimp only; apply keeps_setMaster; assumption

theorem keeps_State_modI3c {W : Part → Prop} [May W .host] {s0 : State} (s : State) (tray : Bool) (f : I3c → I3c) (hk0
    : Keeps W s0 s) : Keeps W s0 (State.modI3c s tray f) := by
  unfold State.modI3c; apply keeps_State_modHost; assumption

theorem keeps_handOn {W : Part → Prop} [May W .regs] [May W .host] [May W .outbox] {s0 : State} (s : State) (hk0 : Keeps W s0 s)
    : Keeps W s0 (handOn s) := by
  unfold handOn; dsimp only; apply keeps_ite; split; apply keeps_emit; apply keeps_State_modHost; apply keeps_setMaster; assumption
  apply keeps_setMaster; assumption; apply keeps_setMaster; assumption

theorem keeps_pollTargets {W : Part → Prop} [May W .outbox] {s0 : State} (s : State) (hk0 : Keeps W s0 s) : Keeps W s0 (pollTargets s) := by
  unfold pollTargets; apply keeps_ite; apply keeps_forEach; intro _; intro _; intro _; apply keeps_ite; apply keeps_emit; assumption
  assumption; assumption; assumption

theorem keeps_runEntdaa {W : Part → Prop} [May W .regs] [May W .host] [May W .outbox] {s0 : State} (pids : List (BitVec 48)) (s : State)
    (hk0 : Keeps W s0 s) : Keeps W s0 (runEntdaa pids s) := by
  unfold runEntdaa; dsimp only; apply keeps_ite; apply keeps_handOn; apply keeps_State_raise; apply keeps_State_setFld
  apply keeps_State_setFld; apply keeps_State_modI3c; apply keeps_forEach; intro _; intro _; intro _; apply keeps_emit; assumption
  apply keeps_ite; apply keeps_emit; assumption; assumption; apply keeps_State_setFld; apply keeps_State_setFld; apply keeps_forEach
  intro _; intro _; intro _; apply keeps_emit; assumption; apply keeps_State_setFld; apply keeps_State_setFld; apply keeps_State_modI3c
  apply keeps_forEach; intro _; intro _; intro _; apply keeps_emit; assumption; apply keeps_ite; apply keeps_emit; assumption
  assumption

theorem keeps_becomeController {W : Part → Prop} [May W .regs] [May W .outbox] {s0 : State} (s : State) (hk0 : Keeps W s0 s)
    : Keeps W s0 (becomeController s) := by
  unfold becomeController; apply keeps_emit; apply keeps_emit; apply keeps_State_raise; assumption

theorem keeps_takeAddress {W : Part → Prop} [May W .regs] {s0 : State} (tray : Bool) (a : Nat) (s : State) (hk0 : Keeps W s0 s)
    : Keeps W s0 (takeAddress tray a s) := by
  unfold takeAddress; dsimp only; apply keeps_ite; apply keeps_setMaster; apply keeps_State_raise; apply keeps_State_setFld; assumption
  apply keeps_State_setFld; assumption

theorem keeps_setEid {W : Part → Prop} [May W .regs] [May W .host] {s0 : State} (p : Port) (e : Nat) (s : State) (hk0
    : Keeps W s0 s) : Keeps W s0 (setEid p e s) := by
  unfold setEid; split; apply keeps_State_setFld; assumption; apply keeps_State_setFld; assumption; apply keeps_State_modHost
  assumption; assumption

theorem keeps_relayMctp {W : Part → Prop} [May W .outbox] {s0 : State} (fromRack : Bool) (dest type cmd : Nat) (data : List Byte)
    (s : State) (hk0 : Keeps W s0 s) : Keeps W s0 (relayMctp fromRack dest type cmd data s) := by
  unfold relayMctp; apply keeps_ite; assumption; apply keeps_ite; assumption; apply keeps_ite; apply keeps_emit; assumption
  apply keeps_ite; apply keeps_emit; assumption; assumption

theorem keeps_orRelay {W : Part → Prop} [May W .outbox] {s0 : State} (p : Port) (type cmd : Nat) (data : List Byte)
    (act : State → State) (s : State) (hf_act : ∀ x0, Keeps W s0 x0 → Keeps W s0 (act x0)) (hk0 : Keeps W s0 s) : Keeps W s0
    (orRelay p type cmd data act s) := by
  unfold orRelay; split; apply keeps_relayMctp; assumption; apply hf_act; assumption

theorem keeps_vendorAnswer {W : Part → Prop} [May W .outbox] {s0 : State} (p : Port) (cmd status : Nat) (data : List Byte) (s : State)
    (hk0 : Keeps W s0 s) : Keeps W s0 (vendorAnswer p cmd status data s) := by
  unfold vendorAnswer; apply keeps_emit; assumption

theorem keeps_sendAlert {W : Part → Prop} [May W .host] [May W .outbox] {s0 : State} (s : State) (hk0 : Keeps W s0 s) : Keeps W s0
    (sendAlert s) := by
  unfold sendAlert; split; assumption; apply keeps_emit; apply keeps_State_modHost; assumption

end Sys2Proof.Machine
end

