-- ==== Sys2Proof/Laws/KeepsCommands.lean ====
section
/-! SUPPORT. That every operation keeps the memory's canonical form and the queue (`Keeps`): the commands of the links, the switch core, the pool, the sequencers and the engines. -/
namespace Sys2Proof.Machine

theorem keeps_returnSymbols {W : Part → Prop} [May W .links] [May W .outbox] {s0 : State} (l : Nat) (symbols : List Nat) (s : State)
    (hk0 : Keeps W s0 s) : Keeps W s0 (returnSymbols l symbols s) := by
  unfold returnSymbols; dsimp only; split; assumption; split; assumption; apply keeps_emit; apply keeps_State_modLink; assumption

theorem keeps_putTest {W : Part → Prop} [May W .links] [May W .outbox] {s0 : State} (l : Nat) (s : State) (hk0 : Keeps W s0 s)
    : Keeps W s0 (putTest l s) := by
  unfold putTest; dsimp only; apply keeps_forEach; intro _; intro _; intro _; apply keeps_emit; assumption; apply keeps_State_modLink
  assumption

theorem keeps_execFlitReceive {W : Part → Prop} [May W .regs] [May W .links] [May W .swc] [May W .outbox] {s0 : State} (l : Fin 14)
    (symbols : List (Fin 4)) (s : State) (hk0 : Keeps W s0 s) {tnext : State} (ht : execFlitReceive l symbols s = .next tnext)
    : Keeps W s0 tnext := by
  unfold execFlitReceive at ht; cases ht; apply keeps_ite; apply keeps_receiveCodeword; assumption; apply keeps_ite
  apply keeps_takeFree; apply keeps_State_satFld; assumption; apply keeps_ite; apply keeps_returnSymbols; assumption; assumption

theorem keeps_execNakResendTimeout {W : Part → Prop} [May W .links] {s0 : State} (l : Fin 14) (s : State) (hk0 : Keeps W s0 s)
    {tnext : State} (ht : execNakResendTimeout l s = .next tnext) : Keeps W s0 tnext := by
  unfold execNakResendTimeout at ht; cases ht; apply keeps_ite; apply keeps_State_modLink; assumption; assumption

theorem keeps_ownRetrain {W : Part → Prop} [May W .regs] [May W .links] [May W .swc] [May W .ten] [May W .sp] [May W .cue] [May W .col]
    [May W .board] [May W .mail] [May W .host] [May W .rhs] [May W .outbox] {s0 : State} (l : Nat) (s : State) (hk0
    : Keeps W s0 s) : Keeps W s0 (ownRetrain l s) := by
  unfold ownRetrain; apply keeps_watchLink; intro _; intro _; apply keeps_fastRetrain; assumption; apply keeps_sayRetrain; assumption

theorem keeps_execRetryLimitReached {W : Part → Prop} [May W .regs] [May W .links] [May W .swc] [May W .ten] [May W .sp] [May W .cue]
    [May W .col] [May W .board] [May W .mail] [May W .host] [May W .rhs] [May W .outbox] {s0 : State} (l : Fin 14) (s : State)
    (hk0 : Keeps W s0 s) {tnext : State} (ht : execRetryLimitReached l s = .next tnext) : Keeps W s0 tnext := by
  unfold execRetryLimitReached at ht; cases ht; apply keeps_ite; apply keeps_ownRetrain; assumption; assumption

theorem keeps_execLaneOutOfLock {W : Part → Prop} [May W .regs] [May W .links] [May W .swc] [May W .ten] [May W .sp] [May W .cue]
    [May W .col] [May W .board] [May W .mail] [May W .host] [May W .rhs] [May W .outbox] {s0 : State} (l : Fin 14) (lane : Fin 34)
    (s : State) (hk0 : Keeps W s0 s) {tnext : State} (ht : execLaneOutOfLock l lane s = .next tnext) : Keeps W s0 tnext := by
  unfold execLaneOutOfLock at ht; cases ht; apply keeps_ite; apply keeps_ownRetrain; assumption; assumption

theorem keeps_execEgressFlitSlot {W : Part → Prop} [May W .regs] [May W .links] [May W .swc] [May W .outbox] {s0 : State} (l : Fin 14)
    (s : State) (hk0 : Keeps W s0 s) {tnext : State} (ht : execEgressFlitSlot l s = .next tnext) : Keeps W s0 tnext := by
  unfold execEgressFlitSlot at ht; cases ht; apply keeps_ite; apply keeps_fillPosition; assumption; apply keeps_ite
  apply keeps_putTraining; assumption; apply keeps_ite; apply keeps_putTest; assumption; assumption

theorem keeps_execFastRetrain {W : Part → Prop} [May W .regs] [May W .links] [May W .swc] [May W .ten] [May W .sp] [May W .cue]
    [May W .col] [May W .board] [May W .mail] [May W .host] [May W .rhs] [May W .outbox] {s0 : State} (l : Fin 14) (s : State)
    (hk0 : Keeps W s0 s) {tnext : State} (ht : execFastRetrain l s = .next tnext) : Keeps W s0 tnext := by
  unfold execFastRetrain at ht; cases ht; apply keeps_ite; apply keeps_ownRetrain; assumption; assumption

theorem keeps_relock {W : Part → Prop} [May W .regs] [May W .links] [May W .swc] [May W .rhs] [May W .outbox] {s0 : State} (l ack : Nat)
    (s : State) (hk0 : Keeps W s0 s) : Keeps W s0 (relock l ack s) := by
  unfold relock; split; apply keeps_enterDown; assumption; dsimp only; apply keeps_ite; apply keeps_moveCircuits
  apply keeps_rebindWaiting; apply keeps_State_modLink; apply keeps_takeAck; apply keeps_State_modLink; apply keeps_assignLanes
  apply keeps_State_setFld; apply keeps_setLinkState; assumption; apply keeps_rebindWaiting; apply keeps_State_modLink
  apply keeps_takeAck; apply keeps_State_modLink; apply keeps_assignLanes; apply keeps_State_setFld; apply keeps_setLinkState
  assumption

theorem keeps_execFastRetrainComplete {W : Part → Prop} [May W .regs] [May W .links] [May W .swc] [May W .ten] [May W .sp] [May W .cue]
    [May W .col] [May W .board] [May W .mail] [May W .host] [May W .rhs] [May W .outbox] {s0 : State} (l : Fin 14) (ack : Fin 65536)
    (s : State) (hk0 : Keeps W s0 s) {tnext : State} (ht : execFastRetrainComplete l ack s = .next tnext) : Keeps W s0 tnext := by
  unfold execFastRetrainComplete at ht; cases ht; apply keeps_ite; apply keeps_watchLink; intro _; intro _; apply keeps_relock
  assumption; assumption; assumption

theorem keeps_execFastRetrainFail {W : Part → Prop} [May W .regs] [May W .links] [May W .swc] [May W .ten] [May W .sp] [May W .cue]
    [May W .col] [May W .board] [May W .mail] [May W .host] [May W .rhs] [May W .outbox] {s0 : State} (l : Fin 14) (s : State)
    (hk0 : Keeps W s0 s) {tnext : State} (ht : execFastRetrainFail l s = .next tnext) : Keeps W s0 tnext := by
  unfold execFastRetrainFail at ht; cases ht; apply keeps_ite; apply keeps_watchLink; intro _; intro _; apply keeps_fullRetrain
  assumption; assumption; assumption

theorem keeps_execRetrainRequestReceive {W : Part → Prop} [May W .regs] [May W .links] [May W .swc] [May W .ten] [May W .sp]
    [May W .cue] [May W .col] [May W .board] [May W .mail] [May W .host] [May W .rhs] [May W .outbox] {s0 : State} (l : Fin 14)
    (s : State) (hk0 : Keeps W s0 s) {tnext : State} (ht : execRetrainRequestReceive l s = .next tnext) : Keeps W s0 tnext := by
  unfold execRetrainRequestReceive at ht; cases ht; apply keeps_ite; apply keeps_watchLink; intro _; intro _; apply keeps_fastRetrain
  assumption; assumption; assumption

theorem keeps_execDownMessageReceive {W : Part → Prop} [May W .regs] [May W .links] [May W .swc] [May W .ten] [May W .sp] [May W .cue]
    [May W .col] [May W .board] [May W .mail] [May W .host] [May W .rhs] [May W .outbox] {s0 : State} (l : Fin 14) (cause : DownCause)
    (s : State) (hk0 : Keeps W s0 s) {tnext : State} (ht : execDownMessageReceive l cause s = .next tnext) : Keeps W s0 tnext := by
  unfold execDownMessageReceive at ht; cases ht; apply keeps_ite; apply keeps_watchLink; intro _; intro _; apply keeps_enterDown
  assumption; assumption; assumption

theorem keeps_execFarEndDetected {W : Part → Prop} [May W .regs] [May W .links] {s0 : State} (l : Fin 14) (s : State) (hk0
    : Keeps W s0 s) {tnext : State} (ht : execFarEndDetected l s = .next tnext) : Keeps W s0 tnext := by
  unfold execFarEndDetected at ht; cases ht; apply keeps_ite; apply keeps_State_modLink; apply keeps_setLinkState; assumption
  assumption

theorem keeps_execEqComplete {W : Part → Prop} [May W .regs] [May W .links] {s0 : State} (l : Fin 14) (s : State) (hk0 : Keeps W s0 s)
    {tnext : State} (ht : execEqComplete l s = .next tnext) : Keeps W s0 tnext := by
  unfold execEqComplete at ht; cases ht; apply keeps_ite; apply keeps_setLinkState; assumption; assumption

theorem keeps_sendCfg {W : Part → Prop} [May W .outbox] {s0 : State} (l : Nat) (s : State) (hk0 : Keeps W s0 s) : Keeps W s0
    (sendCfg l s) := by
  unfold sendCfg; apply keeps_emit; assumption

theorem keeps_aligned {W : Part → Prop} [May W .regs] [May W .links] [May W .swc] [May W .rhs] [May W .outbox] {s0 : State}
    (l rtt : Nat) (s : State) (hk0 : Keeps W s0 s) : Keeps W s0 (aligned l rtt s) := by
  unfold aligned; apply keeps_ite; apply keeps_sendCfg; apply keeps_State_modLink; apply keeps_setLinkState; assumption; split
  apply keeps_enterDown; assumption; apply keeps_enterUp; assumption

theorem keeps_execAlignComplete {W : Part → Prop} [May W .regs] [May W .links] [May W .swc] [May W .rhs] [May W .outbox] {s0 : State}
    (l : Fin 14) (rtt : Fin 65536) (s : State) (hk0 : Keeps W s0 s) {tnext : State} (ht : execAlignComplete l rtt s = .next tnext)
    : Keeps W s0 tnext := by
  unfold execAlignComplete at ht; cases ht; apply keeps_ite; apply keeps_aligned; assumption; assumption

theorem keeps_takeCfg {W : Part → Prop} [May W .regs] [May W .links] [May W .swc] [May W .rhs] [May W .outbox] {s0 : State} (l : Nat)
    (c : Cfg) (s : State) (hk0 : Keeps W s0 s) : Keeps W s0 (takeCfg l c s) := by
  unfold takeCfg; dsimp only; apply keeps_ite; apply keeps_enterDown; apply keeps_State_modLink; apply keeps_State_setFld
  apply keeps_State_setFld; assumption; apply keeps_State_modLink; apply keeps_State_setFld; apply keeps_State_setFld; assumption

theorem keeps_execCfgReceive {W : Part → Prop} [May W .regs] [May W .links] [May W .swc] [May W .rhs] [May W .outbox] {s0 : State}
    (l : Fin 14) (cfg : Cfg) (s : State) (hk0 : Keeps W s0 s) {tnext : State} (ht : execCfgReceive l cfg s = .next tnext)
    : Keeps W s0 tnext := by
  unfold execCfgReceive at ht; cases ht; apply keeps_ite; apply keeps_takeCfg; assumption; assumption

theorem keeps_execCfgResendTick {W : Part → Prop} [May W .outbox] {s0 : State} (l : Fin 14) (s : State) (hk0 : Keeps W s0 s)
    {tnext : State} (ht : execCfgResendTick l s = .next tnext) : Keeps W s0 tnext := by
  unfold execCfgResendTick at ht; cases ht; apply keeps_ite; apply keeps_sendCfg; assumption; assumption

theorem keeps_leaveConfig {W : Part → Prop} [May W .regs] [May W .links] [May W .swc] [May W .rhs] [May W .outbox] {s0 : State}
    (l : Nat) (s : State) (hk0 : Keeps W s0 s) : Keeps W s0 (leaveConfig l s) := by
  unfold leaveConfig; apply keeps_ite; apply keeps_enterDown; assumption; apply keeps_State_modLink; apply keeps_setLinkState
  assumption

theorem keeps_execConfigComplete {W : Part → Prop} [May W .regs] [May W .links] [May W .swc] [May W .rhs] [May W .outbox] {s0 : State}
    (l : Fin 14) (s : State) (hk0 : Keeps W s0 s) {tnext : State} (ht : execConfigComplete l s = .next tnext) : Keeps W s0 tnext := by
  unfold execConfigComplete at ht; cases ht; apply keeps_ite; apply keeps_leaveConfig; assumption; assumption

theorem keeps_attemptFails {W : Part → Prop} [May W .regs] [May W .links] [May W .swc] [May W .rhs] [May W .outbox] {s0 : State}
    (l : Nat) (s : State) (hk0 : Keeps W s0 s) : Keeps W s0 (attemptFails l s) := by
  unfold attemptFails; dsimp only; apply keeps_ite; apply keeps_startTraining; apply keeps_State_modLink; assumption; apply keeps_ite
  apply keeps_startTraining; apply keeps_State_modLink; assumption; apply keeps_enterDown; apply keeps_State_modLink; assumption

theorem keeps_execTrainingTimeout {W : Part → Prop} [May W .regs] [May W .links] [May W .swc] [May W .rhs] [May W .outbox] {s0 : State}
    (l : Fin 14) (s : State) (hk0 : Keeps W s0 s) {tnext : State} (ht : execTrainingTimeout l s = .next tnext) : Keeps W s0 tnext := by
  unfold execTrainingTimeout at ht; cases ht; apply keeps_ite; apply keeps_attemptFails; assumption; assumption

theorem keeps_countAttempts {W : Part → Prop} [May W .links] {s0 : State} (s : State) (hk0 : Keeps W s0 s) : Keeps W s0
    (countAttempts s) := by
  unfold countAttempts; apply keeps_forEach; intro _; intro _; intro _; apply keeps_ite; apply keeps_State_modLink; assumption
  assumption; assumption

theorem keeps_insertCart {W : Part → Prop} [May W .regs] [May W .links] [May W .sites] [May W .swc] [May W .rhs] [May W .outbox]
    {s0 : State} (st : Nat) (s : State) (hk0 : Keeps W s0 s) : Keeps W s0 (insertCart st s) := by
  unfold insertCart; dsimp only; apply keeps_ite; apply keeps_startTraining; apply keeps_State_modLink; apply keeps_State_setSite
  apply keeps_State_setFld; assumption; apply keeps_State_setSite; apply keeps_State_setFld; assumption

theorem keeps_execCartridgeInsert {W : Part → Prop} [May W .regs] [May W .links] [May W .sites] [May W .swc] [May W .rhs]
    [May W .outbox] {s0 : State} (site : Fin 20) (s : State) (hk0 : Keeps W s0 s) {tnext : State}
    (ht : execCartridgeInsert site s = .next tnext) : Keeps W s0 tnext := by
  unfold execCartridgeInsert at ht; cases ht; apply keeps_ite; apply keeps_insertCart; assumption; assumption

theorem keeps_execHotplugDebounceExpiry {W : Part → Prop} [May W .sites] {s0 : State} (site : Fin 20) (s : State) (hk0 : Keeps W s0 s)
    {tnext : State} (ht : execHotplugDebounceExpiry site s = .next tnext) : Keeps W s0 tnext := by
  unfold execHotplugDebounceExpiry at ht; cases ht; apply keeps_ite; apply keeps_State_setSite; assumption; assumption

theorem keeps_recordCart {W : Part → Prop} [May W .regs] {s0 : State} (st : Nat) (e : List Byte) (s : State) (hk0 : Keeps W s0 s)
    : Keeps W s0 (recordCart st e s) := by
  unfold recordCart; dsimp only; apply keeps_ite; apply keeps_ite; assumption; apply keeps_State_setFld; apply keeps_State_setWord
  apply keeps_State_setWord; assumption; apply keeps_State_raise; apply keeps_State_addFld; apply keeps_ite; assumption
  apply keeps_State_setFld; apply keeps_State_setWord; apply keeps_State_setWord; assumption

theorem keeps_settleSite {W : Part → Prop} [May W .house] [May W .sites] {s0 : State} (st : Nat) (s : State) (hk0 : Keeps W s0 s)
    : Keeps W s0 (settleSite st s) := by
  unfold settleSite; apply keeps_ite; assumption; apply keeps_ite; with_reducible apply keeps_with_house; assumption; apply keeps_ite
  dsimp only; with_reducible apply keeps_with_house; apply keeps_State_setSite; assumption; assumption

theorem keeps_settleSites {W : Part → Prop} [May W .house] [May W .sites] {s0 : State} (s : State) (hk0 : Keeps W s0 s) : Keeps W s0
    (settleSites s) := by
  unfold settleSites; apply keeps_forEach; intro _; intro _; intro _; apply keeps_settleSite; assumption; assumption

theorem keeps_siteSettled {W : Part → Prop} [May W .regs] [May W .links] [May W .swc] [May W .rhs] [May W .outbox] {s0 : State}
    (l : Nat) (s : State) (hk0 : Keeps W s0 s) : Keeps W s0 (siteSettled l s) := by
  unfold siteSettled; apply keeps_ite; apply keeps_startTraining; assumption; assumption

theorem keeps_acceptCart {W : Part → Prop} [May W .regs] [May W .house] [May W .links] [May W .sites] [May W .swc] [May W .rhs]
    [May W .outbox] {s0 : State} (st : Nat) (e : List Byte) (s : State) (hk0 : Keeps W s0 s) : Keeps W s0 (acceptCart st e s) := by
  unfold acceptCart; dsimp only; apply keeps_siteSettled; apply keeps_settleSite; apply keeps_recordCart; apply keeps_State_setFld
  apply keeps_State_setSite; assumption

theorem keeps_refuseCart {W : Part → Prop} [May W .regs] [May W .links] [May W .sites] [May W .swc] [May W .ten] [May W .sp]
    [May W .cue] [May W .col] [May W .board] [May W .mail] [May W .host] [May W .rhs] [May W .outbox] {s0 : State} (st : Nat)
    (s : State) (hk0 : Keeps W s0 s) : Keeps W s0 (refuseCart st s) := by
  unfold refuseCart; dsimp only; apply keeps_ite; apply keeps_State_setSite; assumption; apply keeps_watchLink; intro _; intro _
  apply keeps_enterDown; assumption; apply keeps_State_setSite; assumption

theorem keeps_execCartIdReadComplete {W : Part → Prop} [May W .regs] [May W .house] [May W .links] [May W .sites] [May W .swc]
    [May W .ten] [May W .sp] [May W .cue] [May W .col] [May W .board] [May W .mail] [May W .host] [May W .rhs] [May W .outbox]
    {s0 : State} (site : Fin 20) (eeprom : List Byte) (s : State) (hk0 : Keeps W s0 s) {tnext : State}
    (ht : execCartIdReadComplete site eeprom s = .next tnext) : Keeps W s0 tnext := by
  unfold execCartIdReadComplete at ht; cases ht; apply keeps_ite; apply keeps_ite; apply keeps_acceptCart; assumption
  apply keeps_refuseCart; assumption; assumption

theorem keeps_execCartIdTimeout {W : Part → Prop} [May W .regs] [May W .links] [May W .sites] [May W .swc] [May W .ten] [May W .sp]
    [May W .cue] [May W .col] [May W .board] [May W .mail] [May W .host] [May W .rhs] [May W .outbox] {s0 : State} (site : Fin 20)
    (s : State) (hk0 : Keeps W s0 s) {tnext : State} (ht : execCartIdTimeout site s = .next tnext) : Keeps W s0 tnext := by
  unfold execCartIdTimeout at ht; cases ht; apply keeps_ite; apply keeps_refuseCart; assumption; assumption

theorem keeps_execSitePowerGood {W : Part → Prop} [May W .regs] [May W .links] [May W .sites] [May W .swc] [May W .rhs] [May W .outbox]
    {s0 : State} (site : Fin 20) (s : State) (hk0 : Keeps W s0 s) {tnext : State} (ht : execSitePowerGood site s = .next tnext)
    : Keeps W s0 tnext := by
  unfold execSitePowerGood at ht; cases ht; apply keeps_ite; apply keeps_siteSettled; apply keeps_State_setSite; assumption; assumption

theorem keeps_removeCart {W : Part → Prop} [May W .regs] [May W .house] [May W .links] [May W .sites] [May W .swc] [May W .ten]
    [May W .sp] [May W .cue] [May W .col] [May W .board] [May W .mail] [May W .host] [May W .rhs] [May W .outbox] {s0 : State}
    (st : Nat) (s : State) (hk0 : Keeps W s0 s) : Keeps W s0 (removeCart st s) := by
  unfold removeCart; dsimp only; apply keeps_ite; apply keeps_settleSite; apply keeps_State_setSite; apply keeps_State_setFld
  apply keeps_State_setFld; apply keeps_State_setFld; assumption; apply keeps_takeDown; apply keeps_State_setFld; apply keeps_settleSite
  apply keeps_State_setSite; apply keeps_State_setFld; apply keeps_State_setFld; apply keeps_State_setFld; assumption

theorem keeps_execCartridgeRemove {W : Part → Prop} [May W .regs] [May W .house] [May W .links] [May W .sites] [May W .swc] [May W .ten]
    [May W .sp] [May W .cue] [May W .col] [May W .board] [May W .mail] [May W .host] [May W .rhs] [May W .outbox] {s0 : State}
    (site : Fin 20) (s : State) (hk0 : Keeps W s0 s) {tnext : State} (ht : execCartridgeRemove site s = .next tnext)
    : Keeps W s0 tnext := by
  unfold execCartridgeRemove at ht; cases ht; apply keeps_ite; apply keeps_removeCart; assumption; assumption

theorem keeps_returnSwing {W : Part → Prop} [May W .links] [May W .outbox] {s0 : State} (l sw : Nat) (mine : Bool) (s : State)
    (hk0 : Keeps W s0 s) : Keeps W s0 (returnSwing l sw mine s) := by
  unfold returnSwing; split; apply keeps_startSub; assumption; split; apply keeps_ite; apply keeps_startSub; assumption; assumption
  assumption

theorem keeps_callOff {W : Part → Prop} [May W .links] [May W .outbox] {s0 : State} (l sw : Nat) (mine : Bool) (s : State) (hk0
    : Keeps W s0 s) : Keeps W s0 (callOff l sw mine s) := by
  unfold callOff; split; apply keeps_ite; apply keeps_State_modLink; assumption; apply keeps_returnSwing; assumption; apply keeps_ite
  assumption; apply keeps_returnSwing; assumption

theorem keeps_takeSwing {W : Part → Prop} [May W .links] [May W .outbox] {s0 : State} (l p : Nat) (mine : Bool) (s : State) (hk0
    : Keeps W s0 s) : Keeps W s0 (takeSwing l p mine s) := by
  unfold takeSwing; apply keeps_startSub; apply keeps_callOff; assumption

theorem keeps_replaceLane {W : Part → Prop} [May W .regs] [May W .links] [May W .swc] [May W .ten] [May W .sp] [May W .cue] [May W .col]
    [May W .board] [May W .mail] [May W .host] [May W .rhs] [May W .outbox] {s0 : State} (l p : Nat) (mine : Bool) (s : State)
    (hk0 : Keeps W s0 s) : Keeps W s0 (replaceLane l p mine s) := by
  unfold replaceLane; split; apply keeps_takeSwing; apply keeps_fireWaiting; apply keeps_abandonSlices; assumption; apply keeps_ite
  apply keeps_startSub; assumption; apply keeps_ite; apply keeps_takeSwing; assumption; apply keeps_watchLink; intro _; intro _
  apply keeps_laneFails; assumption; assumption

theorem keeps_markReplaced {W : Part → Prop} [May W .regs] {s0 : State} (l p : Nat) (s : State) (hk0 : Keeps W s0 s) : Keeps W s0
    (markReplaced l p s) := by
  unfold markReplaced; dsimp only; apply keeps_recordFailure; apply keeps_ite; apply keeps_State_raise; assumption
  apply keeps_State_raise; assumption

theorem keeps_requestSub {W : Part → Prop} [May W .regs] [May W .links] [May W .swc] [May W .ten] [May W .sp] [May W .cue] [May W .col]
    [May W .board] [May W .mail] [May W .host] [May W .rhs] [May W .outbox] {s0 : State} (l p : Nat) (s : State) (hk0
    : Keeps W s0 s) : Keeps W s0 (requestSub l p s) := by
  unfold requestSub; apply keeps_ite; assumption; dsimp only; apply keeps_ite; apply keeps_markReplaced; apply keeps_replaceLane
  assumption; apply keeps_replaceLane; assumption

theorem keeps_execLaneSubRequest {W : Part → Prop} [May W .regs] [May W .links] [May W .swc] [May W .ten] [May W .sp] [May W .cue]
    [May W .col] [May W .board] [May W .mail] [May W .host] [May W .rhs] [May W .outbox] {s0 : State} (l : Fin 14) (lane : Fin 34)
    (s : State) (hk0 : Keeps W s0 s) {tnext : State} (ht : execLaneSubRequest l lane s = .next tnext) : Keeps W s0 tnext := by
  unfold execLaneSubRequest at ht; cases ht; apply keeps_ite; apply keeps_requestSub; assumption; assumption

theorem keeps_takeSub {W : Part → Prop} [May W .regs] [May W .links] [May W .swc] [May W .ten] [May W .sp] [May W .cue] [May W .col]
    [May W .board] [May W .mail] [May W .host] [May W .rhs] [May W .outbox] {s0 : State} (l p : Nat) (s : State) (hk0
    : Keeps W s0 s) : Keeps W s0 (takeSub l p s) := by
  unfold takeSub; split; apply keeps_ite; assumption; apply keeps_ite; apply keeps_watchLink; intro _; intro _; apply keeps_laneFails
  assumption; assumption; dsimp only; apply keeps_watchLink; intro _; intro _; apply keeps_laneFails; assumption; apply keeps_startSub
  apply keeps_State_modLink; assumption; apply keeps_ite; apply keeps_returnSwing; assumption; apply keeps_ite; apply keeps_replaceLane
  assumption; assumption

theorem keeps_execLaneSubReceive {W : Part → Prop} [May W .regs] [May W .links] [May W .swc] [May W .ten] [May W .sp] [May W .cue]
    [May W .col] [May W .board] [May W .mail] [May W .host] [May W .rhs] [May W .outbox] {s0 : State} (l : Fin 14) (lane : Fin 34)
    (s : State) (hk0 : Keeps W s0 s) {tnext : State} (ht : execLaneSubReceive l lane s = .next tnext) : Keeps W s0 tnext := by
  unfold execLaneSubReceive at ht; cases ht; apply keeps_ite; apply keeps_takeSub; assumption; assumption

theorem keeps_execLaneSubComma {W : Part → Prop} [May W .regs] [May W .links] [May W .host] [May W .outbox] {s0 : State} (l : Fin 14)
    (s : State) (hk0 : Keeps W s0 s) {tnext : State} (ht : execLaneSubComma l s = .next tnext) : Keeps W s0 tnext := by
  unfold execLaneSubComma at ht; cases ht; apply keeps_ite; apply keeps_subComma; assumption; assumption

theorem keeps_execSubWindowEnd {W : Part → Prop} [May W .regs] [May W .links] {s0 : State} (l : Fin 14) (s : State) (hk0 : Keeps W s0 s)
    {tnext : State} (ht : execSubWindowEnd l s = .next tnext) : Keeps W s0 tnext := by
  unfold execSubWindowEnd at ht; cases ht; apply keeps_ite; apply keeps_forEach; intro _; intro _; intro _; apply keeps_State_setFld
  apply keeps_State_setFld; assumption; apply keeps_State_modLink; assumption; assumption

theorem keeps_execLaneFailureNoSwing {W : Part → Prop} [May W .regs] [May W .links] [May W .swc] [May W .ten] [May W .sp] [May W .cue]
    [May W .col] [May W .board] [May W .mail] [May W .host] [May W .rhs] [May W .outbox] {s0 : State} (l : Fin 14) (lane : Fin 34)
    (s : State) (hk0 : Keeps W s0 s) {tnext : State} (ht : execLaneFailureNoSwing l lane s = .next tnext) : Keeps W s0 tnext := by
  unfold execLaneFailureNoSwing at ht; cases ht; apply keeps_ite; apply keeps_watchLink; intro _; intro _; apply keeps_laneFails
  assumption; assumption; assumption

theorem keeps_execLinkRetrain {W : Part → Prop} [May W .regs] [May W .links] [May W .swc] [May W .ten] [May W .sp] [May W .cue]
    [May W .col] [May W .board] [May W .mail] [May W .host] [May W .rhs] [May W .outbox] {s0 : State} (l : Fin 14) (s : State)
    (hk0 : Keeps W s0 s) {tnext : State} (ht : execLinkRetrain l s = .next tnext) : Keeps W s0 tnext := by
  unfold execLinkRetrain at ht; cases ht; apply keeps_ite; apply keeps_ownRetrain; assumption; assumption

theorem keeps_retrainFull {W : Part → Prop} [May W .regs] [May W .links] [May W .swc] [May W .ten] [May W .sp] [May W .cue] [May W .col]
    [May W .board] [May W .mail] [May W .host] [May W .rhs] [May W .outbox] {s0 : State} (l : Nat) (s : State) (hk0
    : Keeps W s0 s) : Keeps W s0 (retrainFull l s) := by
  unfold retrainFull; apply keeps_ite; assumption; apply keeps_watchLink; intro _; intro _; apply keeps_fullRetrain; assumption
  assumption

theorem keeps_execLinkRetrainFull {W : Part → Prop} [May W .regs] [May W .links] [May W .swc] [May W .ten] [May W .sp] [May W .cue]
    [May W .col] [May W .board] [May W .mail] [May W .host] [May W .rhs] [May W .outbox] {s0 : State} (l : Fin 14) (s : State)
    (hk0 : Keeps W s0 s) {tnext : State} (ht : execLinkRetrainFull l s = .next tnext) : Keeps W s0 tnext := by
  unfold execLinkRetrainFull at ht; cases ht; apply keeps_ite; apply keeps_retrainFull; assumption; assumption

theorem keeps_disableLink {W : Part → Prop} [May W .regs] [May W .house] [May W .links] [May W .sites] [May W .swc] [May W .ten]
    [May W .sp] [May W .cue] [May W .col] [May W .board] [May W .mail] [May W .host] [May W .rhs] [May W .outbox] {s0 : State} (l : Nat)
    (s : State) (hk0 : Keeps W s0 s) : Keeps W s0 (disableLink l s) := by
  unfold disableLink; dsimp only; apply keeps_forEach; intro _; intro _; intro _; apply keeps_settleSite; assumption
  apply keeps_State_setFld; apply keeps_ite; apply keeps_State_setFld; assumption; apply keeps_takeDown; apply keeps_State_setFld
  assumption

theorem keeps_execLinkDisable {W : Part → Prop} [May W .regs] [May W .house] [May W .links] [May W .sites] [May W .swc] [May W .ten]
    [May W .sp] [May W .cue] [May W .col] [May W .board] [May W .mail] [May W .host] [May W .rhs] [May W .outbox] {s0 : State}
    (l : Fin 14) (s : State) (hk0 : Keeps W s0 s) {tnext : State} (ht : execLinkDisable l s = .next tnext) : Keeps W s0 tnext := by
  unfold execLinkDisable at ht; cases ht; apply keeps_ite; apply keeps_disableLink; assumption; assumption

theorem keeps_enableLink {W : Part → Prop} [May W .regs] [May W .house] [May W .links] [May W .sites] [May W .swc] [May W .rhs]
    [May W .spState] [May W .outbox] {s0 : State} (l : Nat) (s : State) (hk0 : Keeps W s0 s) : Keeps W s0 (enableLink l s) := by
  unfold enableLink; dsimp only; apply keeps_ite; apply keeps_ite; apply keeps_State_raise; assumption; apply keeps_graceExpire
  apply keeps_State_raise; assumption; apply keeps_freshTraining; apply keeps_forEach; intro _; intro _; intro _; apply keeps_settleSite
  assumption; apply keeps_portUsed; apply keeps_ite; apply keeps_State_raise; assumption; apply keeps_graceExpire
  apply keeps_State_raise; assumption

theorem keeps_execLinkEnable {W : Part → Prop} [May W .regs] [May W .house] [May W .links] [May W .sites] [May W .swc] [May W .rhs]
    [May W .spState] [May W .outbox] {s0 : State} (l : Fin 14) (s : State) (hk0 : Keeps W s0 s) {tnext : State}
    (ht : execLinkEnable l s = .next tnext) : Keeps W s0 tnext := by
  unfold execLinkEnable at ht; cases ht; apply keeps_ite; apply keeps_enableLink; assumption; assumption

theorem keeps_startLoop {W : Part → Prop} [May W .regs] [May W .links] [May W .outbox] {s0 : State} (l mode lane : Nat) (s : State)
    (hk0 : Keeps W s0 s) : Keeps W s0 (startLoop l mode lane s) := by
  unfold startLoop; dsimp only; apply keeps_ite; apply keeps_takeFree; apply keeps_State_setFld; apply keeps_emit
  apply keeps_setLinkState; apply keeps_State_setFld; apply keeps_State_setFld; assumption; apply keeps_State_raise
  apply keeps_setLinkState; apply keeps_State_setFld; apply keeps_State_setFld; assumption

theorem keeps_stopLoop {W : Part → Prop} [May W .regs] [May W .links] [May W .swc] [May W .rhs] [May W .outbox] {s0 : State}
    (l lane : Nat) (s : State) (hk0 : Keeps W s0 s) : Keeps W s0 (stopLoop l lane s) := by
  unfold stopLoop; dsimp only; apply keeps_ite; apply keeps_State_setFld; apply keeps_State_setFld; apply keeps_State_setFld; assumption
  apply keeps_ite; apply keeps_enterDown; apply keeps_State_setFld; apply keeps_State_setFld; apply keeps_State_setFld; assumption
  apply keeps_enterDown; apply keeps_State_setFld; apply keeps_State_setFld; apply keeps_State_setFld; assumption

theorem keeps_writeLoop {W : Part → Prop} [May W .regs] [May W .links] [May W .swc] [May W .rhs] [May W .outbox] {s0 : State}
    (l mode lane : Nat) (s : State) (hk0 : Keeps W s0 s) : Keeps W s0 (writeLoop l mode lane s) := by
  unfold writeLoop; dsimp only; apply keeps_ite; apply keeps_State_raise; assumption; apply keeps_ite; apply keeps_stopLoop; assumption
  apply keeps_ite; apply keeps_startLoop; assumption; apply keeps_State_raise; assumption

theorem keeps_execLoopModeWrite {W : Part → Prop} [May W .regs] [May W .links] [May W .swc] [May W .rhs] [May W .outbox] {s0 : State}
    (l : Fin 14) (mode : Fin 4) (lane : Fin 64) (s : State) (hk0 : Keeps W s0 s) {tnext : State}
    (ht : execLoopModeWrite l mode lane s = .next tnext) : Keeps W s0 tnext := by
  unfold execLoopModeWrite at ht; cases ht; apply keeps_ite; apply keeps_writeLoop; assumption; assumption

theorem keeps_execFarLoopRequest {W : Part → Prop} [May W .links] [May W .outbox] {s0 : State} (l : Fin 14) (lane : Fin 64) (s : State)
    (hk0 : Keeps W s0 s) {tnext : State} (ht : execFarLoopRequest l lane s = .next tnext) : Keeps W s0 tnext := by
  unfold execFarLoopRequest at ht; cases ht; apply keeps_ite; dsimp only; apply keeps_sendLinkMsg; apply keeps_ite
  apply keeps_State_modLink; assumption; assumption; assumption

theorem keeps_takeFrame {W : Part → Prop} [May W .regs] [May W .links] [May W .swc] {s0 : State} (l : Nat) (q : QFrame) (s : State)
    (hk0 : Keeps W s0 s) : Keeps W s0 (takeFrame l q s) := by
  unfold takeFrame; dsimp only; apply keeps_ite; apply keeps_releaseStored; apply keeps_discard; assumption; apply keeps_ite
  apply keeps_ite; apply keeps_answerErr; apply keeps_releaseStored; apply keeps_ite; assumption; apply keeps_State_count; assumption
  apply keeps_releaseStored; apply keeps_discard; assumption; apply keeps_routeArrival; assumption

theorem keeps_ingress {W : Part → Prop} [May W .regs] [May W .links] [May W .swc] {s0 : State} (l : Nat) (r : RxFrame) (s : State)
    (hk0 : Keeps W s0 s) : Keeps W s0 (ingress l r s) := by
  unfold ingress; dsimp only; split; apply keeps_returnCredit; apply keeps_dropLog; apply keeps_State_count; apply keeps_State_modLink
  assumption; apply keeps_takeFrame; apply keeps_bumpStor; apply keeps_State_modLink; assumption

theorem keeps_execFrameIngress {W : Part → Prop} [May W .regs] [May W .links] [May W .swc] {s0 : State} (l : Fin 14) (s : State)
    (hk0 : Keeps W s0 s) {tnext : State} (ht : execFrameIngress l s = .next tnext) : Keeps W s0 tnext := by
  unfold execFrameIngress at ht; cases ht; split; assumption; apply keeps_ite; apply keeps_ingress; assumption; assumption

theorem keeps_execFenceRelease {W : Part → Prop} [May W .regs] [May W .links] [May W .swc] {s0 : State} (stor : Nat) (s : State)
    (hk0 : Keeps W s0 s) {tnext : State} (ht : execFenceRelease stor s = .next tnext) : Keeps W s0 tnext := by
  unfold execFenceRelease at ht; cases ht; split; assumption; apply keeps_ite; apply keeps_routeOn; intro _; intro _; intro _; intro _
  apply keeps_answerErr; assumption; apply keeps_State_modSwc; assumption; assumption

theorem keeps_ageOut {W : Part → Prop} [May W .regs] [May W .links] [May W .swc] {s0 : State} (q : QFrame) (s : State) (hk0
    : Keeps W s0 s) : Keeps W s0 (ageOut q s) := by
  unfold ageOut; dsimp only; apply keeps_ite; apply keeps_answerErr; apply keeps_releaseStored; apply keeps_discard
  apply keeps_State_modSwc; assumption; apply keeps_releaseStored; apply keeps_discard; apply keeps_State_modSwc; assumption

theorem keeps_execFrameAgeExpiry {W : Part → Prop} [May W .regs] [May W .links] [May W .swc] {s0 : State} (stor : Nat) (port : Fin 14)
    (s : State) (hk0 : Keeps W s0 s) {tnext : State} (ht : execFrameAgeExpiry stor port s = .next tnext) : Keeps W s0 tnext := by
  unfold execFrameAgeExpiry at ht; cases ht; split; assumption; apply keeps_ite; apply keeps_ageOut; assumption; assumption

theorem keeps_execPortGraceExpiry {W : Part → Prop} [May W .regs] [May W .links] [May W .swc] {s0 : State} (l : Fin 14) (s : State)
    (hk0 : Keeps W s0 s) {tnext : State} (ht : execPortGraceExpiry l s = .next tnext) : Keeps W s0 tnext := by
  unfold execPortGraceExpiry at ht; cases ht; apply keeps_ite; apply keeps_graceExpire; assumption; assumption

theorem keeps_becomeEligible {W : Part → Prop} [May W .swc] {s0 : State} (q : QFrame) (s : State) (hk0 : Keeps W s0 s) : Keeps W s0
    (becomeEligible q s) := by
  unfold becomeEligible; dsimp only; apply keeps_State_modSwc; assumption

theorem keeps_execEscapeWaitExpiry {W : Part → Prop} [May W .swc] {s0 : State} (stor : Nat) (s : State) (hk0 : Keeps W s0 s)
    {tnext : State} (ht : execEscapeWaitExpiry stor s = .next tnext) : Keeps W s0 tnext := by
  unfold execEscapeWaitExpiry at ht; cases ht; split; assumption; apply keeps_ite; apply keeps_becomeEligible; assumption; assumption

theorem keeps_holdExpires {W : Part → Prop} [May W .regs] [May W .links] [May W .swc] {s0 : State} (t : Stream) (h : InFrame)
    (s : State) (hk0 : Keeps W s0 s) : Keeps W s0 (holdExpires t h s) := by
  unfold holdExpires; dsimp only; apply keeps_passHeld; intro _; intro _; intro _; intro _; apply keeps_answerErr; assumption
  apply keeps_putStream; assumption

theorem keeps_execSprayHoldExpiry {W : Part → Prop} [May W .regs] [May W .links] [May W .swc] {s0 : State} (chip : Fin 4096)
    (port : Fin 16) (cls : Fin 4) (seq : Fin 16777216) (s : State) (hk0 : Keeps W s0 s) {tnext : State}
    (ht : execSprayHoldExpiry chip port cls seq s = .next tnext) : Keeps W s0 tnext := by
  unfold execSprayHoldExpiry at ht; cases ht; split; assumption; split; assumption; apply keeps_ite; apply keeps_holdExpires; assumption
  assumption

theorem keeps_execSprayStreamExpiry {W : Part → Prop} [May W .swc] {s0 : State} (chip : Fin 4096) (port : Fin 16) (cls : Fin 4)
    (s : State) (hk0 : Keeps W s0 s) {tnext : State} (ht : execSprayStreamExpiry chip port cls s = .next tnext) : Keeps W s0 tnext := by
  unfold execSprayStreamExpiry at ht; cases ht; split; assumption; apply keeps_ite; apply keeps_State_modSwc; assumption; assumption

theorem keeps_stopReorder {W : Part → Prop} [May W .regs] [May W .links] [May W .swc] {s0 : State} (s : State) (hk0
    : Keeps W s0 s) : Keeps W s0 (stopReorder s) := by
  unfold stopReorder; dsimp only; apply keeps_forEach; intro _; intro _; intro _; apply keeps_passHeld; intro _; intro _; intro _
  intro _; apply keeps_answerErr; assumption; assumption; apply keeps_State_modSwc; apply keeps_State_setFld; assumption

theorem keeps_execReorderDisable {W : Part → Prop} [May W .regs] [May W .links] [May W .swc] {s0 : State} (s : State) (hk0
    : Keeps W s0 s) {tnext : State} (ht : execReorderDisable s = .next tnext) : Keeps W s0 tnext := by
  unfold execReorderDisable at ht; cases ht; apply keeps_ite; apply keeps_stopReorder; assumption; assumption

theorem keeps_refuseAct {W : Part → Prop} [May W .regs] {s0 : State} (s : State) (hk0 : Keeps W s0 s) : Keeps W s0 (refuseAct s) := by
  unfold refuseAct; apply keeps_State_raise; assumption

theorem keeps_sealAct {W : Part → Prop} [May W .regs] {s0 : State} (a : Nat) (s : State) (hk0 : Keeps W s0 s) : Keeps W s0
    (sealAct a s) := by
  unfold sealAct; apply keeps_ite; apply keeps_State_setFld; assumption; apply keeps_refuseAct; assumption

theorem keeps_execActSeal {W : Part → Prop} [May W .regs] {s0 : State} (act : Fin 2) (s : State) (hk0 : Keeps W s0 s) {tnext : State}
    (ht : execActSeal act s = .next tnext) : Keeps W s0 tnext := by
  unfold execActSeal at ht; cases ht; apply keeps_ite; apply keeps_sealAct; assumption; assumption

theorem keeps_armAct {W : Part → Prop} [May W .regs] [May W .swc] {s0 : State} (a : Nat) (s : State) (hk0 : Keeps W s0 s) : Keeps W s0
    (armAct a s) := by
  unfold armAct; apply keeps_ite; apply keeps_State_modSwc; assumption; apply keeps_refuseAct; assumption

theorem keeps_execActArm {W : Part → Prop} [May W .regs] [May W .swc] {s0 : State} (act : Fin 2) (s : State) (hk0 : Keeps W s0 s)
    {tnext : State} (ht : execActArm act s = .next tnext) : Keeps W s0 tnext := by
  unfold execActArm at ht; cases ht; apply keeps_ite; apply keeps_armAct; assumption; assumption

theorem keeps_retireAct {W : Part → Prop} [May W .regs] [May W .swc] {s0 : State} (a : Nat) (s : State) (hk0 : Keeps W s0 s)
    : Keeps W s0 (retireAct a s) := by
  unfold retireAct; apply keeps_State_modSwc; apply keeps_State_setFld; assumption

theorem keeps_execActRetire {W : Part → Prop} [May W .regs] [May W .swc] {s0 : State} (act : Fin 2) (s : State) (hk0 : Keeps W s0 s)
    {tnext : State} (ht : execActRetire act s = .next tnext) : Keeps W s0 tnext := by
  unfold execActRetire at ht; cases ht; apply keeps_ite; apply keeps_retireAct; assumption; assumption

theorem keeps_execActRetireTimer {W : Part → Prop} [May W .regs] [May W .swc] {s0 : State} (act : Fin 2) (s : State) (hk0
    : Keeps W s0 s) {tnext : State} (ht : execActRetireTimer act s = .next tnext) : Keeps W s0 tnext := by
  unfold execActRetireTimer at ht; cases ht; apply keeps_ite; apply keeps_retireAct; assumption; assumption

theorem keeps_ownEnds {W : Part → Prop} [May W .regs] [May W .links] [May W .swc] [May W .mem] [May W .ten] [May W .sp] [May W .cue]
    [May W .waking] {s0 : State} (why : Purpose) (data : List Byte) (err : Nat) (s : State) (hk0 : Keeps W s0 s) : Keeps W s0
    (ownEnds why data err s) := by
  unfold ownEnds; split; apply keeps_pieceAnswered; assumption; apply keeps_pieceAnswered; assumption; apply keeps_mirrorAnswered
  assumption; apply keeps_mirrorAnswered; assumption; assumption

theorem keeps_dropOwn {W : Part → Prop} [May W .regs] [May W .links] [May W .swc] {s0 : State} (r : OwnReq) (s : State) (hk0
    : Keeps W s0 s) : Keeps W s0 (dropOwn r s) := by
  unfold dropOwn; apply keeps_sendWaiting; apply keeps_State_modSwc; assumption

theorem keeps_attemptOver {W : Part → Prop} [May W .regs] [May W .links] [May W .swc] [May W .mem] [May W .ten] [May W .sp] [May W .cue]
    [May W .waking] {s0 : State} (r : OwnReq) (s : State) (hk0 : Keeps W s0 s) : Keeps W s0 (attemptOver r s) := by
  unfold attemptOver; apply keeps_ite; dsimp only; apply keeps_sendRequest; apply keeps_State_count; apply keeps_State_modSwc
  assumption; apply keeps_ownEnds; apply keeps_State_count; apply keeps_dropOwn; assumption

theorem keeps_takeResponse {W : Part → Prop} [May W .regs] [May W .links] [May W .swc] [May W .mem] [May W .ten] [May W .sp]
    [May W .cue] [May W .waking] {s0 : State} (f : Frame) (s : State) (hk0 : Keeps W s0 s) : Keeps W s0 (takeResponse f s) := by
  unfold takeResponse; split; apply keeps_State_count; assumption; apply keeps_ite; apply keeps_ownEnds; apply keeps_dropOwn; assumption
  dsimp only; apply keeps_ite; apply keeps_ownEnds; apply keeps_dropOwn; assumption; apply keeps_ite; apply keeps_State_count
  apply keeps_State_modSwc; assumption; apply keeps_attemptOver; apply keeps_State_modSwc; assumption

theorem keeps_execCircuitNoticeReceive {W : Part → Prop} [May W .regs] [May W .links] [May W .swc] {s0 : State} (f : Frame) (s : State)
    (hk0 : Keeps W s0 s) {tnext : State} (ht : execCircuitNoticeReceive f s = .next tnext) : Keeps W s0 tnext := by
  unfold execCircuitNoticeReceive at ht; cases ht; split; assumption; apply keeps_ite; apply keeps_takeNotice; apply keeps_dropInbox
  assumption; assumption

theorem keeps_execClearStaged {W : Part → Prop} [May W .regs] {s0 : State} (s : State) (hk0 : Keeps W s0 s) {tnext : State}
    (ht : execClearStaged s = .next tnext) : Keeps W s0 tnext := by
  unfold execClearStaged at ht; cases ht; apply keeps_ite; apply keeps_clearStaged; assumption; assumption

theorem keeps_recordDimm {W : Part → Prop} [May W .regs] {s0 : State} (n serial : Nat) (s : State) (hk0 : Keeps W s0 s) : Keeps W s0
    (recordDimm n serial s) := by
  unfold recordDimm; apply keeps_ite; assumption; apply keeps_State_setFld; apply keeps_State_setFld; assumption

theorem keeps_dimmPowered {W : Part → Prop} [May W .regs] [May W .swc] [May W .mem] {s0 : State} (n : Nat) (d : Spd) (s : State)
    (hk0 : Keeps W s0 s) : Keeps W s0 (dimmPowered n d s) := by
  unfold dimmPowered; dsimp only; split; apply keeps_settleChannels; apply keeps_failChannel; apply keeps_recordDimm
  apply keeps_showDimm; assumption; apply keeps_startAttempt; apply keeps_State_setChan; apply keeps_recordDimm; apply keeps_showDimm
  assumption

theorem keeps_execPmicPowerGood {W : Part → Prop} [May W .regs] [May W .swc] [May W .mem] {s0 : State} (n : Fin 12) (spd : Spd)
    (s : State) (hk0 : Keeps W s0 s) {tnext : State} (ht : execPmicPowerGood n spd s = .next tnext) : Keeps W s0 tnext := by
  unfold execPmicPowerGood at ht; cases ht; apply keeps_ite; apply keeps_dimmPowered; assumption; assumption

theorem keeps_dimmSilent {W : Part → Prop} [May W .regs] [May W .swc] [May W .mem] {s0 : State} (n : Nat) (spd : Option Spd) (s : State)
    (hk0 : Keeps W s0 s) : Keeps W s0 (dimmSilent n spd s) := by
  unfold dimmSilent; split; apply keeps_settleChannels; apply keeps_failChannel; apply keeps_showDimm; assumption; dsimp only
  apply keeps_settleChannels; apply keeps_ite; apply keeps_State_raise; apply keeps_State_setFld; apply keeps_State_setFld
  apply keeps_State_setFld; apply keeps_State_setFld; apply keeps_State_setFld; apply keeps_State_setChan; assumption
  apply keeps_State_setFld; apply keeps_State_setFld; apply keeps_State_setFld; apply keeps_State_setFld; apply keeps_State_setChan
  assumption

theorem keeps_execPmicTimeout {W : Part → Prop} [May W .regs] [May W .swc] [May W .mem] {s0 : State} (n : Fin 12) (spd : Option Spd)
    (s : State) (hk0 : Keeps W s0 s) {tnext : State} (ht : execPmicTimeout n spd s = .next tnext) : Keeps W s0 tnext := by
  unfold execPmicTimeout at ht; cases ht; apply keeps_ite; apply keeps_dimmSilent; assumption; assumption

theorem keeps_trained {W : Part → Prop} [May W .regs] [May W .swc] [May W .mem] [May W .spState] {s0 : State} (n : Fin 12) (s : State)
    (hk0 : Keeps W s0 s) : Keeps W s0 (trained n s) := by
  unfold trained; dsimp only; apply keeps_ite; apply keeps_quarantine; apply keeps_setUnit; apply keeps_State_setFld
  apply keeps_State_setFld; apply keeps_State_setFld; apply keeps_State_modMem; exact byteStep_refl _; apply keeps_State_setFld
  apply keeps_State_setFld; assumption; apply keeps_settleChannels; apply keeps_State_setFld; apply keeps_State_setChan
  apply keeps_State_setFld; apply keeps_State_setFld; apply keeps_State_modMem; exact byteStep_refl _; apply keeps_State_setFld
  apply keeps_State_setFld; assumption

theorem keeps_untrained {W : Part → Prop} [May W .regs] [May W .swc] [May W .mem] {s0 : State} (n : Fin 12) (s : State) (hk0
    : Keeps W s0 s) : Keeps W s0 (untrained n s) := by
  unfold untrained; dsimp only; apply keeps_ite; apply keeps_State_setChan; assumption; apply keeps_ite; apply keeps_startAttempt
  assumption; apply keeps_settleChannels; apply keeps_failChannel; assumption

theorem keeps_execChannelTrainingComplete {W : Part → Prop} [May W .regs] [May W .swc] [May W .mem] [May W .spState] {s0 : State}
    (n : Fin 12) (ok : Bool) (s : State) (hk0 : Keeps W s0 s) {tnext : State}
    (ht : execChannelTrainingComplete n ok s = .next tnext) : Keeps W s0 tnext := by
  unfold execChannelTrainingComplete at ht; cases ht; apply keeps_ite; apply keeps_ite; apply keeps_trained; assumption
  apply keeps_untrained; assumption; assumption

theorem keeps_writeSet {W : Part → Prop} [May W .regs] [May W .mem] {s0 : State} (k : Nat) (v : Word) (s : State) (hk0
    : Keeps W s0 s) : Keeps W s0 (writeSet k v s) := by
  unfold writeSet; dsimp only; apply keeps_ite; apply keeps_State_raise; assumption; apply keeps_ite; apply keeps_ite
  apply keeps_State_raise; assumption; apply keeps_settleOpen; apply keeps_installSet; assumption; apply keeps_settleOpen
  apply keeps_State_setFld; apply keeps_State_setFld; apply keeps_State_setFld; apply keeps_State_setFld; apply keeps_State_setFld
  apply keeps_State_setFld; assumption

theorem keeps_execMemSetWrite {W : Part → Prop} [May W .regs] [May W .mem] {s0 : State} (k : Fin 12) (value : Word) (s : State)
    (hk0 : Keeps W s0 s) {tnext : State} (ht : execMemSetWrite k value s = .next tnext) : Keeps W s0 tnext := by
  unfold execMemSetWrite at ht; cases ht; apply keeps_ite; apply keeps_writeSet; assumption; assumption

theorem keeps_setZeroed {W : Part → Prop} [May W .regs] [May W .mem] [May W .dram] {s0 : State} (k : Nat) (s : State) (hk0
    : Keeps W s0 s) : Keeps W s0 (setZeroed k s) := by
  unfold setZeroed; dsimp only; apply keeps_settleOpen; apply keeps_ite; apply keeps_State_modMem; exact byteStep_refl _
  apply keeps_State_raise; apply keeps_State_setFld; apply keeps_startScrub; apply keeps_placeFilter; apply keeps_State_setFld
  apply keeps_zeroSet; assumption; apply keeps_startScrub; apply keeps_placeFilter; apply keeps_State_setFld; apply keeps_zeroSet
  assumption

theorem keeps_execSetZeroingComplete {W : Part → Prop} [May W .regs] [May W .mem] [May W .dram] {s0 : State} (k : Fin 12) (s : State)
    (hk0 : Keeps W s0 s) {tnext : State} (ht : execSetZeroingComplete k s = .next tnext) : Keeps W s0 tnext := by
  unfold execSetZeroingComplete at ht; cases ht; apply keeps_ite; apply keeps_setZeroed; assumption; assumption

theorem keeps_takePool {W : Part → Prop} [May W .regs] [May W .house] [May W .links] [May W .swc] [May W .mem] [May W .rhs]
    [May W .waking] [May W .outbox] {s0 : State} (h : InFrame) (serve : State → State) (s : State)
    (hf_serve : ∀ x0, Keeps W s0 x0 → Keeps W s0 (serve x0)) (hk0 : Keeps W s0 s) : Keeps W s0 (takePool h serve s) := by
  unfold takePool; apply keeps_ite; dsimp only; apply keeps_stopPhySlices; apply keeps_wakeChans; assumption; apply keeps_settleStrike
  apply keeps_admitPool; apply hf_serve; apply keeps_dropInbox; assumption

theorem keeps_execPoolRequest {W : Part → Prop} [May W .regs] [May W .house] [May W .links] [May W .swc] [May W .mem] [May W .dram]
    [May W .rhs] [May W .waking] [May W .outbox] {s0 : State} (f : Frame) (errs : List (Nat × List Byte)) (s : State) (hk0
    : Keeps W s0 s) {tnext : State} (ht : execPoolRequest f errs s = .next tnext) : Keeps W s0 tnext := by
  unfold execPoolRequest at ht; cases ht; split; assumption; apply keeps_ite; apply keeps_takePool; intro _; intro _
  apply keeps_servePool; assumption; assumption; assumption

theorem keeps_execMirrorWriteReceive {W : Part → Prop} [May W .regs] [May W .house] [May W .links] [May W .swc] [May W .mem]
    [May W .dram] [May W .rhs] [May W .waking] [May W .outbox] {s0 : State} (f : Frame) (s : State) (hk0 : Keeps W s0 s) {tnext : State}
    (ht : execMirrorWriteReceive f s = .next tnext) : Keeps W s0 tnext := by
  unfold execMirrorWriteReceive at ht; cases ht; split; assumption; apply keeps_ite; apply keeps_takePool; intro _; intro _
  apply keeps_serveMirror; assumption; assumption; assumption

theorem keeps_endHold {W : Part → Prop} [May W .regs] [May W .links] [May W .swc] [May W .mem] [May W .dram] [May W .host]
    [May W .outbox] {s0 : State} (h : MirrorHold) (s : State) (hk0 : Keeps W s0 s) : Keeps W s0 (endHold h s) := by
  unfold endHold; dsimp only; split; apply keeps_ite; apply keeps_reportHostFailure; apply keeps_finishHold; assumption
  apply keeps_finishHold; assumption; apply keeps_finishHold; assumption

theorem keeps_execMirrorAckReceive {W : Part → Prop} [May W .regs] [May W .house] [May W .links] [May W .swc] [May W .mem] [May W .dram]
    [May W .host] [May W .rhs] [May W .outbox] {s0 : State} (id : Nat) (s : State) (hk0 : Keeps W s0 s) {tnext : State}
    (ht : execMirrorAckReceive id s = .next tnext) : Keeps W s0 tnext := by
  unfold execMirrorAckReceive at ht; cases ht; split; assumption; apply keeps_ite; apply keeps_settleStrike; apply keeps_admitPool
  apply keeps_endHold; assumption; assumption

theorem keeps_startSync {W : Part → Prop} [May W .regs] [May W .mem] {s0 : State} (k : Nat) (s : State) (hk0 : Keeps W s0 s)
    : Keeps W s0 (startSync k s) := by
  unfold startSync; dsimp only; apply keeps_ite; assumption; apply keeps_ite; apply keeps_State_raise; assumption
  apply keeps_State_modMem; exact byteStep_refl _; apply keeps_State_setFld; apply keeps_State_setFld; apply keeps_State_setFld
  assumption

theorem keeps_execMirrorSyncStart {W : Part → Prop} [May W .regs] [May W .mem] {s0 : State} (k : Fin 16) (s : State) (hk0
    : Keeps W s0 s) {tnext : State} (ht : execMirrorSyncStart k s = .next tnext) : Keeps W s0 tnext := by
  unfold execMirrorSyncStart at ht; cases ht; apply keeps_ite; apply keeps_startSync; assumption; assumption

theorem keeps_execMirrorSyncComplete {W : Part → Prop} [May W .regs] [May W .mem] {s0 : State} (k : Fin 16) (s : State) (hk0
    : Keeps W s0 s) {tnext : State} (ht : execMirrorSyncComplete k s = .next tnext) : Keeps W s0 tnext := by
  unfold execMirrorSyncComplete at ht; cases ht; split; assumption; apply keeps_ite; apply keeps_State_setFld; apply keeps_State_modMem
  exact byteStep_refl _; assumption; assumption

theorem keeps_stopMirror {W : Part → Prop} [May W .regs] [May W .links] [May W .swc] [May W .mem] {s0 : State} (k : Nat) (s : State)
    (hk0 : Keeps W s0 s) : Keeps W s0 (stopMirror k s) := by
  unfold stopMirror; apply keeps_ite; assumption; dsimp only; apply keeps_sendBreak; apply keeps_State_modMem; exact byteStep_refl _
  apply keeps_State_setFld; apply keeps_State_setFld; assumption

theorem keeps_execMirrorOff {W : Part → Prop} [May W .regs] [May W .links] [May W .swc] [May W .mem] {s0 : State} (k : Fin 16)
    (s : State) (hk0 : Keeps W s0 s) {tnext : State} (ht : execMirrorOff k s = .next tnext) : Keeps W s0 tnext := by
  unfold execMirrorOff at ht; cases ht; apply keeps_ite; apply keeps_stopMirror; assumption; assumption

theorem keeps_enableWindow {W : Part → Prop} [May W .regs] {s0 : State} (k : Nat) (on : Bool) (s : State) (hk0 : Keeps W s0 s)
    : Keeps W s0 (enableWindow k on s) := by
  unfold enableWindow; apply keeps_ite; apply keeps_State_setFld; apply keeps_State_setFld; assumption; apply keeps_ite; assumption
  apply keeps_ite; apply keeps_State_raise; assumption; apply keeps_State_setFld; apply keeps_State_raise; assumption

theorem keeps_execWindowEnable {W : Part → Prop} [May W .regs] {s0 : State} (k : Fin 16) (on : Bool) (s : State) (hk0 : Keeps W s0 s)
    {tnext : State} (ht : execWindowEnable k on s = .next tnext) : Keeps W s0 tnext := by
  unfold execWindowEnable at ht; cases ht; apply keeps_ite; apply keeps_enableWindow; assumption; assumption

theorem keeps_scrubOn {W : Part → Prop} [May W .mem] {s0 : State} (c : Nat) (s : State) (hk0 : Keeps W s0 s) : Keeps W s0
    (scrubOn c s) := by
  unfold scrubOn; dsimp only; apply keeps_State_modMem; exact byteStep_refl _; assumption

theorem keeps_scrubLine {W : Part → Prop} [May W .regs] [May W .mem] [May W .dram] {s0 : State} (c line o : Nat) (err : List Byte)
    (s : State) (hk0 : Keeps W s0 s) : Keeps W s0 (scrubLine c line o err s) := by
  unfold scrubLine; apply keeps_scrubOn; apply keeps_ite; apply keeps_logUe; assumption; apply keeps_lineBack; apply keeps_meetErrors
  assumption

theorem keeps_execDdrScrubLine {W : Part → Prop} [May W .regs] [May W .mem] [May W .dram] {s0 : State} (c : Fin 12) (line : Nat)
    (err : List Byte) (s : State) (hk0 : Keeps W s0 s) {tnext : State} (ht : execDdrScrubLine c line err s = .next tnext)
    : Keeps W s0 tnext := by
  unfold execDdrScrubLine at ht; cases ht; split; assumption; apply keeps_ite; apply keeps_scrubLine; assumption; assumption

theorem keeps_wakeForScrub {W : Part → Prop} [May W .mem] [May W .waking] {s0 : State} (c : Fin 12) (s : State) (hk0
    : Keeps W s0 s) : Keeps W s0 (wakeForScrub c s) := by
  unfold wakeForScrub; apply keeps_wakeUnit; apply keeps_State_modMem; exact byteStep_refl _; assumption

theorem keeps_execScrubWake {W : Part → Prop} [May W .mem] [May W .waking] {s0 : State} (c : Fin 12) (s : State) (hk0 : Keeps W s0 s)
    {tnext : State} (ht : execScrubWake c s = .next tnext) : Keeps W s0 tnext := by
  unfold execScrubWake at ht; cases ht; apply keeps_ite; apply keeps_wakeForScrub; assumption; assumption

theorem keeps_execDeviceMark {W : Part → Prop} [May W .regs] {s0 : State} (c : Fin 12) (sub : Fin 2) (device : Fin 10) (s : State)
    (hk0 : Keeps W s0 s) {tnext : State} (ht : execDeviceMark c sub device s = .next tnext) : Keeps W s0 tnext := by
  unfold execDeviceMark at ht; cases ht; apply keeps_ite; apply keeps_State_raise; apply keeps_State_setFld; assumption; assumption

theorem keeps_markDraining {W : Part → Prop} [May W .mem] {s0 : State} (k : Nat) (s : State) (hk0 : Keeps W s0 s) : Keeps W s0
    (markDraining k s) := by
  unfold markDraining; dsimp only; apply keeps_State_modMem; exact byteStep_refl _; assumption

theorem keeps_strikeChannel {W : Part → Prop} [May W .regs] [May W .house] [May W .links] [May W .swc] [May W .mem] [May W .rhs]
    [May W .outbox] {s0 : State} (c : Nat) (s : State) (hk0 : Keeps W s0 s) : Keeps W s0 (strikeChannel c s) := by
  unfold strikeChannel; split; apply keeps_State_raise; apply keeps_State_setFld; assumption; split; apply keeps_State_raise
  apply keeps_State_setFld; assumption; dsimp only; apply keeps_settleStrike; apply keeps_ite; apply keeps_ite; apply keeps_State_modMem
  exact byteStep_refl _; apply keeps_State_modMem; exact byteStep_refl _; apply keeps_State_setFld; apply keeps_State_setFld
  apply keeps_markDraining; assumption; apply keeps_State_raise; apply keeps_placeFilter; apply keeps_State_modSwc
  apply keeps_State_modMem; exact byteStep_refl _; apply keeps_State_setFld; apply keeps_State_setFld; apply keeps_markDraining
  assumption; apply keeps_State_modMem; exact byteStep_refl _; apply keeps_State_setFld; apply keeps_State_setFld
  apply keeps_markDraining; assumption

theorem keeps_execChannelStrike {W : Part → Prop} [May W .regs] [May W .house] [May W .links] [May W .swc] [May W .mem] [May W .rhs]
    [May W .outbox] {s0 : State} (c : Fin 12) (s : State) (hk0 : Keeps W s0 s) {tnext : State}
    (ht : execChannelStrike c s = .next tnext) : Keeps W s0 tnext := by
  unfold execChannelStrike at ht; cases ht; apply keeps_ite; apply keeps_strikeChannel; apply keeps_State_setFld; assumption; assumption

theorem keeps_execFilterMoveComplete {W : Part → Prop} [May W .regs] [May W .house] [May W .links] [May W .mem] [May W .rhs]
    [May W .outbox] {s0 : State} (s : State) (hk0 : Keeps W s0 s) {tnext : State} (ht : execFilterMoveComplete s = .next tnext)
    : Keeps W s0 tnext := by
  unfold execFilterMoveComplete at ht; cases ht; apply keeps_ite; apply keeps_settleStrike; apply keeps_placeFilter
  apply keeps_State_modMem; exact byteStep_refl _; assumption; assumption

theorem keeps_returnChannel {W : Part → Prop} [May W .regs] [May W .house] [May W .mem] {s0 : State} (c : Nat) (s : State) (hk0
    : Keeps W s0 s) : Keeps W s0 (returnChannel c s) := by
  unfold returnChannel; apply keeps_ite; apply keeps_State_raise; assumption; dsimp only; with_reducible apply keeps_with_house
  apply keeps_State_setFld; apply keeps_State_setChan; assumption

theorem keeps_execChannelReturn {W : Part → Prop} [May W .regs] [May W .house] [May W .mem] {s0 : State} (c : Fin 12) (s : State)
    (hk0 : Keeps W s0 s) {tnext : State} (ht : execChannelReturn c s = .next tnext) : Keeps W s0 tnext := by
  unfold execChannelReturn at ht; cases ht; apply keeps_ite; apply keeps_returnChannel; apply keeps_State_setFld; assumption; assumption

theorem keeps_execChannelFail {W : Part → Prop} [May W .regs] [May W .links] [May W .swc] [May W .mem] [May W .rhs] [May W .outbox]
    {s0 : State} (c : Fin 12) (cause : Fin 256) (s : State) (hk0 : Keeps W s0 s) {tnext : State}
    (ht : execChannelFail c cause s = .next tnext) : Keeps W s0 tnext := by
  unfold execChannelFail at ht; cases ht; apply keeps_ite; apply keeps_settleChannels; apply keeps_channelFails; assumption; assumption

theorem keeps_hostFailed {W : Part → Prop} [May W .regs] [May W .host] [May W .outbox] {s0 : State} (write : Bool) (addr o code : Nat)
    (s : State) (hk0 : Keeps W s0 s) : Keeps W s0 (hostFailed write addr o code s) := by
  unfold hostFailed; dsimp only; apply keeps_reportHostFailure; apply keeps_hostFails; apply keeps_ite; assumption
  apply keeps_State_raise; assumption

theorem keeps_hostRead {W : Part → Prop} [May W .regs] [May W .mem] [May W .host] [May W .outbox] {s0 : State} (r : HostReq) (k : Nat)
    (s : State) (hk0 : Keeps W s0 s) : Keeps W s0 (hostRead r k s) := by
  unfold hostRead; dsimp only; apply keeps_ite; apply keeps_hostFailed; apply keeps_readLine; assumption; apply keeps_emit
  apply keeps_readLine; assumption

theorem keeps_hostStore {W : Part → Prop} [May W .regs] [May W .links] [May W .swc] [May W .mem] [May W .dram] [May W .outbox]
    {s0 : State} (addr k o : Nat) (bytes : List Byte) (s : State) (hk0 : Keeps W s0 s) : Keeps W s0 (hostStore addr k o bytes s) := by
  unfold hostStore; split; apply keeps_holdWrite; assumption; apply keeps_emit; apply keeps_poolWrite; assumption

theorem keeps_hostWrite {W : Part → Prop} [May W .regs] [May W .links] [May W .swc] [May W .mem] [May W .dram] [May W .host]
    [May W .outbox] {s0 : State} (r : HostReq) (k : Nat) (s : State) (hk0 : Keeps W s0 s) : Keeps W s0 (hostWrite r k s) := by
  unfold hostWrite; apply keeps_ite; apply keeps_hostStore; assumption; dsimp only; apply keeps_ite; apply keeps_hostFailed
  apply keeps_refreshLine; assumption; apply keeps_hostStore; apply keeps_refreshLine; assumption

theorem keeps_hostServe {W : Part → Prop} [May W .regs] [May W .links] [May W .swc] [May W .mem] [May W .dram] [May W .host]
    [May W .outbox] {s0 : State} (r : HostReq) (s : State) (hk0 : Keeps W s0 s) : Keeps W s0 (hostServe r s) := by
  unfold hostServe; split; apply keeps_hostFailed; assumption; apply keeps_ite; apply keeps_hostWrite; assumption; apply keeps_hostRead
  assumption

theorem keeps_hostWakes {W : Part → Prop} [May W .regs] [May W .links] [May W .rhs] [May W .waking] [May W .outbox] {s0 : State}
    (r : HostReq) (s : State) (hk0 : Keeps W s0 s) : Keeps W s0 (hostWakes r s) := by
  unfold hostWakes; split; assumption; apply keeps_stopPhySlices; apply keeps_wakeChans; assumption

theorem keeps_hostAccess {W : Part → Prop} [May W .regs] [May W .links] [May W .swc] [May W .mem] [May W .dram] [May W .host]
    [May W .rhs] [May W .waking] [May W .outbox] {s0 : State} (write : Bool) (addr enables : Nat) (bytes err : List Byte) (s : State)
    (hk0 : Keeps W s0 s) : Keeps W s0 (hostAccess write addr enables bytes err s) := by
  unfold hostAccess; split; apply keeps_hostFailed; assumption; dsimp only; apply keeps_ite; apply keeps_hostWakes
  apply keeps_State_modMem; exact byteStep_refl _; assumption; apply keeps_hostServe; assumption

theorem keeps_hostNext {W : Part → Prop} [May W .regs] [May W .links] [May W .swc] [May W .mem] [May W .dram] [May W .host] [May W .rhs]
    [May W .waking] [May W .outbox] {s0 : State} (r : HostReq) (s : State) (hk0 : Keeps W s0 s) : Keeps W s0 (hostNext r s) := by
  unfold hostNext; apply keeps_ite; apply keeps_hostWakes; assumption; apply keeps_hostServe; apply keeps_State_modMem
  exact byteStep_refl _; assumption

theorem keeps_serveHost {W : Part → Prop} [May W .regs] [May W .house] [May W .links] [May W .swc] [May W .mem] [May W .dram]
    [May W .host] [May W .rhs] [May W .waking] [May W .outbox] {s0 : State} (s : State) (hk0 : Keeps W s0 s) : Keeps W s0
    (serveHost s) := by
  unfold serveHost; apply keeps_ite; assumption; apply keeps_settleStrike; apply keeps_admitPool; apply keeps_forEach; intro _; intro _
  intro _; apply keeps_hostNext; assumption; assumption

theorem keeps_execHostMemAccess {W : Part → Prop} [May W .regs] [May W .links] [May W .swc] [May W .mem] [May W .dram] [May W .host]
    [May W .rhs] [May W .waking] [May W .outbox] {s0 : State} (write : Bool) (addr : Nat) (enables : BitVec 64) (bytes err : List Byte)
    (s : State) (hk0 : Keeps W s0 s) {tnext : State} (ht : execHostMemAccess write addr enables bytes err s = .next tnext)
    : Keeps W s0 tnext := by
  unfold execHostMemAccess at ht; cases ht; apply keeps_ite; apply keeps_hostAccess; assumption; assumption

theorem keeps_execHdmCommit {W : Part → Prop} [May W .mem] {s0 : State} (d : Fin 2) (base size skip ways : Nat) (lock : Bool)
    (s : State) (hk0 : Keeps W s0 s) {tnext : State} (ht : execHdmCommit d base size skip ways lock s = .next tnext)
    : Keeps W s0 tnext := by
  unfold execHdmCommit at ht; cases ht; apply keeps_ite; apply keeps_commitHdm; assumption; assumption

theorem keeps_runAt {W : Part → Prop} [May W .regs] [May W .ten] [May W .cue] [May W .waking] {s0 : State} (q : Nat) (is : Nat → Bool)
    (sem : Nat → Nat → State → State) (s : State) (hf_sem : ∀ x0 x1 x2, Keeps W s0 x2 → Keeps W s0 (sem x0 x1 x2)) (hk0
    : Keeps W s0 s) : Keeps W s0 (runAt q is sem s) := by
  unfold runAt; apply keeps_ite; apply keeps_runInsn; intro _; intro _; intro _; apply hf_sem; assumption; assumption; assumption

theorem keeps_semNop {W : Part → Prop} [May W .regs] [May W .ten] [May W .cue] [May W .waking] {s0 : State} (q u0 : Nat) (s : State)
    (hk0 : Keeps W s0 s) : Keeps W s0 (semNop q u0 s) := by
  unfold semNop; apply keeps_advance; assumption

theorem keeps_semBra {W : Part → Prop} [May W .regs] [May W .ten] [May W .cue] [May W .waking] {s0 : State} (q w : Nat) (s : State)
    (hk0 : Keeps W s0 s) : Keeps W s0 (semBra q w s) := by
  unfold semBra; apply keeps_branchTo; assumption

theorem keeps_semBrc {W : Part → Prop} [May W .regs] [May W .ten] [May W .cue] [May W .waking] {s0 : State} (q w : Nat) (s : State)
    (hk0 : Keeps W s0 s) : Keeps W s0 (semBrc q w s) := by
  unfold semBrc; apply keeps_ite; apply keeps_branchTo; assumption; apply keeps_advance; assumption

theorem keeps_semCall {W : Part → Prop} [May W .regs] [May W .ten] [May W .cue] [May W .waking] {s0 : State} (q w : Nat) (s : State)
    (hk0 : Keeps W s0 s) : Keeps W s0 (semCall q w s) := by
  unfold semCall; apply keeps_ite; apply keeps_seqFaults; assumption; apply keeps_branchTo; apply keeps_State_modCtx; assumption

theorem keeps_semRet {W : Part → Prop} [May W .regs] [May W .ten] [May W .cue] [May W .waking] {s0 : State} (q u0 : Nat) (s : State)
    (hk0 : Keeps W s0 s) : Keeps W s0 (semRet q u0 s) := by
  unfold semRet; split; apply keeps_seqFaults; assumption; apply keeps_branchTo; apply keeps_State_modCtx; assumption

theorem keeps_endWaitKeep {W : Part → Prop} [May W .regs] [May W .ten] [May W .cue] [May W .waking] {s0 : State} (q w : Nat)
    (met : Bool) (s : State) (hk0 : Keeps W s0 s) : Keeps W s0 (endWaitKeep q w met s) := by
  unfold endWaitKeep; dsimp only; apply keeps_advance; apply keeps_State_modCtx; assumption

theorem keeps_clearWaited {W : Part → Prop} [May W .cue] {s0 : State} (w : Nat) (s : State) (hk0 : Keeps W s0 s) : Keeps W s0
    (clearWaited w s) := by
  unfold clearWaited; apply keeps_ite; apply keeps_State_setCtr; assumption; assumption

theorem keeps_endWait {W : Part → Prop} [May W .regs] [May W .ten] [May W .cue] [May W .waking] {s0 : State} (q w : Nat) (met : Bool)
    (s : State) (hk0 : Keeps W s0 s) : Keeps W s0 (endWait q w met s) := by
  unfold endWait; dsimp only; apply keeps_ite; apply keeps_clearWaited; apply keeps_endWaitKeep; assumption; apply keeps_endWaitKeep
  assumption

theorem keeps_semWaitc {W : Part → Prop} [May W .regs] [May W .ten] [May W .cue] [May W .waking] {s0 : State} (q w : Nat) (s : State)
    (hk0 : Keeps W s0 s) : Keeps W s0 (semWaitc q w s) := by
  unfold semWaitc; apply keeps_ite; apply keeps_endWait; assumption; apply keeps_ite; apply keeps_ite; apply keeps_endWait; assumption
  assumption; dsimp only; apply keeps_State_setFld; apply keeps_State_modCtx; assumption

theorem keeps_takeSlot {W : Part → Prop} [May W .cue] {s0 : State} (q : Nat) (s : State) (hk0 : Keeps W s0 s) : Keeps W s0
    (takeSlot q s) := by
  unfold takeSlot; apply keeps_ite; apply keeps_State_modCue; exact byteStep_refl _; assumption; assumption

theorem keeps_semSigc {W : Part → Prop} [May W .regs] [May W .ten] [May W .cue] [May W .waking] {s0 : State} (q w : Nat) (s : State)
    (hk0 : Keeps W s0 s) : Keeps W s0 (semSigc q w s) := by
  unfold semSigc; dsimp only; apply keeps_ite; apply keeps_waitSlot; assumption; apply keeps_ite; apply keeps_stallAt; assumption
  apply keeps_advance; apply keeps_ite; apply keeps_State_modCtr; apply keeps_State_modCue; exact byteStep_refl _; apply keeps_bindCtr
  apply keeps_takeSlot; assumption; apply keeps_State_modCue; exact byteStep_refl _; apply keeps_bindCtr; apply keeps_takeSlot
  assumption

theorem keeps_semDozeSelf {W : Part → Prop} [May W .regs] [May W .ten] [May W .cue] [May W .spState] [May W .waking] {s0 : State}
    (q w : Nat) (s : State) (hk0 : Keeps W s0 s) : Keeps W s0 (semDozeSelf q w s) := by
  unfold semDozeSelf; dsimp only; apply keeps_ite; apply keeps_advance; assumption; apply keeps_sendToSleep; apply keeps_State_setFld
  apply keeps_State_modCtx; assumption

theorem keeps_enterDoze {W : Part → Prop} [May W .regs] [May W .cue] [May W .spState] {s0 : State} (dark : Bool) (u : UnitId)
    (s : State) (hk0 : Keeps W s0 s) : Keeps W s0 (enterDoze dark u s) := by
  unfold enterDoze; apply keeps_ite; apply keeps_sendToSleep; assumption; assumption

theorem keeps_dozeUnit {W : Part → Prop} [May W .regs] [May W .cue] [May W .spState] {s0 : State} (dark : Bool) (u : UnitId) (s : State)
    (hk0 : Keeps W s0 s) : Keeps W s0 (dozeUnit dark u s) := by
  unfold dozeUnit; apply keeps_ite; apply keeps_State_modCue; exact byteStep_refl _; assumption; apply keeps_enterDoze; assumption

theorem keeps_settleDoze {W : Part → Prop} [May W .regs] [May W .cue] [May W .spState] {s0 : State} (s : State) (hk0
    : Keeps W s0 s) : Keeps W s0 (settleDoze s) := by
  unfold settleDoze; dsimp only; apply keeps_forEach; intro _; intro _; intro _; apply keeps_enterDoze; assumption
  apply keeps_State_modCue; exact byteStep_refl _; assumption

theorem keeps_semDozeTiles {W : Part → Prop} [May W .regs] [May W .ten] [May W .cue] [May W .spState] [May W .waking] {s0 : State}
    (q w : Nat) (s : State) (hk0 : Keeps W s0 s) : Keeps W s0 (semDozeTiles q w s) := by
  unfold semDozeTiles; dsimp only; apply keeps_ite; apply keeps_seqFaults; assumption; apply keeps_advance; apply keeps_forEach; intro _
  intro _; intro _; apply keeps_dozeUnit; assumption; assumption

theorem keeps_semDozeEngines {W : Part → Prop} [May W .regs] [May W .ten] [May W .cue] [May W .spState] [May W .waking] {s0 : State}
    (q w : Nat) (s : State) (hk0 : Keeps W s0 s) : Keeps W s0 (semDozeEngines q w s) := by
  unfold semDozeEngines; apply keeps_advance; apply keeps_forEach; intro _; intro _; intro _; apply keeps_dozeUnit; assumption
  assumption

theorem keeps_semFence {W : Part → Prop} [May W .regs] [May W .ten] [May W .cue] [May W .waking] {s0 : State} (q u0 : Nat) (s : State)
    (hk0 : Keeps W s0 s) : Keeps W s0 (semFence q u0 s) := by
  unfold semFence; apply keeps_ite; apply keeps_advance; assumption; apply keeps_stallAt; assumption

theorem keeps_semTrap {W : Part → Prop} [May W .regs] [May W .ten] [May W .cue] [May W .waking] {s0 : State} (q w : Nat) (s : State)
    (hk0 : Keeps W s0 s) : Keeps W s0 (semTrap q w s) := by
  unfold semTrap; apply keeps_seqFaults; assumption

theorem keeps_semHalt {W : Part → Prop} [May W .regs] [May W .ten] [May W .cue] [May W .waking] {s0 : State} (q u0 : Nat) (s : State)
    (hk0 : Keeps W s0 s) : Keeps W s0 (semHalt q u0 s) := by
  unfold semHalt; apply keeps_ite; apply keeps_pmcEvent; apply keeps_dropCtx; assumption; apply keeps_stallAt; assumption

theorem keeps_semAlu {W : Part → Prop} [May W .regs] [May W .ten] [May W .cue] [May W .waking] {s0 : State} (f : Nat → Nat → Nat)
    (q w : Nat) (s : State) (hk0 : Keeps W s0 s) : Keeps W s0 (semAlu f q w s) := by
  unfold semAlu; dsimp only; apply keeps_advance; apply keeps_State_modCtx; assumption

theorem keeps_writeDest {W : Part → Prop} [May W .regs] [May W .ten] [May W .cue] [May W .waking] {s0 : State} (q w v : Nat) (s : State)
    (hk0 : Keeps W s0 s) : Keeps W s0 (writeDest q w v s) := by
  unfold writeDest; apply keeps_ite; apply keeps_advance; apply keeps_State_modCtx; assumption; apply keeps_ite; apply keeps_seqFaults
  assumption; apply keeps_advance; apply keeps_State_modCtx; assumption

theorem keeps_semLdis {W : Part → Prop} [May W .regs] [May W .ten] [May W .cue] [May W .waking] {s0 : State} (q w : Nat) (s : State)
    (hk0 : Keeps W s0 s) : Keeps W s0 (semLdis q w s) := by
  unfold semLdis; apply keeps_ite; apply keeps_seqFaults; assumption; apply keeps_writeDest; assumption

theorem keeps_semMovs {W : Part → Prop} [May W .regs] [May W .ten] [May W .cue] [May W .waking] {s0 : State} (q w : Nat) (s : State)
    (hk0 : Keeps W s0 s) : Keeps W s0 (semMovs q w s) := by
  unfold semMovs; dsimp only; apply keeps_writeDest; assumption

theorem keeps_semCmps {W : Part → Prop} [May W .regs] [May W .ten] [May W .cue] [May W .waking] {s0 : State} (q w : Nat) (s : State)
    (hk0 : Keeps W s0 s) : Keeps W s0 (semCmps q w s) := by
  unfold semCmps; dsimp only; apply keeps_advance; apply keeps_State_modCtx; assumption

theorem keeps_spAccess {W : Part → Prop} [May W .regs] [May W .cue] [May W .waking] {s0 : State} (q o n : Nat) (write : Bool)
    (act : State → State) (s : State) (hf_act : ∀ x0, Keeps W s0 x0 → Keeps W s0 (act x0)) (hk0 : Keeps W s0 s) : Keeps W s0
    (spAccess q o n write act s) := by
  unfold spAccess; apply keeps_ite; apply keeps_stallAt; apply keeps_wakeSpan; assumption; apply keeps_ite; apply keeps_stallAt
  assumption; apply hf_act; assumption

theorem keeps_guardRead {W : Part → Prop} [May W .regs] [May W .ten] [May W .cue] [May W .waking] {s0 : State} (q o n : Nat)
    (act : State → State) (s : State) (hf_act : ∀ x0, Keeps W s0 x0 → Keeps W s0 (act x0)) (hk0 : Keeps W s0 s) : Keeps W s0
    (guardRead q o n act s) := by
  unfold guardRead; split; apply keeps_seqFaults; apply keeps_logBadWord; assumption; apply hf_act; assumption

theorem keeps_semLds {W : Part → Prop} [May W .regs] [May W .ten] [May W .sp] [May W .cue] [May W .waking] {s0 : State} (q w : Nat)
    (s : State) (hk0 : Keeps W s0 s) : Keeps W s0 (semLds q w s) := by
  unfold semLds; dsimp only; apply keeps_ite; apply keeps_advance; apply keeps_State_modCtx; assumption; apply keeps_ite
  apply keeps_spAccess; intro _; intro _; apply keeps_guardRead; intro _; intro _; apply keeps_advance; apply keeps_State_modCtx
  apply keeps_countRowReads; apply keeps_readFrom; apply keeps_veiled; assumption; assumption; assumption; assumption
  apply keeps_seqFaults; assumption

theorem keeps_semSts {W : Part → Prop} [May W .regs] [May W .ten] [May W .sp] [May W .cue] [May W .waking] {s0 : State} (q w : Nat)
    (s : State) (hk0 : Keeps W s0 s) : Keeps W s0 (semSts q w s) := by
  unfold semSts; dsimp only; apply keeps_ite; apply keeps_spAccess; intro _; intro _; apply keeps_guardRead; intro _; intro _
  apply keeps_advance; apply keeps_spWrite; assumption; assumption; assumption; apply keeps_seqFaults; assumption

theorem keeps_semDset {W : Part → Prop} [May W .regs] [May W .ten] [May W .cue] [May W .waking] {s0 : State} (q w : Nat) (s : State)
    (hk0 : Keeps W s0 s) : Keeps W s0 (semDset q w s) := by
  unfold semDset; dsimp only; apply keeps_ite; apply keeps_ite; apply keeps_seqFaults; assumption; apply keeps_advance
  apply keeps_State_modCtx; assumption; apply keeps_ite; apply keeps_seqFaults; assumption; apply keeps_advance
  apply keeps_State_modCtx; assumption

theorem keeps_semDadd {W : Part → Prop} [May W .regs] [May W .ten] [May W .cue] [May W .waking] {s0 : State} (q w : Nat) (s : State)
    (hk0 : Keeps W s0 s) : Keeps W s0 (semDadd q w s) := by
  unfold semDadd; dsimp only; apply keeps_ite; apply keeps_seqFaults; assumption; apply keeps_advance; apply keeps_State_modCtx
  assumption

theorem keeps_semDcopyReg {W : Part → Prop} [May W .regs] [May W .ten] [May W .cue] [May W .waking] {s0 : State} (q w : Nat) (s : State)
    (hk0 : Keeps W s0 s) : Keeps W s0 (semDcopyReg q w s) := by
  unfold semDcopyReg; apply keeps_advance; apply keeps_State_modCtx; assumption

theorem keeps_semDcopyLoad {W : Part → Prop} [May W .regs] [May W .ten] [May W .sp] [May W .cue] [May W .waking] {s0 : State}
    (q w : Nat) (s : State) (hk0 : Keeps W s0 s) : Keeps W s0 (semDcopyLoad q w s) := by
  unfold semDcopyLoad; dsimp only; apply keeps_ite; apply keeps_seqFaults; assumption; apply keeps_spAccess; intro _; intro _
  apply keeps_guardRead; intro _; intro _; apply keeps_ite; apply keeps_seqFaults; apply keeps_countRowReads; apply keeps_readFrom
  apply keeps_veiled; assumption; assumption; apply keeps_advance; apply keeps_State_modCtx; apply keeps_countRowReads
  apply keeps_readFrom; apply keeps_veiled; assumption; assumption; assumption; assumption

theorem keeps_semDcopyStore {W : Part → Prop} [May W .regs] [May W .ten] [May W .sp] [May W .cue] [May W .waking] {s0 : State}
    (q w : Nat) (s : State) (hk0 : Keeps W s0 s) : Keeps W s0 (semDcopyStore q w s) := by
  unfold semDcopyStore; dsimp only; apply keeps_ite; apply keeps_seqFaults; assumption; apply keeps_spAccess; intro _; intro _
  apply keeps_advance; apply keeps_spWrite; assumption; assumption

theorem keeps_addFetched {W : Part → Prop} [May W .cue] {s0 : State} (x : Xfer) (s : State) (hk0 : Keeps W s0 s) : Keeps W s0
    (addFetched x s) := by
  unfold addFetched; apply keeps_ite; assumption; apply keeps_addResult; assumption

theorem keeps_judgeXfer {W : Part → Prop} [May W .regs] [May W .links] [May W .swc] [May W .ten] [May W .sp] [May W .cue]
    [May W .waking] {s0 : State} (spill : Bool) (q w : Nat) (s : State) (hk0 : Keeps W s0 s) : Keeps W s0 (judgeXfer spill q w s) := by
  unfold judgeXfer; dsimp only; apply keeps_ite; apply keeps_refuse; assumption; apply keeps_ite; apply keeps_waitSlot; assumption
  apply keeps_ite; apply keeps_stallAt; assumption; apply keeps_sendPieces; apply keeps_advance; apply keeps_State_modCue
  exact byteStep_refl _; apply keeps_addFetched; apply keeps_bindCtr; apply keeps_takeSlot; assumption

theorem keeps_semXfer {W : Part → Prop} [May W .regs] [May W .links] [May W .swc] [May W .ten] [May W .sp] [May W .cue] [May W .waking]
    {s0 : State} (spill : Bool) (q w : Nat) (s : State) (hk0 : Keeps W s0 s) : Keeps W s0 (semXfer spill q w s) := by
  unfold semXfer; apply keeps_judged; intro _; intro _; intro _; intro _; apply keeps_judgeXfer; assumption; assumption

theorem keeps_semAlloc {W : Part → Prop} [May W .regs] [May W .ten] [May W .cue] [May W .waking] {s0 : State} (q w : Nat) (s : State)
    (hk0 : Keeps W s0 s) : Keeps W s0 (semAlloc q w s) := by
  unfold semAlloc; dsimp only; apply keeps_ite; apply keeps_seqFaults; assumption; split; apply keeps_advance; apply keeps_State_modCtx
  assumption; apply keeps_advance; apply keeps_State_modCtx; apply keeps_State_setProg; assumption

theorem keeps_semFree {W : Part → Prop} [May W .regs] [May W .ten] [May W .cue] [May W .waking] {s0 : State} (q w : Nat) (s : State)
    (hk0 : Keeps W s0 s) : Keeps W s0 (semFree q w s) := by
  unfold semFree; dsimp only; apply keeps_ite; apply keeps_advance; apply keeps_State_setProg; assumption; apply keeps_seqFaults
  assumption

theorem keeps_launch {W : Part → Prop} [May W .ten] [May W .power] [May W .waking] {s0 : State} (q : Nat) (o : Oper) (extra : List Desc)
    (writes : List (Nat × Nat)) (cross : Option Nat) (s : State) (hk0 : Keeps W s0 s) : Keeps W s0 (launch q o extra writes cross s) := by
  unfold launch; dsimp only; apply keeps_forEach; intro _; intro _; intro _; apply keeps_wakeUnit; assumption; apply keeps_State_modTen
  exact byteStep_refl _; apply keeps_State_modPower; assumption

theorem keeps_semTensor {W : Part → Prop} [May W .regs] [May W .ten] [May W .cue] [May W .power] [May W .waking] {s0 : State}
    (q w : Nat) (s : State) (hk0 : Keeps W s0 s) : Keeps W s0 (semTensor q w s) := by
  unfold semTensor; dsimp only; apply keeps_ite; apply keeps_seqFaults; assumption; apply keeps_ite; apply keeps_seqFaults
  apply keeps_countStale; apply keeps_forEach; intro _; intro _; intro _; apply keeps_wakeUnit; assumption; assumption
  apply keeps_advance; apply keeps_launch; assumption

theorem keeps_openOp {W : Part → Prop} [May W .regs] [May W .swc] [May W .cue] [May W .col] [May W .waking] {s0 : State}
    (q g n sig fmt rows cols : Nat) (w : Nat) (descs : List Desc) (s : State) (hk0 : Keeps W s0 s) : Keeps W s0
    (openOp q g n sig fmt rows cols w descs s) := by
  unfold openOp; dsimp only; apply keeps_abortKnown; apply keeps_forEach; intro _; intro _; intro _; apply keeps_wakeUnit; assumption
  apply keeps_State_modCol; apply keeps_State_modCue; exact byteStep_refl _; apply keeps_State_setFld; apply keeps_State_setFld
  apply keeps_State_setFld; apply keeps_forEach; intro _; intro _; intro _; apply keeps_addResult; assumption; apply keeps_bindCtr
  apply keeps_takeSlot; apply keeps_ite; apply keeps_addLoads; assumption; assumption

theorem keeps_takeEarly {W : Part → Prop} [May W .regs] [May W .links] [May W .swc] [May W .ten] [May W .sp] [May W .cue] [May W .col]
    {s0 : State} (id g n : Nat) (s : State) (hk0 : Keeps W s0 s) : Keeps W s0 (takeEarly id g n s) := by
  unfold takeEarly; dsimp only; apply keeps_forEach; intro _; intro _; intro _; apply keeps_takeColFrame; assumption
  apply keeps_State_modGrp; assumption

theorem keeps_crossIssue {W : Part → Prop} [May W .regs] [May W .ten] [May W .cue] [May W .waking] {s0 : State} (q g n w : Nat)
    (tiles : List UnitId) (admitted : Bool) (go : State → State) (s : State) (hf_go : ∀ x0, Keeps W s0 x0 → Keeps W s0 (go x0))
    (hk0 : Keeps W s0 s) : Keeps W s0 (crossIssue q g n w tiles admitted go s) := by
  unfold crossIssue; dsimp only; apply keeps_ite; apply keeps_refuse; assumption; apply keeps_ite; apply keeps_waitSlot; assumption
  apply keeps_ite; apply keeps_stallAt; assumption; apply keeps_ite; apply keeps_refuse; apply keeps_forEach; intro _; intro _; intro _
  apply keeps_wakeUnit; assumption; assumption; apply keeps_ite; apply keeps_refuse; apply keeps_ite; apply keeps_State_count
  assumption; assumption; apply keeps_ite; apply keeps_stallAt; assumption; apply hf_go; assumption

theorem keeps_judgeCue {W : Part → Prop} [May W .regs] [May W .links] [May W .swc] [May W .ten] [May W .sp] [May W .cue] [May W .col]
    [May W .power] [May W .waking] {s0 : State} (q w : Nat) (s : State) (hk0 : Keeps W s0 s) : Keeps W s0 (judgeCue q w s) := by
  unfold judgeCue; dsimp only; split; apply keeps_refuse; assumption; apply keeps_ite; apply keeps_refuse; assumption
  apply keeps_crossIssue; intro _; intro _; apply keeps_advance; apply keeps_takeEarly; apply keeps_ite; apply keeps_feedOp
  apply keeps_joinRoute; apply keeps_openOp; assumption; apply keeps_launch; apply keeps_joinRoute; apply keeps_openOp; assumption
  assumption

theorem keeps_semCue {W : Part → Prop} [May W .regs] [May W .links] [May W .swc] [May W .ten] [May W .sp] [May W .cue] [May W .col]
    [May W .power] [May W .waking] {s0 : State} (q w : Nat) (s : State) (hk0 : Keeps W s0 s) : Keeps W s0 (semCue q w s) := by
  unfold semCue; apply keeps_judged; intro _; intro _; intro _; intro _; apply keeps_judgeCue; assumption; assumption

theorem keeps_startAside {W : Part → Prop} [May W .regs] [May W .links] [May W .swc] [May W .ten] [May W .sp] [May W .cue] [May W .col]
    {s0 : State} (id : Nat) (s : State) (hk0 : Keeps W s0 s) : Keeps W s0 (startAside id s) := by
  unfold startAside; split; assumption; dsimp only; split; apply keeps_abortHere; apply keeps_logBadWord; assumption; split
  apply keeps_abortOp; assumption; apply keeps_runAside; apply keeps_depositAside; apply keeps_State_modCtr; apply keeps_countRowReads
  apply keeps_readFrom; apply keeps_veiled; assumption; assumption

theorem keeps_wakeExtent {W : Part → Prop} [May W .waking] {s0 : State} (d : Desc) (s : State) (hk0 : Keeps W s0 s) : Keeps W s0
    (wakeExtent d s) := by
  unfold wakeExtent; apply keeps_wakeSpan; assumption

theorem keeps_judgeAside {W : Part → Prop} [May W .regs] [May W .links] [May W .swc] [May W .ten] [May W .sp] [May W .cue] [May W .col]
    [May W .waking] {s0 : State} (q w : Nat) (s : State) (hk0 : Keeps W s0 s) : Keeps W s0 (judgeAside q w s) := by
  unfold judgeAside; dsimp only; split; apply keeps_refuse; assumption; apply keeps_ite; apply keeps_refuse; assumption; apply keeps_ite
  apply keeps_stallAt; apply keeps_wakeExtent; apply keeps_wakeExtent; assumption; apply keeps_ite; apply keeps_stallAt; assumption
  apply keeps_crossIssue; intro _; intro _; apply keeps_advance; apply keeps_startAside; apply keeps_openOp; assumption; assumption

theorem keeps_semAside {W : Part → Prop} [May W .regs] [May W .links] [May W .swc] [May W .ten] [May W .sp] [May W .cue] [May W .col]
    [May W .waking] {s0 : State} (q w : Nat) (s : State) (hk0 : Keeps W s0 s) : Keeps W s0 (semAside q w s) := by
  unfold semAside; apply keeps_judged; intro _; intro _; intro _; intro _; apply keeps_judgeAside; assumption; assumption

theorem keeps_semAny {W : Part → Prop} [May W .regs] [May W .links] [May W .swc] [May W .ten] [May W .sp] [May W .cue] [May W .col]
    [May W .power] [May W .waking] {s0 : State} (q w : Nat) (s : State) (hk0 : Keeps W s0 s) : Keeps W s0 (semAny q w s) := by
  unfold semAny; split; apply keeps_semNop; assumption; apply keeps_semBra; assumption; apply keeps_semBrc; assumption
  apply keeps_semCall; assumption; apply keeps_semRet; assumption; apply keeps_semWaitc; assumption; apply keeps_semSigc; assumption
  apply keeps_semFence; assumption; apply keeps_semHalt; assumption; apply keeps_semLds; assumption; apply keeps_semSts; assumption
  apply keeps_ite; apply keeps_semDcopyLoad; assumption; apply keeps_semDcopyStore; assumption; apply keeps_semXfer; assumption
  apply keeps_semXfer; assumption; apply keeps_semAside; assumption; apply keeps_semAside; assumption; apply keeps_semCue; assumption

theorem keeps_resumeWaits {W : Part → Prop} [May W .regs] [May W .ten] [May W .cue] [May W .waking] {s0 : State} (s : State) (hk0
    : Keeps W s0 s) : Keeps W s0 (resumeWaits s) := by
  unfold resumeWaits; dsimp only; apply keeps_forEach; intro _; intro _; intro _; apply keeps_clearWaited; assumption
  apply keeps_forEach; intro _; intro _; intro _; apply keeps_endWaitKeep; assumption; assumption

theorem keeps_retrySeq {W : Part → Prop} [May W .regs] [May W .links] [May W .swc] [May W .ten] [May W .sp] [May W .cue] [May W .col]
    [May W .power] [May W .waking] {s0 : State} (q : Nat) (s : State) (hk0 : Keeps W s0 s) : Keeps W s0 (retrySeq q s) := by
  unfold retrySeq; dsimp only; apply keeps_ite; apply keeps_ite; apply keeps_wakeUnit; assumption; assumption; apply keeps_ite
  apply keeps_runInsn; intro _; intro _; intro _; apply keeps_semAny; assumption; assumption; assumption

theorem keeps_resumeBinders {W : Part → Prop} [May W .regs] [May W .links] [May W .swc] [May W .ten] [May W .sp] [May W .cue]
    [May W .col] [May W .power] [May W .waking] {s0 : State} (s : State) (hk0 : Keeps W s0 s) : Keeps W s0 (resumeBinders s) := by
  unfold resumeBinders; dsimp only; apply keeps_forEach; intro _; intro _; intro _; apply keeps_State_modCtr; assumption
  apply keeps_forEach; intro _; intro _; intro _; apply keeps_retrySeq; assumption; apply keeps_forEach; intro _; intro _; intro _
  apply keeps_State_modCtr; assumption; assumption

theorem keeps_resumeAll {W : Part → Prop} [May W .regs] [May W .links] [May W .swc] [May W .ten] [May W .sp] [May W .cue] [May W .col]
    [May W .power] [May W .spState] [May W .waking] {s0 : State} (s : State) (hk0 : Keeps W s0 s) : Keeps W s0 (resumeAll s) := by
  unfold resumeAll; apply keeps_ite; dsimp only; apply keeps_settleDoze; apply keeps_forEach; intro _; intro _; intro _
  apply keeps_retrySeq; assumption; apply keeps_resumeBinders; apply keeps_sendXfers; apply keeps_resumeWaits; assumption; assumption

theorem keeps_execNop {W : Part → Prop} [May W .regs] [May W .ten] [May W .cue] [May W .waking] {s0 : State} (q : Fin 64) (s : State)
    (hk0 : Keeps W s0 s) {tnext : State} (ht : execNop q s = .next tnext) : Keeps W s0 tnext := by
  unfold execNop at ht; cases ht; apply keeps_runAt; intro _; intro _; intro _; intro _; apply keeps_semNop; assumption; assumption

theorem keeps_execBra {W : Part → Prop} [May W .regs] [May W .ten] [May W .cue] [May W .waking] {s0 : State} (q : Fin 64) (s : State)
    (hk0 : Keeps W s0 s) {tnext : State} (ht : execBra q s = .next tnext) : Keeps W s0 tnext := by
  unfold execBra at ht; cases ht; apply keeps_runAt; intro _; intro _; intro _; intro _; apply keeps_semBra; assumption; assumption

theorem keeps_execBrc {W : Part → Prop} [May W .regs] [May W .ten] [May W .cue] [May W .waking] {s0 : State} (q : Fin 64) (s : State)
    (hk0 : Keeps W s0 s) {tnext : State} (ht : execBrc q s = .next tnext) : Keeps W s0 tnext := by
  unfold execBrc at ht; cases ht; apply keeps_runAt; intro _; intro _; intro _; intro _; apply keeps_semBrc; assumption; assumption

theorem keeps_execCallTo {W : Part → Prop} [May W .regs] [May W .ten] [May W .cue] [May W .waking] {s0 : State} (q : Fin 64) (s : State)
    (hk0 : Keeps W s0 s) {tnext : State} (ht : execCallTo q s = .next tnext) : Keeps W s0 tnext := by
  unfold execCallTo at ht; cases ht; apply keeps_runAt; intro _; intro _; intro _; intro _; apply keeps_semCall; assumption; assumption

theorem keeps_execRet {W : Part → Prop} [May W .regs] [May W .ten] [May W .cue] [May W .waking] {s0 : State} (q : Fin 64) (s : State)
    (hk0 : Keeps W s0 s) {tnext : State} (ht : execRet q s = .next tnext) : Keeps W s0 tnext := by
  unfold execRet at ht; cases ht; apply keeps_runAt; intro _; intro _; intro _; intro _; apply keeps_semRet; assumption; assumption

theorem keeps_execWaitcSettled {W : Part → Prop} [May W .regs] [May W .ten] [May W .cue] [May W .waking] {s0 : State} (q : Fin 64)
    (s : State) (hk0 : Keeps W s0 s) {tnext : State} (ht : execWaitcSettled q s = .next tnext) : Keeps W s0 tnext := by
  unfold execWaitcSettled at ht; cases ht; apply keeps_runAt; intro _; intro _; intro _; intro _; apply keeps_semWaitc; assumption
  assumption

theorem keeps_execWaitcProgress {W : Part → Prop} [May W .regs] [May W .ten] [May W .cue] [May W .waking] {s0 : State} (q : Fin 64)
    (s : State) (hk0 : Keeps W s0 s) {tnext : State} (ht : execWaitcProgress q s = .next tnext) : Keeps W s0 tnext := by
  unfold execWaitcProgress at ht; cases ht; apply keeps_runAt; intro _; intro _; intro _; intro _; apply keeps_semWaitc; assumption
  assumption

theorem keeps_execWaitcSettledClear {W : Part → Prop} [May W .regs] [May W .ten] [May W .cue] [May W .waking] {s0 : State} (q : Fin 64)
    (s : State) (hk0 : Keeps W s0 s) {tnext : State} (ht : execWaitcSettledClear q s = .next tnext) : Keeps W s0 tnext := by
  unfold execWaitcSettledClear at ht; cases ht; apply keeps_runAt; intro _; intro _; intro _; intro _; apply keeps_semWaitc; assumption
  assumption

theorem keeps_execSigc {W : Part → Prop} [May W .regs] [May W .ten] [May W .cue] [May W .waking] {s0 : State} (q : Fin 64) (s : State)
    (hk0 : Keeps W s0 s) {tnext : State} (ht : execSigc q s = .next tnext) : Keeps W s0 tnext := by
  unfold execSigc at ht; cases ht; apply keeps_runAt; intro _; intro _; intro _; intro _; apply keeps_semSigc; assumption; assumption

theorem keeps_execDozeSelf {W : Part → Prop} [May W .regs] [May W .ten] [May W .cue] [May W .spState] [May W .waking] {s0 : State}
    (q : Fin 64) (s : State) (hk0 : Keeps W s0 s) {tnext : State} (ht : execDozeSelf q s = .next tnext) : Keeps W s0 tnext := by
  unfold execDozeSelf at ht; cases ht; apply keeps_runAt; intro _; intro _; intro _; intro _; apply keeps_semDozeSelf; assumption
  assumption

theorem keeps_execDozeSelfCtr {W : Part → Prop} [May W .regs] [May W .ten] [May W .cue] [May W .spState] [May W .waking] {s0 : State}
    (q : Fin 64) (s : State) (hk0 : Keeps W s0 s) {tnext : State} (ht : execDozeSelfCtr q s = .next tnext) : Keeps W s0 tnext := by
  unfold execDozeSelfCtr at ht; cases ht; apply keeps_runAt; intro _; intro _; intro _; intro _; apply keeps_semDozeSelf; assumption
  assumption

theorem keeps_execDozeTiles {W : Part → Prop} [May W .regs] [May W .ten] [May W .cue] [May W .spState] [May W .waking] {s0 : State}
    (q : Fin 64) (s : State) (hk0 : Keeps W s0 s) {tnext : State} (ht : execDozeTiles q s = .next tnext) : Keeps W s0 tnext := by
  unfold execDozeTiles at ht; cases ht; apply keeps_runAt; intro _; intro _; intro _; intro _; apply keeps_semDozeTiles; assumption
  assumption

theorem keeps_execDozeEngines {W : Part → Prop} [May W .regs] [May W .ten] [May W .cue] [May W .spState] [May W .waking] {s0 : State}
    (q : Fin 64) (s : State) (hk0 : Keeps W s0 s) {tnext : State} (ht : execDozeEngines q s = .next tnext) : Keeps W s0 tnext := by
  unfold execDozeEngines at ht; cases ht; apply keeps_runAt; intro _; intro _; intro _; intro _; apply keeps_semDozeEngines; assumption
  assumption

theorem keeps_execFence {W : Part → Prop} [May W .regs] [May W .ten] [May W .cue] [May W .waking] {s0 : State} (q : Fin 64) (s : State)
    (hk0 : Keeps W s0 s) {tnext : State} (ht : execFence q s = .next tnext) : Keeps W s0 tnext := by
  unfold execFence at ht; cases ht; apply keeps_runAt; intro _; intro _; intro _; intro _; apply keeps_semFence; assumption; assumption

theorem keeps_execTrap {W : Part → Prop} [May W .regs] [May W .ten] [May W .cue] [May W .waking] {s0 : State} (q : Fin 64) (s : State)
    (hk0 : Keeps W s0 s) {tnext : State} (ht : execTrap q s = .next tnext) : Keeps W s0 tnext := by
  unfold execTrap at ht; cases ht; apply keeps_runAt; intro _; intro _; intro _; intro _; apply keeps_semTrap; assumption; assumption

theorem keeps_execHalt {W : Part → Prop} [May W .regs] [May W .ten] [May W .cue] [May W .waking] {s0 : State} (q : Fin 64) (s : State)
    (hk0 : Keeps W s0 s) {tnext : State} (ht : execHalt q s = .next tnext) : Keeps W s0 tnext := by
  unfold execHalt at ht; cases ht; apply keeps_runAt; intro _; intro _; intro _; intro _; apply keeps_semHalt; assumption; assumption

theorem keeps_execAdds {W : Part → Prop} [May W .regs] [May W .ten] [May W .cue] [May W .waking] {s0 : State} (q : Fin 64) (s : State)
    (hk0 : Keeps W s0 s) {tnext : State} (ht : execAdds q s = .next tnext) : Keeps W s0 tnext := by
  unfold execAdds at ht; cases ht; apply keeps_runAt; intro _; intro _; intro _; intro _; apply keeps_semAlu; assumption; assumption

theorem keeps_execSubs {W : Part → Prop} [May W .regs] [May W .ten] [May W .cue] [May W .waking] {s0 : State} (q : Fin 64) (s : State)
    (hk0 : Keeps W s0 s) {tnext : State} (ht : execSubs q s = .next tnext) : Keeps W s0 tnext := by
  unfold execSubs at ht; cases ht; apply keeps_runAt; intro _; intro _; intro _; intro _; apply keeps_semAlu; assumption; assumption

theorem keeps_execMuls {W : Part → Prop} [May W .regs] [May W .ten] [May W .cue] [May W .waking] {s0 : State} (q : Fin 64) (s : State)
    (hk0 : Keeps W s0 s) {tnext : State} (ht : execMuls q s = .next tnext) : Keeps W s0 tnext := by
  unfold execMuls at ht; cases ht; apply keeps_runAt; intro _; intro _; intro _; intro _; apply keeps_semAlu; assumption; assumption

theorem keeps_execAnds {W : Part → Prop} [May W .regs] [May W .ten] [May W .cue] [May W .waking] {s0 : State} (q : Fin 64) (s : State)
    (hk0 : Keeps W s0 s) {tnext : State} (ht : execAnds q s = .next tnext) : Keeps W s0 tnext := by
  unfold execAnds at ht; cases ht; apply keeps_runAt; intro _; intro _; intro _; intro _; apply keeps_semAlu; assumption; assumption

theorem keeps_execOrs {W : Part → Prop} [May W .regs] [May W .ten] [May W .cue] [May W .waking] {s0 : State} (q : Fin 64) (s : State)
    (hk0 : Keeps W s0 s) {tnext : State} (ht : execOrs q s = .next tnext) : Keeps W s0 tnext := by
  unfold execOrs at ht; cases ht; apply keeps_runAt; intro _; intro _; intro _; intro _; apply keeps_semAlu; assumption; assumption

theorem keeps_execXors {W : Part → Prop} [May W .regs] [May W .ten] [May W .cue] [May W .waking] {s0 : State} (q : Fin 64) (s : State)
    (hk0 : Keeps W s0 s) {tnext : State} (ht : execXors q s = .next tnext) : Keeps W s0 tnext := by
  unfold execXors at ht; cases ht; apply keeps_runAt; intro _; intro _; intro _; intro _; apply keeps_semAlu; assumption; assumption

theorem keeps_execShls {W : Part → Prop} [May W .regs] [May W .ten] [May W .cue] [May W .waking] {s0 : State} (q : Fin 64) (s : State)
    (hk0 : Keeps W s0 s) {tnext : State} (ht : execShls q s = .next tnext) : Keeps W s0 tnext := by
  unfold execShls at ht; cases ht; apply keeps_runAt; intro _; intro _; intro _; intro _; apply keeps_semAlu; assumption; assumption

theorem keeps_execShrs {W : Part → Prop} [May W .regs] [May W .ten] [May W .cue] [May W .waking] {s0 : State} (q : Fin 64) (s : State)
    (hk0 : Keeps W s0 s) {tnext : State} (ht : execShrs q s = .next tnext) : Keeps W s0 tnext := by
  unfold execShrs at ht; cases ht; apply keeps_runAt; intro _; intro _; intro _; intro _; apply keeps_semAlu; assumption; assumption

theorem keeps_execLdis {W : Part → Prop} [May W .regs] [May W .ten] [May W .cue] [May W .waking] {s0 : State} (q : Fin 64) (s : State)
    (hk0 : Keeps W s0 s) {tnext : State} (ht : execLdis q s = .next tnext) : Keeps W s0 tnext := by
  unfold execLdis at ht; cases ht; apply keeps_runAt; intro _; intro _; intro _; intro _; apply keeps_semLdis; assumption; assumption

theorem keeps_execMovs {W : Part → Prop} [May W .regs] [May W .ten] [May W .cue] [May W .waking] {s0 : State} (q : Fin 64) (s : State)
    (hk0 : Keeps W s0 s) {tnext : State} (ht : execMovs q s = .next tnext) : Keeps W s0 tnext := by
  unfold execMovs at ht; cases ht; apply keeps_runAt; intro _; intro _; intro _; intro _; apply keeps_semMovs; assumption; assumption

theorem keeps_execCmps {W : Part → Prop} [May W .regs] [May W .ten] [May W .cue] [May W .waking] {s0 : State} (q : Fin 64) (s : State)
    (hk0 : Keeps W s0 s) {tnext : State} (ht : execCmps q s = .next tnext) : Keeps W s0 tnext := by
  unfold execCmps at ht; cases ht; apply keeps_runAt; intro _; intro _; intro _; intro _; apply keeps_semCmps; assumption; assumption

theorem keeps_execLds {W : Part → Prop} [May W .regs] [May W .ten] [May W .sp] [May W .cue] [May W .waking] {s0 : State} (q : Fin 64)
    (s : State) (hk0 : Keeps W s0 s) {tnext : State} (ht : execLds q s = .next tnext) : Keeps W s0 tnext := by
  unfold execLds at ht; cases ht; apply keeps_runAt; intro _; intro _; intro _; intro _; apply keeps_semLds; assumption; assumption

theorem keeps_execSts {W : Part → Prop} [May W .regs] [May W .ten] [May W .sp] [May W .cue] [May W .waking] {s0 : State} (q : Fin 64)
    (s : State) (hk0 : Keeps W s0 s) {tnext : State} (ht : execSts q s = .next tnext) : Keeps W s0 tnext := by
  unfold execSts at ht; cases ht; apply keeps_runAt; intro _; intro _; intro _; intro _; apply keeps_semSts; assumption; assumption

theorem keeps_execDset {W : Part → Prop} [May W .regs] [May W .ten] [May W .cue] [May W .waking] {s0 : State} (q : Fin 64) (s : State)
    (hk0 : Keeps W s0 s) {tnext : State} (ht : execDset q s = .next tnext) : Keeps W s0 tnext := by
  unfold execDset at ht; cases ht; apply keeps_runAt; intro _; intro _; intro _; intro _; apply keeps_semDset; assumption; assumption

theorem keeps_execDadd {W : Part → Prop} [May W .regs] [May W .ten] [May W .cue] [May W .waking] {s0 : State} (q : Fin 64) (s : State)
    (hk0 : Keeps W s0 s) {tnext : State} (ht : execDadd q s = .next tnext) : Keeps W s0 tnext := by
  unfold execDadd at ht; cases ht; apply keeps_runAt; intro _; intro _; intro _; intro _; apply keeps_semDadd; assumption; assumption

theorem keeps_execDcopyReg {W : Part → Prop} [May W .regs] [May W .ten] [May W .cue] [May W .waking] {s0 : State} (q : Fin 64)
    (s : State) (hk0 : Keeps W s0 s) {tnext : State} (ht : execDcopyReg q s = .next tnext) : Keeps W s0 tnext := by
  unfold execDcopyReg at ht; cases ht; apply keeps_runAt; intro _; intro _; intro _; intro _; apply keeps_semDcopyReg; assumption
  assumption

theorem keeps_execDcopyLoad {W : Part → Prop} [May W .regs] [May W .ten] [May W .sp] [May W .cue] [May W .waking] {s0 : State}
    (q : Fin 64) (s : State) (hk0 : Keeps W s0 s) {tnext : State} (ht : execDcopyLoad q s = .next tnext) : Keeps W s0 tnext := by
  unfold execDcopyLoad at ht; cases ht; apply keeps_runAt; intro _; intro _; intro _; intro _; apply keeps_semDcopyLoad; assumption
  assumption

theorem keeps_execDcopyStore {W : Part → Prop} [May W .regs] [May W .ten] [May W .sp] [May W .cue] [May W .waking] {s0 : State}
    (q : Fin 64) (s : State) (hk0 : Keeps W s0 s) {tnext : State} (ht : execDcopyStore q s = .next tnext) : Keeps W s0 tnext := by
  unfold execDcopyStore at ht; cases ht; apply keeps_runAt; intro _; intro _; intro _; intro _; apply keeps_semDcopyStore; assumption
  assumption

theorem keeps_execPfetch {W : Part → Prop} [May W .regs] [May W .links] [May W .swc] [May W .ten] [May W .sp] [May W .cue]
    [May W .waking] {s0 : State} (q : Fin 64) (s : State) (hk0 : Keeps W s0 s) {tnext : State} (ht : execPfetch q s = .next tnext)
    : Keeps W s0 tnext := by
  unfold execPfetch at ht; cases ht; apply keeps_runAt; intro _; intro _; intro _; intro _; apply keeps_semXfer; assumption; assumption

theorem keeps_execPspill {W : Part → Prop} [May W .regs] [May W .links] [May W .swc] [May W .ten] [May W .sp] [May W .cue]
    [May W .waking] {s0 : State} (q : Fin 64) (s : State) (hk0 : Keeps W s0 s) {tnext : State} (ht : execPspill q s = .next tnext)
    : Keeps W s0 tnext := by
  unfold execPspill at ht; cases ht; apply keeps_runAt; intro _; intro _; intro _; intro _; apply keeps_semXfer; assumption; assumption

theorem keeps_execAlloc {W : Part → Prop} [May W .regs] [May W .ten] [May W .cue] [May W .waking] {s0 : State} (q : Fin 64) (s : State)
    (hk0 : Keeps W s0 s) {tnext : State} (ht : execAlloc q s = .next tnext) : Keeps W s0 tnext := by
  unfold execAlloc at ht; cases ht; apply keeps_runAt; intro _; intro _; intro _; intro _; apply keeps_semAlloc; assumption; assumption

theorem keeps_execFreeI {W : Part → Prop} [May W .regs] [May W .ten] [May W .cue] [May W .waking] {s0 : State} (q : Fin 64) (s : State)
    (hk0 : Keeps W s0 s) {tnext : State} (ht : execFreeI q s = .next tnext) : Keeps W s0 tnext := by
  unfold execFreeI at ht; cases ht; apply keeps_runAt; intro _; intro _; intro _; intro _; apply keeps_semFree; assumption; assumption

theorem keeps_execMma {W : Part → Prop} [May W .regs] [May W .ten] [May W .cue] [May W .power] [May W .waking] {s0 : State} (q : Fin 64)
    (s : State) (hk0 : Keeps W s0 s) {tnext : State} (ht : execMma q s = .next tnext) : Keeps W s0 tnext := by
  unfold execMma at ht; cases ht; apply keeps_runAt; intro _; intro _; intro _; intro _; apply keeps_semTensor; assumption; assumption

theorem keeps_execMmas {W : Part → Prop} [May W .regs] [May W .ten] [May W .cue] [May W .power] [May W .waking] {s0 : State}
    (q : Fin 64) (s : State) (hk0 : Keeps W s0 s) {tnext : State} (ht : execMmas q s = .next tnext) : Keeps W s0 tnext := by
  unfold execMmas at ht; cases ht; apply keeps_runAt; intro _; intro _; intro _; intro _; apply keeps_semTensor; assumption; assumption

theorem keeps_execMmag {W : Part → Prop} [May W .regs] [May W .ten] [May W .cue] [May W .power] [May W .waking] {s0 : State}
    (q : Fin 64) (s : State) (hk0 : Keeps W s0 s) {tnext : State} (ht : execMmag q s = .next tnext) : Keeps W s0 tnext := by
  unfold execMmag at ht; cases ht; apply keeps_runAt; intro _; intro _; intro _; intro _; apply keeps_semTensor; assumption; assumption

theorem keeps_execEwa {W : Part → Prop} [May W .regs] [May W .ten] [May W .cue] [May W .power] [May W .waking] {s0 : State} (q : Fin 64)
    (s : State) (hk0 : Keeps W s0 s) {tnext : State} (ht : execEwa q s = .next tnext) : Keeps W s0 tnext := by
  unfold execEwa at ht; cases ht; apply keeps_runAt; intro _; intro _; intro _; intro _; apply keeps_semTensor; assumption; assumption

theorem keeps_execEwf {W : Part → Prop} [May W .regs] [May W .ten] [May W .cue] [May W .power] [May W .waking] {s0 : State} (q : Fin 64)
    (s : State) (hk0 : Keeps W s0 s) {tnext : State} (ht : execEwf q s = .next tnext) : Keeps W s0 tnext := by
  unfold execEwf at ht; cases ht; apply keeps_runAt; intro _; intro _; intro _; intro _; apply keeps_semTensor; assumption; assumption

theorem keeps_execRed {W : Part → Prop} [May W .regs] [May W .ten] [May W .cue] [May W .power] [May W .waking] {s0 : State} (q : Fin 64)
    (s : State) (hk0 : Keeps W s0 s) {tnext : State} (ht : execRed q s = .next tnext) : Keeps W s0 tnext := by
  unfold execRed at ht; cases ht; apply keeps_runAt; intro _; intro _; intro _; intro _; apply keeps_semTensor; assumption; assumption

theorem keeps_execNorm {W : Part → Prop} [May W .regs] [May W .ten] [May W .cue] [May W .power] [May W .waking] {s0 : State}
    (q : Fin 64) (s : State) (hk0 : Keeps W s0 s) {tnext : State} (ht : execNorm q s = .next tnext) : Keeps W s0 tnext := by
  unfold execNorm at ht; cases ht; apply keeps_runAt; intro _; intro _; intro _; intro _; apply keeps_semTensor; assumption; assumption

theorem keeps_execSmax {W : Part → Prop} [May W .regs] [May W .ten] [May W .cue] [May W .power] [May W .waking] {s0 : State}
    (q : Fin 64) (s : State) (hk0 : Keeps W s0 s) {tnext : State} (ht : execSmax q s = .next tnext) : Keeps W s0 tnext := by
  unfold execSmax at ht; cases ht; apply keeps_runAt; intro _; intro _; intro _; intro _; apply keeps_semTensor; assumption; assumption

theorem keeps_execTopk {W : Part → Prop} [May W .regs] [May W .ten] [May W .cue] [May W .power] [May W .waking] {s0 : State}
    (q : Fin 64) (s : State) (hk0 : Keeps W s0 s) {tnext : State} (ht : execTopk q s = .next tnext) : Keeps W s0 tnext := by
  unfold execTopk at ht; cases ht; apply keeps_runAt; intro _; intro _; intro _; intro _; apply keeps_semTensor; assumption; assumption

theorem keeps_execGate {W : Part → Prop} [May W .regs] [May W .ten] [May W .cue] [May W .power] [May W .waking] {s0 : State}
    (q : Fin 64) (s : State) (hk0 : Keeps W s0 s) {tnext : State} (ht : execGate q s = .next tnext) : Keeps W s0 tnext := by
  unfold execGate at ht; cases ht; apply keeps_runAt; intro _; intro _; intro _; intro _; apply keeps_semTensor; assumption; assumption

theorem keeps_execQnt {W : Part → Prop} [May W .regs] [May W .ten] [May W .cue] [May W .power] [May W .waking] {s0 : State} (q : Fin 64)
    (s : State) (hk0 : Keeps W s0 s) {tnext : State} (ht : execQnt q s = .next tnext) : Keeps W s0 tnext := by
  unfold execQnt at ht; cases ht; apply keeps_runAt; intro _; intro _; intro _; intro _; apply keeps_semTensor; assumption; assumption

theorem keeps_execCvt {W : Part → Prop} [May W .regs] [May W .ten] [May W .cue] [May W .power] [May W .waking] {s0 : State} (q : Fin 64)
    (s : State) (hk0 : Keeps W s0 s) {tnext : State} (ht : execCvt q s = .next tnext) : Keeps W s0 tnext := by
  unfold execCvt at ht; cases ht; apply keeps_runAt; intro _; intro _; intro _; intro _; apply keeps_semTensor; assumption; assumption

theorem keeps_execCopy {W : Part → Prop} [May W .regs] [May W .ten] [May W .cue] [May W .power] [May W .waking] {s0 : State}
    (q : Fin 64) (s : State) (hk0 : Keeps W s0 s) {tnext : State} (ht : execCopy q s = .next tnext) : Keeps W s0 tnext := by
  unfold execCopy at ht; cases ht; apply keeps_runAt; intro _; intro _; intro _; intro _; apply keeps_semTensor; assumption; assumption

theorem keeps_execGatheri {W : Part → Prop} [May W .regs] [May W .ten] [May W .cue] [May W .power] [May W .waking] {s0 : State}
    (q : Fin 64) (s : State) (hk0 : Keeps W s0 s) {tnext : State} (ht : execGatheri q s = .next tnext) : Keeps W s0 tnext := by
  unfold execGatheri at ht; cases ht; apply keeps_runAt; intro _; intro _; intro _; intro _; apply keeps_semTensor; assumption
  assumption

theorem keeps_execSample {W : Part → Prop} [May W .regs] [May W .ten] [May W .cue] [May W .power] [May W .waking] {s0 : State}
    (q : Fin 64) (s : State) (hk0 : Keeps W s0 s) {tnext : State} (ht : execSample q s = .next tnext) : Keeps W s0 tnext := by
  unfold execSample at ht; cases ht; apply keeps_runAt; intro _; intro _; intro _; intro _; apply keeps_semTensor; assumption
  assumption

theorem keeps_execCueReduce {W : Part → Prop} [May W .regs] [May W .links] [May W .swc] [May W .ten] [May W .sp] [May W .cue]
    [May W .col] [May W .power] [May W .waking] {s0 : State} (q : Fin 64) (s : State) (hk0 : Keeps W s0 s) {tnext : State}
    (ht : execCueReduce q s = .next tnext) : Keeps W s0 tnext := by
  unfold execCueReduce at ht; cases ht; apply keeps_runAt; intro _; intro _; intro _; intro _; apply keeps_semCue; assumption
  assumption

theorem keeps_execCueScatter {W : Part → Prop} [May W .regs] [May W .links] [May W .swc] [May W .ten] [May W .sp] [May W .cue]
    [May W .col] [May W .power] [May W .waking] {s0 : State} (q : Fin 64) (s : State) (hk0 : Keeps W s0 s) {tnext : State}
    (ht : execCueScatter q s = .next tnext) : Keeps W s0 tnext := by
  unfold execCueScatter at ht; cases ht; apply keeps_runAt; intro _; intro _; intro _; intro _; apply keeps_semCue; assumption
  assumption

theorem keeps_execCueGather {W : Part → Prop} [May W .regs] [May W .links] [May W .swc] [May W .ten] [May W .sp] [May W .cue]
    [May W .col] [May W .power] [May W .waking] {s0 : State} (q : Fin 64) (s : State) (hk0 : Keeps W s0 s) {tnext : State}
    (ht : execCueGather q s = .next tnext) : Keeps W s0 tnext := by
  unfold execCueGather at ht; cases ht; apply keeps_runAt; intro _; intro _; intro _; intro _; apply keeps_semCue; assumption
  assumption

theorem keeps_execCueExchange {W : Part → Prop} [May W .regs] [May W .links] [May W .swc] [May W .ten] [May W .sp] [May W .cue]
    [May W .col] [May W .power] [May W .waking] {s0 : State} (q : Fin 64) (s : State) (hk0 : Keeps W s0 s) {tnext : State}
    (ht : execCueExchange q s = .next tnext) : Keeps W s0 tnext := by
  unfold execCueExchange at ht; cases ht; apply keeps_runAt; intro _; intro _; intro _; intro _; apply keeps_semCue; assumption
  assumption

theorem keeps_execCueRoute {W : Part → Prop} [May W .regs] [May W .links] [May W .swc] [May W .ten] [May W .sp] [May W .cue]
    [May W .col] [May W .power] [May W .waking] {s0 : State} (q : Fin 64) (s : State) (hk0 : Keeps W s0 s) {tnext : State}
    (ht : execCueRoute q s = .next tnext) : Keeps W s0 tnext := by
  unfold execCueRoute at ht; cases ht; apply keeps_runAt; intro _; intro _; intro _; intro _; apply keeps_semCue; assumption; assumption

theorem keeps_execCueMerge {W : Part → Prop} [May W .regs] [May W .links] [May W .swc] [May W .ten] [May W .sp] [May W .cue]
    [May W .col] [May W .power] [May W .waking] {s0 : State} (q : Fin 64) (s : State) (hk0 : Keeps W s0 s) {tnext : State}
    (ht : execCueMerge q s = .next tnext) : Keeps W s0 tnext := by
  unfold execCueMerge at ht; cases ht; apply keeps_runAt; intro _; intro _; intro _; intro _; apply keeps_semCue; assumption; assumption

theorem keeps_execCueBroadcast {W : Part → Prop} [May W .regs] [May W .links] [May W .swc] [May W .ten] [May W .sp] [May W .cue]
    [May W .col] [May W .power] [May W .waking] {s0 : State} (q : Fin 64) (s : State) (hk0 : Keeps W s0 s) {tnext : State}
    (ht : execCueBroadcast q s = .next tnext) : Keeps W s0 tnext := by
  unfold execCueBroadcast at ht; cases ht; apply keeps_runAt; intro _; intro _; intro _; intro _; apply keeps_semCue; assumption
  assumption

theorem keeps_execCueSelect {W : Part → Prop} [May W .regs] [May W .links] [May W .swc] [May W .ten] [May W .sp] [May W .cue]
    [May W .col] [May W .power] [May W .waking] {s0 : State} (q : Fin 64) (s : State) (hk0 : Keeps W s0 s) {tnext : State}
    (ht : execCueSelect q s = .next tnext) : Keeps W s0 tnext := by
  unfold execCueSelect at ht; cases ht; apply keeps_runAt; intro _; intro _; intro _; intro _; apply keeps_semCue; assumption
  assumption

theorem keeps_execCurtain {W : Part → Prop} [May W .regs] [May W .links] [May W .swc] [May W .ten] [May W .sp] [May W .cue] [May W .col]
    [May W .waking] {s0 : State} (q : Fin 64) (s : State) (hk0 : Keeps W s0 s) {tnext : State}
    (ht : execCurtain q s = .next tnext) : Keeps W s0 tnext := by
  unfold execCurtain at ht; cases ht; apply keeps_runAt; intro _; intro _; intro _; intro _; apply keeps_semAside; assumption
  assumption

theorem keeps_execAside {W : Part → Prop} [May W .regs] [May W .links] [May W .swc] [May W .ten] [May W .sp] [May W .cue] [May W .col]
    [May W .waking] {s0 : State} (q : Fin 64) (s : State) (hk0 : Keeps W s0 s) {tnext : State} (ht : execAside q s = .next tnext)
    : Keeps W s0 tnext := by
  unfold execAside at ht; cases ht; apply keeps_runAt; intro _; intro _; intro _; intro _; apply keeps_semAside; assumption; assumption

theorem keeps_execWaitcTimeout {W : Part → Prop} [May W .regs] [May W .ten] [May W .cue] [May W .waking] {s0 : State} (q : Fin 64)
    (s : State) (hk0 : Keeps W s0 s) {tnext : State} (ht : execWaitcTimeout q s = .next tnext) : Keeps W s0 tnext := by
  unfold execWaitcTimeout at ht; cases ht; apply keeps_ite; apply keeps_runAt; intro _; intro _; intro _; intro _; apply keeps_semWaitc
  assumption; assumption; assumption

theorem keeps_execDozeWake {W : Part → Prop} [May W .regs] [May W .ten] [May W .cue] [May W .spState] [May W .waking] {s0 : State}
    (q : Fin 64) (s : State) (hk0 : Keeps W s0 s) {tnext : State} (ht : execDozeWake q s = .next tnext) : Keeps W s0 tnext := by
  unfold execDozeWake at ht; cases ht; apply keeps_ite; apply keeps_advance; apply keeps_setUnit; assumption; assumption

theorem keeps_pinFlights {W : Part → Prop} [May W .ten] {s0 : State} (s : State) (hk0 : Keeps W s0 s) : Keeps W s0 (pinFlights s) := by
  unfold pinFlights; apply keeps_State_modTen; exact byteStep_refl _; assumption

theorem keeps_tileOff {W : Part → Prop} [May W .regs] [May W .spState] {s0 : State} (p : Nat) (s : State) (hk0 : Keeps W s0 s)
    : Keeps W s0 (tileOff p s) := by
  unfold tileOff; apply keeps_ite; assumption; apply keeps_setUnit; assumption

theorem keeps_noteTilePool {W : Part → Prop} [May W .regs] [May W .host] [May W .outbox] {s0 : State} (p : Nat) (s : State) (hk0
    : Keeps W s0 s) : Keeps W s0 (noteTilePool p s) := by
  unfold noteTilePool; apply keeps_ite; apply keeps_swingLowAlert; assumption; assumption

theorem keeps_swingCmd {W : Part → Prop} [May W .regs] [May W .ten] [May W .host] [May W .spState] [May W .waking] [May W .outbox]
    {s0 : State} (p : Nat) (s : State) (hk0 : Keeps W s0 s) : Keeps W s0 (swingCmd p s) := by
  unfold swingCmd; apply keeps_ite; apply keeps_State_raise; assumption; apply keeps_noteTilePool; apply keeps_tileOff
  apply keeps_swingTile; apply keeps_pinFlights; assumption

theorem keeps_execTileSwingCmd {W : Part → Prop} [May W .regs] [May W .ten] [May W .host] [May W .spState] [May W .waking]
    [May W .outbox] {s0 : State} (p : Fin 240) (s : State) (hk0 : Keeps W s0 s) {tnext : State}
    (ht : execTileSwingCmd p s = .next tnext) : Keeps W s0 tnext := by
  unfold execTileSwingCmd at ht; cases ht; apply keeps_ite; apply keeps_swingCmd; assumption; assumption

theorem keeps_retireCmd {W : Part → Prop} [May W .regs] [May W .ten] [May W .spState] {s0 : State} (p : Nat) (s : State) (hk0
    : Keeps W s0 s) : Keeps W s0 (retireCmd p s) := by
  unfold retireCmd; apply keeps_ite; assumption; apply keeps_tileOff; apply keeps_retireTile; apply keeps_pinFlights; assumption

theorem keeps_execTileRetireCmd {W : Part → Prop} [May W .regs] [May W .ten] [May W .spState] {s0 : State} (p : Fin 240) (s : State)
    (hk0 : Keeps W s0 s) {tnext : State} (ht : execTileRetireCmd p s = .next tnext) : Keeps W s0 tnext := by
  unfold execTileRetireCmd at ht; cases ht; apply keeps_ite; apply keeps_retireCmd; assumption; assumption

theorem keeps_returnTile {W : Part → Prop} [May W .regs] [May W .spState] [May W .waking] {s0 : State} (p : Nat) (s : State) (hk0
    : Keeps W s0 s) : Keeps W s0 (returnTile p s) := by
  unfold returnTile; apply keeps_ite; assumption; dsimp only; apply keeps_ite; apply keeps_quarantine; apply keeps_setUnit
  apply keeps_State_setFld; assumption; apply keeps_quarantine; apply keeps_lightWing; apply keeps_setUnit; apply keeps_State_setFld
  assumption

theorem keeps_execTileReturnCmd {W : Part → Prop} [May W .regs] [May W .spState] [May W .waking] {s0 : State} (p : Fin 240) (s : State)
    (hk0 : Keeps W s0 s) {tnext : State} (ht : execTileReturnCmd p s = .next tnext) : Keeps W s0 tnext := by
  unfold execTileReturnCmd at ht; cases ht; apply keeps_ite; apply keeps_returnTile; assumption; assumption

theorem keeps_tileFails {W : Part → Prop} [May W .regs] [May W .ten] [May W .host] [May W .spState] [May W .waking] [May W .outbox]
    {s0 : State} (p : Nat) (s : State) (hk0 : Keeps W s0 s) : Keeps W s0 (tileFails p s) := by
  unfold tileFails; dsimp only; apply keeps_ite; apply keeps_recordFailure; apply keeps_tileOff; apply keeps_swingTile
  apply keeps_pinFlights; assumption; apply keeps_noteTilePool; apply keeps_recordFailure; apply keeps_tileOff; apply keeps_swingTile
  apply keeps_pinFlights; assumption

theorem keeps_execTileReloadThreshold {W : Part → Prop} [May W .regs] [May W .ten] [May W .host] [May W .spState] [May W .waking]
    [May W .outbox] {s0 : State} (p : Fin 240) (s : State) (hk0 : Keeps W s0 s) {tnext : State}
    (ht : execTileReloadThreshold p s = .next tnext) : Keeps W s0 tnext := by
  unfold execTileReloadThreshold at ht; cases ht; apply keeps_ite; apply keeps_tileFails; assumption; assumption

theorem keeps_execRowSwing {W : Part → Prop} [May W .regs] [May W .ten] [May W .host] [May W .outbox] {s0 : State} (row : Fin 2097152)
    (s : State) (hk0 : Keeps W s0 s) {tnext : State} (ht : execRowSwing row s = .next tnext) : Keeps W s0 tnext := by
  unfold execRowSwing at ht; cases ht; apply keeps_ite; apply keeps_swingRow; assumption; assumption

theorem keeps_takeScratch {W : Part → Prop} [May W .regs] [May W .links] [May W .swc] [May W .ten] [May W .sp] [May W .waking]
    {s0 : State} (h : InFrame) (errs : List (Nat × List Byte)) (s : State) (hk0 : Keeps W s0 s) : Keeps W s0 (takeScratch h errs s) := by
  unfold takeScratch; dsimp only; apply keeps_ite; assumption; apply keeps_ite; apply keeps_wakeSpan; assumption
  apply keeps_serveScratch; apply keeps_dropInbox; assumption

theorem keeps_execScratchpadRequest {W : Part → Prop} [May W .regs] [May W .links] [May W .swc] [May W .ten] [May W .sp] [May W .waking]
    {s0 : State} (f : Frame) (errs : List (Nat × List Byte)) (s : State) (hk0 : Keeps W s0 s) {tnext : State}
    (ht : execScratchpadRequest f errs s = .next tnext) : Keeps W s0 tnext := by
  unfold execScratchpadRequest at ht; cases ht; split; assumption; apply keeps_ite; apply keeps_takeScratch; assumption; assumption

theorem keeps_scrubWord {W : Part → Prop} [May W .regs] [May W .ten] {s0 : State} (word : Nat) (err : List Byte) (s : State) (hk0
    : Keeps W s0 s) : Keeps W s0 (scrubWord word err s) := by
  unfold scrubWord; apply keeps_ite; assumption; apply keeps_readWords; assumption

theorem keeps_execSpScrub {W : Part → Prop} [May W .regs] [May W .ten] {s0 : State} (word : Fin 16777216) (err : List Byte) (s : State)
    (hk0 : Keeps W s0 s) {tnext : State} (ht : execSpScrub word err s = .next tnext) : Keeps W s0 tnext := by
  unfold execSpScrub at ht; cases ht; apply keeps_ite; apply keeps_scrubWord; assumption; assumption

theorem keeps_execRangeZeroingComplete {W : Part → Prop} [May W .regs] [May W .ten] [May W .sp] [May W .cue] [May W .col] {s0 : State}
    (base : Nat) (s : State) (hk0 : Keeps W s0 s) {tnext : State} (ht : execRangeZeroingComplete base s = .next tnext)
    : Keeps W s0 tnext := by
  unfold execRangeZeroingComplete at ht; cases ht; split; assumption; apply keeps_ite; apply keeps_settlePlacing; apply keeps_zeroRange
  assumption; assumption

theorem keeps_startFlights {W : Part → Prop} [May W .cue] {s0 : State} (s : State) (hk0 : Keeps W s0 s) : Keeps W s0 (startFlights s) := by
  unfold startFlights; apply keeps_forEach; intro _; intro _; intro _; split; apply keeps_ite; apply keeps_State_modCtr; assumption
  assumption; assumption; assumption

theorem keeps_retireFlight {W : Part → Prop} [May W .regs] [May W .ten] [May W .cue] [May W .spState] {s0 : State} (f : Flight)
    (s : State) (hk0 : Keeps W s0 s) : Keeps W s0 (retireFlight f s) := by
  unfold retireFlight; dsimp only; apply keeps_settleSigs; apply keeps_forEach; intro _; intro _; intro _; apply keeps_ite
  apply keeps_tileOff; assumption; assumption; apply keeps_State_modTen; exact byteStep_refl _; assumption

theorem keeps_flightFaults {W : Part → Prop} [May W .regs] [May W .ten] [May W .sp] [May W .cue] [May W .spState] [May W .waking]
    {s0 : State} (f : Flight) (code : Nat) (s : State) (hk0 : Keeps W s0 s) : Keeps W s0 (flightFaults f code s) := by
  unfold flightFaults; dsimp only; apply keeps_ite; apply keeps_seqFaults; apply keeps_State_setFld; apply keeps_retireFlight
  apply keeps_forEach; intro _; intro _; intro _; apply keeps_openSpan; assumption; assumption; apply keeps_State_raise
  apply keeps_State_setFld; apply keeps_retireFlight; apply keeps_forEach; intro _; intro _; intro _; apply keeps_openSpan; assumption
  assumption

theorem keeps_failFlight {W : Part → Prop} [May W .regs] [May W .swc] [May W .ten] [May W .sp] [May W .cue] [May W .col]
    [May W .spState] [May W .waking] {s0 : State} (f : Flight) (code : Nat) (word : Option Nat) (s : State) (hk0 : Keeps W s0 s)
    : Keeps W s0 (failFlight f code word s) := by
  unfold failFlight; dsimp only; split; apply keeps_flightFaults; split; apply keeps_logBadWord; assumption; assumption; split
  apply keeps_abortHere; apply keeps_retireFlight; split; apply keeps_logBadWord; assumption; assumption; apply keeps_retireFlight
  split; apply keeps_logBadWord; assumption; assumption

theorem keeps_countRows {W : Part → Prop} [May W .regs] {s0 : State} (v : State) (o : Oper) (s : State) (hk0 : Keeps W s0 v) (hk0
    : Keeps W s0 s) : Keeps W s0 (countRows v o s) := by
  unfold countRows; apply keeps_forEach; intro _; intro _; intro _; apply keeps_pmcEvent; assumption; assumption

theorem keeps_endFlight {W : Part → Prop} [May W .regs] [May W .links] [May W .swc] [May W .ten] [May W .sp] [May W .cue] [May W .col]
    [May W .spState] {s0 : State} (v : State) (f : Flight) (reloads : List Nat) (s : State) (hk0 : Keeps W s0 v) (hk0
    : Keeps W s0 s) : Keeps W s0 (endFlight v f reloads s) := by
  unfold endFlight; dsimp only; split; apply keeps_retireFlight; apply keeps_writeResult; assumption; apply keeps_countSats; assumption
  apply keeps_countRows; assumption; apply keeps_noteReloads; apply keeps_countRowReads; apply keeps_readFrom; assumption; assumption
  split; apply keeps_retireFlight; apply keeps_countSats; assumption; apply keeps_countRows; assumption; apply keeps_noteReloads
  apply keeps_countRowReads; apply keeps_readFrom; assumption; assumption; apply keeps_feedOp; apply keeps_State_modCtr
  apply keeps_retireFlight; apply keeps_countSats; assumption; apply keeps_countRows; assumption; apply keeps_noteReloads
  apply keeps_countRowReads; apply keeps_readFrom; assumption; assumption

theorem keeps_runFlight {W : Part → Prop} [May W .regs] [May W .links] [May W .swc] [May W .ten] [May W .sp] [May W .cue] [May W .col]
    [May W .power] [May W .spState] [May W .waking] {s0 : State} (f : Flight) (reloads : List Nat) (s : State) (hk0
    : Keeps W s0 s) : Keeps W s0 (runFlight f reloads s) := by
  unfold runFlight; apply keeps_ite; assumption; apply keeps_ite; apply keeps_forEach; intro _; intro _; intro _; apply keeps_wakeUnit
  assumption; assumption; dsimp only; apply keeps_resumeAll; split; apply keeps_failFlight; apply keeps_readFrom; apply keeps_veiled
  assumption; assumption; apply keeps_endFlight; apply keeps_veiled; assumption; assumption

theorem keeps_execTensorInstructionComplete {W : Part → Prop} [May W .regs] [May W .links] [May W .swc] [May W .ten] [May W .sp]
    [May W .cue] [May W .col] [May W .power] [May W .spState] [May W .waking] {s0 : State} (id : Nat) (reloads : List (Fin 240))
    (s : State) (hk0 : Keeps W s0 s) {tnext : State} (ht : execTensorInstructionComplete id reloads s = .next tnext)
    : Keeps W s0 tnext := by
  unfold execTensorInstructionComplete at ht; cases ht; split; assumption; apply keeps_ite; apply keeps_runFlight; assumption
  assumption

theorem keeps_lateFault {W : Part → Prop} [May W .regs] [May W .links] [May W .swc] [May W .ten] [May W .sp] [May W .cue] [May W .col]
    [May W .power] [May W .spState] [May W .waking] {s0 : State} (f : Flight) (word : Nat) (s : State) (hk0 : Keeps W s0 s) : Keeps W s0
    (lateFault f word s) := by
  unfold lateFault; apply keeps_ite; assumption; apply keeps_ite; apply keeps_resumeAll; apply keeps_failFlight; apply keeps_loseWord
  assumption; split; apply keeps_resumeAll; apply keeps_failFlight; assumption; assumption

theorem keeps_execTensorLateFault {W : Part → Prop} [May W .regs] [May W .links] [May W .swc] [May W .ten] [May W .sp] [May W .cue]
    [May W .col] [May W .power] [May W .spState] [May W .waking] {s0 : State} (id : Nat) (word : Fin 16777216) (s : State) (hk0
    : Keeps W s0 s) {tnext : State} (ht : execTensorLateFault id word s = .next tnext) : Keeps W s0 tnext := by
  unfold execTensorLateFault at ht; cases ht; split; assumption; apply keeps_ite; apply keeps_lateFault; assumption; assumption

theorem keeps_refuseLoad {W : Part → Prop} [May W .regs] {s0 : State} (cause : Nat) (s : State) (hk0 : Keeps W s0 s) : Keeps W s0
    (refuseLoad cause s) := by
  unfold refuseLoad; apply keeps_State_setFld; apply keeps_State_setFld; assumption

theorem keeps_loadProgram {W : Part → Prop} [May W .regs] [May W .ten] [May W .cue] {s0 : State} (off : Nat) (s : State) (hk0
    : Keeps W s0 s) : Keeps W s0 (loadProgram off s) := by
  unfold loadProgram; apply keeps_ite; apply keeps_State_raise; assumption; split; apply keeps_refuseLoad; apply keeps_ite
  apply keeps_writeShort; assumption; assumption; apply keeps_installImage; apply keeps_State_setFld; assumption

theorem keeps_execProgramLoad {W : Part → Prop} [May W .regs] [May W .ten] [May W .cue] {s0 : State} (off : Nat) (s : State) (hk0
    : Keeps W s0 s) {tnext : State} (ht : execProgramLoad off s = .next tnext) : Keeps W s0 tnext := by
  unfold execProgramLoad at ht; cases ht; apply keeps_ite; apply keeps_loadProgram; assumption; assumption

theorem keeps_finishLoad {W : Part → Prop} [May W .regs] [May W .cue] {s0 : State} (n : Nat) (s : State) (hk0 : Keeps W s0 s)
    : Keeps W s0 (finishLoad n s) := by
  unfold finishLoad; apply keeps_ite; assumption; dsimp only; apply keeps_bumpGen; apply keeps_State_modCue; exact byteStep_refl _
  apply keeps_State_raise; apply keeps_State_setFld; apply keeps_State_setFld; apply keeps_installTrigs; assumption

theorem keeps_execProgramLoadComplete {W : Part → Prop} [May W .regs] [May W .cue] {s0 : State} (s : State) (hk0 : Keeps W s0 s)
    {tnext : State} (ht : execProgramLoadComplete s = .next tnext) : Keeps W s0 tnext := by
  unfold execProgramLoadComplete at ht; cases ht; split; assumption; apply keeps_ite; apply keeps_finishLoad; assumption; assumption

theorem keeps_unloadProgram {W : Part → Prop} [May W .regs] [May W .ten] [May W .cue] {s0 : State} (n : Nat) (s : State) (hk0
    : Keeps W s0 s) : Keeps W s0 (unloadProgram n s) := by
  unfold unloadProgram; apply keeps_ite; apply keeps_State_raise; assumption; apply keeps_ite; apply keeps_refuseLoad; assumption
  apply keeps_ite; apply keeps_refuseLoad; assumption; apply keeps_unloadProg; assumption

theorem keeps_execProgramUnload {W : Part → Prop} [May W .regs] [May W .ten] [May W .cue] {s0 : State} (n : Fin 64) (s : State)
    (hk0 : Keeps W s0 s) {tnext : State} (ht : execProgramUnload n s = .next tnext) : Keeps W s0 tnext := by
  unfold execProgramUnload at ht; cases ht; apply keeps_ite; apply keeps_unloadProgram; assumption; assumption

theorem keeps_hostStoreWrite {W : Part → Prop} [May W .regs] [May W .cue] [May W .store] {s0 : State} (off : Nat) (bytes : List Byte)
    (s : State) (hk0 : Keeps W s0 s) : Keeps W s0 (hostStoreWrite off bytes s) := by
  unfold hostStoreWrite; dsimp only; apply keeps_storeWrite; apply keeps_ite; apply keeps_State_raise; assumption; assumption

theorem keeps_execCueStoreHostWrite {W : Part → Prop} [May W .regs] [May W .cue] [May W .store] {s0 : State} (off : Nat)
    (bytes : List Byte) (s : State) (hk0 : Keeps W s0 s) {tnext : State} (ht : execCueStoreHostWrite off bytes s = .next tnext)
    : Keeps W s0 tnext := by
  unfold execCueStoreHostWrite at ht; cases ht; apply keeps_ite; apply keeps_hostStoreWrite; assumption; assumption

theorem keeps_execCueStoreRequest {W : Part → Prop} [May W .regs] [May W .links] [May W .swc] [May W .cue] [May W .store] {s0 : State}
    (f : Frame) (s : State) (hk0 : Keeps W s0 s) {tnext : State} (ht : execCueStoreRequest f s = .next tnext) : Keeps W s0 tnext := by
  unfold execCueStoreRequest at ht; cases ht; split; assumption; apply keeps_ite; apply keeps_serveStore; apply keeps_dropInbox
  assumption; assumption

theorem keeps_execStatusPageRequest {W : Part → Prop} [May W .regs] [May W .links] [May W .swc] {s0 : State} (f : Frame) (s : State)
    (hk0 : Keeps W s0 s) {tnext : State} (ht : execStatusPageRequest f s = .next tnext) : Keeps W s0 tnext := by
  unfold execStatusPageRequest at ht; cases ht; split; assumption; apply keeps_ite; apply keeps_serveStatus; apply keeps_dropInbox
  assumption; assumption

theorem keeps_enableTrigger {W : Part → Prop} [May W .regs] [May W .cue] {s0 : State} (t : Nat) (on : Bool) (s : State) (hk0
    : Keeps W s0 s) : Keeps W s0 (enableTrigger t on s) := by
  unfold enableTrigger; apply keeps_ite; apply keeps_State_raise; assumption; apply keeps_ite; apply keeps_ite; assumption
  apply keeps_startTimer; apply keeps_State_setFld; assumption; apply keeps_State_setFld; assumption

theorem keeps_execTriggerEnable {W : Part → Prop} [May W .regs] [May W .cue] {s0 : State} (t : Fin 1024) (on : Bool) (s : State)
    (hk0 : Keeps W s0 s) {tnext : State} (ht : execTriggerEnable t on s = .next tnext) : Keeps W s0 tnext := by
  unfold execTriggerEnable at ht; cases ht; apply keeps_ite; apply keeps_enableTrigger; assumption; assumption

theorem keeps_fireTimer {W : Part → Prop} [May W .regs] [May W .cue] [May W .waking] {s0 : State} (t : Nat) (s : State) (hk0
    : Keeps W s0 s) : Keeps W s0 (fireTimer t s) := by
  unfold fireTimer; dsimp only; apply keeps_fireTrig; apply keeps_ite; apply keeps_State_modCue; exact byteStep_refl _; assumption
  apply keeps_State_setFld; apply keeps_State_modCue; exact byteStep_refl _; assumption

theorem keeps_execTimerFire {W : Part → Prop} [May W .regs] [May W .cue] [May W .waking] {s0 : State} (t : Fin 1024) (s : State)
    (hk0 : Keeps W s0 s) {tnext : State} (ht : execTimerFire t s = .next tnext) : Keeps W s0 tnext := by
  unfold execTimerFire at ht; cases ht; apply keeps_ite; apply keeps_fireTimer; assumption; assumption

theorem keeps_execContextStart {W : Part → Prop} [May W .regs] [May W .cue] [May W .waking] {s0 : State} (q : Fin 64) (s : State)
    (hk0 : Keeps W s0 s) {tnext : State} (ht : execContextStart q s = .next tnext) : Keeps W s0 tnext := by
  unfold execContextStart at ht; cases ht; apply keeps_ite; apply keeps_takePending; assumption; assumption

theorem keeps_killSeq {W : Part → Prop} [May W .regs] [May W .ten] [May W .cue] [May W .waking] {s0 : State} (q : Nat) (s : State)
    (hk0 : Keeps W s0 s) : Keeps W s0 (killSeq q s) := by
  unfold killSeq; apply keeps_ite; apply keeps_dropCtx; assumption; assumption

theorem keeps_execSeqKill {W : Part → Prop} [May W .regs] [May W .ten] [May W .cue] [May W .waking] {s0 : State} (q : Fin 64)
    (s : State) (hk0 : Keeps W s0 s) {tnext : State} (ht : execSeqKill q s = .next tnext) : Keeps W s0 tnext := by
  unfold execSeqKill at ht; cases ht; apply keeps_ite; apply keeps_killSeq; assumption; assumption

theorem keeps_disableSeq {W : Part → Prop} [May W .regs] [May W .cue] [May W .waking] {s0 : State} (q : Nat) (on : Bool) (s : State)
    (hk0 : Keeps W s0 s) : Keeps W s0 (disableSeq q on s) := by
  unfold disableSeq; apply keeps_ite; apply keeps_State_setFld; assumption; apply keeps_takePending; apply keeps_State_setFld
  assumption

theorem keeps_execSeqDisable {W : Part → Prop} [May W .regs] [May W .cue] [May W .waking] {s0 : State} (q : Fin 64) (on : Bool)
    (s : State) (hk0 : Keeps W s0 s) {tnext : State} (ht : execSeqDisable q on s = .next tnext) : Keeps W s0 tnext := by
  unfold execSeqDisable at ht; cases ht; apply keeps_ite; apply keeps_disableSeq; assumption; assumption

theorem keeps_clearCounter {W : Part → Prop} [May W .regs] [May W .cue] {s0 : State} (c : Nat) (s : State) (hk0 : Keeps W s0 s)
    : Keeps W s0 (clearCounter c s) := by
  unfold clearCounter; apply keeps_ite; apply keeps_State_setCtr; assumption; apply keeps_State_raise; assumption

theorem keeps_execCounterClear {W : Part → Prop} [May W .regs] [May W .cue] {s0 : State} (c : Fin 1024) (s : State) (hk0 : Keeps W s0 s)
    {tnext : State} (ht : execCounterClear c s = .next tnext) : Keeps W s0 tnext := by
  unfold execCounterClear at ht; cases ht; apply keeps_ite; apply keeps_clearCounter; assumption; assumption

theorem keeps_unitReturns {W : Part → Prop} [May W .regs] [May W .swc] [May W .mem] [May W .cue] [May W .waking] {s0 : State}
    (u : UnitId) (s : State) (hk0 : Keeps W s0 s) : Keeps W s0 (unitReturns u s) := by
  unfold unitReturns; split; apply keeps_ite; apply keeps_State_setFld; assumption; assumption; apply keeps_takePending; apply keeps_ite
  apply keeps_State_setFld; assumption; assumption; apply keeps_ite; apply keeps_settleChannels; apply keeps_returnSet
  apply keeps_State_setChan; apply keeps_State_setFld; assumption; assumption; assumption

theorem keeps_startWaiting {W : Part → Prop} [May W .regs] [May W .cue] [May W .waking] {s0 : State} (s : State) (hk0
    : Keeps W s0 s) : Keeps W s0 (startWaiting s) := by
  unfold startWaiting; apply keeps_forEach; intro _; intro _; intro _; apply keeps_takePending; assumption; assumption

theorem keeps_endQuarantine {W : Part → Prop} [May W .regs] [May W .links] [May W .swc] [May W .mem] [May W .ten] [May W .sp]
    [May W .cue] [May W .col] [May W .power] [May W .spState] [May W .waking] {s0 : State} (u : UnitId) (s : State) (hk0
    : Keeps W s0 s) : Keeps W s0 (endQuarantine u s) := by
  unfold endQuarantine; dsimp only; apply keeps_resumeAll; apply keeps_startWaiting; apply keeps_unitReturns; split
  apply keeps_State_setFld; assumption; assumption

theorem keeps_execQuarantineComplete {W : Part → Prop} [May W .regs] [May W .links] [May W .swc] [May W .mem] [May W .ten] [May W .sp]
    [May W .cue] [May W .col] [May W .power] [May W .spState] [May W .waking] {s0 : State} (u : UnitId) (s : State) (hk0 : Keeps W s0 s)
    {tnext : State} (ht : execQuarantineComplete u s = .next tnext) : Keeps W s0 tnext := by
  unfold execQuarantineComplete at ht; cases ht; apply keeps_ite; apply keeps_endQuarantine; assumption; assumption

theorem keeps_holdWord {W : Part → Prop} [May W .col] {s0 : State} (g j : Nat) (v : Word) (s : State) (hk0 : Keeps W s0 s) : Keeps W s0
    (holdWord g j v s) := by
  unfold holdWord; apply keeps_State_modGrp; assumption

theorem keeps_execGroupWordHold {W : Part → Prop} [May W .col] {s0 : State} (g : Fin 4096) (j : Fin 3) (value : Word) (s : State)
    (hk0 : Keeps W s0 s) {tnext : State} (ht : execGroupWordHold g j value s = .next tnext) : Keeps W s0 tnext := by
  unfold execGroupWordHold at ht; cases ht; apply keeps_ite; apply keeps_holdWord; assumption; assumption

theorem keeps_execGroupCommit {W : Part → Prop} [May W .regs] [May W .ten] [May W .cue] [May W .col] {s0 : State} (g : Fin 4096)
    (value : Word) (s : State) (hk0 : Keeps W s0 s) {tnext : State} (ht : execGroupCommit g value s = .next tnext)
    : Keeps W s0 tnext := by
  unfold execGroupCommit at ht; cases ht; apply keeps_ite; apply keeps_groupCommit; assumption; assumption

theorem keeps_lateDrop {W : Part → Prop} [May W .regs] {s0 : State} (s : State) (hk0 : Keeps W s0 s) : Keeps W s0 (lateDrop s) := by
  unfold lateDrop; apply keeps_State_count; assumption

theorem keeps_arrivalFires {W : Part → Prop} [May W .regs] [May W .cue] [May W .waking] {s0 : State} (g : Nat) (s : State) (hk0
    : Keeps W s0 s) : Keeps W s0 (arrivalFires g s) := by
  unfold arrivalFires; dsimp only; apply keeps_forEach; intro _; intro _; intro _; apply keeps_ite; assumption; apply keeps_fireTrig
  apply keeps_State_modCue; exact byteStep_refl _; assumption; assumption

theorem keeps_meetOp {W : Part → Prop} [May W .regs] [May W .links] [May W .swc] [May W .ten] [May W .sp] [May W .cue] [May W .col]
    [May W .waking] {s0 : State} (g n : Nat) (f : Frame) (s : State) (hk0 : Keeps W s0 s) : Keeps W s0 (meetOp g n f s) := by
  unfold meetOp; split; apply keeps_ite; assumption; apply keeps_takeColFrame; assumption; apply keeps_ite; assumption; dsimp only
  apply keeps_ite; apply keeps_arrivalFires; apply keeps_State_modGrp; assumption; apply keeps_State_modGrp; assumption

theorem keeps_colArrives {W : Part → Prop} [May W .regs] [May W .links] [May W .swc] [May W .ten] [May W .sp] [May W .cue] [May W .col]
    [May W .waking] {s0 : State} (f : Frame) (s : State) (hk0 : Keeps W s0 s) : Keeps W s0 (colArrives f s) := by
  unfold colArrives; dsimp only; split; apply keeps_lateDrop; assumption; apply keeps_ite; apply keeps_meetOp; assumption
  apply keeps_lateDrop; assumption

theorem keeps_takeFrom {W : Part → Prop} [May W .regs] [May W .links] [May W .swc] [May W .ten] [May W .sp] [May W .cue] [May W .col]
    [May W .power] [May W .spState] [May W .waking] {s0 : State} (is : Frame → Bool) (f : Frame) (act : Frame → State → State)
    (s : State) (hf_act : ∀ x0 x1, Keeps W s0 x1 → Keeps W s0 (act x0 x1)) (hk0 : Keeps W s0 s) : Keeps W s0 (takeFrom is f act s) := by
  unfold takeFrom; split; assumption; apply keeps_ite; apply keeps_resumeAll; apply hf_act; apply keeps_dropInbox; assumption
  assumption

theorem keeps_takeCol {W : Part → Prop} [May W .regs] [May W .links] [May W .swc] [May W .ten] [May W .sp] [May W .cue] [May W .col]
    [May W .power] [May W .spState] [May W .waking] {s0 : State} (is : Frame → Bool) (f : Frame) (act : Frame → State → State)
    (s : State) (hf_act : ∀ x0 x1, Keeps W s0 x1 → Keeps W s0 (act x0 x1)) (hk0 : Keeps W s0 s) : Keeps W s0 (takeCol is f act s) := by
  unfold takeCol; apply keeps_ite; apply keeps_takeFrom; intro _; intro _; intro _; apply hf_act; assumption; assumption
  apply keeps_ite; apply keeps_forEach; intro _; intro _; intro _; apply keeps_forEach; intro _; intro _; intro _; apply keeps_wakeUnit
  assumption; assumption; assumption; assumption

theorem keeps_execColContribReceive {W : Part → Prop} [May W .regs] [May W .links] [May W .swc] [May W .ten] [May W .sp] [May W .cue]
    [May W .col] [May W .power] [May W .spState] [May W .waking] {s0 : State} (f : Frame) (s : State) (hk0 : Keeps W s0 s)
    {tnext : State} (ht : execColContribReceive f s = .next tnext) : Keeps W s0 tnext := by
  unfold execColContribReceive at ht; cases ht; apply keeps_takeCol; intro _; intro _; intro _; apply keeps_colArrives; assumption
  assumption

theorem keeps_execColResultReceive {W : Part → Prop} [May W .regs] [May W .links] [May W .swc] [May W .ten] [May W .sp] [May W .cue]
    [May W .col] [May W .power] [May W .spState] [May W .waking] {s0 : State} (f : Frame) (s : State) (hk0 : Keeps W s0 s)
    {tnext : State} (ht : execColResultReceive f s = .next tnext) : Keeps W s0 tnext := by
  unfold execColResultReceive at ht; cases ht; apply keeps_takeCol; intro _; intro _; intro _; apply keeps_colArrives; assumption
  assumption

theorem keeps_execRetractReceive {W : Part → Prop} [May W .regs] [May W .links] [May W .swc] [May W .ten] [May W .sp] [May W .cue]
    [May W .col] [May W .power] [May W .spState] [May W .waking] {s0 : State} (f : Frame) (s : State) (hk0 : Keeps W s0 s)
    {tnext : State} (ht : execRetractReceive f s = .next tnext) : Keeps W s0 tnext := by
  unfold execRetractReceive at ht; cases ht; apply keeps_takeCol; intro _; intro _; intro _; apply keeps_ite; apply keeps_colArrives
  assumption; apply keeps_lateDrop; assumption; assumption

theorem keeps_execVerifiedReceive {W : Part → Prop} [May W .regs] [May W .links] [May W .swc] [May W .ten] [May W .sp] [May W .cue]
    [May W .col] [May W .power] [May W .spState] [May W .waking] {s0 : State} (f : Frame) (s : State) (hk0 : Keeps W s0 s)
    {tnext : State} (ht : execVerifiedReceive f s = .next tnext) : Keeps W s0 tnext := by
  unfold execVerifiedReceive at ht; cases ht; apply keeps_takeCol; intro _; intro _; intro _; apply keeps_colArrives; assumption
  assumption

theorem keeps_execReleaseReceive {W : Part → Prop} [May W .regs] [May W .links] [May W .swc] [May W .ten] [May W .sp] [May W .cue]
    [May W .col] [May W .power] [May W .spState] [May W .waking] {s0 : State} (f : Frame) (s : State) (hk0 : Keeps W s0 s)
    {tnext : State} (ht : execReleaseReceive f s = .next tnext) : Keeps W s0 tnext := by
  unfold execReleaseReceive at ht; cases ht; apply keeps_takeCol; intro _; intro _; intro _; apply keeps_colArrives; assumption
  assumption

theorem keeps_execCountReceive {W : Part → Prop} [May W .regs] [May W .links] [May W .swc] [May W .ten] [May W .sp] [May W .cue]
    [May W .col] [May W .power] [May W .spState] [May W .waking] {s0 : State} (f : Frame) (s : State) (hk0 : Keeps W s0 s)
    {tnext : State} (ht : execCountReceive f s = .next tnext) : Keeps W s0 tnext := by
  unfold execCountReceive at ht; cases ht; apply keeps_takeCol; intro _; intro _; intro _; apply keeps_colArrives; assumption
  assumption

theorem keeps_sumReady {W : Part → Prop} [May W .regs] [May W .links] [May W .swc] [May W .ten] [May W .sp] [May W .cue] [May W .col]
    {s0 : State} (o : Op) (st k : Nat) (s : State) (hk0 : Keeps W s0 s) : Keeps W s0 (sumReady o st k s) := by
  unfold sumReady; apply keeps_ite; assumption; apply keeps_ite; split; apply keeps_ite; apply keeps_selectMerge; assumption; assumption
  assumption; apply keeps_ite; split; apply keeps_ite; apply keeps_formSum; assumption; assumption; assumption; assumption

theorem keeps_onEngine {W : Part → Prop} [May W .regs] [May W .links] [May W .swc] [May W .ten] [May W .sp] [May W .cue] [May W .col]
    [May W .power] [May W .spState] [May W .waking] {s0 : State} (id : Nat) (act : Op → State → State) (s : State)
    (hf_act : ∀ x0 x1, Keeps W s0 x1 → Keeps W s0 (act x0 x1)) (hk0 : Keeps W s0 s) : Keeps W s0 (onEngine id act s) := by
  unfold onEngine; split; assumption; apply keeps_ite; assumption; apply keeps_ite; apply keeps_resumeAll; apply hf_act; assumption
  apply keeps_forEach; intro _; intro _; intro _; apply keeps_wakeUnit; assumption; assumption

theorem keeps_execChunkSum {W : Part → Prop} [May W .regs] [May W .links] [May W .swc] [May W .ten] [May W .sp] [May W .cue]
    [May W .col] [May W .power] [May W .spState] [May W .waking] {s0 : State} (id : Nat) (stage : Fin 16) (chunk : Nat) (s : State)
    (hk0 : Keeps W s0 s) {tnext : State} (ht : execChunkSum id stage chunk s = .next tnext) : Keeps W s0 tnext := by
  unfold execChunkSum at ht; cases ht; apply keeps_onEngine; intro _; intro _; intro _; apply keeps_sumReady; assumption; assumption

theorem keeps_chargeLane {W : Part → Prop} [May W .col] {s0 : State} (e lane : Nat) (s : State) (hk0 : Keeps W s0 s) : Keeps W s0
    (chargeLane e lane s) := by
  unfold chargeLane; apply keeps_State_modCol; assumption

theorem keeps_verdict {W : Part → Prop} [May W .regs] [May W .links] [May W .swc] [May W .ten] [May W .sp] [May W .cue] [May W .col]
    {s0 : State} (o : Op) (st k : Nat) (pass : Bool) (lane : Nat) (s : State) (hk0 : Keeps W s0 s) : Keeps W s0
    (verdict o st k pass lane s) := by
  unfold verdict; dsimp only; apply keeps_ite; apply keeps_mergeVerdict; apply keeps_ite; assumption; apply keeps_chargeLane; assumption
  apply keeps_ite; apply keeps_ite; apply keeps_State_count; apply keeps_ite; assumption; apply keeps_chargeLane; assumption; assumption
  split; apply keeps_ite; assumption; apply keeps_takeVerdict; apply keeps_ite; assumption; apply keeps_chargeLane; assumption
  apply keeps_ite; apply keeps_recompute; apply keeps_ite; assumption; apply keeps_chargeLane; assumption; assumption

theorem keeps_execChunkVerdict {W : Part → Prop} [May W .regs] [May W .links] [May W .swc] [May W .ten] [May W .sp] [May W .cue]
    [May W .col] [May W .power] [May W .spState] [May W .waking] {s0 : State} (id : Nat) (stage : Fin 16) (chunk : Nat) (pass : Bool)
    (lane : Fin 256) (s : State) (hk0 : Keeps W s0 s) {tnext : State}
    (ht : execChunkVerdict id stage chunk pass lane s = .next tnext) : Keeps W s0 tnext := by
  unfold execChunkVerdict at ht; cases ht; apply keeps_onEngine; intro _; intro _; intro _; apply keeps_verdict; assumption; assumption

theorem keeps_swingLane {W : Part → Prop} [May W .regs] [May W .col] [May W .host] [May W .outbox] {s0 : State} (e lane : Nat)
    (s : State) (hk0 : Keeps W s0 s) : Keeps W s0 (swingLane e lane s) := by
  unfold swingLane; dsimp only; apply keeps_ite; apply keeps_recordFailure; apply keeps_State_addFld; apply keeps_State_modCol
  assumption; apply keeps_ite; apply keeps_swingLowAlert; apply keeps_recordFailure; apply keeps_State_raise; apply keeps_State_setFld
  apply keeps_State_modCol; assumption; apply keeps_recordFailure; apply keeps_State_raise; apply keeps_State_setFld
  apply keeps_State_modCol; assumption

theorem keeps_execAdderLaneSwing {W : Part → Prop} [May W .regs] [May W .col] [May W .host] [May W .outbox] {s0 : State} (e : Fin 16)
    (lane : Fin 256) (s : State) (hk0 : Keeps W s0 s) {tnext : State} (ht : execAdderLaneSwing e lane s = .next tnext)
    : Keeps W s0 tnext := by
  unfold execAdderLaneSwing at ht; cases ht; apply keeps_ite; apply keeps_swingLane; assumption; assumption

theorem keeps_execGroupTimeout {W : Part → Prop} [May W .regs] [May W .links] [May W .swc] [May W .ten] [May W .sp] [May W .cue]
    [May W .col] [May W .power] [May W .spState] [May W .waking] {s0 : State} (id : Nat) (s : State) (hk0 : Keeps W s0 s)
    {tnext : State} (ht : execGroupTimeout id s = .next tnext) : Keeps W s0 tnext := by
  unfold execGroupTimeout at ht; cases ht; split; assumption; apply keeps_ite; apply keeps_resumeAll; apply keeps_abortOp; assumption
  assumption

theorem keeps_asideArrives {W : Part → Prop} [May W .regs] [May W .links] [May W .swc] [May W .ten] [May W .sp] [May W .cue]
    [May W .col] {s0 : State} (f : Frame) (s : State) (hk0 : Keeps W s0 s) : Keeps W s0 (asideArrives f s) := by
  unfold asideArrives; dsimp only; apply keeps_ite; assumption; split; apply keeps_ite; apply keeps_depositAside; assumption
  apply keeps_relayAside; apply keeps_depositAside; assumption; apply keeps_ite; apply keeps_abortOp; apply keeps_ite
  apply keeps_depositAside; assumption; apply keeps_relayAside; apply keeps_depositAside; assumption; apply keeps_runAside
  apply keeps_ite; apply keeps_depositAside; assumption; apply keeps_relayAside; apply keeps_depositAside; assumption

theorem keeps_execAsideReceive {W : Part → Prop} [May W .regs] [May W .links] [May W .swc] [May W .ten] [May W .sp] [May W .cue]
    [May W .col] [May W .power] [May W .spState] [May W .waking] {s0 : State} (f : Frame) (s : State) (hk0 : Keeps W s0 s)
    {tnext : State} (ht : execAsideReceive f s = .next tnext) : Keeps W s0 tnext := by
  unfold execAsideReceive at ht; cases ht; apply keeps_takeCol; intro _; intro _; intro _; apply keeps_asideArrives; assumption
  assumption

theorem keeps_noticeArrives {W : Part → Prop} [May W .regs] [May W .swc] [May W .ten] [May W .sp] [May W .cue] [May W .col] {s0 : State}
    (from_ : Nat) (f : Frame) (s : State) (hk0 : Keeps W s0 s) : Keeps W s0 (noticeArrives from_ f s) := by
  unfold noticeArrives; dsimp only; apply keeps_ite; assumption; apply keeps_abortWith; assumption

theorem keeps_execAbortNoticeReceive {W : Part → Prop} [May W .regs] [May W .links] [May W .swc] [May W .ten] [May W .sp] [May W .cue]
    [May W .col] [May W .power] [May W .spState] [May W .waking] {s0 : State} (f : Frame) (s : State) (hk0 : Keeps W s0 s)
    {tnext : State} (ht : execAbortNoticeReceive f s = .next tnext) : Keeps W s0 tnext := by
  unfold execAbortNoticeReceive at ht; cases ht; split; assumption; apply keeps_takeCol; intro _; intro _; intro _
  apply keeps_noticeArrives; assumption; assumption

theorem keeps_execE2eTimeoutExpiry {W : Part → Prop} [May W .regs] [May W .links] [May W .swc] [May W .mem] [May W .ten] [May W .sp]
    [May W .cue] [May W .col] [May W .power] [May W .spState] [May W .waking] {s0 : State} (tag : Fin 1048576) (s : State) (hk0
    : Keeps W s0 s) {tnext : State} (ht : execE2eTimeoutExpiry tag s = .next tnext) : Keeps W s0 tnext := by
  unfold execE2eTimeoutExpiry at ht; cases ht; split; assumption; apply keeps_ite; apply keeps_resumeAll; apply keeps_attemptOver
  assumption; assumption

theorem keeps_execResponseReceive {W : Part → Prop} [May W .regs] [May W .links] [May W .swc] [May W .mem] [May W .ten] [May W .sp]
    [May W .cue] [May W .col] [May W .power] [May W .spState] [May W .waking] {s0 : State} (f : Frame) (s : State) (hk0 : Keeps W s0 s)
    {tnext : State} (ht : execResponseReceive f s = .next tnext) : Keeps W s0 tnext := by
  unfold execResponseReceive at ht; cases ht; apply keeps_takeFrom; intro _; intro _; intro _; apply keeps_takeResponse; assumption
  assumption

end Sys2Proof.Machine
end

