-- ==== Sys2Proof/Laws/KeepsService.lean ====
section
/-! SUPPORT. That every operation keeps the memory's canonical form and the queue (`Keeps`): the commands of the house island, of the host port and of service, register writes and the period. -/
namespace Sys2Proof.Machine

theorem keeps_execIntakeInput {W : Part → Prop} [May W .regs] [May W .board] {s0 : State} (input : Input) (s : State) (hk0
    : Keeps W s0 s) {tnext : State} (ht : execIntakeInput input s = .next tnext) : Keeps W s0 tnext := by
  unfold execIntakeInput at ht; cases ht; apply keeps_ite; apply keeps_intake; assumption; assumption

theorem keeps_execPrompterHeartbeat {W : Part → Prop} [May W .board] {s0 : State} (who : Who) (s : State) (hk0 : Keeps W s0 s)
    {tnext : State} (ht : execPrompterHeartbeat who s = .next tnext) : Keeps W s0 tnext := by
  unfold execPrompterHeartbeat at ht; cases ht; apply keeps_ite; apply keeps_State_modPrompter; assumption; assumption

theorem keeps_declareBoth {W : Part → Prop} [May W .regs] [May W .board] [May W .outbox] {s0 : State} (a b : Bool) (s : State)
    (hk0 : Keeps W s0 s) : Keeps W s0 (declareBoth a b s) := by
  unfold declareBoth; dsimp only; apply keeps_ite; apply keeps_declareFailed; apply keeps_ite; apply keeps_declareFailed; assumption
  assumption; apply keeps_ite; apply keeps_declareFailed; assumption; assumption

theorem keeps_endWindows {W : Part → Prop} [May W .regs] [May W .board] [May W .outbox] {s0 : State} (votes : Votes) (s : State)
    (hk0 : Keeps W s0 s) : Keeps W s0 (endWindows votes s) := by
  unfold endWindows; dsimp only; apply keeps_ite; apply keeps_decideBy; intro _; intro _; apply keeps_declareBoth; assumption
  apply keeps_endWindow; apply keeps_endWindow; assumption; apply keeps_endWindow; apply keeps_endWindow; assumption

theorem keeps_execHeartbeatWindowEnd {W : Part → Prop} [May W .regs] [May W .board] [May W .outbox] {s0 : State} (votes : Votes)
    (s : State) (hk0 : Keeps W s0 s) {tnext : State} (ht : execHeartbeatWindowEnd votes s = .next tnext) : Keeps W s0 tnext := by
  unfold execHeartbeatWindowEnd at ht; cases ht; apply keeps_ite; apply keeps_endWindows; apply keeps_State_modBoard; assumption
  assumption

theorem keeps_execPrompterFatal {W : Part → Prop} [May W .regs] [May W .board] [May W .outbox] {s0 : State} (who : Who) (votes : Votes)
    (s : State) (hk0 : Keeps W s0 s) {tnext : State} (ht : execPrompterFatal who votes s = .next tnext) : Keeps W s0 tnext := by
  unfold execPrompterFatal at ht; cases ht; apply keeps_ite; apply keeps_decideBy; intro _; intro _; apply keeps_declareFailed
  assumption; assumption; assumption

theorem keeps_railDrops {W : Part → Prop} [May W .regs] [May W .board] [May W .outbox] {s0 : State} (who : Who) (votes : Votes)
    (s : State) (hk0 : Keeps W s0 s) : Keeps W s0 (railDrops who votes s) := by
  unfold railDrops; dsimp only; apply keeps_ite; apply keeps_decideBy; intro _; intro _; apply keeps_declareFailed; assumption
  apply keeps_State_setFld; assumption; apply keeps_State_setFld; assumption

theorem keeps_execPrompterRailDrop {W : Part → Prop} [May W .regs] [May W .board] [May W .outbox] {s0 : State} (who : Who)
    (votes : Votes) (s : State) (hk0 : Keeps W s0 s) {tnext : State} (ht : execPrompterRailDrop who votes s = .next tnext)
    : Keeps W s0 tnext := by
  unfold execPrompterRailDrop at ht; cases ht; apply keeps_ite; apply keeps_railDrops; assumption; assumption

theorem keeps_joinBoth {W : Part → Prop} [May W .regs] [May W .board] [May W .outbox] {s0 : State} (a b : Bool) (s : State) (hk0
    : Keeps W s0 s) : Keeps W s0 (joinBoth a b s) := by
  unfold joinBoth; dsimp only; apply keeps_ite; apply keeps_joinPrompter; apply keeps_ite; apply keeps_joinPrompter; assumption
  assumption; apply keeps_ite; apply keeps_joinPrompter; assumption; assumption

theorem keeps_execPrompterJoin {W : Part → Prop} [May W .regs] [May W .board] [May W .outbox] {s0 : State} (a b : Bool) (votes : Votes)
    (s : State) (hk0 : Keeps W s0 s) {tnext : State} (ht : execPrompterJoin a b votes s = .next tnext) : Keeps W s0 tnext := by
  unfold execPrompterJoin at ht; cases ht; apply keeps_ite; apply keeps_decideBy; intro _; intro _; apply keeps_joinBoth; assumption
  assumption; assumption

theorem keeps_toBoot {W : Part → Prop} [May W .regs] [May W .board] {s0 : State} (w : Who) (s : State) (hk0 : Keeps W s0 s) : Keeps W s0
    (toBoot w s) := by
  unfold toBoot; apply keeps_setPrompter; apply keeps_State_modPrompter; assumption

theorem keeps_execPrompterResetRelease {W : Part → Prop} [May W .regs] [May W .board] {s0 : State} (who : Who) (s : State) (hk0
    : Keeps W s0 s) {tnext : State} (ht : execPrompterResetRelease who s = .next tnext) : Keeps W s0 tnext := by
  unfold execPrompterResetRelease at ht; cases ht; apply keeps_ite; apply keeps_toBoot; assumption; assumption

theorem keeps_releaseHeld {W : Part → Prop} [May W .regs] [May W .board] {s0 : State} (w : Who) (s : State) (hk0 : Keeps W s0 s)
    : Keeps W s0 (releaseHeld w s) := by
  unfold releaseHeld; apply keeps_ite; apply keeps_toBoot; assumption; assumption

theorem keeps_execPrompterRelease {W : Part → Prop} [May W .regs] [May W .board] {s0 : State} (who : Who) (s : State) (hk0
    : Keeps W s0 s) {tnext : State} (ht : execPrompterRelease who s = .next tnext) : Keeps W s0 tnext := by
  unfold execPrompterRelease at ht; cases ht; apply keeps_ite; apply keeps_releaseHeld; assumption; assumption

theorem keeps_requestHandover {W : Part → Prop} [May W .regs] [May W .board] {s0 : State} (s : State) (hk0 : Keeps W s0 s) : Keeps W s0
    (requestHandover s) := by
  unfold requestHandover; apply keeps_ite; apply keeps_State_setFld; assumption; split; apply keeps_State_setFld; assumption
  apply keeps_ite; apply keeps_State_setFld; assumption; apply keeps_startCheckpoint; apply keeps_State_modBoard; assumption

theorem keeps_execHandover {W : Part → Prop} [May W .regs] [May W .board] {s0 : State} (s : State) (hk0 : Keeps W s0 s) {tnext : State}
    (ht : execHandover s = .next tnext) : Keeps W s0 tnext := by
  unfold execHandover at ht; cases ht; apply keeps_ite; apply keeps_requestHandover; assumption; assumption

theorem keeps_execCheckpointStart {W : Part → Prop} [May W .board] {s0 : State} (s : State) (hk0 : Keeps W s0 s) {tnext : State}
    (ht : execCheckpointStart s = .next tnext) : Keeps W s0 tnext := by
  unfold execCheckpointStart at ht; cases ht; apply keeps_ite; apply keeps_startCheckpoint; assumption; assumption

theorem keeps_execCheckpointComplete {W : Part → Prop} [May W .regs] [May W .board] {s0 : State} (body : List Byte) (s : State)
    (hk0 : Keeps W s0 s) {tnext : State} (ht : execCheckpointComplete body s = .next tnext) : Keeps W s0 tnext := by
  unfold execCheckpointComplete at ht; cases ht; apply keeps_ite; apply keeps_finishCheckpoint; assumption; assumption

theorem keeps_execCheckpointAbandon {W : Part → Prop} [May W .regs] [May W .board] {s0 : State} (s : State) (hk0 : Keeps W s0 s)
    {tnext : State} (ht : execCheckpointAbandon s = .next tnext) : Keeps W s0 tnext := by
  unfold execCheckpointAbandon at ht; cases ht; apply keeps_ite; apply keeps_abandonCheckpoint; assumption; assumption

theorem keeps_adopt {W : Part → Prop} [May W .regs] [May W .board] [May W .outbox] {s0 : State} (w : Who) (s : State) (hk0
    : Keeps W s0 s) : Keeps W s0 (adopt w s) := by
  unfold adopt; split; assumption; apply keeps_ite; apply keeps_adoptCheckpoint; assumption; assumption

theorem keeps_execCheckpointAdopt {W : Part → Prop} [May W .regs] [May W .board] [May W .outbox] {s0 : State} (who : Who) (s : State)
    (hk0 : Keeps W s0 s) {tnext : State} (ht : execCheckpointAdopt who s = .next tnext) : Keeps W s0 tnext := by
  unfold execCheckpointAdopt at ht; cases ht; apply keeps_ite; apply keeps_adopt; assumption; assumption

theorem keeps_execMailboxHostSend {W : Part → Prop} [May W .regs] [May W .links] [May W .swc] [May W .cue] [May W .board] [May W .mail]
    [May W .waking] [May W .outbox] {s0 : State} (c : Fin 32) (n : Fin 2048) (s : State) (hk0 : Keeps W s0 s) {tnext : State}
    (ht : execMailboxHostSend c n s = .next tnext) : Keeps W s0 tnext := by
  unfold execMailboxHostSend at ht; cases ht; apply keeps_ite; apply keeps_hostSend; assumption; assumption

theorem keeps_execMailboxHostPop {W : Part → Prop} [May W .regs] [May W .links] [May W .swc] [May W .board] [May W .mail]
    [May W .outbox] {s0 : State} (c : Fin 32) (s : State) (hk0 : Keeps W s0 s) {tnext : State}
    (ht : execMailboxHostPop c s = .next tnext) : Keeps W s0 tnext := by
  unfold execMailboxHostPop at ht; cases ht; apply keeps_ite; apply keeps_popFor; assumption; assumption

theorem keeps_takeMgmt {W : Part → Prop} [May W .swc] {s0 : State} (lo hi : Nat) (f : Frame) (act : Frame → State → State) (s : State)
    (hf_act : ∀ x0 x1, Keeps W s0 x1 → Keeps W s0 (act x0 x1)) (hk0 : Keeps W s0 s) : Keeps W s0 (takeMgmt lo hi f act s) := by
  unfold takeMgmt; split; assumption; apply keeps_ite; apply hf_act; apply keeps_dropInbox; assumption; assumption

theorem keeps_execMailboxMsgReceive {W : Part → Prop} [May W .regs] [May W .links] [May W .swc] [May W .cue] [May W .board]
    [May W .mail] [May W .waking] [May W .outbox] {s0 : State} (f : Frame) (s : State) (hk0 : Keeps W s0 s) {tnext : State}
    (ht : execMailboxMsgReceive f s = .next tnext) : Keeps W s0 tnext := by
  unfold execMailboxMsgReceive at ht; cases ht; apply keeps_takeMgmt; intro _; intro _; intro _; apply keeps_takeMsg; assumption
  assumption

theorem keeps_execMailboxNoticeReceive {W : Part → Prop} [May W .regs] [May W .links] [May W .swc] [May W .board] [May W .mail]
    [May W .outbox] {s0 : State} (f : Frame) (s : State) (hk0 : Keeps W s0 s) {tnext : State}
    (ht : execMailboxNoticeReceive f s = .next tnext) : Keeps W s0 tnext := by
  unfold execMailboxNoticeReceive at ht; cases ht; apply keeps_takeMgmt; intro _; intro _; intro _; apply keeps_takeMboxNotice
  assumption; assumption

theorem keeps_execMailboxResendTimeout {W : Part → Prop} [May W .regs] [May W .links] [May W .swc] [May W .board] [May W .mail]
    {s0 : State} (c : Fin 32) (dir : Fin 2) (s : State) (hk0 : Keeps W s0 s) {tnext : State}
    (ht : execMailboxResendTimeout c dir s = .next tnext) : Keeps W s0 tnext := by
  unfold execMailboxResendTimeout at ht; cases ht; apply keeps_ite; apply keeps_resendMsg; assumption; assumption

theorem keeps_unsupported {W : Part → Prop} [May W .regs] [May W .mail] {s0 : State} (f : Frame) (s : State) (hk0 : Keeps W s0 s)
    : Keeps W s0 (unsupported f s) := by
  unfold unsupported; apply keeps_ite; assumption; dsimp only; apply keeps_queueNotice; apply keeps_State_raise; apply keeps_State_count
  assumption

theorem keeps_execMgmtUnsupported {W : Part → Prop} [May W .regs] [May W .swc] [May W .mail] {s0 : State} (f : Frame) (s : State)
    (hk0 : Keeps W s0 s) {tnext : State} (ht : execMgmtUnsupported f s = .next tnext) : Keeps W s0 tnext := by
  unfold execMgmtUnsupported at ht; cases ht; split; assumption; apply keeps_ite; apply keeps_unsupported; apply keeps_dropInbox
  assumption; assumption

theorem keeps_hostReadSem {W : Part → Prop} [May W .mail] [May W .outbox] {s0 : State} (n : Nat) (s : State) (hk0 : Keeps W s0 s)
    : Keeps W s0 (hostReadSem n s) := by
  unfold hostReadSem; dsimp only; apply keeps_emit; apply keeps_acquireSem; assumption

theorem keeps_execSemReadAcquire {W : Part → Prop} [May W .mail] [May W .outbox] {s0 : State} (n : Fin 64) (s : State) (hk0
    : Keeps W s0 s) {tnext : State} (ht : execSemReadAcquire n s = .next tnext) : Keeps W s0 tnext := by
  unfold execSemReadAcquire at ht; cases ht; apply keeps_ite; apply keeps_hostReadSem; assumption; assumption

theorem keeps_byMaster {W : Part → Prop} [May W .regs] {s0 : State} (f : Frame) (act : Nat × Nat → State → State) (s : State)
    (hf_act : ∀ x0 x1, Keeps W s0 x1 → Keeps W s0 (act x0 x1)) (hk0 : Keeps W s0 s) : Keeps W s0 (byMaster f act s) := by
  unfold byMaster; split; apply hf_act; assumption; apply keeps_State_raise; apply keeps_State_count; assumption

theorem keeps_semAcquire {W : Part → Prop} [May W .regs] [May W .board] [May W .mail] {s0 : State} (f : Frame) (s : State) (hk0
    : Keeps W s0 s) : Keeps W s0 (semAcquire f s) := by
  unfold semAcquire; apply keeps_ite; apply keeps_intake; assumption; apply keeps_byMaster; intro _; intro _; intro _; dsimp only
  apply keeps_queueNotice; apply keeps_acquireSem; assumption; assumption

theorem keeps_execSemAcq {W : Part → Prop} [May W .regs] [May W .swc] [May W .board] [May W .mail] {s0 : State} (f : Frame) (s : State)
    (hk0 : Keeps W s0 s) {tnext : State} (ht : execSemAcq f s = .next tnext) : Keeps W s0 tnext := by
  unfold execSemAcq at ht; cases ht; apply keeps_takeMgmt; intro _; intro _; intro _; apply keeps_semAcquire; assumption; assumption

theorem keeps_execSemHostRelease {W : Part → Prop} [May W .mail] {s0 : State} (n : Fin 64) (s : State) (hk0 : Keeps W s0 s)
    {tnext : State} (ht : execSemHostRelease n s = .next tnext) : Keeps W s0 tnext := by
  unfold execSemHostRelease at ht; cases ht; apply keeps_ite; apply keeps_releaseSem; assumption; assumption

theorem keeps_semRelease {W : Part → Prop} [May W .regs] [May W .board] [May W .mail] {s0 : State} (f : Frame) (s : State) (hk0
    : Keeps W s0 s) : Keeps W s0 (semRelease f s) := by
  unfold semRelease; apply keeps_ite; apply keeps_intake; assumption; apply keeps_byMaster; intro _; intro _; intro _; dsimp only
  apply keeps_queueNotice; apply keeps_releaseSem; assumption; assumption

theorem keeps_execSemRel {W : Part → Prop} [May W .regs] [May W .swc] [May W .board] [May W .mail] {s0 : State} (f : Frame) (s : State)
    (hk0 : Keeps W s0 s) {tnext : State} (ht : execSemRel f s = .next tnext) : Keeps W s0 tnext := by
  unfold execSemRel at ht; cases ht; apply keeps_takeMgmt; intro _; intro _; intro _; apply keeps_semRelease; assumption; assumption

theorem keeps_forceSem {W : Part → Prop} [May W .regs] [May W .mail] {s0 : State} (n : Nat) (s : State) (hk0 : Keeps W s0 s)
    : Keeps W s0 (forceSem n s) := by
  unfold forceSem; dsimp only; apply keeps_State_raise; apply keeps_ite; apply keeps_State_setSem; assumption; assumption

theorem keeps_execSemForce {W : Part → Prop} [May W .regs] [May W .mail] {s0 : State} (n : Fin 64) (s : State) (hk0 : Keeps W s0 s)
    {tnext : State} (ht : execSemForce n s = .next tnext) : Keeps W s0 tnext := by
  unfold execSemForce at ht; cases ht; apply keeps_ite; apply keeps_forceSem; assumption; assumption

theorem keeps_unpowered {W : Part → Prop} [May W .regs] [May W .house] [May W .links] [May W .sites] [May W .swc] [May W .mem] [May W .dram] [May W .ten] [May W .sp] [May W .cue] [May W .store] [May W .col] [May W .board] [May W .mail] [May W .power] [May W .sec] [May W .keys] [May W .host] [May W .rhs] [May W .spState] [May W .waking] [May W .outbox] {s0 : State} (s : State) (hk0 : Keeps W s0 s) : Keeps W s0 (unpowered s) := by
  unfold unpowered
  apply keeps_State_setFld
  refine keeps_move (s := s) rfl rfl (fun hw => ?_) (Nat.le_refl _) (List.prefix_refl _) (fun q g => ?_) hk0
  · rw [Memory.wf_iff] at *; exact ⟨Tab.wf_filter _ _ _ hw.1, rfl, rfl, rfl⟩
  · cases q <;> first | exact absurd May.may g | first | exact rfl | exact ⟨rfl, rfl⟩

theorem keeps_applyStored {W : Part → Prop} [May W .regs] {s0 : State} (s : State) (hk0 : Keeps W s0 s) : Keeps W s0 (applyStored s) := by
  unfold applyStored; split; assumption; apply keeps_State_setFld; apply keeps_State_setFld; assumption

theorem keeps_bootBoth {W : Part → Prop} [May W .regs] {s0 : State} (s : State) (hk0 : Keeps W s0 s) : Keeps W s0 (bootBoth s) := by
  unfold bootBoth; dsimp only; apply keeps_ite; apply keeps_setPrompter; apply keeps_ite; apply keeps_setPrompter; assumption
  assumption; apply keeps_ite; apply keeps_setPrompter; assumption; assumption

theorem keeps_pinsAtStart {W : Part → Prop} [May W .regs] [May W .house] [May W .links] [May W .sites] [May W .swc] [May W .mem]
    [May W .dram] [May W .ten] [May W .sp] [May W .cue] [May W .store] [May W .col] [May W .board] [May W .mail] [May W .power]
    [May W .host] [May W .rhs] [May W .spState] [May W .waking] [May W .outbox] {s0 : State} (ironHigh flowOk : Bool) (s : State)
    (hk0 : Keeps W s0 s) : Keeps W s0 (pinsAtStart ironHigh flowOk s) := by
  unfold pinsAtStart; dsimp only; apply keeps_ite; apply keeps_ite; assumption; apply keeps_setCause; assumption; apply keeps_tripIron
  apply keeps_ite; assumption; apply keeps_setCause; assumption

theorem keeps_powerOn {W : Part → Prop} [May W .regs] [May W .house] [May W .links] [May W .sites] [May W .swc] [May W .mem]
    [May W .dram] [May W .ten] [May W .sp] [May W .cue] [May W .store] [May W .col] [May W .board] [May W .mail] [May W .power]
    [May W .sec] [May W .keys] [May W .host] [May W .rhs] [May W .spState] [May W .waking] [May W .outbox] {s0 : State} (mv slot : Nat)
    (ironHigh flowOk : Bool) (s : State) (hk0 : Keeps W s0 s) : Keeps W s0 (powerOn mv slot ironHigh flowOk s) := by
  unfold powerOn; dsimp only; apply keeps_pinsAtStart; apply keeps_ite; apply keeps_bootBoth; apply keeps_applyStored
  apply keeps_State_setFld; apply keeps_State_setFld; apply keeps_State_addFld; apply keeps_State_setFld; apply keeps_State_setFld
  with_reducible apply keeps_with_house; apply keeps_unpowered; assumption; apply keeps_applyRepairLog; apply keeps_bootBoth
  apply keeps_applyStored; apply keeps_State_setFld; apply keeps_State_setFld; apply keeps_State_addFld; apply keeps_State_setFld
  apply keeps_State_setFld; with_reducible apply keeps_with_house; apply keeps_unpowered; assumption

theorem keeps_losePower {W : Part → Prop} [May W .regs] [May W .house] [May W .links] [May W .sites] [May W .swc] [May W .mem]
    [May W .dram] [May W .ten] [May W .sp] [May W .cue] [May W .store] [May W .col] [May W .board] [May W .mail] [May W .power]
    [May W .sec] [May W .keys] [May W .host] [May W .rhs] [May W .spState] [May W .waking] [May W .outbox] {s0 : State} (mv : Nat)
    (open_ : Bool) (s : State) (hk0 : Keeps W s0 s) : Keeps W s0 (losePower mv open_ s) := by
  unfold losePower; dsimp only; with_reducible apply keeps_with_house; apply keeps_State_setFld; apply keeps_unpowered; assumption

theorem keeps_unitsAfterReset {W : Part → Prop} [May W .regs] [May W .spState] {s0 : State} (s : State) (hk0 : Keeps W s0 s)
    : Keeps W s0 (unitsAfterReset s) := by
  unfold unitsAfterReset; dsimp only; apply keeps_ite; assumption; apply keeps_ite; apply keeps_forEach; intro _; intro _; intro _
  apply keeps_setUnit; assumption; assumption; apply keeps_forEach; intro _; intro _; intro _; apply keeps_State_setFld; assumption
  apply keeps_forEach; intro _; intro _; intro _; apply keeps_setUnit; assumption; assumption

theorem keeps_prompterAfterReset {W : Part → Prop} [May W .regs] [May W .board] {s0 : State} (was : Nat) (w : Who) (s : State)
    (hk0 : Keeps W s0 s) : Keeps W s0 (prompterAfterReset was w s) := by
  unfold prompterAfterReset; dsimp only; apply keeps_setPrompter; apply keeps_State_modPrompter; assumption

theorem keeps_clearDomain {W : Part → Prop} [May W .house] [May W .links] [May W .swc] [May W .mem] [May W .dram] [May W .ten] [May W .sp] [May W .cue] [May W .store] [May W .col] [May W .rhs] [May W .spState] [May W .waking] {s0 : State} (pool : Mem) (filter : List Window) (s : State) (hp : Memory.wf s0 = true → Tab.wf (fun _ => 0) pool.dram = true)
    (hk0 : Keeps W s0 s) : Keeps W s0 (clearDomain pool filter s) := by
  refine ⟨hk0.code, hk0.pending, fun hw => ?_, hk0.free, hk0.sent, fun q g => part_trans q (hk0.same q g) ?_⟩
  · have h0 := hp hw
    have := (Memory.wf_iff _).1 (hk0.wf hw)
    exact (Memory.wf_iff _).2 ⟨this.1, h0, rfl, rfl⟩
  · cases q <;> first | exact absurd May.may g | first | exact rfl | exact ⟨rfl, rfl⟩
theorem wf_resetPool {W : Part → Prop} {s0 s : State} (hk0 : Keeps W s0 s) (hw : Memory.wf s0 = true) : Tab.wf (fun _ => 0) (resetPool s).dram = true :=
  Tab.wf_filter _ _ _ ((Memory.wf_iff _).1 (hk0.wf hw)).2.1

theorem keeps_chipReset {W : Part → Prop} [May W .regs] [May W .house] [May W .links] [May W .sites] [May W .swc] [May W .mem]
    [May W .dram] [May W .ten] [May W .sp] [May W .cue] [May W .store] [May W .col] [May W .board] [May W .mail] [May W .sec]
    [May W .host] [May W .rhs] [May W .spState] [May W .waking] {s0 : State} (s : State) (hk0 : Keeps W s0 s) : Keeps W s0
    (chipReset s) := by
  unfold chipReset; dsimp only; apply keeps_unitsAfterReset; apply keeps_forEach; intro _; intro _; intro _; apply keeps_State_raise
  assumption; with_reducible apply keeps_with_host; apply keeps_State_modSec; exact fun _ => ⟨rfl, rfl⟩; apply keeps_State_modMail
  apply keeps_State_modBoard; apply keeps_clearDomain; exact wf_resetPool (by assumption); apply keeps_forEach; intro _; intro _
  intro _; apply keeps_State_setSite; assumption; apply keeps_prompterAfterReset; apply keeps_prompterAfterReset
  apply keeps_State_setFld; apply keeps_State_setFld; apply keeps_State_setFld; apply keeps_refreshCap
  with_reducible apply keeps_with_regs; apply keeps_forEach; intro _; intro _; intro _; apply keeps_resetParty; assumption
  apply keeps_forEach; intro _; intro _; intro _; apply keeps_State_setWord; assumption; apply keeps_resetHostPort
  apply keeps_hostLinkLost; assumption

theorem keeps_resetRelease {W : Part → Prop} [May W .regs] [May W .house] [May W .links] [May W .swc] [May W .mem] [May W .ten]
    [May W .sec] [May W .rhs] [May W .spState] [May W .waking] [May W .outbox] {s0 : State} (slot : Nat) (s : State) (hk0
    : Keeps W s0 s) : Keeps W s0 (resetRelease slot s) := by
  unfold resetRelease; dsimp only; apply keeps_ite; apply keeps_forEach; intro _; intro _; intro _; apply keeps_freshTraining
  assumption; apply keeps_retiredOff; apply keeps_ite; apply keeps_startSlices; apply keeps_bootVerify; apply keeps_applyRepairLog
  with_reducible apply keeps_with_house; apply keeps_State_setFld; assumption; apply keeps_bootVerify; apply keeps_applyRepairLog
  with_reducible apply keeps_with_house; apply keeps_State_setFld; assumption; apply keeps_ite; apply keeps_startSlices
  apply keeps_bootVerify; apply keeps_applyRepairLog; with_reducible apply keeps_with_house; apply keeps_State_setFld; assumption
  apply keeps_bootVerify; apply keeps_applyRepairLog; with_reducible apply keeps_with_house; apply keeps_State_setFld; assumption

theorem keeps_execPowerOn {W : Part → Prop} [May W .regs] [May W .house] [May W .links] [May W .sites] [May W .swc] [May W .mem]
    [May W .dram] [May W .ten] [May W .sp] [May W .cue] [May W .store] [May W .col] [May W .board] [May W .mail] [May W .power]
    [May W .sec] [May W .keys] [May W .host] [May W .rhs] [May W .spState] [May W .waking] [May W .outbox] {s0 : State} (mv : Nat)
    (slot : Fin 4) (ironHigh flowOk : Bool) (s : State) (hk0 : Keeps W s0 s) {tnext : State}
    (ht : execPowerOn mv slot ironHigh flowOk s = .next tnext) : Keeps W s0 tnext := by
  unfold execPowerOn at ht; split at ht; exact nomatch ht; cases ht; apply keeps_ite; apply keeps_powerOn; assumption; assumption

theorem keeps_execInputLoss {W : Part → Prop} [May W .regs] [May W .house] [May W .links] [May W .sites] [May W .swc] [May W .mem]
    [May W .dram] [May W .ten] [May W .sp] [May W .cue] [May W .store] [May W .col] [May W .board] [May W .mail] [May W .power]
    [May W .sec] [May W .keys] [May W .host] [May W .rhs] [May W .spState] [May W .waking] [May W .outbox] {s0 : State} (mv : Nat)
    (s : State) (hk0 : Keeps W s0 s) {tnext : State} (ht : execInputLoss mv s = .next tnext) : Keeps W s0 tnext := by
  unfold execInputLoss at ht; split at ht; exact nomatch ht; cases ht; apply keeps_ite; apply keeps_losePower; assumption; assumption

theorem keeps_powerWarning {W : Part → Prop} [May W .regs] [May W .house] [May W .swc] [May W .ten] [May W .sp] [May W .cue]
    [May W .col] [May W .power] [May W .rhs] [May W .spState] [May W .waking] {s0 : State} (s : State) (hk0 : Keeps W s0 s) : Keeps W s0
    (powerWarning s) := by
  unfold powerWarning; apply keeps_setCause; apply keeps_State_raise; apply keeps_State_setFld; assumption

theorem keeps_execInputUndervoltage {W : Part → Prop} [May W .regs] [May W .house] [May W .swc] [May W .ten] [May W .sp] [May W .cue]
    [May W .col] [May W .power] [May W .rhs] [May W .spState] [May W .waking] {s0 : State} (mv : Nat) (s : State) (hk0 : Keeps W s0 s)
    {tnext : State} (ht : execInputUndervoltage mv s = .next tnext) : Keeps W s0 tnext := by
  unfold execInputUndervoltage at ht; split at ht; exact nomatch ht; cases ht; apply keeps_ite; apply keeps_powerWarning
  apply keeps_State_modPower; apply keeps_State_setFld; assumption; assumption

theorem keeps_execInputOvervoltage {W : Part → Prop} [May W .regs] [May W .house] [May W .links] [May W .sites] [May W .swc]
    [May W .mem] [May W .dram] [May W .ten] [May W .sp] [May W .cue] [May W .store] [May W .col] [May W .board] [May W .mail]
    [May W .power] [May W .sec] [May W .keys] [May W .host] [May W .rhs] [May W .spState] [May W .waking] [May W .outbox] {s0 : State}
    (mv : Nat) (s : State) (hk0 : Keeps W s0 s) {tnext : State} (ht : execInputOvervoltage mv s = .next tnext) : Keeps W s0 tnext := by
  unfold execInputOvervoltage at ht; split at ht; exact nomatch ht; cases ht; apply keeps_ite; apply keeps_losePower; assumption
  assumption

theorem keeps_execOvervoltageExcursionExpiry {W : Part → Prop} [May W .regs] [May W .house] [May W .links] [May W .sites] [May W .swc]
    [May W .mem] [May W .dram] [May W .ten] [May W .sp] [May W .cue] [May W .store] [May W .col] [May W .board] [May W .mail]
    [May W .power] [May W .sec] [May W .keys] [May W .host] [May W .rhs] [May W .spState] [May W .waking] [May W .outbox] {s0 : State}
    (s : State) (hk0 : Keeps W s0 s) {tnext : State} (ht : execOvervoltageExcursionExpiry s = .next tnext) : Keeps W s0 tnext := by
  unfold execOvervoltageExcursionExpiry at ht; cases ht; apply keeps_ite; apply keeps_losePower; assumption; assumption

theorem keeps_reclose {W : Part → Prop} [May W .regs] [May W .house] [May W .links] [May W .sites] [May W .swc] [May W .mem]
    [May W .dram] [May W .ten] [May W .sp] [May W .cue] [May W .store] [May W .col] [May W .board] [May W .mail] [May W .power]
    [May W .sec] [May W .keys] [May W .host] [May W .rhs] [May W .spState] [May W .waking] [May W .outbox] {s0 : State} (mv slot : Nat)
    (ironHigh flowOk : Bool) (s : State) (hk0 : Keeps W s0 s) : Keeps W s0 (reclose mv slot ironHigh flowOk s) := by
  unfold reclose; apply keeps_ite; apply keeps_powerOn; assumption; with_reducible apply keeps_with_house; assumption

theorem keeps_execInputReclose {W : Part → Prop} [May W .regs] [May W .house] [May W .links] [May W .sites] [May W .swc] [May W .mem]
    [May W .dram] [May W .ten] [May W .sp] [May W .cue] [May W .store] [May W .col] [May W .board] [May W .mail] [May W .power]
    [May W .sec] [May W .keys] [May W .host] [May W .rhs] [May W .spState] [May W .waking] [May W .outbox] {s0 : State} (mv : Nat)
    (slot : Fin 4) (ironHigh flowOk : Bool) (s : State) (hk0 : Keeps W s0 s) {tnext : State}
    (ht : execInputReclose mv slot ironHigh flowOk s = .next tnext) : Keeps W s0 tnext := by
  unfold execInputReclose at ht; split at ht; exact nomatch ht; cases ht; apply keeps_ite; apply keeps_reclose; assumption; assumption

theorem keeps_execChipReset {W : Part → Prop} [May W .regs] [May W .house] [May W .links] [May W .sites] [May W .swc] [May W .mem]
    [May W .dram] [May W .ten] [May W .sp] [May W .cue] [May W .store] [May W .col] [May W .board] [May W .mail] [May W .sec]
    [May W .host] [May W .rhs] [May W .spState] [May W .waking] {s0 : State} (s : State) (hk0 : Keeps W s0 s) {tnext : State}
    (ht : execChipReset s = .next tnext) : Keeps W s0 tnext := by
  unfold execChipReset at ht; cases ht; apply keeps_ite; apply keeps_chipReset; assumption; assumption

theorem keeps_execResetRelease {W : Part → Prop} [May W .regs] [May W .house] [May W .links] [May W .swc] [May W .mem] [May W .ten]
    [May W .sec] [May W .rhs] [May W .spState] [May W .waking] [May W .outbox] {s0 : State} (slot : Fin 4) (s : State) (hk0
    : Keeps W s0 s) {tnext : State} (ht : execResetRelease slot s = .next tnext) : Keeps W s0 tnext := by
  unfold execResetRelease at ht; cases ht; apply keeps_ite; apply keeps_resetRelease; assumption; assumption

theorem keeps_execHouseClkLoss {W : Part → Prop} [May W .house] {s0 : State} (s : State) (hk0 : Keeps W s0 s) {tnext : State}
    (ht : execHouseClkLoss s = .next tnext) : Keeps W s0 tnext := by
  unfold execHouseClkLoss at ht; cases ht; apply keeps_ite; with_reducible apply keeps_with_house; assumption; assumption

theorem keeps_execHouseClkReturn {W : Part → Prop} [May W .house] {s0 : State} (s : State) (hk0 : Keeps W s0 s) {tnext : State}
    (ht : execHouseClkReturn s = .next tnext) : Keeps W s0 tnext := by
  unfold execHouseClkReturn at ht; cases ht; apply keeps_ite; with_reducible apply keeps_with_house; assumption; assumption

theorem keeps_bringDown {W : Part → Prop} [May W .regs] [May W .house] [May W .links] [May W .swc] [May W .mem] [May W .ten] [May W .sp]
    [May W .cue] [May W .col] [May W .board] [May W .mail] [May W .power] [May W .host] [May W .rhs] [May W .spState] [May W .waking]
    [May W .outbox] {s0 : State} (cause : Nat) (s : State) (hk0 : Keeps W s0 s) : Keeps W s0 (bringDown cause s) := by
  unfold bringDown; apply keeps_ite; apply keeps_startPowerDown; assumption; assumption

theorem keeps_execHouseClkHoldoverExpiry {W : Part → Prop} [May W .regs] [May W .house] [May W .links] [May W .swc] [May W .mem]
    [May W .ten] [May W .sp] [May W .cue] [May W .col] [May W .board] [May W .mail] [May W .power] [May W .host] [May W .rhs]
    [May W .spState] [May W .waking] [May W .outbox] {s0 : State} (s : State) (hk0 : Keeps W s0 s) {tnext : State}
    (ht : execHouseClkHoldoverExpiry s = .next tnext) : Keeps W s0 tnext := by
  unfold execHouseClkHoldoverExpiry at ht; cases ht; apply keeps_ite; apply keeps_bringDown; apply keeps_State_raise; assumption
  assumption

theorem keeps_execDozeIdleExpiry {W : Part → Prop} [May W .regs] [May W .cue] [May W .spState] {s0 : State} (u : UnitId) (s : State)
    (hk0 : Keeps W s0 s) {tnext : State} (ht : execDozeIdleExpiry u s = .next tnext) : Keeps W s0 tnext := by
  unfold execDozeIdleExpiry at ht; cases ht; apply keeps_ite; apply keeps_sendToSleep; assumption; assumption

theorem keeps_execDarkIdleExpiry {W : Part → Prop} [May W .regs] [May W .cue] [May W .spState] {s0 : State} (u : UnitId) (s : State)
    (hk0 : Keeps W s0 s) {tnext : State} (ht : execDarkIdleExpiry u s = .next tnext) : Keeps W s0 tnext := by
  unfold execDarkIdleExpiry at ht; cases ht; apply keeps_ite; apply keeps_sendToSleep; assumption; assumption

theorem keeps_wakes {W : Part → Prop} [May W .regs] [May W .links] [May W .swc] [May W .ten] [May W .sp] [May W .cue] [May W .col]
    [May W .power] [May W .spState] [May W .waking] {s0 : State} (u : UnitId) (s : State) (hk0 : Keeps W s0 s) : Keeps W s0
    (wakes u s) := by
  unfold wakes; apply keeps_resumeAll; apply keeps_startWaiting; apply keeps_unitWakes; assumption

theorem keeps_execUnitWakeComplete {W : Part → Prop} [May W .regs] [May W .links] [May W .swc] [May W .ten] [May W .sp] [May W .cue]
    [May W .col] [May W .power] [May W .spState] [May W .waking] {s0 : State} (u : UnitId) (s : State) (hk0 : Keeps W s0 s)
    {tnext : State} (ht : execUnitWakeComplete u s = .next tnext) : Keeps W s0 tnext := by
  unfold execUnitWakeComplete at ht; cases ht; apply keeps_ite; apply keeps_wakes; assumption; assumption

theorem keeps_businessLoad {W : Part → Prop} [May W .power] {s0 : State} (demand : Nat) (tiles : List Nat) (s : State) (hk0
    : Keeps W s0 s) : Keeps W s0 (businessLoad demand tiles s) := by
  unfold businessLoad; apply keeps_State_modPower; assumption

theorem keeps_governed {W : Part → Prop} [May W .regs] [May W .power] {s0 : State} (demand mv current paced : Nat) (tiles : List Nat)
    (s : State) (hk0 : Keeps W s0 s) : Keeps W s0 (governed demand mv current paced tiles s) := by
  unfold governed; apply keeps_businessLoad; apply keeps_governorTick; apply keeps_State_setFld; apply keeps_State_setFld; assumption

theorem keeps_execRampGovernorTick {W : Part → Prop} [May W .regs] [May W .power] {s0 : State} (demand mv current : Nat)
    (work : Governed) (s : State) (hk0 : Keeps W s0 s) {tnext : State}
    (ht : execRampGovernorTick demand mv current work s = .next tnext) : Keeps W s0 tnext := by
  unfold execRampGovernorTick at ht; cases ht; apply keeps_ite; apply keeps_governed; assumption; assumption

theorem keeps_execTrayMasterElection {W : Part → Prop} [May W .regs] {s0 : State} (others : BitVec 4) (s : State) (hk0 : Keeps W s0 s)
    {tnext : State} (ht : execTrayMasterElection others s = .next tnext) : Keeps W s0 tnext := by
  unfold execTrayMasterElection at ht; cases ht; apply keeps_ite; apply keeps_elect; assumption; assumption

theorem keeps_execTrayMasterLost {W : Part → Prop} [May W .regs] {s0 : State} (others : BitVec 4) (s : State) (hk0 : Keeps W s0 s)
    {tnext : State} (ht : execTrayMasterLost others s = .next tnext) : Keeps W s0 tnext := by
  unfold execTrayMasterLost at ht; cases ht; apply keeps_ite; apply keeps_elect; assumption; assumption

theorem keeps_grantDie {W : Part → Prop} [May W .house] {s0 : State} (s : State) (hk0 : Keeps W s0 s) : Keeps W s0 (grantDie s) := by
  unfold grantDie; with_reducible apply keeps_with_house; assumption

theorem keeps_execTrayGrant {W : Part → Prop} [May W .house] {s0 : State} (s : State) (hk0 : Keeps W s0 s) {tnext : State}
    (ht : execTrayGrant s = .next tnext) : Keeps W s0 tnext := by
  unfold execTrayGrant at ht; cases ht; apply keeps_ite; apply keeps_grantDie; assumption; assumption

theorem keeps_execGrantTimeout {W : Part → Prop} [May W .house] {s0 : State} (s : State) (hk0 : Keeps W s0 s) {tnext : State}
    (ht : execGrantTimeout s = .next tnext) : Keeps W s0 tnext := by
  unfold execGrantTimeout at ht; cases ht; apply keeps_ite; apply keeps_grantDie; assumption; assumption

theorem keeps_giveGrant {W : Part → Prop} [May W .house] [May W .power] [May W .outbox] {s0 : State} (s : State) (hk0
    : Keeps W s0 s) : Keeps W s0 (giveGrant s) := by
  unfold giveGrant; split; assumption; dsimp only; apply keeps_ite; apply keeps_grantDie; with_reducible apply keeps_with_house
  apply keeps_State_modPower; assumption; apply keeps_emit; with_reducible apply keeps_with_house; apply keeps_State_modPower
  assumption

theorem keeps_execStaggerGrant {W : Part → Prop} [May W .house] [May W .power] [May W .outbox] {s0 : State} (s : State) (hk0
    : Keeps W s0 s) {tnext : State} (ht : execStaggerGrant s = .next tnext) : Keeps W s0 tnext := by
  unfold execStaggerGrant at ht; cases ht; apply keeps_ite; apply keeps_giveGrant; assumption; assumption

theorem keeps_orderOf {W : Part → Prop} [May W .regs] [May W .board] [May W .power] [May W .sec] [May W .host] [May W .outbox]
    {s0 : State} (k : Nat) (s : State) (hk0 : Keeps W s0 s) : Keeps W s0 (orderOf k s) := by
  unfold orderOf; split; assumption; apply keeps_ite; apply keeps_runOrder; assumption; assumption

theorem keeps_execPowerOrderOff {W : Part → Prop} [May W .regs] [May W .board] [May W .power] [May W .sec] [May W .host] [May W .outbox]
    {s0 : State} (s : State) (hk0 : Keeps W s0 s) {tnext : State} (ht : execPowerOrderOff s = .next tnext) : Keeps W s0 tnext := by
  unfold execPowerOrderOff at ht; cases ht; apply keeps_ite; apply keeps_orderOf; assumption; assumption

theorem keeps_execPowerOrderOn {W : Part → Prop} [May W .regs] [May W .board] [May W .power] [May W .sec] [May W .host] [May W .outbox]
    {s0 : State} (s : State) (hk0 : Keeps W s0 s) {tnext : State} (ht : execPowerOrderOn s = .next tnext) : Keeps W s0 tnext := by
  unfold execPowerOrderOn at ht; cases ht; apply keeps_ite; apply keeps_orderOf; assumption; assumption

theorem keeps_execPowerOrderCap {W : Part → Prop} [May W .regs] [May W .board] [May W .power] [May W .sec] [May W .host] [May W .outbox]
    {s0 : State} (s : State) (hk0 : Keeps W s0 s) {tnext : State} (ht : execPowerOrderCap s = .next tnext) : Keeps W s0 tnext := by
  unfold execPowerOrderCap at ht; cases ht; apply keeps_ite; apply keeps_orderOf; assumption; assumption

theorem keeps_execPowerOrderHold {W : Part → Prop} [May W .regs] [May W .board] [May W .power] [May W .sec] [May W .host]
    [May W .outbox] {s0 : State} (s : State) (hk0 : Keeps W s0 s) {tnext : State} (ht : execPowerOrderHold s = .next tnext)
    : Keeps W s0 tnext := by
  unfold execPowerOrderHold at ht; cases ht; apply keeps_ite; apply keeps_orderOf; assumption; assumption

theorem keeps_execPowerOrderRelease {W : Part → Prop} [May W .regs] [May W .board] [May W .power] [May W .sec] [May W .host]
    [May W .outbox] {s0 : State} (s : State) (hk0 : Keeps W s0 s) {tnext : State} (ht : execPowerOrderRelease s = .next tnext)
    : Keeps W s0 tnext := by
  unfold execPowerOrderRelease at ht; cases ht; apply keeps_ite; apply keeps_orderOf; assumption; assumption

theorem keeps_startPowerUp {W : Part → Prop} [May W .regs] [May W .power] {s0 : State} (s : State) (hk0 : Keeps W s0 s) : Keeps W s0
    (startPowerUp s) := by
  unfold startPowerUp; apply keeps_enableNext; apply keeps_State_setFld; assumption

theorem keeps_execDiePowerUp {W : Part → Prop} [May W .regs] [May W .power] {s0 : State} (s : State) (hk0 : Keeps W s0 s)
    {tnext : State} (ht : execDiePowerUp s = .next tnext) : Keeps W s0 tnext := by
  unfold execDiePowerUp at ht; cases ht; apply keeps_ite; apply keeps_startPowerUp; assumption; assumption

theorem keeps_riseAll {W : Part → Prop} [May W .regs] [May W .house] [May W .links] [May W .sites] [May W .swc] [May W .ten] [May W .sp]
    [May W .cue] [May W .col] [May W .power] [May W .rhs] [May W .spState] [May W .waking] [May W .outbox] {s0 : State} (s : State)
    (hk0 : Keeps W s0 s) : Keeps W s0 (riseAll s) := by
  unfold riseAll; apply keeps_settleSites; apply keeps_dieRises; assumption

theorem keeps_dieRailGood {W : Part → Prop} [May W .regs] [May W .house] [May W .links] [May W .sites] [May W .swc] [May W .ten]
    [May W .sp] [May W .cue] [May W .col] [May W .power] [May W .rhs] [May W .spState] [May W .waking] [May W .outbox] {s0 : State}
    (b : Nat) (s : State) (hk0 : Keeps W s0 s) : Keeps W s0 (dieRailGood b s) := by
  unfold dieRailGood; dsimp only; apply keeps_ite; apply keeps_riseAll; apply keeps_State_raise; assumption; apply keeps_ite
  apply keeps_enableNext; apply keeps_State_raise; assumption; apply keeps_State_raise; assumption

theorem keeps_prompterRailGood {W : Part → Prop} [May W .regs] {s0 : State} (w : Who) (s : State) (hk0 : Keeps W s0 s) : Keeps W s0
    (prompterRailGood w s) := by
  unfold prompterRailGood; dsimp only; apply keeps_ite; apply keeps_setPrompter; apply keeps_State_raise; assumption
  apply keeps_State_raise; assumption

theorem keeps_railGood {W : Part → Prop} [May W .regs] [May W .house] [May W .links] [May W .sites] [May W .swc] [May W .ten]
    [May W .sp] [May W .cue] [May W .col] [May W .power] [May W .rhs] [May W .spState] [May W .waking] [May W .outbox] {s0 : State}
    (r : Rail) (s : State) (hk0 : Keeps W s0 s) : Keeps W s0 (railGood r s) := by
  unfold railGood; split; apply keeps_State_raise; assumption; apply keeps_prompterRailGood; assumption; apply keeps_prompterRailGood
  assumption; apply keeps_ite; apply keeps_dieRailGood; assumption; assumption

theorem keeps_execRailPowerGood {W : Part → Prop} [May W .regs] [May W .house] [May W .links] [May W .sites] [May W .swc] [May W .ten]
    [May W .sp] [May W .cue] [May W .col] [May W .power] [May W .rhs] [May W .spState] [May W .waking] [May W .outbox] {s0 : State}
    (r : Rail) (s : State) (hk0 : Keeps W s0 s) {tnext : State} (ht : execRailPowerGood r s = .next tnext) : Keeps W s0 tnext := by
  unfold execRailPowerGood at ht; cases ht; apply keeps_ite; apply keeps_railGood; assumption; assumption

theorem keeps_execRailTimeout {W : Part → Prop} [May W .regs] [May W .house] [May W .links] [May W .swc] [May W .mem] [May W .ten]
    [May W .sp] [May W .cue] [May W .col] [May W .board] [May W .mail] [May W .power] [May W .host] [May W .rhs] [May W .spState]
    [May W .waking] [May W .outbox] {s0 : State} (r : Rail) (s : State) (hk0 : Keeps W s0 s) {tnext : State}
    (ht : execRailTimeout r s = .next tnext) : Keeps W s0 tnext := by
  unfold execRailTimeout at ht; cases ht; apply keeps_ite; apply keeps_startPowerDown; apply keeps_State_raise; assumption; assumption

theorem keeps_execDiePowerDown {W : Part → Prop} [May W .regs] [May W .house] [May W .links] [May W .swc] [May W .mem] [May W .ten]
    [May W .sp] [May W .cue] [May W .col] [May W .board] [May W .mail] [May W .power] [May W .host] [May W .rhs] [May W .spState]
    [May W .waking] [May W .outbox] {s0 : State} (s : State) (hk0 : Keeps W s0 s) {tnext : State}
    (ht : execDiePowerDown s = .next tnext) : Keeps W s0 tnext := by
  unfold execDiePowerDown at ht; cases ht; apply keeps_ite; apply keeps_startPowerDown; assumption; assumption

theorem keeps_execDiePowerDownComplete {W : Part → Prop} [May W .regs] [May W .house] [May W .links] [May W .sites] [May W .swc]
    [May W .mem] [May W .dram] [May W .ten] [May W .sp] [May W .cue] [May W .store] [May W .col] [May W .power] [May W .spState]
    [May W .waking] {s0 : State} (s : State) (hk0 : Keeps W s0 s) {tnext : State} (ht : execDiePowerDownComplete s = .next tnext)
    : Keeps W s0 tnext := by
  unfold execDiePowerDownComplete at ht; cases ht; apply keeps_ite; apply keeps_State_setFld; apply keeps_loseDie; assumption
  assumption

theorem keeps_execPwrWarnFall {W : Part → Prop} [May W .regs] [May W .house] [May W .swc] [May W .ten] [May W .sp] [May W .cue]
    [May W .col] [May W .power] [May W .rhs] [May W .spState] [May W .waking] {s0 : State} (s : State) (hk0 : Keeps W s0 s)
    {tnext : State} (ht : execPwrWarnFall s = .next tnext) : Keeps W s0 tnext := by
  unfold execPwrWarnFall at ht; cases ht; apply keeps_ite; apply keeps_powerWarning; apply keeps_State_modPower; assumption; assumption

theorem keeps_execPwrWarnClear {W : Part → Prop} [May W .regs] [May W .house] [May W .power] {s0 : State} (s : State) (hk0
    : Keeps W s0 s) {tnext : State} (ht : execPwrWarnClear s = .next tnext) : Keeps W s0 tnext := by
  unfold execPwrWarnClear at ht; cases ht; apply keeps_ite; apply keeps_clearCause; apply keeps_State_modPower; assumption; assumption

theorem keeps_flowFalls {W : Part → Prop} [May W .regs] [May W .house] [May W .swc] [May W .ten] [May W .sp] [May W .cue] [May W .col]
    [May W .power] [May W .rhs] [May W .spState] [May W .waking] {s0 : State} (s : State) (hk0 : Keeps W s0 s) : Keeps W s0
    (flowFalls s) := by
  unfold flowFalls; dsimp only; apply keeps_setCause; apply keeps_ite; apply keeps_State_raise; apply keeps_State_setFld; assumption
  apply keeps_State_modPower; apply keeps_State_raise; apply keeps_State_raise; apply keeps_State_setFld; assumption

theorem keeps_execFlowLoss {W : Part → Prop} [May W .regs] [May W .house] [May W .swc] [May W .ten] [May W .sp] [May W .cue]
    [May W .col] [May W .power] [May W .rhs] [May W .spState] [May W .waking] {s0 : State} (s : State) (hk0 : Keeps W s0 s)
    {tnext : State} (ht : execFlowLoss s = .next tnext) : Keeps W s0 tnext := by
  unfold execFlowLoss at ht; cases ht; apply keeps_ite; apply keeps_flowFalls; assumption; assumption

theorem keeps_execFlowClear {W : Part → Prop} [May W .regs] [May W .house] [May W .power] {s0 : State} (s : State) (hk0 : Keeps W s0 s)
    {tnext : State} (ht : execFlowClear s = .next tnext) : Keeps W s0 tnext := by
  unfold execFlowClear at ht; cases ht; apply keeps_ite; apply keeps_clearCause; apply keeps_State_raise; assumption; assumption

theorem keeps_flowGraceEnds {W : Part → Prop} [May W .regs] [May W .house] [May W .links] [May W .swc] [May W .mem] [May W .ten]
    [May W .sp] [May W .cue] [May W .col] [May W .board] [May W .mail] [May W .power] [May W .host] [May W .rhs] [May W .spState]
    [May W .waking] [May W .outbox] {s0 : State} (high : Bool) (s : State) (hk0 : Keeps W s0 s) : Keeps W s0 (flowGraceEnds high s) := by
  unfold flowGraceEnds; dsimp only; apply keeps_ite; apply keeps_State_setFld; apply keeps_State_setFld; assumption
  apply keeps_bringDown; apply keeps_State_raise; apply keeps_State_setFld; apply keeps_State_setFld; assumption

theorem keeps_execFlowGraceExpiry {W : Part → Prop} [May W .regs] [May W .house] [May W .links] [May W .swc] [May W .mem] [May W .ten]
    [May W .sp] [May W .cue] [May W .col] [May W .board] [May W .mail] [May W .power] [May W .host] [May W .rhs] [May W .spState]
    [May W .waking] [May W .outbox] {s0 : State} (high : Bool) (s : State) (hk0 : Keeps W s0 s) {tnext : State}
    (ht : execFlowGraceExpiry high s = .next tnext) : Keeps W s0 tnext := by
  unfold execFlowGraceExpiry at ht; cases ht; apply keeps_ite; apply keeps_flowGraceEnds; assumption; assumption

theorem keeps_execGhostLightHoldExpiry {W : Part → Prop} [May W .regs] [May W .house] [May W .rhs] [May W .spState] [May W .waking]
    {s0 : State} (s : State) (hk0 : Keeps W s0 s) {tnext : State} (ht : execGhostLightHoldExpiry s = .next tnext) : Keeps W s0 tnext := by
  unfold execGhostLightHoldExpiry at ht; cases ht; apply keeps_ite; apply keeps_leaveGhost; assumption; assumption

theorem keeps_execRmHeartbeatTimeout {W : Part → Prop} [May W .regs] [May W .power] {s0 : State} (s : State) (hk0 : Keeps W s0 s)
    {tnext : State} (ht : execRmHeartbeatTimeout s = .next tnext) : Keeps W s0 tnext := by
  unfold execRmHeartbeatTimeout at ht; cases ht; apply keeps_ite; apply keeps_State_raise; apply keeps_State_modPower; assumption
  assumption

theorem keeps_execRmFallback {W : Part → Prop} [May W .regs] {s0 : State} (s : State) (hk0 : Keeps W s0 s) {tnext : State}
    (ht : execRmFallback s = .next tnext) : Keeps W s0 tnext := by
  unfold execRmFallback at ht; cases ht; apply keeps_ite; apply keeps_refreshCap; apply keeps_State_raise; apply keeps_State_raise
  assumption; assumption

theorem keeps_execDiodeSample {W : Part → Prop} [May W .regs] [May W .house] [May W .links] [May W .sites] [May W .swc] [May W .mem]
    [May W .dram] [May W .ten] [May W .sp] [May W .cue] [May W .store] [May W .col] [May W .board] [May W .mail] [May W .power]
    [May W .host] [May W .rhs] [May W .spState] [May W .waking] [May W .outbox] {s0 : State} (readings : List (Fin 4096)) (s : State)
    (hk0 : Keeps W s0 s) {tnext : State} (ht : execDiodeSample readings s = .next tnext) : Keeps W s0 tnext := by
  unfold execDiodeSample at ht; cases ht; apply keeps_ite; apply keeps_diodeSample; assumption; assumption

theorem keeps_execThermalLevelFall {W : Part → Prop} [May W .regs] [May W .house] [May W .swc] [May W .ten] [May W .sp] [May W .cue]
    [May W .col] [May W .power] [May W .rhs] [May W .spState] [May W .waking] {s0 : State} (w : Fin 4) (s : State) (hk0 : Keeps W s0 s)
    {tnext : State} (ht : execThermalLevelFall w s = .next tnext) : Keeps W s0 tnext := by
  unfold execThermalLevelFall at ht; cases ht; apply keeps_ite; apply keeps_levelFalls; assumption; assumption

theorem keeps_checkDiodes {W : Part → Prop} [May W .regs] [May W .board] [May W .power] {s0 : State} (models : List Nat) (s : State)
    (hk0 : Keeps W s0 s) : Keeps W s0 (checkDiodes models s) := by
  unfold checkDiodes; dsimp only; apply keeps_forEach; intro _; intro _; intro _; apply keeps_checkDiode; assumption
  apply keeps_forEach; intro _; intro _; intro _; apply keeps_State_setFld; assumption; assumption

theorem keeps_execDiodeCheck {W : Part → Prop} [May W .regs] [May W .board] [May W .power] {s0 : State} (models : List (Fin 4096))
    (s : State) (hk0 : Keeps W s0 s) {tnext : State} (ht : execDiodeCheck models s = .next tnext) : Keeps W s0 tnext := by
  unfold execDiodeCheck at ht; cases ht; apply keeps_ite; apply keeps_checkDiodes; assumption; assumption

theorem keeps_execColdPlateSample {W : Part → Prop} [May W .regs] [May W .house] [May W .swc] [May W .ten] [May W .sp] [May W .cue]
    [May W .col] [May W .power] [May W .host] [May W .rhs] [May W .spState] [May W .waking] [May W .outbox] {s0 : State}
    (inlet outlet : Fin 4096) (s : State) (hk0 : Keeps W s0 s) {tnext : State}
    (ht : execColdPlateSample inlet outlet s = .next tnext) : Keeps W s0 tnext := by
  unfold execColdPlateSample at ht; cases ht; apply keeps_ite; apply keeps_coldSample; assumption; assumption

theorem keeps_execLeakWet {W : Part → Prop} [May W .regs] [May W .house] [May W .swc] [May W .ten] [May W .sp] [May W .cue] [May W .col]
    [May W .power] [May W .host] [May W .rhs] [May W .spState] [May W .waking] [May W .outbox] {s0 : State} (s : State) (hk0
    : Keeps W s0 s) {tnext : State} (ht : execLeakWet s = .next tnext) : Keeps W s0 tnext := by
  unfold execLeakWet at ht; cases ht; apply keeps_ite; apply keeps_becomeWet; assumption; assumption

theorem keeps_leakTested {W : Part → Prop} [May W .regs] [May W .house] [May W .swc] [May W .ten] [May W .sp] [May W .cue] [May W .col]
    [May W .power] [May W .host] [May W .rhs] [May W .spState] [May W .waking] [May W .outbox] {s0 : State} (returns wet : Bool)
    (s : State) (hk0 : Keeps W s0 s) : Keeps W s0 (leakTested returns wet s) := by
  unfold leakTested; dsimp only; apply keeps_ite; apply keeps_becomeLost; apply keeps_State_setFld; assumption; apply keeps_ite
  apply keeps_State_setFld; assumption; apply keeps_State_setFld; apply keeps_State_setFld; assumption

theorem keeps_execLeakTest {W : Part → Prop} [May W .regs] [May W .house] [May W .swc] [May W .ten] [May W .sp] [May W .cue]
    [May W .col] [May W .power] [May W .host] [May W .rhs] [May W .spState] [May W .waking] [May W .outbox] {s0 : State}
    (returns wet : Bool) (s : State) (hk0 : Keeps W s0 s) {tnext : State} (ht : execLeakTest returns wet s = .next tnext)
    : Keeps W s0 tnext := by
  unfold execLeakTest at ht; cases ht; apply keeps_ite; apply keeps_leakTested; assumption; assumption

theorem keeps_execLeakGraceExpiry {W : Part → Prop} [May W .regs] [May W .house] [May W .links] [May W .swc] [May W .mem] [May W .ten]
    [May W .sp] [May W .cue] [May W .col] [May W .board] [May W .mail] [May W .power] [May W .host] [May W .rhs] [May W .spState]
    [May W .waking] [May W .outbox] {s0 : State} (s : State) (hk0 : Keeps W s0 s) {tnext : State}
    (ht : execLeakGraceExpiry s = .next tnext) : Keeps W s0 tnext := by
  unfold execLeakGraceExpiry at ht; cases ht; apply keeps_ite; apply keeps_bringDown; apply keeps_State_raise; assumption; assumption

theorem keeps_ironPinLow {W : Part → Prop} [May W .regs] [May W .house] [May W .links] [May W .sites] [May W .swc] [May W .mem]
    [May W .dram] [May W .ten] [May W .sp] [May W .cue] [May W .store] [May W .col] [May W .board] [May W .mail] [May W .power]
    [May W .host] [May W .rhs] [May W .spState] [May W .waking] [May W .outbox] {s0 : State} (s : State) (hk0 : Keeps W s0 s)
    : Keeps W s0 (ironPinLow s) := by
  unfold ironPinLow; dsimp only; apply keeps_ite; apply keeps_State_setFld; assumption; apply keeps_tripIron; apply keeps_State_setFld
  assumption

theorem keeps_execIronTrip {W : Part → Prop} [May W .regs] [May W .house] [May W .links] [May W .sites] [May W .swc] [May W .mem]
    [May W .dram] [May W .ten] [May W .sp] [May W .cue] [May W .store] [May W .col] [May W .board] [May W .mail] [May W .power]
    [May W .host] [May W .rhs] [May W .spState] [May W .waking] [May W .outbox] {s0 : State} (s : State) (hk0 : Keeps W s0 s)
    {tnext : State} (ht : execIronTrip s = .next tnext) : Keeps W s0 tnext := by
  unfold execIronTrip at ht; cases ht; apply keeps_ite; apply keeps_ironPinLow; assumption; assumption

theorem keeps_clearBy {W : Part → Prop} [May W .regs] [May W .house] [May W .board] [May W .power] [May W .sec] [May W .host]
    [May W .outbox] {s0 : State} (b : Nat) (s : State) (hk0 : Keeps W s0 s) : Keeps W s0 (clearBy b s) := by
  unfold clearBy; split; assumption; apply keeps_ite; apply keeps_runSafety; assumption; assumption

theorem keeps_execIronClear {W : Part → Prop} [May W .regs] [May W .house] [May W .board] [May W .power] [May W .sec] [May W .host]
    [May W .outbox] {s0 : State} (ironHigh : Bool) (s : State) (hk0 : Keeps W s0 s) {tnext : State}
    (ht : execIronClear ironHigh s = .next tnext) : Keeps W s0 tnext := by
  unfold execIronClear at ht; cases ht; apply keeps_ite; apply keeps_clearBy; apply keeps_State_setFld; assumption; assumption

theorem keeps_execLeakClear {W : Part → Prop} [May W .regs] [May W .house] [May W .board] [May W .power] [May W .sec] [May W .host]
    [May W .outbox] {s0 : State} (s : State) (hk0 : Keeps W s0 s) {tnext : State} (ht : execLeakClear s = .next tnext)
    : Keeps W s0 tnext := by
  unfold execLeakClear at ht; cases ht; apply keeps_ite; apply keeps_clearBy; assumption; assumption

theorem keeps_execDiodesClear {W : Part → Prop} [May W .regs] [May W .house] [May W .board] [May W .power] [May W .sec] [May W .host]
    [May W .outbox] {s0 : State} (s : State) (hk0 : Keeps W s0 s) {tnext : State} (ht : execDiodesClear s = .next tnext)
    : Keeps W s0 tnext := by
  unfold execDiodesClear at ht; cases ht; apply keeps_ite; apply keeps_clearBy; assumption; assumption

theorem keeps_capGo {W : Part → Prop} [May W .regs] [May W .board] [May W .sec] [May W .host] [May W .outbox] {s0 : State} (n : Nat)
    (s : State) (hk0 : Keeps W s0 s) : Keeps W s0 (capGo n s) := by
  unfold capGo; apply keeps_ite; apply keeps_State_raise; assumption; apply keeps_arriveCapsule; apply keeps_State_raise; assumption

theorem keeps_capWindow {W : Part → Prop} [May W .sec] {s0 : State} (off : Nat) (bytes : List Byte) (s : State) (hk0
    : Keeps W s0 s) : Keeps W s0 (capWindow off bytes s) := by
  unfold capWindow; apply keeps_State_modSec; exact fun _ => ⟨rfl, rfl⟩; assumption

theorem keeps_receiveCapsule {W : Part → Prop} [May W .regs] [May W .board] [May W .sec] [May W .host] [May W .outbox] {s0 : State}
    (via : Transport) (bytes : List Byte) (s : State) (hk0 : Keeps W s0 s) : Keeps W s0 (receiveCapsule via bytes s) := by
  unfold receiveCapsule; split; apply keeps_capGo; apply keeps_capWindow; assumption; apply keeps_orRelay; intro _; intro _
  apply keeps_ite; apply keeps_arriveCapsule; assumption; assumption; assumption

theorem keeps_execCapsuleReceive {W : Part → Prop} [May W .regs] [May W .board] [May W .sec] [May W .host] [May W .outbox] {s0 : State}
    (via : Transport) (bytes : List Byte) (s : State) (hk0 : Keeps W s0 s) {tnext : State}
    (ht : execCapsuleReceive via bytes s = .next tnext) : Keeps W s0 tnext := by
  unfold execCapsuleReceive at ht; cases ht; apply keeps_ite; apply keeps_receiveCapsule; assumption; assumption

theorem keeps_counterStored {W : Part → Prop} [May W .regs] [May W .board] [May W .power] [May W .sec] [May W .host] [May W .outbox]
    {s0 : State} (ok : Bool) (c : Capsule) (s : State) (hk0 : Keeps W s0 s) : Keeps W s0 (counterStored ok c s) := by
  unfold counterStored; apply keeps_ite; apply keeps_acceptCapsule; assumption; dsimp only; apply keeps_judgeOn; apply keeps_complete
  apply keeps_State_raise; apply keeps_State_modSec; exact fun _ => ⟨rfl, rfl⟩; assumption

theorem keeps_execCounterStoreComplete {W : Part → Prop} [May W .regs] [May W .board] [May W .power] [May W .sec] [May W .host]
    [May W .outbox] {s0 : State} (ok : Bool) (s : State) (hk0 : Keeps W s0 s) {tnext : State}
    (ht : execCounterStoreComplete ok s = .next tnext) : Keeps W s0 tnext := by
  unfold execCounterStoreComplete at ht; cases ht; split; apply keeps_ite; apply keeps_counterStored; assumption; assumption; assumption

theorem keeps_endHolds {W : Part → Prop} [May W .sec] {s0 : State} (via : Transport) (s : State) (hk0 : Keeps W s0 s) : Keeps W s0
    (endHolds via s) := by
  unfold endHolds; apply keeps_State_modSec; exact fun _ => ⟨rfl, rfl⟩; assumption

theorem keeps_execAuthHoldExpiry {W : Part → Prop} [May W .sec] {s0 : State} (via : Transport) (s : State) (hk0 : Keeps W s0 s)
    {tnext : State} (ht : execAuthHoldExpiry via s = .next tnext) : Keeps W s0 tnext := by
  unfold execAuthHoldExpiry at ht; cases ht; apply keeps_ite; apply keeps_endHolds; assumption; assumption

theorem keeps_carryOut {W : Part → Prop} {s0 : State} (kind : Nat) (run : Capsule → State → State) (s : State)
    (hf_run : ∀ x0 x1, Keeps W s0 x1 → Keeps W s0 (run x0 x1)) (hk0 : Keeps W s0 s) : Keeps W s0 (carryOut kind run s) := by
  unfold carryOut; split; assumption; apply hf_run; assumption

theorem keeps_execSafetyConfig {W : Part → Prop} [May W .regs] [May W .house] [May W .board] [May W .power] [May W .sec] [May W .host]
    [May W .outbox] {s0 : State} (s : State) (hk0 : Keeps W s0 s) {tnext : State} (ht : execSafetyConfig s = .next tnext)
    : Keeps W s0 tnext := by
  unfold execSafetyConfig at ht; cases ht; apply keeps_ite; apply keeps_carryOut; intro _; intro _; intro _; apply keeps_runSafety
  assumption; assumption; assumption

theorem keeps_execKeyInstall {W : Part → Prop} [May W .regs] [May W .board] [May W .sec] [May W .keys] [May W .host] [May W .outbox]
    {s0 : State} (s : State) (hk0 : Keeps W s0 s) {tnext : State} (ht : execKeyInstall s = .next tnext) : Keeps W s0 tnext := by
  unfold execKeyInstall at ht; cases ht; apply keeps_ite; apply keeps_carryOut; intro _; intro _; intro _; apply keeps_runInstall
  assumption; assumption; assumption

theorem keeps_execKeyClear {W : Part → Prop} [May W .regs] [May W .board] [May W .sec] [May W .keys] [May W .host] [May W .outbox]
    {s0 : State} (s : State) (hk0 : Keeps W s0 s) {tnext : State} (ht : execKeyClear s = .next tnext) : Keeps W s0 tnext := by
  unfold execKeyClear at ht; cases ht; apply keeps_ite; apply keeps_carryOut; intro _; intro _; intro _; apply keeps_runClear
  assumption; assumption; assumption

theorem keeps_execActSwap {W : Part → Prop} [May W .regs] [May W .swc] [May W .board] [May W .sec] [May W .host] [May W .outbox]
    {s0 : State} (s : State) (hk0 : Keeps W s0 s) {tnext : State} (ht : execActSwap s = .next tnext) : Keeps W s0 tnext := by
  unfold execActSwap at ht; cases ht; apply keeps_ite; apply keeps_carryOut; intro _; intro _; intro _; apply keeps_runActSwap
  assumption; assumption; assumption

theorem keeps_execPlanCommit {W : Part → Prop} [May W .regs] [May W .swc] [May W .board] [May W .sec] [May W .host] [May W .outbox]
    {s0 : State} (s : State) (hk0 : Keeps W s0 s) {tnext : State} (ht : execPlanCommit s = .next tnext) : Keeps W s0 tnext := by
  unfold execPlanCommit at ht; cases ht; apply keeps_ite; apply keeps_carryOut; intro _; intro _; intro _; apply keeps_runPlan
  assumption; assumption; assumption

theorem keeps_phaseOf {W : Part → Prop} [May W .regs] [May W .board] [May W .sec] [May W .host] [May W .outbox] {s0 : State} (k : Nat)
    (s : State) (hk0 : Keeps W s0 s) : Keeps W s0 (phaseOf k s) := by
  unfold phaseOf; apply keeps_carryOut; intro _; intro _; intro _; apply keeps_ite; apply keeps_runFw; assumption; assumption
  assumption

theorem keeps_execFwUpdateOpen {W : Part → Prop} [May W .regs] [May W .board] [May W .sec] [May W .host] [May W .outbox] {s0 : State}
    (s : State) (hk0 : Keeps W s0 s) {tnext : State} (ht : execFwUpdateOpen s = .next tnext) : Keeps W s0 tnext := by
  unfold execFwUpdateOpen at ht; cases ht; apply keeps_ite; apply keeps_phaseOf; assumption; assumption

theorem keeps_execFwUpdateVerify {W : Part → Prop} [May W .regs] [May W .board] [May W .sec] [May W .host] [May W .outbox] {s0 : State}
    (s : State) (hk0 : Keeps W s0 s) {tnext : State} (ht : execFwUpdateVerify s = .next tnext) : Keeps W s0 tnext := by
  unfold execFwUpdateVerify at ht; cases ht; apply keeps_ite; apply keeps_phaseOf; assumption; assumption

theorem keeps_execFwUpdateActivate {W : Part → Prop} [May W .regs] [May W .board] [May W .sec] [May W .host] [May W .outbox]
    {s0 : State} (s : State) (hk0 : Keeps W s0 s) {tnext : State} (ht : execFwUpdateActivate s = .next tnext) : Keeps W s0 tnext := by
  unfold execFwUpdateActivate at ht; cases ht; apply keeps_ite; apply keeps_phaseOf; assumption; assumption

theorem keeps_execFwUpdateRaiseSvn {W : Part → Prop} [May W .regs] [May W .board] [May W .sec] [May W .host] [May W .outbox]
    {s0 : State} (s : State) (hk0 : Keeps W s0 s) {tnext : State} (ht : execFwUpdateRaiseSvn s = .next tnext) : Keeps W s0 tnext := by
  unfold execFwUpdateRaiseSvn at ht; cases ht; apply keeps_ite; apply keeps_phaseOf; assumption; assumption

theorem keeps_execFwUpdateAbort {W : Part → Prop} [May W .regs] [May W .board] [May W .sec] [May W .host] [May W .outbox] {s0 : State}
    (s : State) (hk0 : Keeps W s0 s) {tnext : State} (ht : execFwUpdateAbort s = .next tnext) : Keeps W s0 tnext := by
  unfold execFwUpdateAbort at ht; cases ht; apply keeps_ite; apply keeps_phaseOf; assumption; assumption

theorem keeps_fwWindow {W : Part → Prop} [May W .regs] [May W .sec] {s0 : State} (off : Nat) (bytes : List Byte) (s : State) (hk0
    : Keeps W s0 s) : Keeps W s0 (fwWindow off bytes s) := by
  unfold fwWindow; apply keeps_ite; apply keeps_fwBytes; assumption; apply keeps_State_raise; assumption

theorem keeps_execFwWindowWrite {W : Part → Prop} [May W .regs] [May W .sec] {s0 : State} (off : Fin 65536) (bytes : List Byte)
    (s : State) (hk0 : Keeps W s0 s) {tnext : State} (ht : execFwWindowWrite off bytes s = .next tnext) : Keeps W s0 tnext := by
  unfold execFwWindowWrite at ht; cases ht; apply keeps_ite; apply keeps_fwWindow; assumption; assumption

theorem keeps_execBootVerify {W : Part → Prop} [May W .regs] [May W .sec] {s0 : State} (s : State) (hk0 : Keeps W s0 s) {tnext : State}
    (ht : execBootVerify s = .next tnext) : Keeps W s0 tnext := by
  unfold execBootVerify at ht; cases ht; apply keeps_ite; apply keeps_bootVerify; assumption; assumption

theorem keeps_answerSpdm {W : Part → Prop} [May W .outbox] {s0 : State} (p : Port) (code : Nat) (data : List Byte) (s : State)
    (hk0 : Keeps W s0 s) : Keeps W s0 (answerSpdm p code data s) := by
  unfold answerSpdm; apply keeps_ite; apply keeps_emit; assumption; assumption

theorem keeps_execSpdmGetVersion {W : Part → Prop} [May W .outbox] {s0 : State} (p : Port) (request : List Byte) (s : State) (hk0
    : Keeps W s0 s) {tnext : State} (ht : execSpdmGetVersion p request s = .next tnext) : Keeps W s0 tnext := by
  unfold execSpdmGetVersion at ht; cases ht; apply keeps_ite; apply keeps_orRelay; intro _; intro _; apply keeps_answerSpdm; assumption
  assumption; assumption

theorem keeps_execSpdmGetCapabilities {W : Part → Prop} [May W .outbox] {s0 : State} (p : Port) (request : List Byte) (s : State)
    (hk0 : Keeps W s0 s) {tnext : State} (ht : execSpdmGetCapabilities p request s = .next tnext) : Keeps W s0 tnext := by
  unfold execSpdmGetCapabilities at ht; cases ht; apply keeps_ite; apply keeps_orRelay; intro _; intro _; apply keeps_answerSpdm
  assumption; assumption; assumption

theorem keeps_execSpdmNegotiateAlgorithms {W : Part → Prop} [May W .outbox] {s0 : State} (p : Port) (request : List Byte) (s : State)
    (hk0 : Keeps W s0 s) {tnext : State} (ht : execSpdmNegotiateAlgorithms p request s = .next tnext) : Keeps W s0 tnext := by
  unfold execSpdmNegotiateAlgorithms at ht; cases ht; apply keeps_ite; apply keeps_orRelay; intro _; intro _; apply keeps_answerSpdm
  assumption; assumption; assumption

theorem keeps_execSpdmGetDigests {W : Part → Prop} [May W .outbox] {s0 : State} (p : Port) (request : List Byte) (s : State) (hk0
    : Keeps W s0 s) {tnext : State} (ht : execSpdmGetDigests p request s = .next tnext) : Keeps W s0 tnext := by
  unfold execSpdmGetDigests at ht; cases ht; apply keeps_ite; apply keeps_orRelay; intro _; intro _; apply keeps_answerSpdm; assumption
  assumption; assumption

theorem keeps_sendCertificate {W : Part → Prop} [May W .outbox] {s0 : State} (p : Port) (slot off len : Nat) (s : State) (hk0
    : Keeps W s0 s) : Keeps W s0 (sendCertificate p slot off len s) := by
  unfold sendCertificate; apply keeps_ite; apply keeps_answerSpdm; assumption; dsimp only; apply keeps_answerSpdm; assumption

theorem keeps_execSpdmGetCertificate {W : Part → Prop} [May W .outbox] {s0 : State} (p : Port) (slot : Fin 8) (off len : Fin 65536)
    (s : State) (hk0 : Keeps W s0 s) {tnext : State} (ht : execSpdmGetCertificate p slot off len s = .next tnext) : Keeps W s0 tnext := by
  unfold execSpdmGetCertificate at ht; cases ht; apply keeps_ite; apply keeps_orRelay; intro _; intro _; apply keeps_sendCertificate
  assumption; assumption; assumption

theorem keeps_sendMeasurements {W : Part → Prop} [May W .outbox] {s0 : State} (p : Port) (index : Nat) (sign : Bool)
    (transcript : List Byte) (s : State) (hk0 : Keeps W s0 s) : Keeps W s0 (sendMeasurements p index sign transcript s) := by
  unfold sendMeasurements; split; apply keeps_answerSpdm; assumption; dsimp only; apply keeps_answerSpdm; assumption

theorem keeps_execSpdmGetMeasurements {W : Part → Prop} [May W .outbox] {s0 : State} (p : Port) (index : Fin 256) (sign : Bool)
    (transcript : List Byte) (s : State) (hk0 : Keeps W s0 s) {tnext : State}
    (ht : execSpdmGetMeasurements p index sign transcript s = .next tnext) : Keeps W s0 tnext := by
  unfold execSpdmGetMeasurements at ht; cases ht; apply keeps_ite; apply keeps_orRelay; intro _; intro _; apply keeps_sendMeasurements
  assumption; assumption; assumption

theorem keeps_execSpdmUnsupported {W : Part → Prop} [May W .outbox] {s0 : State} (p : Port) (code : Fin 256) (s : State) (hk0
    : Keeps W s0 s) {tnext : State} (ht : execSpdmUnsupported p code s = .next tnext) : Keeps W s0 tnext := by
  unfold execSpdmUnsupported at ht; cases ht; apply keeps_ite; apply keeps_orRelay; intro _; intro _; apply keeps_answerSpdm; assumption
  assumption; assumption

theorem keeps_hostUp {W : Part → Prop} [May W .regs] [May W .house] [May W .host] {s0 : State} (offer : HostMode) (rate32 : Bool)
    (width : Nat) (s : State) (hk0 : Keeps W s0 s) : Keeps W s0 (hostUp offer rate32 width s) := by
  unfold hostUp; dsimp only; apply keeps_State_modHost; apply keeps_State_setFld; apply keeps_State_setFld; apply keeps_State_setFld
  with_reducible apply keeps_with_house; assumption

theorem keeps_execHostLinkUp {W : Part → Prop} [May W .regs] [May W .house] [May W .host] {s0 : State} (offer : HostMode)
    (rate32 : Bool) (width : Nat) (s : State) (hk0 : Keeps W s0 s) {tnext : State}
    (ht : execHostLinkUp offer rate32 width s = .next tnext) : Keeps W s0 tnext := by
  unfold execHostLinkUp at ht; cases ht; apply keeps_ite; apply keeps_hostUp; assumption; assumption

theorem keeps_execHostLinkDown {W : Part → Prop} [May W .regs] [May W .swc] [May W .board] [May W .mail] {s0 : State} (s : State)
    (hk0 : Keeps W s0 s) {tnext : State} (ht : execHostLinkDown s = .next tnext) : Keeps W s0 tnext := by
  unfold execHostLinkDown at ht; cases ht; apply keeps_ite; apply keeps_hostLinkLost; assumption; assumption

theorem keeps_assertPerst {W : Part → Prop} [May W .regs] [May W .house] [May W .swc] [May W .mem] [May W .board] [May W .mail]
    [May W .host] {s0 : State} (s : State) (hk0 : Keeps W s0 s) : Keeps W s0 (assertPerst s) := by
  unfold assertPerst; dsimp only; with_reducible apply keeps_with_house; apply keeps_resetHostPort; apply keeps_ite
  apply keeps_resetParty; assumption; apply keeps_hostLinkLost; assumption

theorem keeps_execPerstAssert {W : Part → Prop} [May W .regs] [May W .house] [May W .swc] [May W .mem] [May W .board] [May W .mail]
    [May W .host] {s0 : State} (s : State) (hk0 : Keeps W s0 s) {tnext : State} (ht : execPerstAssert s = .next tnext)
    : Keeps W s0 tnext := by
  unfold execPerstAssert at ht; cases ht; apply keeps_ite; apply keeps_assertPerst; assumption; assumption

theorem keeps_mailboxDone {W : Part → Prop} [May W .outbox] {s0 : State} (opcode rc : Nat) (data : List Nat) (s : State) (hk0
    : Keeps W s0 s) : Keeps W s0 (mailboxDone opcode rc data s) := by
  unfold mailboxDone; apply keeps_emit; assumption

theorem keeps_execGetEventRecords {W : Part → Prop} [May W .outbox] {s0 : State} (log : Fin 4) (s : State) (hk0 : Keeps W s0 s)
    {tnext : State} (ht : execGetEventRecords log s = .next tnext) : Keeps W s0 tnext := by
  unfold execGetEventRecords at ht; cases ht; apply keeps_ite; apply keeps_emit; assumption; assumption

theorem keeps_clearRecords {W : Part → Prop} [May W .host] [May W .outbox] {s0 : State} (log : Nat) (handles : Option (List Nat))
    (s : State) (hk0 : Keeps W s0 s) : Keeps W s0 (clearRecords log handles s) := by
  unfold clearRecords; dsimp only; apply keeps_ite; apply keeps_mailboxDone; apply keeps_State_modHost; assumption
  apply keeps_mailboxDone; assumption

theorem keeps_execClearEventRecords {W : Part → Prop} [May W .host] [May W .outbox] {s0 : State} (log : Fin 4) (handles : Option
    (List Nat)) (s : State) (hk0 : Keeps W s0 s) {tnext : State} (ht : execClearEventRecords log handles s = .next tnext)
    : Keeps W s0 tnext := by
  unfold execClearEventRecords at ht; cases ht; apply keeps_ite; apply keeps_clearRecords; assumption; assumption

theorem keeps_execGetEventInterruptPolicy {W : Part → Prop} [May W .outbox] {s0 : State} (s : State) (hk0 : Keeps W s0 s)
    {tnext : State} (ht : execGetEventInterruptPolicy s = .next tnext) : Keeps W s0 tnext := by
  unfold execGetEventInterruptPolicy at ht; cases ht; apply keeps_ite; apply keeps_mailboxDone; assumption; assumption

theorem keeps_setPolicy {W : Part → Prop} [May W .host] [May W .outbox] {s0 : State} (vectors : List (Option (Fin 64))) (s : State)
    (hk0 : Keeps W s0 s) : Keeps W s0 (setPolicy vectors s) := by
  unfold setPolicy; apply keeps_ite; dsimp only; apply keeps_mailboxDone; apply keeps_forEach; intro _; intro _; intro _
  apply keeps_State_modHost; assumption; assumption; apply keeps_mailboxDone; assumption

theorem keeps_execSetEventInterruptPolicy {W : Part → Prop} [May W .host] [May W .outbox] {s0 : State} (vectors : List (Option
    (Fin 64))) (s : State) (hk0 : Keeps W s0 s) {tnext : State} (ht : execSetEventInterruptPolicy vectors s = .next tnext)
    : Keeps W s0 tnext := by
  unfold execSetEventInterruptPolicy at ht; cases ht; apply keeps_ite; apply keeps_setPolicy; assumption; assumption

theorem keeps_execGetFwInfo {W : Part → Prop} [May W .outbox] {s0 : State} (s : State) (hk0 : Keeps W s0 s) {tnext : State}
    (ht : execGetFwInfo s = .next tnext) : Keeps W s0 tnext := by
  unfold execGetFwInfo at ht; cases ht; apply keeps_ite; apply keeps_mailboxDone; assumption; assumption

theorem keeps_execGetSupportedLogs {W : Part → Prop} [May W .outbox] {s0 : State} (s : State) (hk0 : Keeps W s0 s) {tnext : State}
    (ht : execGetSupportedLogs s = .next tnext) : Keeps W s0 tnext := by
  unfold execGetSupportedLogs at ht; cases ht; apply keeps_ite; apply keeps_mailboxDone; assumption; assumption

theorem keeps_execGetLog {W : Part → Prop} [May W .outbox] {s0 : State} (s : State) (hk0 : Keeps W s0 s) {tnext : State}
    (ht : execGetLog s = .next tnext) : Keeps W s0 tnext := by
  unfold execGetLog at ht; cases ht; apply keeps_ite; apply keeps_mailboxDone; assumption; assumption

theorem keeps_execIdentifyMemoryDevice {W : Part → Prop} [May W .outbox] {s0 : State} (s : State) (hk0 : Keeps W s0 s) {tnext : State}
    (ht : execIdentifyMemoryDevice s = .next tnext) : Keeps W s0 tnext := by
  unfold execIdentifyMemoryDevice at ht; cases ht; apply keeps_ite; apply keeps_mailboxDone; assumption; assumption

theorem keeps_execGetPartitionInfo {W : Part → Prop} [May W .outbox] {s0 : State} (s : State) (hk0 : Keeps W s0 s) {tnext : State}
    (ht : execGetPartitionInfo s = .next tnext) : Keeps W s0 tnext := by
  unfold execGetPartitionInfo at ht; cases ht; apply keeps_ite; apply keeps_mailboxDone; assumption; assumption

theorem keeps_execGetHealthInfo {W : Part → Prop} [May W .outbox] {s0 : State} (s : State) (hk0 : Keeps W s0 s) {tnext : State}
    (ht : execGetHealthInfo s = .next tnext) : Keeps W s0 tnext := by
  unfold execGetHealthInfo at ht; cases ht; apply keeps_ite; apply keeps_mailboxDone; assumption; assumption

theorem keeps_execMailboxCmdUnsupported {W : Part → Prop} [May W .outbox] {s0 : State} (opcode : Fin 65536) (s : State) (hk0
    : Keeps W s0 s) {tnext : State} (ht : execMailboxCmdUnsupported opcode s = .next tnext) : Keeps W s0 tnext := by
  unfold execMailboxCmdUnsupported at ht; cases ht; apply keeps_ite; apply keeps_mailboxDone; assumption; assumption

theorem keeps_execDoorbellHostRing {W : Part → Prop} [May W .regs] [May W .cue] [May W .waking] {s0 : State} (b : Fin 256)
    (arg : BitVec 32) (s : State) (hk0 : Keeps W s0 s) {tnext : State} (ht : execDoorbellHostRing b arg s = .next tnext)
    : Keeps W s0 tnext := by
  unfold execDoorbellHostRing at ht; cases ht; apply keeps_ite; apply keeps_ringByHost; assumption; assumption

theorem keeps_takeRing {W : Part → Prop} [May W .regs] [May W .links] [May W .swc] [May W .cue] [May W .waking] {s0 : State} (f : Frame)
    (s : State) (hk0 : Keeps W s0 s) : Keeps W s0 (takeRing f s) := by
  unfold takeRing; dsimp only; apply keeps_sendFrame; apply keeps_ringByFrame; assumption

theorem keeps_execDoorbellFrame {W : Part → Prop} [May W .regs] [May W .links] [May W .swc] [May W .cue] [May W .waking] {s0 : State}
    (f : Frame) (s : State) (hk0 : Keeps W s0 s) {tnext : State} (ht : execDoorbellFrame f s = .next tnext) : Keeps W s0 tnext := by
  unfold execDoorbellFrame at ht; cases ht; apply keeps_takeMgmt; intro _; intro _; intro _; apply keeps_takeRing; assumption
  assumption

theorem keeps_execControllerClaim {W : Part → Prop} [May W .regs] [May W .outbox] {s0 : State} (driven : Bool) (s : State) (hk0
    : Keeps W s0 s) {tnext : State} (ht : execControllerClaim driven s = .next tnext) : Keeps W s0 tnext := by
  unfold execControllerClaim at ht; cases ht; apply keeps_ite; apply keeps_becomeController; assumption; assumption

theorem keeps_enterDaa {W : Part → Prop} [May W .regs] [May W .host] [May W .outbox] {s0 : State} (a : Entdaa) (s : State) (hk0
    : Keeps W s0 s) : Keeps W s0 (enterDaa a s) := by
  unfold enterDaa; split; apply keeps_takeAddress; assumption; apply keeps_ite; apply keeps_runEntdaa; assumption; assumption

theorem keeps_execEntdaa {W : Part → Prop} [May W .regs] [May W .host] [May W .outbox] {s0 : State} (a : Entdaa) (s : State) (hk0
    : Keeps W s0 s) {tnext : State} (ht : execEntdaa a s = .next tnext) : Keeps W s0 tnext := by
  unfold execEntdaa at ht; cases ht; apply keeps_ite; apply keeps_enterDaa; assumption; assumption

theorem keeps_execRstdaa {W : Part → Prop} [May W .regs] {s0 : State} (tray : Bool) (s : State) (hk0 : Keeps W s0 s) {tnext : State}
    (ht : execRstdaa tray s = .next tnext) : Keeps W s0 tnext := by
  unfold execRstdaa at ht; cases ht; apply keeps_ite; apply keeps_State_setFld; assumption; assumption

theorem keeps_execEnec {W : Part → Prop} [May W .host] {s0 : State} (tray : Bool) (events : BitVec 8) (s : State) (hk0 : Keeps W s0 s)
    {tnext : State} (ht : execEnec tray events s = .next tnext) : Keeps W s0 tnext := by
  unfold execEnec at ht; cases ht; apply keeps_ite; apply keeps_State_modI3c; assumption; assumption

theorem keeps_execDisec {W : Part → Prop} [May W .host] {s0 : State} (tray : Bool) (events : BitVec 8) (s : State) (hk0 : Keeps W s0 s)
    {tnext : State} (ht : execDisec tray events s = .next tnext) : Keeps W s0 tnext := by
  unfold execDisec at ht; cases ht; apply keeps_ite; apply keeps_State_modI3c; assumption; assumption

theorem keeps_answerCcc {W : Part → Prop} [May W .outbox] {s0 : State} (tray : Bool) (bytes : List Byte) (s : State) (hk0
    : Keeps W s0 s) : Keeps W s0 (answerCcc tray bytes s) := by
  unfold answerCcc; apply keeps_ite; apply keeps_emit; assumption; assumption

theorem keeps_execGetpid {W : Part → Prop} [May W .outbox] {s0 : State} (tray : Bool) (s : State) (hk0 : Keeps W s0 s) {tnext : State}
    (ht : execGetpid tray s = .next tnext) : Keeps W s0 tnext := by
  unfold execGetpid at ht; cases ht; apply keeps_ite; apply keeps_answerCcc; assumption; assumption

theorem keeps_execGetbcr {W : Part → Prop} [May W .outbox] {s0 : State} (tray : Bool) (s : State) (hk0 : Keeps W s0 s) {tnext : State}
    (ht : execGetbcr tray s = .next tnext) : Keeps W s0 tnext := by
  unfold execGetbcr at ht; cases ht; apply keeps_ite; apply keeps_answerCcc; assumption; assumption

theorem keeps_execGetdcr {W : Part → Prop} [May W .outbox] {s0 : State} (tray : Bool) (s : State) (hk0 : Keeps W s0 s) {tnext : State}
    (ht : execGetdcr tray s = .next tnext) : Keeps W s0 tnext := by
  unfold execGetdcr at ht; cases ht; apply keeps_ite; apply keeps_answerCcc; assumption; assumption

theorem keeps_sendStatus {W : Part → Prop} [May W .outbox] {s0 : State} (tray : Bool) (s : State) (hk0 : Keeps W s0 s) : Keeps W s0
    (sendStatus tray s) := by
  unfold sendStatus; apply keeps_takeFree; apply keeps_takeFree; apply keeps_answerCcc; assumption

theorem keeps_execGetstatus {W : Part → Prop} [May W .outbox] {s0 : State} (tray : Bool) (s : State) (hk0 : Keeps W s0 s)
    {tnext : State} (ht : execGetstatus tray s = .next tnext) : Keeps W s0 tnext := by
  unfold execGetstatus at ht; cases ht; apply keeps_ite; apply keeps_sendStatus; assumption; assumption

theorem keeps_execGetmwl {W : Part → Prop} [May W .outbox] {s0 : State} (tray : Bool) (s : State) (hk0 : Keeps W s0 s) {tnext : State}
    (ht : execGetmwl tray s = .next tnext) : Keeps W s0 tnext := by
  unfold execGetmwl at ht; cases ht; apply keeps_ite; apply keeps_answerCcc; assumption; assumption

theorem keeps_execSetmwl {W : Part → Prop} [May W .host] {s0 : State} (tray : Bool) (len : Fin 65536) (s : State) (hk0 : Keeps W s0 s)
    {tnext : State} (ht : execSetmwl tray len s = .next tnext) : Keeps W s0 tnext := by
  unfold execSetmwl at ht; cases ht; apply keeps_ite; apply keeps_State_modI3c; assumption; assumption

theorem keeps_execGetmrl {W : Part → Prop} [May W .outbox] {s0 : State} (tray : Bool) (s : State) (hk0 : Keeps W s0 s) {tnext : State}
    (ht : execGetmrl tray s = .next tnext) : Keeps W s0 tnext := by
  unfold execGetmrl at ht; cases ht; apply keeps_ite; apply keeps_answerCcc; assumption; assumption

theorem keeps_execSetmrl {W : Part → Prop} [May W .host] {s0 : State} (tray : Bool) (len : Fin 65536) (s : State) (hk0 : Keeps W s0 s)
    {tnext : State} (ht : execSetmrl tray len s = .next tnext) : Keeps W s0 tnext := by
  unfold execSetmrl at ht; cases ht; apply keeps_ite; apply keeps_State_modI3c; assumption; assumption

theorem keeps_execDeftgts {W : Part → Prop} [May W .host] {s0 : State} (targets : List (Nat × Nat)) (s : State) (hk0 : Keeps W s0 s)
    {tnext : State} (ht : execDeftgts targets s = .next tnext) : Keeps W s0 tnext := by
  unfold execDeftgts at ht; cases ht; apply keeps_ite; apply keeps_State_modI3c; assumption; assumption

theorem keeps_acceptRole {W : Part → Prop} [May W .regs] {s0 : State} (s : State) (hk0 : Keeps W s0 s) : Keeps W s0 (acceptRole s) := by
  unfold acceptRole; apply keeps_setMaster; apply keeps_State_setFld; apply keeps_State_raise; assumption

theorem keeps_roleGone {W : Part → Prop} [May W .regs] [May W .host] {s0 : State} (s : State) (hk0 : Keeps W s0 s) : Keeps W s0
    (roleGone s) := by
  unfold roleGone; apply keeps_State_modHost; apply keeps_State_setFld; assumption

theorem keeps_handoff {W : Part → Prop} [May W .regs] [May W .host] {s0 : State} (incoming : Bool) (s : State) (hk0
    : Keeps W s0 s) : Keeps W s0 (handoff incoming s) := by
  unfold handoff; apply keeps_ite; apply keeps_ite; apply keeps_acceptRole; assumption; assumption; split; apply keeps_State_setFld
  apply keeps_roleGone; assumption; assumption

theorem keeps_execGetaccmst {W : Part → Prop} [May W .regs] [May W .host] {s0 : State} (incoming : Bool) (s : State) (hk0
    : Keeps W s0 s) {tnext : State} (ht : execGetaccmst incoming s = .next tnext) : Keeps W s0 tnext := by
  unfold execGetaccmst at ht; cases ht; apply keeps_ite; apply keeps_handoff; assumption; assumption

theorem keeps_execHotJoin {W : Part → Prop} [May W .outbox] {s0 : State} (s : State) (hk0 : Keeps W s0 s) {tnext : State}
    (ht : execHotJoin s = .next tnext) : Keeps W s0 tnext := by
  unfold execHotJoin at ht; cases ht; apply keeps_ite; apply keeps_emit; assumption; assumption

theorem keeps_execControllerLost {W : Part → Prop} [May W .regs] [May W .outbox] {s0 : State} (s : State) (hk0 : Keeps W s0 s)
    {tnext : State} (ht : execControllerLost s = .next tnext) : Keeps W s0 tnext := by
  unfold execControllerLost at ht; cases ht; apply keeps_ite; apply keeps_becomeController; assumption; assumption

theorem keeps_execHandoffTimeout {W : Part → Prop} [May W .regs] [May W .host] {s0 : State} (s : State) (hk0 : Keeps W s0 s)
    {tnext : State} (ht : execHandoffTimeout s = .next tnext) : Keeps W s0 tnext := by
  unfold execHandoffTimeout at ht; cases ht; apply keeps_ite; apply keeps_roleGone; assumption; assumption

theorem keeps_releaseMaster {W : Part → Prop} [May W .regs] [May W .host] [May W .outbox] {s0 : State} (s : State) (hk0
    : Keeps W s0 s) : Keeps W s0 (releaseMaster s) := by
  unfold releaseMaster; apply keeps_ite; apply keeps_handOn; assumption; assumption

theorem keeps_execTrayMasterRelease {W : Part → Prop} [May W .regs] [May W .host] [May W .outbox] {s0 : State} (s : State) (hk0
    : Keeps W s0 s) {tnext : State} (ht : execTrayMasterRelease s = .next tnext) : Keeps W s0 tnext := by
  unfold execTrayMasterRelease at ht; cases ht; apply keeps_ite; apply keeps_releaseMaster; assumption; assumption

theorem keeps_answerControl {W : Part → Prop} [May W .outbox] {s0 : State} (p : Port) (bytes : List Byte) (s : State) (hk0
    : Keeps W s0 s) : Keeps W s0 (answerControl p bytes s) := by
  unfold answerControl; apply keeps_ite; apply keeps_emit; assumption; assumption

theorem keeps_setOwner {W : Part → Prop} [May W .regs] {s0 : State} (p : Port) (owner : Nat) (s : State) (hk0 : Keeps W s0 s)
    : Keeps W s0 (setOwner p owner s) := by
  unfold setOwner; split; apply keeps_State_setFld; assumption; apply keeps_State_setFld; assumption; assumption

theorem keeps_assignEid {W : Part → Prop} [May W .regs] [May W .host] [May W .outbox] {s0 : State} (p : Port) (eid owner : Nat)
    (s : State) (hk0 : Keeps W s0 s) : Keeps W s0 (assignEid p eid owner s) := by
  unfold assignEid; apply keeps_ite; assumption; apply keeps_ite; apply keeps_answerControl; apply keeps_setOwner; apply keeps_setEid
  assumption; apply keeps_answerControl; assumption

theorem keeps_execSetEndpointId {W : Part → Prop} [May W .regs] [May W .host] [May W .outbox] {s0 : State} (p : Port)
    (eid owner : Fin 256) (s : State) (hk0 : Keeps W s0 s) {tnext : State} (ht : execSetEndpointId p eid owner s = .next tnext)
    : Keeps W s0 tnext := by
  unfold execSetEndpointId at ht; cases ht; apply keeps_ite; apply keeps_orRelay; intro _; intro _; apply keeps_assignEid; assumption
  assumption; assumption

theorem keeps_execGetEndpointId {W : Part → Prop} [May W .outbox] {s0 : State} (p : Port) (s : State) (hk0 : Keeps W s0 s)
    {tnext : State} (ht : execGetEndpointId p s = .next tnext) : Keeps W s0 tnext := by
  unfold execGetEndpointId at ht; cases ht; apply keeps_ite; apply keeps_orRelay; intro _; intro _; apply keeps_answerControl
  assumption; assumption; assumption

theorem keeps_execGetMctpVersionSupport {W : Part → Prop} [May W .outbox] {s0 : State} (p : Port) (s : State) (hk0 : Keeps W s0 s)
    {tnext : State} (ht : execGetMctpVersionSupport p s = .next tnext) : Keeps W s0 tnext := by
  unfold execGetMctpVersionSupport at ht; cases ht; apply keeps_ite; apply keeps_orRelay; intro _; intro _; apply keeps_answerControl
  assumption; assumption; assumption

theorem keeps_execGetMessageTypeSupport {W : Part → Prop} [May W .outbox] {s0 : State} (p : Port) (s : State) (hk0 : Keeps W s0 s)
    {tnext : State} (ht : execGetMessageTypeSupport p s = .next tnext) : Keeps W s0 tnext := by
  unfold execGetMessageTypeSupport at ht; cases ht; apply keeps_ite; apply keeps_orRelay; intro _; intro _; apply keeps_answerControl
  assumption; assumption; assumption

theorem keeps_execGetVendorMessageSupport {W : Part → Prop} [May W .outbox] {s0 : State} (p : Port) (s : State) (hk0 : Keeps W s0 s)
    {tnext : State} (ht : execGetVendorMessageSupport p s = .next tnext) : Keeps W s0 tnext := by
  unfold execGetVendorMessageSupport at ht; cases ht; apply keeps_ite; apply keeps_orRelay; intro _; intro _; apply keeps_answerControl
  assumption; assumption; assumption

theorem keeps_sendRouting {W : Part → Prop} [May W .outbox] {s0 : State} (p : Port) (s : State) (hk0 : Keeps W s0 s) : Keeps W s0
    (sendRouting p s) := by
  unfold sendRouting; apply keeps_ite; apply keeps_answerControl; assumption; apply keeps_answerControl; assumption

theorem keeps_execGetRoutingTableEntries {W : Part → Prop} [May W .outbox] {s0 : State} (p : Port) (s : State) (hk0 : Keeps W s0 s)
    {tnext : State} (ht : execGetRoutingTableEntries p s = .next tnext) : Keeps W s0 tnext := by
  unfold execGetRoutingTableEntries at ht; cases ht; apply keeps_ite; apply keeps_orRelay; intro _; intro _; apply keeps_sendRouting
  assumption; assumption; assumption

theorem keeps_takeFwData {W : Part → Prop} [May W .sec] [May W .outbox] {s0 : State} (p : Port) (off : Nat) (bytes : List Byte)
    (s : State) (hk0 : Keeps W s0 s) : Keeps W s0 (takeFwData p off bytes s) := by
  unfold takeFwData; apply keeps_ite; apply keeps_vendorAnswer; assumption; apply keeps_ite; apply keeps_vendorAnswer; assumption
  apply keeps_vendorAnswer; apply keeps_fwBytes; assumption

theorem keeps_execFwData {W : Part → Prop} [May W .sec] [May W .outbox] {s0 : State} (p : Port) (off : Nat) (bytes : List Byte)
    (s : State) (hk0 : Keeps W s0 s) {tnext : State} (ht : execFwData p off bytes s = .next tnext) : Keeps W s0 tnext := by
  unfold execFwData at ht; cases ht; apply keeps_ite; apply keeps_orRelay; intro _; intro _; apply keeps_ite; apply keeps_takeFwData
  assumption; assumption; assumption; assumption

theorem keeps_takeHeartbeat {W : Part → Prop} [May W .regs] [May W .power] [May W .outbox] {s0 : State} (p : Port) (s : State)
    (hk0 : Keeps W s0 s) : Keeps W s0 (takeHeartbeat p s) := by
  unfold takeHeartbeat; apply keeps_ite; dsimp only; apply keeps_vendorAnswer; apply keeps_rmHeartbeat; assumption
  apply keeps_vendorAnswer; assumption

theorem keeps_execHeartbeat {W : Part → Prop} [May W .regs] [May W .power] [May W .outbox] {s0 : State} (p : Port) (s : State)
    (hk0 : Keeps W s0 s) {tnext : State} (ht : execHeartbeat p s = .next tnext) : Keeps W s0 tnext := by
  unfold execHeartbeat at ht; cases ht; apply keeps_ite; apply keeps_orRelay; intro _; intro _; apply keeps_ite
  apply keeps_takeHeartbeat; assumption; assumption; assumption; assumption

theorem keeps_execVendorBad {W : Part → Prop} [May W .outbox] {s0 : State} (p : Port) (cmd : Fin 256) (s : State) (hk0 : Keeps W s0 s)
    {tnext : State} (ht : execVendorBad p cmd s = .next tnext) : Keeps W s0 tnext := by
  unfold execVendorBad at ht; cases ht; apply keeps_ite; apply keeps_orRelay; intro _; intro _; apply keeps_ite
  apply keeps_vendorAnswer; assumption; assumption; assumption; assumption

theorem keeps_releaseAlert {W : Part → Prop} [May W .regs] [May W .host] [May W .outbox] {s0 : State} (src : Nat) (s : State) (hk0
    : Keeps W s0 s) : Keeps W s0 (releaseAlert src s) := by
  unfold releaseAlert; split; assumption; apply keeps_queueAlert; apply keeps_State_modHost; assumption

theorem keeps_execAlertMergeExpiry {W : Part → Prop} [May W .regs] [May W .host] [May W .outbox] {s0 : State} (src : Fin 13) (s : State)
    (hk0 : Keeps W s0 s) {tnext : State} (ht : execAlertMergeExpiry src s = .next tnext) : Keeps W s0 tnext := by
  unfold execAlertMergeExpiry at ht; cases ht; apply keeps_ite; apply keeps_releaseAlert; assumption; assumption

theorem keeps_turnPortOff {W : Part → Prop} [May W .regs] [May W .house] [May W .links] [May W .sites] [May W .swc] [May W .rhs]
    [May W .outbox] {s0 : State} (l : Nat) (s : State) (hk0 : Keeps W s0 s) : Keeps W s0 (turnPortOff l s) := by
  unfold turnPortOff; dsimp only; apply keeps_forEach; intro _; intro _; intro _; apply keeps_settleSite; assumption
  apply keeps_State_setFld; apply keeps_ite; assumption; apply keeps_enterDown; assumption

theorem keeps_turnPortOn {W : Part → Prop} [May W .regs] [May W .house] [May W .links] [May W .sites] [May W .swc] [May W .rhs]
    [May W .spState] [May W .outbox] {s0 : State} (l : Nat) (s : State) (hk0 : Keeps W s0 s) : Keeps W s0 (turnPortOn l s) := by
  unfold turnPortOn; apply keeps_ite; apply keeps_freshTraining; apply keeps_forEach; intro _; intro _; intro _; apply keeps_settleSite
  assumption; apply keeps_portUsed; assumption; assumption

theorem keeps_judgeAgain {W : Part → Prop} [May W .regs] [May W .links] [May W .swc] [May W .rhs] [May W .outbox] {s0 : State}
    (changed : Bool) (l : Nat) (s : State) (hk0 : Keeps W s0 s) : Keeps W s0 (judgeAgain changed l s) := by
  unfold judgeAgain; apply keeps_ite; apply keeps_freshTraining; assumption; apply keeps_ite; apply keeps_sendCfg; assumption
  assumption

theorem keeps_settlePorts {W : Part → Prop} [May W .regs] [May W .house] [May W .links] [May W .sites] [May W .swc] [May W .ten]
    [May W .sp] [May W .cue] [May W .col] [May W .board] [May W .mail] [May W .host] [May W .rhs] [May W .spState] [May W .outbox]
    {s0 : State} (changed : Bool) (offBefore : List Nat) (s : State) (hk0 : Keeps W s0 s) : Keeps W s0
    (settlePorts changed offBefore s) := by
  unfold settlePorts; dsimp only; apply keeps_forEach; intro _; intro _; intro _; apply keeps_ite; apply keeps_watchLink; intro _
  intro _; apply keeps_fullRetrain; assumption; assumption; apply keeps_ite; apply keeps_sendCfg; assumption; assumption
  apply keeps_forEach; intro _; intro _; intro _; apply keeps_ite; apply keeps_turnPortOff; assumption; apply keeps_ite
  apply keeps_turnPortOn; assumption; apply keeps_judgeAgain; assumption; assumption

theorem keeps_assignCoord {W : Part → Prop} [May W .regs] [May W .house] [May W .links] [May W .sites] [May W .swc] [May W .ten]
    [May W .sp] [May W .cue] [May W .col] [May W .board] [May W .mail] [May W .host] [May W .rhs] [May W .spState] [May W .outbox]
    {s0 : State} (v : Nat) (s : State) (hk0 : Keeps W s0 s) : Keeps W s0 (assignCoord v s) := by
  unfold assignCoord; apply keeps_ite; apply keeps_State_raise; assumption; dsimp only; apply keeps_ite; apply keeps_settlePorts
  apply keeps_State_raise; apply keeps_State_raise; apply keeps_State_setFld; assumption; apply keeps_State_raise
  apply keeps_State_raise; apply keeps_State_setFld; assumption

theorem keeps_execCoordAssign {W : Part → Prop} [May W .regs] [May W .house] [May W .links] [May W .sites] [May W .swc] [May W .ten]
    [May W .sp] [May W .cue] [May W .col] [May W .board] [May W .mail] [May W .host] [May W .rhs] [May W .spState] [May W .outbox]
    {s0 : State} (value : BitVec 32) (s : State) (hk0 : Keeps W s0 s) {tnext : State} (ht : execCoordAssign value s = .next tnext)
    : Keeps W s0 tnext := by
  unfold execCoordAssign at ht; cases ht; apply keeps_ite; apply keeps_assignCoord; assumption; assumption

theorem keeps_startStrike {W : Part → Prop} [May W .regs] [May W .host] [May W .rhs] [May W .outbox] {s0 : State} (s : State) (hk0
    : Keeps W s0 s) : Keeps W s0 (startStrike s) := by
  unfold startStrike; apply keeps_ite; apply keeps_State_raise; assumption; split; apply keeps_State_setFld; assumption; dsimp only
  apply keeps_handOn; apply keeps_abandonAllSlices; apply keeps_State_setFld; apply keeps_State_modHost; apply keeps_State_setFld
  assumption

theorem keeps_execStrikeStart {W : Part → Prop} [May W .regs] [May W .host] [May W .rhs] [May W .outbox] {s0 : State} (s : State)
    (hk0 : Keeps W s0 s) {tnext : State} (ht : execStrikeStart s = .next tnext) : Keeps W s0 tnext := by
  unfold execStrikeStart at ht; cases ht; apply keeps_ite; apply keeps_startStrike; assumption; assumption

theorem keeps_discardHeld {W : Part → Prop} [May W .regs] [May W .links] [May W .swc] {s0 : State} (s : State) (hk0
    : Keeps W s0 s) : Keeps W s0 (discardHeld s) := by
  unfold discardHeld; dsimp only; apply keeps_forEach; intro _; intro _; intro _; apply keeps_discard; assumption; apply keeps_forEach
  intro _; intro _; intro _; apply keeps_releaseStored; apply keeps_discard; assumption; apply keeps_State_modSwc; assumption

theorem keeps_endDrain {W : Part → Prop} [May W .regs] [May W .house] [May W .links] [May W .sites] [May W .swc] [May W .ten]
    [May W .sp] [May W .cue] [May W .col] [May W .board] [May W .mail] [May W .host] [May W .rhs] [May W .outbox] {s0 : State}
    (s : State) (hk0 : Keeps W s0 s) : Keeps W s0 (endDrain s) := by
  unfold endDrain; dsimp only; apply keeps_State_setFld; apply keeps_State_setFld; apply keeps_State_modHost; apply keeps_forEach
  intro _; intro _; intro _; apply keeps_disableLink; assumption; apply keeps_discardHeld; assumption

theorem keeps_execStrikeDrainEnd {W : Part → Prop} [May W .regs] [May W .house] [May W .links] [May W .sites] [May W .swc] [May W .ten]
    [May W .sp] [May W .cue] [May W .col] [May W .board] [May W .mail] [May W .host] [May W .rhs] [May W .outbox] {s0 : State}
    (s : State) (hk0 : Keeps W s0 s) {tnext : State} (ht : execStrikeDrainEnd s = .next tnext) : Keeps W s0 tnext := by
  unfold execStrikeDrainEnd at ht; cases ht; apply keeps_ite; apply keeps_endDrain; assumption; assumption

theorem keeps_cancelStrike {W : Part → Prop} [May W .regs] {s0 : State} (s : State) (hk0 : Keeps W s0 s) : Keeps W s0 (cancelStrike s) := by
  unfold cancelStrike; apply keeps_ite; apply keeps_State_setFld; apply keeps_State_setFld; assumption; apply keeps_State_raise
  assumption

theorem keeps_execStrikeCancel {W : Part → Prop} [May W .regs] {s0 : State} (s : State) (hk0 : Keeps W s0 s) {tnext : State}
    (ht : execStrikeCancel s = .next tnext) : Keeps W s0 tnext := by
  unfold execStrikeCancel at ht; cases ht; apply keeps_ite; apply keeps_cancelStrike; assumption; assumption

theorem keeps_enableAgain {W : Part → Prop} [May W .regs] [May W .house] [May W .links] [May W .sites] [May W .swc] [May W .rhs]
    [May W .spState] [May W .outbox] {s0 : State} (l : Nat) (s : State) (hk0 : Keeps W s0 s) : Keeps W s0 (enableAgain l s) := by
  unfold enableAgain; apply keeps_ite; apply keeps_ite; assumption; apply keeps_enableLink; assumption; apply keeps_State_raise
  assumption

theorem keeps_returnStrike {W : Part → Prop} [May W .regs] [May W .house] [May W .links] [May W .sites] [May W .swc] [May W .host]
    [May W .rhs] [May W .spState] [May W .outbox] {s0 : State} (s : State) (hk0 : Keeps W s0 s) : Keeps W s0 (returnStrike s) := by
  unfold returnStrike; apply keeps_ite; dsimp only; apply keeps_State_setFld; apply keeps_State_setFld; apply keeps_State_modHost
  apply keeps_forEach; intro _; intro _; intro _; apply keeps_enableAgain; assumption; assumption; apply keeps_State_raise; assumption

theorem keeps_execStrikeReturn {W : Part → Prop} [May W .regs] [May W .house] [May W .links] [May W .sites] [May W .swc] [May W .host]
    [May W .rhs] [May W .spState] [May W .outbox] {s0 : State} (s : State) (hk0 : Keeps W s0 s) {tnext : State}
    (ht : execStrikeReturn s = .next tnext) : Keeps W s0 tnext := by
  unfold execStrikeReturn at ht; cases ht; apply keeps_ite; apply keeps_returnStrike; assumption; assumption

theorem keeps_laneHoursTick {W : Part → Prop} [May W .regs] {s0 : State} (s : State) (hk0 : Keeps W s0 s) : Keeps W s0
    (laneHoursTick s) := by
  unfold laneHoursTick; apply keeps_forEach; intro _; intro _; intro _; apply keeps_ite; apply keeps_forEach; intro _; intro _; intro _
  apply keeps_State_addFld; assumption; assumption; assumption; assumption

theorem keeps_moduleHoursTick {W : Part → Prop} [May W .regs] {s0 : State} (s : State) (hk0 : Keeps W s0 s) : Keeps W s0
    (moduleHoursTick s) := by
  unfold moduleHoursTick; dsimp only; apply keeps_forEach; intro _; intro _; intro _; apply keeps_takeFree; apply keeps_ite
  apply keeps_State_addFld; assumption; assumption; apply keeps_forEach; intro _; intro _; intro _; apply keeps_takeFree
  apply keeps_ite; apply keeps_State_addFld; assumption; assumption; assumption

theorem keeps_hoursTick {W : Part → Prop} [May W .regs] {s0 : State} (s : State) (hk0 : Keeps W s0 s) : Keeps W s0 (hoursTick s) := by
  unfold hoursTick; dsimp only; apply keeps_moduleHoursTick; apply keeps_laneHoursTick; apply keeps_ite; apply keeps_State_addFld
  apply keeps_ite; apply keeps_State_addFld; apply keeps_State_addFld; assumption; apply keeps_State_addFld; assumption; apply keeps_ite
  apply keeps_State_addFld; apply keeps_State_addFld; assumption; apply keeps_State_addFld; assumption

theorem keeps_execInventoryTick {W : Part → Prop} [May W .regs] [May W .host] {s0 : State} (s : State) (hk0 : Keeps W s0 s)
    {tnext : State} (ht : execInventoryTick s = .next tnext) : Keeps W s0 tnext := by
  unfold execInventoryTick at ht; cases ht; apply keeps_ite; apply keeps_hoursTick; apply keeps_State_modHost; assumption; assumption

theorem keeps_nextPeriod {W : Part → Prop} [May W .rhs] {s0 : State} (w : Nat) (s : State) (hk0 : Keeps W s0 s) : Keeps W s0
    (nextPeriod w s) := by
  unfold nextPeriod; with_reducible apply keeps_with_rhs; assumption

theorem keeps_execRehearsalTimer {W : Part → Prop} [May W .regs] [May W .links] [May W .rhs] [May W .outbox] {s0 : State} (w : Fin 4)
    (s : State) (hk0 : Keeps W s0 s) {tnext : State} (ht : execRehearsalTimer w s = .next tnext) : Keeps W s0 tnext := by
  unfold execRehearsalTimer at ht; cases ht; apply keeps_ite; apply keeps_fireSlice; apply keeps_nextPeriod; assumption; assumption

theorem keeps_returnLane {W : Part → Prop} [May W .links] [May W .outbox] {s0 : State} (l p : Nat) (s : State) (hk0
    : Keeps W s0 s) : Keeps W s0 (returnLane l p s) := by
  unfold returnLane; apply keeps_ite; apply keeps_startSub; assumption; assumption

theorem keeps_heal {W : Part → Prop} [May W .regs] [May W .links] [May W .outbox] {s0 : State} (t : Target) (s : State) (hk0
    : Keeps W s0 s) : Keeps W s0 (heal t s) := by
  unfold heal; dsimp only; split; apply keeps_returnLane; apply keeps_State_setFld; apply keeps_unlogRepair; apply keeps_State_raise
  apply keeps_State_count; assumption; apply keeps_State_setFld; apply keeps_unlogRepair; apply keeps_State_raise
  apply keeps_State_count; assumption; apply keeps_State_raise; apply keeps_State_count; assumption

theorem keeps_State_modRhs {W : Part → Prop} [May W .rhs] {s0 : State} (s : State) (f : Rehearsal → Rehearsal) (hk0
    : Keeps W s0 s) : Keeps W s0 (State.modRhs s f) := by
  unfold State.modRhs; with_reducible apply keeps_with_rhs; assumption

theorem keeps_setRuns {W : Part → Prop} [May W .rhs] {s0 : State} (c : Slice) (mism passes : Nat) (s : State) (hk0 : Keeps W s0 s)
    : Keeps W s0 (setRuns c mism passes s) := by
  unfold setRuns; apply keeps_State_modRhs; assumption

theorem keeps_slicePass {W : Part → Prop} [May W .regs] [May W .links] [May W .rhs] [May W .outbox] {s0 : State} (c : Slice) (s : State)
    (hk0 : Keeps W s0 s) : Keeps W s0 (slicePass c s) := by
  unfold slicePass; dsimp only; apply keeps_ite; apply keeps_heal; apply keeps_setRuns; assumption; split; apply keeps_ite
  apply keeps_setRuns; assumption; apply keeps_returnLane; apply keeps_setRuns; assumption; apply keeps_setRuns; assumption

theorem keeps_rhsAlert {W : Part → Prop} [May W .regs] [May W .host] [May W .outbox] {s0 : State} (s : State) (hk0 : Keeps W s0 s)
    : Keeps W s0 (rhsAlert s) := by
  unfold rhsAlert; apply keeps_alert; assumption

theorem keeps_blindWing {W : Part → Prop} [May W .regs] [May W .house] [May W .swc] [May W .ten] [May W .sp] [May W .cue] [May W .col]
    [May W .power] [May W .rhs] [May W .spState] [May W .waking] {s0 : State} (w : Nat) (s : State) (hk0 : Keeps W s0 s) : Keeps W s0
    (blindWing w s) := by
  unfold blindWing; dsimp only; apply keeps_settleLevels; apply keeps_State_setFld; apply keeps_State_setFld; apply keeps_State_raise
  apply keeps_forEach; intro _; intro _; intro _; apply keeps_State_raise; apply keeps_State_raise; apply keeps_State_setFld; assumption
  assumption

theorem keeps_sensorFails {W : Part → Prop} [May W .regs] [May W .house] [May W .swc] [May W .ten] [May W .sp] [May W .cue] [May W .col]
    [May W .power] [May W .host] [May W .rhs] [May W .spState] [May W .waking] [May W .outbox] {s0 : State} (w i : Nat) (s : State)
    (hk0 : Keeps W s0 s) : Keeps W s0 (sensorFails w i s) := by
  unfold sensorFails; dsimp only; apply keeps_ite; apply keeps_blindWing; apply keeps_rhsAlert; apply keeps_State_modRhs; assumption
  apply keeps_rhsAlert; apply keeps_State_modRhs; assumption

theorem keeps_laneTestFails {W : Part → Prop} [May W .regs] [May W .host] [May W .outbox] {s0 : State} (l p : Nat) (s : State)
    (hk0 : Keeps W s0 s) : Keeps W s0 (laneTestFails l p s) := by
  unfold laneTestFails; apply keeps_ite; apply keeps_recordFailure; apply keeps_State_raise; assumption; apply keeps_ite; assumption
  apply keeps_swingLowAlert; apply keeps_markReplaced; assumption

theorem keeps_phyFails {W : Part → Prop} [May W .regs] [May W .links] [May W .swc] [May W .mem] [May W .rhs] [May W .outbox]
    {s0 : State} (c : Nat) (s : State) (hk0 : Keeps W s0 s) : Keeps W s0 (phyFails c s) := by
  unfold phyFails; apply keeps_ite; assumption; apply keeps_ite; apply keeps_settleChannels; apply keeps_channelFails
  apply keeps_recordFailure; assumption; apply keeps_State_raise; apply keeps_recordFailure; assumption

theorem keeps_targetFails {W : Part → Prop} [May W .regs] [May W .house] [May W .links] [May W .swc] [May W .mem] [May W .ten]
    [May W .sp] [May W .cue] [May W .col] [May W .power] [May W .host] [May W .rhs] [May W .spState] [May W .waking] [May W .outbox]
    {s0 : State} (w : Nat) (t : Target) (s : State) (hk0 : Keeps W s0 s) : Keeps W s0 (targetFails w t s) := by
  unfold targetFails; dsimp only; split; apply keeps_laneTestFails; apply keeps_State_raise; apply keeps_State_count; assumption
  apply keeps_rhsAlert; apply keeps_State_raise; apply keeps_State_count; assumption; apply keeps_phyFails; apply keeps_State_raise
  apply keeps_State_count; assumption; apply keeps_sensorFails; apply keeps_State_raise; apply keeps_State_count; assumption

theorem keeps_sliceMismatch {W : Part → Prop} [May W .regs] [May W .house] [May W .links] [May W .swc] [May W .mem] [May W .ten]
    [May W .sp] [May W .cue] [May W .col] [May W .power] [May W .host] [May W .rhs] [May W .spState] [May W .waking] [May W .outbox]
    {s0 : State} (c : Slice) (s : State) (hk0 : Keeps W s0 s) : Keeps W s0 (sliceMismatch c s) := by
  unfold sliceMismatch; dsimp only; apply keeps_ite; apply keeps_targetFails; apply keeps_setRuns; apply keeps_State_count; assumption
  split; apply keeps_ite; apply keeps_State_modRhs; apply keeps_setRuns; apply keeps_State_count; assumption; apply keeps_returnLane
  apply keeps_State_modRhs; apply keeps_setRuns; apply keeps_State_count; assumption; apply keeps_State_modRhs; apply keeps_setRuns
  apply keeps_State_count; assumption

theorem keeps_endSlice {W : Part → Prop} [May W .regs] [May W .house] [May W .links] [May W .swc] [May W .mem] [May W .ten] [May W .sp]
    [May W .cue] [May W .col] [May W .power] [May W .host] [May W .rhs] [May W .spState] [May W .waking] [May W .outbox] {s0 : State}
    (c : Slice) (sig : BitVec 32) (s : State) (hk0 : Keeps W s0 s) : Keeps W s0 (endSlice c sig s) := by
  unfold endSlice; dsimp only; apply keeps_fireWaiting; apply keeps_ite; apply keeps_slicePass; apply keeps_State_count
  apply keeps_State_setFld; apply keeps_closeSlice; assumption; apply keeps_sliceMismatch; apply keeps_State_count
  apply keeps_State_setFld; apply keeps_closeSlice; assumption

theorem keeps_execSliceEnd {W : Part → Prop} [May W .regs] [May W .house] [May W .links] [May W .swc] [May W .mem] [May W .ten]
    [May W .sp] [May W .cue] [May W .col] [May W .power] [May W .host] [May W .rhs] [May W .spState] [May W .waking] [May W .outbox]
    {s0 : State} (w : Fin 4) (signature : BitVec 32) (s : State) (hk0 : Keeps W s0 s) {tnext : State}
    (ht : execSliceEnd w signature s = .next tnext) : Keeps W s0 tnext := by
  unfold execSliceEnd at ht; cases ht; split; assumption; apply keeps_ite; apply keeps_endSlice; assumption; assumption

theorem keeps_execFusePass {W : Part → Prop} [May W .rhs] {s0 : State} (s : State) (hk0 : Keeps W s0 s) {tnext : State}
    (ht : execFusePass s = .next tnext) : Keeps W s0 tnext := by
  unfold execFusePass at ht; cases ht; apply keeps_ite; apply keeps_State_modRhs; assumption; assumption

theorem keeps_blowEntry {W : Part → Prop} [May W .regs] {s0 : State} (j : Nat) (s : State) (hk0 : Keeps W s0 s) : Keeps W s0
    (blowEntry j s) := by
  unfold blowEntry; apply keeps_ite; assumption; apply keeps_ite; apply keeps_State_addFld; apply keeps_State_setFld; assumption
  apply keeps_State_raise; assumption

theorem keeps_endFusePass {W : Part → Prop} [May W .regs] [May W .power] [May W .rhs] {s0 : State} (s : State) (hk0
    : Keeps W s0 s) : Keeps W s0 (endFusePass s) := by
  unfold endFusePass; dsimp only; apply keeps_ite; apply keeps_startPowerUp; apply keeps_State_modRhs; apply keeps_State_raise
  apply keeps_State_setFld; apply keeps_forEach; intro _; intro _; intro _; apply keeps_blowEntry; assumption; assumption
  apply keeps_State_modRhs; apply keeps_State_raise; apply keeps_State_setFld; apply keeps_forEach; intro _; intro _; intro _
  apply keeps_blowEntry; assumption; assumption

theorem keeps_execFusePassComplete {W : Part → Prop} [May W .regs] [May W .power] [May W .rhs] {s0 : State} (s : State) (hk0
    : Keeps W s0 s) {tnext : State} (ht : execFusePassComplete s = .next tnext) : Keeps W s0 tnext := by
  unfold execFusePassComplete at ht; cases ht; apply keeps_ite; apply keeps_endFusePass; assumption; assumption

theorem keeps_execPmcCounterWrite {W : Part → Prop} [May W .regs] {s0 : State} (n : Fin 1024) (value : Word) (s : State) (hk0
    : Keeps W s0 s) {tnext : State} (ht : execPmcCounterWrite n value s = .next tnext) : Keeps W s0 tnext := by
  unfold execPmcCounterWrite at ht; cases ht; apply keeps_ite; apply keeps_State_setFld; assumption; assumption

theorem keeps_answerPmc {W : Part → Prop} [May W .regs] [May W .links] [May W .swc] {s0 : State} (f : Frame) (s : State) (hk0
    : Keeps W s0 s) : Keeps W s0 (answerPmc f s) := by
  unfold answerPmc; apply keeps_sendFrame; assumption

theorem keeps_execPmcReadFrame {W : Part → Prop} [May W .regs] [May W .links] [May W .swc] {s0 : State} (f : Frame) (s : State)
    (hk0 : Keeps W s0 s) {tnext : State} (ht : execPmcReadFrame f s = .next tnext) : Keeps W s0 tnext := by
  unfold execPmcReadFrame at ht; cases ht; apply keeps_takeMgmt; intro _; intro _; intro _; apply keeps_answerPmc; assumption
  assumption

theorem keeps_mirrorCounters {W : Part → Prop} [May W .regs] [May W .ten] [May W .sp] [May W .host] [May W .waking] {s0 : State}
    (s : State) (hk0 : Keeps W s0 s) : Keeps W s0 (mirrorCounters s) := by
  unfold mirrorCounters; dsimp only; apply keeps_ite; apply keeps_State_raise; assumption; apply keeps_ite; apply keeps_spWrite
  apply keeps_State_modHost; assumption; apply keeps_wakeSpan; assumption

theorem keeps_execPmcMirrorTick {W : Part → Prop} [May W .regs] [May W .ten] [May W .sp] [May W .host] [May W .waking] {s0 : State}
    (s : State) (hk0 : Keeps W s0 s) {tnext : State} (ht : execPmcMirrorTick s = .next tnext) : Keeps W s0 tnext := by
  unfold execPmcMirrorTick at ht; cases ht; apply keeps_ite; apply keeps_mirrorCounters; assumption; assumption

theorem keeps_refuseReg {W : Part → Prop} [May W .regs] {s0 : State} (off : Nat) (s : State) (hk0 : Keeps W s0 s) : Keeps W s0
    (refuseReg off s) := by
  unfold refuseReg; apply keeps_State_raise; assumption

theorem keeps_clearBits {W : Part → Prop} [May W .regs] {s0 : State} (off mask : Nat) (p : Piece) (s : State) (hk0 : Keeps W s0 s)
    : Keeps W s0 (clearBits off mask p s) := by
  unfold clearBits; apply keeps_State_setWord; assumption

theorem keeps_plainWrite {W : Part → Prop} [May W .regs] {s0 : State} (off mask : Nat) (p : Piece) (s : State) (hk0
    : Keeps W s0 s) : Keeps W s0 (plainWrite off mask p s) := by
  unfold plainWrite; dsimp only; apply keeps_ite; apply keeps_State_setWord; assumption; apply keeps_refuseReg; assumption

theorem keeps_whenLive {W : Part → Prop} {s0 : State} (f : State → State) (s : State) (hf_f : ∀ x0, Keeps W s0 x0 → Keeps W s0 (f x0))
    (hk0 : Keeps W s0 s) : Keeps W s0 (whenLive f s) := by
  unfold whenLive; apply keeps_ite; apply hf_f; assumption; assumption

theorem keeps_onBit {W : Part → Prop} {s0 : State} (v : Word) (b : Nat) (f : State → State) (s : State)
    (hf_f : ∀ x0, Keeps W s0 x0 → Keeps W s0 (f x0)) (hk0 : Keeps W s0 s) : Keeps W s0 (onBit v b f s) := by
  unfold onBit; apply keeps_ite; apply hf_f; assumption; assumption

theorem keeps_writePrm {W : Part → Prop} [May W .regs] [May W .board] {s0 : State} (who : Option Who) (off : Nat) (v : Word) (s : State)
    (hk0 : Keeps W s0 s) : Keeps W s0 (writePrm who off v s) := by
  unfold writePrm; split; apply keeps_onBit; intro _; intro _; apply keeps_releaseHeld; assumption; apply keeps_onBit; intro _; intro _
  apply keeps_releaseHeld; assumption; apply keeps_onBit; intro _; intro _; apply keeps_requestHandover; assumption; assumption; split
  assumption; apply keeps_ite; apply keeps_State_modPrompter; assumption; assumption; apply keeps_refuseReg; assumption
  apply keeps_refuseReg; assumption; apply keeps_refuseReg; assumption; assumption

theorem keeps_writeSec {W : Part → Prop} [May W .regs] [May W .board] [May W .sec] [May W .host] [May W .outbox] {s0 : State}
    (who : Option Who) (off : Nat) (p : Piece) (s : State) (hk0 : Keeps W s0 s) : Keeps W s0 (writeSec who off p s) := by
  unfold writeSec; apply keeps_ite; assumption; apply keeps_ite; apply keeps_capGo; assumption; apply keeps_ite; apply keeps_capWindow
  assumption; apply keeps_ite; apply keeps_fwWindow; assumption; assumption

theorem keeps_writeChan {W : Part → Prop} [May W .regs] {s0 : State} (c : Nat) (v : Word) (s : State) (hk0 : Keeps W s0 s) : Keeps W s0
    (writeChan c v s) := by
  unfold writeChan; apply keeps_ite; apply keeps_State_setFld; assumption; dsimp only; apply keeps_ite; apply keeps_State_setWord
  assumption; apply keeps_refuseReg; assumption

theorem keeps_writeChannel {W : Part → Prop} [May W .regs] [May W .links] [May W .swc] [May W .cue] [May W .board] [May W .mail]
    [May W .waking] [May W .outbox] {s0 : State} (who : Option Who) (c off : Nat) (p : Piece) (s : State) (hk0 : Keeps W s0 s)
    : Keeps W s0 (writeChannel who c off p s) := by
  unfold writeChannel; apply keeps_ite; assumption; apply keeps_ite; apply keeps_ite; apply keeps_State_setWord; assumption; assumption
  split; apply keeps_writeChan; assumption; apply keeps_ite; apply keeps_hostSend; assumption; assumption; apply keeps_ite
  apply keeps_popFor; assumption; assumption; assumption

theorem keeps_writeMbx {W : Part → Prop} [May W .regs] [May W .links] [May W .swc] [May W .cue] [May W .board] [May W .mail]
    [May W .waking] [May W .outbox] {s0 : State} (who : Option Who) (off : Nat) (p : Piece) (s : State) (hk0 : Keeps W s0 s)
    : Keeps W s0 (writeMbx who off p s) := by
  unfold writeMbx; split; apply keeps_writeChannel; assumption; apply keeps_ite; apply keeps_onBit; intro _; intro _
  apply keeps_forceSem; assumption; assumption; apply keeps_ite; apply keeps_ite; apply keeps_releaseSem; assumption; assumption
  assumption

theorem keeps_linkIdle {W : Part → Prop} [May W .regs] [May W .links] [May W .swc] [May W .rhs] [May W .outbox] {s0 : State} (l : Nat)
    (on was : Bool) (s : State) (hk0 : Keeps W s0 s) : Keeps W s0 (linkIdle l on was s) := by
  unfold linkIdle; apply keeps_ite; apply keeps_enterDown; assumption; assumption

theorem keeps_writeLinkCtrl {W : Part → Prop} [May W .regs] [May W .house] [May W .links] [May W .sites] [May W .swc] [May W .ten]
    [May W .sp] [May W .cue] [May W .col] [May W .board] [May W .mail] [May W .host] [May W .rhs] [May W .spState] [May W .outbox]
    {s0 : State} (l : Nat) (v : Word) (s : State) (hk0 : Keeps W s0 s) : Keeps W s0 (writeLinkCtrl l v s) := by
  unfold writeLinkCtrl; dsimp only; apply keeps_ite; apply keeps_onBit; intro _; intro _; apply keeps_retrainFull; assumption
  apply keeps_onBit; intro _; intro _; apply keeps_ite; apply keeps_ownRetrain; assumption; assumption; apply keeps_ite
  apply keeps_enableLink; apply keeps_State_setFld; apply keeps_State_setFld; apply keeps_State_setFld; apply keeps_State_setFld
  assumption; apply keeps_ite; apply keeps_disableLink; apply keeps_State_setFld; apply keeps_State_setFld; apply keeps_State_setFld
  apply keeps_State_setFld; assumption; apply keeps_State_setFld; apply keeps_State_setFld; apply keeps_State_setFld
  apply keeps_State_setFld; assumption; apply keeps_linkIdle; apply keeps_State_setFld; apply keeps_State_setFld
  apply keeps_State_setFld; apply keeps_State_setFld; apply keeps_State_setFld; assumption

theorem keeps_writeLnk {W : Part → Prop} [May W .regs] [May W .house] [May W .links] [May W .sites] [May W .swc] [May W .ten]
    [May W .sp] [May W .cue] [May W .col] [May W .board] [May W .mail] [May W .host] [May W .rhs] [May W .spState] [May W .outbox]
    {s0 : State} (off : Nat) (p : Piece) (s : State) (hk0 : Keeps W s0 s) : Keeps W s0 (writeLnk off p s) := by
  unfold writeLnk; apply keeps_ite; dsimp only; split; apply keeps_writeLinkCtrl; assumption; apply keeps_whenLive; intro _; intro _
  apply keeps_writeLoop; assumption; assumption; assumption; assumption

theorem keeps_writeEntry16 {W : Part → Prop} [May W .regs] {s0 : State} (off : Nat) (p : Piece) (i : Nat) (s : State) (hk0
    : Keeps W s0 s) : Keeps W s0 (writeEntry16 off p i s) := by
  unfold writeEntry16; apply keeps_ite; assumption; dsimp only; apply keeps_ite; apply keeps_State_setFld; assumption
  apply keeps_refuseReg; assumption

theorem keeps_writeRouteMode {W : Part → Prop} [May W .regs] [May W .links] [May W .swc] {s0 : State} (v : Word) (s : State) (hk0
    : Keeps W s0 s) : Keeps W s0 (writeRouteMode v s) := by
  unfold writeRouteMode; dsimp only; apply keeps_ite; apply keeps_stopReorder; apply keeps_State_setFld; apply keeps_State_setFld
  assumption; apply keeps_State_setFld; apply keeps_State_setFld; assumption

theorem keeps_writeActCtrl {W : Part → Prop} [May W .regs] [May W .swc] {s0 : State} (v : Word) (s : State) (hk0 : Keeps W s0 s)
    : Keeps W s0 (writeActCtrl v s) := by
  unfold writeActCtrl; dsimp only; apply keeps_ite; apply keeps_refuseAct; assumption; apply keeps_onBit; intro _; intro _
  apply keeps_armAct; assumption; apply keeps_onBit; intro _; intro _; apply keeps_armAct; assumption; apply keeps_onBit; intro _
  intro _; apply keeps_sealAct; assumption; apply keeps_onBit; intro _; intro _; apply keeps_sealAct; assumption
  apply keeps_State_setFld; assumption

theorem keeps_writeSwc {W : Part → Prop} [May W .regs] [May W .links] [May W .swc] {s0 : State} (off : Nat) (p : Piece) (s : State)
    (hk0 : Keeps W s0 s) : Keeps W s0 (writeSwc off p s) := by
  unfold writeSwc; apply keeps_ite; apply keeps_refuseReg; assumption; apply keeps_ite; apply keeps_writeRouteMode; assumption
  apply keeps_ite; apply keeps_writeActCtrl; assumption; apply keeps_ite; apply keeps_onBit; intro _; intro _; apply keeps_clearStaged
  assumption; assumption; apply keeps_ite; apply keeps_forEach; intro _; intro _; intro _; apply keeps_writeEntry16; assumption
  assumption; apply keeps_ite; apply keeps_ite; apply keeps_State_setWord; assumption; apply keeps_refuseReg; assumption; assumption

theorem keeps_writeCol {W : Part → Prop} [May W .regs] [May W .ten] [May W .cue] [May W .col] {s0 : State} (off : Nat) (p : Piece)
    (s : State) (hk0 : Keeps W s0 s) : Keeps W s0 (writeCol off p s) := by
  unfold writeCol; apply keeps_ite; dsimp only; apply keeps_whenLive; intro _; intro _; split; apply keeps_groupCommit; assumption
  apply keeps_holdWord; assumption; assumption; assumption

theorem keeps_writeSeqCtrl {W : Part → Prop} [May W .regs] [May W .ten] [May W .cue] [May W .waking] {s0 : State} (q : Nat) (v : Word)
    (s : State) (hk0 : Keeps W s0 s) : Keeps W s0 (writeSeqCtrl q v s) := by
  unfold writeSeqCtrl; dsimp only; apply keeps_onBit; intro _; intro _; apply keeps_killSeq; assumption; apply keeps_ite
  apply keeps_State_setFld; assumption; apply keeps_disableSeq; apply keeps_State_setFld; assumption

theorem keeps_writeLoadCtrl {W : Part → Prop} [May W .regs] [May W .ten] [May W .cue] {s0 : State} (v : Word) (s : State) (hk0
    : Keeps W s0 s) : Keeps W s0 (writeLoadCtrl v s) := by
  unfold writeLoadCtrl; split; assumption; apply keeps_loadProgram; assumption; apply keeps_unloadProgram; assumption
  apply keeps_State_raise; assumption

theorem keeps_writeCue {W : Part → Prop} [May W .regs] [May W .ten] [May W .cue] [May W .waking] {s0 : State} (off : Nat) (p : Piece)
    (s : State) (hk0 : Keeps W s0 s) : Keeps W s0 (writeCue off p s) := by
  unfold writeCue; apply keeps_ite; apply keeps_whenLive; intro _; intro _; apply keeps_writeLoadCtrl; assumption; assumption
  apply keeps_ite; apply keeps_whenLive; intro _; intro _; apply keeps_clearCounter; assumption; assumption; apply keeps_ite
  apply keeps_whenLive; intro _; intro _; apply keeps_writeSeqCtrl; assumption; assumption; apply keeps_ite; dsimp only
  apply keeps_whenLive; intro _; intro _; apply keeps_enableTrigger; assumption; assumption; apply keeps_ite; apply keeps_whenLive
  intro _; intro _; apply keeps_ringByHost; assumption; assumption; assumption

theorem keeps_writeTileCmd {W : Part → Prop} [May W .regs] [May W .ten] [May W .host] [May W .spState] [May W .waking] [May W .outbox]
    {s0 : State} (v : Word) (s : State) (hk0 : Keeps W s0 s) : Keeps W s0 (writeTileCmd v s) := by
  unfold writeTileCmd; dsimp only; apply keeps_ite; apply keeps_State_raise; assumption; split; assumption; apply keeps_swingCmd
  assumption; apply keeps_retireCmd; assumption; apply keeps_returnTile; assumption

theorem keeps_writeMemStrike {W : Part → Prop} [May W .regs] [May W .house] [May W .links] [May W .swc] [May W .mem] [May W .rhs]
    [May W .outbox] {s0 : State} (v : Word) (s : State) (hk0 : Keeps W s0 s) : Keeps W s0 (writeMemStrike v s) := by
  unfold writeMemStrike; dsimp only; apply keeps_ite; apply keeps_State_raise; assumption; apply keeps_whenLive; intro _; intro _
  apply keeps_onBit; intro _; intro _; apply keeps_returnChannel; assumption; apply keeps_onBit; intro _; intro _
  apply keeps_strikeChannel; assumption; assumption; apply keeps_State_setFld; assumption

theorem keeps_writeRegion {W : Part → Prop} [May W .regs] {s0 : State} (k : Nat) (v : Word) (s : State) (hk0 : Keeps W s0 s)
    : Keeps W s0 (writeRegion k v s) := by
  unfold writeRegion; dsimp only; apply keeps_ite; assumption; apply keeps_ite; apply keeps_State_raise; assumption
  apply keeps_State_setFld; apply keeps_State_setFld; apply keeps_State_setFld; apply keeps_State_setFld; assumption

theorem keeps_writeMode {W : Part → Prop} [May W .regs] [May W .links] [May W .swc] [May W .mem] {s0 : State} (k : Nat) (v : Word)
    (s : State) (hk0 : Keeps W s0 s) : Keeps W s0 (writeMode k v s) := by
  unfold writeMode; split; apply keeps_whenLive; intro _; intro _; apply keeps_stopMirror; assumption; assumption; apply keeps_whenLive
  intro _; intro _; apply keeps_startSync; assumption; assumption; apply keeps_State_raise; assumption

theorem keeps_writeWindow {W : Part → Prop} [May W .regs] {s0 : State} (k : Nat) (v : Word) (s : State) (hk0 : Keeps W s0 s)
    : Keeps W s0 (writeWindow k v s) := by
  unfold writeWindow; dsimp only; apply keeps_ite; apply keeps_State_raise; assumption; apply keeps_State_setFld
  apply keeps_State_setFld; apply keeps_State_setFld; apply keeps_State_setFld; assumption

theorem keeps_writeWindowLocal {W : Part → Prop} [May W .regs] {s0 : State} (k : Nat) (v : Word) (s : State) (hk0 : Keeps W s0 s)
    : Keeps W s0 (writeWindowLocal k v s) := by
  unfold writeWindowLocal; dsimp only; apply keeps_ite; apply keeps_State_raise; assumption; apply keeps_whenLive; intro _; intro _
  apply keeps_enableWindow; assumption; apply keeps_State_setFld; assumption

theorem keeps_writeMem {W : Part → Prop} [May W .regs] [May W .house] [May W .links] [May W .swc] [May W .mem] [May W .rhs]
    [May W .outbox] {s0 : State} (off : Nat) (p : Piece) (s : State) (hk0 : Keeps W s0 s) : Keeps W s0 (writeMem off p s) := by
  unfold writeMem; dsimp only; apply keeps_ite; apply keeps_writeMemStrike; assumption; apply keeps_ite; apply keeps_whenLive; intro _
  intro _; apply keeps_writeSet; assumption; assumption; apply keeps_ite; apply keeps_writeRegion; assumption; apply keeps_ite
  apply keeps_writeMode; assumption; apply keeps_ite; apply keeps_writeWindow; assumption; apply keeps_ite; apply keeps_writeWindowLocal
  assumption; assumption

theorem keeps_writeRhsCtrl {W : Part → Prop} [May W .regs] [May W .rhs] {s0 : State} (v : Word) (s : State) (hk0 : Keeps W s0 s)
    : Keeps W s0 (writeRhsCtrl v s) := by
  unfold writeRhsCtrl; dsimp only; apply keeps_ite; apply keeps_State_setFld; apply keeps_State_setFld; assumption
  apply keeps_abandonAllSlices; apply keeps_State_setFld; apply keeps_State_setFld; assumption

theorem keeps_writeThm {W : Part → Prop} [May W .regs] {s0 : State} (off : Nat) (s : State) (hk0 : Keeps W s0 s) : Keeps W s0
    (writeThm off s) := by
  unfold writeThm; apply keeps_ite; apply keeps_refuseReg; assumption; assumption

theorem keeps_writeInv {W : Part → Prop} [May W .regs] [May W .house] [May W .links] [May W .sites] [May W .swc] [May W .ten]
    [May W .sp] [May W .cue] [May W .col] [May W .board] [May W .mail] [May W .host] [May W .rhs] [May W .spState] [May W .outbox]
    {s0 : State} (off : Nat) (p : Piece) (s : State) (hk0 : Keeps W s0 s) : Keeps W s0 (writeInv off p s) := by
  unfold writeInv; dsimp only; split; apply keeps_assignCoord; assumption; apply keeps_onBit; intro _; intro _
  apply keeps_releaseMaster; assumption; assumption; apply keeps_onBit; intro _; intro _; apply keeps_returnStrike; assumption
  apply keeps_onBit; intro _; intro _; apply keeps_cancelStrike; assumption; apply keeps_onBit; intro _; intro _
  apply keeps_startStrike; assumption; assumption; assumption

theorem keeps_writeAction {W : Part → Prop} [May W .regs] [May W .house] [May W .links] [May W .sites] [May W .swc] [May W .mem]
    [May W .ten] [May W .sp] [May W .cue] [May W .col] [May W .board] [May W .mail] [May W .sec] [May W .host] [May W .rhs]
    [May W .spState] [May W .waking] [May W .outbox] {s0 : State} (who : Option Who) (off : Nat) (p : Piece) (s : State) (hk0
    : Keeps W s0 s) : Keeps W s0 (writeAction who off p s) := by
  unfold writeAction; apply keeps_ite; apply keeps_writePrm; assumption; apply keeps_ite; apply keeps_writeSec; assumption
  apply keeps_ite; apply keeps_writeMbx; assumption; apply keeps_ite; assumption; apply keeps_ite; apply keeps_writeLnk; assumption
  apply keeps_ite; apply keeps_writeSwc; assumption; apply keeps_ite; apply keeps_writeCol; assumption; apply keeps_ite
  apply keeps_writeCue; assumption; apply keeps_ite; apply keeps_ite; apply keeps_whenLive; intro _; intro _; apply keeps_writeTileCmd
  assumption; assumption; assumption; apply keeps_ite; apply keeps_writeMem; assumption; apply keeps_ite; apply keeps_ite
  apply keeps_writeRhsCtrl; assumption; assumption; apply keeps_ite; apply keeps_writeThm; assumption; apply keeps_writeInv; assumption

theorem keeps_writePiece {W : Part → Prop} [May W .regs] [May W .house] [May W .links] [May W .sites] [May W .swc] [May W .mem]
    [May W .ten] [May W .sp] [May W .cue] [May W .col] [May W .board] [May W .mail] [May W .sec] [May W .host] [May W .rhs]
    [May W .spState] [May W .waking] [May W .outbox] {s0 : State} (who : Option Who) (off : Nat) (p : Piece) (s : State) (hk0
    : Keeps W s0 s) : Keeps W s0 (writePiece who off p s) := by
  unfold writePiece; apply keeps_ite; assumption; split; apply keeps_clearBits; assumption; split; apply keeps_plainWrite; assumption
  apply keeps_writeAction; assumption

theorem keeps_writeBytes {W : Part → Prop} [May W .regs] [May W .house] [May W .links] [May W .sites] [May W .swc] [May W .mem]
    [May W .ten] [May W .sp] [May W .cue] [May W .col] [May W .board] [May W .mail] [May W .sec] [May W .host] [May W .rhs]
    [May W .spState] [May W .waking] [May W .outbox] {s0 : State} (who : Option Who) (addr : Nat) (bytes : List Byte) (s : State)
    (hk0 : Keeps W s0 s) : Keeps W s0 (writeBytes who addr bytes s) := by
  unfold writeBytes; apply keeps_forEach; intro _; intro _; intro _; apply keeps_writePiece; assumption; assumption

theorem keeps_readBar {W : Part → Prop} [May W .mail] {s0 : State} (off : Nat) (s : State) (hk0 : Keeps W s0 s) : Keeps W s0
    (readBar off s).2 := by
  unfold readBar; split; dsimp only; apply keeps_acquireSem; assumption; dsimp only; assumption

theorem keeps_readBars {W : Part → Prop} [May W .mail] {s0 : State} (n off : Nat) (s : State) (hk0 : Keeps W s0 s) : Keeps W s0 (readBars n off s).2 := by
  induction n generalizing off s with
  | zero => exact hk0
  | succ k ih =>
    unfold readBars
    exact ih _ _ (keeps_readBar _ _ hk0)

theorem keeps_readBytes {W : Part → Prop} [May W .mail] {s0 : State} (addr n : Nat) (s : State) (hk0 : Keeps W s0 s) : Keeps W s0
    (readBytes addr n s).2 := by
  unfold readBytes; split; dsimp only; assumption; dsimp only; apply keeps_readBars; assumption

theorem keeps_sideEffect {W : Part → Prop} [May W .regs] [May W .house] [May W .links] [May W .sites] [May W .swc] [May W .mem]
    [May W .ten] [May W .sp] [May W .cue] [May W .col] [May W .board] [May W .mail] [May W .sec] [May W .host] [May W .rhs]
    [May W .spState] [May W .waking] [May W .outbox] {s0 : State} (who : Who) (e : SideEffect) (s : State) (hk0 : Keeps W s0 s)
    : Keeps W s0 (sideEffect who e s) := by
  unfold sideEffect; split; apply keeps_writeBytes; assumption; apply keeps_emit; assumption; apply keeps_prompterSend; assumption
  apply keeps_popFor; assumption; dsimp only; apply keeps_intake; apply keeps_acquireSem; assumption; apply keeps_releaseSem; assumption

theorem keeps_stageWrite {W : Part → Prop} [May W .regs] [May W .house] [May W .links] [May W .sites] [May W .swc] [May W .mem]
    [May W .ten] [May W .sp] [May W .cue] [May W .col] [May W .board] [May W .mail] [May W .sec] [May W .host] [May W .rhs]
    [May W .spState] [May W .waking] [May W .outbox] {s0 : State} (who : Who) (k claim seq : Nat) (e : SideEffect) (s : State)
    (hk0 : Keeps W s0 s) : Keeps W s0 (stageWrite who k claim seq e s) := by
  unfold stageWrite; split; apply keeps_State_count; assumption; apply keeps_State_count; assumption; apply keeps_State_count
  assumption; apply keeps_sideEffect; apply keeps_stageAccept; assumption

theorem keeps_resendOne {W : Part → Prop} [May W .regs] [May W .house] [May W .links] [May W .sites] [May W .swc] [May W .mem]
    [May W .ten] [May W .sp] [May W .cue] [May W .col] [May W .board] [May W .mail] [May W .sec] [May W .host] [May W .rhs]
    [May W .spState] [May W .waking] [May W .outbox] {s0 : State} (s : State) (hk0 : Keeps W s0 s) : Keeps W s0 (resendOne s) := by
  unfold resendOne; split; assumption; split; assumption; apply keeps_stageWrite; apply keeps_State_modPrompter; assumption

theorem keeps_keepOwn {W : Part → Prop} [May W .board] {s0 : State} (who : Who) (k seq : Nat) (e : SideEffect) (s : State) (hk0
    : Keeps W s0 s) : Keeps W s0 (keepOwn who k seq e s) := by
  unfold keepOwn; apply keeps_ite; apply keeps_keepWrite; assumption; assumption

theorem keeps_execStageWrite {W : Part → Prop} [May W .regs] [May W .house] [May W .links] [May W .sites] [May W .swc] [May W .mem]
    [May W .ten] [May W .sp] [May W .cue] [May W .col] [May W .board] [May W .mail] [May W .sec] [May W .host] [May W .rhs]
    [May W .spState] [May W .waking] [May W .outbox] {s0 : State} (who : Who) (k : Fin 8) (claim seq : Fin 4294967296)
    (effect : SideEffect) (s : State) (hk0 : Keeps W s0 s) {tnext : State}
    (ht : execStageWrite who k claim seq effect s = .next tnext) : Keeps W s0 tnext := by
  unfold execStageWrite at ht; cases ht; apply keeps_ite; apply keeps_stageWrite; apply keeps_keepOwn; assumption; assumption

theorem keeps_takeRegRead {W : Part → Prop} [May W .mail] [May W .outbox] {s0 : State} (p : Port) (off words : Nat) (s : State)
    (hk0 : Keeps W s0 s) : Keeps W s0 (takeRegRead p off words s) := by
  unfold takeRegRead; apply keeps_ite; apply keeps_vendorAnswer; assumption; dsimp only; apply keeps_vendorAnswer; apply keeps_readBytes
  assumption

theorem keeps_execRegRead {W : Part → Prop} [May W .mail] [May W .outbox] {s0 : State} (p : Port) (off words : Nat) (s : State)
    (hk0 : Keeps W s0 s) {tnext : State} (ht : execRegRead p off words s = .next tnext) : Keeps W s0 tnext := by
  unfold execRegRead at ht; cases ht; apply keeps_ite; apply keeps_orRelay; intro _; intro _; apply keeps_ite; apply keeps_takeRegRead
  assumption; assumption; assumption; assumption

theorem keeps_takeRegWrite {W : Part → Prop} [May W .regs] [May W .house] [May W .links] [May W .sites] [May W .swc] [May W .mem]
    [May W .ten] [May W .sp] [May W .cue] [May W .col] [May W .board] [May W .mail] [May W .sec] [May W .host] [May W .rhs]
    [May W .spState] [May W .waking] [May W .outbox] {s0 : State} (p : Port) (off : Nat) (value : Word) (s : State) (hk0
    : Keeps W s0 s) : Keeps W s0 (takeRegWrite p off value s) := by
  unfold takeRegWrite; apply keeps_ite; apply keeps_vendorAnswer; assumption; apply keeps_ite; apply keeps_vendorAnswer; assumption
  apply keeps_vendorAnswer; apply keeps_writeBytes; assumption

theorem keeps_execRegWrite {W : Part → Prop} [May W .regs] [May W .house] [May W .links] [May W .sites] [May W .swc] [May W .mem]
    [May W .ten] [May W .sp] [May W .cue] [May W .col] [May W .board] [May W .mail] [May W .sec] [May W .host] [May W .rhs]
    [May W .spState] [May W .waking] [May W .outbox] {s0 : State} (p : Port) (off : Nat) (value : Word) (s : State) (hk0 : Keeps W s0 s)
    {tnext : State} (ht : execRegWrite p off value s = .next tnext) : Keeps W s0 tnext := by
  unfold execRegWrite at ht; cases ht; apply keeps_ite; apply keeps_orRelay; intro _; intro _; apply keeps_ite; apply keeps_takeRegWrite
  assumption; assumption; assumption; assumption

theorem keeps_execRegisterWrite {W : Part → Prop} [May W .regs] [May W .house] [May W .links] [May W .sites] [May W .swc] [May W .mem]
    [May W .ten] [May W .sp] [May W .cue] [May W .col] [May W .board] [May W .mail] [May W .sec] [May W .host] [May W .rhs]
    [May W .spState] [May W .waking] [May W .outbox] {s0 : State} (addr : Fin 67108864) (bytes : List Byte) (s : State) (hk0
    : Keeps W s0 s) {tnext : State} (ht : execRegisterWrite addr bytes s = .next tnext) : Keeps W s0 tnext := by
  unfold execRegisterWrite at ht; cases ht; apply keeps_ite; apply keeps_writeBytes; assumption; assumption

theorem keeps_noteReady {W : Part → Prop} [May W .regs] {s0 : State} (s : State) (hk0 : Keeps W s0 s) : Keeps W s0 (noteReady s) := by
  unfold noteReady; apply keeps_ite; apply keeps_State_setFld; assumption; assumption

theorem keeps_copyPiece {W : Part → Prop} [May W .regs] [May W .links] [May W .swc] [May W .mem] [May W .waking] {s0 : State}
    (s : State) (hk0 : Keeps W s0 s) : Keeps W s0 (copyPiece s) := by
  unfold copyPiece; split; assumption; apply keeps_syncStep; assumption

theorem keeps_countCycles {W : Part → Prop} [May W .regs] {s0 : State} (s : State) (hk0 : Keeps W s0 s) : Keeps W s0 (countCycles s) := by
  unfold countCycles; dsimp only; apply keeps_forEach; intro _; intro _; intro _; apply keeps_ite; assumption; apply keeps_pmcEvent
  assumption; apply keeps_forEach; intro _; intro _; intro _; apply keeps_pmcEvent; assumption; apply keeps_ite; apply keeps_forEach
  intro _; intro _; intro _; apply keeps_pmcEvent; assumption; apply keeps_forEach; intro _; intro _; intro _; apply keeps_pmcEvent
  assumption; assumption; apply keeps_pmcEvent; apply keeps_forEach; intro _; intro _; intro _; apply keeps_pmcEvent; assumption
  apply keeps_forEach; intro _; intro _; intro _; apply keeps_pmcEvent; assumption; assumption

theorem keeps_tick {W : Part → Prop} [May W .regs] [May W .house] [May W .links] [May W .sites] [May W .swc] [May W .mem] [May W .dram]
    [May W .ten] [May W .sp] [May W .cue] [May W .col] [May W .board] [May W .mail] [May W .power] [May W .sec] [May W .host]
    [May W .rhs] [May W .spState] [May W .waking] [May W .outbox] {s0 : State} (s : State) (hk0 : Keeps W s0 s) : Keeps W s0
    (tick s) := by
  unfold tick; apply keeps_ite; dsimp only; apply keeps_noteReady; apply keeps_resumeAll; apply keeps_countSlotWaits
  apply keeps_serveHost; apply keeps_admitCircuits; apply keeps_serveInternal; apply keeps_settleSites; apply keeps_pmicStep
  apply keeps_copyPiece; apply keeps_startFlights; apply keeps_sendMboxNotice; apply keeps_sendAlert; apply keeps_pollTargets
  apply keeps_resendOne; apply keeps_countAttempts; apply keeps_countCycles; apply keeps_pmcEvent; apply keeps_State_setFld; assumption
  assumption

end Sys2Proof.Machine
end

