-- ==== Sys2Proof/Laws/State.lean ====
section
/-! SUPPORT. Laws of the state: what each elementary update leaves and what it writes, one lemma for each field; reads of BAR0 after
writes. -/
namespace Sys2Proof.Machine

@[simp] theorem State.setWord_code (s : State) (off : Nat) (v : Word) : (s.setWord off v).code = s.code := rfl
@[simp] theorem State.setWord_house (s : State) (off : Nat) (v : Word) : (s.setWord off v).house = s.house := rfl
@[simp] theorem State.setWord_links (s : State) (off : Nat) (v : Word) : (s.setWord off v).links = s.links := rfl
@[simp] theorem State.setWord_sites (s : State) (off : Nat) (v : Word) : (s.setWord off v).sites = s.sites := rfl
@[simp] theorem State.setWord_swc (s : State) (off : Nat) (v : Word) : (s.setWord off v).swc = s.swc := rfl
@[simp] theorem State.setWord_mem (s : State) (off : Nat) (v : Word) : (s.setWord off v).mem = s.mem := rfl
@[simp] theorem State.setWord_ten (s : State) (off : Nat) (v : Word) : (s.setWord off v).ten = s.ten := rfl
@[simp] theorem State.setWord_cue (s : State) (off : Nat) (v : Word) : (s.setWord off v).cue = s.cue := rfl
@[simp] theorem State.setWord_col (s : State) (off : Nat) (v : Word) : (s.setWord off v).col = s.col := rfl
@[simp] theorem State.setWord_board (s : State) (off : Nat) (v : Word) : (s.setWord off v).board = s.board := rfl
@[simp] theorem State.setWord_mail (s : State) (off : Nat) (v : Word) : (s.setWord off v).mail = s.mail := rfl
@[simp] theorem State.setWord_power (s : State) (off : Nat) (v : Word) : (s.setWord off v).power = s.power := rfl
@[simp] theorem State.setWord_sec (s : State) (off : Nat) (v : Word) : (s.setWord off v).sec = s.sec := rfl
@[simp] theorem State.setWord_host (s : State) (off : Nat) (v : Word) : (s.setWord off v).host = s.host := rfl
@[simp] theorem State.setWord_rhs (s : State) (off : Nat) (v : Word) : (s.setWord off v).rhs = s.rhs := rfl
@[simp] theorem State.setWord_spState (s : State) (off : Nat) (v : Word) : (s.setWord off v).spState = s.spState := rfl
@[simp] theorem State.setWord_waking (s : State) (off : Nat) (v : Word) : (s.setWord off v).waking = s.waking := rfl
@[simp] theorem State.setWord_outbox (s : State) (off : Nat) (v : Word) : (s.setWord off v).outbox = s.outbox := rfl
@[simp] theorem State.setWord_free (s : State) (off : Nat) (v : Word) : (s.setWord off v).free = s.free := rfl
@[simp] theorem State.setWord_pending (s : State) (off : Nat) (v : Word) : (s.setWord off v).pending = s.pending := rfl

@[simp] theorem State.setFld_code (s : State) (f : Field) (x : Nat) : (s.setFld f x).code = s.code := rfl
@[simp] theorem State.setFld_house (s : State) (f : Field) (x : Nat) : (s.setFld f x).house = s.house := rfl
@[simp] theorem State.setFld_links (s : State) (f : Field) (x : Nat) : (s.setFld f x).links = s.links := rfl
@[simp] theorem State.setFld_sites (s : State) (f : Field) (x : Nat) : (s.setFld f x).sites = s.sites := rfl
@[simp] theorem State.setFld_swc (s : State) (f : Field) (x : Nat) : (s.setFld f x).swc = s.swc := rfl
@[simp] theorem State.setFld_mem (s : State) (f : Field) (x : Nat) : (s.setFld f x).mem = s.mem := rfl
@[simp] theorem State.setFld_ten (s : State) (f : Field) (x : Nat) : (s.setFld f x).ten = s.ten := rfl
@[simp] theorem State.setFld_cue (s : State) (f : Field) (x : Nat) : (s.setFld f x).cue = s.cue := rfl
@[simp] theorem State.setFld_col (s : State) (f : Field) (x : Nat) : (s.setFld f x).col = s.col := rfl
@[simp] theorem State.setFld_board (s : State) (f : Field) (x : Nat) : (s.setFld f x).board = s.board := rfl
@[simp] theorem State.setFld_mail (s : State) (f : Field) (x : Nat) : (s.setFld f x).mail = s.mail := rfl
@[simp] theorem State.setFld_power (s : State) (f : Field) (x : Nat) : (s.setFld f x).power = s.power := rfl
@[simp] theorem State.setFld_sec (s : State) (f : Field) (x : Nat) : (s.setFld f x).sec = s.sec := rfl
@[simp] theorem State.setFld_host (s : State) (f : Field) (x : Nat) : (s.setFld f x).host = s.host := rfl
@[simp] theorem State.setFld_rhs (s : State) (f : Field) (x : Nat) : (s.setFld f x).rhs = s.rhs := rfl
@[simp] theorem State.setFld_spState (s : State) (f : Field) (x : Nat) : (s.setFld f x).spState = s.spState := rfl
@[simp] theorem State.setFld_waking (s : State) (f : Field) (x : Nat) : (s.setFld f x).waking = s.waking := rfl
@[simp] theorem State.setFld_outbox (s : State) (f : Field) (x : Nat) : (s.setFld f x).outbox = s.outbox := rfl
@[simp] theorem State.setFld_free (s : State) (f : Field) (x : Nat) : (s.setFld f x).free = s.free := rfl
@[simp] theorem State.setFld_pending (s : State) (f : Field) (x : Nat) : (s.setFld f x).pending = s.pending := rfl

@[simp] theorem emit_code (s : State) (m : OutMsg) : (emit m s).code = s.code := rfl
@[simp] theorem emit_regs (s : State) (m : OutMsg) : (emit m s).regs = s.regs := rfl
@[simp] theorem emit_house (s : State) (m : OutMsg) : (emit m s).house = s.house := rfl
@[simp] theorem emit_links (s : State) (m : OutMsg) : (emit m s).links = s.links := rfl
@[simp] theorem emit_sites (s : State) (m : OutMsg) : (emit m s).sites = s.sites := rfl
@[simp] theorem emit_swc (s : State) (m : OutMsg) : (emit m s).swc = s.swc := rfl
@[simp] theorem emit_mem (s : State) (m : OutMsg) : (emit m s).mem = s.mem := rfl
@[simp] theorem emit_ten (s : State) (m : OutMsg) : (emit m s).ten = s.ten := rfl
@[simp] theorem emit_cue (s : State) (m : OutMsg) : (emit m s).cue = s.cue := rfl
@[simp] theorem emit_col (s : State) (m : OutMsg) : (emit m s).col = s.col := rfl
@[simp] theorem emit_board (s : State) (m : OutMsg) : (emit m s).board = s.board := rfl
@[simp] theorem emit_mail (s : State) (m : OutMsg) : (emit m s).mail = s.mail := rfl
@[simp] theorem emit_power (s : State) (m : OutMsg) : (emit m s).power = s.power := rfl
@[simp] theorem emit_sec (s : State) (m : OutMsg) : (emit m s).sec = s.sec := rfl
@[simp] theorem emit_host (s : State) (m : OutMsg) : (emit m s).host = s.host := rfl
@[simp] theorem emit_rhs (s : State) (m : OutMsg) : (emit m s).rhs = s.rhs := rfl
@[simp] theorem emit_spState (s : State) (m : OutMsg) : (emit m s).spState = s.spState := rfl
@[simp] theorem emit_waking (s : State) (m : OutMsg) : (emit m s).waking = s.waking := rfl
@[simp] theorem emit_outbox (s : State) (m : OutMsg) : (emit m s).outbox = s.outbox ++ [m] := rfl
@[simp] theorem emit_free (s : State) (m : OutMsg) : (emit m s).free = s.free := rfl
@[simp] theorem emit_pending (s : State) (m : OutMsg) : (emit m s).pending = s.pending := rfl

@[simp] theorem takeFrees_code (s : State) (n : Nat) : (takeFrees n s).code = s.code := rfl
@[simp] theorem takeFrees_regs (s : State) (n : Nat) : (takeFrees n s).regs = s.regs := rfl
@[simp] theorem takeFrees_house (s : State) (n : Nat) : (takeFrees n s).house = s.house := rfl
@[simp] theorem takeFrees_links (s : State) (n : Nat) : (takeFrees n s).links = s.links := rfl
@[simp] theorem takeFrees_sites (s : State) (n : Nat) : (takeFrees n s).sites = s.sites := rfl
@[simp] theorem takeFrees_swc (s : State) (n : Nat) : (takeFrees n s).swc = s.swc := rfl
@[simp] theorem takeFrees_mem (s : State) (n : Nat) : (takeFrees n s).mem = s.mem := rfl
@[simp] theorem takeFrees_ten (s : State) (n : Nat) : (takeFrees n s).ten = s.ten := rfl
@[simp] theorem takeFrees_cue (s : State) (n : Nat) : (takeFrees n s).cue = s.cue := rfl
@[simp] theorem takeFrees_col (s : State) (n : Nat) : (takeFrees n s).col = s.col := rfl
@[simp] theorem takeFrees_board (s : State) (n : Nat) : (takeFrees n s).board = s.board := rfl
@[simp] theorem takeFrees_mail (s : State) (n : Nat) : (takeFrees n s).mail = s.mail := rfl
@[simp] theorem takeFrees_power (s : State) (n : Nat) : (takeFrees n s).power = s.power := rfl
@[simp] theorem takeFrees_sec (s : State) (n : Nat) : (takeFrees n s).sec = s.sec := rfl
@[simp] theorem takeFrees_host (s : State) (n : Nat) : (takeFrees n s).host = s.host := rfl
@[simp] theorem takeFrees_rhs (s : State) (n : Nat) : (takeFrees n s).rhs = s.rhs := rfl
@[simp] theorem takeFrees_spState (s : State) (n : Nat) : (takeFrees n s).spState = s.spState := rfl
@[simp] theorem takeFrees_waking (s : State) (n : Nat) : (takeFrees n s).waking = s.waking := rfl
@[simp] theorem takeFrees_outbox (s : State) (n : Nat) : (takeFrees n s).outbox = s.outbox := rfl
@[simp] theorem takeFrees_free (s : State) (n : Nat) : (takeFrees n s).free = s.free + n := rfl
@[simp] theorem takeFrees_pending (s : State) (n : Nat) : (takeFrees n s).pending = s.pending := rfl

@[simp] theorem State.setLink_code (s : State) (l : Nat) (k : Link) : (s.setLink l k).code = s.code := rfl
@[simp] theorem State.setLink_regs (s : State) (l : Nat) (k : Link) : (s.setLink l k).regs = s.regs := rfl
@[simp] theorem State.setLink_house (s : State) (l : Nat) (k : Link) : (s.setLink l k).house = s.house := rfl
@[simp] theorem State.setLink_sites (s : State) (l : Nat) (k : Link) : (s.setLink l k).sites = s.sites := rfl
@[simp] theorem State.setLink_swc (s : State) (l : Nat) (k : Link) : (s.setLink l k).swc = s.swc := rfl
@[simp] theorem State.setLink_mem (s : State) (l : Nat) (k : Link) : (s.setLink l k).mem = s.mem := rfl
@[simp] theorem State.setLink_ten (s : State) (l : Nat) (k : Link) : (s.setLink l k).ten = s.ten := rfl
@[simp] theorem State.setLink_cue (s : State) (l : Nat) (k : Link) : (s.setLink l k).cue = s.cue := rfl
@[simp] theorem State.setLink_col (s : State) (l : Nat) (k : Link) : (s.setLink l k).col = s.col := rfl
@[simp] theorem State.setLink_board (s : State) (l : Nat) (k : Link) : (s.setLink l k).board = s.board := rfl
@[simp] theorem State.setLink_mail (s : State) (l : Nat) (k : Link) : (s.setLink l k).mail = s.mail := rfl
@[simp] theorem State.setLink_power (s : State) (l : Nat) (k : Link) : (s.setLink l k).power = s.power := rfl
@[simp] theorem State.setLink_sec (s : State) (l : Nat) (k : Link) : (s.setLink l k).sec = s.sec := rfl
@[simp] theorem State.setLink_host (s : State) (l : Nat) (k : Link) : (s.setLink l k).host = s.host := rfl
@[simp] theorem State.setLink_rhs (s : State) (l : Nat) (k : Link) : (s.setLink l k).rhs = s.rhs := rfl
@[simp] theorem State.setLink_spState (s : State) (l : Nat) (k : Link) : (s.setLink l k).spState = s.spState := rfl
@[simp] theorem State.setLink_waking (s : State) (l : Nat) (k : Link) : (s.setLink l k).waking = s.waking := rfl
@[simp] theorem State.setLink_outbox (s : State) (l : Nat) (k : Link) : (s.setLink l k).outbox = s.outbox := rfl
@[simp] theorem State.setLink_free (s : State) (l : Nat) (k : Link) : (s.setLink l k).free = s.free := rfl
@[simp] theorem State.setLink_pending (s : State) (l : Nat) (k : Link) : (s.setLink l k).pending = s.pending := rfl

@[simp] theorem State.setSite_code (s : State) (st : Nat) (x : Site) : (s.setSite st x).code = s.code := rfl
@[simp] theorem State.setSite_regs (s : State) (st : Nat) (x : Site) : (s.setSite st x).regs = s.regs := rfl
@[simp] theorem State.setSite_house (s : State) (st : Nat) (x : Site) : (s.setSite st x).house = s.house := rfl
@[simp] theorem State.setSite_links (s : State) (st : Nat) (x : Site) : (s.setSite st x).links = s.links := rfl
@[simp] theorem State.setSite_swc (s : State) (st : Nat) (x : Site) : (s.setSite st x).swc = s.swc := rfl
@[simp] theorem State.setSite_mem (s : State) (st : Nat) (x : Site) : (s.setSite st x).mem = s.mem := rfl
@[simp] theorem State.setSite_ten (s : State) (st : Nat) (x : Site) : (s.setSite st x).ten = s.ten := rfl
@[simp] theorem State.setSite_cue (s : State) (st : Nat) (x : Site) : (s.setSite st x).cue = s.cue := rfl
@[simp] theorem State.setSite_col (s : State) (st : Nat) (x : Site) : (s.setSite st x).col = s.col := rfl
@[simp] theorem State.setSite_board (s : State) (st : Nat) (x : Site) : (s.setSite st x).board = s.board := rfl
@[simp] theorem State.setSite_mail (s : State) (st : Nat) (x : Site) : (s.setSite st x).mail = s.mail := rfl
@[simp] theorem State.setSite_power (s : State) (st : Nat) (x : Site) : (s.setSite st x).power = s.power := rfl
@[simp] theorem State.setSite_sec (s : State) (st : Nat) (x : Site) : (s.setSite st x).sec = s.sec := rfl
@[simp] theorem State.setSite_host (s : State) (st : Nat) (x : Site) : (s.setSite st x).host = s.host := rfl
@[simp] theorem State.setSite_rhs (s : State) (st : Nat) (x : Site) : (s.setSite st x).rhs = s.rhs := rfl
@[simp] theorem State.setSite_spState (s : State) (st : Nat) (x : Site) : (s.setSite st x).spState = s.spState := rfl
@[simp] theorem State.setSite_waking (s : State) (st : Nat) (x : Site) : (s.setSite st x).waking = s.waking := rfl
@[simp] theorem State.setSite_outbox (s : State) (st : Nat) (x : Site) : (s.setSite st x).outbox = s.outbox := rfl
@[simp] theorem State.setSite_free (s : State) (st : Nat) (x : Site) : (s.setSite st x).free = s.free := rfl
@[simp] theorem State.setSite_pending (s : State) (st : Nat) (x : Site) : (s.setSite st x).pending = s.pending := rfl

@[simp] theorem State.modSwc_code (s : State) (f : Swc → Swc) : (s.modSwc f).code = s.code := rfl
@[simp] theorem State.modSwc_regs (s : State) (f : Swc → Swc) : (s.modSwc f).regs = s.regs := rfl
@[simp] theorem State.modSwc_house (s : State) (f : Swc → Swc) : (s.modSwc f).house = s.house := rfl
@[simp] theorem State.modSwc_links (s : State) (f : Swc → Swc) : (s.modSwc f).links = s.links := rfl
@[simp] theorem State.modSwc_sites (s : State) (f : Swc → Swc) : (s.modSwc f).sites = s.sites := rfl
@[simp] theorem State.modSwc_swc (s : State) (f : Swc → Swc) : (s.modSwc f).swc = f s.swc := rfl
@[simp] theorem State.modSwc_mem (s : State) (f : Swc → Swc) : (s.modSwc f).mem = s.mem := rfl
@[simp] theorem State.modSwc_ten (s : State) (f : Swc → Swc) : (s.modSwc f).ten = s.ten := rfl
@[simp] theorem State.modSwc_cue (s : State) (f : Swc → Swc) : (s.modSwc f).cue = s.cue := rfl
@[simp] theorem State.modSwc_col (s : State) (f : Swc → Swc) : (s.modSwc f).col = s.col := rfl
@[simp] theorem State.modSwc_board (s : State) (f : Swc → Swc) : (s.modSwc f).board = s.board := rfl
@[simp] theorem State.modSwc_mail (s : State) (f : Swc → Swc) : (s.modSwc f).mail = s.mail := rfl
@[simp] theorem State.modSwc_power (s : State) (f : Swc → Swc) : (s.modSwc f).power = s.power := rfl
@[simp] theorem State.modSwc_sec (s : State) (f : Swc → Swc) : (s.modSwc f).sec = s.sec := rfl
@[simp] theorem State.modSwc_host (s : State) (f : Swc → Swc) : (s.modSwc f).host = s.host := rfl
@[simp] theorem State.modSwc_rhs (s : State) (f : Swc → Swc) : (s.modSwc f).rhs = s.rhs := rfl
@[simp] theorem State.modSwc_spState (s : State) (f : Swc → Swc) : (s.modSwc f).spState = s.spState := rfl
@[simp] theorem State.modSwc_waking (s : State) (f : Swc → Swc) : (s.modSwc f).waking = s.waking := rfl
@[simp] theorem State.modSwc_outbox (s : State) (f : Swc → Swc) : (s.modSwc f).outbox = s.outbox := rfl
@[simp] theorem State.modSwc_free (s : State) (f : Swc → Swc) : (s.modSwc f).free = s.free := rfl
@[simp] theorem State.modSwc_pending (s : State) (f : Swc → Swc) : (s.modSwc f).pending = s.pending := rfl

@[simp] theorem State.modMem_code (s : State) (f : Mem → Mem) : (s.modMem f).code = s.code := rfl
@[simp] theorem State.modMem_regs (s : State) (f : Mem → Mem) : (s.modMem f).regs = s.regs := rfl
@[simp] theorem State.modMem_house (s : State) (f : Mem → Mem) : (s.modMem f).house = s.house := rfl
@[simp] theorem State.modMem_links (s : State) (f : Mem → Mem) : (s.modMem f).links = s.links := rfl
@[simp] theorem State.modMem_sites (s : State) (f : Mem → Mem) : (s.modMem f).sites = s.sites := rfl
@[simp] theorem State.modMem_swc (s : State) (f : Mem → Mem) : (s.modMem f).swc = s.swc := rfl
@[simp] theorem State.modMem_mem (s : State) (f : Mem → Mem) : (s.modMem f).mem = f s.mem := rfl
@[simp] theorem State.modMem_ten (s : State) (f : Mem → Mem) : (s.modMem f).ten = s.ten := rfl
@[simp] theorem State.modMem_cue (s : State) (f : Mem → Mem) : (s.modMem f).cue = s.cue := rfl
@[simp] theorem State.modMem_col (s : State) (f : Mem → Mem) : (s.modMem f).col = s.col := rfl
@[simp] theorem State.modMem_board (s : State) (f : Mem → Mem) : (s.modMem f).board = s.board := rfl
@[simp] theorem State.modMem_mail (s : State) (f : Mem → Mem) : (s.modMem f).mail = s.mail := rfl
@[simp] theorem State.modMem_power (s : State) (f : Mem → Mem) : (s.modMem f).power = s.power := rfl
@[simp] theorem State.modMem_sec (s : State) (f : Mem → Mem) : (s.modMem f).sec = s.sec := rfl
@[simp] theorem State.modMem_host (s : State) (f : Mem → Mem) : (s.modMem f).host = s.host := rfl
@[simp] theorem State.modMem_rhs (s : State) (f : Mem → Mem) : (s.modMem f).rhs = s.rhs := rfl
@[simp] theorem State.modMem_spState (s : State) (f : Mem → Mem) : (s.modMem f).spState = s.spState := rfl
@[simp] theorem State.modMem_waking (s : State) (f : Mem → Mem) : (s.modMem f).waking = s.waking := rfl
@[simp] theorem State.modMem_outbox (s : State) (f : Mem → Mem) : (s.modMem f).outbox = s.outbox := rfl
@[simp] theorem State.modMem_free (s : State) (f : Mem → Mem) : (s.modMem f).free = s.free := rfl
@[simp] theorem State.modMem_pending (s : State) (f : Mem → Mem) : (s.modMem f).pending = s.pending := rfl

@[simp] theorem State.modTen_code (s : State) (f : Ten → Ten) : (s.modTen f).code = s.code := rfl
@[simp] theorem State.modTen_regs (s : State) (f : Ten → Ten) : (s.modTen f).regs = s.regs := rfl
@[simp] theorem State.modTen_house (s : State) (f : Ten → Ten) : (s.modTen f).house = s.house := rfl
@[simp] theorem State.modTen_links (s : State) (f : Ten → Ten) : (s.modTen f).links = s.links := rfl
@[simp] theorem State.modTen_sites (s : State) (f : Ten → Ten) : (s.modTen f).sites = s.sites := rfl
@[simp] theorem State.modTen_swc (s : State) (f : Ten → Ten) : (s.modTen f).swc = s.swc := rfl
@[simp] theorem State.modTen_mem (s : State) (f : Ten → Ten) : (s.modTen f).mem = s.mem := rfl
@[simp] theorem State.modTen_ten (s : State) (f : Ten → Ten) : (s.modTen f).ten = f s.ten := rfl
@[simp] theorem State.modTen_cue (s : State) (f : Ten → Ten) : (s.modTen f).cue = s.cue := rfl
@[simp] theorem State.modTen_col (s : State) (f : Ten → Ten) : (s.modTen f).col = s.col := rfl
@[simp] theorem State.modTen_board (s : State) (f : Ten → Ten) : (s.modTen f).board = s.board := rfl
@[simp] theorem State.modTen_mail (s : State) (f : Ten → Ten) : (s.modTen f).mail = s.mail := rfl
@[simp] theorem State.modTen_power (s : State) (f : Ten → Ten) : (s.modTen f).power = s.power := rfl
@[simp] theorem State.modTen_sec (s : State) (f : Ten → Ten) : (s.modTen f).sec = s.sec := rfl
@[simp] theorem State.modTen_host (s : State) (f : Ten → Ten) : (s.modTen f).host = s.host := rfl
@[simp] theorem State.modTen_rhs (s : State) (f : Ten → Ten) : (s.modTen f).rhs = s.rhs := rfl
@[simp] theorem State.modTen_spState (s : State) (f : Ten → Ten) : (s.modTen f).spState = s.spState := rfl
@[simp] theorem State.modTen_waking (s : State) (f : Ten → Ten) : (s.modTen f).waking = s.waking := rfl
@[simp] theorem State.modTen_outbox (s : State) (f : Ten → Ten) : (s.modTen f).outbox = s.outbox := rfl
@[simp] theorem State.modTen_free (s : State) (f : Ten → Ten) : (s.modTen f).free = s.free := rfl
@[simp] theorem State.modTen_pending (s : State) (f : Ten → Ten) : (s.modTen f).pending = s.pending := rfl

@[simp] theorem State.modCue_code (s : State) (f : Cue → Cue) : (s.modCue f).code = s.code := rfl
@[simp] theorem State.modCue_regs (s : State) (f : Cue → Cue) : (s.modCue f).regs = s.regs := rfl
@[simp] theorem State.modCue_house (s : State) (f : Cue → Cue) : (s.modCue f).house = s.house := rfl
@[simp] theorem State.modCue_links (s : State) (f : Cue → Cue) : (s.modCue f).links = s.links := rfl
@[simp] theorem State.modCue_sites (s : State) (f : Cue → Cue) : (s.modCue f).sites = s.sites := rfl
@[simp] theorem State.modCue_swc (s : State) (f : Cue → Cue) : (s.modCue f).swc = s.swc := rfl
@[simp] theorem State.modCue_mem (s : State) (f : Cue → Cue) : (s.modCue f).mem = s.mem := rfl
@[simp] theorem State.modCue_ten (s : State) (f : Cue → Cue) : (s.modCue f).ten = s.ten := rfl
@[simp] theorem State.modCue_cue (s : State) (f : Cue → Cue) : (s.modCue f).cue = f s.cue := rfl
@[simp] theorem State.modCue_col (s : State) (f : Cue → Cue) : (s.modCue f).col = s.col := rfl
@[simp] theorem State.modCue_board (s : State) (f : Cue → Cue) : (s.modCue f).board = s.board := rfl
@[simp] theorem State.modCue_mail (s : State) (f : Cue → Cue) : (s.modCue f).mail = s.mail := rfl
@[simp] theorem State.modCue_power (s : State) (f : Cue → Cue) : (s.modCue f).power = s.power := rfl
@[simp] theorem State.modCue_sec (s : State) (f : Cue → Cue) : (s.modCue f).sec = s.sec := rfl
@[simp] theorem State.modCue_host (s : State) (f : Cue → Cue) : (s.modCue f).host = s.host := rfl
@[simp] theorem State.modCue_rhs (s : State) (f : Cue → Cue) : (s.modCue f).rhs = s.rhs := rfl
@[simp] theorem State.modCue_spState (s : State) (f : Cue → Cue) : (s.modCue f).spState = s.spState := rfl
@[simp] theorem State.modCue_waking (s : State) (f : Cue → Cue) : (s.modCue f).waking = s.waking := rfl
@[simp] theorem State.modCue_outbox (s : State) (f : Cue → Cue) : (s.modCue f).outbox = s.outbox := rfl
@[simp] theorem State.modCue_free (s : State) (f : Cue → Cue) : (s.modCue f).free = s.free := rfl
@[simp] theorem State.modCue_pending (s : State) (f : Cue → Cue) : (s.modCue f).pending = s.pending := rfl

@[simp] theorem State.modCol_code (s : State) (f : Col → Col) : (s.modCol f).code = s.code := rfl
@[simp] theorem State.modCol_regs (s : State) (f : Col → Col) : (s.modCol f).regs = s.regs := rfl
@[simp] theorem State.modCol_house (s : State) (f : Col → Col) : (s.modCol f).house = s.house := rfl
@[simp] theorem State.modCol_links (s : State) (f : Col → Col) : (s.modCol f).links = s.links := rfl
@[simp] theorem State.modCol_sites (s : State) (f : Col → Col) : (s.modCol f).sites = s.sites := rfl
@[simp] theorem State.modCol_swc (s : State) (f : Col → Col) : (s.modCol f).swc = s.swc := rfl
@[simp] theorem State.modCol_mem (s : State) (f : Col → Col) : (s.modCol f).mem = s.mem := rfl
@[simp] theorem State.modCol_ten (s : State) (f : Col → Col) : (s.modCol f).ten = s.ten := rfl
@[simp] theorem State.modCol_cue (s : State) (f : Col → Col) : (s.modCol f).cue = s.cue := rfl
@[simp] theorem State.modCol_col (s : State) (f : Col → Col) : (s.modCol f).col = f s.col := rfl
@[simp] theorem State.modCol_board (s : State) (f : Col → Col) : (s.modCol f).board = s.board := rfl
@[simp] theorem State.modCol_mail (s : State) (f : Col → Col) : (s.modCol f).mail = s.mail := rfl
@[simp] theorem State.modCol_power (s : State) (f : Col → Col) : (s.modCol f).power = s.power := rfl
@[simp] theorem State.modCol_sec (s : State) (f : Col → Col) : (s.modCol f).sec = s.sec := rfl
@[simp] theorem State.modCol_host (s : State) (f : Col → Col) : (s.modCol f).host = s.host := rfl
@[simp] theorem State.modCol_rhs (s : State) (f : Col → Col) : (s.modCol f).rhs = s.rhs := rfl
@[simp] theorem State.modCol_spState (s : State) (f : Col → Col) : (s.modCol f).spState = s.spState := rfl
@[simp] theorem State.modCol_waking (s : State) (f : Col → Col) : (s.modCol f).waking = s.waking := rfl
@[simp] theorem State.modCol_outbox (s : State) (f : Col → Col) : (s.modCol f).outbox = s.outbox := rfl
@[simp] theorem State.modCol_free (s : State) (f : Col → Col) : (s.modCol f).free = s.free := rfl
@[simp] theorem State.modCol_pending (s : State) (f : Col → Col) : (s.modCol f).pending = s.pending := rfl

@[simp] theorem State.modBoard_code (s : State) (f : Board → Board) : (s.modBoard f).code = s.code := rfl
@[simp] theorem State.modBoard_regs (s : State) (f : Board → Board) : (s.modBoard f).regs = s.regs := rfl
@[simp] theorem State.modBoard_house (s : State) (f : Board → Board) : (s.modBoard f).house = s.house := rfl
@[simp] theorem State.modBoard_links (s : State) (f : Board → Board) : (s.modBoard f).links = s.links := rfl
@[simp] theorem State.modBoard_sites (s : State) (f : Board → Board) : (s.modBoard f).sites = s.sites := rfl
@[simp] theorem State.modBoard_swc (s : State) (f : Board → Board) : (s.modBoard f).swc = s.swc := rfl
@[simp] theorem State.modBoard_mem (s : State) (f : Board → Board) : (s.modBoard f).mem = s.mem := rfl
@[simp] theorem State.modBoard_ten (s : State) (f : Board → Board) : (s.modBoard f).ten = s.ten := rfl
@[simp] theorem State.modBoard_cue (s : State) (f : Board → Board) : (s.modBoard f).cue = s.cue := rfl
@[simp] theorem State.modBoard_col (s : State) (f : Board → Board) : (s.modBoard f).col = s.col := rfl
@[simp] theorem State.modBoard_board (s : State) (f : Board → Board) : (s.modBoard f).board = f s.board := rfl
@[simp] theorem State.modBoard_mail (s : State) (f : Board → Board) : (s.modBoard f).mail = s.mail := rfl
@[simp] theorem State.modBoard_power (s : State) (f : Board → Board) : (s.modBoard f).power = s.power := rfl
@[simp] theorem State.modBoard_sec (s : State) (f : Board → Board) : (s.modBoard f).sec = s.sec := rfl
@[simp] theorem State.modBoard_host (s : State) (f : Board → Board) : (s.modBoard f).host = s.host := rfl
@[simp] theorem State.modBoard_rhs (s : State) (f : Board → Board) : (s.modBoard f).rhs = s.rhs := rfl
@[simp] theorem State.modBoard_spState (s : State) (f : Board → Board) : (s.modBoard f).spState = s.spState := rfl
@[simp] theorem State.modBoard_waking (s : State) (f : Board → Board) : (s.modBoard f).waking = s.waking := rfl
@[simp] theorem State.modBoard_outbox (s : State) (f : Board → Board) : (s.modBoard f).outbox = s.outbox := rfl
@[simp] theorem State.modBoard_free (s : State) (f : Board → Board) : (s.modBoard f).free = s.free := rfl
@[simp] theorem State.modBoard_pending (s : State) (f : Board → Board) : (s.modBoard f).pending = s.pending := rfl

@[simp] theorem State.modMail_code (s : State) (f : Mail → Mail) : (s.modMail f).code = s.code := rfl
@[simp] theorem State.modMail_regs (s : State) (f : Mail → Mail) : (s.modMail f).regs = s.regs := rfl
@[simp] theorem State.modMail_house (s : State) (f : Mail → Mail) : (s.modMail f).house = s.house := rfl
@[simp] theorem State.modMail_links (s : State) (f : Mail → Mail) : (s.modMail f).links = s.links := rfl
@[simp] theorem State.modMail_sites (s : State) (f : Mail → Mail) : (s.modMail f).sites = s.sites := rfl
@[simp] theorem State.modMail_swc (s : State) (f : Mail → Mail) : (s.modMail f).swc = s.swc := rfl
@[simp] theorem State.modMail_mem (s : State) (f : Mail → Mail) : (s.modMail f).mem = s.mem := rfl
@[simp] theorem State.modMail_ten (s : State) (f : Mail → Mail) : (s.modMail f).ten = s.ten := rfl
@[simp] theorem State.modMail_cue (s : State) (f : Mail → Mail) : (s.modMail f).cue = s.cue := rfl
@[simp] theorem State.modMail_col (s : State) (f : Mail → Mail) : (s.modMail f).col = s.col := rfl
@[simp] theorem State.modMail_board (s : State) (f : Mail → Mail) : (s.modMail f).board = s.board := rfl
@[simp] theorem State.modMail_mail (s : State) (f : Mail → Mail) : (s.modMail f).mail = f s.mail := rfl
@[simp] theorem State.modMail_power (s : State) (f : Mail → Mail) : (s.modMail f).power = s.power := rfl
@[simp] theorem State.modMail_sec (s : State) (f : Mail → Mail) : (s.modMail f).sec = s.sec := rfl
@[simp] theorem State.modMail_host (s : State) (f : Mail → Mail) : (s.modMail f).host = s.host := rfl
@[simp] theorem State.modMail_rhs (s : State) (f : Mail → Mail) : (s.modMail f).rhs = s.rhs := rfl
@[simp] theorem State.modMail_spState (s : State) (f : Mail → Mail) : (s.modMail f).spState = s.spState := rfl
@[simp] theorem State.modMail_waking (s : State) (f : Mail → Mail) : (s.modMail f).waking = s.waking := rfl
@[simp] theorem State.modMail_outbox (s : State) (f : Mail → Mail) : (s.modMail f).outbox = s.outbox := rfl
@[simp] theorem State.modMail_free (s : State) (f : Mail → Mail) : (s.modMail f).free = s.free := rfl
@[simp] theorem State.modMail_pending (s : State) (f : Mail → Mail) : (s.modMail f).pending = s.pending := rfl

@[simp] theorem State.modPower_code (s : State) (f : Power → Power) : (s.modPower f).code = s.code := rfl
@[simp] theorem State.modPower_regs (s : State) (f : Power → Power) : (s.modPower f).regs = s.regs := rfl
@[simp] theorem State.modPower_house (s : State) (f : Power → Power) : (s.modPower f).house = s.house := rfl
@[simp] theorem State.modPower_links (s : State) (f : Power → Power) : (s.modPower f).links = s.links := rfl
@[simp] theorem State.modPower_sites (s : State) (f : Power → Power) : (s.modPower f).sites = s.sites := rfl
@[simp] theorem State.modPower_swc (s : State) (f : Power → Power) : (s.modPower f).swc = s.swc := rfl
@[simp] theorem State.modPower_mem (s : State) (f : Power → Power) : (s.modPower f).mem = s.mem := rfl
@[simp] theorem State.modPower_ten (s : State) (f : Power → Power) : (s.modPower f).ten = s.ten := rfl
@[simp] theorem State.modPower_cue (s : State) (f : Power → Power) : (s.modPower f).cue = s.cue := rfl
@[simp] theorem State.modPower_col (s : State) (f : Power → Power) : (s.modPower f).col = s.col := rfl
@[simp] theorem State.modPower_board (s : State) (f : Power → Power) : (s.modPower f).board = s.board := rfl
@[simp] theorem State.modPower_mail (s : State) (f : Power → Power) : (s.modPower f).mail = s.mail := rfl
@[simp] theorem State.modPower_power (s : State) (f : Power → Power) : (s.modPower f).power = f s.power := rfl
@[simp] theorem State.modPower_sec (s : State) (f : Power → Power) : (s.modPower f).sec = s.sec := rfl
@[simp] theorem State.modPower_host (s : State) (f : Power → Power) : (s.modPower f).host = s.host := rfl
@[simp] theorem State.modPower_rhs (s : State) (f : Power → Power) : (s.modPower f).rhs = s.rhs := rfl
@[simp] theorem State.modPower_spState (s : State) (f : Power → Power) : (s.modPower f).spState = s.spState := rfl
@[simp] theorem State.modPower_waking (s : State) (f : Power → Power) : (s.modPower f).waking = s.waking := rfl
@[simp] theorem State.modPower_outbox (s : State) (f : Power → Power) : (s.modPower f).outbox = s.outbox := rfl
@[simp] theorem State.modPower_free (s : State) (f : Power → Power) : (s.modPower f).free = s.free := rfl
@[simp] theorem State.modPower_pending (s : State) (f : Power → Power) : (s.modPower f).pending = s.pending := rfl

@[simp] theorem State.modSec_code (s : State) (f : Sec → Sec) : (s.modSec f).code = s.code := rfl
@[simp] theorem State.modSec_regs (s : State) (f : Sec → Sec) : (s.modSec f).regs = s.regs := rfl
@[simp] theorem State.modSec_house (s : State) (f : Sec → Sec) : (s.modSec f).house = s.house := rfl
@[simp] theorem State.modSec_links (s : State) (f : Sec → Sec) : (s.modSec f).links = s.links := rfl
@[simp] theorem State.modSec_sites (s : State) (f : Sec → Sec) : (s.modSec f).sites = s.sites := rfl
@[simp] theorem State.modSec_swc (s : State) (f : Sec → Sec) : (s.modSec f).swc = s.swc := rfl
@[simp] theorem State.modSec_mem (s : State) (f : Sec → Sec) : (s.modSec f).mem = s.mem := rfl
@[simp] theorem State.modSec_ten (s : State) (f : Sec → Sec) : (s.modSec f).ten = s.ten := rfl
@[simp] theorem State.modSec_cue (s : State) (f : Sec → Sec) : (s.modSec f).cue = s.cue := rfl
@[simp] theorem State.modSec_col (s : State) (f : Sec → Sec) : (s.modSec f).col = s.col := rfl
@[simp] theorem State.modSec_board (s : State) (f : Sec → Sec) : (s.modSec f).board = s.board := rfl
@[simp] theorem State.modSec_mail (s : State) (f : Sec → Sec) : (s.modSec f).mail = s.mail := rfl
@[simp] theorem State.modSec_power (s : State) (f : Sec → Sec) : (s.modSec f).power = s.power := rfl
@[simp] theorem State.modSec_sec (s : State) (f : Sec → Sec) : (s.modSec f).sec = f s.sec := rfl
@[simp] theorem State.modSec_host (s : State) (f : Sec → Sec) : (s.modSec f).host = s.host := rfl
@[simp] theorem State.modSec_rhs (s : State) (f : Sec → Sec) : (s.modSec f).rhs = s.rhs := rfl
@[simp] theorem State.modSec_spState (s : State) (f : Sec → Sec) : (s.modSec f).spState = s.spState := rfl
@[simp] theorem State.modSec_waking (s : State) (f : Sec → Sec) : (s.modSec f).waking = s.waking := rfl
@[simp] theorem State.modSec_outbox (s : State) (f : Sec → Sec) : (s.modSec f).outbox = s.outbox := rfl
@[simp] theorem State.modSec_free (s : State) (f : Sec → Sec) : (s.modSec f).free = s.free := rfl
@[simp] theorem State.modSec_pending (s : State) (f : Sec → Sec) : (s.modSec f).pending = s.pending := rfl

@[simp] theorem State.modHost_code (s : State) (f : HostPort → HostPort) : (s.modHost f).code = s.code := rfl
@[simp] theorem State.modHost_regs (s : State) (f : HostPort → HostPort) : (s.modHost f).regs = s.regs := rfl
@[simp] theorem State.modHost_house (s : State) (f : HostPort → HostPort) : (s.modHost f).house = s.house := rfl
@[simp] theorem State.modHost_links (s : State) (f : HostPort → HostPort) : (s.modHost f).links = s.links := rfl
@[simp] theorem State.modHost_sites (s : State) (f : HostPort → HostPort) : (s.modHost f).sites = s.sites := rfl
@[simp] theorem State.modHost_swc (s : State) (f : HostPort → HostPort) : (s.modHost f).swc = s.swc := rfl
@[simp] theorem State.modHost_mem (s : State) (f : HostPort → HostPort) : (s.modHost f).mem = s.mem := rfl
@[simp] theorem State.modHost_ten (s : State) (f : HostPort → HostPort) : (s.modHost f).ten = s.ten := rfl
@[simp] theorem State.modHost_cue (s : State) (f : HostPort → HostPort) : (s.modHost f).cue = s.cue := rfl
@[simp] theorem State.modHost_col (s : State) (f : HostPort → HostPort) : (s.modHost f).col = s.col := rfl
@[simp] theorem State.modHost_board (s : State) (f : HostPort → HostPort) : (s.modHost f).board = s.board := rfl
@[simp] theorem State.modHost_mail (s : State) (f : HostPort → HostPort) : (s.modHost f).mail = s.mail := rfl
@[simp] theorem State.modHost_power (s : State) (f : HostPort → HostPort) : (s.modHost f).power = s.power := rfl
@[simp] theorem State.modHost_sec (s : State) (f : HostPort → HostPort) : (s.modHost f).sec = s.sec := rfl
@[simp] theorem State.modHost_host (s : State) (f : HostPort → HostPort) : (s.modHost f).host = f s.host := rfl
@[simp] theorem State.modHost_rhs (s : State) (f : HostPort → HostPort) : (s.modHost f).rhs = s.rhs := rfl
@[simp] theorem State.modHost_spState (s : State) (f : HostPort → HostPort) : (s.modHost f).spState = s.spState := rfl
@[simp] theorem State.modHost_waking (s : State) (f : HostPort → HostPort) : (s.modHost f).waking = s.waking := rfl
@[simp] theorem State.modHost_outbox (s : State) (f : HostPort → HostPort) : (s.modHost f).outbox = s.outbox := rfl
@[simp] theorem State.modHost_free (s : State) (f : HostPort → HostPort) : (s.modHost f).free = s.free := rfl
@[simp] theorem State.modHost_pending (s : State) (f : HostPort → HostPort) : (s.modHost f).pending = s.pending := rfl

@[simp] theorem State.modRhs_code (s : State) (f : Rehearsal → Rehearsal) : (s.modRhs f).code = s.code := rfl
@[simp] theorem State.modRhs_regs (s : State) (f : Rehearsal → Rehearsal) : (s.modRhs f).regs = s.regs := rfl
@[simp] theorem State.modRhs_house (s : State) (f : Rehearsal → Rehearsal) : (s.modRhs f).house = s.house := rfl
@[simp] theorem State.modRhs_links (s : State) (f : Rehearsal → Rehearsal) : (s.modRhs f).links = s.links := rfl
@[simp] theorem State.modRhs_sites (s : State) (f : Rehearsal → Rehearsal) : (s.modRhs f).sites = s.sites := rfl
@[simp] theorem State.modRhs_swc (s : State) (f : Rehearsal → Rehearsal) : (s.modRhs f).swc = s.swc := rfl
@[simp] theorem State.modRhs_mem (s : State) (f : Rehearsal → Rehearsal) : (s.modRhs f).mem = s.mem := rfl
@[simp] theorem State.modRhs_ten (s : State) (f : Rehearsal → Rehearsal) : (s.modRhs f).ten = s.ten := rfl
@[simp] theorem State.modRhs_cue (s : State) (f : Rehearsal → Rehearsal) : (s.modRhs f).cue = s.cue := rfl
@[simp] theorem State.modRhs_col (s : State) (f : Rehearsal → Rehearsal) : (s.modRhs f).col = s.col := rfl
@[simp] theorem State.modRhs_board (s : State) (f : Rehearsal → Rehearsal) : (s.modRhs f).board = s.board := rfl
@[simp] theorem State.modRhs_mail (s : State) (f : Rehearsal → Rehearsal) : (s.modRhs f).mail = s.mail := rfl
@[simp] theorem State.modRhs_power (s : State) (f : Rehearsal → Rehearsal) : (s.modRhs f).power = s.power := rfl
@[simp] theorem State.modRhs_sec (s : State) (f : Rehearsal → Rehearsal) : (s.modRhs f).sec = s.sec := rfl
@[simp] theorem State.modRhs_host (s : State) (f : Rehearsal → Rehearsal) : (s.modRhs f).host = s.host := rfl
@[simp] theorem State.modRhs_rhs (s : State) (f : Rehearsal → Rehearsal) : (s.modRhs f).rhs = f s.rhs := rfl
@[simp] theorem State.modRhs_spState (s : State) (f : Rehearsal → Rehearsal) : (s.modRhs f).spState = s.spState := rfl
@[simp] theorem State.modRhs_waking (s : State) (f : Rehearsal → Rehearsal) : (s.modRhs f).waking = s.waking := rfl
@[simp] theorem State.modRhs_outbox (s : State) (f : Rehearsal → Rehearsal) : (s.modRhs f).outbox = s.outbox := rfl
@[simp] theorem State.modRhs_free (s : State) (f : Rehearsal → Rehearsal) : (s.modRhs f).free = s.free := rfl
@[simp] theorem State.modRhs_pending (s : State) (f : Rehearsal → Rehearsal) : (s.modRhs f).pending = s.pending := rfl

@[simp] theorem State.withQueue_code (s : State) (q : List Instr) : (s.withQueue q).code = s.code := rfl
@[simp] theorem State.withQueue_regs (s : State) (q : List Instr) : (s.withQueue q).regs = s.regs := rfl
@[simp] theorem State.withQueue_house (s : State) (q : List Instr) : (s.withQueue q).house = s.house := rfl
@[simp] theorem State.withQueue_links (s : State) (q : List Instr) : (s.withQueue q).links = s.links := rfl
@[simp] theorem State.withQueue_sites (s : State) (q : List Instr) : (s.withQueue q).sites = s.sites := rfl
@[simp] theorem State.withQueue_swc (s : State) (q : List Instr) : (s.withQueue q).swc = s.swc := rfl
@[simp] theorem State.withQueue_mem (s : State) (q : List Instr) : (s.withQueue q).mem = s.mem := rfl
@[simp] theorem State.withQueue_ten (s : State) (q : List Instr) : (s.withQueue q).ten = s.ten := rfl
@[simp] theorem State.withQueue_cue (s : State) (q : List Instr) : (s.withQueue q).cue = s.cue := rfl
@[simp] theorem State.withQueue_col (s : State) (q : List Instr) : (s.withQueue q).col = s.col := rfl
@[simp] theorem State.withQueue_board (s : State) (q : List Instr) : (s.withQueue q).board = s.board := rfl
@[simp] theorem State.withQueue_mail (s : State) (q : List Instr) : (s.withQueue q).mail = s.mail := rfl
@[simp] theorem State.withQueue_power (s : State) (q : List Instr) : (s.withQueue q).power = s.power := rfl
@[simp] theorem State.withQueue_sec (s : State) (q : List Instr) : (s.withQueue q).sec = s.sec := rfl
@[simp] theorem State.withQueue_host (s : State) (q : List Instr) : (s.withQueue q).host = s.host := rfl
@[simp] theorem State.withQueue_rhs (s : State) (q : List Instr) : (s.withQueue q).rhs = s.rhs := rfl
@[simp] theorem State.withQueue_spState (s : State) (q : List Instr) : (s.withQueue q).spState = s.spState := rfl
@[simp] theorem State.withQueue_waking (s : State) (q : List Instr) : (s.withQueue q).waking = s.waking := rfl
@[simp] theorem State.withQueue_outbox (s : State) (q : List Instr) : (s.withQueue q).outbox = s.outbox := rfl
@[simp] theorem State.withQueue_free (s : State) (q : List Instr) : (s.withQueue q).free = s.free := rfl
@[simp] theorem State.withQueue_pending (s : State) (q : List Instr) : (s.withQueue q).pending = q := rfl

/-! Reads of BAR0. -/

@[simp] theorem word_setWord_same (s : State) (off : Nat) (v : Word) : (s.setWord off v).word off = v :=
  Tab.get_set_same _ _ _ _

theorem word_setWord_ne (s : State) (a b : Nat) (v : Word) (h : b ≠ a) : (s.setWord a v).word b = s.word b :=
  Tab.get_set_ne _ _ _ _ _ h

/-- A field reads what was written to it, cut to its width. -/
theorem fld_setFld_same (s : State) (f : Field) (x : Nat) (h : f.lo + f.w ≤ 64) : (s.setFld f x).fld f = x % 2 ^ f.w := by
  unfold State.fld State.setFld
  rw [word_setWord_same]
  exact field_putField_same _ _ _ _ h

/-- A field of another word keeps its value. -/
theorem fld_setFld_off (s : State) (f g : Field) (x : Nat) (h : g.off ≠ f.off) : (s.setFld f x).fld g = s.fld g := by
  unfold State.fld State.setFld
  rw [word_setWord_ne _ _ _ _ h]

/-- A field of the same word whose bits lie elsewhere keeps its value. -/
theorem fld_setFld_bits (s : State) (f g : Field) (x : Nat) (h : g.lo + g.w ≤ f.lo ∨ f.lo + f.w ≤ g.lo) :
    (s.setFld f x).fld g = s.fld g := by
  by_cases ho : g.off = f.off
  · unfold State.fld State.setFld
    rw [ho, word_setWord_same]
    exact field_putField_disjoint _ _ _ _ _ _ h
  · exact fld_setFld_off s f g x ho

/-- A word other than the field's keeps its value. -/
theorem word_setFld_ne (s : State) (f : Field) (b x : Nat) (h : b ≠ f.off) : (s.setFld f x).word b = s.word b :=
  word_setWord_ne s _ _ _ h

/-- Reads of BAR0 depend on the ordering code and the registers alone. -/
theorem word_congr {s t : State} (hc : t.code = s.code) (hr : t.regs = s.regs) (off : Nat) : t.word off = s.word off := by
  unfold State.word; rw [hc, hr]

theorem fld_congr {s t : State} (hc : t.code = s.code) (hr : t.regs = s.regs) (f : Field) : t.fld f = s.fld f := by
  unfold State.fld; rw [word_congr hc hr]

/-! The same for the updates that leave BAR0 alone. -/
@[simp] theorem fld_emit (s : State) (m : OutMsg) (f : Field) : (emit m s).fld f = s.fld f := rfl
@[simp] theorem word_emit (s : State) (m : OutMsg) (off : Nat) : (emit m s).word off = s.word off := rfl
@[simp] theorem fld_takeFrees (s : State) (n : Nat) (f : Field) : (takeFrees n s).fld f = s.fld f := rfl
@[simp] theorem word_takeFrees (s : State) (n : Nat) (off : Nat) : (takeFrees n s).word off = s.word off := rfl
@[simp] theorem fld_State_setLink (s : State) (l : Nat) (k : Link) (f : Field) : (s.setLink l k).fld f = s.fld f := rfl
@[simp] theorem word_State_setLink (s : State) (l : Nat) (k : Link) (off : Nat) : (s.setLink l k).word off = s.word off := rfl
@[simp] theorem fld_State_setSite (s : State) (st : Nat) (x : Site) (f : Field) : (s.setSite st x).fld f = s.fld f := rfl
@[simp] theorem word_State_setSite (s : State) (st : Nat) (x : Site) (off : Nat) : (s.setSite st x).word off = s.word off := rfl
@[simp] theorem fld_State_modSwc (s : State) (h : Swc → Swc) (f : Field) : (s.modSwc h).fld f = s.fld f := rfl
@[simp] theorem word_State_modSwc (s : State) (h : Swc → Swc) (off : Nat) : (s.modSwc h).word off = s.word off := rfl
@[simp] theorem fld_State_modMem (s : State) (h : Mem → Mem) (f : Field) : (s.modMem h).fld f = s.fld f := rfl
@[simp] theorem word_State_modMem (s : State) (h : Mem → Mem) (off : Nat) : (s.modMem h).word off = s.word off := rfl
@[simp] theorem fld_State_modTen (s : State) (h : Ten → Ten) (f : Field) : (s.modTen h).fld f = s.fld f := rfl
@[simp] theorem word_State_modTen (s : State) (h : Ten → Ten) (off : Nat) : (s.modTen h).word off = s.word off := rfl
@[simp] theorem fld_State_modCue (s : State) (h : Cue → Cue) (f : Field) : (s.modCue h).fld f = s.fld f := rfl
@[simp] theorem word_State_modCue (s : State) (h : Cue → Cue) (off : Nat) : (s.modCue h).word off = s.word off := rfl
@[simp] theorem fld_State_modCol (s : State) (h : Col → Col) (f : Field) : (s.modCol h).fld f = s.fld f := rfl
@[simp] theorem word_State_modCol (s : State) (h : Col → Col) (off : Nat) : (s.modCol h).word off = s.word off := rfl
@[simp] theorem fld_State_modBoard (s : State) (h : Board → Board) (f : Field) : (s.modBoard h).fld f = s.fld f := rfl
@[simp] theorem word_State_modBoard (s : State) (h : Board → Board) (off : Nat) : (s.modBoard h).word off = s.word off := rfl
@[simp] theorem fld_State_modMail (s : State) (h : Mail → Mail) (f : Field) : (s.modMail h).fld f = s.fld f := rfl
@[simp] theorem word_State_modMail (s : State) (h : Mail → Mail) (off : Nat) : (s.modMail h).word off = s.word off := rfl
@[simp] theorem fld_State_modPower (s : State) (h : Power → Power) (f : Field) : (s.modPower h).fld f = s.fld f := rfl
@[simp] theorem word_State_modPower (s : State) (h : Power → Power) (off : Nat) : (s.modPower h).word off = s.word off := rfl
@[simp] theorem fld_State_modSec (s : State) (h : Sec → Sec) (f : Field) : (s.modSec h).fld f = s.fld f := rfl
@[simp] theorem word_State_modSec (s : State) (h : Sec → Sec) (off : Nat) : (s.modSec h).word off = s.word off := rfl
@[simp] theorem fld_State_modHost (s : State) (h : HostPort → HostPort) (f : Field) : (s.modHost h).fld f = s.fld f := rfl
@[simp] theorem word_State_modHost (s : State) (h : HostPort → HostPort) (off : Nat) : (s.modHost h).word off = s.word off := rfl
@[simp] theorem fld_State_modRhs (s : State) (h : Rehearsal → Rehearsal) (f : Field) : (s.modRhs h).fld f = s.fld f := rfl
@[simp] theorem word_State_modRhs (s : State) (h : Rehearsal → Rehearsal) (off : Nat) : (s.modRhs h).word off = s.word off := rfl
@[simp] theorem fld_State_withQueue (s : State) (q : List Instr) (f : Field) : (s.withQueue q).fld f = s.fld f := rfl
@[simp] theorem word_State_withQueue (s : State) (q : List Instr) (off : Nat) : (s.withQueue q).word off = s.word off := rfl

end Sys2Proof.Machine
end

