-- ==== Sys2Proof/Tests/Slice0.lean ====
section
/-! SUPPORT. Tests: ill-formed commands are refused by the checks; single steps on small states, each a witness of the hypotheses of a
statement. -/
namespace Sys2Proof.Tests
set_option Elab.async false
open Sys2Proof.Machine

/-- A command answers a next state that passes a check. -/
def goes (c : Instr) (s : State) (p : State → Bool) : Bool :=
  match exec c s with
  | .next t => p t
  | .fault _ => false
  | .refused _ => false

/-- The die is ON, Prompter A is ACTIVE and coolant flows. -/
def live : State := ((State.reset.setFld Reg.pwrDie 2).setFld (Reg.cbState 0) 4).setFld Reg.flowOk 1

/-- The same machine, days on. -/
def later (s : State) : State := s.setFld Reg.time (2 ^ 44)

/-- The module without input. -/
def unlit : State := { State.reset with house := { House.init with input := false } }

/-- A capsule that has been accepted. -/
def accepted (via : Transport) (kind : Nat) (payload : List Byte) (s : State) : State :=
  let bytes : List Byte := [1, 0, BitVec.ofNat 8 (viaCommander via), BitVec.ofNat 8 kind] ++ leBytes 4 payload.length ++ leBytes 16 0 ++ payload ++
    List.replicate 32 0
  s.modSec (fun k => { k with accepted := some { via := via, bytes := bytes } })

/-- A received frame, whole. -/
def rx (vc : Nat) (f : Frame) : RxFrame := { vc := vc, bytes := Frame.bytes f, cells := Frame.cells f, kept := List.replicate (Frame.cells f) false, eof := true, arr := 0 }

/-- A frame waits for its unit. -/
def arrived (f : Frame) (s : State) : State := s.modSwc (fun w => { w with inbox := w.inbox ++ [{ frame := f, ing := 8, arr := 0 }] })

/-- A frame that waits at a port. -/
def queued (stor : Nat) (f : Frame) (port vc : Nat) : QFrame :=
  { stor := stor, frame := f, ing := 15, ingVc := 0, wing := 0, kept := List.replicate (Frame.cells f) false, arr := 0, port := port, vc := vc, escOnly := false,
    esc := none, copy := false, sent := 0 }

/-- A frame of chip 1 for this chip, or of this chip for chip 1. -/
def inFrame (ty tag seq group addr op : Nat) (payload : List Byte) : Frame := mkFrame ty 0 8 1 8 tag seq group addr op payload
def outFrame (ty tag seq : Nat) (payload : List Byte) : Frame := mkFrame ty 1 8 0 8 tag seq 0 0 0 payload

/-- The pool is open: set 0 of 2 GiB over channels 0 and 1 is in service from offset 0, set 1 of 1 GiB over channel 2 from 2 GiB. -/
def pool : State :=
  forEach (fun (x : Field × Nat) s => s.setFld x.1 x.2)
    [(Reg.memOpen, 1), (Reg.chState 0, 2), (Reg.chState 1, 2), (Reg.chState 2, 2), (Reg.chCapacity 0, 2), (Reg.chCapacity 1, 2),
     (Reg.chCapacity 2, 2), (Reg.setMask 0, 3), (Reg.setSize 0, 2), (Reg.setValid 0, 1), (Reg.setState 0, 2), (Reg.setMask 1, 4),
     (Reg.setBase 1, 2), (Reg.setSize 1, 1), (Reg.setValid 1, 1), (Reg.setState 1, 2)] live

/-- A tensor descriptor: 32-byte rows at a base, scales, metadata and mask behind them, logical tile 0. -/
def dsc (base fmt rows cols sparse masked : Nat) : Nat :=
  base + fmt * 2 ^ 32 + sparse * 2 ^ 36 + masked * 2 ^ 37 + rows * 2 ^ 40 + cols * 2 ^ 60 + 32 * 2 ^ 80 + (base + 0x1000) * 2 ^ 112 +
    (base + 0x2000) * 2 ^ 144 + (base + 0x3000) * 2 ^ 176 + 1 * 2 ^ 216

/-- Sequencer 63 runs a word of program 0, which has four instructions and a footprint of 1 MiB: scalar registers 1 to 5 hold values,
descriptor registers 0 to 3 tensors, group register 0 a handle of group 5. -/
def runner (w : Nat) (ss ds : List (Nat × Nat)) : State :=
  let c := ss.foldl (fun (c : Ctx) x => c.setS x.1 x.2) Ctx.init
  let c := ds.foldl (fun (c : Ctx) x => c.setD x.1 (BitVec.ofNat 256 x.2)) (c.setG 0 0x8005)
  let p : Prog := { image := 0, bytes := 4096, code := 64, insns := 4, foot := [(0, 0x100000)], allocs := [] }
  let s := live.modCue (fun k => { k with store := Tab.setRange (fun _ => 0) [] 64 (leBytes 16 w), progs := [(0, some p)], ctxs := [(63, some c)] })
  s.setFld (Reg.seqSt 63) 1

/-- Group 5: this chip alone, with one expert. -/
def grouped (s : State) : State :=
  forEach (fun (x : Nat × Word) s => s.setWord (Reg.grpWord 5 x.1) x.2)
    [(0, 1 + 1 * 2 ^ 1 + 1 * 2 ^ 20 + 1 * 2 ^ 29 + 1 * 2 ^ 38 + 4 * 2 ^ 46), (1, 1 * 2 ^ 16), (2, 1 + 1 * 2 ^ 12 + 1 * 2 ^ 24)] (s.raise Reg.assigned)

/-- A crossing of group 5 with OPSEQ 0 on counter 1023: one chunk of 256 bytes of INT32. -/
def crossing (xmode : Nat) : Op :=
  { id := 9, group := 5, opseq := 0, ctr := 1023, prog := 0, word := BitVec.ofNat 128 (0x80 * 2 ^ 120 + 4 * 2 ^ 112 + xmode * 2 ^ 108),
    descs := [BitVec.ofNat 256 (dsc 0x10000 11 1 64 0 0)], sig := 0x12345678, fmt := 11, rows := 1, cols := 64, own := none, present := [],
    copies := [], sums := [], done := [], rowsLanded := [], takenBack := [], sends := [], released := [], reported := 0, counts := [], routed := [], answered := [], log := [], filled := [],
    returned := [], issuedAt := 0, ended := false }

/-- Group 5 has an operation. -/
def crossed (o : Op) : State :=
  (grouped (live.setFld (Reg.grpOps 5) 1)).modCol (fun c => { c with ops := [o] })

/-- A complete checkpoint. -/
def doneCopy : Checkpoint :=
  let k := Checkpoint.mk 4 0 [0, 0, 0, 0, 0, 0, 0, 0] [] true 0 0
  { k with digest := checkpointDigest k }

/-! Well-formedness: for each check a term that it refuses. -/

/-- Every term of a list is ill-formed. -/
def illFormed (cs : List Instr) : Bool := cs.all (fun c => !(Instr.wellFormed c))

/-- A frame whose payload is shorter than LEN says. -/
def shortFrame : Frame := { inFrame 7 0 0 0 0 0 (List.replicate 16 0) with payload := [0] }

def wholeFrame : Frame := inFrame 7 0 0 0 0 0 (List.replicate 16 0)

theorem test_wf_frame : frameOk wholeFrame = true ∧ frameOk shortFrame = false := by decide +kernel

theorem test_wf_input : illFormed
    [.powerOn 31999 0 true true, .powerOn 44001 0 true true, .inputLoss 28000, .inputUndervoltage 31000, .inputOvervoltage 44000,
     .inputReclose 31999 0 true true] = true := by
  decide

theorem test_wf_frames : illFormed
    ([.responseReceive shortFrame, .circuitNoticeReceive shortFrame, .mirrorWriteReceive shortFrame, .cueStoreRequest shortFrame,
     .statusPageRequest shortFrame, .colContribReceive shortFrame, .colResultReceive shortFrame, .retractReceive shortFrame,
     .verifiedReceive shortFrame, .releaseReceive shortFrame, .countReceive shortFrame, .asideReceive shortFrame,
     .abortNoticeReceive shortFrame, .mailboxMsgReceive shortFrame, .mailboxNoticeReceive shortFrame, .mgmtUnsupported shortFrame,
     .semAcq shortFrame, .semRel shortFrame, .doorbellFrame shortFrame, .pmcReadFrame shortFrame, .poolRequest shortFrame [],
     .scratchpadRequest shortFrame []] : List Instr) = true := by
  decide +kernel

theorem test_wf_patterns : illFormed
    [.poolRequest wholeFrame [(0, [])], .scratchpadRequest wholeFrame [(0, List.replicate 80 0)], .ddrScrubLine 0 0 [1], .spScrub 0 [1],
     .hostMemAccess true 63 0 (List.replicate 64 0) [], .hostMemAccess true 64 0 [0] [], .hostMemAccess true 64 0 (List.replicate 64 0) [1]] = true := by
  decide +kernel

theorem test_wf_ranges : illFormed
    [.hdmCommit 0 (2 ^ 52) 0 0 0 true, .hdmCommit 0 0 (2 ^ 52) 0 0 true, .programLoad (2 ^ 24), .cueStoreHostWrite 0 [],
     .cueStoreHostWrite (2 ^ 24) [0], .chunkSum 0 0 (2 ^ 32), .capsuleReceive .window (List.replicate 4097 0), .fwWindowWrite 0 [],
     .fwWindowWrite 65535 [0, 0], .registerWrite 0 [], .registerWrite 67108863 [0, 0], .cartIdReadComplete 0 [],
     .pmicPowerGood 0 (Spd.mk true 4 true 16 0), .pmicTimeout 0 (some (Spd.mk true 4 true 16 0))] = true := by
  decide +kernel

theorem test_wf_counts : illFormed
    [.diodeSample (List.replicate 63 0), .diodeCheck (List.replicate 5 0), .setEventInterruptPolicy [none],
     .entdaa (.target true 128), .entdaa (.controller (List.replicate 12 0)), .deftgts [(128, 0)], .deftgts [(0, 2 ^ 48)],
     .stageWrite .a 0 0 0 (.reg 0 []), .stageWrite .a 0 0 0 (.reg (2 ^ 26) [0]), .stageWrite .a 0 0 0 (.mailSend 32 []),
     .stageWrite .a 0 0 0 (.mailSend 0 (List.replicate 2048 0)), .stageWrite .a 0 0 0 (.mailPop 32), .stageWrite .a 0 0 0 (.semAcquire 64),
     .stageWrite .a 0 0 0 (.semRelease 64)] = true := by
  decide +kernel

/-- A CFG of an assigned chip, and ones with a field out of range. -/
def goodCfg : Cfg :=
  { chipId := 4095, link := 13, ringX := 16, ringY := 1, ringZ := 1, maxGen := 3, lanes := 0, credits := List.replicate 14 0, assigned := true }

theorem test_wf_cfg : cfgOk goodCfg = true ∧ illFormed
    [.cfgReceive 0 { goodCfg with chipId := 4096 }, .cfgReceive 0 { goodCfg with link := 14 }, .cfgReceive 0 { goodCfg with ringX := 0 },
     .cfgReceive 0 { goodCfg with ringY := 17 }, .cfgReceive 0 { goodCfg with ringZ := 0 }, .cfgReceive 0 { goodCfg with maxGen := 4 },
     .cfgReceive 0 { goodCfg with credits := [] }] = true := by
  decide +kernel

/-- A checkpoint image has room for its header and log only. -/
theorem test_wf_checkpoint (body : List Byte) (h : 2 ^ 22 - 256 < body.length) : Instr.wellFormed (.checkpointComplete body) = false :=
  decide_eq_false (Nat.not_le_of_gt h)

/-! StepRunsFront. -/

theorem test_StepRunsFront :
    ({ live with pending := [.pwrWarnFall, .keyClear] } : State).pending = .pwrWarnFall :: [.keyClear] := by
  decide +kernel

/-! IdleStepTicks. -/

theorem test_IdleStepTicks : State.reset.pending = [] := by
  decide +kernel

/-! EveryStepKeeps. -/

theorem test_EveryStepKeeps : Memory.wf live = true ∧ ∃ t, step { live with pending := [.semReadAcquire 0, .keyClear] } = .next t :=
  ⟨by decide +kernel, _, rfl⟩

/-! OnlyOverInputStops. -/

theorem test_OnlyOverInputStops : exec (.inputLoss 48001) State.reset = .fault .absoluteMaximum := rfl

/-! EffectsStayInTheirParts. -/

theorem test_EffectsStayInTheirParts : Part.dram ∉ changes .keyClear ∧ Part.keys ∈ changes .keyClear := by
  decide

/-! MemoryWritesTheirBytes. -/

theorem test_MemoryWritesTheirBytes :
    (spByte (spWrite 31 [7, 9] State.reset) 31, spByte (spWrite 31 [7, 9] State.reset) 32, spByte (spWrite 31 [7, 9] State.reset) 33) = (7, 9, 0) ∧
    (Tab.get (fun _ => 0) (storeWrite 5 [3] State.reset).cue.store 5, Tab.get (fun _ => 0) (storeWrite 5 [3] State.reset).cue.store 6) = (3, 0) ∧ inImage State.reset 5 = false := by
  decide +kernel

theorem test_MemoryWritesTheirBytes_lost :
    let s := State.reset.modTen (fun t => { t with ue := [1] })
    wordUe s 1 = true ∧ spByte (spWrite 40 [7] s) 40 = 0 ∧ spByte (spWrite 32 (List.replicate 32 7) s) 63 = 7 := by
  decide +kernel

theorem test_MemoryWritesTheirBytes_pool : (∀ i, i < [(7 : Byte)].length → dramKey (dramPlace State.reset 0 (0 + i)) ≠ 2 ^ 41) := by
  decide +kernel

/-! TraySafeOnlyWhenStruck. -/

theorem test_TraySafeOnlyWhenStruck :
    (readWord ((State.reset.setFld Reg.strikeState 2).setFld Reg.pwrDie 0) 0x2200098).getLsbD 32 = true ∧
    (readWord State.reset 0x2200098).getLsbD 32 = false := by
  decide +kernel

/-! CountersWrittenAndFrozen. -/

theorem test_CountersWrittenAndFrozen : houseLive live = true ∧ (live.setFld Reg.pmcFreeze 1).fld Reg.pmcFreeze = 1 ∧ live.fld Reg.pmcFreeze = 0 ∧
    Memory.wf live = true := by
  decide +kernel

/-! SemaphoreReadsAcquire. -/

theorem test_SemaphoreReadsAcquire : islandLive live = true ∧ (live.sem 63).holder = none ∧
    goes (.semReadAcquire 63) live (fun t => decide ((t.sem 63).holder = some (1, myChip live)) &&
      goes (.semReadAcquire 63) t (fun u => decide ((u.sem 63).holder = some (1, myChip live)))) = true := by
  decide +kernel

theorem test_SemaphoreReadsAcquire_frame : frameMaster live (inFrame 7 0 0 0 63 opSemAcq []) = some (16, 1) ∧ Frame.len (inFrame 7 0 0 0 63 opSemAcq []) = 0 := by
  decide +kernel

/-! Pam4Levels. -/

theorem test_Pam4Levels : toLevels [false, false, false, true, true, true, true, false] = [0, 1, 2, 3] := by
  decide

/-! FlitsRoundTrip. -/

theorem test_FlitsRoundTrip :
    (FlitCtl.mk 15 true true 65535 65535 true 15 65535).vc < 16 ∧ (List.replicate 256 (7 : Byte)).length = 256 := by
  decide +kernel

/-! LaneCodeRoundTrips. -/

theorem test_LaneCodeRoundTrips : (List.replicate 272 (0 : Byte)).length = 272 ∧ (LaneCode.atComma 33).run < 31 := by
  decide +kernel

/-! PowerStageActs. -/

theorem test_PowerStageActs_powerOn :
    unlit.house.input = false ∧ unlit.house.switchOpen = false ∧ 32000 ≤ (32000) ∧ (32000) ≤ 48000 := by
  decide +kernel

theorem test_PowerStageActs_inputLoss :
    live.house.input = true ∧ (27999) < 28000 := by
  decide +kernel

theorem test_PowerStageActs_inputUndervoltage :
    live.house.input = true ∧ 28000 ≤ (30999) ∧ (30999) < 31000 := by
  decide +kernel

theorem test_PowerStageActs_inputOvervoltage :
    live.house.input = true ∧ 44000 < (44001) ∧ (44001) ≤ 48000 := by
  decide +kernel

theorem test_PowerStageActs_overvoltageExcursionExpiry :
    live.house.input = true := by
  decide +kernel

def s_PowerStageActs_inputReclose : State := { State.reset with house := { House.init with input := false, switchOpen := true } }

theorem test_PowerStageActs_inputReclose :
    s_PowerStageActs_inputReclose.house.switchOpen = true ∧ 32000 ≤ (39999) ∧ (39999) < 40000 := by
  decide +kernel

theorem test_PowerStageActs_chipReset :
    live.house.input = true ∧ live.house.resetLow = false := by
  decide +kernel

def s_PowerStageActs_resetRelease : State := { live with house := { live.house with resetLow := true } }

theorem test_PowerStageActs_resetRelease :
    s_PowerStageActs_resetRelease.house.input = true ∧ s_PowerStageActs_resetRelease.house.resetLow = true := by
  decide +kernel

/-! ClockAndSleepAct. -/

theorem test_ClockAndSleepAct_houseClkLoss :
    (live.house.input = true ∧ live.house.clkPresent = true) ∧ goes .houseClkLoss live
      (fun t => decide (t.house.clkPresent = false) && decide (t.house.onOscillator = true) && decide (t.regs = live.regs) && decide (t.links = live.links) && decide (t.mem = live.mem) && decide (t.outbox = live.outbox)) = true := by
  decide +kernel

def s_ClockAndSleepAct_houseClkReturn : State := { live with house := { live.house with clkPresent := false } }

theorem test_ClockAndSleepAct_houseClkReturn :
    (s_ClockAndSleepAct_houseClkReturn.house.input = true ∧ s_ClockAndSleepAct_houseClkReturn.house.clkPresent = false) ∧ goes .houseClkReturn s_ClockAndSleepAct_houseClkReturn
      (fun t => decide (t.house.clkPresent = true) && decide (t.house.onOscillator = false) && decide (t.regs = s_ClockAndSleepAct_houseClkReturn.regs) && decide (t.links = s_ClockAndSleepAct_houseClkReturn.links) && decide (t.mem = s_ClockAndSleepAct_houseClkReturn.mem) && decide (t.outbox = s_ClockAndSleepAct_houseClkReturn.outbox)) = true := by
  decide +kernel

def s_ClockAndSleepAct_houseClkHoldoverExpiry : State := { live with house := { live.house with clkPresent := false } }

theorem test_ClockAndSleepAct_houseClkHoldoverExpiry :
    s_ClockAndSleepAct_houseClkHoldoverExpiry.house.input = true ∧ s_ClockAndSleepAct_houseClkHoldoverExpiry.house.clkPresent = false ∧ dieState s_ClockAndSleepAct_houseClkHoldoverExpiry = dieOn := by
  decide +kernel

theorem test_ClockAndSleepAct_dozeIdleExpiry :
    (linksLive live = true ∧ live.fld Reg.dozeIdle ≠ 0 ∧ unitState live (.tile 239 : UnitId) = 0 ∧ busyForDoze live (.tile 239 : UnitId) = false) ∧ goes (.dozeIdleExpiry (.tile 239 : UnitId)) live
      (fun t => decide (unitState t (.tile 239 : UnitId) = 1) && decide (Tab.get (fun _ => 0) t.cue.gens (unitKey (.tile 239 : UnitId)) = live.fld Reg.cueGen) && decide (t.mem = live.mem) && decide (t.links = live.links)) = true := by
  decide +kernel

theorem test_ClockAndSleepAct_darkIdleExpiry :
    (linksLive live = true ∧ live.fld Reg.darkIdle ≠ 0 ∧ unitState live (.ddr 11 : UnitId) < 2 ∧ (.ddr 11 : UnitId) ∉ live.waking ∧ darkEligible live (.ddr 11 : UnitId) = true) ∧ goes (.darkIdleExpiry (.ddr 11 : UnitId)) live
      (fun t => decide (unitState t (.ddr 11 : UnitId) = 2) && decide (Tab.get (fun _ => 0) t.cue.gens (unitKey (.ddr 11 : UnitId)) = live.fld Reg.cueGen) && decide (t.mem = live.mem) && decide (t.links = live.links)) = true := by
  decide +kernel

def s_ClockAndSleepAct_unitWakeComplete : State := { setUnit (.seq 63) 1 live with waking := [.seq 63] }

theorem test_ClockAndSleepAct_unitWakeComplete :
    linksLive s_ClockAndSleepAct_unitWakeComplete = true ∧ (.seq 63 : UnitId) ∈ s_ClockAndSleepAct_unitWakeComplete.waking ∧ unitState s_ClockAndSleepAct_unitWakeComplete (.seq 63 : UnitId) = 1 ∧ heldByGhost s_ClockAndSleepAct_unitWakeComplete (.seq 63 : UnitId) = false ∧ quiet s_ClockAndSleepAct_unitWakeComplete = true := by
  decide +kernel

def s_ClockAndSleepAct_unitWakeComplete2 : State := { setUnit (.eng 15) 2 live with waking := [.eng 15] }

theorem test_ClockAndSleepAct_unitWakeComplete2 :
    linksLive s_ClockAndSleepAct_unitWakeComplete2 = true ∧ (.eng 15 : UnitId) ∈ s_ClockAndSleepAct_unitWakeComplete2.waking ∧ unitState s_ClockAndSleepAct_unitWakeComplete2 (.eng 15 : UnitId) = 2 ∧ heldByGhost s_ClockAndSleepAct_unitWakeComplete2 (.eng 15 : UnitId) = false ∧ quiet s_ClockAndSleepAct_unitWakeComplete2 = true ∧ (.eng 15 : UnitId) = .eng (15 : Fin 16) ∧ oldGeneration s_ClockAndSleepAct_unitWakeComplete2 (.eng 15 : UnitId) = false := by
  decide +kernel

def s_ClockAndSleepAct_unitWakeComplete3 : State := { setUnit (.eng 15) 2 (live.setFld Reg.cueGen 3) with waking := [.eng 15] }

theorem test_ClockAndSleepAct_unitWakeComplete3 :
    linksLive s_ClockAndSleepAct_unitWakeComplete3 = true ∧ (.eng 15 : UnitId) ∈ s_ClockAndSleepAct_unitWakeComplete3.waking ∧ unitState s_ClockAndSleepAct_unitWakeComplete3 (.eng 15 : UnitId) = 2 ∧ heldByGhost s_ClockAndSleepAct_unitWakeComplete3 (.eng 15 : UnitId) = false ∧ quiet s_ClockAndSleepAct_unitWakeComplete3 = true ∧ (.eng 15 : UnitId) = .eng (15 : Fin 16) ∧ oldGeneration s_ClockAndSleepAct_unitWakeComplete3 (.eng 15 : UnitId) = true := by
  decide +kernel

/-! GovernorAndMasterAct. -/

theorem test_GovernorAndMasterAct_rampGovernorTick :
    ((live.setFld Reg.rampA 500).house.input = true ∧ (30000) < 65536 ∧ (40000) < 65536 ∧ (0) < 65536 ∧ (live.setFld Reg.rampA 500).fld Reg.rampA + (live.setFld Reg.rampA 500).fld Reg.rampMax / 10 < 65536) ∧ goes (.rampGovernorTick (30000) (40000) (0) (⟨7, [0, 239]⟩ : Governed)) (live.setFld Reg.rampA 500)
      (fun t => decide (t.fld Reg.rampFloor = (if (live.setFld Reg.rampA 500).fld (Reg.glBit glPwrWarn) = 1 then 0 else (live.setFld Reg.rampA 500).fld Reg.rampA - (live.setFld Reg.rampA 500).fld Reg.rampMax / 10)) && decide (t.fld Reg.rampCeiling = (min ((live.setFld Reg.rampA 500).fld Reg.rampA + (live.setFld Reg.rampA 500).fld Reg.rampMax / 10) ((live.setFld Reg.rampA 500).fld Reg.effectiveCap))) && decide (t.fld Reg.rampA = (if (30000) < (if (live.setFld Reg.rampA 500).fld (Reg.glBit glPwrWarn) = 1 then 0 else (live.setFld Reg.rampA 500).fld Reg.rampA - (live.setFld Reg.rampA 500).fld Reg.rampMax / 10) then (if (live.setFld Reg.rampA 500).fld (Reg.glBit glPwrWarn) = 1 then 0 else (live.setFld Reg.rampA 500).fld Reg.rampA - (live.setFld Reg.rampA 500).fld Reg.rampMax / 10) else if dieState (live.setFld Reg.rampA 500) = dieOn then min (30000) (max (if (live.setFld Reg.rampA 500).fld (Reg.glBit glPwrWarn) = 1 then 0 else (live.setFld Reg.rampA 500).fld Reg.rampA - (live.setFld Reg.rampA 500).fld Reg.rampMax / 10) (min ((live.setFld Reg.rampA 500).fld Reg.rampA + (live.setFld Reg.rampA 500).fld Reg.rampMax / 10) ((live.setFld Reg.rampA 500).fld Reg.effectiveCap))) else (30000))) && decide ((dieState (live.setFld Reg.rampA 500) = dieOn → t.fld Reg.ballast = 0)) && decide (t.fld Reg.inputMv = (40000)) && decide (t.fld Reg.input10mA = (0)) && decide (t.links = (live.setFld Reg.rampA 500).links) && decide (t.mem = (live.setFld Reg.rampA 500).mem)) = true := by
  decide +kernel

def s_GovernorAndMasterAct_rampGovernorTick2 : State := State.reset.setFld Reg.rampA 500

theorem test_GovernorAndMasterAct_rampGovernorTick2 :
    (s_GovernorAndMasterAct_rampGovernorTick2.house.input = true ∧ (100) < 65536 ∧ (40000) < 65536 ∧ (0) < 65536 ∧ s_GovernorAndMasterAct_rampGovernorTick2.fld Reg.rampA + s_GovernorAndMasterAct_rampGovernorTick2.fld Reg.rampMax / 10 < 65536) ∧ goes (.rampGovernorTick (100) (40000) (0) (⟨0, []⟩ : Governed)) s_GovernorAndMasterAct_rampGovernorTick2
      (fun t => decide (t.fld Reg.rampFloor = (if s_GovernorAndMasterAct_rampGovernorTick2.fld (Reg.glBit glPwrWarn) = 1 then 0 else s_GovernorAndMasterAct_rampGovernorTick2.fld Reg.rampA - s_GovernorAndMasterAct_rampGovernorTick2.fld Reg.rampMax / 10)) && decide (t.fld Reg.rampCeiling = (min (s_GovernorAndMasterAct_rampGovernorTick2.fld Reg.rampA + s_GovernorAndMasterAct_rampGovernorTick2.fld Reg.rampMax / 10) (s_GovernorAndMasterAct_rampGovernorTick2.fld Reg.effectiveCap))) && decide (t.fld Reg.rampA = (if (100) < (if s_GovernorAndMasterAct_rampGovernorTick2.fld (Reg.glBit glPwrWarn) = 1 then 0 else s_GovernorAndMasterAct_rampGovernorTick2.fld Reg.rampA - s_GovernorAndMasterAct_rampGovernorTick2.fld Reg.rampMax / 10) then (if s_GovernorAndMasterAct_rampGovernorTick2.fld (Reg.glBit glPwrWarn) = 1 then 0 else s_GovernorAndMasterAct_rampGovernorTick2.fld Reg.rampA - s_GovernorAndMasterAct_rampGovernorTick2.fld Reg.rampMax / 10) else if dieState s_GovernorAndMasterAct_rampGovernorTick2 = dieOn then min (100) (max (if s_GovernorAndMasterAct_rampGovernorTick2.fld (Reg.glBit glPwrWarn) = 1 then 0 else s_GovernorAndMasterAct_rampGovernorTick2.fld Reg.rampA - s_GovernorAndMasterAct_rampGovernorTick2.fld Reg.rampMax / 10) (min (s_GovernorAndMasterAct_rampGovernorTick2.fld Reg.rampA + s_GovernorAndMasterAct_rampGovernorTick2.fld Reg.rampMax / 10) (s_GovernorAndMasterAct_rampGovernorTick2.fld Reg.effectiveCap))) else (100))) && decide ((dieState s_GovernorAndMasterAct_rampGovernorTick2 = dieOn → t.fld Reg.ballast = 0)) && decide (t.fld Reg.inputMv = (40000)) && decide (t.fld Reg.input10mA = (0)) && decide (t.links = s_GovernorAndMasterAct_rampGovernorTick2.links) && decide (t.mem = s_GovernorAndMasterAct_rampGovernorTick2.mem)) = true := by
  decide +kernel

theorem test_GovernorAndMasterAct_trayMasterElection :
    ((live.setFld Reg.master 1).house.input = true ∧ (live.setFld Reg.master 1).fld Reg.master = 1) ∧ goes (.trayMasterElection (15 : BitVec 4)) (live.setFld Reg.master 1)
      (fun t => decide (t.fld Reg.master = 1) && decide (t.regs = (live.setFld Reg.master 1).regs) && decide (t.host = (live.setFld Reg.master 1).host)) = true := by
  decide +kernel

theorem test_GovernorAndMasterAct_trayMasterElection2 :
    (live.house.input = true ∧ mayBeMaster live = true ∧ live.fld Reg.master = 0) ∧ goes (.trayMasterElection (0 : BitVec 4)) live
      (fun t => decide (t.fld Reg.master = (if (List.range (mySlot live)).any (fun k => (0 : BitVec 4).getLsbD k) then 0 else 1)) && decide (t.links = live.links) && decide (t.mem = live.mem)) = true := by
  decide +kernel

theorem test_GovernorAndMasterAct_trayMasterLost :
    ((live.setFld Reg.slot 2).house.input = true ∧ mayBeMaster (live.setFld Reg.slot 2) = true ∧ (live.setFld Reg.slot 2).fld Reg.master = 0) ∧ goes (.trayMasterLost (2 : BitVec 4)) (live.setFld Reg.slot 2)
      (fun t => decide (t.fld Reg.master = (if (List.range (mySlot (live.setFld Reg.slot 2))).any (fun k => (2 : BitVec 4).getLsbD k) then 0 else 1)) && decide (t.links = (live.setFld Reg.slot 2).links) && decide (t.mem = (live.setFld Reg.slot 2).mem)) = true := by
  decide +kernel

/-! PowerOrdersAct. -/

def c_PowerOrdersAct_powerOrderOff : Capsule := ⟨.tray, ((accepted .tray kPower (leBytes 8 1) live).sec.accepted.map (fun c => c.bytes)).getD []⟩

def s_PowerOrdersAct_powerOrderOff : State := accepted .tray kPower (leBytes 8 1) (live)

theorem test_PowerOrdersAct_powerOrderOff :
    (s_PowerOrdersAct_powerOrderOff.house.input = true ∧ acceptedOf s_PowerOrdersAct_powerOrderOff kPower = some c_PowerOrdersAct_powerOrderOff ∧ Order.kind (Cap.payload c_PowerOrdersAct_powerOrderOff.bytes) = 1 ∧ viaCommander c_PowerOrdersAct_powerOrderOff.via = cpHost ∧ orderVerdict s_PowerOrdersAct_powerOrderOff (viaCommander c_PowerOrdersAct_powerOrderOff.via) (Cap.payload c_PowerOrdersAct_powerOrderOff.bytes) = orOk ∧ s_PowerOrdersAct_powerOrderOff.sec.waiting = []) ∧ goes .powerOrderOff s_PowerOrdersAct_powerOrderOff
      (fun t => decide (t.fld Reg.hostRun = 0) && decide (t.fld Reg.orderResult = orOk) && decide (t.fld Reg.orderKind = 1) && decide (t.sec.accepted = none)) = true := by
  decide +kernel

def c_PowerOrdersAct_powerOrderOff2 : Capsule := ⟨.rack, ((accepted .rack kPower (leBytes 8 1) live).sec.accepted.map (fun c => c.bytes)).getD []⟩

def s_PowerOrdersAct_powerOrderOff2 : State := accepted .rack kPower (leBytes 8 1) (live)

theorem test_PowerOrdersAct_powerOrderOff2 :
    (s_PowerOrdersAct_powerOrderOff2.house.input = true ∧ acceptedOf s_PowerOrdersAct_powerOrderOff2 kPower = some c_PowerOrdersAct_powerOrderOff2 ∧ Order.kind (Cap.payload c_PowerOrdersAct_powerOrderOff2.bytes) = 1 ∧ viaCommander c_PowerOrdersAct_powerOrderOff2.via = cpRack ∧ orderVerdict s_PowerOrdersAct_powerOrderOff2 (viaCommander c_PowerOrdersAct_powerOrderOff2.via) (Cap.payload c_PowerOrdersAct_powerOrderOff2.bytes) = orOk ∧ s_PowerOrdersAct_powerOrderOff2.sec.waiting = []) ∧ goes .powerOrderOff s_PowerOrdersAct_powerOrderOff2
      (fun t => decide (t.fld Reg.rmRun = 0) && decide (t.fld Reg.rmHold = 1) && decide (t.fld Reg.orderResult = orOk) && decide (t.fld Reg.orderKind = 1) && decide (t.sec.accepted = none)) = true := by
  decide +kernel

def c_PowerOrdersAct_powerOrderOn : Capsule := ⟨.tray, ((accepted .tray kPower (leBytes 8 2) live).sec.accepted.map (fun c => c.bytes)).getD []⟩

def s_PowerOrdersAct_powerOrderOn : State := accepted .tray kPower (leBytes 8 2) (live)

theorem test_PowerOrdersAct_powerOrderOn :
    (s_PowerOrdersAct_powerOrderOn.house.input = true ∧ acceptedOf s_PowerOrdersAct_powerOrderOn kPower = some c_PowerOrdersAct_powerOrderOn ∧ Order.kind (Cap.payload c_PowerOrdersAct_powerOrderOn.bytes) = 2 ∧ viaCommander c_PowerOrdersAct_powerOrderOn.via = cpHost ∧ orderVerdict s_PowerOrdersAct_powerOrderOn (viaCommander c_PowerOrdersAct_powerOrderOn.via) (Cap.payload c_PowerOrdersAct_powerOrderOn.bytes) = orOk ∧ s_PowerOrdersAct_powerOrderOn.sec.waiting = []) ∧ goes .powerOrderOn s_PowerOrdersAct_powerOrderOn
      (fun t => decide (t.fld Reg.hostRun = 1) && decide (t.fld Reg.safeDown = 0) && decide (t.fld Reg.orderResult = orOk) && decide (t.fld Reg.orderKind = 2) && decide (t.sec.accepted = none)) = true := by
  decide +kernel

def c_PowerOrdersAct_powerOrderOn2 : Capsule := ⟨.rack, ((accepted .rack kPower (leBytes 8 2) live).sec.accepted.map (fun c => c.bytes)).getD []⟩

def s_PowerOrdersAct_powerOrderOn2 : State := accepted .rack kPower (leBytes 8 2) (live)

theorem test_PowerOrdersAct_powerOrderOn2 :
    (s_PowerOrdersAct_powerOrderOn2.house.input = true ∧ acceptedOf s_PowerOrdersAct_powerOrderOn2 kPower = some c_PowerOrdersAct_powerOrderOn2 ∧ Order.kind (Cap.payload c_PowerOrdersAct_powerOrderOn2.bytes) = 2 ∧ viaCommander c_PowerOrdersAct_powerOrderOn2.via = cpRack ∧ orderVerdict s_PowerOrdersAct_powerOrderOn2 (viaCommander c_PowerOrdersAct_powerOrderOn2.via) (Cap.payload c_PowerOrdersAct_powerOrderOn2.bytes) = orOk ∧ s_PowerOrdersAct_powerOrderOn2.sec.waiting = []) ∧ goes .powerOrderOn s_PowerOrdersAct_powerOrderOn2
      (fun t => decide (t.fld Reg.rmRun = 1) && decide (t.fld Reg.rmHold = 0) && decide (t.power.stored = none) && decide (t.fld Reg.orderResult = orOk) && decide (t.fld Reg.orderKind = 2) && decide (t.sec.accepted = none)) = true := by
  decide +kernel

def c_PowerOrdersAct_powerOrderCap : Capsule := ⟨.tray, ((accepted .tray kPower (leBytes 8 (3 + 1000 * 65536)) live).sec.accepted.map (fun c => c.bytes)).getD []⟩

def s_PowerOrdersAct_powerOrderCap : State := accepted .tray kPower (leBytes 8 (3 + 1000 * 65536)) (live)

theorem test_PowerOrdersAct_powerOrderCap :
    (s_PowerOrdersAct_powerOrderCap.house.input = true ∧ acceptedOf s_PowerOrdersAct_powerOrderCap kPower = some c_PowerOrdersAct_powerOrderCap ∧ Order.kind (Cap.payload c_PowerOrdersAct_powerOrderCap.bytes) = 3 ∧ viaCommander c_PowerOrdersAct_powerOrderCap.via = cpHost ∧ orderVerdict s_PowerOrdersAct_powerOrderCap (viaCommander c_PowerOrdersAct_powerOrderCap.via) (Cap.payload c_PowerOrdersAct_powerOrderCap.bytes) = orOk ∧ s_PowerOrdersAct_powerOrderCap.sec.waiting = [] ∧ s_PowerOrdersAct_powerOrderCap.fld Reg.fallback = 0) ∧ goes .powerOrderCap s_PowerOrdersAct_powerOrderCap
      (fun t => decide (t.fld Reg.hostCap = Order.cap (Cap.payload c_PowerOrdersAct_powerOrderCap.bytes)) && decide (t.fld Reg.effectiveCap = min (min (Order.cap (Cap.payload c_PowerOrdersAct_powerOrderCap.bytes)) (s_PowerOrdersAct_powerOrderCap.fld Reg.rackCap)) (maxPower s_PowerOrdersAct_powerOrderCap)) && decide (t.fld Reg.orderResult = orOk) && decide (t.fld Reg.orderKind = 3) && decide (t.sec.accepted = none)) = true := by
  decide +kernel

def c_PowerOrdersAct_powerOrderCap2 : Capsule := ⟨.rack, ((accepted .rack kPower (leBytes 8 (3 + 1000 * 65536)) live).sec.accepted.map (fun c => c.bytes)).getD []⟩

def s_PowerOrdersAct_powerOrderCap2 : State := accepted .rack kPower (leBytes 8 (3 + 1000 * 65536)) (live)

theorem test_PowerOrdersAct_powerOrderCap2 :
    (s_PowerOrdersAct_powerOrderCap2.house.input = true ∧ acceptedOf s_PowerOrdersAct_powerOrderCap2 kPower = some c_PowerOrdersAct_powerOrderCap2 ∧ Order.kind (Cap.payload c_PowerOrdersAct_powerOrderCap2.bytes) = 3 ∧ viaCommander c_PowerOrdersAct_powerOrderCap2.via = cpRack ∧ orderVerdict s_PowerOrdersAct_powerOrderCap2 (viaCommander c_PowerOrdersAct_powerOrderCap2.via) (Cap.payload c_PowerOrdersAct_powerOrderCap2.bytes) = orOk ∧ s_PowerOrdersAct_powerOrderCap2.sec.waiting = [] ∧ s_PowerOrdersAct_powerOrderCap2.fld Reg.fallback = 0) ∧ goes .powerOrderCap s_PowerOrdersAct_powerOrderCap2
      (fun t => decide (t.fld Reg.rackCap = Order.cap (Cap.payload c_PowerOrdersAct_powerOrderCap2.bytes)) && decide (t.fld Reg.effectiveCap = min (min (s_PowerOrdersAct_powerOrderCap2.fld Reg.hostCap) (Order.cap (Cap.payload c_PowerOrdersAct_powerOrderCap2.bytes))) (maxPower s_PowerOrdersAct_powerOrderCap2)) && decide (t.fld Reg.orderResult = orOk) && decide (t.fld Reg.orderKind = 3) && decide (t.sec.accepted = none)) = true := by
  decide +kernel

def c_PowerOrdersAct_powerOrderHold : Capsule := ⟨.rack, ((accepted .rack kPower (leBytes 8 4) live).sec.accepted.map (fun c => c.bytes)).getD []⟩

def s_PowerOrdersAct_powerOrderHold : State := accepted .rack kPower (leBytes 8 4) (live)

theorem test_PowerOrdersAct_powerOrderHold :
    (s_PowerOrdersAct_powerOrderHold.house.input = true ∧ acceptedOf s_PowerOrdersAct_powerOrderHold kPower = some c_PowerOrdersAct_powerOrderHold ∧ Order.kind (Cap.payload c_PowerOrdersAct_powerOrderHold.bytes) = 4 ∧ viaCommander c_PowerOrdersAct_powerOrderHold.via = cpRack ∧ orderVerdict s_PowerOrdersAct_powerOrderHold (viaCommander c_PowerOrdersAct_powerOrderHold.via) (Cap.payload c_PowerOrdersAct_powerOrderHold.bytes) = orOk ∧ s_PowerOrdersAct_powerOrderHold.sec.waiting = []) ∧ goes .powerOrderHold s_PowerOrdersAct_powerOrderHold
      (fun t => decide (t.fld Reg.rmHold = 1) && decide (t.fld Reg.orderResult = orOk) && decide (t.fld Reg.orderKind = 4) && decide (t.sec.accepted = none)) = true := by
  decide +kernel

def c_PowerOrdersAct_powerOrderRelease : Capsule := ⟨.rack, ((accepted .rack kPower (leBytes 8 5) live).sec.accepted.map (fun c => c.bytes)).getD []⟩

def s_PowerOrdersAct_powerOrderRelease : State := accepted .rack kPower (leBytes 8 5) (live)

theorem test_PowerOrdersAct_powerOrderRelease :
    (s_PowerOrdersAct_powerOrderRelease.house.input = true ∧ acceptedOf s_PowerOrdersAct_powerOrderRelease kPower = some c_PowerOrdersAct_powerOrderRelease ∧ Order.kind (Cap.payload c_PowerOrdersAct_powerOrderRelease.bytes) = 5 ∧ viaCommander c_PowerOrdersAct_powerOrderRelease.via = cpRack ∧ orderVerdict s_PowerOrdersAct_powerOrderRelease (viaCommander c_PowerOrdersAct_powerOrderRelease.via) (Cap.payload c_PowerOrdersAct_powerOrderRelease.bytes) = orOk ∧ s_PowerOrdersAct_powerOrderRelease.sec.waiting = []) ∧ goes .powerOrderRelease s_PowerOrdersAct_powerOrderRelease
      (fun t => decide (t.fld Reg.rmHold = 0) && decide (t.power.stored = none) && decide (t.fld Reg.orderResult = orOk) && decide (t.fld Reg.orderKind = 5) && decide (t.sec.accepted = none)) = true := by
  decide +kernel

/-! DieRailsAct. -/

theorem test_DieRailsAct_trayGrant :
    (live.house.input = true) ∧ goes .trayGrant live
      (fun t => decide (t.house.granted = true) && decide (t.regs = live.regs) && decide (t.links = live.links) && decide (t.mem = live.mem) && decide (t.cue = live.cue)) = true := by
  decide +kernel

theorem test_DieRailsAct_grantTimeout :
    ((later live).house.input = true ∧ (activePrompter (later live)).isSome = true ∧ grantOverdue (later live) = true) ∧ goes .grantTimeout (later live)
      (fun t => decide (t.house.granted = true) && decide (t.regs = (later live).regs) && decide (t.links = (later live).links) && decide (t.mem = (later live).mem) && decide (t.cue = (later live).cue)) = true := by
  decide +kernel

theorem test_DieRailsAct_staggerGrant :
    ((live.setFld Reg.master 1).house.input = true ∧ (live.setFld Reg.master 1).fld Reg.master = 1 ∧ (activePrompter (live.setFld Reg.master 1)).isSome = true ∧ (live.setFld Reg.master 1).house.grantsGiven = 0) ∧ goes .staggerGrant (live.setFld Reg.master 1)
      (fun t => decide (t.house.granted = true) && decide (t.house.grantsGiven = 1) && decide (t.outbox = (live.setFld Reg.master 1).outbox) && decide (onlyRegs [] (live.setFld Reg.master 1) t = true)) = true := by
  decide +kernel

def s_DieRailsAct_staggerGrant2 : State := { later (live.setFld Reg.master 1) with house := { live.house with grantsGiven := 3 } }

theorem test_DieRailsAct_staggerGrant2 :
    (s_DieRailsAct_staggerGrant2.house.input = true ∧ s_DieRailsAct_staggerGrant2.fld Reg.master = 1 ∧ (activePrompter s_DieRailsAct_staggerGrant2).isSome = true ∧ 0 < s_DieRailsAct_staggerGrant2.house.grantsGiven ∧ staggerOver s_DieRailsAct_staggerGrant2 = true ∧ (grantOrder (mySlot s_DieRailsAct_staggerGrant2))[s_DieRailsAct_staggerGrant2.house.grantsGiven]? = some (3 : Fin 4).val ∧ (3 : Fin 4).val ≠ mySlot s_DieRailsAct_staggerGrant2) ∧ goes .staggerGrant s_DieRailsAct_staggerGrant2
      (fun t => decide (t.house.grantsGiven = s_DieRailsAct_staggerGrant2.house.grantsGiven + 1) && decide (t.outbox = s_DieRailsAct_staggerGrant2.outbox ++ [.grant (3 : Fin 4).val]) && decide (t.regs = s_DieRailsAct_staggerGrant2.regs)) = true := by
  decide +kernel

def s_DieRailsAct_diePowerUp : State := { State.reset with house := { House.init with granted := true } }

theorem test_DieRailsAct_diePowerUp :
    (s_DieRailsAct_diePowerUp.house.input = true ∧ permitted s_DieRailsAct_diePowerUp = true ∧ s_DieRailsAct_diePowerUp.fld Reg.pwrDie = dieOff ∧ (s_DieRailsAct_diePowerUp.house.firstUp = true ∨ s_DieRailsAct_diePowerUp.house.granted = true) ∧ s_DieRailsAct_diePowerUp.house.clkPresent = true ∧ s_DieRailsAct_diePowerUp.fld Reg.fuseArm = 0 ∧ s_DieRailsAct_diePowerUp.rhs.fusePass = false ∧ s_DieRailsAct_diePowerUp.fld Reg.rails &&& 0x78 = 0) ∧ goes .diePowerUp s_DieRailsAct_diePowerUp
      (fun t => decide (t.fld Reg.pwrDie = dieSeqUp) && decide (t.power.enabled = s_DieRailsAct_diePowerUp.power.enabled ||| 0x78) && decide (t.house = s_DieRailsAct_diePowerUp.house) && decide (t.links = s_DieRailsAct_diePowerUp.links) && decide (onlyRegs [Reg.pwrDie.off] s_DieRailsAct_diePowerUp t = true)) = true := by
  decide +kernel

def s_DieRailsAct_railPowerGood : State := (State.reset.setFld Reg.pwrDie 1).modPower (fun p => { p with enabled := 0x78 })

theorem test_DieRailsAct_railPowerGood :
    (s_DieRailsAct_railPowerGood.house.input = true ∧ railRising s_DieRailsAct_railPowerGood (.sw 3 : Rail) = true ∧ allRailsGood (s_DieRailsAct_railPowerGood.raise (Reg.rail (.sw 3 : Rail).bit)) = false ∧ 2 < (.sw 3 : Rail).bit) ∧ goes (.railPowerGood (.sw 3 : Rail)) s_DieRailsAct_railPowerGood
      (fun t => decide (t.fld (Reg.rail (.sw 3 : Rail).bit) = 1) && decide (t.fld Reg.pwrDie = dieSeqUp) && decide (t.links = s_DieRailsAct_railPowerGood.links) && decide (t.house = s_DieRailsAct_railPowerGood.house) && decide (onlyRegs [(Reg.rail (.sw 3 : Rail).bit).off, Reg.pwrDie.off] s_DieRailsAct_railPowerGood t = true)) = true := by
  decide +kernel

def s_DieRailsAct_railPowerGood2 : State := ((State.reset.setFld Reg.pwrDie 1).setWord Reg.rails.off (BitVec.ofNat 64 (2 ^ 23 - 1 - 2 ^ 22))).modPower (fun p => { p with enabled := 2 ^ 23 - 8 })

theorem test_DieRailsAct_railPowerGood2 :
    s_DieRailsAct_railPowerGood2.house.input = true ∧ railRising s_DieRailsAct_railPowerGood2 (.tn 3 : Rail) = true ∧ allRailsGood (s_DieRailsAct_railPowerGood2.raise (Reg.rail (.tn 3 : Rail).bit)) = true ∧ 2 < (.tn 3 : Rail).bit ∧ s_DieRailsAct_railPowerGood2.fld Reg.glCause = 0 := by
  decide +kernel

theorem test_DieRailsAct_railPowerGood3 :
    (State.reset.house.input = true ∧ (.pra : Rail) = .pra ∧ prompterState State.reset .a = psOff) ∧ goes (.railPowerGood (.pra : Rail)) State.reset
      (fun t => decide (prompterState t .a = psBoot) && decide (t.fld (Reg.rail 1) = 1) && decide (t.board = State.reset.board) && decide (t.links = State.reset.links)) = true := by
  decide +kernel

def s_DieRailsAct_railTimeout : State := (later (State.reset.setFld Reg.pwrDie 1)).modPower (fun p => { p with enabled := 0x78 })

theorem test_DieRailsAct_railTimeout :
    s_DieRailsAct_railTimeout.house.input = true ∧ railRising s_DieRailsAct_railTimeout (.sw 0 : Rail) = true ∧ railLate s_DieRailsAct_railTimeout = true := by
  decide +kernel

def s_DieRailsAct_diePowerDown : State := (live.setFld Reg.hostRun 0).modPower (fun p => { p with offBy := 1 })

theorem test_DieRailsAct_diePowerDown :
    s_DieRailsAct_diePowerDown.house.input = true ∧ diePowered s_DieRailsAct_diePowerDown = true ∧ permitted s_DieRailsAct_diePowerDown = false ∧ s_DieRailsAct_diePowerDown.power.offBy < 256 := by
  decide +kernel

theorem test_DieRailsAct_diePowerDownComplete :
    (live.setFld Reg.pwrDie 4).house.input = true ∧ (live.setFld Reg.pwrDie 4).fld Reg.pwrDie = dieSeqDown := by
  decide +kernel

/-! GhostLightActs. -/

theorem test_GhostLightActs_pwrWarnFall :
    live.house.input = true ∧ live.fld Reg.pwrDie = dieOn := by
  decide +kernel

theorem test_GhostLightActs_pwrWarnClear :
    (live.house.input = true) ∧ goes .pwrWarnClear live
      (fun t => decide (t.fld (Reg.glBit glPwrWarn) = 0) && decide (t.power.warnLow = false) && decide (t.power.inputLow = false) && decide (t.links = live.links) && decide (t.mem = live.mem)) = true := by
  decide +kernel

theorem test_GhostLightActs_flowLoss :
    live.house.input = true ∧ live.fld Reg.pwrDie = dieOn := by
  decide +kernel

theorem test_GhostLightActs_flowClear :
    (live.house.input = true) ∧ goes .flowClear live
      (fun t => decide (t.fld (Reg.glBit glFlow) = 0) && decide (t.fld Reg.flowOk = 1) && decide (t.links = live.links) && decide (t.mem = live.mem)) = true := by
  decide +kernel

def s_GhostLightActs_flowGraceExpiry : State := live.setFld Reg.graceRunning 1

theorem test_GhostLightActs_flowGraceExpiry :
    (s_GhostLightActs_flowGraceExpiry.house.input = true ∧ s_GhostLightActs_flowGraceExpiry.fld Reg.graceRunning = 1 ∧ s_GhostLightActs_flowGraceExpiry.power.flowEnds ≤ s_GhostLightActs_flowGraceExpiry.now ∧ true = true) ∧ goes (.flowGraceExpiry true) s_GhostLightActs_flowGraceExpiry
      (fun t => decide (t.fld Reg.graceRunning = 0) && decide (t.fld Reg.flowOk = 1) && decide (t.fld Reg.pwrDie = s_GhostLightActs_flowGraceExpiry.fld Reg.pwrDie) && decide (t.links = s_GhostLightActs_flowGraceExpiry.links) && decide (onlyRegs [Reg.graceRunning.off, Reg.flowOk.off, Reg.pwrDie.off] s_GhostLightActs_flowGraceExpiry t = true)) = true := by
  decide +kernel

def s_GhostLightActs_flowGraceExpiry2 : State := (live.setFld Reg.graceRunning 1).setFld Reg.pwrDie 3

theorem test_GhostLightActs_flowGraceExpiry2 :
    s_GhostLightActs_flowGraceExpiry2.house.input = true ∧ s_GhostLightActs_flowGraceExpiry2.fld Reg.graceRunning = 1 ∧ s_GhostLightActs_flowGraceExpiry2.power.flowEnds ≤ s_GhostLightActs_flowGraceExpiry2.now ∧ false = false ∧ s_GhostLightActs_flowGraceExpiry2.fld Reg.pwrDie = dieGhost := by
  decide +kernel

def s_GhostLightActs_ghostLightHoldExpiry : State := { ((later live).setFld Reg.pwrDie 3).setFld (Reg.seqSt 63) sqHeld with house := { live.house with glHold := true } }

theorem test_GhostLightActs_ghostLightHoldExpiry :
    s_GhostLightActs_ghostLightHoldExpiry.house.input = true ∧ s_GhostLightActs_ghostLightHoldExpiry.fld Reg.pwrDie = dieGhost ∧ s_GhostLightActs_ghostLightHoldExpiry.house.glHold = true ∧ s_GhostLightActs_ghostLightHoldExpiry.fld Reg.glCause = 0 ∧ holdPassed s_GhostLightActs_ghostLightHoldExpiry = true ∧ s_GhostLightActs_ghostLightHoldExpiry.fld (Reg.seqSt (63 : Fin 64)) = sqHeld := by
  decide +kernel

theorem test_GhostLightActs_rmHeartbeatTimeout :
    ((later live).house.input = true ∧ (later live).power.rmLost = false ∧ rmSilent 0 (later live) = true) ∧ goes .rmHeartbeatTimeout (later live)
      (fun t => decide (t.power.rmLost = true) && decide (t.fld Reg.rmHbLost = 1) && decide (t.fld Reg.effectiveCap = (later live).fld Reg.effectiveCap) && decide (t.links = (later live).links) && decide (onlyRegs [Reg.rmHbLost.off, Reg.effectiveCap.off] (later live) t = true)) = true := by
  decide +kernel

def s_GhostLightActs_rmFallback : State := (later live).modPower (fun p => { p with rmLost := true })

theorem test_GhostLightActs_rmFallback :
    (s_GhostLightActs_rmFallback.house.input = true ∧ s_GhostLightActs_rmFallback.power.rmLost = true ∧ s_GhostLightActs_rmFallback.fld Reg.fallback = 0 ∧ rmSilent 60000 s_GhostLightActs_rmFallback = true) ∧ goes .rmFallback s_GhostLightActs_rmFallback
      (fun t => decide (t.fld Reg.fallback = 1) && decide (t.fld Reg.fallbackEv = 1) && decide (t.fld Reg.effectiveCap = min (min (capOr (s_GhostLightActs_rmFallback.fld Reg.hostCap)) (min (capOr (s_GhostLightActs_rmFallback.fld Reg.rackCap)) (capOr (s_GhostLightActs_rmFallback.fld Reg.fallbackCap)))) (maxPower s_GhostLightActs_rmFallback))) = true := by
  decide +kernel

/-! ThermalLadderActs. -/

def readings_ThermalLadderActs_diodeSample : List (Fin 4096) := List.replicate 63 300 ++ [4095]

theorem test_ThermalLadderActs_diodeSample :
    live.house.input = true ∧ readings_ThermalLadderActs_diodeSample.length = 64 ∧ ((readings_ThermalLadderActs_diodeSample[(63 : Fin 64).val]?).map (fun r => r.val) = some 0xFFF) ∧ live.power.tripRuns = [] ∧ ((List.range 4).all (fun w => !(wingBlind live w)) = true) ∧ (readings_ThermalLadderActs_diodeSample.all (fun r => decide (r.val < 700 ∨ r.val = 0xFFF)) = true) ∧ live.fld Reg.chipLevel < 2 ∧ ((List.range 4).all (fun w => decide (live.fld (Reg.wingLevel w) < 2)) = true) ∧ live.power.hotRuns = [] ∧ 70 ≤ live.fld Reg.threshL1 ∧ 70 ≤ live.fld Reg.threshL2 := by
  decide +kernel

def s_ThermalLadderActs_thermalLevelFall : State := live.setFld (Reg.wingLevel 3) 2

theorem test_ThermalLadderActs_thermalLevelFall :
    (s_ThermalLadderActs_thermalLevelFall.house.input = true ∧ 0 < s_ThermalLadderActs_thermalLevelFall.fld (Reg.wingLevel (3 : Fin 4)) ∧ (s_ThermalLadderActs_thermalLevelFall.fld (Reg.wingLevel (3 : Fin 4)) < 3 ∨ s_ThermalLadderActs_thermalLevelFall.fld Reg.ironLatched = 0) ∧ ((if s_ThermalLadderActs_thermalLevelFall.fld (Reg.fewDiodes (3 : Fin 4)) = 0 then 0 else 1) < s_ThermalLadderActs_thermalLevelFall.fld (Reg.wingLevel (3 : Fin 4))) ∧ junction s_ThermalLadderActs_thermalLevelFall (3 : Fin 4) + 30 ≤ threshold s_ThermalLadderActs_thermalLevelFall (s_ThermalLadderActs_thermalLevelFall.fld (Reg.wingLevel (3 : Fin 4)))) ∧ goes (.thermalLevelFall (3 : Fin 4)) s_ThermalLadderActs_thermalLevelFall
      (fun t => decide (t.fld (Reg.wingLevel (3 : Fin 4)) + 1 = s_ThermalLadderActs_thermalLevelFall.fld (Reg.wingLevel (3 : Fin 4))) && decide (t.links = s_ThermalLadderActs_thermalLevelFall.links) && decide (t.mem = s_ThermalLadderActs_thermalLevelFall.mem)) = true := by
  decide +kernel

theorem test_ThermalLadderActs_diodeCheck :
    live.house.input = true ∧ (activePrompter live).isSome = true ∧ ([300, 301, 302, 303] : List (Fin 4096)).length = 4 ∧ live.power.coolRuns = [] := by
  decide +kernel

theorem test_ThermalLadderActs_coldPlateSample :
    (live.house.input = true ∧ (380 : Fin 4096).val ≤ 1500 ∧ (400 : Fin 4096).val ≤ 1500 ∧ (380 : Fin 4096).val + 20 ≤ live.fld Reg.coldInLimit * 10 ∧ (400 : Fin 4096).val + 20 ≤ live.fld Reg.coldOutLimit * 10) ∧ goes (.coldPlateSample (380 : Fin 4096) (400 : Fin 4096)) live
      (fun t => decide (t.fld Reg.coldIn = (380 : Fin 4096).val) && decide (t.fld Reg.coldOut = (400 : Fin 4096).val) && decide (t.fld (Reg.glBit glCold) = 0) && decide (t.links = live.links) && decide (onlyRegs [Reg.coldIn.off, Reg.coldOut.off, (Reg.glBit glCold).off] live t = true)) = true := by
  decide +kernel

theorem test_ThermalLadderActs_coldPlateSample2 :
    live.house.input = true ∧ (1500 : Fin 4096).val ≤ 1500 ∧ (0 : Fin 4096).val ≤ 1500 ∧ live.fld Reg.coldInLimit * 10 < (1500 : Fin 4096).val ∧ live.fld Reg.pwrDie = dieOn := by
  decide +kernel

/-! LeakAndIronAct. -/

theorem test_LeakAndIronAct_leakWet :
    live.house.input = true ∧ live.fld Reg.leakState ≠ leakWet ∧ live.fld Reg.pwrDie = dieOn := by
  decide +kernel

def s_LeakAndIronAct_leakTest : State := live.setFld Reg.leakState 1

theorem test_LeakAndIronAct_leakTest :
    (s_LeakAndIronAct_leakTest.house.input = true ∧ true = true ∧ false = false) ∧ goes (.leakTest true false) s_LeakAndIronAct_leakTest
      (fun t => decide (t.fld Reg.leakState = leakDry) && decide (t.fld Reg.leakTime = s_LeakAndIronAct_leakTest.now % 2 ^ 32) && decide (t.links = s_LeakAndIronAct_leakTest.links) && decide (t.mem = s_LeakAndIronAct_leakTest.mem) && decide (onlyRegs [Reg.leakState.off, Reg.leakTime.off] s_LeakAndIronAct_leakTest t = true)) = true := by
  decide +kernel

theorem test_LeakAndIronAct_leakTest2 :
    live.house.input = true ∧ false = false ∧ live.fld Reg.leakState ≠ leakLost ∧ live.fld Reg.pwrDie = dieOn := by
  decide +kernel

def s_LeakAndIronAct_leakGraceExpiry : State := (later live).setFld Reg.leakState 1

theorem test_LeakAndIronAct_leakGraceExpiry :
    s_LeakAndIronAct_leakGraceExpiry.house.input = true ∧ s_LeakAndIronAct_leakGraceExpiry.fld Reg.leakState = leakWet ∧ wetLong s_LeakAndIronAct_leakGraceExpiry = true ∧ diePowered s_LeakAndIronAct_leakGraceExpiry = true := by
  decide +kernel

theorem test_LeakAndIronAct_ironTrip :
    live.house.input = true ∧ live.fld Reg.ironLatched = 0 := by
  decide +kernel

def c_LeakAndIronAct_ironClear : Capsule := ⟨.rack, ((accepted .rack kSafety (leBytes 4 0x2100050 ++ leBytes 4 0 ++ leBytes 8 2) live).sec.accepted.map (fun c => c.bytes)).getD []⟩

def s_LeakAndIronAct_ironClear : State := accepted .rack kSafety (leBytes 4 0x2100050 ++ leBytes 4 0 ++ leBytes 8 2) ((live.setFld Reg.pwrDie 5).setFld Reg.ironLatched 1)

theorem test_LeakAndIronAct_ironClear :
    s_LeakAndIronAct_ironClear.house.input = true ∧ acceptedOf s_LeakAndIronAct_ironClear kSafety = some c_LeakAndIronAct_ironClear ∧ safetyEntries (Cap.payload c_LeakAndIronAct_ironClear.bytes) = [(0x2100050, 0, 2)] ∧ s_LeakAndIronAct_ironClear.sec.waiting = [] ∧ true = true ∧ viaCommander c_LeakAndIronAct_ironClear.via = cpRack ∧ allDiodesBelow s_LeakAndIronAct_ironClear (s_LeakAndIronAct_ironClear.fld Reg.threshL1 * 10) = true ∧ s_LeakAndIronAct_ironClear.fld Reg.pwrDie = dieTripped := by
  decide +kernel

def c_LeakAndIronAct_leakClear : Capsule := ⟨.tray, ((accepted .tray kSafety (leBytes 4 0x2100050 ++ leBytes 4 0 ++ leBytes 8 1) live).sec.accepted.map (fun c => c.bytes)).getD []⟩

def s_LeakAndIronAct_leakClear : State := accepted .tray kSafety (leBytes 4 0x2100050 ++ leBytes 4 0 ++ leBytes 8 1) (live.setFld (Reg.glBit 3) 1)

theorem test_LeakAndIronAct_leakClear :
    s_LeakAndIronAct_leakClear.house.input = true ∧ acceptedOf s_LeakAndIronAct_leakClear kSafety = some c_LeakAndIronAct_leakClear ∧ safetyEntries (Cap.payload c_LeakAndIronAct_leakClear.bytes) = [(0x2100050, 0, 1)] ∧ s_LeakAndIronAct_leakClear.sec.waiting = [] ∧ s_LeakAndIronAct_leakClear.fld Reg.leakState = leakDry := by
  decide +kernel

def c_LeakAndIronAct_diodesClear : Capsule := ⟨.tray, ((accepted .tray kSafety (leBytes 4 0x2100050 ++ leBytes 4 0 ++ leBytes 8 4) live).sec.accepted.map (fun c => c.bytes)).getD []⟩

def s_LeakAndIronAct_diodesClear : State := accepted .tray kSafety (leBytes 4 0x2100050 ++ leBytes 4 0 ++ leBytes 8 4) (live.setFld (Reg.diodeOut 3 15) 1)

theorem test_LeakAndIronAct_diodesClear :
    s_LeakAndIronAct_diodesClear.house.input = true ∧ acceptedOf s_LeakAndIronAct_diodesClear kSafety = some c_LeakAndIronAct_diodesClear ∧ safetyEntries (Cap.payload c_LeakAndIronAct_diodesClear.bytes) = [(0x2100050, 0, 4)] ∧ s_LeakAndIronAct_diodesClear.sec.waiting = [] ∧ s_LeakAndIronAct_diodesClear.fld (Reg.diodeTemp ((63 : Fin 64).val / 16) ((63 : Fin 64).val % 16)) ≠ 0xFFF := by
  decide +kernel

/-! FlitCommandsAct. -/

def s_FlitCommandsAct_flitReceive : State := (live.setFld (Reg.lnkState 8) stUp).setFld (Reg.lnkWidth 8) 16

theorem test_FlitCommandsAct_flitReceive :
    linkIn s_FlitCommandsAct_flitReceive (8 : Fin 14) stUp = true := by
  decide +kernel

def s_FlitCommandsAct_nakResendTimeout : State := ((live.setFld (Reg.lnkState 13) stUp).setFld (Reg.lnkWidth 13) 16).modLink 13 (fun k => { k with discarding := true })

theorem test_FlitCommandsAct_nakResendTimeout :
    (linkIn s_FlitCommandsAct_nakResendTimeout (13 : Fin 14) stUp = true ∧ (s_FlitCommandsAct_nakResendTimeout.link (13 : Fin 14)).discarding = true) ∧ goes (.nakResendTimeout (13 : Fin 14)) s_FlitCommandsAct_nakResendTimeout
      (fun t => decide ((t.link (13 : Fin 14)).nakDue = true) && decide (t.regs = s_FlitCommandsAct_nakResendTimeout.regs) && decide (t.swc = s_FlitCommandsAct_nakResendTimeout.swc) && decide (t.mem = s_FlitCommandsAct_nakResendTimeout.mem) && decide (t.outbox = s_FlitCommandsAct_nakResendTimeout.outbox)) = true := by
  decide +kernel

def s_FlitCommandsAct_egressFlitSlot : State := (live.setFld (Reg.lnkState 0) stRetrain).setFld (Reg.lnkWidth 0) 16

theorem test_FlitCommandsAct_egressFlitSlot :
    (linkIn s_FlitCommandsAct_egressFlitSlot (0 : Fin 14) stRetrain = true) ∧ goes (.egressFlitSlot (0 : Fin 14)) s_FlitCommandsAct_egressFlitSlot
      (fun t => decide (t.links = s_FlitCommandsAct_egressFlitSlot.links) && decide (t.regs = s_FlitCommandsAct_egressFlitSlot.regs) && decide (t.mem = s_FlitCommandsAct_egressFlitSlot.mem)) = true := by
  decide +kernel

def s_FlitCommandsAct_egressFlitSlot2 : State := (live.setFld (Reg.lnkState 0) stUp).setFld (Reg.lnkWidth 0) 16

theorem test_FlitCommandsAct_egressFlitSlot2 :
    linkIn s_FlitCommandsAct_egressFlitSlot2 (0 : Fin 14) stUp = true := by
  decide +kernel

def s_FlitCommandsAct_retryLimitReached : State := (((live.setFld (Reg.lnkState 8) stUp).setFld (Reg.lnkWidth 8) 16).setFld Reg.retryLimit 8).modLink 8 (fun k => { k with retry := [⟨0, 0, true, true, [], 0, 8⟩] })

theorem test_FlitCommandsAct_retryLimitReached :
    linkIn s_FlitCommandsAct_retryLimitReached (8 : Fin 14) stUp = true ∧ overResent s_FlitCommandsAct_retryLimitReached (8 : Fin 14) = true ∧ (((s_FlitCommandsAct_retryLimitReached.link (8 : Fin 14)).fastAt.filter (fun t => decide (s_FlitCommandsAct_retryLimitReached.now < t + 1000 * ticksPerMs))).length < 2) := by
  decide +kernel

def s_FlitCommandsAct_laneOutOfLock : State := ((live.setFld (Reg.lnkState 8) stUp).setFld (Reg.lnkWidth 8) 16).modLink 8 (fun k => { k with missed := [(33, 2)] })

theorem test_FlitCommandsAct_laneOutOfLock :
    linkIn s_FlitCommandsAct_laneOutOfLock (8 : Fin 14) stUp = true ∧ (2 ≤ Tab.get (fun _ => 0) (s_FlitCommandsAct_laneOutOfLock.link (8 : Fin 14)).missed (33 : Fin 34)) ∧ (((s_FlitCommandsAct_laneOutOfLock.link (8 : Fin 14)).fastAt.filter (fun t => decide (s_FlitCommandsAct_laneOutOfLock.now < t + 1000 * ticksPerMs))).length < 2) := by
  decide +kernel

/-! RetrainCommandsAct. -/

def s_RetrainCommandsAct_fastRetrain : State := (live.setFld (Reg.lnkState 8) stUp).setFld (Reg.lnkWidth 8) 16

theorem test_RetrainCommandsAct_fastRetrain :
    linkIn s_RetrainCommandsAct_fastRetrain (8 : Fin 14) stUp = true ∧ (((s_RetrainCommandsAct_fastRetrain.link (8 : Fin 14)).fastAt.filter (fun t => decide (s_RetrainCommandsAct_fastRetrain.now < t + 1000 * ticksPerMs))).length < 2) := by
  decide +kernel

def s_RetrainCommandsAct_fastRetrain2 : State := ((live.setFld (Reg.lnkState 8) stUp).setFld (Reg.lnkWidth 8) 16).modLink 8 (fun k => { k with fastAt := [0, 1] })

theorem test_RetrainCommandsAct_fastRetrain2 :
    linkIn s_RetrainCommandsAct_fastRetrain2 (8 : Fin 14) stUp = true ∧ (2 ≤ ((s_RetrainCommandsAct_fastRetrain2.link (8 : Fin 14)).fastAt.filter (fun t => decide (s_RetrainCommandsAct_fastRetrain2.now < t + 1000 * ticksPerMs))).length) ∧ linkRefused s_RetrainCommandsAct_fastRetrain2 (8 : Fin 14) = false := by
  decide +kernel

def s_RetrainCommandsAct_linkRetrain : State := (live.setFld (Reg.lnkState 8) stUp).setFld (Reg.lnkWidth 8) 16

theorem test_RetrainCommandsAct_linkRetrain :
    linkIn s_RetrainCommandsAct_linkRetrain (8 : Fin 14) stUp = true ∧ (((s_RetrainCommandsAct_linkRetrain.link (8 : Fin 14)).fastAt.filter (fun t => decide (s_RetrainCommandsAct_linkRetrain.now < t + 1000 * ticksPerMs))).length < 2) := by
  decide +kernel

def s_RetrainCommandsAct_linkRetrain2 : State := ((live.setFld (Reg.lnkState 8) stUp).setFld (Reg.lnkWidth 8) 16).modLink 8 (fun k => { k with fastAt := [0, 1] })

theorem test_RetrainCommandsAct_linkRetrain2 :
    linkIn s_RetrainCommandsAct_linkRetrain2 (8 : Fin 14) stUp = true ∧ (2 ≤ ((s_RetrainCommandsAct_linkRetrain2.link (8 : Fin 14)).fastAt.filter (fun t => decide (s_RetrainCommandsAct_linkRetrain2.now < t + 1000 * ticksPerMs))).length) ∧ linkRefused s_RetrainCommandsAct_linkRetrain2 (8 : Fin 14) = false := by
  decide +kernel

def s_RetrainCommandsAct_retrainRequestReceive : State := (live.setFld (Reg.lnkState 8) stUp).setFld (Reg.lnkWidth 8) 16

theorem test_RetrainCommandsAct_retrainRequestReceive :
    (linkIn s_RetrainCommandsAct_retrainRequestReceive (8 : Fin 14) stUp = true ∧ (((s_RetrainCommandsAct_retrainRequestReceive.link (8 : Fin 14)).fastAt.filter (fun t => decide (s_RetrainCommandsAct_retrainRequestReceive.now < t + 1000 * ticksPerMs))).length < 2)) ∧ goes (.retrainRequestReceive (8 : Fin 14)) s_RetrainCommandsAct_retrainRequestReceive
      (fun t => decide (t.fld (Reg.lnkState (8 : Fin 14)) = stRetrain) && decide ((t.link (8 : Fin 14)).retry = (s_RetrainCommandsAct_retrainRequestReceive.link (8 : Fin 14)).retry) && decide (t.outbox = s_RetrainCommandsAct_retrainRequestReceive.outbox) && decide (t.mem = s_RetrainCommandsAct_retrainRequestReceive.mem) && decide (t.ten = s_RetrainCommandsAct_retrainRequestReceive.ten)) = true := by
  decide +kernel

def s_RetrainCommandsAct_fastRetrainComplete : State := (live.setFld (Reg.lnkState 8) stRetrain).setFld (Reg.lnkWidth 8) 16

theorem test_RetrainCommandsAct_fastRetrainComplete :
    linkIn s_RetrainCommandsAct_fastRetrainComplete (8 : Fin 14) stRetrain = true ∧ (laneAssignment s_RetrainCommandsAct_fastRetrainComplete (8 : Fin 14)).isSome = true := by
  decide +kernel

def s_RetrainCommandsAct_fastRetrainFail : State := (live.setFld (Reg.lnkState 8) stRetrain).setFld (Reg.lnkWidth 8) 16

theorem test_RetrainCommandsAct_fastRetrainFail :
    linkIn s_RetrainCommandsAct_fastRetrainFail (8 : Fin 14) stRetrain = true ∧ linkRefused s_RetrainCommandsAct_fastRetrainFail (8 : Fin 14) = false := by
  decide +kernel

def s_RetrainCommandsAct_downMessageReceive : State := (live.setFld (Reg.lnkState 8) stUp).setFld (Reg.lnkWidth 8) 16

theorem test_RetrainCommandsAct_downMessageReceive :
    linksLive s_RetrainCommandsAct_downMessageReceive = true ∧ inService s_RetrainCommandsAct_downMessageReceive (8 : Fin 14) = true := by
  decide +kernel

def s_RetrainCommandsAct_linkRetrainFull : State := (live.setFld (Reg.lnkState 8) stUp).setFld (Reg.lnkWidth 8) 16

theorem test_RetrainCommandsAct_linkRetrainFull :
    linksLive s_RetrainCommandsAct_linkRetrainFull = true ∧ s_RetrainCommandsAct_linkRetrainFull.fld (Reg.lnkState (8 : Fin 14)) ≠ stDisabled ∧ s_RetrainCommandsAct_linkRetrainFull.fld (Reg.lnkState (8 : Fin 14)) ≠ stTest ∧ linkRefused s_RetrainCommandsAct_linkRetrainFull (8 : Fin 14) = false := by
  decide +kernel

def s_RetrainCommandsAct_linkDisable : State := (live.setFld (Reg.lnkState 8) stUp).setFld (Reg.lnkWidth 8) 16

theorem test_RetrainCommandsAct_linkDisable :
    linksLive s_RetrainCommandsAct_linkDisable = true ∧ s_RetrainCommandsAct_linkDisable.fld (Reg.lnkEnable (8 : Fin 14)) = 1 ∧ s_RetrainCommandsAct_linkDisable.fld (Reg.lnkState (8 : Fin 14)) ≠ stTest := by
  decide +kernel

def s_RetrainCommandsAct_linkEnable : State := live.setFld (Reg.lnkEnable 8) 0

theorem test_RetrainCommandsAct_linkEnable :
    (linksLive s_RetrainCommandsAct_linkEnable = true ∧ s_RetrainCommandsAct_linkEnable.fld (Reg.lnkEnable (8 : Fin 14)) = 0 ∧ portOff s_RetrainCommandsAct_linkEnable (8 : Fin 14) = false ∧ s_RetrainCommandsAct_linkEnable.fld (Reg.lnkState (8 : Fin 14)) ≠ stTest) ∧ goes (.linkEnable (8 : Fin 14)) s_RetrainCommandsAct_linkEnable
      (fun t => decide (t.fld (Reg.lnkEnable (8 : Fin 14)) = 1) && decide (t.fld (Reg.portState (8 : Fin 14)) = 0) && decide ((t.link (8 : Fin 14)).attempts = 0) && decide (t.mem = s_RetrainCommandsAct_linkEnable.mem) && decide (t.ten = s_RetrainCommandsAct_linkEnable.ten)) = true := by
  decide +kernel

/-! TrainingCommandsAct. -/

def s_TrainingCommandsAct_farEndDetected : State := (live.setFld (Reg.lnkState 8) stDetect).setFld (Reg.lnkWidth 8) 16

theorem test_TrainingCommandsAct_farEndDetected :
    (linkIn s_TrainingCommandsAct_farEndDetected (8 : Fin 14) stDetect = true) ∧ goes (.farEndDetected (8 : Fin 14)) s_TrainingCommandsAct_farEndDetected
      (fun t => decide (t.fld (Reg.lnkState (8 : Fin 14)) = stEq) && decide ((t.link (8 : Fin 14)).trainGen = 1) && decide ((t.link (8 : Fin 14)).postCfg = false) && decide ((t.link (8 : Fin 14)).farCfg = none) && decide (t.outbox = s_TrainingCommandsAct_farEndDetected.outbox) && decide (t.mem = s_TrainingCommandsAct_farEndDetected.mem) && decide (onlyRegs [(Reg.lnkState (8 : Fin 14)).off] s_TrainingCommandsAct_farEndDetected t = true)) = true := by
  decide +kernel

def s_TrainingCommandsAct_eqComplete : State := (live.setFld (Reg.lnkState 13) stEq).setFld (Reg.lnkWidth 13) 16

theorem test_TrainingCommandsAct_eqComplete :
    (linkIn s_TrainingCommandsAct_eqComplete (13 : Fin 14) stEq = true) ∧ goes (.eqComplete (13 : Fin 14)) s_TrainingCommandsAct_eqComplete
      (fun t => decide (t.fld (Reg.lnkState (13 : Fin 14)) = stAlign) && decide (t.links = s_TrainingCommandsAct_eqComplete.links) && decide (t.outbox = s_TrainingCommandsAct_eqComplete.outbox) && decide (t.mem = s_TrainingCommandsAct_eqComplete.mem) && decide (onlyRegs [(Reg.lnkState (13 : Fin 14)).off] s_TrainingCommandsAct_eqComplete t = true)) = true := by
  decide +kernel

def s_TrainingCommandsAct_farEndDetected2 : State := ((live.setFld (Reg.lnkState 8) stDown).setFld (Reg.lnkWidth 8) 16).setFld (Reg.lnkCause 8) causeFarDown |>.setSite 8 { Site.init with accepted := true, powerGood := true } |>.setSite 9 { Site.init with accepted := true, powerGood := true }

theorem test_TrainingCommandsAct_farEndDetected2 :
    (linkIn s_TrainingCommandsAct_farEndDetected2 (8 : Fin 14) stDown = true ∧ s_TrainingCommandsAct_farEndDetected2.fld (Reg.lnkEnable (8 : Fin 14)) = 1 ∧ portOff s_TrainingCommandsAct_farEndDetected2 (8 : Fin 14) = false ∧ linkReady s_TrainingCommandsAct_farEndDetected2 (8 : Fin 14) = true ∧ (s_TrainingCommandsAct_farEndDetected2.fld (Reg.lnkCause (8 : Fin 14)) = causeFarDown ∨ s_TrainingCommandsAct_farEndDetected2.fld (Reg.lnkCause (8 : Fin 14)) = causeIron)) ∧ goes (.farEndDetected (8 : Fin 14)) s_TrainingCommandsAct_farEndDetected2
      (fun t => decide (t.fld (Reg.lnkState (8 : Fin 14)) = stEq) && decide ((t.link (8 : Fin 14)).attempts = 0) && decide ((t.link (8 : Fin 14)).target = 0) && decide ((t.link (8 : Fin 14)).trainGen = 1) && decide (t.outbox = s_TrainingCommandsAct_farEndDetected2.outbox) && decide (t.mem = s_TrainingCommandsAct_farEndDetected2.mem) && decide (onlyRegs [(Reg.lnkState (8 : Fin 14)).off] s_TrainingCommandsAct_farEndDetected2 t = true)) = true := by
  decide +kernel

def s_TrainingCommandsAct_alignComplete : State := (live.setFld (Reg.lnkState 8) stAlign).setFld (Reg.lnkWidth 8) 16

theorem test_TrainingCommandsAct_alignComplete :
    (linkIn s_TrainingCommandsAct_alignComplete (8 : Fin 14) stAlign = true ∧ (s_TrainingCommandsAct_alignComplete.link (8 : Fin 14)).postCfg = false) ∧ goes (.alignComplete (8 : Fin 14) (7 : Fin 65536)) s_TrainingCommandsAct_alignComplete
      (fun t => decide (t.fld (Reg.lnkState (8 : Fin 14)) = stConfig) && decide (t.outbox = s_TrainingCommandsAct_alignComplete.outbox ++ [.linkMsg (8 : Fin 14) (.cfg (ownCfg t (8 : Fin 14)))]) && decide ((t.link (8 : Fin 14)).alloc = (List.range 14).map (vcAlloc s_TrainingCommandsAct_alignComplete (8 : Fin 14))) && decide (onlyRegs [(Reg.lnkState (8 : Fin 14)).off] s_TrainingCommandsAct_alignComplete t = true)) = true := by
  decide +kernel

def s_TrainingCommandsAct_alignComplete2 : State := ((live.setFld (Reg.lnkState 8) stAlign).setFld (Reg.lnkWidth 8) 16).modLink 8 (fun k => { k with postCfg := true })

theorem test_TrainingCommandsAct_alignComplete2 :
    mayAlign s_TrainingCommandsAct_alignComplete2 (8 : Fin 14) = true ∧ (s_TrainingCommandsAct_alignComplete2.link (8 : Fin 14)).postCfg = true ∧ (laneAssignment s_TrainingCommandsAct_alignComplete2 (8 : Fin 14)).isSome = true := by
  decide +kernel

def cfg_TrainingCommandsAct_cfgReceive : Cfg := { chipId := 4095, link := 9, ringX := 1, ringY := 1, ringZ := 1, maxGen := 3, lanes := 0, credits := [], assigned := true }

def s_TrainingCommandsAct_cfgReceive : State := (live.setFld (Reg.lnkState 8) stConfig).setFld (Reg.lnkWidth 8) 16

theorem test_TrainingCommandsAct_cfgReceive :
    (linkIn s_TrainingCommandsAct_cfgReceive (8 : Fin 14) stConfig = true ∧ s_TrainingCommandsAct_cfgReceive.fld Reg.assigned = 0 ∧ cfg_TrainingCommandsAct_cfgReceive.chipId < 4096 ∧ cfg_TrainingCommandsAct_cfgReceive.link < 16) ∧ goes (.cfgReceive (8 : Fin 14) cfg_TrainingCommandsAct_cfgReceive) s_TrainingCommandsAct_cfgReceive
      (fun t => decide (t.fld (Reg.lnkState (8 : Fin 14)) = stConfig) && decide (t.fld (Reg.farId (8 : Fin 14)) = cfg_TrainingCommandsAct_cfgReceive.chipId) && decide (t.fld (Reg.farLink (8 : Fin 14)) = cfg_TrainingCommandsAct_cfgReceive.link) && decide ((t.link (8 : Fin 14)).farCfg = some cfg_TrainingCommandsAct_cfgReceive)) = true := by
  decide +kernel

def cfg_TrainingCommandsAct_cfgReceive2 : Cfg := { chipId := 4095, link := 9, ringX := 1, ringY := 1, ringZ := 1, maxGen := 3, lanes := 0, credits := [], assigned := true }

def s_TrainingCommandsAct_cfgReceive2 : State := ((live.setFld (Reg.lnkState 8) stConfig).setFld (Reg.lnkWidth 8) 16).setFld Reg.assigned 1

theorem test_TrainingCommandsAct_cfgReceive2 :
    linkIn s_TrainingCommandsAct_cfgReceive2 (8 : Fin 14) stConfig = true ∧ s_TrainingCommandsAct_cfgReceive2.fld Reg.assigned = 1 ∧ isTorus (8 : Fin 14) = true ∧ cfg_TrainingCommandsAct_cfgReceive2.assigned = true ∧ cfgFits s_TrainingCommandsAct_cfgReceive2 (8 : Fin 14) cfg_TrainingCommandsAct_cfgReceive2 = false ∧ cfg_TrainingCommandsAct_cfgReceive2.chipId < 4096 := by
  decide +kernel

def s_TrainingCommandsAct_cfgResendTick : State := (live.setFld (Reg.lnkState 8) stConfig).setFld (Reg.lnkWidth 8) 16

theorem test_TrainingCommandsAct_cfgResendTick :
    (linkIn s_TrainingCommandsAct_cfgResendTick (8 : Fin 14) stConfig = true ∧ repeatsCfg s_TrainingCommandsAct_cfgResendTick (8 : Fin 14) = true) ∧ goes (.cfgResendTick (8 : Fin 14)) s_TrainingCommandsAct_cfgResendTick
      (fun t => decide (t.outbox = s_TrainingCommandsAct_cfgResendTick.outbox ++ [.linkMsg (8 : Fin 14) (.cfg (ownCfg s_TrainingCommandsAct_cfgResendTick (8 : Fin 14)))]) && decide (t.regs = s_TrainingCommandsAct_cfgResendTick.regs) && decide (t.links = s_TrainingCommandsAct_cfgResendTick.links)) = true := by
  decide +kernel

def s_TrainingCommandsAct_configComplete : State := (((live.setFld (Reg.lnkState 0) stConfig).setFld (Reg.lnkWidth 0) 16).setFld Reg.assigned 1).modLink 0 (fun k => { k with farCfg := some { chipId := 4095, link := 9, ringX := 1, ringY := 1, ringZ := 1, maxGen := 3, lanes := 0, credits := [], assigned := true } })

theorem test_TrainingCommandsAct_configComplete :
    (linkIn s_TrainingCommandsAct_configComplete (0 : Fin 14) stConfig = true ∧ configReady s_TrainingCommandsAct_configComplete (0 : Fin 14) = true ∧ miscabled s_TrainingCommandsAct_configComplete (0 : Fin 14) = false) ∧ goes (.configComplete (0 : Fin 14)) s_TrainingCommandsAct_configComplete
      (fun t => decide (t.fld (Reg.lnkState (0 : Fin 14)) = stEq) && decide ((t.link (0 : Fin 14)).postCfg = true) && decide ((t.link (0 : Fin 14)).trainGen = targetGen s_TrainingCommandsAct_configComplete (0 : Fin 14)) && decide (t.outbox = s_TrainingCommandsAct_configComplete.outbox)) = true := by
  decide +kernel

def s_TrainingCommandsAct_trainingTimeout : State := (later ((live.setFld (Reg.lnkState 8) stEq).setFld (Reg.lnkWidth 8) 16)).modLink 8 (fun k => { k with spent := 2 ^ 40 })

theorem test_TrainingCommandsAct_trainingTimeout :
    (attemptRuns s_TrainingCommandsAct_trainingTimeout (8 : Fin 14) = true ∧ attemptLate s_TrainingCommandsAct_trainingTimeout (8 : Fin 14) = true ∧ (s_TrainingCommandsAct_trainingTimeout.link (8 : Fin 14)).attempts < 2) ∧ goes (.trainingTimeout (8 : Fin 14)) s_TrainingCommandsAct_trainingTimeout
      (fun t => decide ((t.link (8 : Fin 14)).attempts = (s_TrainingCommandsAct_trainingTimeout.link (8 : Fin 14)).attempts + 1) && decide ((t.link (8 : Fin 14)).target = (s_TrainingCommandsAct_trainingTimeout.link (8 : Fin 14)).target) && decide (t.outbox = s_TrainingCommandsAct_trainingTimeout.outbox)) = true := by
  decide +kernel

def s_TrainingCommandsAct_trainingTimeout2 : State := (((live.setFld (Reg.lnkState 8) stEq).setFld (Reg.lnkWidth 8) 16).setFld (Reg.genCfg 8) 1).modLink 8 (fun k => { k with attempts := 2, target := 1, spent := 2 ^ 40 })

theorem test_TrainingCommandsAct_trainingTimeout2 :
    attemptRuns s_TrainingCommandsAct_trainingTimeout2 (8 : Fin 14) = true ∧ attemptLate s_TrainingCommandsAct_trainingTimeout2 (8 : Fin 14) = true ∧ 2 ≤ (s_TrainingCommandsAct_trainingTimeout2.link (8 : Fin 14)).attempts ∧ targetGen s_TrainingCommandsAct_trainingTimeout2 (8 : Fin 14) ≤ floorGen s_TrainingCommandsAct_trainingTimeout2 (8 : Fin 14) ∧ linkUp s_TrainingCommandsAct_trainingTimeout2 (8 : Fin 14) = false := by
  decide +kernel

def s_TrainingCommandsAct_trainingTimeout3 : State := ((live.setFld (Reg.lnkState 8) stEq).setFld (Reg.lnkWidth 8) 16).modLink 8 (fun k => { k with attempts := 2, spent := 2 ^ 40 })

theorem test_TrainingCommandsAct_trainingTimeout3 :
    attemptRuns s_TrainingCommandsAct_trainingTimeout3 (8 : Fin 14) = true ∧ attemptLate s_TrainingCommandsAct_trainingTimeout3 (8 : Fin 14) = true ∧ 2 ≤ (s_TrainingCommandsAct_trainingTimeout3.link (8 : Fin 14)).attempts ∧ floorGen s_TrainingCommandsAct_trainingTimeout3 (8 : Fin 14) < targetGen s_TrainingCommandsAct_trainingTimeout3 (8 : Fin 14) := by
  decide +kernel

/-! CartridgeCommandsAct. -/

theorem test_CartridgeCommandsAct_cartridgeInsert :
    (siteWatched live (19 : Fin 20) = true ∧ live.fld (Reg.hotplug (19 : Fin 20)) = 1) ∧ goes (.cartridgeInsert (19 : Fin 20)) live
      (fun t => decide (t.fld (Reg.hotplug (19 : Fin 20)) = 0) && decide (t.site (19 : Fin 20) = Site.init) && decide (t.outbox = live.outbox) && decide (t.mem = live.mem)) = true := by
  decide +kernel

def s_CartridgeCommandsAct_hotplugDebounceExpiry : State := live.setFld (Reg.hotplug 19) 0

theorem test_CartridgeCommandsAct_hotplugDebounceExpiry :
    (bouncing s_CartridgeCommandsAct_hotplugDebounceExpiry (19 : Fin 20) = true) ∧ goes (.hotplugDebounceExpiry (19 : Fin 20)) s_CartridgeCommandsAct_hotplugDebounceExpiry
      (fun t => decide ((t.site (19 : Fin 20)).debounced = true) && decide (t.regs = s_CartridgeCommandsAct_hotplugDebounceExpiry.regs) && decide (t.links = s_CartridgeCommandsAct_hotplugDebounceExpiry.links) && decide (t.outbox = s_CartridgeCommandsAct_hotplugDebounceExpiry.outbox)) = true := by
  decide +kernel

def eeprom_CartridgeCommandsAct_cartIdReadComplete : List Byte := [0x5A, 0, 1, 1, 0, 0] ++ List.replicate 16 0x20 ++ [17, 0x93]

def s_CartridgeCommandsAct_cartIdReadComplete : State := (live.setFld (Reg.hotplug 8) 0).setSite 8 { Site.init with debounced := true }

theorem test_CartridgeCommandsAct_cartIdReadComplete :
    reading s_CartridgeCommandsAct_cartIdReadComplete (8 : Fin 20) = true ∧ eepromOk s_CartridgeCommandsAct_cartIdReadComplete eeprom_CartridgeCommandsAct_cartIdReadComplete = true := by
  decide +kernel

def s_CartridgeCommandsAct_cartIdReadComplete2 : State := (live.setFld (Reg.hotplug 8) 0).setSite 8 { Site.init with debounced := true }

theorem test_CartridgeCommandsAct_cartIdReadComplete2 :
    reading s_CartridgeCommandsAct_cartIdReadComplete2 (8 : Fin 20) = true ∧ eepromOk s_CartridgeCommandsAct_cartIdReadComplete2 ([0] : List Byte) = false ∧ s_CartridgeCommandsAct_cartIdReadComplete2.fld (Reg.lnkState (linkOfSite (8 : Fin 20))) ≠ stDisabled ∧ s_CartridgeCommandsAct_cartIdReadComplete2.fld (Reg.lnkState (linkOfSite (8 : Fin 20))) ≠ stTest := by
  decide +kernel

def s_CartridgeCommandsAct_cartIdTimeout : State := (live.setFld (Reg.hotplug 8) 0).setSite 8 { Site.init with debounced := true }

theorem test_CartridgeCommandsAct_cartIdTimeout :
    reading s_CartridgeCommandsAct_cartIdTimeout (8 : Fin 20) = true ∧ s_CartridgeCommandsAct_cartIdTimeout.fld (Reg.lnkState (linkOfSite (8 : Fin 20))) ≠ stDisabled ∧ s_CartridgeCommandsAct_cartIdTimeout.fld (Reg.lnkState (linkOfSite (8 : Fin 20))) ≠ stTest := by
  decide +kernel

def s_CartridgeCommandsAct_sitePowerGood : State := { live with house := { live.house with siteEn := 2 ^ 19 } }

theorem test_CartridgeCommandsAct_sitePowerGood :
    (siteWatched s_CartridgeCommandsAct_sitePowerGood (19 : Fin 20) = true ∧ s_CartridgeCommandsAct_sitePowerGood.house.siteEn.testBit (19 : Fin 20) = true ∧ (s_CartridgeCommandsAct_sitePowerGood.site (19 : Fin 20)).powerGood = false) ∧ goes (.sitePowerGood (19 : Fin 20)) s_CartridgeCommandsAct_sitePowerGood
      (fun t => decide ((t.site (19 : Fin 20)).powerGood = true) && decide (t.outbox = s_CartridgeCommandsAct_sitePowerGood.outbox) && decide (t.mem = s_CartridgeCommandsAct_sitePowerGood.mem) && decide (onlyRegs [(Reg.lnkState (linkOfSite (19 : Fin 20))).off] s_CartridgeCommandsAct_sitePowerGood t = true)) = true := by
  decide +kernel

def s_CartridgeCommandsAct_cartridgeRemove : State := live.setFld (Reg.hotplug 0) 0

theorem test_CartridgeCommandsAct_cartridgeRemove :
    siteWatched s_CartridgeCommandsAct_cartridgeRemove (0 : Fin 20) = true ∧ s_CartridgeCommandsAct_cartridgeRemove.fld (Reg.hotplug (0 : Fin 20)) = 0 ∧ s_CartridgeCommandsAct_cartridgeRemove.house.resetLow = false := by
  decide +kernel

/-! LaneCommandsAct. -/

def s_LaneCommandsAct_laneSubRequest : State := (forEach (fun i s => setLaneAt 8 i (if i < 16 then i else i + 1) s) (List.range 32) (((live.setFld (Reg.lnkState 8) stUp).setFld (Reg.lnkWidth 8) 32).setFld (Reg.laneUncorr 8 0) 17))

theorem test_LaneCommandsAct_laneSubRequest :
    linkIn s_LaneCommandsAct_laneSubRequest (8 : Fin 14) stUp = true ∧ overThreshold s_LaneCommandsAct_laneSubRequest (8 : Fin 14) (0 : Fin 34) = true ∧ onLink (8 : Fin 14) (0 : Fin 34) = true ∧ swingFree s_LaneCommandsAct_laneSubRequest (8 : Fin 14) (0 : Fin 34) = true ∧ (sliceOnSite s_LaneCommandsAct_laneSubRequest (8 : Fin 14) (0 : Fin 34)).isNone = true ∧ (s_LaneCommandsAct_laneSubRequest.link (8 : Fin 14)).subs = [] := by
  decide +kernel

def s_LaneCommandsAct_laneSubReceive : State := (forEach (fun i s => setLaneAt 8 i (if i < 16 then i else i + 1) s) (List.range 32) (((live.setFld (Reg.lnkState 8) stUp).setFld (Reg.lnkWidth 8) 32).setFld (Reg.laneUncorr 8 0) 17))

theorem test_LaneCommandsAct_laneSubReceive :
    linkIn s_LaneCommandsAct_laneSubReceive (8 : Fin 14) stUp = true ∧ isSwing (0 : Fin 34) = false ∧ laneCarries s_LaneCommandsAct_laneSubReceive (8 : Fin 14) (0 : Fin 34) = true ∧ onLink (8 : Fin 14) (0 : Fin 34) = true ∧ swingFree s_LaneCommandsAct_laneSubReceive (8 : Fin 14) (0 : Fin 34) = true ∧ (sliceOnSite s_LaneCommandsAct_laneSubReceive (8 : Fin 14) (0 : Fin 34)).isNone = true ∧ (s_LaneCommandsAct_laneSubReceive.link (8 : Fin 14)).subs = [] := by
  decide +kernel

def s_LaneCommandsAct_laneSubComma : State := ((live.setFld (Reg.lnkState 8) stUp).setFld (Reg.lnkWidth 8) 16).modLink 8 (fun k => { k with rxCount := 1, subs := [LaneSub.waiting 0 16 true] })

theorem test_LaneCommandsAct_laneSubComma :
    (linkIn s_LaneCommandsAct_laneSubComma (8 : Fin 14) stUp = true ∧ (s_LaneCommandsAct_laneSubComma.link (8 : Fin 14)).subs = [LaneSub.waiting (0) (16) true]) ∧ goes (.laneSubComma (8 : Fin 14)) s_LaneCommandsAct_laneSubComma
      (fun t => decide ((t.link (8 : Fin 14)).subs = [⟨(0), (16), true, if atComma s_LaneCommandsAct_laneSubComma (8 : Fin 14) (s_LaneCommandsAct_laneSubComma.link (8 : Fin 14)).txCount then 1 else 0, if atComma s_LaneCommandsAct_laneSubComma (8 : Fin 14) (s_LaneCommandsAct_laneSubComma.link (8 : Fin 14)).rxCount then 1 else 0, if atComma s_LaneCommandsAct_laneSubComma (8 : Fin 14) (s_LaneCommandsAct_laneSubComma.link (8 : Fin 14)).txCount then some (s_LaneCommandsAct_laneSubComma.link (8 : Fin 14)).txCount else none, if atComma s_LaneCommandsAct_laneSubComma (8 : Fin 14) (s_LaneCommandsAct_laneSubComma.link (8 : Fin 14)).rxCount then some (s_LaneCommandsAct_laneSubComma.link (8 : Fin 14)).rxCount else none⟩]) && decide (t.regs = s_LaneCommandsAct_laneSubComma.regs) && decide (t.outbox = s_LaneCommandsAct_laneSubComma.outbox)) = true := by
  decide +kernel

def s_LaneCommandsAct_laneSubComma2 : State := ((live.setFld (Reg.lnkState 8) stUp).setFld (Reg.lnkWidth 8) 16).modLink 8 (fun k => { k with txCount := 65536, subs := [⟨0, 16, true, 1, 2, some 0, some 0⟩] })

theorem test_LaneCommandsAct_laneSubComma2 :
    linkIn s_LaneCommandsAct_laneSubComma2 (8 : Fin 14) stUp = true ∧ (s_LaneCommandsAct_laneSubComma2.link (8 : Fin 14)).subs = [⟨(0), (16), true, 1, 2, some (0), some (0)⟩] ∧ atComma s_LaneCommandsAct_laneSubComma2 (8 : Fin 14) (s_LaneCommandsAct_laneSubComma2.link (8 : Fin 14)).txCount = true ∧ (0) ≠ (s_LaneCommandsAct_laneSubComma2.link (8 : Fin 14)).txCount := by
  decide +kernel

def s_LaneCommandsAct_subWindowEnd : State := (((live.setFld (Reg.lnkState 8) stUp).setFld (Reg.lnkWidth 8) 32).setFld (Reg.laneUncorr 8 0) 17).modLink 8 (fun k => { k with windowCount := 2 ^ 40 })

theorem test_LaneCommandsAct_subWindowEnd :
    (linksLive s_LaneCommandsAct_subWindowEnd = true ∧ windowOver s_LaneCommandsAct_subWindowEnd (8 : Fin 14) = true ∧ onLink (8 : Fin 14) (33 : Fin 34) = true) ∧ goes (.subWindowEnd (8 : Fin 14)) s_LaneCommandsAct_subWindowEnd
      (fun t => decide ((t.link (8 : Fin 14)).windowCount = 0) && decide (t.fld (Reg.laneUncorr (8 : Fin 14) (33 : Fin 34)) = 0) && decide (t.fld (Reg.laneCorr (8 : Fin 14) (33 : Fin 34)) = 0) && decide (t.outbox = s_LaneCommandsAct_subWindowEnd.outbox)) = true := by
  decide +kernel

def s_LaneCommandsAct_laneFailureNoSwing : State := (forEach (fun i s => setLaneAt 8 i (if i < 16 then i else i + 1) s) (List.range 32) (((live.setFld (Reg.lnkState 8) stUp).setFld (Reg.lnkWidth 8) 32).setFld (Reg.laneUncorr 8 0) 17)).setFld (Reg.allowHalf 8) 0 |>.raise (Reg.laneRetired 8 16)

theorem test_LaneCommandsAct_laneFailureNoSwing :
    linkIn s_LaneCommandsAct_laneFailureNoSwing (8 : Fin 14) stUp = true ∧ noSwingLeft s_LaneCommandsAct_laneFailureNoSwing (8 : Fin 14) (0 : Fin 34) = true ∧ s_LaneCommandsAct_laneFailureNoSwing.fld (Reg.allowHalf (8 : Fin 14)) = 0 := by
  decide +kernel

def s_LaneCommandsAct_laneFailureNoSwing2 : State := (forEach (fun i s => setLaneAt 8 i (if i < 16 then i else i + 1) s) (List.range 32) (((live.setFld (Reg.lnkState 8) stUp).setFld (Reg.lnkWidth 8) 32).setFld (Reg.laneUncorr 8 0) 17)).raise (Reg.laneRetired 8 16)

theorem test_LaneCommandsAct_laneFailureNoSwing2 :
    linkIn s_LaneCommandsAct_laneFailureNoSwing2 (8 : Fin 14) stUp = true ∧ noSwingLeft s_LaneCommandsAct_laneFailureNoSwing2 (8 : Fin 14) (0 : Fin 34) = true ∧ s_LaneCommandsAct_laneFailureNoSwing2.fld (Reg.allowHalf (8 : Fin 14)) = 1 ∧ ((0 : Fin 34) : Nat) ∉ (s_LaneCommandsAct_laneFailureNoSwing2.link (8 : Fin 14)).badLanes ∧ (fullWidth (8 : Fin 14) / 2 ≤ ((lanesOf (8 : Fin 14)).filter (laneHealthy (s_LaneCommandsAct_laneFailureNoSwing2.modLink (8 : Fin 14) (fun k => { k with badLanes := k.badLanes ++ [(0 : Fin 34).val] })) (8 : Fin 14))).length) ∧ (((s_LaneCommandsAct_laneFailureNoSwing2.link (8 : Fin 14)).fastAt.filter (fun t => decide (s_LaneCommandsAct_laneFailureNoSwing2.now < t + 1000 * ticksPerMs))).length < 2) ∧ (s_LaneCommandsAct_laneFailureNoSwing2.link (8 : Fin 14)).subs = [] := by
  decide +kernel

theorem test_LaneCommandsAct_loopModeWrite :
    (linksLive live = true ∧ loopLaneBad (33 : Fin 64) = false ∧ (1 : Fin 4) ≠ 0 ∧ (live.fld (Reg.lnkState (8 : Fin 14)) = stDown ∨ live.fld (Reg.lnkState (8 : Fin 14)) = stDisabled)) ∧ goes (.loopModeWrite (8 : Fin 14) (1 : Fin 4) (33 : Fin 64)) live
      (fun t => decide (t.fld (Reg.lnkState (8 : Fin 14)) = stTest) && decide (t.fld (Reg.loopMode (8 : Fin 14)) = (1 : Fin 4).val) && decide (t.fld (Reg.loopLane (8 : Fin 14)) = (33 : Fin 64).val)) = true := by
  decide +kernel

def s_LaneCommandsAct_loopModeWrite2 : State := (live.setFld (Reg.lnkState 8) stTest).setFld (Reg.lnkEnable 8) 0

theorem test_LaneCommandsAct_loopModeWrite2 :
    linksLive s_LaneCommandsAct_loopModeWrite2 = true ∧ loopLaneBad (63 : Fin 64) = false ∧ (0 : Fin 4) = 0 ∧ s_LaneCommandsAct_loopModeWrite2.fld (Reg.lnkState (8 : Fin 14)) = stTest ∧ s_LaneCommandsAct_loopModeWrite2.fld (Reg.lnkEnable (8 : Fin 14)) = 0 := by
  decide +kernel

theorem test_LaneCommandsAct_farLoopRequest :
    (linksLive live = true ∧ live.fld (Reg.lnkState (8 : Fin 14)) = stDown ∧ loopLaneBad (63 : Fin 64) = false) ∧ goes (.farLoopRequest (8 : Fin 14) (63 : Fin 64)) live
      (fun t => decide (t.outbox = live.outbox ++ [.linkMsg (8 : Fin 14) (.loopAnswer true)]) && decide ((t.link (8 : Fin 14)).farLoop = some (63 : Fin 64).val) && decide (t.regs = live.regs)) = true := by
  decide +kernel

/-! FramesCross. -/

def r_FramesCross_frameIngress : RxFrame := rx 4 (inFrame 13 0 0 0 0 0 [])

def s_FramesCross_frameIngress : State := live.modLink 13 (fun k => { k with frames := [rx 4 (inFrame 13 0 0 0 0 0 [])] })

theorem test_FramesCross_frameIngress :
    (linksLive s_FramesCross_frameIngress = true ∧ (s_FramesCross_frameIngress.link (13 : Fin 14)).frames = r_FramesCross_frameIngress :: ([] : List RxFrame) ∧ ingressFault s_FramesCross_frameIngress (13 : Fin 14) r_FramesCross_frameIngress (Frame.ofBytes r_FramesCross_frameIngress.bytes) = some ((Reg.hdrBad : Field), (3))) ∧ goes (.frameIngress (13 : Fin 14)) s_FramesCross_frameIngress
      (fun t => decide ((t.link (13 : Fin 14)).frames = ([] : List RxFrame)) && decide (t.fld Reg.dropReason = (3)) && decide (t.fld Reg.dropLink = (13 : Fin 14).val) && decide (t.swc = s_FramesCross_frameIngress.swc) && decide (t.mem = s_FramesCross_frameIngress.mem)) = true := by
  decide +kernel

def r_FramesCross_frameIngress2 : RxFrame := rx 4 (inFrame 4 7 8 0 0 0 [])

def s_FramesCross_frameIngress2 : State := live.modLink 8 (fun k => { k with frames := [rx 4 (inFrame 4 7 8 0 0 0 [])] })

theorem test_FramesCross_frameIngress2 :
    (linksLive s_FramesCross_frameIngress2 = true ∧ 8 ≤ (8 : Fin 14).val ∧ (s_FramesCross_frameIngress2.link (8 : Fin 14)).frames = r_FramesCross_frameIngress2 :: ([] : List RxFrame) ∧ (inFrame 4 7 8 0 0 0 [] : Frame) = Frame.ofBytes r_FramesCross_frameIngress2.bytes ∧ ingressFault s_FramesCross_frameIngress2 (8 : Fin 14) r_FramesCross_frameIngress2 (inFrame 4 7 8 0 0 0 [] : Frame) = none ∧ isResponse (inFrame 4 7 8 0 0 0 [] : Frame) = true ∧ Frame.svc (inFrame 4 7 8 0 0 0 [] : Frame) = 0 ∧ Frame.mc (inFrame 4 7 8 0 0 0 [] : Frame) = 0 ∧ Frame.dest (inFrame 4 7 8 0 0 0 [] : Frame) = myChip s_FramesCross_frameIngress2 ∧ validChip s_FramesCross_frameIngress2 (myChip s_FramesCross_frameIngress2) = true ∧ Frame.destPort (inFrame 4 7 8 0 0 0 [] : Frame) = 8 ∧ waitedAge s_FramesCross_frameIngress2 (inFrame 4 7 8 0 0 0 [] : Frame) r_FramesCross_frameIngress2.arr ≤ s_FramesCross_frameIngress2.fld Reg.ageLimit ∧ s_FramesCross_frameIngress2.fld (Reg.actState (Frame.epoch (inFrame 4 7 8 0 0 0 [] : Frame))) ≠ actSpare ∧ s_FramesCross_frameIngress2.fld Reg.strikeState = 0) ∧ goes (.frameIngress (8 : Fin 14)) s_FramesCross_frameIngress2
      (fun t => decide ((t.link (8 : Fin 14)).frames = ([] : List RxFrame)) && decide (t.swc.inbox = s_FramesCross_frameIngress2.swc.inbox ++ [InFrame.mk (inFrame 4 7 8 0 0 0 [] : Frame) (8 : Fin 14).val r_FramesCross_frameIngress2.arr]) && decide (t.swc.queue = s_FramesCross_frameIngress2.swc.queue) && decide (t.mem = s_FramesCross_frameIngress2.mem)) = true := by
  decide +kernel

def q_FramesCross_fenceRelease : QFrame := (queued 5 (outFrame 1 3 4 [1]) 8 0)

def s_FramesCross_fenceRelease : State := ((((live.setFld (Reg.ringN 0) 4).setFld (Reg.ringN 1) 4).setFld (Reg.ringN 2) 4).setFld (Reg.routeEntry 0 1) 0).modSwc (fun w => { w with fenced := [(queued 5 (outFrame 1 3 4 [1]) 8 0)] })

theorem test_FramesCross_fenceRelease :
    (linksLive s_FramesCross_fenceRelease = true ∧ fencedAt s_FramesCross_fenceRelease (5) = some q_FramesCross_fenceRelease ∧ fenceMet s_FramesCross_fenceRelease q_FramesCross_fenceRelease = true ∧ Frame.svc q_FramesCross_fenceRelease.frame = 0 ∧ Frame.mc q_FramesCross_fenceRelease.frame = 0 ∧ Frame.dest q_FramesCross_fenceRelease.frame ≠ myChip s_FramesCross_fenceRelease ∧ (s_FramesCross_fenceRelease.fld (Reg.routeEntry (Frame.epoch q_FramesCross_fenceRelease.frame) (Frame.dest q_FramesCross_fenceRelease.frame))).testBit 6 = false) ∧ goes (.fenceRelease (5)) s_FramesCross_fenceRelease
      (fun t => decide (t.swc.fenced = s_FramesCross_fenceRelease.swc.fenced.erase q_FramesCross_fenceRelease) && decide (t.swc.queue.length = s_FramesCross_fenceRelease.swc.queue.length + 1) && decide (t.mem = s_FramesCross_fenceRelease.mem) && decide (t.links = s_FramesCross_fenceRelease.links)) = true := by
  decide +kernel

def q_FramesCross_frameAgeExpiry : QFrame := (queued 5 (outFrame 1 3 4 [1]) 8 0)

def s_FramesCross_frameAgeExpiry : State := ((live.setFld Reg.time 10000000000).modSwc (fun w => { w with fenced := [(queued 5 (outFrame 1 3 4 [1]) 8 0)] })).setFld Reg.ageLimit 8

theorem test_FramesCross_frameAgeExpiry :
    linksLive s_FramesCross_frameAgeExpiry = true ∧ agedFrame s_FramesCross_frameAgeExpiry (5) (0 : Fin 14) = some q_FramesCross_frameAgeExpiry := by
  decide +kernel

def q_FramesCross_frameAgeExpiry2 : QFrame := (queued 6 (outFrame 4 3 4 []) 8 3)

def s_FramesCross_frameAgeExpiry2 : State := ((live.setFld Reg.time 10000000000).modSwc (fun w => { w with queue := [(queued 6 (outFrame 4 3 4 []) 8 3)] })).setFld Reg.ageLimit 8

theorem test_FramesCross_frameAgeExpiry2 :
    (linksLive s_FramesCross_frameAgeExpiry2 = true ∧ agedFrame s_FramesCross_frameAgeExpiry2 (6) (8 : Fin 14) = some q_FramesCross_frameAgeExpiry2 ∧ Frame.isRequest q_FramesCross_frameAgeExpiry2.frame = false) ∧ goes (.frameAgeExpiry (6) (8 : Fin 14)) s_FramesCross_frameAgeExpiry2
      (fun t => decide (t.swc.queue = s_FramesCross_frameAgeExpiry2.swc.queue.erase q_FramesCross_frameAgeExpiry2) && decide (t.fld Reg.dropReason = 6) && decide (t.mem = s_FramesCross_frameAgeExpiry2.mem)) = true := by
  decide +kernel

def s_FramesCross_portGraceExpiry : State := live.modLink 13 (fun k => { k with grace := .running })

theorem test_FramesCross_portGraceExpiry :
    linksLive s_FramesCross_portGraceExpiry = true ∧ linkUp s_FramesCross_portGraceExpiry (13 : Fin 14) = false ∧ (s_FramesCross_portGraceExpiry.link (13 : Fin 14)).grace = .running := by
  decide +kernel

def q_FramesCross_escapeWaitExpiry : QFrame := (queued 6 (outFrame 4 3 4 []) 8 3)

def s_FramesCross_escapeWaitExpiry : State := (live.setFld (Reg.routeEntry 0 1) 0).modSwc (fun w => { w with queue := [(queued 6 (outFrame 4 3 4 []) 8 3)] })

theorem test_FramesCross_escapeWaitExpiry :
    (linksLive s_FramesCross_escapeWaitExpiry = true ∧ (s_FramesCross_escapeWaitExpiry.swc.queue.find? (fun o => decide (o.stor = (6))) = some q_FramesCross_escapeWaitExpiry) ∧ escapes s_FramesCross_escapeWaitExpiry q_FramesCross_escapeWaitExpiry = true) ∧ goes (.escapeWaitExpiry (6)) s_FramesCross_escapeWaitExpiry
      (fun t => decide (t.swc.queue = s_FramesCross_escapeWaitExpiry.swc.queue.map (fun o => if o = q_FramesCross_escapeWaitExpiry then { q_FramesCross_escapeWaitExpiry with esc := some (escapePort s_FramesCross_escapeWaitExpiry (Frame.dest q_FramesCross_escapeWaitExpiry.frame) (s_FramesCross_escapeWaitExpiry.fld (Reg.routeEntry (Frame.epoch q_FramesCross_escapeWaitExpiry.frame) (Frame.dest q_FramesCross_escapeWaitExpiry.frame)))) } else o)) && decide (t.regs = s_FramesCross_escapeWaitExpiry.regs) && decide (t.links = s_FramesCross_escapeWaitExpiry.links)) = true := by
  decide +kernel

/-! StreamsAndActsAct. -/

def u_StreamsAndActsAct_sprayHoldExpiry : Stream := Stream.mk 1 8 3 7 [InFrame.mk (inFrame 10 3 9 0 0 0 []) 8 0]

def h_StreamsAndActsAct_sprayHoldExpiry : InFrame := InFrame.mk (inFrame 10 3 9 0 0 0 []) 8 0

def s_StreamsAndActsAct_sprayHoldExpiry : State := (later live).modSwc (fun w => { w with streams := [Stream.mk 1 8 3 7 [InFrame.mk (inFrame 10 3 9 0 0 0 []) 8 0]] })

theorem test_StreamsAndActsAct_sprayHoldExpiry :
    (linksLive s_StreamsAndActsAct_sprayHoldExpiry = true ∧ streamAt s_StreamsAndActsAct_sprayHoldExpiry (1 : Fin 4096) (8 : Fin 16) (3 : Fin 4) = some u_StreamsAndActsAct_sprayHoldExpiry ∧ (u_StreamsAndActsAct_sprayHoldExpiry.held.find? (fun x => decide (Frame.seq x.frame = (9 : Fin 16777216))) = some h_StreamsAndActsAct_sprayHoldExpiry) ∧ s_StreamsAndActsAct_sprayHoldExpiry.fld Reg.sprayHold ≤ 40 * (s_StreamsAndActsAct_sprayHoldExpiry.now - h_StreamsAndActsAct_sprayHoldExpiry.arr)) ∧ goes (.sprayHoldExpiry (1 : Fin 4096) (8 : Fin 16) (3 : Fin 4) (9 : Fin 16777216)) s_StreamsAndActsAct_sprayHoldExpiry
      (fun t => decide (t.swc.streams.all (fun v => !(decide (v.chip = (1 : Fin 4096).val ∧ v.port = (8 : Fin 16).val ∧ v.cls = (3 : Fin 4).val)) || !(decide (h_StreamsAndActsAct_sprayHoldExpiry ∈ v.held))) = true) && decide (t.mem = s_StreamsAndActsAct_sprayHoldExpiry.mem) && decide (t.regs.filter (fun e => decide (e.1 < 0x800000)) = s_StreamsAndActsAct_sprayHoldExpiry.regs.filter (fun e => decide (e.1 < 0x800000)))) = true := by
  decide +kernel

def s_StreamsAndActsAct_sprayStreamExpiry : State := live.modSwc (fun w => { w with streams := [Stream.mk 1 8 3 7 []] })

theorem test_StreamsAndActsAct_sprayStreamExpiry :
    (linksLive s_StreamsAndActsAct_sprayStreamExpiry = true ∧ streamAt s_StreamsAndActsAct_sprayStreamExpiry (1 : Fin 4096) (8 : Fin 16) (3 : Fin 4) = some (Stream.mk 1 8 3 7 [] : Stream) ∧ (Stream.mk 1 8 3 7 [] : Stream).held = []) ∧ goes (.sprayStreamExpiry (1 : Fin 4096) (8 : Fin 16) (3 : Fin 4)) s_StreamsAndActsAct_sprayStreamExpiry
      (fun t => decide (t.swc.streams = s_StreamsAndActsAct_sprayStreamExpiry.swc.streams.erase (Stream.mk 1 8 3 7 [] : Stream)) && decide (t.swc.queue = s_StreamsAndActsAct_sprayStreamExpiry.swc.queue) && decide (t.regs = s_StreamsAndActsAct_sprayStreamExpiry.regs)) = true := by
  decide +kernel

def s_StreamsAndActsAct_reorderDisable : State := (live.setFld Reg.routeReorder 1).modSwc (fun w => { w with streams := [Stream.mk 1 8 3 7 [InFrame.mk (inFrame 10 3 9 0 0 0 []) 8 0]] })

theorem test_StreamsAndActsAct_reorderDisable :
    linksLive s_StreamsAndActsAct_reorderDisable = true ∧ s_StreamsAndActsAct_reorderDisable.fld Reg.routeReorder ≠ 0 := by
  decide +kernel

def s_StreamsAndActsAct_actSeal : State := live.setFld (Reg.actState 1) 0

theorem test_StreamsAndActsAct_actSeal :
    (linksLive s_StreamsAndActsAct_actSeal = true ∧ s_StreamsAndActsAct_actSeal.fld (Reg.actState (1 : Fin 2)) = actSpare) ∧ goes (.actSeal (1 : Fin 2)) s_StreamsAndActsAct_actSeal
      (fun t => decide (t.fld (Reg.actState (1 : Fin 2)) = actSealed) && decide (t.fld Reg.actSel = s_StreamsAndActsAct_actSeal.fld Reg.actSel) && decide (t.swc = s_StreamsAndActsAct_actSeal.swc) && decide (onlyRegs [(Reg.actState (1 : Fin 2)).off, Reg.actSel.off] s_StreamsAndActsAct_actSeal t = true)) = true := by
  decide +kernel

def s_StreamsAndActsAct_actSeal2 : State := live.setFld (Reg.actState 1) 2

theorem test_StreamsAndActsAct_actSeal2 :
    (linksLive s_StreamsAndActsAct_actSeal2 = true ∧ s_StreamsAndActsAct_actSeal2.fld (Reg.actState (1 : Fin 2)) ≠ actSpare) ∧ goes (.actSeal (1 : Fin 2)) s_StreamsAndActsAct_actSeal2
      (fun t => decide (t.fld (Reg.actState (1 : Fin 2)) = s_StreamsAndActsAct_actSeal2.fld (Reg.actState (1 : Fin 2))) && decide (t.fld Reg.swcCfgErr = 1) && decide (t.swc = s_StreamsAndActsAct_actSeal2.swc) && decide (onlyRegs [(Reg.actState (1 : Fin 2)).off, Reg.swcCfgErr.off] s_StreamsAndActsAct_actSeal2 t = true)) = true := by
  decide +kernel

def s_StreamsAndActsAct_actArm : State := live.setFld (Reg.actState 1) 3

theorem test_StreamsAndActsAct_actArm :
    (linksLive s_StreamsAndActsAct_actArm = true ∧ s_StreamsAndActsAct_actArm.fld (Reg.actState (1 : Fin 2)) = actDraining) ∧ goes (.actArm (1 : Fin 2)) s_StreamsAndActsAct_actArm
      (fun t => decide (t.swc.armed.any (fun e => decide (e.1 = (1 : Fin 2).val)) = true) && decide ((s_StreamsAndActsAct_actArm.swc.armed.any (fun e => decide (e.1 = (1 : Fin 2).val)) = true → t.swc.armed = s_StreamsAndActsAct_actArm.swc.armed)) && decide (t.regs = s_StreamsAndActsAct_actArm.regs)) = true := by
  decide +kernel

def s_StreamsAndActsAct_actArm2 : State := live.setFld (Reg.actState 0) 2

theorem test_StreamsAndActsAct_actArm2 :
    (linksLive s_StreamsAndActsAct_actArm2 = true ∧ s_StreamsAndActsAct_actArm2.fld (Reg.actState (0 : Fin 2)) ≠ actDraining) ∧ goes (.actArm (0 : Fin 2)) s_StreamsAndActsAct_actArm2
      (fun t => decide (t.fld Reg.swcCfgErr = 1) && decide (t.swc = s_StreamsAndActsAct_actArm2.swc) && decide (onlyRegs [Reg.swcCfgErr.off] s_StreamsAndActsAct_actArm2 t = true)) = true := by
  decide +kernel

def s_StreamsAndActsAct_actRetire : State := ((live.setFld (Reg.actState 1) 3).modSwc (fun w => { w with armed := [(1, 0)] })).setFld Reg.retireMode 0

theorem test_StreamsAndActsAct_actRetire :
    (linksLive s_StreamsAndActsAct_actRetire = true ∧ actArmed s_StreamsAndActsAct_actRetire (1 : Fin 2) = true ∧ s_StreamsAndActsAct_actRetire.fld Reg.retireMode = 0 ∧ actInflight s_StreamsAndActsAct_actRetire (1 : Fin 2) = 0) ∧ goes (.actRetire (1 : Fin 2)) s_StreamsAndActsAct_actRetire
      (fun t => decide (t.fld (Reg.actState (1 : Fin 2)) = actSpare) && decide (t.swc.armed.all (fun e => decide (e.1 ≠ (1 : Fin 2).val)) = true) && decide (t.swc.queue = s_StreamsAndActsAct_actRetire.swc.queue) && decide (onlyRegs [(Reg.actState (1 : Fin 2)).off] s_StreamsAndActsAct_actRetire t = true)) = true := by
  decide +kernel

def s_StreamsAndActsAct_actRetireTimer : State := later ((live.setFld (Reg.actState 1) 3).modSwc (fun w => { w with armed := [(1, 0)] }))

theorem test_StreamsAndActsAct_actRetireTimer :
    (linksLive s_StreamsAndActsAct_actRetireTimer = true ∧ actArmed s_StreamsAndActsAct_actRetireTimer (1 : Fin 2) = true ∧ armOver s_StreamsAndActsAct_actRetireTimer (1 : Fin 2) = true) ∧ goes (.actRetireTimer (1 : Fin 2)) s_StreamsAndActsAct_actRetireTimer
      (fun t => decide (t.fld (Reg.actState (1 : Fin 2)) = actSpare) && decide (t.swc.armed.all (fun e => decide (e.1 ≠ (1 : Fin 2).val)) = true) && decide (t.swc.queue = s_StreamsAndActsAct_actRetireTimer.swc.queue) && decide (onlyRegs [(Reg.actState (1 : Fin 2)).off] s_StreamsAndActsAct_actRetireTimer t = true)) = true := by
  decide +kernel

/-! OwnRequestsEnd. -/

def r_OwnRequestsEnd_e2eTimeoutExpiry : OwnReq := OwnReq.mk (outFrame 0 3 4 []) 1 0 (.sync 2) 0

def s_OwnRequestsEnd_e2eTimeoutExpiry : State := ((later live).setFld Reg.e2eRetries 2).modSwc (fun w => { w with own := [OwnReq.mk (outFrame 0 3 4 []) 1 0 (.sync 2) 0] })

theorem test_OwnRequestsEnd_e2eTimeoutExpiry :
    linksLive s_OwnRequestsEnd_e2eTimeoutExpiry = true ∧ quiet s_OwnRequestsEnd_e2eTimeoutExpiry = true ∧ (s_OwnRequestsEnd_e2eTimeoutExpiry.swc.own.find? (fun o => decide (Frame.tag o.frame = (3 : Fin 1048576))) = some r_OwnRequestsEnd_e2eTimeoutExpiry) ∧ e2eOver s_OwnRequestsEnd_e2eTimeoutExpiry r_OwnRequestsEnd_e2eTimeoutExpiry = true ∧ r_OwnRequestsEnd_e2eTimeoutExpiry.attempts ≤ s_OwnRequestsEnd_e2eTimeoutExpiry.fld Reg.e2eRetries ∧ r_OwnRequestsEnd_e2eTimeoutExpiry.why ≠ .brk := by
  decide +kernel

def h_OwnRequestsEnd_responseReceive : InFrame := InFrame.mk (inFrame 4 3 4 0 0 0 []) 8 0

def s_OwnRequestsEnd_responseReceive : State := arrived (inFrame 4 3 4 0 0 0 []) live

theorem test_OwnRequestsEnd_responseReceive :
    linksLive s_OwnRequestsEnd_responseReceive = true ∧ quiet s_OwnRequestsEnd_responseReceive = true ∧ inboxOf s_OwnRequestsEnd_responseReceive (inFrame 4 3 4 0 0 0 [] : Frame) = some h_OwnRequestsEnd_responseReceive ∧ isResponse (inFrame 4 3 4 0 0 0 [] : Frame) = true ∧ (s_OwnRequestsEnd_responseReceive.swc.own.find? (fun o => decide (Frame.tag o.frame = Frame.tag (inFrame 4 3 4 0 0 0 [] : Frame) ∧ Frame.seq o.frame = Frame.seq (inFrame 4 3 4 0 0 0 [] : Frame))) = none) := by
  decide +kernel

def h_OwnRequestsEnd_responseReceive2 : InFrame := InFrame.mk (inFrame 4 3 4 0 0 0 []) 8 0

def r_OwnRequestsEnd_responseReceive2 : OwnReq := OwnReq.mk (outFrame 1 3 4 [1]) 1 0 (.mirror 2 15) 0

def s_OwnRequestsEnd_responseReceive2 : State := (arrived (inFrame 4 3 4 0 0 0 []) live).modSwc (fun w => { w with own := [OwnReq.mk (outFrame 1 3 4 [1]) 1 0 (.mirror 2 15) 0] })

theorem test_OwnRequestsEnd_responseReceive2 :
    linksLive s_OwnRequestsEnd_responseReceive2 = true ∧ quiet s_OwnRequestsEnd_responseReceive2 = true ∧ inboxOf s_OwnRequestsEnd_responseReceive2 (inFrame 4 3 4 0 0 0 [] : Frame) = some h_OwnRequestsEnd_responseReceive2 ∧ isResponse (inFrame 4 3 4 0 0 0 [] : Frame) = true ∧ Frame.type (inFrame 4 3 4 0 0 0 [] : Frame) ≠ tyRspErr ∧ (s_OwnRequestsEnd_responseReceive2.swc.own.find? (fun o => decide (Frame.tag o.frame = Frame.tag (inFrame 4 3 4 0 0 0 [] : Frame) ∧ Frame.seq o.frame = Frame.seq (inFrame 4 3 4 0 0 0 [] : Frame))) = some r_OwnRequestsEnd_responseReceive2) ∧ r_OwnRequestsEnd_responseReceive2.why = .mirror (2) (15) ∧ s_OwnRequestsEnd_responseReceive2.swc.ownWait = [] := by
  decide +kernel

def f_OwnRequestsEnd_circuitNoticeReceive : Frame := inFrame 9 0 0 0 0 0xF0 (noticePayload 5 2 1)

def h_OwnRequestsEnd_circuitNoticeReceive : InFrame := InFrame.mk (inFrame 9 0 0 0 0 0xF0 (noticePayload 5 2 1)) 8 0

def s_OwnRequestsEnd_circuitNoticeReceive : State := arrived (inFrame 9 0 0 0 0 0xF0 (noticePayload 5 2 1)) (live.setWord (Reg.cirActive 5 0) 5)

theorem test_OwnRequestsEnd_circuitNoticeReceive :
    (linksLive s_OwnRequestsEnd_circuitNoticeReceive = true ∧ inboxOf s_OwnRequestsEnd_circuitNoticeReceive f_OwnRequestsEnd_circuitNoticeReceive = some h_OwnRequestsEnd_circuitNoticeReceive ∧ isCircuitNotice f_OwnRequestsEnd_circuitNoticeReceive = true ∧ leAt f_OwnRequestsEnd_circuitNoticeReceive.payload 0 2 = (5 : Fin 4096) ∧ leAt f_OwnRequestsEnd_circuitNoticeReceive.payload 2 1 = kindGuardLost ∧ cirValid s_OwnRequestsEnd_circuitNoticeReceive (5 : Fin 4096) = true ∧ cirRole s_OwnRequestsEnd_circuitNoticeReceive (5 : Fin 4096) % 2 = 1 ∧ cirState s_OwnRequestsEnd_circuitNoticeReceive (5 : Fin 4096) = 0) ∧ goes (.circuitNoticeReceive f_OwnRequestsEnd_circuitNoticeReceive) s_OwnRequestsEnd_circuitNoticeReceive
      (fun t => decide (cirState t (5 : Fin 4096) = 1) && decide (t.swc.inbox = s_OwnRequestsEnd_circuitNoticeReceive.swc.inbox.erase h_OwnRequestsEnd_circuitNoticeReceive) && decide (t.swc.queue = s_OwnRequestsEnd_circuitNoticeReceive.swc.queue) && decide (t.links = s_OwnRequestsEnd_circuitNoticeReceive.links)) = true := by
  decide +kernel

def s_OwnRequestsEnd_clearStaged : State := live.setWord (Reg.cirStaged 4095 3) 7

theorem test_OwnRequestsEnd_clearStaged :
    (linksLive s_OwnRequestsEnd_clearStaged = true) ∧ goes .clearStaged s_OwnRequestsEnd_clearStaged
      (fun t => decide (t.word (Reg.cirStaged (4095 : Fin 4096) (3 : Fin 4)) = 0) && decide (t.word (Reg.cirActive (4095 : Fin 4096) (3 : Fin 4)) = s_OwnRequestsEnd_clearStaged.word (Reg.cirActive (4095 : Fin 4096) (3 : Fin 4))) && decide (t.regs.filter (fun e => decide (e.1 < 0x880000)) = s_OwnRequestsEnd_clearStaged.regs.filter (fun e => decide (e.1 < 0x880000))) && decide (t.swc = s_OwnRequestsEnd_clearStaged.swc)) = true := by
  decide +kernel

/-! ChannelsActs. -/

def d_ChannelsActs_pmicPowerGood : Spd := { typ := 3, x4 := true, gb := 64, serial := 7, sumOk := true }

def s_ChannelsActs_pmicPowerGood : State := { live with house := { live.house with pmicEn := 2 ^ 11 } }

theorem test_ChannelsActs_pmicPowerGood :
    (linksLive s_ChannelsActs_pmicPowerGood = true ∧ awaitsPmic s_ChannelsActs_pmicPowerGood (11 : Fin 12) = true ∧ spdRefusal d_ChannelsActs_pmicPowerGood = none) ∧ goes (.pmicPowerGood (11 : Fin 12) d_ChannelsActs_pmicPowerGood) s_ChannelsActs_pmicPowerGood
      (fun t => decide (t.fld (Reg.chState (11 : Fin 12)) = chTraining) && decide ((t.chan (11 : Fin 12)).rate = firstRate s_ChannelsActs_pmicPowerGood (11 : Fin 12) d_ChannelsActs_pmicPowerGood.typ) && decide ((t.chan (11 : Fin 12)).pmicGood = true) && decide (t.fld (Reg.chCause (11 : Fin 12)) = 0) && decide (t.swc = s_ChannelsActs_pmicPowerGood.swc)) = true := by
  decide +kernel

def d_ChannelsActs_pmicPowerGood2 : Spd := { typ := 4, x4 := true, gb := 64, serial := 7, sumOk := true }

def s_ChannelsActs_pmicPowerGood2 : State := { live with house := { live.house with pmicEn := 2 ^ 11 } }

theorem test_ChannelsActs_pmicPowerGood2 :
    linksLive s_ChannelsActs_pmicPowerGood2 = true ∧ awaitsPmic s_ChannelsActs_pmicPowerGood2 (11 : Fin 12) = true ∧ spdRefusal d_ChannelsActs_pmicPowerGood2 = some (1) := by
  decide +kernel

def s_ChannelsActs_pmicTimeout : State := { live with house := { live.house with pmicEn := 1 } }

theorem test_ChannelsActs_pmicTimeout :
    linksLive s_ChannelsActs_pmicTimeout = true ∧ awaitsPmic s_ChannelsActs_pmicTimeout (0 : Fin 12) = true ∧ (none : Option Spd) = none := by
  decide +kernel

def spd_ChannelsActs_pmicTimeout2 : Option Spd := some { typ := 3, x4 := true, gb := 64, serial := 7, sumOk := true }

def d_ChannelsActs_pmicTimeout2 : Spd := { typ := 3, x4 := true, gb := 64, serial := 7, sumOk := true }

def s_ChannelsActs_pmicTimeout2 : State := { live with house := { live.house with pmicEn := 1 } }

theorem test_ChannelsActs_pmicTimeout2 :
    linksLive s_ChannelsActs_pmicTimeout2 = true ∧ awaitsPmic s_ChannelsActs_pmicTimeout2 (0 : Fin 12) = true ∧ spd_ChannelsActs_pmicTimeout2 = some d_ChannelsActs_pmicTimeout2 := by
  decide +kernel

def s_ChannelsActs_channelTrainingComplete : State := (live.setFld (Reg.chState 11) 1).setChan 11 { Chan.init with rate := 2 }

theorem test_ChannelsActs_channelTrainingComplete :
    linksLive s_ChannelsActs_channelTrainingComplete = true ∧ s_ChannelsActs_channelTrainingComplete.fld (Reg.chState (11 : Fin 12)) = chTraining ∧ true = true ∧ (s_ChannelsActs_channelTrainingComplete.chan (11 : Fin 12)).returning = false ∧ (s_ChannelsActs_channelTrainingComplete.chan (11 : Fin 12)).rate < 4 := by
  decide +kernel

def s_ChannelsActs_channelTrainingComplete2 : State := (live.setFld (Reg.chState 11) 1).setChan 11 { Chan.init with rate := 3, fromSaved := true }

theorem test_ChannelsActs_channelTrainingComplete2 :
    (linksLive s_ChannelsActs_channelTrainingComplete2 = true ∧ s_ChannelsActs_channelTrainingComplete2.fld (Reg.chState (11 : Fin 12)) = chTraining ∧ false = false ∧ (s_ChannelsActs_channelTrainingComplete2.chan (11 : Fin 12)).fromSaved = true) ∧ goes (.channelTrainingComplete (11 : Fin 12) false) s_ChannelsActs_channelTrainingComplete2
      (fun t => decide ((t.chan (11 : Fin 12)).fromSaved = false) && decide ((t.chan (11 : Fin 12)).rate = (s_ChannelsActs_channelTrainingComplete2.chan (11 : Fin 12)).rate) && decide (t.regs = s_ChannelsActs_channelTrainingComplete2.regs)) = true := by
  decide +kernel

def s_ChannelsActs_channelTrainingComplete3 : State := (live.setFld (Reg.chState 11) 1).setChan 11 { Chan.init with rate := 3 }

theorem test_ChannelsActs_channelTrainingComplete3 :
    (linksLive s_ChannelsActs_channelTrainingComplete3 = true ∧ s_ChannelsActs_channelTrainingComplete3.fld (Reg.chState (11 : Fin 12)) = chTraining ∧ false = false ∧ (s_ChannelsActs_channelTrainingComplete3.chan (11 : Fin 12)).fromSaved = false ∧ (s_ChannelsActs_channelTrainingComplete3.chan (11 : Fin 12)).rate = 3) ∧ goes (.channelTrainingComplete (11 : Fin 12) false) s_ChannelsActs_channelTrainingComplete3
      (fun t => decide (t.fld (Reg.chState (11 : Fin 12)) = chTraining) && decide ((t.chan (11 : Fin 12)).rate = 2) && decide (onlyRegs [(Reg.chState (11 : Fin 12)).off] s_ChannelsActs_channelTrainingComplete3 t = true)) = true := by
  decide +kernel

def s_ChannelsActs_channelTrainingComplete4 : State := (live.setFld (Reg.chState 11) 1).setChan 11 { Chan.init with rate := 1 }

theorem test_ChannelsActs_channelTrainingComplete4 :
    linksLive s_ChannelsActs_channelTrainingComplete4 = true ∧ s_ChannelsActs_channelTrainingComplete4.fld (Reg.chState (11 : Fin 12)) = chTraining ∧ false = false ∧ (s_ChannelsActs_channelTrainingComplete4.chan (11 : Fin 12)).fromSaved = false ∧ (s_ChannelsActs_channelTrainingComplete4.chan (11 : Fin 12)).rate ≠ 3 := by
  decide +kernel

theorem test_ChannelsActs_channelStrike :
    linksLive pool = true ∧ setOfChan pool (0 : Fin 12) = some (0) ∧ strikeRefusal pool (0) = none ∧ highestSet pool ≠ some (0) ∧ pool.swc.inbox = [] ∧ pool.mem.hostWait = [] ∧ pool.mem.holds = [] ∧ pool.mem.moving = false ∧ pool.mem.striking = [] := by
  decide +kernel

theorem test_ChannelsActs_channelStrike2 :
    linksLive pool = true ∧ setOfChan pool (2 : Fin 12) = some (1) ∧ strikeRefusal pool (1) = none ∧ highestSet pool = some (1) ∧ ((installedSets pool).any (fun j => decide (j ≠ (1)) && decide (pool.fld (Reg.setState j) = setInService)) = true) := by
  decide +kernel

def s_ChannelsActs_channelStrike3 : State := (pool.setFld (Reg.mregMode 0) 1).setFld (Reg.mregSize 0) 1

theorem test_ChannelsActs_channelStrike3 :
    (linksLive s_ChannelsActs_channelStrike3 = true ∧ setOfChan s_ChannelsActs_channelStrike3 (0 : Fin 12) = some (0) ∧ strikeRefusal s_ChannelsActs_channelStrike3 (0) = some (2)) ∧ goes (.channelStrike (0 : Fin 12)) s_ChannelsActs_channelStrike3
      (fun t => decide (t.fld Reg.strikeResult = (2)) && decide (t.fld (Reg.chState (0 : Fin 12)) = s_ChannelsActs_channelStrike3.fld (Reg.chState (0 : Fin 12))) && decide (t.fld (Reg.setState (0)) = s_ChannelsActs_channelStrike3.fld (Reg.setState (0))) && decide (t.mem = s_ChannelsActs_channelStrike3.mem)) = true := by
  decide +kernel

def s_ChannelsActs_filterMoveComplete : State := pool.modMem (fun m => { m with moving := true, striking := [2] })

theorem test_ChannelsActs_filterMoveComplete :
    linksLive s_ChannelsActs_filterMoveComplete = true ∧ s_ChannelsActs_filterMoveComplete.mem.striking = [(2 : Fin 12).val] ∧ s_ChannelsActs_filterMoveComplete.mem.moving = true ∧ s_ChannelsActs_filterMoveComplete.swc.inbox = [] ∧ s_ChannelsActs_filterMoveComplete.mem.hostWait = [] ∧ s_ChannelsActs_filterMoveComplete.mem.holds = [] := by
  decide +kernel

def s_ChannelsActs_channelReturn : State := pool.setFld (Reg.chState 11) 3

theorem test_ChannelsActs_channelReturn :
    (linksLive s_ChannelsActs_channelReturn = true ∧ s_ChannelsActs_channelReturn.fld (Reg.chState (11 : Fin 12)) = chStruck) ∧ goes (.channelReturn (11 : Fin 12)) s_ChannelsActs_channelReturn
      (fun t => decide (t.house.pmicEn.testBit (11 : Fin 12) = true) && decide ((t.chan (11 : Fin 12)).returning = true) && decide (t.fld Reg.strikeResult = 0) && decide (t.fld (Reg.chState (11 : Fin 12)) = chStruck) && decide (onlyRegs [Reg.strikeResult.off, (Reg.chState (11 : Fin 12)).off] s_ChannelsActs_channelReturn t = true)) = true := by
  decide +kernel

theorem test_ChannelsActs_channelReturn2 :
    (linksLive pool = true ∧ pool.fld (Reg.chState (0 : Fin 12)) ≠ chStruck) ∧ goes (.channelReturn (0 : Fin 12)) pool
      (fun t => decide (t.fld Reg.memCfgErr = 1) && decide (t.house = pool.house) && decide (t.mem = pool.mem)) = true := by
  decide +kernel

def s_ChannelsActs_channelFail : State := pool.setFld (Reg.chState 11) 1

theorem test_ChannelsActs_channelFail :
    linksLive s_ChannelsActs_channelFail = true ∧ canFail s_ChannelsActs_channelFail (11 : Fin 12) = true ∧ ((6 : Fin 256).val = cauPmicFail ∨ (6 : Fin 256).val = cauTrainFail ∨ (6 : Fin 256).val = cauRemoved) := by
  decide +kernel

/-! SetsAndMirrorsAct. -/

def s_SetsAndMirrorsAct_memSetWrite : State := (pool.setFld (Reg.chState 11) 2).setFld (Reg.chCapacity 11) 2

theorem test_SetsAndMirrorsAct_memSetWrite :
    linksLive s_SetsAndMirrorsAct_memSetWrite = true ∧ s_SetsAndMirrorsAct_memSetWrite.fld (Reg.setState (11 : Fin 12)) ≠ setInService ∧ s_SetsAndMirrorsAct_memSetWrite.fld (Reg.setState (11 : Fin 12)) ≠ setZeroing ∧ (0x31800 : BitVec 64).getLsbD 12 = true ∧ (0x31800 : BitVec 64).getLsbD 13 = false ∧ field (0x31800 : BitVec 64) 16 16 < 4096 ∧ setRefused s_SetsAndMirrorsAct_memSetWrite (11 : Fin 12) (field (0x31800 : BitVec 64) 0 12) (field (0x31800 : BitVec 64) 16 16) = false := by
  decide +kernel

theorem test_SetsAndMirrorsAct_memSetWrite2 :
    (linksLive pool = true ∧ pool.fld (Reg.setState (11 : Fin 12)) ≠ setInService ∧ pool.fld (Reg.setState (11 : Fin 12)) ≠ setZeroing ∧ (0x1001 : BitVec 64).getLsbD 12 = true ∧ (0x1001 : BitVec 64).getLsbD 13 = false ∧ setRefused pool (11 : Fin 12) (field (0x1001 : BitVec 64) 0 12) (field (0x1001 : BitVec 64) 16 16) = true) ∧ goes (.memSetWrite (11 : Fin 12) (0x1001 : BitVec 64)) pool
      (fun t => decide (t.fld Reg.memCfgErr = 1) && decide (t.fld (Reg.setState (11 : Fin 12)) = pool.fld (Reg.setState (11 : Fin 12))) && decide (t.fld (Reg.setMask (11 : Fin 12)) = pool.fld (Reg.setMask (11 : Fin 12))) && decide (t.mem = pool.mem) && decide (onlyRegs [Reg.memCfgErr.off, (Reg.setState (11 : Fin 12)).off, (Reg.setMask (11 : Fin 12)).off] pool t = true)) = true := by
  decide +kernel

def s_SetsAndMirrorsAct_memSetWrite3 : State := pool.setFld (Reg.setState 1) 3

theorem test_SetsAndMirrorsAct_memSetWrite3 :
    linksLive s_SetsAndMirrorsAct_memSetWrite3 = true ∧ s_SetsAndMirrorsAct_memSetWrite3.fld (Reg.setState (1 : Fin 12)) ≠ setInService ∧ s_SetsAndMirrorsAct_memSetWrite3.fld (Reg.setState (1 : Fin 12)) ≠ setZeroing ∧ field (0 : BitVec 64) 16 16 < 4096 ∧ (0 : BitVec 64).getLsbD 12 = false := by
  decide +kernel

def s_SetsAndMirrorsAct_setZeroingComplete : State := pool.setFld (Reg.setState 1) 1

theorem test_SetsAndMirrorsAct_setZeroingComplete :
    linksLive s_SetsAndMirrorsAct_setZeroingComplete = true ∧ s_SetsAndMirrorsAct_setZeroingComplete.fld (Reg.setState (1 : Fin 12)) = setZeroing := by
  decide +kernel

def s_SetsAndMirrorsAct_mirrorSyncStart : State := ((pool.setFld (Reg.mregSize 15) 1).setFld (Reg.mregWinbase 15) 4096).setFld (Reg.mregPartner 15) 1

theorem test_SetsAndMirrorsAct_mirrorSyncStart :
    linksLive s_SetsAndMirrorsAct_mirrorSyncStart = true ∧ (s_SetsAndMirrorsAct_mirrorSyncStart.fld (Reg.mregState (15 : Fin 16)) = regOff ∨ s_SetsAndMirrorsAct_mirrorSyncStart.fld (Reg.mregState (15 : Fin 16)) = regBroken) ∧ regionRefused s_SetsAndMirrorsAct_mirrorSyncStart (15 : Fin 16) = false ∧ s_SetsAndMirrorsAct_mirrorSyncStart.fld (Reg.mregPartner (15 : Fin 16)) ≠ myChip s_SetsAndMirrorsAct_mirrorSyncStart := by
  decide +kernel

def y_SetsAndMirrorsAct_mirrorSyncComplete : Sync := Sync.mk 15 0 false true true

def s_SetsAndMirrorsAct_mirrorSyncComplete : State := (((pool.setFld (Reg.mregSize 15) 1).setFld (Reg.mregWinbase 15) 4096).setFld (Reg.mregPartner 15) 1).modMem (fun m => { m with syncs := [Sync.mk 15 0 false true true] })

theorem test_SetsAndMirrorsAct_mirrorSyncComplete :
    (linksLive s_SetsAndMirrorsAct_mirrorSyncComplete = true ∧ (s_SetsAndMirrorsAct_mirrorSyncComplete.mem.syncs.find? (fun y_SetsAndMirrorsAct_mirrorSyncComplete => decide (y_SetsAndMirrorsAct_mirrorSyncComplete.region = (15 : Fin 16).val) && y_SetsAndMirrorsAct_mirrorSyncComplete.doneAcked) = some y_SetsAndMirrorsAct_mirrorSyncComplete)) ∧ goes (.mirrorSyncComplete (15 : Fin 16)) s_SetsAndMirrorsAct_mirrorSyncComplete
      (fun t => decide (t.fld (Reg.mregState (15 : Fin 16)) = regMirrored) && decide (t.mem.syncs = s_SetsAndMirrorsAct_mirrorSyncComplete.mem.syncs.erase y_SetsAndMirrorsAct_mirrorSyncComplete) && decide (t.mem.dram = s_SetsAndMirrorsAct_mirrorSyncComplete.mem.dram) && decide (onlyRegs [(Reg.mregState (15 : Fin 16)).off] s_SetsAndMirrorsAct_mirrorSyncComplete t = true)) = true := by
  decide +kernel

def s_SetsAndMirrorsAct_mirrorOff : State := (((pool.setFld (Reg.mregSize 15) 1).setFld (Reg.mregWinbase 15) 4096).setFld (Reg.mregPartner 15) 1).setFld (Reg.mregMode 15) 1

theorem test_SetsAndMirrorsAct_mirrorOff :
    linksLive s_SetsAndMirrorsAct_mirrorOff = true ∧ s_SetsAndMirrorsAct_mirrorOff.fld (Reg.mregMode (15 : Fin 16)) ≠ 0 := by
  decide +kernel

def s_SetsAndMirrorsAct_windowEnable : State := ((pool.setFld (Reg.mwinBase 15) 4096).setFld (Reg.mwinSize 15) 1).setFld (Reg.mwinHome 15) 1

theorem test_SetsAndMirrorsAct_windowEnable :
    linksLive s_SetsAndMirrorsAct_windowEnable = true ∧ true = true ∧ s_SetsAndMirrorsAct_windowEnable.fld (Reg.mwinEnable (15 : Fin 16)) = 0 ∧ windowRefused s_SetsAndMirrorsAct_windowEnable (15 : Fin 16) = false := by
  decide +kernel

theorem test_SetsAndMirrorsAct_windowEnable2 :
    (linksLive live = true ∧ true = true ∧ live.fld (Reg.mwinEnable (15 : Fin 16)) = 0 ∧ windowRefused live (15 : Fin 16) = true) ∧ goes (.windowEnable (15 : Fin 16) true) live
      (fun t => decide (t.fld (Reg.mwinEnable (15 : Fin 16)) = 0) && decide (t.fld Reg.memCfgErr = 1) && decide (t.mem = live.mem) && decide (onlyRegs [(Reg.mwinEnable (15 : Fin 16)).off, Reg.memCfgErr.off] live t = true)) = true := by
  decide +kernel

def s_SetsAndMirrorsAct_windowEnable3 : State := (((pool.setFld (Reg.mwinBase 15) 4096).setFld (Reg.mwinSize 15) 1).setFld (Reg.mwinHome 15) 1).setFld (Reg.mwinEnable 15) 1

theorem test_SetsAndMirrorsAct_windowEnable3 :
    (linksLive s_SetsAndMirrorsAct_windowEnable3 = true ∧ false = false) ∧ goes (.windowEnable (15 : Fin 16) false) s_SetsAndMirrorsAct_windowEnable3
      (fun t => decide (t.fld (Reg.mwinEnable (15 : Fin 16)) = 0) && decide (t.fld (Reg.mwinState (15 : Fin 16)) = winOff) && decide (t.mem = s_SetsAndMirrorsAct_windowEnable3.mem) && decide (onlyRegs [(Reg.mwinEnable (15 : Fin 16)).off, (Reg.mwinState (15 : Fin 16)).off] s_SetsAndMirrorsAct_windowEnable3 t = true)) = true := by
  decide +kernel

def h_SetsAndMirrorsAct_mirrorAckReceive : MirrorHold := MirrorHold.mk 4 .quiet 0 [7] [] 0 []

def s_SetsAndMirrorsAct_mirrorAckReceive : State := pool.modMem (fun m => { m with holds := [MirrorHold.mk 4 .quiet 0 [7] [] 0 []] })

theorem test_SetsAndMirrorsAct_mirrorAckReceive :
    linksLive s_SetsAndMirrorsAct_mirrorAckReceive = true ∧ (s_SetsAndMirrorsAct_mirrorAckReceive.mem.holds.find? (fun h_SetsAndMirrorsAct_mirrorAckReceive => decide (h_SetsAndMirrorsAct_mirrorAckReceive.id = (4))) = some h_SetsAndMirrorsAct_mirrorAckReceive) ∧ h_SetsAndMirrorsAct_mirrorAckReceive.left = 0 ∧ h_SetsAndMirrorsAct_mirrorAckReceive.lost = [] ∧ setOfSpan s_SetsAndMirrorsAct_mirrorAckReceive h_SetsAndMirrorsAct_mirrorAckReceive.off h_SetsAndMirrorsAct_mirrorAckReceive.data.length = some (0) := by
  decide +kernel

/-! PoolRequestsAct. -/

def h_PoolRequestsAct_poolRequest : InFrame := InFrame.mk (inFrame 0 3 4 0 64 3 []) 8 0

def s_PoolRequestsAct_poolRequest : State := arrived (inFrame 0 3 4 0 64 3 []) pool

theorem test_PoolRequestsAct_poolRequest :
    linksLive s_PoolRequestsAct_poolRequest = true ∧ inboxOf s_PoolRequestsAct_poolRequest (inFrame 0 3 4 0 64 3 [] : Frame) = some h_PoolRequestsAct_poolRequest ∧ isPoolRequest (inFrame 0 3 4 0 64 3 [] : Frame) = true ∧ poolWaits s_PoolRequestsAct_poolRequest h_PoolRequestsAct_poolRequest = false ∧ isMirrorWrite (inFrame 0 3 4 0 64 3 [] : Frame) = false ∧ Frame.type (inFrame 0 3 4 0 64 3 [] : Frame) = tyReqRd ∧ poolChecks s_PoolRequestsAct_poolRequest (inFrame 0 3 4 0 64 3 [] : Frame) = .inr ((0), (64), (none : Option Nat)) ∧ firstUe (readLines (0) (64) (reqSpan (inFrame 0 3 4 0 64 3 [] : Frame)) 1 ([] : List (Nat × List Byte)) (dropInbox h_PoolRequestsAct_poolRequest s_PoolRequestsAct_poolRequest)) (0) (64) (reqSpan (inFrame 0 3 4 0 64 3 [] : Frame)) = none ∧ s_PoolRequestsAct_poolRequest.swc.poolWait = [] ∧ s_PoolRequestsAct_poolRequest.mem.striking = [] := by
  decide +kernel

def f_PoolRequestsAct_poolRequest2 : Frame := inFrame 1 3 4 0 16 0 [1, 2]

def h_PoolRequestsAct_poolRequest2 : InFrame := InFrame.mk (inFrame 1 3 4 0 16 0 [1, 2]) 8 0

def s_PoolRequestsAct_poolRequest2 : State := arrived (inFrame 1 3 4 0 16 0 [1, 2]) pool

theorem test_PoolRequestsAct_poolRequest2 :
    linksLive s_PoolRequestsAct_poolRequest2 = true ∧ inboxOf s_PoolRequestsAct_poolRequest2 f_PoolRequestsAct_poolRequest2 = some h_PoolRequestsAct_poolRequest2 ∧ isPoolRequest f_PoolRequestsAct_poolRequest2 = true ∧ poolWaits s_PoolRequestsAct_poolRequest2 h_PoolRequestsAct_poolRequest2 = false ∧ isMirrorWrite f_PoolRequestsAct_poolRequest2 = false ∧ Frame.type f_PoolRequestsAct_poolRequest2 = tyReqWr ∧ Frame.len f_PoolRequestsAct_poolRequest2 ≠ 0 ∧ poolChecks s_PoolRequestsAct_poolRequest2 f_PoolRequestsAct_poolRequest2 = .inr ((0), (16), (none : Option Nat)) ∧ partialUe s_PoolRequestsAct_poolRequest2 (0) (16) (reqSpan f_PoolRequestsAct_poolRequest2) = none ∧ s_PoolRequestsAct_poolRequest2.mem.ue = [] ∧ mirroredRegions s_PoolRequestsAct_poolRequest2 (none : Option Nat) (16) f_PoolRequestsAct_poolRequest2.payload.length = [] ∧ anyChannel s_PoolRequestsAct_poolRequest2 = true ∧ filterJudge s_PoolRequestsAct_poolRequest2 (sourceOf f_PoolRequestsAct_poolRequest2) (homeOf s_PoolRequestsAct_poolRequest2 (none : Option Nat)) (Frame.seq f_PoolRequestsAct_poolRequest2) false = .apply ∧ ([] : List (Nat × List Byte)) = [] := by
  decide +kernel

def f_PoolRequestsAct_poolRequest3 : Frame := inFrame 2 3 4 0 16 0 [1, 2]

def h_PoolRequestsAct_poolRequest3 : InFrame := InFrame.mk (inFrame 2 3 4 0 16 0 [1, 2]) 8 0

def s_PoolRequestsAct_poolRequest3 : State := arrived (inFrame 2 3 4 0 16 0 [1, 2]) pool

theorem test_PoolRequestsAct_poolRequest3 :
    linksLive s_PoolRequestsAct_poolRequest3 = true ∧ inboxOf s_PoolRequestsAct_poolRequest3 f_PoolRequestsAct_poolRequest3 = some h_PoolRequestsAct_poolRequest3 ∧ isPoolRequest f_PoolRequestsAct_poolRequest3 = true ∧ poolWaits s_PoolRequestsAct_poolRequest3 h_PoolRequestsAct_poolRequest3 = false ∧ isMirrorWrite f_PoolRequestsAct_poolRequest3 = false ∧ Frame.type f_PoolRequestsAct_poolRequest3 = tyReqAtom ∧ poolChecks s_PoolRequestsAct_poolRequest3 f_PoolRequestsAct_poolRequest3 = .inr ((0), (16), (none : Option Nat)) ∧ s_PoolRequestsAct_poolRequest3.mem.ue = [] ∧ mirroredRegions s_PoolRequestsAct_poolRequest3 (none : Option Nat) (16) (atomSpan f_PoolRequestsAct_poolRequest3) = [] ∧ anyChannel s_PoolRequestsAct_poolRequest3 = true ∧ filterJudge s_PoolRequestsAct_poolRequest3 (sourceOf f_PoolRequestsAct_poolRequest3) (homeOf s_PoolRequestsAct_poolRequest3 (none : Option Nat)) (Frame.seq f_PoolRequestsAct_poolRequest3) true = .apply ∧ ([] : List (Nat × List Byte)) = [] := by
  decide +kernel

def f_PoolRequestsAct_poolRequest4 : Frame := inFrame 0 3 4 0 1099511627776 3 []

def h_PoolRequestsAct_poolRequest4 : InFrame := InFrame.mk (inFrame 0 3 4 0 1099511627776 3 []) 8 0

def s_PoolRequestsAct_poolRequest4 : State := arrived (inFrame 0 3 4 0 1099511627776 3 []) pool

theorem test_PoolRequestsAct_poolRequest4 :
    linksLive s_PoolRequestsAct_poolRequest4 = true ∧ inboxOf s_PoolRequestsAct_poolRequest4 f_PoolRequestsAct_poolRequest4 = some h_PoolRequestsAct_poolRequest4 ∧ isPoolRequest f_PoolRequestsAct_poolRequest4 = true ∧ poolWaits s_PoolRequestsAct_poolRequest4 h_PoolRequestsAct_poolRequest4 = false ∧ isMirrorWrite f_PoolRequestsAct_poolRequest4 = false ∧ poolChecks s_PoolRequestsAct_poolRequest4 f_PoolRequestsAct_poolRequest4 = .inl 0x302 ∧ (0) = 0 ∧ (0) = 0 ∧ s_PoolRequestsAct_poolRequest4.swc.poolWait = [] ∧ s_PoolRequestsAct_poolRequest4.mem.striking = [] := by
  decide +kernel

def f_PoolRequestsAct_mirrorWriteReceive : Frame := inFrame 1 3 4 0 (2 ^ 42) 1 (mirrorHeader 1 2 0 0 ++ [5])

def h_PoolRequestsAct_mirrorWriteReceive : InFrame := InFrame.mk (inFrame 1 3 4 0 (2 ^ 42) 1 (mirrorHeader 1 2 0 0 ++ [5])) 8 0

def s_PoolRequestsAct_mirrorWriteReceive : State := arrived (inFrame 1 3 4 0 (2 ^ 42) 1 (mirrorHeader 1 2 0 0 ++ [5])) (((((pool.setFld (Reg.mwinBase 15) 4096).setFld (Reg.mwinSize 15) 1).setFld (Reg.mwinHome 15) 1).setFld (Reg.mwinEnable 15) 1).setFld (Reg.mwinState 15) 2)

theorem test_PoolRequestsAct_mirrorWriteReceive :
    linksLive s_PoolRequestsAct_mirrorWriteReceive = true ∧ inboxOf s_PoolRequestsAct_mirrorWriteReceive f_PoolRequestsAct_mirrorWriteReceive = some h_PoolRequestsAct_mirrorWriteReceive ∧ isPoolRequest f_PoolRequestsAct_mirrorWriteReceive = true ∧ isMirrorWrite f_PoolRequestsAct_mirrorWriteReceive = true ∧ poolWaits s_PoolRequestsAct_mirrorWriteReceive h_PoolRequestsAct_mirrorWriteReceive = false ∧ poolChecks s_PoolRequestsAct_mirrorWriteReceive f_PoolRequestsAct_mirrorWriteReceive = .inr ((0), (0), some (15)) ∧ anyChannel s_PoolRequestsAct_mirrorWriteReceive = true ∧ filterJudge s_PoolRequestsAct_mirrorWriteReceive (sourceOf f_PoolRequestsAct_mirrorWriteReceive) (s_PoolRequestsAct_mirrorWriteReceive.fld (Reg.mwinHome (15))) (Frame.seq f_PoolRequestsAct_mirrorWriteReceive) false = .apply := by
  decide +kernel

def s_PoolRequestsAct_ddrScrubLine : State := (pool.setFld Reg.scrubHours 24).modMem (fun m => { m with ue := [2 ^ 34 + 3] })

theorem test_PoolRequestsAct_ddrScrubLine :
    (linksLive s_PoolRequestsAct_ddrScrubLine = true ∧ offsetOfLine s_PoolRequestsAct_ddrScrubLine (1 : Fin 12) (3) = some ((0), (4288)) ∧ s_PoolRequestsAct_ddrScrubLine.fld Reg.scrubHours ≠ 0 ∧ s_PoolRequestsAct_ddrScrubLine.fld (Reg.ddrState (1 : Fin 12)) = 0 ∧ isUe s_PoolRequestsAct_ddrScrubLine ((1 : Fin 12) * 2 ^ 34 + (3)) = true) ∧ goes (.ddrScrubLine (1 : Fin 12) (3) ([] : List Byte)) s_PoolRequestsAct_ddrScrubLine
      (fun t => decide (t = scrubOn (1 : Fin 12) (logUe (1 : Fin 12) (3) (4288) 2 s_PoolRequestsAct_ddrScrubLine)) && decide (t.fld Reg.memUncorr = 1) && decide (t.fld Reg.ueTime = s_PoolRequestsAct_ddrScrubLine.now)) = true := by
  decide +kernel

def s_PoolRequestsAct_ddrScrubLine2 : State := pool.setFld Reg.scrubHours 24

theorem test_PoolRequestsAct_ddrScrubLine2 :
    linksLive s_PoolRequestsAct_ddrScrubLine2 = true ∧ offsetOfLine s_PoolRequestsAct_ddrScrubLine2 (1 : Fin 12) (3) = some ((0), (4288)) ∧ s_PoolRequestsAct_ddrScrubLine2.fld Reg.scrubHours ≠ 0 ∧ s_PoolRequestsAct_ddrScrubLine2.fld (Reg.ddrState (1 : Fin 12)) = 0 ∧ isUe s_PoolRequestsAct_ddrScrubLine2 ((1 : Fin 12) * 2 ^ 34 + (3)) = false ∧ (([0, 0] : List Byte).all (fun b => decide (b = 0)) = true) := by
  decide +kernel

def s_PoolRequestsAct_scrubWake : State := (later (pool.setFld Reg.scrubHours 24)).setFld (Reg.ddrState 2) 2

theorem test_PoolRequestsAct_scrubWake :
    (linksLive s_PoolRequestsAct_scrubWake = true ∧ scrubLate s_PoolRequestsAct_scrubWake (2 : Fin 12) = true ∧ (s_PoolRequestsAct_scrubWake.fld (Reg.ddrState (2 : Fin 12)) = 1 ∨ s_PoolRequestsAct_scrubWake.fld (Reg.ddrState (2 : Fin 12)) = 2) ∧ .ddr (2 : Fin 12) ∉ s_PoolRequestsAct_scrubWake.waking ∧ ghostLight s_PoolRequestsAct_scrubWake = false ∧ inDoze s_PoolRequestsAct_scrubWake (.ddr (2 : Fin 12)) = false) ∧ goes (.scrubWake (2 : Fin 12)) s_PoolRequestsAct_scrubWake
      (fun t => decide (t.waking = s_PoolRequestsAct_scrubWake.waking ++ [.ddr (2 : Fin 12)]) && decide ((2 : Fin 12).val ∈ t.mem.catchUp) && decide (t.regs = s_PoolRequestsAct_scrubWake.regs)) = true := by
  decide +kernel

def s_PoolRequestsAct_deviceMark : State := (pool.setFld Reg.devThresh 1).modMem (fun m => { m with rebuilds := [(239, 0)] })

theorem test_PoolRequestsAct_deviceMark :
    (linksLive s_PoolRequestsAct_deviceMark = true ∧ markDue s_PoolRequestsAct_deviceMark (11 : Fin 12) (1 : Fin 2) (9 : Fin 10) = true) ∧ goes (.deviceMark (11 : Fin 12) (1 : Fin 2) (9 : Fin 10)) s_PoolRequestsAct_deviceMark
      (fun t => decide (t.fld (Reg.chMark (11 : Fin 12) (1 : Fin 2)) = (9 : Fin 10).val + 1) && decide (t.fld Reg.devMarked = 1) && decide (t.mem = s_PoolRequestsAct_deviceMark.mem) && decide (onlyRegs [(Reg.chMark (11 : Fin 12) (1 : Fin 2)).off, Reg.devMarked.off] s_PoolRequestsAct_deviceMark t = true)) = true := by
  decide +kernel

def s_PoolRequestsAct_hostMemAccess : State := (pool.setFld Reg.hostMode 2).modHost (fun h => { h with capacity := 2 ^ 30 })

theorem test_PoolRequestsAct_hostMemAccess :
    linksLive s_PoolRequestsAct_hostMemAccess = true ∧ (s_PoolRequestsAct_hostMemAccess.fld Reg.hostMode = hmCxl20 ∨ s_PoolRequestsAct_hostMemAccess.fld Reg.hostMode = hmCxl11) ∧ hostDpa s_PoolRequestsAct_hostMemAccess (128) = some (128) ∧ false = false ∧ (hostVerdict s_PoolRequestsAct_hostMemAccess ⟨false, (128), (128), (0 : BitVec 64).toNat, ([] : List Byte), ([] : List Byte), s_PoolRequestsAct_hostMemAccess.swc.inbox.filter (fun h => onLine s_PoolRequestsAct_hostMemAccess h.frame (128) 64), false⟩ = .inr (0)) ∧ (hostBlocked s_PoolRequestsAct_hostMemAccess ⟨false, (128), (128), (0 : BitVec 64).toNat, ([] : List Byte), ([] : List Byte), s_PoolRequestsAct_hostMemAccess.swc.inbox.filter (fun h => onLine s_PoolRequestsAct_hostMemAccess h.frame (128) 64), false⟩ = false) ∧ s_PoolRequestsAct_hostMemAccess.mem.ue = [] ∧ ([] : List Byte) = [] := by
  decide +kernel

def s_PoolRequestsAct_hostMemAccess2 : State := (pool.setFld Reg.hostMode 2).modHost (fun h => { h with capacity := 2 ^ 30 })

theorem test_PoolRequestsAct_hostMemAccess2 :
    linksLive s_PoolRequestsAct_hostMemAccess2 = true ∧ (s_PoolRequestsAct_hostMemAccess2.fld Reg.hostMode = hmCxl20 ∨ s_PoolRequestsAct_hostMemAccess2.fld Reg.hostMode = hmCxl11) ∧ hostDpa s_PoolRequestsAct_hostMemAccess2 (128) = some (128) ∧ true = true ∧ (hostVerdict s_PoolRequestsAct_hostMemAccess2 ⟨true, (128), (128), (0xFFFFFFFFFFFFFFFF : BitVec 64).toNat, ([9] : List Byte), ([] : List Byte), s_PoolRequestsAct_hostMemAccess2.swc.inbox.filter (fun h => onLine s_PoolRequestsAct_hostMemAccess2 h.frame (128) 64), false⟩ = .inr (0)) ∧ (hostBlocked s_PoolRequestsAct_hostMemAccess2 ⟨true, (128), (128), (0xFFFFFFFFFFFFFFFF : BitVec 64).toNat, ([9] : List Byte), ([] : List Byte), s_PoolRequestsAct_hostMemAccess2.swc.inbox.filter (fun h => onLine s_PoolRequestsAct_hostMemAccess2 h.frame (128) 64), false⟩ = false) ∧ (0xFFFFFFFFFFFFFFFF : BitVec 64).toNat = 2 ^ 64 - 1 ∧ mirroredRegions s_PoolRequestsAct_hostMemAccess2 none (128) 64 = [] := by
  decide +kernel

def s_PoolRequestsAct_hostMemAccess3 : State := (pool.setFld Reg.hostMode 2).modHost (fun h => { h with capacity := 2 ^ 30 })

theorem test_PoolRequestsAct_hostMemAccess3 :
    (linksLive s_PoolRequestsAct_hostMemAccess3 = true ∧ (s_PoolRequestsAct_hostMemAccess3.fld Reg.hostMode = hmCxl20 ∨ s_PoolRequestsAct_hostMemAccess3.fld Reg.hostMode = hmCxl11) ∧ hostDpa s_PoolRequestsAct_hostMemAccess3 (2 ^ 30) = none) ∧ goes (.hostMemAccess true (2 ^ 30) (0 : BitVec 64) ([] : List Byte) ([] : List Byte)) s_PoolRequestsAct_hostMemAccess3
      (fun t => decide (t.fld Reg.memCfgErr = 1) && decide (t.mem = s_PoolRequestsAct_hostMemAccess3.mem) && decide (t.host.nextRec ≥ s_PoolRequestsAct_hostMemAccess3.host.nextRec)) = true := by
  decide +kernel

def s_PoolRequestsAct_hdmCommit : State := ((pool.setFld Reg.hostMode 2).modHost (fun h => { h with capacity := 2 ^ 30 })).setFld Reg.hostMode 1

theorem test_PoolRequestsAct_hdmCommit :
    (linksLive s_PoolRequestsAct_hdmCommit = true ∧ s_PoolRequestsAct_hdmCommit.fld Reg.hostMode = hmCxl20 ∧ ((s_PoolRequestsAct_hdmCommit.hdm (1 : Fin 2)).committed && (s_PoolRequestsAct_hdmCommit.hdm (1 : Fin 2)).locked) = false ∧ (1) = 1 ∧ dpaBase (s_PoolRequestsAct_hdmCommit.setHdm (1 : Fin 2) (Hdm.mk false false false (4096) (4096) (0))) (1 : Fin 2) + (4096) ≤ s_PoolRequestsAct_hdmCommit.host.capacity) ∧ goes (.hdmCommit (1 : Fin 2) (4096) (4096) (0) (1) true) s_PoolRequestsAct_hdmCommit
      (fun t => decide (t.hdm (1 : Fin 2) = Hdm.mk true false true (4096) (4096) (0)) && decide (t.regs = s_PoolRequestsAct_hdmCommit.regs)) = true := by
  decide +kernel

def s_PoolRequestsAct_hdmCommit2 : State := ((pool.setFld Reg.hostMode 2).modHost (fun h => { h with capacity := 2 ^ 30 })).setFld Reg.hostMode 1

theorem test_PoolRequestsAct_hdmCommit2 :
    (linksLive s_PoolRequestsAct_hdmCommit2 = true ∧ s_PoolRequestsAct_hdmCommit2.fld Reg.hostMode = hmCxl20 ∧ ((s_PoolRequestsAct_hdmCommit2.hdm (0 : Fin 2)).committed && (s_PoolRequestsAct_hdmCommit2.hdm (0 : Fin 2)).locked) = false ∧ (2) ≠ 1) ∧ goes (.hdmCommit (0 : Fin 2) (4096) (4096) (0) (2) true) s_PoolRequestsAct_hdmCommit2
      (fun t => decide (t.hdm (0 : Fin 2) = Hdm.mk false true false (4096) (4096) (0)) && decide (t.regs = s_PoolRequestsAct_hdmCommit2.regs)) = true := by
  decide +kernel

/-! TilesAndRowsAct. -/

theorem test_TilesAndRowsAct_tileSwingCmd :
    linksLive live = true ∧ spareTile live ((3 : Fin 240).val / 60) = some (58) ∧ live.fld (Reg.tileLogical (3 : Fin 240)) = (3) ∧ (3) < 232 ∧ live.fld (Reg.tileRole (3 : Fin 240)) ≠ 1 := by
  decide +kernel

def s_TilesAndRowsAct_tileSwingCmd2 : State := (live.setFld (Reg.tileRole 58) 0).setFld (Reg.tileRole 59) 0

theorem test_TilesAndRowsAct_tileSwingCmd2 :
    (linksLive s_TilesAndRowsAct_tileSwingCmd2 = true ∧ spareTile s_TilesAndRowsAct_tileSwingCmd2 ((3 : Fin 240).val / 60) = none) ∧ goes (.tileSwingCmd (3 : Fin 240)) s_TilesAndRowsAct_tileSwingCmd2
      (fun t => decide (t.fld Reg.tenCfgErr = 1) && decide (t.fld (Reg.tileRole (3 : Fin 240)) = s_TilesAndRowsAct_tileSwingCmd2.fld (Reg.tileRole (3 : Fin 240))) && decide (t.ten = s_TilesAndRowsAct_tileSwingCmd2.ten) && decide (onlyRegs [Reg.tenCfgErr.off, (Reg.tileRole (3 : Fin 240)).off] s_TilesAndRowsAct_tileSwingCmd2 t = true)) = true := by
  decide +kernel

def s_TilesAndRowsAct_tileReloadThreshold : State := (live.setFld Reg.tileThresh 1).modTen (fun t => { t with reloads := [(3, 0)] })

theorem test_TilesAndRowsAct_tileReloadThreshold :
    linksLive s_TilesAndRowsAct_tileReloadThreshold = true ∧ reloadsDue s_TilesAndRowsAct_tileReloadThreshold (3 : Fin 240) = true ∧ spareTile s_TilesAndRowsAct_tileReloadThreshold ((3 : Fin 240).val / 60) = some (58) ∧ s_TilesAndRowsAct_tileReloadThreshold.fld (Reg.tileLogical (3 : Fin 240)) = (3) ∧ (3) < 232 ∧ s_TilesAndRowsAct_tileReloadThreshold.fld (Reg.tileRole (3 : Fin 240)) ≠ 1 := by
  decide +kernel

theorem test_TilesAndRowsAct_tileRetireCmd :
    linksLive live = true ∧ live.fld (Reg.tileRole (3 : Fin 240)) ≠ 3 ∧ live.fld (Reg.tileLogical (3 : Fin 240)) = (3) ∧ ((List.range 232).all (fun j => decide (j = (3) ∨ live.fld (Reg.tmap j) ≠ (3 : Fin 240).val)) = true) := by
  decide +kernel

def s_TilesAndRowsAct_tileReturnCmd : State := live.setFld (Reg.tileRole 239) 3

theorem test_TilesAndRowsAct_tileReturnCmd :
    (linksLive s_TilesAndRowsAct_tileReturnCmd = true ∧ s_TilesAndRowsAct_tileReturnCmd.fld (Reg.tileRole (239 : Fin 240)) = 3) ∧ goes (.tileReturnCmd (239 : Fin 240)) s_TilesAndRowsAct_tileReturnCmd
      (fun t => decide (t.fld (Reg.tileRole (239 : Fin 240)) = 2) && decide (t.fld (Reg.quarTile (239 : Fin 240)) = 1) && decide (unitState t (.tile (239 : Fin 240)) = (if ghostLight s_TilesAndRowsAct_tileReturnCmd then 2 else 0)) && decide (t.ten = s_TilesAndRowsAct_tileReturnCmd.ten)) = true := by
  decide +kernel

def s_TilesAndRowsAct_rowSwing : State := live.modTen (fun t => { t with ue := [16777215] })

theorem test_TilesAndRowsAct_rowSwing :
    linksLive s_TilesAndRowsAct_rowSwing = true ∧ rowDue s_TilesAndRowsAct_rowSwing (2097151 : Fin 2097152) = true ∧ ((0) = Tab.get (fun _ => 0) s_TilesAndRowsAct_rowSwing.ten.rowsUsed (bankOf (2097151 : Fin 2097152))) ∧ (0) < 16 := by
  decide +kernel

def s_TilesAndRowsAct_rowSwing2 : State := live.modTen (fun t => { t with ue := [16777215], rowsUsed := [(511, 16)] })

theorem test_TilesAndRowsAct_rowSwing2 :
    linksLive s_TilesAndRowsAct_rowSwing2 = true ∧ rowDue s_TilesAndRowsAct_rowSwing2 (2097151 : Fin 2097152) = true ∧ ((16) = Tab.get (fun _ => 0) s_TilesAndRowsAct_rowSwing2.ten.rowsUsed (bankOf (2097151 : Fin 2097152))) ∧ 16 ≤ (16) ∧ (2097151 : Fin 2097152).val / 256 ∉ s_TilesAndRowsAct_rowSwing2.ten.retired ∧ (2097151 : Fin 2097152).val / 256 ∉ s_TilesAndRowsAct_rowSwing2.ten.pendingRetire ∧ regionPlaced s_TilesAndRowsAct_rowSwing2 ((2097151 : Fin 2097152).val / 256) = false := by
  decide +kernel

def s_TilesAndRowsAct_spScrub : State := live.modTen (fun t => { t with ue := [16777215] })

theorem test_TilesAndRowsAct_spScrub :
    (linksLive s_TilesAndRowsAct_spScrub = true ∧ unitState s_TilesAndRowsAct_spScrub (.scratch ⟨spWing ((16777215 : Fin 16777216).val * 32), Nat.mod_lt _ (by decide)⟩) ≠ 3 ∧ wordUe s_TilesAndRowsAct_spScrub (16777215 : Fin 16777216) = true) ∧ goes (.spScrub (16777215 : Fin 16777216) ([] : List Byte)) s_TilesAndRowsAct_spScrub
      (fun t => decide (t.fld Reg.spUncorr = 1) && decide (t.fld Reg.spUeLog = (16777215 : Fin 16777216).val * 32) && decide (t.ten = s_TilesAndRowsAct_spScrub.ten)) = true := by
  decide +kernel

theorem test_TilesAndRowsAct_spScrub2 :
    (linksLive live = true ∧ wordUe live (16777215 : Fin 16777216) = false ∧ (([0] : List Byte).all (fun b => decide (b = 0)) = true)) ∧ goes (.spScrub (16777215 : Fin 16777216) ([0] : List Byte)) live
      (fun t => decide (t.ten = live.ten) && decide (t.mem = live.mem) && decide (t.cue = live.cue) && decide (onlyRegs [] live t = true)) = true := by
  decide +kernel

def s_TilesAndRowsAct_rangeZeroingComplete : State := (spPoke 65536 [7] live).modTen (fun t => { t with zeroing := [(65536, 65536)] })

theorem test_TilesAndRowsAct_rangeZeroingComplete :
    (linksLive s_TilesAndRowsAct_rangeZeroingComplete = true ∧ (s_TilesAndRowsAct_rangeZeroingComplete.ten.zeroing.find? (fun z => decide (z.1 = (65536))) = some ((65536), (65536))) ∧ (65536) ≤ (65536) ∧ (65536) < (65536) + (65536) ∧ s_TilesAndRowsAct_rangeZeroingComplete.col.placing = []) ∧ goes (.rangeZeroingComplete (65536)) s_TilesAndRowsAct_rangeZeroingComplete
      (fun t => decide (spByte t (65536) = 0) && decide (t.ten.zeroing = s_TilesAndRowsAct_rangeZeroingComplete.ten.zeroing.erase ((65536), (65536))) && decide (t.regs = s_TilesAndRowsAct_rangeZeroingComplete.regs)) = true := by
  decide +kernel

/-! ScratchpadAndStoreServe. -/

def f_ScratchpadAndStoreServe_scratchpadRequest : Frame := inFrame 0 3 4 0 (4 * 2 ^ 45 + 64) 1 []

def h_ScratchpadAndStoreServe_scratchpadRequest : InFrame := InFrame.mk (inFrame 0 3 4 0 (4 * 2 ^ 45 + 64) 1 []) 8 0

def s_ScratchpadAndStoreServe_scratchpadRequest : State := arrived (inFrame 0 3 4 0 (4 * 2 ^ 45 + 64) 1 []) (spPoke 70 [9] live)

theorem test_ScratchpadAndStoreServe_scratchpadRequest :
    linksLive s_ScratchpadAndStoreServe_scratchpadRequest = true ∧ inboxOf s_ScratchpadAndStoreServe_scratchpadRequest f_ScratchpadAndStoreServe_scratchpadRequest = some h_ScratchpadAndStoreServe_scratchpadRequest ∧ isSpaceRequest 1 f_ScratchpadAndStoreServe_scratchpadRequest = true ∧ (64) = spaceOffset f_ScratchpadAndStoreServe_scratchpadRequest ∧ scratchRefused s_ScratchpadAndStoreServe_scratchpadRequest f_ScratchpadAndStoreServe_scratchpadRequest = false ∧ spanAwake s_ScratchpadAndStoreServe_scratchpadRequest (64) (requestBytes f_ScratchpadAndStoreServe_scratchpadRequest) = true ∧ Frame.type f_ScratchpadAndStoreServe_scratchpadRequest = tyReqRd ∧ s_ScratchpadAndStoreServe_scratchpadRequest.ten.ue = [] ∧ ([] : List (Nat × List Byte)) = [] := by
  decide +kernel

def f_ScratchpadAndStoreServe_scratchpadRequest2 : Frame := inFrame 1 3 4 0 (4 * 2 ^ 45 + 64) 0 [5]

def h_ScratchpadAndStoreServe_scratchpadRequest2 : InFrame := InFrame.mk (inFrame 1 3 4 0 (4 * 2 ^ 45 + 64) 0 [5]) 8 0

def s_ScratchpadAndStoreServe_scratchpadRequest2 : State := arrived (inFrame 1 3 4 0 (4 * 2 ^ 45 + 64) 0 [5]) (pool.setFld (Reg.spWmask 0) 1)

theorem test_ScratchpadAndStoreServe_scratchpadRequest2 :
    linksLive s_ScratchpadAndStoreServe_scratchpadRequest2 = true ∧ inboxOf s_ScratchpadAndStoreServe_scratchpadRequest2 f_ScratchpadAndStoreServe_scratchpadRequest2 = some h_ScratchpadAndStoreServe_scratchpadRequest2 ∧ isSpaceRequest 1 f_ScratchpadAndStoreServe_scratchpadRequest2 = true ∧ (64) = spaceOffset f_ScratchpadAndStoreServe_scratchpadRequest2 ∧ scratchRefused s_ScratchpadAndStoreServe_scratchpadRequest2 f_ScratchpadAndStoreServe_scratchpadRequest2 = false ∧ spanAwake s_ScratchpadAndStoreServe_scratchpadRequest2 (64) (requestBytes f_ScratchpadAndStoreServe_scratchpadRequest2) = true ∧ Frame.type f_ScratchpadAndStoreServe_scratchpadRequest2 = tyReqWr ∧ heldByMove s_ScratchpadAndStoreServe_scratchpadRequest2 f_ScratchpadAndStoreServe_scratchpadRequest2 = false ∧ s_ScratchpadAndStoreServe_scratchpadRequest2.ten.ue = [] ∧ ([] : List (Nat × List Byte)) = [] ∧ anyChannel s_ScratchpadAndStoreServe_scratchpadRequest2 = true ∧ filterJudge s_ScratchpadAndStoreServe_scratchpadRequest2 (sourceOf f_ScratchpadAndStoreServe_scratchpadRequest2) (myChip s_ScratchpadAndStoreServe_scratchpadRequest2) (Frame.seq f_ScratchpadAndStoreServe_scratchpadRequest2) false = .apply := by
  decide +kernel

def f_ScratchpadAndStoreServe_scratchpadRequest3 : Frame := inFrame 1 3 4 0 (4 * 2 ^ 45 + 64) 0 [5]

def h_ScratchpadAndStoreServe_scratchpadRequest3 : InFrame := InFrame.mk (inFrame 1 3 4 0 (4 * 2 ^ 45 + 64) 0 [5]) 8 0

def s_ScratchpadAndStoreServe_scratchpadRequest3 : State := arrived (inFrame 1 3 4 0 (4 * 2 ^ 45 + 64) 0 [5]) (pool)

theorem test_ScratchpadAndStoreServe_scratchpadRequest3 :
    linksLive s_ScratchpadAndStoreServe_scratchpadRequest3 = true ∧ inboxOf s_ScratchpadAndStoreServe_scratchpadRequest3 f_ScratchpadAndStoreServe_scratchpadRequest3 = some h_ScratchpadAndStoreServe_scratchpadRequest3 ∧ isSpaceRequest 1 f_ScratchpadAndStoreServe_scratchpadRequest3 = true ∧ (64) = spaceOffset f_ScratchpadAndStoreServe_scratchpadRequest3 ∧ scratchRefused s_ScratchpadAndStoreServe_scratchpadRequest3 f_ScratchpadAndStoreServe_scratchpadRequest3 = true ∧ heldByMove s_ScratchpadAndStoreServe_scratchpadRequest3 f_ScratchpadAndStoreServe_scratchpadRequest3 = false := by
  decide +kernel

def f_ScratchpadAndStoreServe_statusPageRequest : Frame := inFrame 0 3 4 0 (5 * 2 ^ 45 + 16) 0 []

def h_ScratchpadAndStoreServe_statusPageRequest : InFrame := InFrame.mk (inFrame 0 3 4 0 (5 * 2 ^ 45 + 16) 0 []) 8 0

def s_ScratchpadAndStoreServe_statusPageRequest : State := arrived (inFrame 0 3 4 0 (5 * 2 ^ 45 + 16) 0 []) (live)

theorem test_ScratchpadAndStoreServe_statusPageRequest :
    linksLive s_ScratchpadAndStoreServe_statusPageRequest = true ∧ inboxOf s_ScratchpadAndStoreServe_statusPageRequest f_ScratchpadAndStoreServe_statusPageRequest = some h_ScratchpadAndStoreServe_statusPageRequest ∧ isSpaceRequest 2 f_ScratchpadAndStoreServe_statusPageRequest = true ∧ (16) = spaceOffset f_ScratchpadAndStoreServe_statusPageRequest ∧ Frame.type f_ScratchpadAndStoreServe_statusPageRequest = tyReqRd ∧ (16) % 16 = 0 ∧ (16) + (Frame.op f_ScratchpadAndStoreServe_statusPageRequest + 1) * 16 ≤ 0x10000 := by
  decide +kernel

def f_ScratchpadAndStoreServe_statusPageRequest2 : Frame := inFrame 1 3 4 0 (5 * 2 ^ 45 + 16) 0 [1]

def h_ScratchpadAndStoreServe_statusPageRequest2 : InFrame := InFrame.mk (inFrame 1 3 4 0 (5 * 2 ^ 45 + 16) 0 [1]) 8 0

def s_ScratchpadAndStoreServe_statusPageRequest2 : State := arrived (inFrame 1 3 4 0 (5 * 2 ^ 45 + 16) 0 [1]) (live)

theorem test_ScratchpadAndStoreServe_statusPageRequest2 :
    linksLive s_ScratchpadAndStoreServe_statusPageRequest2 = true ∧ inboxOf s_ScratchpadAndStoreServe_statusPageRequest2 f_ScratchpadAndStoreServe_statusPageRequest2 = some h_ScratchpadAndStoreServe_statusPageRequest2 ∧ isSpaceRequest 2 f_ScratchpadAndStoreServe_statusPageRequest2 = true ∧ (16) = spaceOffset f_ScratchpadAndStoreServe_statusPageRequest2 ∧ Frame.type f_ScratchpadAndStoreServe_statusPageRequest2 ≠ tyReqRd := by
  decide +kernel

def f_ScratchpadAndStoreServe_cueStoreRequest : Frame := inFrame 0 3 4 0 (6 * 2 ^ 45 + 16) 0 []

def h_ScratchpadAndStoreServe_cueStoreRequest : InFrame := InFrame.mk (inFrame 0 3 4 0 (6 * 2 ^ 45 + 16) 0 []) 8 0

def s_ScratchpadAndStoreServe_cueStoreRequest : State := arrived (inFrame 0 3 4 0 (6 * 2 ^ 45 + 16) 0 []) (live)

theorem test_ScratchpadAndStoreServe_cueStoreRequest :
    linksLive s_ScratchpadAndStoreServe_cueStoreRequest = true ∧ inboxOf s_ScratchpadAndStoreServe_cueStoreRequest f_ScratchpadAndStoreServe_cueStoreRequest = some h_ScratchpadAndStoreServe_cueStoreRequest ∧ isSpaceRequest 3 f_ScratchpadAndStoreServe_cueStoreRequest = true ∧ (16) = spaceOffset f_ScratchpadAndStoreServe_cueStoreRequest ∧ Frame.type f_ScratchpadAndStoreServe_cueStoreRequest = tyReqRd ∧ (16) % 16 = 0 ∧ (16) + (Frame.op f_ScratchpadAndStoreServe_cueStoreRequest + 1) * 16 ≤ storeSize := by
  decide +kernel

def f_ScratchpadAndStoreServe_cueStoreRequest2 : Frame := inFrame 1 3 4 0 (6 * 2 ^ 45 + 16) 0 [1]

def h_ScratchpadAndStoreServe_cueStoreRequest2 : InFrame := InFrame.mk (inFrame 1 3 4 0 (6 * 2 ^ 45 + 16) 0 [1]) 8 0

def s_ScratchpadAndStoreServe_cueStoreRequest2 : State := arrived (inFrame 1 3 4 0 (6 * 2 ^ 45 + 16) 0 [1]) (pool.setFld Reg.storeWe 1)

theorem test_ScratchpadAndStoreServe_cueStoreRequest2 :
    linksLive s_ScratchpadAndStoreServe_cueStoreRequest2 = true ∧ inboxOf s_ScratchpadAndStoreServe_cueStoreRequest2 f_ScratchpadAndStoreServe_cueStoreRequest2 = some h_ScratchpadAndStoreServe_cueStoreRequest2 ∧ isSpaceRequest 3 f_ScratchpadAndStoreServe_cueStoreRequest2 = true ∧ (16) = spaceOffset f_ScratchpadAndStoreServe_cueStoreRequest2 ∧ Frame.type f_ScratchpadAndStoreServe_cueStoreRequest2 = tyReqWr ∧ (16) % 16 = 0 ∧ (16) + f_ScratchpadAndStoreServe_cueStoreRequest2.payload.length ≤ storeSize ∧ s_ScratchpadAndStoreServe_cueStoreRequest2.fld Reg.storeWe ≠ 0 ∧ Frame.op f_ScratchpadAndStoreServe_cueStoreRequest2 = 0 ∧ s_ScratchpadAndStoreServe_cueStoreRequest2.mem.moving = false ∧ ((List.range f_ScratchpadAndStoreServe_cueStoreRequest2.payload.length).any (fun i => inImage s_ScratchpadAndStoreServe_cueStoreRequest2 ((16) + i)) = false) ∧ anyChannel s_ScratchpadAndStoreServe_cueStoreRequest2 = true ∧ filterJudge s_ScratchpadAndStoreServe_cueStoreRequest2 (sourceOf f_ScratchpadAndStoreServe_cueStoreRequest2) (myChip s_ScratchpadAndStoreServe_cueStoreRequest2) (Frame.seq f_ScratchpadAndStoreServe_cueStoreRequest2) false = .apply := by
  decide +kernel

theorem test_ScratchpadAndStoreServe_cueStoreHostWrite :
    (linksLive (live.setFld Reg.hostMode 3) = true ∧ (live.setFld Reg.hostMode 3).fld Reg.hostMode ≠ hmDown) ∧ goes (.cueStoreHostWrite (16777215) ([1] : List Byte)) (live.setFld Reg.hostMode 3)
      (fun t => decide (t.cue.store = (storeWrite (16777215) ([1] : List Byte) (live.setFld Reg.hostMode 3)).cue.store) && decide (t.fld Reg.codeWrite = (if (List.range ([1] : List Byte).length).any (fun i => inImage (live.setFld Reg.hostMode 3) ((16777215) + i)) then 1 else (live.setFld Reg.hostMode 3).fld Reg.codeWrite)) && decide (t.mem = (live.setFld Reg.hostMode 3).mem) && decide (onlyRegs [Reg.codeWrite.off] (live.setFld Reg.hostMode 3) t = true)) = true := by
  decide +kernel

theorem test_ScratchpadAndStoreServe_cueStoreHostWrite2 :
    linksLive live = true ∧ live.fld Reg.hostMode = hmDown := by
  decide +kernel

/-! ProgramsAndTriggersAct. -/

def s_ProgramsAndTriggersAct_programLoad : State := live.modCue (fun k => { k with store := Tab.setRange (fun _ => 0) [] 0 (leBytes 4 0x39455543 ++ leBytes 2 1 ++ leBytes 2 0 ++ leBytes 4 1) })

theorem test_ProgramsAndTriggersAct_programLoad :
    linksLive s_ProgramsAndTriggersAct_programLoad = true ∧ s_ProgramsAndTriggersAct_programLoad.fld Reg.loadResult ≠ 1 ∧ loadCause s_ProgramsAndTriggersAct_programLoad (0) = none ∧ ((List.range 64).find? (fun m => (s_ProgramsAndTriggersAct_programLoad.prog m).isNone) = some (0)) := by
  decide +kernel

theorem test_ProgramsAndTriggersAct_programLoad2 :
    (linksLive live = true ∧ live.fld Reg.loadResult ≠ 1 ∧ loadCause live (1) = some (1)) ∧ goes (.programLoad (1)) live
      (fun t => decide (t.fld Reg.loadResult = 4) && decide (t.fld Reg.loadCause = (1)) && decide (t.cue = live.cue) && decide (onlyRegs [Reg.loadResult.off, Reg.loadCause.off] live t = true)) = true := by
  decide +kernel

def s_ProgramsAndTriggersAct_programLoadComplete : State := live.modCue (fun k => { k with loading := some 63, progs := [(63, some { image := 0, bytes := 4096, code := 64, insns := 4, foot := [(0, 0x100000)], allocs := [] })] })

theorem test_ProgramsAndTriggersAct_programLoadComplete :
    (linksLive s_ProgramsAndTriggersAct_programLoadComplete = true ∧ s_ProgramsAndTriggersAct_programLoadComplete.cue.loading = some (63 : Fin 64).val ∧ ((footOf s_ProgramsAndTriggersAct_programLoadComplete (63 : Fin 64)).any (fun r => waitsZeroing s_ProgramsAndTriggersAct_programLoadComplete r.1 r.2) = false)) ∧ goes .programLoadComplete s_ProgramsAndTriggersAct_programLoadComplete
      (fun t => decide (t.fld Reg.loadResult = 2) && decide (t.fld (Reg.cueProg (63 : Fin 64)) = 1) && decide (t.cue.loading = none) && decide (t.fld Reg.cueGen = (s_ProgramsAndTriggersAct_programLoadComplete.fld Reg.cueGen + 1) % 2 ^ Reg.cueGen.w) && decide (t.ten = s_ProgramsAndTriggersAct_programLoadComplete.ten)) = true := by
  decide +kernel

def s_ProgramsAndTriggersAct_programUnload : State := live.modCue (fun k => { k with progs := [(63, some { image := 0, bytes := 4096, code := 64, insns := 4, foot := [(0, 0x100000)], allocs := [] })] })

theorem test_ProgramsAndTriggersAct_programUnload :
    linksLive s_ProgramsAndTriggersAct_programUnload = true ∧ s_ProgramsAndTriggersAct_programUnload.fld Reg.loadResult ≠ 1 ∧ (s_ProgramsAndTriggersAct_programUnload.prog (63 : Fin 64)).isSome = true ∧ progRunning s_ProgramsAndTriggersAct_programUnload (63 : Fin 64) = false ∧ progCrossing s_ProgramsAndTriggersAct_programUnload (63 : Fin 64) = false := by
  decide +kernel

def s_ProgramsAndTriggersAct_triggerEnable : State := live.setWord (Reg.trigWord 1023 0) 9

theorem test_ProgramsAndTriggersAct_triggerEnable :
    (linksLive s_ProgramsAndTriggersAct_triggerEnable = true ∧ s_ProgramsAndTriggersAct_triggerEnable.fld (Reg.trigValid (1023 : Fin 1024)) = 1 ∧ true = true ∧ s_ProgramsAndTriggersAct_triggerEnable.fld (Reg.trigEnable (1023 : Fin 1024)) = 0) ∧ goes (.triggerEnable (1023 : Fin 1024) true) s_ProgramsAndTriggersAct_triggerEnable
      (fun t => decide (t.fld (Reg.trigEnable (1023 : Fin 1024)) = 1) && decide ((Tab.get (fun _ => Trig.init) t.cue.trigs (1023 : Fin 1024)).nextFire = (if s_ProgramsAndTriggersAct_triggerEnable.fld (Reg.trigKind (1023 : Fin 1024)) = 2 then s_ProgramsAndTriggersAct_triggerEnable.now + s_ProgramsAndTriggersAct_triggerEnable.fld (Reg.trigPeriod (1023 : Fin 1024)) else 0)) && decide (t.mem = s_ProgramsAndTriggersAct_triggerEnable.mem) && decide (onlyRegs [(Reg.trigEnable (1023 : Fin 1024)).off] s_ProgramsAndTriggersAct_triggerEnable t = true)) = true := by
  decide +kernel

def s_ProgramsAndTriggersAct_triggerEnable2 : State := live.setWord (Reg.trigWord 1023 0) 11

theorem test_ProgramsAndTriggersAct_triggerEnable2 :
    (linksLive s_ProgramsAndTriggersAct_triggerEnable2 = true ∧ s_ProgramsAndTriggersAct_triggerEnable2.fld (Reg.trigValid (1023 : Fin 1024)) = 1 ∧ false = false) ∧ goes (.triggerEnable (1023 : Fin 1024) false) s_ProgramsAndTriggersAct_triggerEnable2
      (fun t => decide (t.fld (Reg.trigEnable (1023 : Fin 1024)) = 0) && decide (t.cue = s_ProgramsAndTriggersAct_triggerEnable2.cue) && decide (onlyRegs [(Reg.trigEnable (1023 : Fin 1024)).off] s_ProgramsAndTriggersAct_triggerEnable2 t = true)) = true := by
  decide +kernel

theorem test_ProgramsAndTriggersAct_triggerEnable3 :
    (linksLive live = true ∧ live.fld (Reg.trigValid (0 : Fin 1024)) = 0) ∧ goes (.triggerEnable (0 : Fin 1024) true) live
      (fun t => decide (t.fld Reg.cueCfgErr = 1) && decide (t.fld (Reg.trigEnable (0 : Fin 1024)) = live.fld (Reg.trigEnable (0 : Fin 1024))) && decide (t.cue = live.cue) && decide (onlyRegs [Reg.cueCfgErr.off, (Reg.trigEnable (0 : Fin 1024)).off] live t = true)) = true := by
  decide +kernel

def s_ProgramsAndTriggersAct_timerFire : State := (live.setWord (Reg.trigWord 1023 0) (11 + 1 * 2 ^ 6)).setWord (Reg.trigWord 1023 1) 100

theorem test_ProgramsAndTriggersAct_timerFire :
    linksLive s_ProgramsAndTriggersAct_timerFire = true ∧ timerDue s_ProgramsAndTriggersAct_timerFire (1023 : Fin 1024) = true ∧ ghostLight s_ProgramsAndTriggersAct_timerFire = false := by
  decide +kernel

def s_ProgramsAndTriggersAct_contextStart : State := live.setWord (Reg.trigWord 1023 0) (35 + 63 * 2 ^ 6)

theorem test_ProgramsAndTriggersAct_contextStart :
    linksLive s_ProgramsAndTriggersAct_contextStart = true ∧ nextPending s_ProgramsAndTriggersAct_contextStart (63 : Fin 64) = some (1023) ∧ s_ProgramsAndTriggersAct_contextStart.ctx (63 : Fin 64) = none ∧ s_ProgramsAndTriggersAct_contextStart.fld (Reg.seqDisable (63 : Fin 64)) = 0 ∧ ghostLight s_ProgramsAndTriggersAct_contextStart = false ∧ unitCurrent s_ProgramsAndTriggersAct_contextStart (seqUnit (63 : Fin 64)) = true ∧ (workingSet s_ProgramsAndTriggersAct_contextStart (1023)).all (unitCurrent s_ProgramsAndTriggersAct_contextStart) = true := by
  decide +kernel

def s_ProgramsAndTriggersAct_seqKill : State := (live.modCue (fun k => { k with ctxs := [(63, some Ctx.init)] })).setFld (Reg.seqSt 63) 1

theorem test_ProgramsAndTriggersAct_seqKill :
    linksLive s_ProgramsAndTriggersAct_seqKill = true ∧ (s_ProgramsAndTriggersAct_seqKill.ctx (63 : Fin 64)).isSome = true ∧ nextPending s_ProgramsAndTriggersAct_seqKill (63 : Fin 64) = none := by
  decide +kernel

theorem test_ProgramsAndTriggersAct_seqDisable :
    (linksLive live = true ∧ true = true) ∧ goes (.seqDisable (63 : Fin 64) true) live
      (fun t => decide (t.fld (Reg.seqDisable (63 : Fin 64)) = 1) && decide (t.fld (Reg.seqSt (63 : Fin 64)) = live.fld (Reg.seqSt (63 : Fin 64))) && decide (t.cue = live.cue)) = true := by
  decide +kernel

def s_ProgramsAndTriggersAct_seqDisable2 : State := live.setFld (Reg.seqDisable 63) 1

theorem test_ProgramsAndTriggersAct_seqDisable2 :
    linksLive s_ProgramsAndTriggersAct_seqDisable2 = true ∧ false = false ∧ nextPending s_ProgramsAndTriggersAct_seqDisable2 (63 : Fin 64) = none := by
  decide +kernel

def s_ProgramsAndTriggersAct_counterClear : State := live.setCtr 1023 { Ctr.init with bound := true }

theorem test_ProgramsAndTriggersAct_counterClear :
    (linksLive s_ProgramsAndTriggersAct_counterClear = true ∧ Ctr.settled (s_ProgramsAndTriggersAct_counterClear.ctr (1023 : Fin 1024)) = true) ∧ goes (.counterClear (1023 : Fin 1024)) s_ProgramsAndTriggersAct_counterClear
      (fun t => decide (t.ctr (1023 : Fin 1024) = Ctr.init) && decide (t.regs = s_ProgramsAndTriggersAct_counterClear.regs) && decide (t.mem = s_ProgramsAndTriggersAct_counterClear.mem)) = true := by
  decide +kernel

theorem test_ProgramsAndTriggersAct_counterClear2 :
    (linksLive live = true ∧ Ctr.settled (live.ctr (1023 : Fin 1024)) = false) ∧ goes (.counterClear (1023 : Fin 1024)) live
      (fun t => decide (t.ctr (1023 : Fin 1024) = live.ctr (1023 : Fin 1024)) && decide (t.fld Reg.cueCfgErr = 1) && decide (t.cue = live.cue) && decide (onlyRegs [Reg.cueCfgErr.off] live t = true)) = true := by
  decide +kernel

def s_ProgramsAndTriggersAct_quarantineComplete : State := (live.setFld (Reg.quarTile 239) 1).setFld (Reg.tileRole 239) 2

theorem test_ProgramsAndTriggersAct_quarantineComplete :
    linksLive s_ProgramsAndTriggersAct_quarantineComplete = true ∧ quiet s_ProgramsAndTriggersAct_quarantineComplete = true ∧ (.tile 239 : UnitId) = .tile (239 : Fin 240) ∧ unitState s_ProgramsAndTriggersAct_quarantineComplete (.tile 239 : UnitId) < 2 ∧ s_ProgramsAndTriggersAct_quarantineComplete.fld (Reg.quarTile (239 : Fin 240)) = 1 ∧ s_ProgramsAndTriggersAct_quarantineComplete.fld (Reg.tileRole (239 : Fin 240)) = 2 := by
  decide +kernel

def s_ProgramsAndTriggersAct_quarantineComplete2 : State := live.setFld (Reg.quarEng 15) 1

theorem test_ProgramsAndTriggersAct_quarantineComplete2 :
    linksLive s_ProgramsAndTriggersAct_quarantineComplete2 = true ∧ quiet s_ProgramsAndTriggersAct_quarantineComplete2 = true ∧ (.eng 15 : UnitId) = .eng (15 : Fin 16) ∧ unitState s_ProgramsAndTriggersAct_quarantineComplete2 (.eng 15 : UnitId) < 2 ∧ s_ProgramsAndTriggersAct_quarantineComplete2.fld (Reg.quarEng (15 : Fin 16)) = 1 := by
  decide +kernel

def s_ProgramsAndTriggersAct_quarantineComplete3 : State := (live.setFld (Reg.quarSeq 63) 1).setFld (Reg.seqSt 63) 6

theorem test_ProgramsAndTriggersAct_quarantineComplete3 :
    linksLive s_ProgramsAndTriggersAct_quarantineComplete3 = true ∧ quiet s_ProgramsAndTriggersAct_quarantineComplete3 = true ∧ (.seq 63 : UnitId) = .seq (63 : Fin 64) ∧ unitState s_ProgramsAndTriggersAct_quarantineComplete3 (.seq 63 : UnitId) < 2 ∧ s_ProgramsAndTriggersAct_quarantineComplete3.fld (Reg.quarSeq (63 : Fin 64)) = 1 ∧ s_ProgramsAndTriggersAct_quarantineComplete3.fld (Reg.seqSt (63 : Fin 64)) = sqQuarantine := by
  decide +kernel

def s_ProgramsAndTriggersAct_quarantineComplete4 : State := (live.setFld (Reg.quarChan 11) 1).setFld (Reg.chState 11) 5

theorem test_ProgramsAndTriggersAct_quarantineComplete4 :
    linksLive s_ProgramsAndTriggersAct_quarantineComplete4 = true ∧ quiet s_ProgramsAndTriggersAct_quarantineComplete4 = true ∧ (.ddr 11 : UnitId) = .ddr (11 : Fin 12) ∧ unitState s_ProgramsAndTriggersAct_quarantineComplete4 (.ddr 11 : UnitId) < 2 ∧ s_ProgramsAndTriggersAct_quarantineComplete4.fld (Reg.quarChan (11 : Fin 12)) = 1 ∧ s_ProgramsAndTriggersAct_quarantineComplete4.fld (Reg.chState (11 : Fin 12)) = chQuarantine := by
  decide +kernel

/-! TensorInstructionsEnd. -/

def f_TensorInstructionsEnd_tensorInstructionComplete : Flight := Flight.mk 7 63 0 (BitVec.ofNat 128 (0x6C * 2 ^ 120 + 3 * 2 ^ 112 + 1 * 2 ^ 77)) [BitVec.ofNat 256 (dsc 0 9 1 3 0 0), BitVec.ofNat 256 (dsc 0x100 9 1 3 0 0), 0, 0] [(0x100, 0x120)] [(0, 0x20)] none 0 true none

def s_TensorInstructionsEnd_tensorInstructionComplete : State := (spPoke 0x100 [1, 2, 3] live).modTen (fun t => { t with flights := [Flight.mk 7 63 0 (BitVec.ofNat 128 (0x6C * 2 ^ 120 + 3 * 2 ^ 112 + 1 * 2 ^ 77)) [BitVec.ofNat 256 (dsc 0 9 1 3 0 0), BitVec.ofNat 256 (dsc 0x100 9 1 3 0 0), 0, 0] [(0x100, 0x120)] [(0, 0x20)] none 0 true none] })

theorem test_TensorInstructionsEnd_tensorInstructionComplete :
    linksLive s_TensorInstructionsEnd_tensorInstructionComplete = true ∧ quiet s_TensorInstructionsEnd_tensorInstructionComplete = true ∧ ghostLight s_TensorInstructionsEnd_tensorInstructionComplete = false ∧ (s_TensorInstructionsEnd_tensorInstructionComplete.ten.flights.find? (fun f_TensorInstructionsEnd_tensorInstructionComplete => decide (f_TensorInstructionsEnd_tensorInstructionComplete.id = (7))) = some f_TensorInstructionsEnd_tensorInstructionComplete) ∧ flightBlocked s_TensorInstructionsEnd_tensorInstructionComplete f_TensorInstructionsEnd_tensorInstructionComplete = false ∧ (flightUnits s_TensorInstructionsEnd_tensorInstructionComplete f_TensorInstructionsEnd_tensorInstructionComplete).all (unitCurrent s_TensorInstructionsEnd_tensorInstructionComplete) = true ∧ flightFailure (veiled none s_TensorInstructionsEnd_tensorInstructionComplete) f_TensorInstructionsEnd_tensorInstructionComplete = none ∧ f_TensorInstructionsEnd_tensorInstructionComplete.cross = none := by
  decide +kernel

def f_TensorInstructionsEnd_tensorInstructionComplete2 : Flight := Flight.mk 7 63 0 (BitVec.ofNat 128 (0x6C * 2 ^ 120 + 3 * 2 ^ 112 + 1 * 2 ^ 77)) [BitVec.ofNat 256 (dsc 0 9 1 3 0 0), BitVec.ofNat 256 (dsc 0x100 9 1 3 0 0), 0, 0] [(0x100, 0x120)] [(0, 0x20)] (some 3) 0 true none

def s_TensorInstructionsEnd_tensorInstructionComplete2 : State := live.modTen (fun t => { t with flights := [Flight.mk 7 63 0 (BitVec.ofNat 128 (0x6C * 2 ^ 120 + 3 * 2 ^ 112 + 1 * 2 ^ 77)) [BitVec.ofNat 256 (dsc 0 9 1 3 0 0), BitVec.ofNat 256 (dsc 0x100 9 1 3 0 0), 0, 0] [(0x100, 0x120)] [(0, 0x20)] (some 3) 0 true none] })

theorem test_TensorInstructionsEnd_tensorInstructionComplete2 :
    linksLive s_TensorInstructionsEnd_tensorInstructionComplete2 = true ∧ quiet s_TensorInstructionsEnd_tensorInstructionComplete2 = true ∧ ghostLight s_TensorInstructionsEnd_tensorInstructionComplete2 = false ∧ (s_TensorInstructionsEnd_tensorInstructionComplete2.ten.flights.find? (fun f_TensorInstructionsEnd_tensorInstructionComplete2 => decide (f_TensorInstructionsEnd_tensorInstructionComplete2.id = (7))) = some f_TensorInstructionsEnd_tensorInstructionComplete2) ∧ flightBlocked s_TensorInstructionsEnd_tensorInstructionComplete2 f_TensorInstructionsEnd_tensorInstructionComplete2 = false ∧ (flightUnits s_TensorInstructionsEnd_tensorInstructionComplete2 f_TensorInstructionsEnd_tensorInstructionComplete2).all (unitCurrent s_TensorInstructionsEnd_tensorInstructionComplete2) = true ∧ flightFailure (veiled none s_TensorInstructionsEnd_tensorInstructionComplete2) f_TensorInstructionsEnd_tensorInstructionComplete2 = none ∧ f_TensorInstructionsEnd_tensorInstructionComplete2.cross = some (3) ∧ s_TensorInstructionsEnd_tensorInstructionComplete2.opById (3) = none := by
  decide +kernel

def f_TensorInstructionsEnd_tensorLateFault : Flight := Flight.mk 7 63 0 (BitVec.ofNat 128 (0x6C * 2 ^ 120 + 3 * 2 ^ 112 + 1 * 2 ^ 77)) [BitVec.ofNat 256 (dsc 0 9 1 3 0 0), BitVec.ofNat 256 (dsc 0x100 9 1 3 0 0), 0, 0] [(0x100, 0x120)] [(0, 0x20)] none 0 true none

def s_TensorInstructionsEnd_tensorLateFault : State := ((live.modCue (fun k => { k with ctxs := [(63, some Ctx.init)] })).setFld (Reg.seqSt 63) 1).modTen (fun t => { t with flights := [Flight.mk 7 63 0 (BitVec.ofNat 128 (0x6C * 2 ^ 120 + 3 * 2 ^ 112 + 1 * 2 ^ 77)) [BitVec.ofNat 256 (dsc 0 9 1 3 0 0), BitVec.ofNat 256 (dsc 0x100 9 1 3 0 0), 0, 0] [(0x100, 0x120)] [(0, 0x20)] none 0 true none] })

theorem test_TensorInstructionsEnd_tensorLateFault :
    linksLive s_TensorInstructionsEnd_tensorLateFault = true ∧ quiet s_TensorInstructionsEnd_tensorLateFault = true ∧ ghostLight s_TensorInstructionsEnd_tensorLateFault = false ∧ (s_TensorInstructionsEnd_tensorLateFault.ten.flights.find? (fun f_TensorInstructionsEnd_tensorLateFault => decide (f_TensorInstructionsEnd_tensorLateFault.id = (7))) = some f_TensorInstructionsEnd_tensorLateFault) ∧ flightReady s_TensorInstructionsEnd_tensorLateFault f_TensorInstructionsEnd_tensorLateFault = true ∧ ((readSpans s_TensorInstructionsEnd_tensorLateFault f_TensorInstructionsEnd_tensorLateFault.oper).any (fun e => (wordsOf e.1 e.2).any (fun x => decide (x.1 = (8 : Fin 16777216).val))) = true) ∧ f_TensorInstructionsEnd_tensorLateFault.cross = none ∧ f_TensorInstructionsEnd_tensorLateFault.owned = true ∧ f_TensorInstructionsEnd_tensorLateFault.seq < 64 ∧ s_TensorInstructionsEnd_tensorLateFault.fld (Reg.onFault f_TensorInstructionsEnd_tensorLateFault.seq) = 0 ∧ (s_TensorInstructionsEnd_tensorLateFault.ctx f_TensorInstructionsEnd_tensorLateFault.seq).isSome = true := by
  decide +kernel

/-! ScalarInstructionsAct. -/

def s_ScalarInstructionsAct_adds : State := runner 0x2001f846000000000000000000000000 [(1, 5), (2, 9), (3, 0xFFFFFFFFFFFFFFFF), (4, 0x1000000000000100), (5, 64)] []

theorem test_ScalarInstructionsAct_adds :
    (0x2001f846000000000000000000000000 = fetchWord s_ScalarInstructionsAct_adds (63 : Fin 64) ∧ issues s_ScalarInstructionsAct_adds (63 : Fin 64) = true ∧ Isa.opc 0x2001f846000000000000000000000000 = 0x20 ∧ follows s_ScalarInstructionsAct_adds (63 : Fin 64) = true ∧ (5) = (s_ScalarInstructionsAct_adds.theCtx (63 : Fin 64)).sreg (Isa.ra1 0x2001f846000000000000000000000000) ∧ (0xFFFFFFFFFFFFFFFF = (if Isa.immFlag1 0x2001f846000000000000000000000000 = 1 then Isa.imm 0x2001f846000000000000000000000000 else (s_ScalarInstructionsAct_adds.theCtx (63 : Fin 64)).sreg (Isa.rb1 0x2001f846000000000000000000000000)))) ∧ goes (.adds (63 : Fin 64)) s_ScalarInstructionsAct_adds
      (fun t => decide (runsOn t (63 : Fin 64) (s_ScalarInstructionsAct_adds.fld (Reg.seqPc (63 : Fin 64)) + 1) ((s_ScalarInstructionsAct_adds.theCtx (63 : Fin 64)).setS (Isa.rd1 0x2001f846000000000000000000000000) (((5) + 0xFFFFFFFFFFFFFFFF) % 2 ^ 64)) = true) && decide (t.cue.ctrs = s_ScalarInstructionsAct_adds.cue.ctrs) && decide (t.ten = s_ScalarInstructionsAct_adds.ten) && decide (t.mem = s_ScalarInstructionsAct_adds.mem) && decide (t.swc = s_ScalarInstructionsAct_adds.swc) && decide (onlyRegs [(Reg.seqSt (63 : Fin 64)).off] s_ScalarInstructionsAct_adds t = true)) = true := by
  decide +kernel

def s_ScalarInstructionsAct_subs : State := runner 0x2101f846000000000000000000000000 [(1, 5), (2, 9), (3, 0xFFFFFFFFFFFFFFFF), (4, 0x1000000000000100), (5, 64)] []

theorem test_ScalarInstructionsAct_subs :
    (0x2101f846000000000000000000000000 = fetchWord s_ScalarInstructionsAct_subs (63 : Fin 64) ∧ issues s_ScalarInstructionsAct_subs (63 : Fin 64) = true ∧ Isa.opc 0x2101f846000000000000000000000000 = 0x21 ∧ follows s_ScalarInstructionsAct_subs (63 : Fin 64) = true ∧ (5) = (s_ScalarInstructionsAct_subs.theCtx (63 : Fin 64)).sreg (Isa.ra1 0x2101f846000000000000000000000000) ∧ (0xFFFFFFFFFFFFFFFF = (if Isa.immFlag1 0x2101f846000000000000000000000000 = 1 then Isa.imm 0x2101f846000000000000000000000000 else (s_ScalarInstructionsAct_subs.theCtx (63 : Fin 64)).sreg (Isa.rb1 0x2101f846000000000000000000000000)))) ∧ goes (.subs (63 : Fin 64)) s_ScalarInstructionsAct_subs
      (fun t => decide (runsOn t (63 : Fin 64) (s_ScalarInstructionsAct_subs.fld (Reg.seqPc (63 : Fin 64)) + 1) ((s_ScalarInstructionsAct_subs.theCtx (63 : Fin 64)).setS (Isa.rd1 0x2101f846000000000000000000000000) (((5) + 2 ^ 64 - 0xFFFFFFFFFFFFFFFF) % 2 ^ 64)) = true) && decide (t.cue.ctrs = s_ScalarInstructionsAct_subs.cue.ctrs) && decide (t.ten = s_ScalarInstructionsAct_subs.ten) && decide (t.mem = s_ScalarInstructionsAct_subs.mem) && decide (t.swc = s_ScalarInstructionsAct_subs.swc) && decide (onlyRegs [(Reg.seqSt (63 : Fin 64)).off] s_ScalarInstructionsAct_subs t = true)) = true := by
  decide +kernel

def s_ScalarInstructionsAct_muls : State := runner 0x22011081000000000000000000000007 [(1, 5), (2, 9), (3, 0xFFFFFFFFFFFFFFFF), (4, 0x1000000000000100), (5, 64)] []

theorem test_ScalarInstructionsAct_muls :
    (0x22011081000000000000000000000007 = fetchWord s_ScalarInstructionsAct_muls (63 : Fin 64) ∧ issues s_ScalarInstructionsAct_muls (63 : Fin 64) = true ∧ Isa.opc 0x22011081000000000000000000000007 = 0x22 ∧ follows s_ScalarInstructionsAct_muls (63 : Fin 64) = true ∧ (9) = (s_ScalarInstructionsAct_muls.theCtx (63 : Fin 64)).sreg (Isa.ra1 0x22011081000000000000000000000007) ∧ ((7) = (if Isa.immFlag1 0x22011081000000000000000000000007 = 1 then Isa.imm 0x22011081000000000000000000000007 else (s_ScalarInstructionsAct_muls.theCtx (63 : Fin 64)).sreg (Isa.rb1 0x22011081000000000000000000000007)))) ∧ goes (.muls (63 : Fin 64)) s_ScalarInstructionsAct_muls
      (fun t => decide (runsOn t (63 : Fin 64) (s_ScalarInstructionsAct_muls.fld (Reg.seqPc (63 : Fin 64)) + 1) ((s_ScalarInstructionsAct_muls.theCtx (63 : Fin 64)).setS (Isa.rd1 0x22011081000000000000000000000007) (((9) * (7)) % 2 ^ 64)) = true) && decide (t.cue.ctrs = s_ScalarInstructionsAct_muls.cue.ctrs) && decide (t.ten = s_ScalarInstructionsAct_muls.ten) && decide (t.mem = s_ScalarInstructionsAct_muls.mem) && decide (t.swc = s_ScalarInstructionsAct_muls.swc) && decide (onlyRegs [(Reg.seqSt (63 : Fin 64)).off] s_ScalarInstructionsAct_muls t = true)) = true := by
  decide +kernel

def s_ScalarInstructionsAct_ands : State := runner 0x2301f846000000000000000000000000 [(1, 5), (2, 9), (3, 0xFFFFFFFFFFFFFFFF), (4, 0x1000000000000100), (5, 64)] []

theorem test_ScalarInstructionsAct_ands :
    (0x2301f846000000000000000000000000 = fetchWord s_ScalarInstructionsAct_ands (63 : Fin 64) ∧ issues s_ScalarInstructionsAct_ands (63 : Fin 64) = true ∧ Isa.opc 0x2301f846000000000000000000000000 = 0x23 ∧ follows s_ScalarInstructionsAct_ands (63 : Fin 64) = true ∧ (5) = (s_ScalarInstructionsAct_ands.theCtx (63 : Fin 64)).sreg (Isa.ra1 0x2301f846000000000000000000000000) ∧ (0xFFFFFFFFFFFFFFFF = (if Isa.immFlag1 0x2301f846000000000000000000000000 = 1 then Isa.imm 0x2301f846000000000000000000000000 else (s_ScalarInstructionsAct_ands.theCtx (63 : Fin 64)).sreg (Isa.rb1 0x2301f846000000000000000000000000)))) ∧ goes (.ands (63 : Fin 64)) s_ScalarInstructionsAct_ands
      (fun t => decide (runsOn t (63 : Fin 64) (s_ScalarInstructionsAct_ands.fld (Reg.seqPc (63 : Fin 64)) + 1) ((s_ScalarInstructionsAct_ands.theCtx (63 : Fin 64)).setS (Isa.rd1 0x2301f846000000000000000000000000) ((Nat.land (5) 0xFFFFFFFFFFFFFFFF) % 2 ^ 64)) = true) && decide (t.cue.ctrs = s_ScalarInstructionsAct_ands.cue.ctrs) && decide (t.ten = s_ScalarInstructionsAct_ands.ten) && decide (t.mem = s_ScalarInstructionsAct_ands.mem) && decide (t.swc = s_ScalarInstructionsAct_ands.swc) && decide (onlyRegs [(Reg.seqSt (63 : Fin 64)).off] s_ScalarInstructionsAct_ands t = true)) = true := by
  decide +kernel

def s_ScalarInstructionsAct_ors : State := runner 0x2401f846000000000000000000000000 [(1, 5), (2, 9), (3, 0xFFFFFFFFFFFFFFFF), (4, 0x1000000000000100), (5, 64)] []

theorem test_ScalarInstructionsAct_ors :
    (0x2401f846000000000000000000000000 = fetchWord s_ScalarInstructionsAct_ors (63 : Fin 64) ∧ issues s_ScalarInstructionsAct_ors (63 : Fin 64) = true ∧ Isa.opc 0x2401f846000000000000000000000000 = 0x24 ∧ follows s_ScalarInstructionsAct_ors (63 : Fin 64) = true ∧ (5) = (s_ScalarInstructionsAct_ors.theCtx (63 : Fin 64)).sreg (Isa.ra1 0x2401f846000000000000000000000000) ∧ (0xFFFFFFFFFFFFFFFF = (if Isa.immFlag1 0x2401f846000000000000000000000000 = 1 then Isa.imm 0x2401f846000000000000000000000000 else (s_ScalarInstructionsAct_ors.theCtx (63 : Fin 64)).sreg (Isa.rb1 0x2401f846000000000000000000000000)))) ∧ goes (.ors (63 : Fin 64)) s_ScalarInstructionsAct_ors
      (fun t => decide (runsOn t (63 : Fin 64) (s_ScalarInstructionsAct_ors.fld (Reg.seqPc (63 : Fin 64)) + 1) ((s_ScalarInstructionsAct_ors.theCtx (63 : Fin 64)).setS (Isa.rd1 0x2401f846000000000000000000000000) ((Nat.lor (5) 0xFFFFFFFFFFFFFFFF) % 2 ^ 64)) = true) && decide (t.cue.ctrs = s_ScalarInstructionsAct_ors.cue.ctrs) && decide (t.ten = s_ScalarInstructionsAct_ors.ten) && decide (t.mem = s_ScalarInstructionsAct_ors.mem) && decide (t.swc = s_ScalarInstructionsAct_ors.swc) && decide (onlyRegs [(Reg.seqSt (63 : Fin 64)).off] s_ScalarInstructionsAct_ors t = true)) = true := by
  decide +kernel

def s_ScalarInstructionsAct_xors : State := runner 0x2501f846000000000000000000000000 [(1, 5), (2, 9), (3, 0xFFFFFFFFFFFFFFFF), (4, 0x1000000000000100), (5, 64)] []

theorem test_ScalarInstructionsAct_xors :
    (0x2501f846000000000000000000000000 = fetchWord s_ScalarInstructionsAct_xors (63 : Fin 64) ∧ issues s_ScalarInstructionsAct_xors (63 : Fin 64) = true ∧ Isa.opc 0x2501f846000000000000000000000000 = 0x25 ∧ follows s_ScalarInstructionsAct_xors (63 : Fin 64) = true ∧ (5) = (s_ScalarInstructionsAct_xors.theCtx (63 : Fin 64)).sreg (Isa.ra1 0x2501f846000000000000000000000000) ∧ (0xFFFFFFFFFFFFFFFF = (if Isa.immFlag1 0x2501f846000000000000000000000000 = 1 then Isa.imm 0x2501f846000000000000000000000000 else (s_ScalarInstructionsAct_xors.theCtx (63 : Fin 64)).sreg (Isa.rb1 0x2501f846000000000000000000000000)))) ∧ goes (.xors (63 : Fin 64)) s_ScalarInstructionsAct_xors
      (fun t => decide (runsOn t (63 : Fin 64) (s_ScalarInstructionsAct_xors.fld (Reg.seqPc (63 : Fin 64)) + 1) ((s_ScalarInstructionsAct_xors.theCtx (63 : Fin 64)).setS (Isa.rd1 0x2501f846000000000000000000000000) ((Nat.xor (5) 0xFFFFFFFFFFFFFFFF) % 2 ^ 64)) = true) && decide (t.cue.ctrs = s_ScalarInstructionsAct_xors.cue.ctrs) && decide (t.ten = s_ScalarInstructionsAct_xors.ten) && decide (t.mem = s_ScalarInstructionsAct_xors.mem) && decide (t.swc = s_ScalarInstructionsAct_xors.swc) && decide (onlyRegs [(Reg.seqSt (63 : Fin 64)).off] s_ScalarInstructionsAct_xors t = true)) = true := by
  decide +kernel

def s_ScalarInstructionsAct_shls : State := runner 0x2601f846000000000000000000000000 [(1, 5), (2, 9), (3, 0xFFFFFFFFFFFFFFFF), (4, 0x1000000000000100), (5, 64)] []

theorem test_ScalarInstructionsAct_shls :
    (0x2601f846000000000000000000000000 = fetchWord s_ScalarInstructionsAct_shls (63 : Fin 64) ∧ issues s_ScalarInstructionsAct_shls (63 : Fin 64) = true ∧ Isa.opc 0x2601f846000000000000000000000000 = 0x26 ∧ follows s_ScalarInstructionsAct_shls (63 : Fin 64) = true ∧ (5) = (s_ScalarInstructionsAct_shls.theCtx (63 : Fin 64)).sreg (Isa.ra1 0x2601f846000000000000000000000000) ∧ (0xFFFFFFFFFFFFFFFF = (if Isa.immFlag1 0x2601f846000000000000000000000000 = 1 then Isa.imm 0x2601f846000000000000000000000000 else (s_ScalarInstructionsAct_shls.theCtx (63 : Fin 64)).sreg (Isa.rb1 0x2601f846000000000000000000000000)))) ∧ goes (.shls (63 : Fin 64)) s_ScalarInstructionsAct_shls
      (fun t => decide (runsOn t (63 : Fin 64) (s_ScalarInstructionsAct_shls.fld (Reg.seqPc (63 : Fin 64)) + 1) ((s_ScalarInstructionsAct_shls.theCtx (63 : Fin 64)).setS (Isa.rd1 0x2601f846000000000000000000000000) (((5) <<< (0xFFFFFFFFFFFFFFFF % 64)) % 2 ^ 64)) = true) && decide (t.cue.ctrs = s_ScalarInstructionsAct_shls.cue.ctrs) && decide (t.ten = s_ScalarInstructionsAct_shls.ten) && decide (t.mem = s_ScalarInstructionsAct_shls.mem) && decide (t.swc = s_ScalarInstructionsAct_shls.swc) && decide (onlyRegs [(Reg.seqSt (63 : Fin 64)).off] s_ScalarInstructionsAct_shls t = true)) = true := by
  decide +kernel

def s_ScalarInstructionsAct_shrs : State := runner 0x2701f846000000000000000000000000 [(1, 5), (2, 9), (3, 0xFFFFFFFFFFFFFFFF), (4, 0x1000000000000100), (5, 64)] []

theorem test_ScalarInstructionsAct_shrs :
    (0x2701f846000000000000000000000000 = fetchWord s_ScalarInstructionsAct_shrs (63 : Fin 64) ∧ issues s_ScalarInstructionsAct_shrs (63 : Fin 64) = true ∧ Isa.opc 0x2701f846000000000000000000000000 = 0x27 ∧ follows s_ScalarInstructionsAct_shrs (63 : Fin 64) = true ∧ (5) = (s_ScalarInstructionsAct_shrs.theCtx (63 : Fin 64)).sreg (Isa.ra1 0x2701f846000000000000000000000000) ∧ (0xFFFFFFFFFFFFFFFF = (if Isa.immFlag1 0x2701f846000000000000000000000000 = 1 then Isa.imm 0x2701f846000000000000000000000000 else (s_ScalarInstructionsAct_shrs.theCtx (63 : Fin 64)).sreg (Isa.rb1 0x2701f846000000000000000000000000)))) ∧ goes (.shrs (63 : Fin 64)) s_ScalarInstructionsAct_shrs
      (fun t => decide (runsOn t (63 : Fin 64) (s_ScalarInstructionsAct_shrs.fld (Reg.seqPc (63 : Fin 64)) + 1) ((s_ScalarInstructionsAct_shrs.theCtx (63 : Fin 64)).setS (Isa.rd1 0x2701f846000000000000000000000000) (((5) >>> (0xFFFFFFFFFFFFFFFF % 64)) % 2 ^ 64)) = true) && decide (t.cue.ctrs = s_ScalarInstructionsAct_shrs.cue.ctrs) && decide (t.ten = s_ScalarInstructionsAct_shrs.ten) && decide (t.mem = s_ScalarInstructionsAct_shrs.mem) && decide (t.swc = s_ScalarInstructionsAct_shrs.swc) && decide (onlyRegs [(Reg.seqSt (63 : Fin 64)).off] s_ScalarInstructionsAct_shrs t = true)) = true := by
  decide +kernel

def s_ScalarInstructionsAct_ldis : State := runner 0x2801380100000000ffffffffffffffff [(1, 5), (2, 9), (3, 0xFFFFFFFFFFFFFFFF), (4, 0x1000000000000100), (5, 64)] []

theorem test_ScalarInstructionsAct_ldis :
    (0x2801380100000000ffffffffffffffff = fetchWord s_ScalarInstructionsAct_ldis (63 : Fin 64) ∧ issues s_ScalarInstructionsAct_ldis (63 : Fin 64) = true ∧ Isa.opc 0x2801380100000000ffffffffffffffff = 0x28 ∧ follows s_ScalarInstructionsAct_ldis (63 : Fin 64) = true ∧ Isa.immFlag1 0x2801380100000000ffffffffffffffff = 1 ∧ Isa.ra1 0x2801380100000000ffffffffffffffff = 0 ∧ Isa.rb1 0x2801380100000000ffffffffffffffff = 0 ∧ Isa.dcls 0x2801380100000000ffffffffffffffff = 0) ∧ goes (.ldis (63 : Fin 64)) s_ScalarInstructionsAct_ldis
      (fun t => decide (runsOn t (63 : Fin 64) (s_ScalarInstructionsAct_ldis.fld (Reg.seqPc (63 : Fin 64)) + 1) ((s_ScalarInstructionsAct_ldis.theCtx (63 : Fin 64)).setS (Isa.rd1 0x2801380100000000ffffffffffffffff) (Isa.imm 0x2801380100000000ffffffffffffffff)) = true) && decide (t.cue.ctrs = s_ScalarInstructionsAct_ldis.cue.ctrs) && decide (t.ten = s_ScalarInstructionsAct_ldis.ten) && decide (t.mem = s_ScalarInstructionsAct_ldis.mem) && decide (t.swc = s_ScalarInstructionsAct_ldis.swc) && decide (onlyRegs [(Reg.seqSt (63 : Fin 64)).off] s_ScalarInstructionsAct_ldis t = true)) = true := by
  decide +kernel

def s_ScalarInstructionsAct_ldis2 : State := runner 0x28017801400000000000000000008fff [(1, 5), (2, 9), (3, 0xFFFFFFFFFFFFFFFF), (4, 0x1000000000000100), (5, 64)] []

theorem test_ScalarInstructionsAct_ldis2 :
    (0x28017801400000000000000000008fff = fetchWord s_ScalarInstructionsAct_ldis2 (63 : Fin 64) ∧ issues s_ScalarInstructionsAct_ldis2 (63 : Fin 64) = true ∧ Isa.opc 0x28017801400000000000000000008fff = 0x28 ∧ follows s_ScalarInstructionsAct_ldis2 (63 : Fin 64) = true ∧ Isa.immFlag1 0x28017801400000000000000000008fff = 1 ∧ Isa.ra1 0x28017801400000000000000000008fff = 0 ∧ Isa.rb1 0x28017801400000000000000000008fff = 0 ∧ Isa.dcls 0x28017801400000000000000000008fff = 1 ∧ Isa.imm 0x28017801400000000000000000008fff / 2 ^ 16 = 0 ∧ bitsOf (Isa.imm 0x28017801400000000000000000008fff) 12 3 = 0) ∧ goes (.ldis (63 : Fin 64)) s_ScalarInstructionsAct_ldis2
      (fun t => decide (runsOn t (63 : Fin 64) (s_ScalarInstructionsAct_ldis2.fld (Reg.seqPc (63 : Fin 64)) + 1) ((s_ScalarInstructionsAct_ldis2.theCtx (63 : Fin 64)).setG (Isa.rd1 0x28017801400000000000000000008fff) (Isa.imm 0x28017801400000000000000000008fff)) = true) && decide (t.cue.ctrs = s_ScalarInstructionsAct_ldis2.cue.ctrs) && decide (t.ten = s_ScalarInstructionsAct_ldis2.ten) && decide (t.mem = s_ScalarInstructionsAct_ldis2.mem) && decide (t.swc = s_ScalarInstructionsAct_ldis2.swc) && decide (onlyRegs [(Reg.seqSt (63 : Fin 64)).off] s_ScalarInstructionsAct_ldis2 t = true)) = true := by
  decide +kernel

def s_ScalarInstructionsAct_movs : State := runner 0x290138c0000000000000000000000000 [(1, 5), (2, 9), (3, 0xFFFFFFFFFFFFFFFF), (4, 0x1000000000000100), (5, 64)] []

theorem test_ScalarInstructionsAct_movs :
    (0x290138c0000000000000000000000000 = fetchWord s_ScalarInstructionsAct_movs (63 : Fin 64) ∧ issues s_ScalarInstructionsAct_movs (63 : Fin 64) = true ∧ Isa.opc 0x290138c0000000000000000000000000 = 0x29 ∧ follows s_ScalarInstructionsAct_movs (63 : Fin 64) = true ∧ Isa.dcls 0x290138c0000000000000000000000000 = 0) ∧ goes (.movs (63 : Fin 64)) s_ScalarInstructionsAct_movs
      (fun t => decide (runsOn t (63 : Fin 64) (s_ScalarInstructionsAct_movs.fld (Reg.seqPc (63 : Fin 64)) + 1) ((s_ScalarInstructionsAct_movs.theCtx (63 : Fin 64)).setS (Isa.rd1 0x290138c0000000000000000000000000) (if Isa.acls 0x290138c0000000000000000000000000 = 0 then (s_ScalarInstructionsAct_movs.theCtx (63 : Fin 64)).sreg (Isa.ra1 0x290138c0000000000000000000000000) else (s_ScalarInstructionsAct_movs.theCtx (63 : Fin 64)).greg (Isa.ra1 0x290138c0000000000000000000000000))) = true) && decide (t.cue.ctrs = s_ScalarInstructionsAct_movs.cue.ctrs) && decide (t.ten = s_ScalarInstructionsAct_movs.ten) && decide (t.mem = s_ScalarInstructionsAct_movs.mem) && decide (t.swc = s_ScalarInstructionsAct_movs.swc) && decide (onlyRegs [(Reg.seqSt (63 : Fin 64)).off] s_ScalarInstructionsAct_movs t = true)) = true := by
  decide +kernel

def s_ScalarInstructionsAct_movs2 : State := runner 0x29017800500000000000000000000000 [(1, 5), (2, 9), (3, 0xFFFFFFFFFFFFFFFF), (4, 0x1000000000000100), (5, 64)] []

theorem test_ScalarInstructionsAct_movs2 :
    (0x29017800500000000000000000000000 = fetchWord s_ScalarInstructionsAct_movs2 (63 : Fin 64) ∧ issues s_ScalarInstructionsAct_movs2 (63 : Fin 64) = true ∧ Isa.opc 0x29017800500000000000000000000000 = 0x29 ∧ follows s_ScalarInstructionsAct_movs2 (63 : Fin 64) = true ∧ Isa.dcls 0x29017800500000000000000000000000 = 1 ∧ (0x8005 = (if Isa.acls 0x29017800500000000000000000000000 = 0 then (s_ScalarInstructionsAct_movs2.theCtx (63 : Fin 64)).sreg (Isa.ra1 0x29017800500000000000000000000000) else (s_ScalarInstructionsAct_movs2.theCtx (63 : Fin 64)).greg (Isa.ra1 0x29017800500000000000000000000000))) ∧ 0x8005 / 2 ^ 16 = 0 ∧ bitsOf 0x8005 12 3 = 0) ∧ goes (.movs (63 : Fin 64)) s_ScalarInstructionsAct_movs2
      (fun t => decide (runsOn t (63 : Fin 64) (s_ScalarInstructionsAct_movs2.fld (Reg.seqPc (63 : Fin 64)) + 1) ((s_ScalarInstructionsAct_movs2.theCtx (63 : Fin 64)).setG (Isa.rd1 0x29017800500000000000000000000000) 0x8005) = true) && decide (t.cue.ctrs = s_ScalarInstructionsAct_movs2.cue.ctrs) && decide (t.ten = s_ScalarInstructionsAct_movs2.ten) && decide (t.mem = s_ScalarInstructionsAct_movs2.mem) && decide (t.swc = s_ScalarInstructionsAct_movs2.swc) && decide (onlyRegs [(Reg.seqSt (63 : Fin 64)).off] s_ScalarInstructionsAct_movs2 t = true)) = true := by
  decide +kernel

def s_ScalarInstructionsAct_cmps : State := runner 0x2a013846020000000000000000000000 [(1, 5), (2, 9), (3, 0xFFFFFFFFFFFFFFFF), (4, 0x1000000000000100), (5, 64)] []

theorem test_ScalarInstructionsAct_cmps :
    (0x2a013846020000000000000000000000 = fetchWord s_ScalarInstructionsAct_cmps (63 : Fin 64) ∧ issues s_ScalarInstructionsAct_cmps (63 : Fin 64) = true ∧ Isa.opc 0x2a013846020000000000000000000000 = 0x2a ∧ follows s_ScalarInstructionsAct_cmps (63 : Fin 64) = true) ∧ goes (.cmps (63 : Fin 64)) s_ScalarInstructionsAct_cmps
      (fun t => decide (runsOn t (63 : Fin 64) (s_ScalarInstructionsAct_cmps.fld (Reg.seqPc (63 : Fin 64)) + 1) ((s_ScalarInstructionsAct_cmps.theCtx (63 : Fin 64)).setP (Isa.pd1 0x2a013846020000000000000000000000) (condHolds (Isa.cond 0x2a013846020000000000000000000000) ((s_ScalarInstructionsAct_cmps.theCtx (63 : Fin 64)).sreg (Isa.ra1 0x2a013846020000000000000000000000)) (operandB (s_ScalarInstructionsAct_cmps.theCtx (63 : Fin 64)) 0x2a013846020000000000000000000000))) = true) && decide (t.cue.ctrs = s_ScalarInstructionsAct_cmps.cue.ctrs) && decide (t.ten = s_ScalarInstructionsAct_cmps.ten) && decide (t.mem = s_ScalarInstructionsAct_cmps.mem) && decide (t.swc = s_ScalarInstructionsAct_cmps.swc) && decide (onlyRegs [(Reg.seqSt (63 : Fin 64)).off] s_ScalarInstructionsAct_cmps t = true)) = true := by
  decide +kernel

def s_ScalarInstructionsAct_nop : State := runner 0x0 [(1, 5), (2, 9), (3, 0xFFFFFFFFFFFFFFFF), (4, 0x1000000000000100), (5, 64)] []

theorem test_ScalarInstructionsAct_nop :
    (0x0 = fetchWord s_ScalarInstructionsAct_nop (63 : Fin 64) ∧ issues s_ScalarInstructionsAct_nop (63 : Fin 64) = true ∧ Isa.opc 0x0 = 0x0 ∧ follows s_ScalarInstructionsAct_nop (63 : Fin 64) = true) ∧ goes (.nop (63 : Fin 64)) s_ScalarInstructionsAct_nop
      (fun t => decide (runsOn t (63 : Fin 64) (s_ScalarInstructionsAct_nop.fld (Reg.seqPc (63 : Fin 64)) + 1) ((s_ScalarInstructionsAct_nop.theCtx (63 : Fin 64))) = true) && decide (t.cue.ctrs = s_ScalarInstructionsAct_nop.cue.ctrs) && decide (t.ten = s_ScalarInstructionsAct_nop.ten) && decide (t.mem = s_ScalarInstructionsAct_nop.mem) && decide (t.swc = s_ScalarInstructionsAct_nop.swc) && decide (onlyRegs [(Reg.seqSt (63 : Fin 64)).off] s_ScalarInstructionsAct_nop t = true)) = true := by
  decide +kernel

def s_ScalarInstructionsAct_bra : State := runner 0x1000000000000000000000000000003 [(1, 5), (2, 9), (3, 0xFFFFFFFFFFFFFFFF), (4, 0x1000000000000100), (5, 64)] []

theorem test_ScalarInstructionsAct_bra :
    (0x1000000000000000000000000000003 = fetchWord s_ScalarInstructionsAct_bra (63 : Fin 64) ∧ issues s_ScalarInstructionsAct_bra (63 : Fin 64) = true ∧ Isa.opc 0x1000000000000000000000000000003 = 0x1 ∧ bitsOf 0x1000000000000000000000000000003 0 20 < insnsOf s_ScalarInstructionsAct_bra (63 : Fin 64)) ∧ goes (.bra (63 : Fin 64)) s_ScalarInstructionsAct_bra
      (fun t => decide (runsOn t (63 : Fin 64) (bitsOf 0x1000000000000000000000000000003 0 20) ((s_ScalarInstructionsAct_bra.theCtx (63 : Fin 64))) = true) && decide (t.cue.ctrs = s_ScalarInstructionsAct_bra.cue.ctrs) && decide (t.ten = s_ScalarInstructionsAct_bra.ten) && decide (t.mem = s_ScalarInstructionsAct_bra.mem) && decide (t.swc = s_ScalarInstructionsAct_bra.swc) && decide (onlyRegs [(Reg.seqSt (63 : Fin 64)).off] s_ScalarInstructionsAct_bra t = true)) = true := by
  decide +kernel

def s_ScalarInstructionsAct_brc : State := runner 0x20000007fe000000000000000100003 [(1, 5), (2, 9), (3, 0xFFFFFFFFFFFFFFFF), (4, 0x1000000000000100), (5, 64)] []

theorem test_ScalarInstructionsAct_brc :
    (0x20000007fe000000000000000100003 = fetchWord s_ScalarInstructionsAct_brc (63 : Fin 64) ∧ issues s_ScalarInstructionsAct_brc (63 : Fin 64) = true ∧ Isa.opc 0x20000007fe000000000000000100003 = 0x2 ∧ (bitsOf 0x20000007fe000000000000000100003 20 16).testBit (Ctr.phase (s_ScalarInstructionsAct_brc.ctr (Isa.ctr0 0x20000007fe000000000000000100003))) = true ∧ bitsOf 0x20000007fe000000000000000100003 0 20 < insnsOf s_ScalarInstructionsAct_brc (63 : Fin 64)) ∧ goes (.brc (63 : Fin 64)) s_ScalarInstructionsAct_brc
      (fun t => decide (runsOn t (63 : Fin 64) (bitsOf 0x20000007fe000000000000000100003 0 20) ((s_ScalarInstructionsAct_brc.theCtx (63 : Fin 64))) = true) && decide (t.cue.ctrs = s_ScalarInstructionsAct_brc.cue.ctrs) && decide (t.ten = s_ScalarInstructionsAct_brc.ten) && decide (t.mem = s_ScalarInstructionsAct_brc.mem) && decide (t.swc = s_ScalarInstructionsAct_brc.swc) && decide (onlyRegs [(Reg.seqSt (63 : Fin 64)).off] s_ScalarInstructionsAct_brc t = true)) = true := by
  decide +kernel

def s_ScalarInstructionsAct_brc2 : State := runner 0x20000007fe000000000000000200003 [(1, 5), (2, 9), (3, 0xFFFFFFFFFFFFFFFF), (4, 0x1000000000000100), (5, 64)] []

theorem test_ScalarInstructionsAct_brc2 :
    (0x20000007fe000000000000000200003 = fetchWord s_ScalarInstructionsAct_brc2 (63 : Fin 64) ∧ issues s_ScalarInstructionsAct_brc2 (63 : Fin 64) = true ∧ Isa.opc 0x20000007fe000000000000000200003 = 0x2 ∧ follows s_ScalarInstructionsAct_brc2 (63 : Fin 64) = true ∧ (bitsOf 0x20000007fe000000000000000200003 20 16).testBit (Ctr.phase (s_ScalarInstructionsAct_brc2.ctr (Isa.ctr0 0x20000007fe000000000000000200003))) = false) ∧ goes (.brc (63 : Fin 64)) s_ScalarInstructionsAct_brc2
      (fun t => decide (runsOn t (63 : Fin 64) (s_ScalarInstructionsAct_brc2.fld (Reg.seqPc (63 : Fin 64)) + 1) ((s_ScalarInstructionsAct_brc2.theCtx (63 : Fin 64))) = true) && decide (t.cue.ctrs = s_ScalarInstructionsAct_brc2.cue.ctrs) && decide (t.ten = s_ScalarInstructionsAct_brc2.ten) && decide (t.mem = s_ScalarInstructionsAct_brc2.mem) && decide (t.swc = s_ScalarInstructionsAct_brc2.swc) && decide (onlyRegs [(Reg.seqSt (63 : Fin 64)).off] s_ScalarInstructionsAct_brc2 t = true)) = true := by
  decide +kernel

def s_ScalarInstructionsAct_callTo : State := runner 0x3000000000000000000000000000003 [(1, 5), (2, 9), (3, 0xFFFFFFFFFFFFFFFF), (4, 0x1000000000000100), (5, 64)] []

theorem test_ScalarInstructionsAct_callTo :
    (0x3000000000000000000000000000003 = fetchWord s_ScalarInstructionsAct_callTo (63 : Fin 64) ∧ issues s_ScalarInstructionsAct_callTo (63 : Fin 64) = true ∧ Isa.opc 0x3000000000000000000000000000003 = 0x3 ∧ (s_ScalarInstructionsAct_callTo.theCtx (63 : Fin 64)).stack.length < 8 ∧ bitsOf 0x3000000000000000000000000000003 0 20 < insnsOf s_ScalarInstructionsAct_callTo (63 : Fin 64)) ∧ goes (.callTo (63 : Fin 64)) s_ScalarInstructionsAct_callTo
      (fun t => decide (runsOn t (63 : Fin 64) (bitsOf 0x3000000000000000000000000000003 0 20) ({ (s_ScalarInstructionsAct_callTo.theCtx (63 : Fin 64)) with stack := (s_ScalarInstructionsAct_callTo.fld (Reg.seqPc (63 : Fin 64)) + 1) :: (s_ScalarInstructionsAct_callTo.theCtx (63 : Fin 64)).stack }) = true) && decide (t.cue.ctrs = s_ScalarInstructionsAct_callTo.cue.ctrs) && decide (t.ten = s_ScalarInstructionsAct_callTo.ten) && decide (t.mem = s_ScalarInstructionsAct_callTo.mem) && decide (t.swc = s_ScalarInstructionsAct_callTo.swc) && decide (onlyRegs [(Reg.seqSt (63 : Fin 64)).off] s_ScalarInstructionsAct_callTo t = true)) = true := by
  decide +kernel

def s_ScalarInstructionsAct_ret : State := ((runner 0x4000000000000000000000000000000 [(1, 5), (2, 9), (3, 0xFFFFFFFFFFFFFFFF), (4, 0x1000000000000100), (5, 64)] [])).modCtx 63 (fun c => { c with stack := [3, 1] })

theorem test_ScalarInstructionsAct_ret :
    (0x4000000000000000000000000000000 = fetchWord s_ScalarInstructionsAct_ret (63 : Fin 64) ∧ issues s_ScalarInstructionsAct_ret (63 : Fin 64) = true ∧ Isa.opc 0x4000000000000000000000000000000 = 0x4 ∧ (s_ScalarInstructionsAct_ret.theCtx (63 : Fin 64)).stack = (3) :: ([1] : List Nat) ∧ (3) < insnsOf s_ScalarInstructionsAct_ret (63 : Fin 64)) ∧ goes (.ret (63 : Fin 64)) s_ScalarInstructionsAct_ret
      (fun t => decide (runsOn t (63 : Fin 64) ((3)) ({ (s_ScalarInstructionsAct_ret.theCtx (63 : Fin 64)) with stack := ([1] : List Nat) }) = true) && decide (t.cue.ctrs = s_ScalarInstructionsAct_ret.cue.ctrs) && decide (t.ten = s_ScalarInstructionsAct_ret.ten) && decide (t.mem = s_ScalarInstructionsAct_ret.mem) && decide (t.swc = s_ScalarInstructionsAct_ret.swc) && decide (onlyRegs [(Reg.seqSt (63 : Fin 64)).off] s_ScalarInstructionsAct_ret t = true)) = true := by
  decide +kernel

def s_ScalarInstructionsAct_fence : State := runner 0x8000000000000000000000000000000 [(1, 5), (2, 9), (3, 0xFFFFFFFFFFFFFFFF), (4, 0x1000000000000100), (5, 64)] []

theorem test_ScalarInstructionsAct_fence :
    (0x8000000000000000000000000000000 = fetchWord s_ScalarInstructionsAct_fence (63 : Fin 64) ∧ issues s_ScalarInstructionsAct_fence (63 : Fin 64) = true ∧ Isa.opc 0x8000000000000000000000000000000 = 0x8 ∧ follows s_ScalarInstructionsAct_fence (63 : Fin 64) = true ∧ (flightsOf s_ScalarInstructionsAct_fence (63 : Fin 64)).isEmpty = true) ∧ goes (.fence (63 : Fin 64)) s_ScalarInstructionsAct_fence
      (fun t => decide (runsOn t (63 : Fin 64) (s_ScalarInstructionsAct_fence.fld (Reg.seqPc (63 : Fin 64)) + 1) ((s_ScalarInstructionsAct_fence.theCtx (63 : Fin 64))) = true) && decide (t.cue.ctrs = s_ScalarInstructionsAct_fence.cue.ctrs) && decide (t.ten = s_ScalarInstructionsAct_fence.ten) && decide (t.mem = s_ScalarInstructionsAct_fence.mem) && decide (t.swc = s_ScalarInstructionsAct_fence.swc) && decide (onlyRegs [(Reg.seqSt (63 : Fin 64)).off] s_ScalarInstructionsAct_fence t = true)) = true := by
  decide +kernel

def s_ScalarInstructionsAct_fence2 : State := ((runner 0x8000000000000000000000000000000 [(1, 5), (2, 9), (3, 0xFFFFFFFFFFFFFFFF), (4, 0x1000000000000100), (5, 64)] [])).modTen (fun t => { t with flights := [Flight.mk 7 63 0 0 [] [(0, 32)] [(32, 64)] none 0 true none] })

theorem test_ScalarInstructionsAct_fence2 :
    (0x8000000000000000000000000000000 = fetchWord s_ScalarInstructionsAct_fence2 (63 : Fin 64) ∧ issues s_ScalarInstructionsAct_fence2 (63 : Fin 64) = true ∧ Isa.opc 0x8000000000000000000000000000000 = 0x8 ∧ (flightsOf s_ScalarInstructionsAct_fence2 (63 : Fin 64)).isEmpty = false) ∧ goes (.fence (63 : Fin 64)) s_ScalarInstructionsAct_fence2
      (fun t => decide (t.fld (Reg.seqSt (63 : Fin 64)) = sqStalled) && decide (t.fld (Reg.seqPc (63 : Fin 64)) = s_ScalarInstructionsAct_fence2.fld (Reg.seqPc (63 : Fin 64))) && decide (t.cue.ctrs = s_ScalarInstructionsAct_fence2.cue.ctrs) && decide (t.ten = s_ScalarInstructionsAct_fence2.ten) && decide (t.mem = s_ScalarInstructionsAct_fence2.mem) && decide (t.swc = s_ScalarInstructionsAct_fence2.swc) && decide (onlyRegs [(Reg.seqSt (63 : Fin 64)).off, (Reg.seqPc (63 : Fin 64)).off] s_ScalarInstructionsAct_fence2 t = true)) = true := by
  decide +kernel

def s_ScalarInstructionsAct_trap : State := runner 0x900000000000000000000000000000f [(1, 5), (2, 9), (3, 0xFFFFFFFFFFFFFFFF), (4, 0x1000000000000100), (5, 64)] []

theorem test_ScalarInstructionsAct_trap :
    (0x900000000000000000000000000000f = fetchWord s_ScalarInstructionsAct_trap (63 : Fin 64) ∧ issues s_ScalarInstructionsAct_trap (63 : Fin 64) = true ∧ Isa.opc 0x900000000000000000000000000000f = 0x9 ∧ s_ScalarInstructionsAct_trap.fld (Reg.onFault (63 : Fin 64)) = 0) ∧ goes (.trap (63 : Fin 64)) s_ScalarInstructionsAct_trap
      (fun t => decide (t.fld (Reg.seqSt (63 : Fin 64)) = sqFaulted) && decide (t.fld (Reg.seqErr (63 : Fin 64)) = Err.trap (bitsOf 0x900000000000000000000000000000f 0 4)) && decide (t.fld (Reg.seqPc (63 : Fin 64)) = s_ScalarInstructionsAct_trap.fld (Reg.seqPc (63 : Fin 64))) && decide (t.fld Reg.seqFault = 1) && decide (t.cue.ctrs = s_ScalarInstructionsAct_trap.cue.ctrs) && decide (t.ten = s_ScalarInstructionsAct_trap.ten) && decide (t.mem = s_ScalarInstructionsAct_trap.mem) && decide (t.swc = s_ScalarInstructionsAct_trap.swc) && decide (onlyRegs [(Reg.seqSt (63 : Fin 64)).off, (Reg.seqErr (63 : Fin 64)).off, (Reg.seqPc (63 : Fin 64)).off, Reg.seqFault.off] s_ScalarInstructionsAct_trap t = true)) = true := by
  decide +kernel

def s_ScalarInstructionsAct_halt : State := runner 0xa000000000000000000000000000000 [(1, 5), (2, 9), (3, 0xFFFFFFFFFFFFFFFF), (4, 0x1000000000000100), (5, 64)] []

theorem test_ScalarInstructionsAct_halt :
    0xa000000000000000000000000000000 = fetchWord s_ScalarInstructionsAct_halt (63 : Fin 64) ∧ issues s_ScalarInstructionsAct_halt (63 : Fin 64) = true ∧ Isa.opc 0xa000000000000000000000000000000 = 0xa ∧ (flightsOf s_ScalarInstructionsAct_halt (63 : Fin 64)).isEmpty = true ∧ nextPending s_ScalarInstructionsAct_halt (63 : Fin 64) = none := by
  decide +kernel

def s_ScalarInstructionsAct_halt2 : State := ((runner 0xa000000000000000000000000000000 [(1, 5), (2, 9), (3, 0xFFFFFFFFFFFFFFFF), (4, 0x1000000000000100), (5, 64)] [])).modTen (fun t => { t with flights := [Flight.mk 7 63 0 0 [] [(0, 32)] [(32, 64)] none 0 true none] })

theorem test_ScalarInstructionsAct_halt2 :
    (0xa000000000000000000000000000000 = fetchWord s_ScalarInstructionsAct_halt2 (63 : Fin 64) ∧ issues s_ScalarInstructionsAct_halt2 (63 : Fin 64) = true ∧ Isa.opc 0xa000000000000000000000000000000 = 0xa ∧ (flightsOf s_ScalarInstructionsAct_halt2 (63 : Fin 64)).isEmpty = false) ∧ goes (.halt (63 : Fin 64)) s_ScalarInstructionsAct_halt2
      (fun t => decide (t.fld (Reg.seqSt (63 : Fin 64)) = sqStalled) && decide (t.fld (Reg.seqPc (63 : Fin 64)) = s_ScalarInstructionsAct_halt2.fld (Reg.seqPc (63 : Fin 64))) && decide (t.cue.ctrs = s_ScalarInstructionsAct_halt2.cue.ctrs) && decide (t.ten = s_ScalarInstructionsAct_halt2.ten) && decide (t.mem = s_ScalarInstructionsAct_halt2.mem) && decide (t.swc = s_ScalarInstructionsAct_halt2.swc) && decide (onlyRegs [(Reg.seqSt (63 : Fin 64)).off, (Reg.seqPc (63 : Fin 64)).off] s_ScalarInstructionsAct_halt2 t = true)) = true := by
  decide +kernel

/-! WaitsAndSignalsAct. -/

def s_WaitsAndSignalsAct_waitcSettled : State := ((runner 0x50003817fe000000000000000000000 [(1, 5), (2, 9), (3, 0xFFFFFFFFFFFFFFFF), (4, 0x1000000000000100), (5, 64)] [])).setCtr 1023 { Ctr.init with bound := true, target := 2, progress := 2, started := true }

theorem test_WaitsAndSignalsAct_waitcSettled :
    (0x50003817fe000000000000000000000 = fetchWord s_WaitsAndSignalsAct_waitcSettled (63 : Fin 64) ∧ issues s_WaitsAndSignalsAct_waitcSettled (63 : Fin 64) = true ∧ Isa.opc 0x50003817fe000000000000000000000 = 0x5 ∧ Isa.mode 0x50003817fe000000000000000000000 = 0 ∧ follows s_WaitsAndSignalsAct_waitcSettled (63 : Fin 64) = true ∧ Ctr.settled (s_WaitsAndSignalsAct_waitcSettled.ctr (Isa.ctr0 0x50003817fe000000000000000000000)) = true) ∧ goes (.waitcSettled (63 : Fin 64)) s_WaitsAndSignalsAct_waitcSettled
      (fun t => decide (runsOn t (63 : Fin 64) (s_WaitsAndSignalsAct_waitcSettled.fld (Reg.seqPc (63 : Fin 64)) + 1) (((s_WaitsAndSignalsAct_waitcSettled.theCtx (63 : Fin 64)).setS (Isa.rd0 0x50003817fe000000000000000000000) (Ctr.word (s_WaitsAndSignalsAct_waitcSettled.ctr (Isa.ctr0 0x50003817fe000000000000000000000))).toNat).setP (Isa.pd0 0x50003817fe000000000000000000000) true) = true) && decide (t.cue.ctrs = s_WaitsAndSignalsAct_waitcSettled.cue.ctrs) && decide (t.ten = s_WaitsAndSignalsAct_waitcSettled.ten) && decide (t.mem = s_WaitsAndSignalsAct_waitcSettled.mem) && decide (onlyRegs [(Reg.seqSt (63 : Fin 64)).off] s_WaitsAndSignalsAct_waitcSettled t = true)) = true := by
  decide +kernel

def s_WaitsAndSignalsAct_waitcSettled2 : State := runner 0x50003817fe000000000000000000064 [(1, 5), (2, 9), (3, 0xFFFFFFFFFFFFFFFF), (4, 0x1000000000000100), (5, 64)] []

theorem test_WaitsAndSignalsAct_waitcSettled2 :
    (0x50003817fe000000000000000000064 = fetchWord s_WaitsAndSignalsAct_waitcSettled2 (63 : Fin 64) ∧ issues s_WaitsAndSignalsAct_waitcSettled2 (63 : Fin 64) = true ∧ Isa.opc 0x50003817fe000000000000000000064 = 0x5 ∧ Isa.mode 0x50003817fe000000000000000000064 = 0 ∧ Ctr.settled (s_WaitsAndSignalsAct_waitcSettled2.ctr (Isa.ctr0 0x50003817fe000000000000000000064)) = false) ∧ goes (.waitcSettled (63 : Fin 64)) s_WaitsAndSignalsAct_waitcSettled2
      (fun t => decide (t.fld (Reg.seqSt (63 : Fin 64)) = sqWaiting) && decide (t.ctx (63 : Fin 64) = some { (s_WaitsAndSignalsAct_waitcSettled2.theCtx (63 : Fin 64)) with until_ := if bitsOf 0x50003817fe000000000000000000064 0 32 = 0 then 0 else s_WaitsAndSignalsAct_waitcSettled2.now + bitsOf 0x50003817fe000000000000000000064 0 32 }) && decide (t.fld (Reg.seqPc (63 : Fin 64)) = s_WaitsAndSignalsAct_waitcSettled2.fld (Reg.seqPc (63 : Fin 64))) && decide (t.cue.ctrs = s_WaitsAndSignalsAct_waitcSettled2.cue.ctrs) && decide (t.ten = s_WaitsAndSignalsAct_waitcSettled2.ten) && decide (t.mem = s_WaitsAndSignalsAct_waitcSettled2.mem) && decide (t.swc = s_WaitsAndSignalsAct_waitcSettled2.swc) && decide (onlyRegs [(Reg.seqSt (63 : Fin 64)).off, (Reg.seqPc (63 : Fin 64)).off] s_WaitsAndSignalsAct_waitcSettled2 t = true)) = true := by
  decide +kernel

def s_WaitsAndSignalsAct_waitcProgress : State := ((runner 0x50013857fe000000000000000000000 [(1, 5), (2, 9), (3, 0xFFFFFFFFFFFFFFFF), (4, 0x1000000000000100), (5, 64)] [])).setCtr 1023 { Ctr.init with bound := true, target := 2, progress := 2, started := true }

theorem test_WaitsAndSignalsAct_waitcProgress :
    (0x50013857fe000000000000000000000 = fetchWord s_WaitsAndSignalsAct_waitcProgress (63 : Fin 64) ∧ issues s_WaitsAndSignalsAct_waitcProgress (63 : Fin 64) = true ∧ Isa.opc 0x50013857fe000000000000000000000 = 0x5 ∧ Isa.mode 0x50013857fe000000000000000000000 = 1 ∧ follows s_WaitsAndSignalsAct_waitcProgress (63 : Fin 64) = true ∧ (Ctr.settled (s_WaitsAndSignalsAct_waitcProgress.ctr (Isa.ctr0 0x50013857fe000000000000000000000)) = true ∨ (s_WaitsAndSignalsAct_waitcProgress.theCtx (63 : Fin 64)).sreg (Isa.ra0 0x50013857fe000000000000000000000) ≤ (s_WaitsAndSignalsAct_waitcProgress.ctr (Isa.ctr0 0x50013857fe000000000000000000000)).progress % 2 ^ 32)) ∧ goes (.waitcProgress (63 : Fin 64)) s_WaitsAndSignalsAct_waitcProgress
      (fun t => decide (runsOn t (63 : Fin 64) (s_WaitsAndSignalsAct_waitcProgress.fld (Reg.seqPc (63 : Fin 64)) + 1) (((s_WaitsAndSignalsAct_waitcProgress.theCtx (63 : Fin 64)).setS (Isa.rd0 0x50013857fe000000000000000000000) (Ctr.word (s_WaitsAndSignalsAct_waitcProgress.ctr (Isa.ctr0 0x50013857fe000000000000000000000))).toNat).setP (Isa.pd0 0x50013857fe000000000000000000000) true) = true) && decide (t.cue.ctrs = s_WaitsAndSignalsAct_waitcProgress.cue.ctrs) && decide (t.ten = s_WaitsAndSignalsAct_waitcProgress.ten) && decide (t.mem = s_WaitsAndSignalsAct_waitcProgress.mem) && decide (onlyRegs [(Reg.seqSt (63 : Fin 64)).off] s_WaitsAndSignalsAct_waitcProgress t = true)) = true := by
  decide +kernel

def s_WaitsAndSignalsAct_waitcProgress2 : State := runner 0x50013857fe000000000000000000064 [(1, 5), (2, 9), (3, 0xFFFFFFFFFFFFFFFF), (4, 0x1000000000000100), (5, 64)] []

theorem test_WaitsAndSignalsAct_waitcProgress2 :
    (0x50013857fe000000000000000000064 = fetchWord s_WaitsAndSignalsAct_waitcProgress2 (63 : Fin 64) ∧ issues s_WaitsAndSignalsAct_waitcProgress2 (63 : Fin 64) = true ∧ Isa.opc 0x50013857fe000000000000000000064 = 0x5 ∧ Isa.mode 0x50013857fe000000000000000000064 = 1 ∧ Ctr.settled (s_WaitsAndSignalsAct_waitcProgress2.ctr (Isa.ctr0 0x50013857fe000000000000000000064)) = false ∧ (s_WaitsAndSignalsAct_waitcProgress2.ctr (Isa.ctr0 0x50013857fe000000000000000000064)).progress % 2 ^ 32 < (s_WaitsAndSignalsAct_waitcProgress2.theCtx (63 : Fin 64)).sreg (Isa.ra0 0x50013857fe000000000000000000064)) ∧ goes (.waitcProgress (63 : Fin 64)) s_WaitsAndSignalsAct_waitcProgress2
      (fun t => decide (t.fld (Reg.seqSt (63 : Fin 64)) = sqWaiting) && decide (t.ctx (63 : Fin 64) = some { (s_WaitsAndSignalsAct_waitcProgress2.theCtx (63 : Fin 64)) with until_ := if bitsOf 0x50013857fe000000000000000000064 0 32 = 0 then 0 else s_WaitsAndSignalsAct_waitcProgress2.now + bitsOf 0x50013857fe000000000000000000064 0 32 }) && decide (t.fld (Reg.seqPc (63 : Fin 64)) = s_WaitsAndSignalsAct_waitcProgress2.fld (Reg.seqPc (63 : Fin 64))) && decide (t.cue.ctrs = s_WaitsAndSignalsAct_waitcProgress2.cue.ctrs) && decide (t.ten = s_WaitsAndSignalsAct_waitcProgress2.ten) && decide (t.mem = s_WaitsAndSignalsAct_waitcProgress2.mem) && decide (t.swc = s_WaitsAndSignalsAct_waitcProgress2.swc) && decide (onlyRegs [(Reg.seqSt (63 : Fin 64)).off, (Reg.seqPc (63 : Fin 64)).off] s_WaitsAndSignalsAct_waitcProgress2 t = true)) = true := by
  decide +kernel

def s_WaitsAndSignalsAct_waitcSettledClear : State := ((runner 0x50023817fe000000000000000000000 [(1, 5), (2, 9), (3, 0xFFFFFFFFFFFFFFFF), (4, 0x1000000000000100), (5, 64)] [])).setCtr 1023 { Ctr.init with bound := true, target := 2, progress := 2, started := true }

theorem test_WaitsAndSignalsAct_waitcSettledClear :
    (0x50023817fe000000000000000000000 = fetchWord s_WaitsAndSignalsAct_waitcSettledClear (63 : Fin 64) ∧ issues s_WaitsAndSignalsAct_waitcSettledClear (63 : Fin 64) = true ∧ Isa.opc 0x50023817fe000000000000000000000 = 0x5 ∧ Isa.mode 0x50023817fe000000000000000000000 = 2 ∧ follows s_WaitsAndSignalsAct_waitcSettledClear (63 : Fin 64) = true ∧ Ctr.settled (s_WaitsAndSignalsAct_waitcSettledClear.ctr (Isa.ctr0 0x50023817fe000000000000000000000)) = true) ∧ goes (.waitcSettledClear (63 : Fin 64)) s_WaitsAndSignalsAct_waitcSettledClear
      (fun t => decide (runsOn t (63 : Fin 64) (s_WaitsAndSignalsAct_waitcSettledClear.fld (Reg.seqPc (63 : Fin 64)) + 1) (((s_WaitsAndSignalsAct_waitcSettledClear.theCtx (63 : Fin 64)).setS (Isa.rd0 0x50023817fe000000000000000000000) (Ctr.word (s_WaitsAndSignalsAct_waitcSettledClear.ctr (Isa.ctr0 0x50023817fe000000000000000000000))).toNat).setP (Isa.pd0 0x50023817fe000000000000000000000) true) = true) && decide (t.ctr (Isa.ctr0 0x50023817fe000000000000000000000) = Ctr.init) && decide (t.ten = s_WaitsAndSignalsAct_waitcSettledClear.ten) && decide (t.mem = s_WaitsAndSignalsAct_waitcSettledClear.mem) && decide (onlyRegs [(Reg.seqSt (63 : Fin 64)).off] s_WaitsAndSignalsAct_waitcSettledClear t = true)) = true := by
  decide +kernel

def s_WaitsAndSignalsAct_waitcSettledClear2 : State := runner 0x50023817fe000000000000000000064 [(1, 5), (2, 9), (3, 0xFFFFFFFFFFFFFFFF), (4, 0x1000000000000100), (5, 64)] []

theorem test_WaitsAndSignalsAct_waitcSettledClear2 :
    (0x50023817fe000000000000000000064 = fetchWord s_WaitsAndSignalsAct_waitcSettledClear2 (63 : Fin 64) ∧ issues s_WaitsAndSignalsAct_waitcSettledClear2 (63 : Fin 64) = true ∧ Isa.opc 0x50023817fe000000000000000000064 = 0x5 ∧ Isa.mode 0x50023817fe000000000000000000064 = 2 ∧ Ctr.settled (s_WaitsAndSignalsAct_waitcSettledClear2.ctr (Isa.ctr0 0x50023817fe000000000000000000064)) = false) ∧ goes (.waitcSettledClear (63 : Fin 64)) s_WaitsAndSignalsAct_waitcSettledClear2
      (fun t => decide (t.fld (Reg.seqSt (63 : Fin 64)) = sqWaiting) && decide (t.ctx (63 : Fin 64) = some { (s_WaitsAndSignalsAct_waitcSettledClear2.theCtx (63 : Fin 64)) with until_ := if bitsOf 0x50023817fe000000000000000000064 0 32 = 0 then 0 else s_WaitsAndSignalsAct_waitcSettledClear2.now + bitsOf 0x50023817fe000000000000000000064 0 32 }) && decide (t.fld (Reg.seqPc (63 : Fin 64)) = s_WaitsAndSignalsAct_waitcSettledClear2.fld (Reg.seqPc (63 : Fin 64))) && decide (t.cue.ctrs = s_WaitsAndSignalsAct_waitcSettledClear2.cue.ctrs) && decide (t.ten = s_WaitsAndSignalsAct_waitcSettledClear2.ten) && decide (t.mem = s_WaitsAndSignalsAct_waitcSettledClear2.mem) && decide (t.swc = s_WaitsAndSignalsAct_waitcSettledClear2.swc) && decide (onlyRegs [(Reg.seqSt (63 : Fin 64)).off, (Reg.seqPc (63 : Fin 64)).off] s_WaitsAndSignalsAct_waitcSettledClear2 t = true)) = true := by
  decide +kernel

def s_WaitsAndSignalsAct_waitcTimeout : State := (((runner 0x50003817fe000000000000000000001 [(1, 5), (2, 9), (3, 0xFFFFFFFFFFFFFFFF), (4, 0x1000000000000100), (5, 64)] []).setFld (Reg.seqSt 63) 2).modCtx 63 (fun c => { c with until_ := 1 })).setFld Reg.time 2

theorem test_WaitsAndSignalsAct_waitcTimeout :
    (0x50003817fe000000000000000000001 = fetchWord s_WaitsAndSignalsAct_waitcTimeout (63 : Fin 64) ∧ linksLive s_WaitsAndSignalsAct_waitcTimeout = true ∧ seqReady s_WaitsAndSignalsAct_waitcTimeout (63 : Fin 64) = true ∧ s_WaitsAndSignalsAct_waitcTimeout.fld (Reg.seqSt (63 : Fin 64)) = sqWaiting ∧ Isa.legal 0x50003817fe000000000000000000001 = true ∧ Isa.opc 0x50003817fe000000000000000000001 = 5 ∧ waitMet s_WaitsAndSignalsAct_waitcTimeout (63 : Fin 64) 0x50003817fe000000000000000000001 = false ∧ timedOut s_WaitsAndSignalsAct_waitcTimeout (63 : Fin 64) = true ∧ follows s_WaitsAndSignalsAct_waitcTimeout (63 : Fin 64) = true) ∧ goes (.waitcTimeout (63 : Fin 64)) s_WaitsAndSignalsAct_waitcTimeout
      (fun t => decide (runsOn t (63 : Fin 64) (s_WaitsAndSignalsAct_waitcTimeout.fld (Reg.seqPc (63 : Fin 64)) + 1) (((s_WaitsAndSignalsAct_waitcTimeout.theCtx (63 : Fin 64)).setS (Isa.rd0 0x50003817fe000000000000000000001) (Ctr.word (s_WaitsAndSignalsAct_waitcTimeout.ctr (Isa.ctr0 0x50003817fe000000000000000000001))).toNat).setP (Isa.pd0 0x50003817fe000000000000000000001) false) = true) && decide (t.cue.ctrs = s_WaitsAndSignalsAct_waitcTimeout.cue.ctrs) && decide (t.ten = s_WaitsAndSignalsAct_waitcTimeout.ten) && decide (t.mem = s_WaitsAndSignalsAct_waitcTimeout.mem) && decide (t.swc = s_WaitsAndSignalsAct_waitcTimeout.swc) && decide (onlyRegs [(Reg.seqSt (63 : Fin 64)).off] s_WaitsAndSignalsAct_waitcTimeout t = true)) = true := by
  decide +kernel

def s_WaitsAndSignalsAct_sigc : State := runner 0x60000007fe000000000000000000000 [(1, 5), (2, 9), (3, 0xFFFFFFFFFFFFFFFF), (4, 0x1000000000000100), (5, 64)] []

theorem test_WaitsAndSignalsAct_sigc :
    (0x60000007fe000000000000000000000 = fetchWord s_WaitsAndSignalsAct_sigc (63 : Fin 64) ∧ issues s_WaitsAndSignalsAct_sigc (63 : Fin 64) = true ∧ Isa.opc 0x60000007fe000000000000000000000 = 0x6 ∧ follows s_WaitsAndSignalsAct_sigc (63 : Fin 64) = true ∧ inFlight s_WaitsAndSignalsAct_sigc < 4096 ∧ Ctr.binds (s_WaitsAndSignalsAct_sigc.ctr (Isa.ctr0 0x60000007fe000000000000000000000)) = true ∧ flightsOf s_WaitsAndSignalsAct_sigc (63 : Fin 64) = []) ∧ goes (.sigc (63 : Fin 64)) s_WaitsAndSignalsAct_sigc
      (fun t => decide (runsOn t (63 : Fin 64) (s_WaitsAndSignalsAct_sigc.fld (Reg.seqPc (63 : Fin 64)) + 1) ((s_WaitsAndSignalsAct_sigc.theCtx (63 : Fin 64))) = true) && decide (t.ctr (Isa.ctr0 0x60000007fe000000000000000000000) = Ctr.finish (Ctr.land false (Ctr.bind 1 (s_WaitsAndSignalsAct_sigc.ctr (Isa.ctr0 0x60000007fe000000000000000000000))))) && decide (t.ten = s_WaitsAndSignalsAct_sigc.ten) && decide (t.mem = s_WaitsAndSignalsAct_sigc.mem) && decide (onlyRegs [(Reg.seqSt (63 : Fin 64)).off] s_WaitsAndSignalsAct_sigc t = true)) = true := by
  decide +kernel

def s_WaitsAndSignalsAct_sigc2 : State := ((runner 0x60000007fe000000000000000000000 [(1, 5), (2, 9), (3, 0xFFFFFFFFFFFFFFFF), (4, 0x1000000000000100), (5, 64)] [])).modTen (fun t => { t with flights := [Flight.mk 7 63 0 0 [] [(0, 32)] [(32, 64)] none 0 true none] })

theorem test_WaitsAndSignalsAct_sigc2 :
    (0x60000007fe000000000000000000000 = fetchWord s_WaitsAndSignalsAct_sigc2 (63 : Fin 64) ∧ issues s_WaitsAndSignalsAct_sigc2 (63 : Fin 64) = true ∧ Isa.opc 0x60000007fe000000000000000000000 = 0x6 ∧ follows s_WaitsAndSignalsAct_sigc2 (63 : Fin 64) = true ∧ inFlight s_WaitsAndSignalsAct_sigc2 < 4096 ∧ Ctr.binds (s_WaitsAndSignalsAct_sigc2.ctr (Isa.ctr0 0x60000007fe000000000000000000000)) = true ∧ flightsOf s_WaitsAndSignalsAct_sigc2 (63 : Fin 64) ≠ []) ∧ goes (.sigc (63 : Fin 64)) s_WaitsAndSignalsAct_sigc2
      (fun t => decide (runsOn t (63 : Fin 64) (s_WaitsAndSignalsAct_sigc2.fld (Reg.seqPc (63 : Fin 64)) + 1) ((s_WaitsAndSignalsAct_sigc2.theCtx (63 : Fin 64))) = true) && decide (t.ctr (Isa.ctr0 0x60000007fe000000000000000000000) = Ctr.bind 1 (s_WaitsAndSignalsAct_sigc2.ctr (Isa.ctr0 0x60000007fe000000000000000000000))) && decide (t.cue.sigs.length = s_WaitsAndSignalsAct_sigc2.cue.sigs.length + 1) && decide (t.ten = s_WaitsAndSignalsAct_sigc2.ten) && decide (t.mem = s_WaitsAndSignalsAct_sigc2.mem) && decide (onlyRegs [(Reg.seqSt (63 : Fin 64)).off] s_WaitsAndSignalsAct_sigc2 t = true)) = true := by
  decide +kernel

def s_WaitsAndSignalsAct_dozeSelf : State := runner 0x7000004000000000000000000000000 [(1, 5), (2, 9), (3, 0xFFFFFFFFFFFFFFFF), (4, 0x1000000000000100), (5, 64)] []

theorem test_WaitsAndSignalsAct_dozeSelf :
    (0x7000004000000000000000000000000 = fetchWord s_WaitsAndSignalsAct_dozeSelf (63 : Fin 64) ∧ issues s_WaitsAndSignalsAct_dozeSelf (63 : Fin 64) = true ∧ Isa.opc 0x7000004000000000000000000000000 = 0x7 ∧ Isa.mode 0x7000004000000000000000000000000 = 0 ∧ s_WaitsAndSignalsAct_dozeSelf.now < (s_WaitsAndSignalsAct_dozeSelf.theCtx (63 : Fin 64)).sreg (Isa.ra0 0x7000004000000000000000000000000)) ∧ goes (.dozeSelf (63 : Fin 64)) s_WaitsAndSignalsAct_dozeSelf
      (fun t => decide (t.fld (Reg.seqSt (63 : Fin 64)) = sqDozing) && decide (t.fld (Reg.seqState (63 : Fin 64)) = 1) && decide (t.ctx (63 : Fin 64) = some { (s_WaitsAndSignalsAct_dozeSelf.theCtx (63 : Fin 64)) with until_ := (s_WaitsAndSignalsAct_dozeSelf.theCtx (63 : Fin 64)).sreg (Isa.ra0 0x7000004000000000000000000000000) }) && decide (t.cue.ctrs = s_WaitsAndSignalsAct_dozeSelf.cue.ctrs) && decide (t.ten = s_WaitsAndSignalsAct_dozeSelf.ten) && decide (t.mem = s_WaitsAndSignalsAct_dozeSelf.mem) && decide (onlyRegs [(Reg.seqSt (63 : Fin 64)).off, (Reg.seqState (63 : Fin 64)).off] s_WaitsAndSignalsAct_dozeSelf t = true)) = true := by
  decide +kernel

def s_WaitsAndSignalsAct_dozeSelf2 : State := runner 0x7000000000000000000000000000000 [(1, 5), (2, 9), (3, 0xFFFFFFFFFFFFFFFF), (4, 0x1000000000000100), (5, 64)] []

theorem test_WaitsAndSignalsAct_dozeSelf2 :
    (0x7000000000000000000000000000000 = fetchWord s_WaitsAndSignalsAct_dozeSelf2 (63 : Fin 64) ∧ issues s_WaitsAndSignalsAct_dozeSelf2 (63 : Fin 64) = true ∧ Isa.opc 0x7000000000000000000000000000000 = 0x7 ∧ Isa.mode 0x7000000000000000000000000000000 = 0 ∧ follows s_WaitsAndSignalsAct_dozeSelf2 (63 : Fin 64) = true ∧ (s_WaitsAndSignalsAct_dozeSelf2.theCtx (63 : Fin 64)).sreg (Isa.ra0 0x7000000000000000000000000000000) ≤ s_WaitsAndSignalsAct_dozeSelf2.now) ∧ goes (.dozeSelf (63 : Fin 64)) s_WaitsAndSignalsAct_dozeSelf2
      (fun t => decide (runsOn t (63 : Fin 64) (s_WaitsAndSignalsAct_dozeSelf2.fld (Reg.seqPc (63 : Fin 64)) + 1) ((s_WaitsAndSignalsAct_dozeSelf2.theCtx (63 : Fin 64))) = true) && decide (t.cue.ctrs = s_WaitsAndSignalsAct_dozeSelf2.cue.ctrs) && decide (t.ten = s_WaitsAndSignalsAct_dozeSelf2.ten) && decide (t.mem = s_WaitsAndSignalsAct_dozeSelf2.mem) && decide (t.swc = s_WaitsAndSignalsAct_dozeSelf2.swc) && decide (onlyRegs [(Reg.seqSt (63 : Fin 64)).off] s_WaitsAndSignalsAct_dozeSelf2 t = true)) = true := by
  decide +kernel

def s_WaitsAndSignalsAct_dozeSelfCtr : State := runner 0x70010047fe000000000000000000000 [(1, 5), (2, 9), (3, 0xFFFFFFFFFFFFFFFF), (4, 0x1000000000000100), (5, 64)] []

theorem test_WaitsAndSignalsAct_dozeSelfCtr :
    (0x70010047fe000000000000000000000 = fetchWord s_WaitsAndSignalsAct_dozeSelfCtr (63 : Fin 64) ∧ issues s_WaitsAndSignalsAct_dozeSelfCtr (63 : Fin 64) = true ∧ Isa.opc 0x70010047fe000000000000000000000 = 0x7 ∧ Isa.mode 0x70010047fe000000000000000000000 = 1 ∧ s_WaitsAndSignalsAct_dozeSelfCtr.now < (s_WaitsAndSignalsAct_dozeSelfCtr.theCtx (63 : Fin 64)).sreg (Isa.ra0 0x70010047fe000000000000000000000) ∧ Ctr.settled (s_WaitsAndSignalsAct_dozeSelfCtr.ctr (Isa.ctr0 0x70010047fe000000000000000000000)) = false) ∧ goes (.dozeSelfCtr (63 : Fin 64)) s_WaitsAndSignalsAct_dozeSelfCtr
      (fun t => decide (t.fld (Reg.seqSt (63 : Fin 64)) = sqDozing) && decide (t.fld (Reg.seqState (63 : Fin 64)) = 1) && decide (t.ctx (63 : Fin 64) = some { (s_WaitsAndSignalsAct_dozeSelfCtr.theCtx (63 : Fin 64)) with until_ := (s_WaitsAndSignalsAct_dozeSelfCtr.theCtx (63 : Fin 64)).sreg (Isa.ra0 0x70010047fe000000000000000000000) }) && decide (t.cue.ctrs = s_WaitsAndSignalsAct_dozeSelfCtr.cue.ctrs) && decide (t.ten = s_WaitsAndSignalsAct_dozeSelfCtr.ten) && decide (t.mem = s_WaitsAndSignalsAct_dozeSelfCtr.mem) && decide (onlyRegs [(Reg.seqSt (63 : Fin 64)).off, (Reg.seqState (63 : Fin 64)).off] s_WaitsAndSignalsAct_dozeSelfCtr t = true)) = true := by
  decide +kernel

def s_WaitsAndSignalsAct_dozeSelfCtr2 : State := runner 0x70010007fe000000000000000000000 [(1, 5), (2, 9), (3, 0xFFFFFFFFFFFFFFFF), (4, 0x1000000000000100), (5, 64)] []

theorem test_WaitsAndSignalsAct_dozeSelfCtr2 :
    (0x70010007fe000000000000000000000 = fetchWord s_WaitsAndSignalsAct_dozeSelfCtr2 (63 : Fin 64) ∧ issues s_WaitsAndSignalsAct_dozeSelfCtr2 (63 : Fin 64) = true ∧ Isa.opc 0x70010007fe000000000000000000000 = 0x7 ∧ Isa.mode 0x70010007fe000000000000000000000 = 1 ∧ follows s_WaitsAndSignalsAct_dozeSelfCtr2 (63 : Fin 64) = true ∧ ((s_WaitsAndSignalsAct_dozeSelfCtr2.theCtx (63 : Fin 64)).sreg (Isa.ra0 0x70010007fe000000000000000000000) ≤ s_WaitsAndSignalsAct_dozeSelfCtr2.now ∨ Ctr.settled (s_WaitsAndSignalsAct_dozeSelfCtr2.ctr (Isa.ctr0 0x70010007fe000000000000000000000)) = true)) ∧ goes (.dozeSelfCtr (63 : Fin 64)) s_WaitsAndSignalsAct_dozeSelfCtr2
      (fun t => decide (runsOn t (63 : Fin 64) (s_WaitsAndSignalsAct_dozeSelfCtr2.fld (Reg.seqPc (63 : Fin 64)) + 1) ((s_WaitsAndSignalsAct_dozeSelfCtr2.theCtx (63 : Fin 64))) = true) && decide (t.cue.ctrs = s_WaitsAndSignalsAct_dozeSelfCtr2.cue.ctrs) && decide (t.ten = s_WaitsAndSignalsAct_dozeSelfCtr2.ten) && decide (t.mem = s_WaitsAndSignalsAct_dozeSelfCtr2.mem) && decide (t.swc = s_WaitsAndSignalsAct_dozeSelfCtr2.swc) && decide (onlyRegs [(Reg.seqSt (63 : Fin 64)).off] s_WaitsAndSignalsAct_dozeSelfCtr2 t = true)) = true := by
  decide +kernel

def s_WaitsAndSignalsAct_dozeWake : State := ((((runner 0x7000004000000000000000000000000 [(1, 5), (2, 9), (3, 0xFFFFFFFFFFFFFFFF), (4, 0x1000000000000100), (5, 64)] []).setFld (Reg.seqSt 63) 3).modCtx 63 (fun c => { c with until_ := 1 })).setFld Reg.time 2).setFld (Reg.seqState 63) 1

theorem test_WaitsAndSignalsAct_dozeWake :
    (linksLive s_WaitsAndSignalsAct_dozeWake = true ∧ dozeOver s_WaitsAndSignalsAct_dozeWake (63 : Fin 64) = true ∧ follows s_WaitsAndSignalsAct_dozeWake (63 : Fin 64) = true) ∧ goes (.dozeWake (63 : Fin 64)) s_WaitsAndSignalsAct_dozeWake
      (fun t => decide (runsOn t (63 : Fin 64) (s_WaitsAndSignalsAct_dozeWake.fld (Reg.seqPc (63 : Fin 64)) + 1) ((s_WaitsAndSignalsAct_dozeWake.theCtx (63 : Fin 64))) = true) && decide (t.fld (Reg.seqState (63 : Fin 64)) = 0) && decide (t.cue.ctrs = s_WaitsAndSignalsAct_dozeWake.cue.ctrs) && decide (t.ten = s_WaitsAndSignalsAct_dozeWake.ten) && decide (t.mem = s_WaitsAndSignalsAct_dozeWake.mem) && decide (t.swc = s_WaitsAndSignalsAct_dozeWake.swc) && decide (onlyRegs [(Reg.seqState (63 : Fin 64)).off, (Reg.seqSt (63 : Fin 64)).off] s_WaitsAndSignalsAct_dozeWake t = true)) = true := by
  decide +kernel

def s_WaitsAndSignalsAct_dozeTiles : State := runner 0x7002000000000000000000000010100 [(1, 5), (2, 9), (3, 0xFFFFFFFFFFFFFFFF), (4, 0x1000000000000100), (5, 64)] []

theorem test_WaitsAndSignalsAct_dozeTiles :
    0x7002000000000000000000000010100 = fetchWord s_WaitsAndSignalsAct_dozeTiles (63 : Fin 64) ∧ issues s_WaitsAndSignalsAct_dozeTiles (63 : Fin 64) = true ∧ Isa.opc 0x7002000000000000000000000010100 = 0x7 ∧ Isa.mode 0x7002000000000000000000000010100 = 2 ∧ follows s_WaitsAndSignalsAct_dozeTiles (63 : Fin 64) = true ∧ bitsOf 0x7002000000000000000000000010100 0 8 ≤ (0) ∧ (0) < bitsOf 0x7002000000000000000000000010100 0 8 + bitsOf 0x7002000000000000000000000010100 8 8 ∧ bitsOf 0x7002000000000000000000000010100 0 8 + bitsOf 0x7002000000000000000000000010100 8 8 ≤ 232 ∧ 0x7002000000000000000000000010100.testBit 16 = true ∧ s_WaitsAndSignalsAct_dozeTiles.fld (Reg.tmap (0)) = (0 : Fin 240).val ∧ unitState s_WaitsAndSignalsAct_dozeTiles (.tile (0 : Fin 240)) = 0 ∧ heldAwake s_WaitsAndSignalsAct_dozeTiles (.tile (0 : Fin 240)) = false ∧ unitBusy s_WaitsAndSignalsAct_dozeTiles (.tile (0 : Fin 240)) = false := by
  decide +kernel

def s_WaitsAndSignalsAct_dozeEngines : State := runner 0x7003000000000000000000000008000 [(1, 5), (2, 9), (3, 0xFFFFFFFFFFFFFFFF), (4, 0x1000000000000100), (5, 64)] []

theorem test_WaitsAndSignalsAct_dozeEngines :
    0x7003000000000000000000000008000 = fetchWord s_WaitsAndSignalsAct_dozeEngines (63 : Fin 64) ∧ issues s_WaitsAndSignalsAct_dozeEngines (63 : Fin 64) = true ∧ Isa.opc 0x7003000000000000000000000008000 = 0x7 ∧ Isa.mode 0x7003000000000000000000000008000 = 3 ∧ follows s_WaitsAndSignalsAct_dozeEngines (63 : Fin 64) = true ∧ 0x7003000000000000000000000008000.testBit (15 : Fin 16).val = true ∧ 0x7003000000000000000000000008000.testBit 16 = false ∧ unitState s_WaitsAndSignalsAct_dozeEngines (.eng (15 : Fin 16)) = 0 ∧ unitBusy s_WaitsAndSignalsAct_dozeEngines (.eng (15 : Fin 16)) = false := by
  decide +kernel

/-! MemoryInstructionsAct. -/

def s_MemoryInstructionsAct_lds : State := runner 0x40020390000000000000000000000008 [(1, 5), (2, 9), (3, 0xFFFFFFFFFFFFFFFF), (4, 0x1000000000000100), (5, 64)] []

theorem test_MemoryInstructionsAct_lds :
    (0x40020390000000000000000000000008 = fetchWord s_MemoryInstructionsAct_lds (63 : Fin 64) ∧ issues s_MemoryInstructionsAct_lds (63 : Fin 64) = true ∧ Isa.opc 0x40020390000000000000000000000008 = 0x40 ∧ follows s_MemoryInstructionsAct_lds (63 : Fin 64) = true ∧ 0x108 = effAddr s_MemoryInstructionsAct_lds (63 : Fin 64) 0x40020390000000000000000000000008 % 2 ^ 45 ∧ addrOk s_MemoryInstructionsAct_lds (effAddr s_MemoryInstructionsAct_lds (63 : Fin 64) 0x40020390000000000000000000000008) = true ∧ effAddr s_MemoryInstructionsAct_lds (63 : Fin 64) 0x40020390000000000000000000000008 / 2 ^ 60 = 1 ∧ ownSpan s_MemoryInstructionsAct_lds (63 : Fin 64) 0x108 8 = true ∧ spanAwake s_MemoryInstructionsAct_lds 0x108 8 = true ∧ firstBadWord s_MemoryInstructionsAct_lds 0x108 8 = none ∧ flightWrites s_MemoryInstructionsAct_lds (63 : Fin 64) (0x108, 0x108 + 8) = false) ∧ goes (.lds (63 : Fin 64)) s_MemoryInstructionsAct_lds
      (fun t => decide (runsOn t (63 : Fin 64) (s_MemoryInstructionsAct_lds.fld (Reg.seqPc (63 : Fin 64)) + 1) ((s_MemoryInstructionsAct_lds.theCtx (63 : Fin 64)).setS (Isa.rd2 0x40020390000000000000000000000008) (leNat (spRead (veiled none s_MemoryInstructionsAct_lds) 0x108 8))) = true) && decide (t.cue.ctrs = s_MemoryInstructionsAct_lds.cue.ctrs) && decide (t.ten = s_MemoryInstructionsAct_lds.ten) && decide (t.mem = s_MemoryInstructionsAct_lds.mem) && decide (t.swc = s_MemoryInstructionsAct_lds.swc)) = true := by
  decide +kernel

def s_MemoryInstructionsAct_lds2 : State := runner 0x40020380000000002000000000001ff8 [(1, 5), (2, 9), (3, 0xFFFFFFFFFFFFFFFF), (4, 0x1000000000000100), (5, 64)] []

theorem test_MemoryInstructionsAct_lds2 :
    (0x40020380000000002000000000001ff8 = fetchWord s_MemoryInstructionsAct_lds2 (63 : Fin 64) ∧ issues s_MemoryInstructionsAct_lds2 (63 : Fin 64) = true ∧ Isa.opc 0x40020380000000002000000000001ff8 = 0x40 ∧ follows s_MemoryInstructionsAct_lds2 (63 : Fin 64) = true ∧ 0x1ff8 = effAddr s_MemoryInstructionsAct_lds2 (63 : Fin 64) 0x40020380000000002000000000001ff8 % 2 ^ 45 ∧ addrOk s_MemoryInstructionsAct_lds2 (effAddr s_MemoryInstructionsAct_lds2 (63 : Fin 64) 0x40020380000000002000000000001ff8) = true ∧ effAddr s_MemoryInstructionsAct_lds2 (63 : Fin 64) 0x40020380000000002000000000001ff8 / 2 ^ 60 = 2 ∧ 0x1ff8 + 8 ≤ 0x10000) ∧ goes (.lds (63 : Fin 64)) s_MemoryInstructionsAct_lds2
      (fun t => decide (runsOn t (63 : Fin 64) (s_MemoryInstructionsAct_lds2.fld (Reg.seqPc (63 : Fin 64)) + 1) ((s_MemoryInstructionsAct_lds2.theCtx (63 : Fin 64)).setS (Isa.rd2 0x40020380000000002000000000001ff8) (leNat (statusBytes s_MemoryInstructionsAct_lds2 0x1ff8 8))) = true) && decide (t.cue.ctrs = s_MemoryInstructionsAct_lds2.cue.ctrs) && decide (t.ten = s_MemoryInstructionsAct_lds2.ten) && decide (t.mem = s_MemoryInstructionsAct_lds2.mem) && decide (t.swc = s_MemoryInstructionsAct_lds2.swc) && decide (onlyRegs [(Reg.seqSt (63 : Fin 64)).off] s_MemoryInstructionsAct_lds2 t = true)) = true := by
  decide +kernel

def s_MemoryInstructionsAct_sts : State := runner 0x41020010600000000000000000000000 [(1, 5), (2, 9), (3, 0xFFFFFFFFFFFFFFFF), (4, 0x1000000000000100), (5, 64)] []

theorem test_MemoryInstructionsAct_sts :
    0x41020010600000000000000000000000 = fetchWord s_MemoryInstructionsAct_sts (63 : Fin 64) ∧ issues s_MemoryInstructionsAct_sts (63 : Fin 64) = true ∧ Isa.opc 0x41020010600000000000000000000000 = 0x41 ∧ follows s_MemoryInstructionsAct_sts (63 : Fin 64) = true ∧ 0x100 = effAddr s_MemoryInstructionsAct_sts (63 : Fin 64) 0x41020010600000000000000000000000 % 2 ^ 45 ∧ addrOk s_MemoryInstructionsAct_sts (effAddr s_MemoryInstructionsAct_sts (63 : Fin 64) 0x41020010600000000000000000000000) = true ∧ effAddr s_MemoryInstructionsAct_sts (63 : Fin 64) 0x41020010600000000000000000000000 / 2 ^ 60 = 1 ∧ ownSpan s_MemoryInstructionsAct_sts (63 : Fin 64) 0x100 8 = true ∧ spanAwake s_MemoryInstructionsAct_sts 0x100 8 = true ∧ firstBadWord s_MemoryInstructionsAct_sts 0x100 8 = none ∧ flightTouches s_MemoryInstructionsAct_sts (63 : Fin 64) (0x100, 0x100 + 8) = false := by
  decide +kernel

def s_MemoryInstructionsAct_dset : State := runner 0x4202b0001e02000000000000000000ff [(1, 5), (2, 9), (3, 0xFFFFFFFFFFFFFFFF), (4, 0x1000000000000100), (5, 64)] []

theorem test_MemoryInstructionsAct_dset :
    (0x4202b0001e02000000000000000000ff = fetchWord s_MemoryInstructionsAct_dset (63 : Fin 64) ∧ issues s_MemoryInstructionsAct_dset (63 : Fin 64) = true ∧ Isa.opc 0x4202b0001e02000000000000000000ff = 0x42 ∧ follows s_MemoryInstructionsAct_dset (63 : Fin 64) = true ∧ (255) = fieldValue (s_MemoryInstructionsAct_dset.theCtx (63 : Fin 64)) 0x4202b0001e02000000000000000000ff ∧ Isa.sel 0x4202b0001e02000000000000000000ff ≠ 15 ∧ (255) < 2 ^ Isa.selWidth (Isa.sel 0x4202b0001e02000000000000000000ff)) ∧ goes (.dset (63 : Fin 64)) s_MemoryInstructionsAct_dset
      (fun t => decide (runsOn t (63 : Fin 64) (s_MemoryInstructionsAct_dset.fld (Reg.seqPc (63 : Fin 64)) + 1) ((s_MemoryInstructionsAct_dset.theCtx (63 : Fin 64)).setD (Isa.dd 0x4202b0001e02000000000000000000ff) (Desc.put ((s_MemoryInstructionsAct_dset.theCtx (63 : Fin 64)).dreg (Isa.dd 0x4202b0001e02000000000000000000ff)) (selLow (Isa.sel 0x4202b0001e02000000000000000000ff)) (Isa.selWidth (Isa.sel 0x4202b0001e02000000000000000000ff)) (255))) = true) && decide (t.cue.ctrs = s_MemoryInstructionsAct_dset.cue.ctrs) && decide (t.ten = s_MemoryInstructionsAct_dset.ten) && decide (t.mem = s_MemoryInstructionsAct_dset.mem) && decide (t.swc = s_MemoryInstructionsAct_dset.swc) && decide (onlyRegs [(Reg.seqSt (63 : Fin 64)).off] s_MemoryInstructionsAct_dset t = true)) = true := by
  decide +kernel

def s_MemoryInstructionsAct_dset2 : State := runner 0x4202f0001e0000000000000000000000 [(1, 5), (2, 9), (3, 0xFFFFFFFFFFFFFFFF), (4, 0x1000000000000100), (5, 64)] []

theorem test_MemoryInstructionsAct_dset2 :
    (0x4202f0001e0000000000000000000000 = fetchWord s_MemoryInstructionsAct_dset2 (63 : Fin 64) ∧ issues s_MemoryInstructionsAct_dset2 (63 : Fin 64) = true ∧ Isa.opc 0x4202f0001e0000000000000000000000 = 0x42 ∧ follows s_MemoryInstructionsAct_dset2 (63 : Fin 64) = true ∧ Isa.sel 0x4202f0001e0000000000000000000000 = 15 ∧ fieldValue (s_MemoryInstructionsAct_dset2.theCtx (63 : Fin 64)) 0x4202f0001e0000000000000000000000 = 0) ∧ goes (.dset (63 : Fin 64)) s_MemoryInstructionsAct_dset2
      (fun t => decide (runsOn t (63 : Fin 64) (s_MemoryInstructionsAct_dset2.fld (Reg.seqPc (63 : Fin 64)) + 1) ((s_MemoryInstructionsAct_dset2.theCtx (63 : Fin 64)).setD (Isa.dd 0x4202f0001e0000000000000000000000) 0) = true) && decide (t.cue.ctrs = s_MemoryInstructionsAct_dset2.cue.ctrs) && decide (t.ten = s_MemoryInstructionsAct_dset2.ten) && decide (t.mem = s_MemoryInstructionsAct_dset2.mem) && decide (t.swc = s_MemoryInstructionsAct_dset2.swc) && decide (onlyRegs [(Reg.seqSt (63 : Fin 64)).off] s_MemoryInstructionsAct_dset2 t = true)) = true := by
  decide +kernel

def s_MemoryInstructionsAct_dadd : State := runner 0x43024000600000000000000000000000 [(1, 5), (2, 9), (3, 0xFFFFFFFFFFFFFFFF), (4, 0x1000000000000100), (5, 64)] [(0, dsc 0 9 2 1 0 0)]

theorem test_MemoryInstructionsAct_dadd :
    (0x43024000600000000000000000000000 = fetchWord s_MemoryInstructionsAct_dadd (63 : Fin 64) ∧ issues s_MemoryInstructionsAct_dadd (63 : Fin 64) = true ∧ Isa.opc 0x43024000600000000000000000000000 = 0x43 ∧ follows s_MemoryInstructionsAct_dadd (63 : Fin 64) = true ∧ (1 : Int) = (Desc.f ((s_MemoryInstructionsAct_dadd.theCtx (63 : Fin 64)).dreg (Isa.dd 0x43024000600000000000000000000000)) (selLow (Isa.sel 0x43024000600000000000000000000000)) (Isa.selWidth (Isa.sel 0x43024000600000000000000000000000)) : Int) + signedOf 64 (fieldValue (s_MemoryInstructionsAct_dadd.theCtx (63 : Fin 64)) 0x43024000600000000000000000000000) ∧ 0 ≤ (1 : Int) ∧ (1 : Int) < 2 ^ Isa.selWidth (Isa.sel 0x43024000600000000000000000000000)) ∧ goes (.dadd (63 : Fin 64)) s_MemoryInstructionsAct_dadd
      (fun t => decide (runsOn t (63 : Fin 64) (s_MemoryInstructionsAct_dadd.fld (Reg.seqPc (63 : Fin 64)) + 1) ((s_MemoryInstructionsAct_dadd.theCtx (63 : Fin 64)).setD (Isa.dd 0x43024000600000000000000000000000) (Desc.put ((s_MemoryInstructionsAct_dadd.theCtx (63 : Fin 64)).dreg (Isa.dd 0x43024000600000000000000000000000)) (selLow (Isa.sel 0x43024000600000000000000000000000)) (Isa.selWidth (Isa.sel 0x43024000600000000000000000000000)) (1 : Int).toNat)) = true) && decide (t.cue.ctrs = s_MemoryInstructionsAct_dadd.cue.ctrs) && decide (t.ten = s_MemoryInstructionsAct_dadd.ten) && decide (t.mem = s_MemoryInstructionsAct_dadd.mem) && decide (t.swc = s_MemoryInstructionsAct_dadd.swc) && decide (onlyRegs [(Reg.seqSt (63 : Fin 64)).off] s_MemoryInstructionsAct_dadd t = true)) = true := by
  decide +kernel

def s_MemoryInstructionsAct_dcopyReg : State := runner 0x440200001e0000000000000000000000 [(1, 5), (2, 9), (3, 0xFFFFFFFFFFFFFFFF), (4, 0x1000000000000100), (5, 64)] [(0, dsc 0 9 2 1 0 0)]

theorem test_MemoryInstructionsAct_dcopyReg :
    (0x440200001e0000000000000000000000 = fetchWord s_MemoryInstructionsAct_dcopyReg (63 : Fin 64) ∧ issues s_MemoryInstructionsAct_dcopyReg (63 : Fin 64) = true ∧ Isa.opc 0x440200001e0000000000000000000000 = 0x44 ∧ Isa.sel 0x440200001e0000000000000000000000 = 0 ∧ follows s_MemoryInstructionsAct_dcopyReg (63 : Fin 64) = true) ∧ goes (.dcopyReg (63 : Fin 64)) s_MemoryInstructionsAct_dcopyReg
      (fun t => decide (runsOn t (63 : Fin 64) (s_MemoryInstructionsAct_dcopyReg.fld (Reg.seqPc (63 : Fin 64)) + 1) ((s_MemoryInstructionsAct_dcopyReg.theCtx (63 : Fin 64)).setD (Isa.dd 0x440200001e0000000000000000000000) ((s_MemoryInstructionsAct_dcopyReg.theCtx (63 : Fin 64)).dreg (Isa.da 0x440200001e0000000000000000000000))) = true) && decide (t.cue.ctrs = s_MemoryInstructionsAct_dcopyReg.cue.ctrs) && decide (t.ten = s_MemoryInstructionsAct_dcopyReg.ten) && decide (t.mem = s_MemoryInstructionsAct_dcopyReg.mem) && decide (t.swc = s_MemoryInstructionsAct_dcopyReg.swc) && decide (onlyRegs [(Reg.seqSt (63 : Fin 64)).off] s_MemoryInstructionsAct_dcopyReg t = true)) = true := by
  decide +kernel

def s_MemoryInstructionsAct_dcopyLoad : State := spPoke 64 [1] ((runner 0x440210141e0000000000000000000000 [(1, 5), (2, 9), (3, 0xFFFFFFFFFFFFFFFF), (4, 0x1000000000000100), (5, 64)] []))

theorem test_MemoryInstructionsAct_dcopyLoad :
    (0x440210141e0000000000000000000000 = fetchWord s_MemoryInstructionsAct_dcopyLoad (63 : Fin 64) ∧ issues s_MemoryInstructionsAct_dcopyLoad (63 : Fin 64) = true ∧ Isa.opc 0x440210141e0000000000000000000000 = 0x44 ∧ Isa.sel 0x440210141e0000000000000000000000 = 1 ∧ follows s_MemoryInstructionsAct_dcopyLoad (63 : Fin 64) = true ∧ (64) = effAddr s_MemoryInstructionsAct_dcopyLoad (63 : Fin 64) 0x440210141e0000000000000000000000 ∧ descSpan s_MemoryInstructionsAct_dcopyLoad (63 : Fin 64) (64) = true ∧ spanAwake s_MemoryInstructionsAct_dcopyLoad (64) 32 = true ∧ firstBadWord s_MemoryInstructionsAct_dcopyLoad (64) 32 = none ∧ flightWrites s_MemoryInstructionsAct_dcopyLoad (63 : Fin 64) ((64), (64) + 32) = false ∧ (1) = leNat (spRead (veiled none s_MemoryInstructionsAct_dcopyLoad) (64) 32) ∧ bitsOf (1) 38 2 = 0 ∧ (1) / 2 ^ 224 = 0) ∧ goes (.dcopyLoad (63 : Fin 64)) s_MemoryInstructionsAct_dcopyLoad
      (fun t => decide (runsOn t (63 : Fin 64) (s_MemoryInstructionsAct_dcopyLoad.fld (Reg.seqPc (63 : Fin 64)) + 1) ((s_MemoryInstructionsAct_dcopyLoad.theCtx (63 : Fin 64)).setD (Isa.dd 0x440210141e0000000000000000000000) (BitVec.ofNat 256 (1))) = true) && decide (t.cue.ctrs = s_MemoryInstructionsAct_dcopyLoad.cue.ctrs) && decide (t.ten = s_MemoryInstructionsAct_dcopyLoad.ten) && decide (t.mem = s_MemoryInstructionsAct_dcopyLoad.mem) && decide (t.swc = s_MemoryInstructionsAct_dcopyLoad.swc)) = true := by
  decide +kernel

def s_MemoryInstructionsAct_dcopyStore : State := runner 0x44022014000000000000000000000000 [(1, 5), (2, 9), (3, 0xFFFFFFFFFFFFFFFF), (4, 0x1000000000000100), (5, 64)] [(0, dsc 0 9 2 1 0 0)]

theorem test_MemoryInstructionsAct_dcopyStore :
    0x44022014000000000000000000000000 = fetchWord s_MemoryInstructionsAct_dcopyStore (63 : Fin 64) ∧ issues s_MemoryInstructionsAct_dcopyStore (63 : Fin 64) = true ∧ Isa.opc 0x44022014000000000000000000000000 = 0x44 ∧ Isa.sel 0x44022014000000000000000000000000 = 2 ∧ follows s_MemoryInstructionsAct_dcopyStore (63 : Fin 64) = true ∧ (64) = effAddr s_MemoryInstructionsAct_dcopyStore (63 : Fin 64) 0x44022014000000000000000000000000 ∧ descSpan s_MemoryInstructionsAct_dcopyStore (63 : Fin 64) (64) = true ∧ spanAwake s_MemoryInstructionsAct_dcopyStore (64) 32 = true ∧ flightTouches s_MemoryInstructionsAct_dcopyStore (63 : Fin 64) ((64), (64) + 32) = false := by
  decide +kernel

def s_MemoryInstructionsAct_pfetch : State := runner 0x4502008860007fe00000000000000000 [(1, 4992), (2, 0x100), (3, 0x0001000000000100)] []

theorem test_MemoryInstructionsAct_pfetch :
    0x4502008860007fe00000000000000000 = fetchWord s_MemoryInstructionsAct_pfetch (63 : Fin 64) ∧ issues s_MemoryInstructionsAct_pfetch (63 : Fin 64) = true ∧ Isa.opc 0x4502008860007fe00000000000000000 = 0x45 ∧ follows s_MemoryInstructionsAct_pfetch (63 : Fin 64) = true ∧ (4992) = (s_MemoryInstructionsAct_pfetch.theCtx (63 : Fin 64)).sreg (Isa.rd2 0x4502008860007fe00000000000000000) ∧ (s_MemoryInstructionsAct_pfetch.theCtx (63 : Fin 64)).refusal = 0 ∧ xferOk s_MemoryInstructionsAct_pfetch (63 : Fin 64) (4992) ((s_MemoryInstructionsAct_pfetch.theCtx (63 : Fin 64)).sreg (Isa.ra2 0x4502008860007fe00000000000000000)) ((s_MemoryInstructionsAct_pfetch.theCtx (63 : Fin 64)).sreg (Isa.rb2 0x4502008860007fe00000000000000000)) = true ∧ Ctr.targetAfter (ceilDiv (4992) 4096) (s_MemoryInstructionsAct_pfetch.ctr (Isa.ctr2 0x4502008860007fe00000000000000000)) < 2 ^ 32 ∧ inFlight s_MemoryInstructionsAct_pfetch < 4096 ∧ Ctr.binds (s_MemoryInstructionsAct_pfetch.ctr (Isa.ctr2 0x4502008860007fe00000000000000000)) = true := by
  decide +kernel

def s_MemoryInstructionsAct_pspill : State := runner 0x4602008860007fe00000000000000000 [(1, 4992), (2, 0x100), (3, 0x0001000000000100)] []

theorem test_MemoryInstructionsAct_pspill :
    0x4602008860007fe00000000000000000 = fetchWord s_MemoryInstructionsAct_pspill (63 : Fin 64) ∧ issues s_MemoryInstructionsAct_pspill (63 : Fin 64) = true ∧ Isa.opc 0x4602008860007fe00000000000000000 = 0x46 ∧ follows s_MemoryInstructionsAct_pspill (63 : Fin 64) = true ∧ (4992) = (s_MemoryInstructionsAct_pspill.theCtx (63 : Fin 64)).sreg (Isa.rd2 0x4602008860007fe00000000000000000) ∧ (s_MemoryInstructionsAct_pspill.theCtx (63 : Fin 64)).refusal = 0 ∧ xferOk s_MemoryInstructionsAct_pspill (63 : Fin 64) (4992) ((s_MemoryInstructionsAct_pspill.theCtx (63 : Fin 64)).sreg (Isa.ra2 0x4602008860007fe00000000000000000)) ((s_MemoryInstructionsAct_pspill.theCtx (63 : Fin 64)).sreg (Isa.rb2 0x4602008860007fe00000000000000000)) = true ∧ Ctr.targetAfter (ceilDiv (4992) 4096) (s_MemoryInstructionsAct_pspill.ctr (Isa.ctr2 0x4602008860007fe00000000000000000)) < 2 ^ 32 ∧ inFlight s_MemoryInstructionsAct_pspill < 4096 ∧ Ctr.binds (s_MemoryInstructionsAct_pspill.ctr (Isa.ctr2 0x4602008860007fe00000000000000000)) = true ∧ s_MemoryInstructionsAct_pspill.ten.ue = [] := by
  decide +kernel

def g_MemoryInstructionsAct_alloc : Prog := { image := 0, bytes := 4096, code := 64, insns := 4, foot := [(0, 0x100000)], allocs := [] }

def s_MemoryInstructionsAct_alloc : State := runner 0x47020384000c00000000000000000000 [(1, 5), (2, 9), (3, 0xFFFFFFFFFFFFFFFF), (4, 0x1000000000000100), (5, 64)] []

theorem test_MemoryInstructionsAct_alloc :
    (0x47020384000c00000000000000000000 = fetchWord s_MemoryInstructionsAct_alloc (63 : Fin 64) ∧ issues s_MemoryInstructionsAct_alloc (63 : Fin 64) = true ∧ Isa.opc 0x47020384000c00000000000000000000 = 0x47 ∧ follows s_MemoryInstructionsAct_alloc (63 : Fin 64) = true ∧ (s_MemoryInstructionsAct_alloc.theCtx (63 : Fin 64)).sreg (Isa.ra2 0x47020384000c00000000000000000000) = (5) ∧ (5) ≠ 0 ∧ (5) ≤ 134217728 ∧ (0) = s_MemoryInstructionsAct_alloc.fld (Reg.seqProg (63 : Fin 64)) ∧ s_MemoryInstructionsAct_alloc.prog (0) = some g_MemoryInstructionsAct_alloc ∧ ((footOf s_MemoryInstructionsAct_alloc (0)).find? (fun e => decide (spWing e.1 = Isa.wing 0x47020384000c00000000000000000000)) = some ((0, 0x100000) : Nat × Nat)) ∧ (findAlloc ((0, 0x100000) : Nat × Nat).1 ((0, 0x100000) : Nat × Nat).2 (((5) + 255) / 256 * 256) (g_MemoryInstructionsAct_alloc.allocs.map (fun x => (x.2.1, x.2.2))) = some (0))) ∧ goes (.alloc (63 : Fin 64)) s_MemoryInstructionsAct_alloc
      (fun t => decide (runsOn t (63 : Fin 64) (s_MemoryInstructionsAct_alloc.fld (Reg.seqPc (63 : Fin 64)) + 1) (((s_MemoryInstructionsAct_alloc.theCtx (63 : Fin 64)).setS (Isa.rd2 0x47020384000c00000000000000000000) (0)).setP (Isa.pd2 0x47020384000c00000000000000000000) true) = true) && decide (t.prog (0) = some { g_MemoryInstructionsAct_alloc with allocs := g_MemoryInstructionsAct_alloc.allocs ++ [(Isa.wing 0x47020384000c00000000000000000000, (0), ((5) + 255) / 256 * 256)] }) && decide (t.ten = s_MemoryInstructionsAct_alloc.ten) && decide (t.mem = s_MemoryInstructionsAct_alloc.mem) && decide (onlyRegs [(Reg.seqSt (63 : Fin 64)).off] s_MemoryInstructionsAct_alloc t = true)) = true := by
  decide +kernel

def g_MemoryInstructionsAct_alloc2 : Prog := { image := 0, bytes := 4096, code := 64, insns := 4, foot := [(0, 0x100000)], allocs := [] }

def s_MemoryInstructionsAct_alloc2 : State := runner 0x47020384000c00000000000000000000 [(1, 0x100001)] []

theorem test_MemoryInstructionsAct_alloc2 :
    (0x47020384000c00000000000000000000 = fetchWord s_MemoryInstructionsAct_alloc2 (63 : Fin 64) ∧ issues s_MemoryInstructionsAct_alloc2 (63 : Fin 64) = true ∧ Isa.opc 0x47020384000c00000000000000000000 = 0x47 ∧ follows s_MemoryInstructionsAct_alloc2 (63 : Fin 64) = true ∧ (s_MemoryInstructionsAct_alloc2.theCtx (63 : Fin 64)).sreg (Isa.ra2 0x47020384000c00000000000000000000) = 0x100001 ∧ 0x100001 ≠ 0 ∧ 0x100001 ≤ 134217728 ∧ (0) = s_MemoryInstructionsAct_alloc2.fld (Reg.seqProg (63 : Fin 64)) ∧ s_MemoryInstructionsAct_alloc2.prog (0) = some g_MemoryInstructionsAct_alloc2 ∧ ((footOf s_MemoryInstructionsAct_alloc2 (0)).find? (fun e => decide (spWing e.1 = Isa.wing 0x47020384000c00000000000000000000)) = some ((0, 0x100000) : Nat × Nat)) ∧ (findAlloc ((0, 0x100000) : Nat × Nat).1 ((0, 0x100000) : Nat × Nat).2 ((0x100001 + 255) / 256 * 256) (g_MemoryInstructionsAct_alloc2.allocs.map (fun x => (x.2.1, x.2.2))) = none)) ∧ goes (.alloc (63 : Fin 64)) s_MemoryInstructionsAct_alloc2
      (fun t => decide (runsOn t (63 : Fin 64) (s_MemoryInstructionsAct_alloc2.fld (Reg.seqPc (63 : Fin 64)) + 1) (((s_MemoryInstructionsAct_alloc2.theCtx (63 : Fin 64)).setS (Isa.rd2 0x47020384000c00000000000000000000) (2 ^ 64 - 1)).setP (Isa.pd2 0x47020384000c00000000000000000000) false) = true) && decide (t.cue.ctrs = s_MemoryInstructionsAct_alloc2.cue.ctrs) && decide (t.ten = s_MemoryInstructionsAct_alloc2.ten) && decide (t.mem = s_MemoryInstructionsAct_alloc2.mem) && decide (t.swc = s_MemoryInstructionsAct_alloc2.swc) && decide (onlyRegs [(Reg.seqSt (63 : Fin 64)).off] s_MemoryInstructionsAct_alloc2 t = true)) = true := by
  decide +kernel

def g_MemoryInstructionsAct_freeI : Prog := { image := 0, bytes := 4096, code := 64, insns := 4, foot := [(0, 0x100000)], allocs := [(0, 64, 256)] }

def s_MemoryInstructionsAct_freeI : State := ((runner 0x48020014000000000000000000000000 [(1, 5), (2, 9), (3, 0xFFFFFFFFFFFFFFFF), (4, 0x1000000000000100), (5, 64)] [])).setProg 0 (some { image := 0, bytes := 4096, code := 64, insns := 4, foot := [(0, 0x100000)], allocs := [(0, 64, 256)] })

theorem test_MemoryInstructionsAct_freeI :
    (0x48020014000000000000000000000000 = fetchWord s_MemoryInstructionsAct_freeI (63 : Fin 64) ∧ issues s_MemoryInstructionsAct_freeI (63 : Fin 64) = true ∧ Isa.opc 0x48020014000000000000000000000000 = 0x48 ∧ follows s_MemoryInstructionsAct_freeI (63 : Fin 64) = true ∧ (0) = s_MemoryInstructionsAct_freeI.fld (Reg.seqProg (63 : Fin 64)) ∧ s_MemoryInstructionsAct_freeI.prog (0) = some g_MemoryInstructionsAct_freeI ∧ (64) = (s_MemoryInstructionsAct_freeI.theCtx (63 : Fin 64)).sreg (Isa.ra2 0x48020014000000000000000000000000) ∧ (g_MemoryInstructionsAct_freeI.allocs.any (fun a => decide (a.2.1 = (64))) = true)) ∧ goes (.freeI (63 : Fin 64)) s_MemoryInstructionsAct_freeI
      (fun t => decide (runsOn t (63 : Fin 64) (s_MemoryInstructionsAct_freeI.fld (Reg.seqPc (63 : Fin 64)) + 1) ((s_MemoryInstructionsAct_freeI.theCtx (63 : Fin 64))) = true) && decide (t.prog (0) = some { g_MemoryInstructionsAct_freeI with allocs := g_MemoryInstructionsAct_freeI.allocs.filter (fun a => decide (a.2.1 ≠ (64))) }) && decide (t.ten = s_MemoryInstructionsAct_freeI.ten) && decide (t.mem = s_MemoryInstructionsAct_freeI.mem) && decide (onlyRegs [(Reg.seqSt (63 : Fin 64)).off] s_MemoryInstructionsAct_freeI t = true)) = true := by
  decide +kernel

/-! TensorInstructionsIssue. -/

def o_TensorInstructionsIssue_mma : Oper := operOf ((runner 0x60030000000024000000000000000000 [(1, 5), (2, 9), (3, 0xFFFFFFFFFFFFFFFF), (4, 0x1000000000000100), (5, 64)] [(0, dsc 0 9 1 1 0 0), (1, dsc 0x100 5 1 1 0 0), (2, dsc 0x200 6 1 1 0 0)]).theCtx 63) 0x60030000000024000000000000000000

def s_TensorInstructionsIssue_mma : State := runner 0x60030000000024000000000000000000 [(1, 5), (2, 9), (3, 0xFFFFFFFFFFFFFFFF), (4, 0x1000000000000100), (5, 64)] [(0, dsc 0 9 1 1 0 0), (1, dsc 0x100 5 1 1 0 0), (2, dsc 0x200 6 1 1 0 0)]

theorem test_TensorInstructionsIssue_mma :
    0x60030000000024000000000000000000 = fetchWord s_TensorInstructionsIssue_mma (63 : Fin 64) ∧ issues s_TensorInstructionsIssue_mma (63 : Fin 64) = true ∧ Isa.opc 0x60030000000024000000000000000000 = 0x60 ∧ Isa.fmt 0x60030000000024000000000000000000 = 3 ∧ follows s_TensorInstructionsIssue_mma (63 : Fin 64) = true ∧ o_TensorInstructionsIssue_mma = operOf (s_TensorInstructionsIssue_mma.theCtx (63 : Fin 64)) 0x60030000000024000000000000000000 ∧ o_TensorInstructionsIssue_mma.ok s_TensorInstructionsIssue_mma (footOf s_TensorInstructionsIssue_mma (s_TensorInstructionsIssue_mma.fld (Reg.seqProg (63 : Fin 64)))) = true ∧ o_TensorInstructionsIssue_mma.shapeOk = true ∧ tilesStale s_TensorInstructionsIssue_mma o_TensorInstructionsIssue_mma = false := by
  decide +kernel

def o_TensorInstructionsIssue_mmas : Oper := operOf ((runner 0x61030000000024000000000000000000 [(1, 5), (2, 9), (3, 0xFFFFFFFFFFFFFFFF), (4, 0x1000000000000100), (5, 64)] [(0, dsc 0 9 1 1 0 0), (1, dsc 0x100 5 1 32 0 0), (2, dsc 0x200 5 1 32 1 0)]).theCtx 63) 0x61030000000024000000000000000000

def s_TensorInstructionsIssue_mmas : State := runner 0x61030000000024000000000000000000 [(1, 5), (2, 9), (3, 0xFFFFFFFFFFFFFFFF), (4, 0x1000000000000100), (5, 64)] [(0, dsc 0 9 1 1 0 0), (1, dsc 0x100 5 1 32 0 0), (2, dsc 0x200 5 1 32 1 0)]

theorem test_TensorInstructionsIssue_mmas :
    0x61030000000024000000000000000000 = fetchWord s_TensorInstructionsIssue_mmas (63 : Fin 64) ∧ issues s_TensorInstructionsIssue_mmas (63 : Fin 64) = true ∧ Isa.opc 0x61030000000024000000000000000000 = 0x61 ∧ Isa.fmt 0x61030000000024000000000000000000 = 3 ∧ follows s_TensorInstructionsIssue_mmas (63 : Fin 64) = true ∧ o_TensorInstructionsIssue_mmas = operOf (s_TensorInstructionsIssue_mmas.theCtx (63 : Fin 64)) 0x61030000000024000000000000000000 ∧ o_TensorInstructionsIssue_mmas.ok s_TensorInstructionsIssue_mmas (footOf s_TensorInstructionsIssue_mmas (s_TensorInstructionsIssue_mmas.fld (Reg.seqProg (63 : Fin 64)))) = true ∧ o_TensorInstructionsIssue_mmas.shapeOk = true ∧ tilesStale s_TensorInstructionsIssue_mmas o_TensorInstructionsIssue_mmas = false := by
  decide +kernel

def o_TensorInstructionsIssue_mmag : Oper := operOf ((runner 0x62030000000024700000000000000001 [(1, 5), (2, 9), (3, 0xFFFFFFFFFFFFFFFF), (4, 0x1000000000000100), (5, 64)] [(0, dsc 0 9 1 1 0 0), (1, dsc 0x100 5 1 1 0 0), (2, dsc 0x200 5 1 1 0 0), (3, dsc 0x300 9 1 1 0 1)]).theCtx 63) 0x62030000000024700000000000000001

def s_TensorInstructionsIssue_mmag : State := runner 0x62030000000024700000000000000001 [(1, 5), (2, 9), (3, 0xFFFFFFFFFFFFFFFF), (4, 0x1000000000000100), (5, 64)] [(0, dsc 0 9 1 1 0 0), (1, dsc 0x100 5 1 1 0 0), (2, dsc 0x200 5 1 1 0 0), (3, dsc 0x300 9 1 1 0 1)]

theorem test_TensorInstructionsIssue_mmag :
    0x62030000000024700000000000000001 = fetchWord s_TensorInstructionsIssue_mmag (63 : Fin 64) ∧ issues s_TensorInstructionsIssue_mmag (63 : Fin 64) = true ∧ Isa.opc 0x62030000000024700000000000000001 = 0x62 ∧ Isa.fmt 0x62030000000024700000000000000001 = 3 ∧ follows s_TensorInstructionsIssue_mmag (63 : Fin 64) = true ∧ o_TensorInstructionsIssue_mmag = operOf (s_TensorInstructionsIssue_mmag.theCtx (63 : Fin 64)) 0x62030000000024700000000000000001 ∧ o_TensorInstructionsIssue_mmag.ok s_TensorInstructionsIssue_mmag (footOf s_TensorInstructionsIssue_mmag (s_TensorInstructionsIssue_mmag.fld (Reg.seqProg (63 : Fin 64)))) = true ∧ o_TensorInstructionsIssue_mmag.shapeOk = true ∧ tilesStale s_TensorInstructionsIssue_mmag o_TensorInstructionsIssue_mmag = false := by
  decide +kernel

def o_TensorInstructionsIssue_ewa : Oper := operOf ((runner 0x63030000000024000000000000000004 [(1, 5), (2, 9), (3, 0xFFFFFFFFFFFFFFFF), (4, 0x1000000000000100), (5, 64)] [(0, dsc 0 9 1 1 0 0), (1, dsc 0x100 9 1 1 0 0), (2, dsc 0x200 9 1 1 0 0)]).theCtx 63) 0x63030000000024000000000000000004

def s_TensorInstructionsIssue_ewa : State := runner 0x63030000000024000000000000000004 [(1, 5), (2, 9), (3, 0xFFFFFFFFFFFFFFFF), (4, 0x1000000000000100), (5, 64)] [(0, dsc 0 9 1 1 0 0), (1, dsc 0x100 9 1 1 0 0), (2, dsc 0x200 9 1 1 0 0)]

theorem test_TensorInstructionsIssue_ewa :
    0x63030000000024000000000000000004 = fetchWord s_TensorInstructionsIssue_ewa (63 : Fin 64) ∧ issues s_TensorInstructionsIssue_ewa (63 : Fin 64) = true ∧ Isa.opc 0x63030000000024000000000000000004 = 0x63 ∧ Isa.fmt 0x63030000000024000000000000000004 = 3 ∧ follows s_TensorInstructionsIssue_ewa (63 : Fin 64) = true ∧ o_TensorInstructionsIssue_ewa = operOf (s_TensorInstructionsIssue_ewa.theCtx (63 : Fin 64)) 0x63030000000024000000000000000004 ∧ o_TensorInstructionsIssue_ewa.ok s_TensorInstructionsIssue_ewa (footOf s_TensorInstructionsIssue_ewa (s_TensorInstructionsIssue_ewa.fld (Reg.seqProg (63 : Fin 64)))) = true ∧ o_TensorInstructionsIssue_ewa.shapeOk = true ∧ tilesStale s_TensorInstructionsIssue_ewa o_TensorInstructionsIssue_ewa = false := by
  decide +kernel

def o_TensorInstructionsIssue_ewf : Oper := operOf ((runner 0x64030000000020000000000000000007 [(1, 5), (2, 9), (3, 0xFFFFFFFFFFFFFFFF), (4, 0x1000000000000100), (5, 64)] [(0, dsc 0 9 1 1 0 0), (1, dsc 0x100 9 1 1 0 0)]).theCtx 63) 0x64030000000020000000000000000007

def s_TensorInstructionsIssue_ewf : State := runner 0x64030000000020000000000000000007 [(1, 5), (2, 9), (3, 0xFFFFFFFFFFFFFFFF), (4, 0x1000000000000100), (5, 64)] [(0, dsc 0 9 1 1 0 0), (1, dsc 0x100 9 1 1 0 0)]

theorem test_TensorInstructionsIssue_ewf :
    0x64030000000020000000000000000007 = fetchWord s_TensorInstructionsIssue_ewf (63 : Fin 64) ∧ issues s_TensorInstructionsIssue_ewf (63 : Fin 64) = true ∧ Isa.opc 0x64030000000020000000000000000007 = 0x64 ∧ Isa.fmt 0x64030000000020000000000000000007 = 3 ∧ follows s_TensorInstructionsIssue_ewf (63 : Fin 64) = true ∧ o_TensorInstructionsIssue_ewf = operOf (s_TensorInstructionsIssue_ewf.theCtx (63 : Fin 64)) 0x64030000000020000000000000000007 ∧ o_TensorInstructionsIssue_ewf.ok s_TensorInstructionsIssue_ewf (footOf s_TensorInstructionsIssue_ewf (s_TensorInstructionsIssue_ewf.fld (Reg.seqProg (63 : Fin 64)))) = true ∧ o_TensorInstructionsIssue_ewf.shapeOk = true ∧ tilesStale s_TensorInstructionsIssue_ewf o_TensorInstructionsIssue_ewf = false := by
  decide +kernel

def o_TensorInstructionsIssue_red : Oper := operOf ((runner 0x65030000000020000000000000000004 [(1, 5), (2, 9), (3, 0xFFFFFFFFFFFFFFFF), (4, 0x1000000000000100), (5, 64)] [(0, dsc 0 11 1 1 0 0), (1, dsc 0x100 9 1 3 0 0)]).theCtx 63) 0x65030000000020000000000000000004

def s_TensorInstructionsIssue_red : State := runner 0x65030000000020000000000000000004 [(1, 5), (2, 9), (3, 0xFFFFFFFFFFFFFFFF), (4, 0x1000000000000100), (5, 64)] [(0, dsc 0 11 1 1 0 0), (1, dsc 0x100 9 1 3 0 0)]

theorem test_TensorInstructionsIssue_red :
    0x65030000000020000000000000000004 = fetchWord s_TensorInstructionsIssue_red (63 : Fin 64) ∧ issues s_TensorInstructionsIssue_red (63 : Fin 64) = true ∧ Isa.opc 0x65030000000020000000000000000004 = 0x65 ∧ Isa.fmt 0x65030000000020000000000000000004 = 3 ∧ follows s_TensorInstructionsIssue_red (63 : Fin 64) = true ∧ o_TensorInstructionsIssue_red = operOf (s_TensorInstructionsIssue_red.theCtx (63 : Fin 64)) 0x65030000000020000000000000000004 ∧ o_TensorInstructionsIssue_red.ok s_TensorInstructionsIssue_red (footOf s_TensorInstructionsIssue_red (s_TensorInstructionsIssue_red.fld (Reg.seqProg (63 : Fin 64)))) = true ∧ o_TensorInstructionsIssue_red.shapeOk = true ∧ tilesStale s_TensorInstructionsIssue_red o_TensorInstructionsIssue_red = false := by
  decide +kernel

def o_TensorInstructionsIssue_norm : Oper := operOf ((runner 0x6603000000002400000000003f800000 [(1, 5), (2, 9), (3, 0xFFFFFFFFFFFFFFFF), (4, 0x1000000000000100), (5, 64)] [(0, dsc 0 9 1 3 0 0), (1, dsc 0x100 9 1 3 0 0), (2, dsc 0x200 9 1 3 0 0)]).theCtx 63) 0x6603000000002400000000003f800000

def s_TensorInstructionsIssue_norm : State := runner 0x6603000000002400000000003f800000 [(1, 5), (2, 9), (3, 0xFFFFFFFFFFFFFFFF), (4, 0x1000000000000100), (5, 64)] [(0, dsc 0 9 1 3 0 0), (1, dsc 0x100 9 1 3 0 0), (2, dsc 0x200 9 1 3 0 0)]

theorem test_TensorInstructionsIssue_norm :
    0x6603000000002400000000003f800000 = fetchWord s_TensorInstructionsIssue_norm (63 : Fin 64) ∧ issues s_TensorInstructionsIssue_norm (63 : Fin 64) = true ∧ Isa.opc 0x6603000000002400000000003f800000 = 0x66 ∧ Isa.fmt 0x6603000000002400000000003f800000 = 3 ∧ follows s_TensorInstructionsIssue_norm (63 : Fin 64) = true ∧ o_TensorInstructionsIssue_norm = operOf (s_TensorInstructionsIssue_norm.theCtx (63 : Fin 64)) 0x6603000000002400000000003f800000 ∧ o_TensorInstructionsIssue_norm.ok s_TensorInstructionsIssue_norm (footOf s_TensorInstructionsIssue_norm (s_TensorInstructionsIssue_norm.fld (Reg.seqProg (63 : Fin 64)))) = true ∧ o_TensorInstructionsIssue_norm.shapeOk = true ∧ tilesStale s_TensorInstructionsIssue_norm o_TensorInstructionsIssue_norm = false := by
  decide +kernel

def o_TensorInstructionsIssue_smax : Oper := operOf ((runner 0x6703000000002000000000003f800000 [(1, 5), (2, 9), (3, 0xFFFFFFFFFFFFFFFF), (4, 0x1000000000000100), (5, 64)] [(0, dsc 0 9 1 3 0 0), (1, dsc 0x100 9 1 3 0 0)]).theCtx 63) 0x6703000000002000000000003f800000

def s_TensorInstructionsIssue_smax : State := runner 0x6703000000002000000000003f800000 [(1, 5), (2, 9), (3, 0xFFFFFFFFFFFFFFFF), (4, 0x1000000000000100), (5, 64)] [(0, dsc 0 9 1 3 0 0), (1, dsc 0x100 9 1 3 0 0)]

theorem test_TensorInstructionsIssue_smax :
    0x6703000000002000000000003f800000 = fetchWord s_TensorInstructionsIssue_smax (63 : Fin 64) ∧ issues s_TensorInstructionsIssue_smax (63 : Fin 64) = true ∧ Isa.opc 0x6703000000002000000000003f800000 = 0x67 ∧ Isa.fmt 0x6703000000002000000000003f800000 = 3 ∧ follows s_TensorInstructionsIssue_smax (63 : Fin 64) = true ∧ o_TensorInstructionsIssue_smax = operOf (s_TensorInstructionsIssue_smax.theCtx (63 : Fin 64)) 0x6703000000002000000000003f800000 ∧ o_TensorInstructionsIssue_smax.ok s_TensorInstructionsIssue_smax (footOf s_TensorInstructionsIssue_smax (s_TensorInstructionsIssue_smax.fld (Reg.seqProg (63 : Fin 64)))) = true ∧ o_TensorInstructionsIssue_smax.shapeOk = true ∧ tilesStale s_TensorInstructionsIssue_smax o_TensorInstructionsIssue_smax = false := by
  decide +kernel

def o_TensorInstructionsIssue_topk : Oper := operOf ((runner 0x68030000000020700000000000000002 [(1, 5), (2, 9), (3, 0xFFFFFFFFFFFFFFFF), (4, 0x1000000000000100), (5, 64)] [(0, dsc 0 9 1 2 0 0), (1, dsc 0x100 9 1 3 0 0), (3, dsc 0x300 11 1 2 0 0)]).theCtx 63) 0x68030000000020700000000000000002

def s_TensorInstructionsIssue_topk : State := runner 0x68030000000020700000000000000002 [(1, 5), (2, 9), (3, 0xFFFFFFFFFFFFFFFF), (4, 0x1000000000000100), (5, 64)] [(0, dsc 0 9 1 2 0 0), (1, dsc 0x100 9 1 3 0 0), (3, dsc 0x300 11 1 2 0 0)]

theorem test_TensorInstructionsIssue_topk :
    0x68030000000020700000000000000002 = fetchWord s_TensorInstructionsIssue_topk (63 : Fin 64) ∧ issues s_TensorInstructionsIssue_topk (63 : Fin 64) = true ∧ Isa.opc 0x68030000000020700000000000000002 = 0x68 ∧ Isa.fmt 0x68030000000020700000000000000002 = 3 ∧ follows s_TensorInstructionsIssue_topk (63 : Fin 64) = true ∧ o_TensorInstructionsIssue_topk = operOf (s_TensorInstructionsIssue_topk.theCtx (63 : Fin 64)) 0x68030000000020700000000000000002 ∧ o_TensorInstructionsIssue_topk.ok s_TensorInstructionsIssue_topk (footOf s_TensorInstructionsIssue_topk (s_TensorInstructionsIssue_topk.fld (Reg.seqProg (63 : Fin 64)))) = true ∧ o_TensorInstructionsIssue_topk.shapeOk = true ∧ tilesStale s_TensorInstructionsIssue_topk o_TensorInstructionsIssue_topk = false := by
  decide +kernel

def o_TensorInstructionsIssue_gate : Oper := operOf ((runner 0x69030000000020000000000000000001 [(1, 5), (2, 9), (3, 0xFFFFFFFFFFFFFFFF), (4, 0x1000000000000100), (5, 64)] [(0, dsc 0x10000 9 2 1 0 1), (1, dsc 0x100 9 1 2 0 0)]).theCtx 63) 0x69030000000020000000000000000001

def s_TensorInstructionsIssue_gate : State := runner 0x69030000000020000000000000000001 [(1, 5), (2, 9), (3, 0xFFFFFFFFFFFFFFFF), (4, 0x1000000000000100), (5, 64)] [(0, dsc 0x10000 9 2 1 0 1), (1, dsc 0x100 9 1 2 0 0)]

theorem test_TensorInstructionsIssue_gate :
    0x69030000000020000000000000000001 = fetchWord s_TensorInstructionsIssue_gate (63 : Fin 64) ∧ issues s_TensorInstructionsIssue_gate (63 : Fin 64) = true ∧ Isa.opc 0x69030000000020000000000000000001 = 0x69 ∧ Isa.fmt 0x69030000000020000000000000000001 = 3 ∧ follows s_TensorInstructionsIssue_gate (63 : Fin 64) = true ∧ o_TensorInstructionsIssue_gate = operOf (s_TensorInstructionsIssue_gate.theCtx (63 : Fin 64)) 0x69030000000020000000000000000001 ∧ o_TensorInstructionsIssue_gate.ok s_TensorInstructionsIssue_gate (footOf s_TensorInstructionsIssue_gate (s_TensorInstructionsIssue_gate.fld (Reg.seqProg (63 : Fin 64)))) = true ∧ o_TensorInstructionsIssue_gate.shapeOk = true ∧ tilesStale s_TensorInstructionsIssue_gate o_TensorInstructionsIssue_gate = false := by
  decide +kernel

def o_TensorInstructionsIssue_qnt : Oper := operOf ((runner 0x6a030000000020000000000000000000 [(1, 5), (2, 9), (3, 0xFFFFFFFFFFFFFFFF), (4, 0x1000000000000100), (5, 64)] [(0, dsc 0x10000 0 1 32 0 0), (1, dsc 0x100 7 1 32 0 0 + 32 * 2 ^ 80)]).theCtx 63) 0x6a030000000020000000000000000000

def s_TensorInstructionsIssue_qnt : State := runner 0x6a030000000020000000000000000000 [(1, 5), (2, 9), (3, 0xFFFFFFFFFFFFFFFF), (4, 0x1000000000000100), (5, 64)] [(0, dsc 0x10000 0 1 32 0 0), (1, dsc 0x100 7 1 32 0 0 + 32 * 2 ^ 80)]

theorem test_TensorInstructionsIssue_qnt :
    0x6a030000000020000000000000000000 = fetchWord s_TensorInstructionsIssue_qnt (63 : Fin 64) ∧ issues s_TensorInstructionsIssue_qnt (63 : Fin 64) = true ∧ Isa.opc 0x6a030000000020000000000000000000 = 0x6a ∧ Isa.fmt 0x6a030000000020000000000000000000 = 3 ∧ follows s_TensorInstructionsIssue_qnt (63 : Fin 64) = true ∧ o_TensorInstructionsIssue_qnt = operOf (s_TensorInstructionsIssue_qnt.theCtx (63 : Fin 64)) 0x6a030000000020000000000000000000 ∧ o_TensorInstructionsIssue_qnt.ok s_TensorInstructionsIssue_qnt (footOf s_TensorInstructionsIssue_qnt (s_TensorInstructionsIssue_qnt.fld (Reg.seqProg (63 : Fin 64)))) = true ∧ o_TensorInstructionsIssue_qnt.shapeOk = true ∧ tilesStale s_TensorInstructionsIssue_qnt o_TensorInstructionsIssue_qnt = false := by
  decide +kernel

def o_TensorInstructionsIssue_cvt : Oper := operOf ((runner 0x6b030000000020000000000000000000 [(1, 5), (2, 9), (3, 0xFFFFFFFFFFFFFFFF), (4, 0x1000000000000100), (5, 64)] [(0, dsc 0 9 1 3 0 0), (1, dsc 0x100 10 1 3 0 0)]).theCtx 63) 0x6b030000000020000000000000000000

def s_TensorInstructionsIssue_cvt : State := runner 0x6b030000000020000000000000000000 [(1, 5), (2, 9), (3, 0xFFFFFFFFFFFFFFFF), (4, 0x1000000000000100), (5, 64)] [(0, dsc 0 9 1 3 0 0), (1, dsc 0x100 10 1 3 0 0)]

theorem test_TensorInstructionsIssue_cvt :
    0x6b030000000020000000000000000000 = fetchWord s_TensorInstructionsIssue_cvt (63 : Fin 64) ∧ issues s_TensorInstructionsIssue_cvt (63 : Fin 64) = true ∧ Isa.opc 0x6b030000000020000000000000000000 = 0x6b ∧ Isa.fmt 0x6b030000000020000000000000000000 = 3 ∧ follows s_TensorInstructionsIssue_cvt (63 : Fin 64) = true ∧ o_TensorInstructionsIssue_cvt = operOf (s_TensorInstructionsIssue_cvt.theCtx (63 : Fin 64)) 0x6b030000000020000000000000000000 ∧ o_TensorInstructionsIssue_cvt.ok s_TensorInstructionsIssue_cvt (footOf s_TensorInstructionsIssue_cvt (s_TensorInstructionsIssue_cvt.fld (Reg.seqProg (63 : Fin 64)))) = true ∧ o_TensorInstructionsIssue_cvt.shapeOk = true ∧ tilesStale s_TensorInstructionsIssue_cvt o_TensorInstructionsIssue_cvt = false := by
  decide +kernel

def o_TensorInstructionsIssue_copy : Oper := operOf ((runner 0x6c030000000020000000000000000000 [(1, 5), (2, 9), (3, 0xFFFFFFFFFFFFFFFF), (4, 0x1000000000000100), (5, 64)] [(0, dsc 0 9 1 3 0 0), (1, dsc 0x100 9 1 3 0 0)]).theCtx 63) 0x6c030000000020000000000000000000

def s_TensorInstructionsIssue_copy : State := runner 0x6c030000000020000000000000000000 [(1, 5), (2, 9), (3, 0xFFFFFFFFFFFFFFFF), (4, 0x1000000000000100), (5, 64)] [(0, dsc 0 9 1 3 0 0), (1, dsc 0x100 9 1 3 0 0)]

theorem test_TensorInstructionsIssue_copy :
    0x6c030000000020000000000000000000 = fetchWord s_TensorInstructionsIssue_copy (63 : Fin 64) ∧ issues s_TensorInstructionsIssue_copy (63 : Fin 64) = true ∧ Isa.opc 0x6c030000000020000000000000000000 = 0x6c ∧ Isa.fmt 0x6c030000000020000000000000000000 = 3 ∧ follows s_TensorInstructionsIssue_copy (63 : Fin 64) = true ∧ o_TensorInstructionsIssue_copy = operOf (s_TensorInstructionsIssue_copy.theCtx (63 : Fin 64)) 0x6c030000000020000000000000000000 ∧ o_TensorInstructionsIssue_copy.ok s_TensorInstructionsIssue_copy (footOf s_TensorInstructionsIssue_copy (s_TensorInstructionsIssue_copy.fld (Reg.seqProg (63 : Fin 64)))) = true ∧ o_TensorInstructionsIssue_copy.shapeOk = true ∧ tilesStale s_TensorInstructionsIssue_copy o_TensorInstructionsIssue_copy = false := by
  decide +kernel

def o_TensorInstructionsIssue_gatheri : Oper := operOf ((runner 0x6d030000000024000000000000000000 [(1, 5), (2, 9), (3, 0xFFFFFFFFFFFFFFFF), (4, 0x1000000000000100), (5, 64)] [(0, dsc 0 9 1 3 0 0), (1, dsc 0x100 9 2 3 0 0), (2, dsc 0x200 11 1 1 0 0)]).theCtx 63) 0x6d030000000024000000000000000000

def s_TensorInstructionsIssue_gatheri : State := runner 0x6d030000000024000000000000000000 [(1, 5), (2, 9), (3, 0xFFFFFFFFFFFFFFFF), (4, 0x1000000000000100), (5, 64)] [(0, dsc 0 9 1 3 0 0), (1, dsc 0x100 9 2 3 0 0), (2, dsc 0x200 11 1 1 0 0)]

theorem test_TensorInstructionsIssue_gatheri :
    0x6d030000000024000000000000000000 = fetchWord s_TensorInstructionsIssue_gatheri (63 : Fin 64) ∧ issues s_TensorInstructionsIssue_gatheri (63 : Fin 64) = true ∧ Isa.opc 0x6d030000000024000000000000000000 = 0x6d ∧ Isa.fmt 0x6d030000000024000000000000000000 = 3 ∧ follows s_TensorInstructionsIssue_gatheri (63 : Fin 64) = true ∧ o_TensorInstructionsIssue_gatheri = operOf (s_TensorInstructionsIssue_gatheri.theCtx (63 : Fin 64)) 0x6d030000000024000000000000000000 ∧ o_TensorInstructionsIssue_gatheri.ok s_TensorInstructionsIssue_gatheri (footOf s_TensorInstructionsIssue_gatheri (s_TensorInstructionsIssue_gatheri.fld (Reg.seqProg (63 : Fin 64)))) = true ∧ o_TensorInstructionsIssue_gatheri.shapeOk = true ∧ tilesStale s_TensorInstructionsIssue_gatheri o_TensorInstructionsIssue_gatheri = false := by
  decide +kernel

def o_TensorInstructionsIssue_sample : Oper := operOf ((runner 0x6e030000000024000000000000000001 [(1, 5), (2, 9), (3, 0xFFFFFFFFFFFFFFFF), (4, 0x1000000000000100), (5, 64)] [(0, dsc 0 11 1 1 0 0), (1, dsc 0x100 9 1 3 0 0), (2, dsc 0x200 9 1 1 0 0)]).theCtx 63) 0x6e030000000024000000000000000001

def s_TensorInstructionsIssue_sample : State := runner 0x6e030000000024000000000000000001 [(1, 5), (2, 9), (3, 0xFFFFFFFFFFFFFFFF), (4, 0x1000000000000100), (5, 64)] [(0, dsc 0 11 1 1 0 0), (1, dsc 0x100 9 1 3 0 0), (2, dsc 0x200 9 1 1 0 0)]

theorem test_TensorInstructionsIssue_sample :
    0x6e030000000024000000000000000001 = fetchWord s_TensorInstructionsIssue_sample (63 : Fin 64) ∧ issues s_TensorInstructionsIssue_sample (63 : Fin 64) = true ∧ Isa.opc 0x6e030000000024000000000000000001 = 0x6e ∧ Isa.fmt 0x6e030000000024000000000000000001 = 3 ∧ follows s_TensorInstructionsIssue_sample (63 : Fin 64) = true ∧ o_TensorInstructionsIssue_sample = operOf (s_TensorInstructionsIssue_sample.theCtx (63 : Fin 64)) 0x6e030000000024000000000000000001 ∧ o_TensorInstructionsIssue_sample.ok s_TensorInstructionsIssue_sample (footOf s_TensorInstructionsIssue_sample (s_TensorInstructionsIssue_sample.fld (Reg.seqProg (63 : Fin 64)))) = true ∧ o_TensorInstructionsIssue_sample.shapeOk = true ∧ tilesStale s_TensorInstructionsIssue_sample o_TensorInstructionsIssue_sample = false := by
  decide +kernel

def s_TensorInstructionsIssue_copy2 : State := runner 0x6c030000000020000000000000000000 [(1, 5), (2, 9), (3, 0xFFFFFFFFFFFFFFFF), (4, 0x1000000000000100), (5, 64)] [(0, dsc 0 9 1 3 0 0), (1, dsc 0x100 9 1 4 0 0)]

theorem test_TensorInstructionsIssue_copy2 :
    0x6c030000000020000000000000000000 = fetchWord s_TensorInstructionsIssue_copy2 (63 : Fin 64) ∧ issues s_TensorInstructionsIssue_copy2 (63 : Fin 64) = true ∧ Isa.opc 0x6c030000000020000000000000000000 = 0x6c ∧ Isa.fmt 0x6c030000000020000000000000000000 = 3 ∧ (operOf (s_TensorInstructionsIssue_copy2.theCtx (63 : Fin 64)) 0x6c030000000020000000000000000000).shapeOk = false ∧ s_TensorInstructionsIssue_copy2.fld (Reg.onFault (63 : Fin 64)) = 0 := by
  decide +kernel

/-! CuesIssue. -/

def s_CuesIssue_cueReduce : State := grouped ((runner 0x6c041000ffc020000000000000000000 [(1, 5), (2, 9), (3, 0xFFFFFFFFFFFFFFFF), (4, 0x1000000000000100), (5, 64)] [(0, dsc 0 9 1 3 0 0), (1, dsc 0x100 9 1 3 0 0)]))

theorem test_CuesIssue_cueReduce :
    0x6c041000ffc020000000000000000000 = fetchWord s_CuesIssue_cueReduce (63 : Fin 64) ∧ issues s_CuesIssue_cueReduce (63 : Fin 64) = true ∧ Isa.fmt 0x6c041000ffc020000000000000000000 = 4 ∧ Isa.opc 0x6c041000ffc020000000000000000000 ≤ 0x6E ∧ Isa.xmode 0x6c041000ffc020000000000000000000 = 1 ∧ follows s_CuesIssue_cueReduce (63 : Fin 64) = true ∧ groupOf s_CuesIssue_cueReduce (63 : Fin 64) 0x6c041000ffc020000000000000000000 = some (5) ∧ cueOk s_CuesIssue_cueReduce (63 : Fin 64) (5) (operOf (s_CuesIssue_cueReduce.theCtx (63 : Fin 64)) 0x6c041000ffc020000000000000000000) ((s_CuesIssue_cueReduce.theCtx (63 : Fin 64)).dreg (Isa.epiRes 0x6c041000ffc020000000000000000000)) ((s_CuesIssue_cueReduce.theCtx (63 : Fin 64)).dreg (Isa.epiGain 0x6c041000ffc020000000000000000000)) = true ∧ (1) = boundChunks s_CuesIssue_cueReduce (5) (Isa.xmode 0x6c041000ffc020000000000000000000) (contribBytes (operOf (s_CuesIssue_cueReduce.theCtx (63 : Fin 64)) 0x6c041000ffc020000000000000000000)) ∧ Ctr.targetAfter (1) (s_CuesIssue_cueReduce.ctr (Isa.ctr3 0x6c041000ffc020000000000000000000)) < 2 ^ 32 ∧ inFlight s_CuesIssue_cueReduce < 4096 ∧ (openOps s_CuesIssue_cueReduce (5)).length < 2 ∧ (s_CuesIssue_cueReduce.theCtx (63 : Fin 64)).refusal = 0 ∧ ((engUnit (grpEngine s_CuesIssue_cueReduce (5)) :: operTiles s_CuesIssue_cueReduce (operOf (s_CuesIssue_cueReduce.theCtx (63 : Fin 64)) 0x6c041000ffc020000000000000000000)).all (fun u => !(unitStale s_CuesIssue_cueReduce u)) = true) ∧ (Isa.svc 0x6c041000ffc020000000000000000000 = 0 ∨ (mayUseCircuits 0x6c041000ffc020000000000000000000 = true ∧ circuitsAdmit s_CuesIssue_cueReduce (newOp s_CuesIssue_cueReduce (63 : Fin 64) (5) 0 (Oper.outFmt (operOf (s_CuesIssue_cueReduce.theCtx (63 : Fin 64)) 0x6c041000ffc020000000000000000000)) (Oper.outShape (operOf (s_CuesIssue_cueReduce.theCtx (63 : Fin 64)) 0x6c041000ffc020000000000000000000)).1 (Oper.outShape (operOf (s_CuesIssue_cueReduce.theCtx (63 : Fin 64)) 0x6c041000ffc020000000000000000000)).2 0x6c041000ffc020000000000000000000 [Oper.d (operOf (s_CuesIssue_cueReduce.theCtx (63 : Fin 64)) 0x6c041000ffc020000000000000000000), Oper.a (operOf (s_CuesIssue_cueReduce.theCtx (63 : Fin 64)) 0x6c041000ffc020000000000000000000), Oper.b (operOf (s_CuesIssue_cueReduce.theCtx (63 : Fin 64)) 0x6c041000ffc020000000000000000000), Oper.c (operOf (s_CuesIssue_cueReduce.theCtx (63 : Fin 64)) 0x6c041000ffc020000000000000000000), (s_CuesIssue_cueReduce.theCtx (63 : Fin 64)).dreg (Isa.epiRes 0x6c041000ffc020000000000000000000), (s_CuesIssue_cueReduce.theCtx (63 : Fin 64)).dreg (Isa.epiGain 0x6c041000ffc020000000000000000000)]) = true)) ∧ Ctr.binds (s_CuesIssue_cueReduce.ctr (Isa.ctr3 0x6c041000ffc020000000000000000000)) = true ∧ abortedCode s_CuesIssue_cueReduce (5) (s_CuesIssue_cueReduce.fld (Reg.grpOpseq (5))) = none ∧ s_CuesIssue_cueReduce.opById s_CuesIssue_cueReduce.cue.nextId = none ∧ (s_CuesIssue_cueReduce.grp (5)).early = [] := by
  decide +kernel

def s_CuesIssue_cueScatter : State := grouped ((runner 0x6c042000ffc020000000000000000000 [(1, 5), (2, 9), (3, 0xFFFFFFFFFFFFFFFF), (4, 0x1000000000000100), (5, 64)] [(0, dsc 0 9 1 3 0 0), (1, dsc 0x100 9 1 3 0 0)]))

theorem test_CuesIssue_cueScatter :
    0x6c042000ffc020000000000000000000 = fetchWord s_CuesIssue_cueScatter (63 : Fin 64) ∧ issues s_CuesIssue_cueScatter (63 : Fin 64) = true ∧ Isa.fmt 0x6c042000ffc020000000000000000000 = 4 ∧ Isa.opc 0x6c042000ffc020000000000000000000 ≤ 0x6E ∧ Isa.xmode 0x6c042000ffc020000000000000000000 = 2 ∧ follows s_CuesIssue_cueScatter (63 : Fin 64) = true ∧ groupOf s_CuesIssue_cueScatter (63 : Fin 64) 0x6c042000ffc020000000000000000000 = some (5) ∧ cueOk s_CuesIssue_cueScatter (63 : Fin 64) (5) (operOf (s_CuesIssue_cueScatter.theCtx (63 : Fin 64)) 0x6c042000ffc020000000000000000000) ((s_CuesIssue_cueScatter.theCtx (63 : Fin 64)).dreg (Isa.epiRes 0x6c042000ffc020000000000000000000)) ((s_CuesIssue_cueScatter.theCtx (63 : Fin 64)).dreg (Isa.epiGain 0x6c042000ffc020000000000000000000)) = true ∧ (1) = boundChunks s_CuesIssue_cueScatter (5) (Isa.xmode 0x6c042000ffc020000000000000000000) (contribBytes (operOf (s_CuesIssue_cueScatter.theCtx (63 : Fin 64)) 0x6c042000ffc020000000000000000000)) ∧ Ctr.targetAfter (1) (s_CuesIssue_cueScatter.ctr (Isa.ctr3 0x6c042000ffc020000000000000000000)) < 2 ^ 32 ∧ inFlight s_CuesIssue_cueScatter < 4096 ∧ (openOps s_CuesIssue_cueScatter (5)).length < 2 ∧ (s_CuesIssue_cueScatter.theCtx (63 : Fin 64)).refusal = 0 ∧ ((engUnit (grpEngine s_CuesIssue_cueScatter (5)) :: operTiles s_CuesIssue_cueScatter (operOf (s_CuesIssue_cueScatter.theCtx (63 : Fin 64)) 0x6c042000ffc020000000000000000000)).all (fun u => !(unitStale s_CuesIssue_cueScatter u)) = true) ∧ (Isa.svc 0x6c042000ffc020000000000000000000 = 0 ∨ (mayUseCircuits 0x6c042000ffc020000000000000000000 = true ∧ circuitsAdmit s_CuesIssue_cueScatter (newOp s_CuesIssue_cueScatter (63 : Fin 64) (5) 0 (Oper.outFmt (operOf (s_CuesIssue_cueScatter.theCtx (63 : Fin 64)) 0x6c042000ffc020000000000000000000)) (Oper.outShape (operOf (s_CuesIssue_cueScatter.theCtx (63 : Fin 64)) 0x6c042000ffc020000000000000000000)).1 (Oper.outShape (operOf (s_CuesIssue_cueScatter.theCtx (63 : Fin 64)) 0x6c042000ffc020000000000000000000)).2 0x6c042000ffc020000000000000000000 [Oper.d (operOf (s_CuesIssue_cueScatter.theCtx (63 : Fin 64)) 0x6c042000ffc020000000000000000000), Oper.a (operOf (s_CuesIssue_cueScatter.theCtx (63 : Fin 64)) 0x6c042000ffc020000000000000000000), Oper.b (operOf (s_CuesIssue_cueScatter.theCtx (63 : Fin 64)) 0x6c042000ffc020000000000000000000), Oper.c (operOf (s_CuesIssue_cueScatter.theCtx (63 : Fin 64)) 0x6c042000ffc020000000000000000000), (s_CuesIssue_cueScatter.theCtx (63 : Fin 64)).dreg (Isa.epiRes 0x6c042000ffc020000000000000000000), (s_CuesIssue_cueScatter.theCtx (63 : Fin 64)).dreg (Isa.epiGain 0x6c042000ffc020000000000000000000)]) = true)) ∧ Ctr.binds (s_CuesIssue_cueScatter.ctr (Isa.ctr3 0x6c042000ffc020000000000000000000)) = true ∧ abortedCode s_CuesIssue_cueScatter (5) (s_CuesIssue_cueScatter.fld (Reg.grpOpseq (5))) = none ∧ s_CuesIssue_cueScatter.opById s_CuesIssue_cueScatter.cue.nextId = none ∧ (s_CuesIssue_cueScatter.grp (5)).early = [] := by
  decide +kernel

def s_CuesIssue_cueGather : State := grouped ((runner 0x6c043000ffc020000000000000000000 [(1, 5), (2, 9), (3, 0xFFFFFFFFFFFFFFFF), (4, 0x1000000000000100), (5, 64)] [(0, dsc 0 9 1 3 0 0), (1, dsc 0x100 9 1 3 0 0)]))

theorem test_CuesIssue_cueGather :
    0x6c043000ffc020000000000000000000 = fetchWord s_CuesIssue_cueGather (63 : Fin 64) ∧ issues s_CuesIssue_cueGather (63 : Fin 64) = true ∧ Isa.fmt 0x6c043000ffc020000000000000000000 = 4 ∧ Isa.opc 0x6c043000ffc020000000000000000000 ≤ 0x6E ∧ Isa.xmode 0x6c043000ffc020000000000000000000 = 3 ∧ follows s_CuesIssue_cueGather (63 : Fin 64) = true ∧ groupOf s_CuesIssue_cueGather (63 : Fin 64) 0x6c043000ffc020000000000000000000 = some (5) ∧ cueOk s_CuesIssue_cueGather (63 : Fin 64) (5) (operOf (s_CuesIssue_cueGather.theCtx (63 : Fin 64)) 0x6c043000ffc020000000000000000000) ((s_CuesIssue_cueGather.theCtx (63 : Fin 64)).dreg (Isa.epiRes 0x6c043000ffc020000000000000000000)) ((s_CuesIssue_cueGather.theCtx (63 : Fin 64)).dreg (Isa.epiGain 0x6c043000ffc020000000000000000000)) = true ∧ (1) = boundChunks s_CuesIssue_cueGather (5) (Isa.xmode 0x6c043000ffc020000000000000000000) (contribBytes (operOf (s_CuesIssue_cueGather.theCtx (63 : Fin 64)) 0x6c043000ffc020000000000000000000)) ∧ Ctr.targetAfter (1) (s_CuesIssue_cueGather.ctr (Isa.ctr3 0x6c043000ffc020000000000000000000)) < 2 ^ 32 ∧ inFlight s_CuesIssue_cueGather < 4096 ∧ (openOps s_CuesIssue_cueGather (5)).length < 2 ∧ (s_CuesIssue_cueGather.theCtx (63 : Fin 64)).refusal = 0 ∧ ((engUnit (grpEngine s_CuesIssue_cueGather (5)) :: operTiles s_CuesIssue_cueGather (operOf (s_CuesIssue_cueGather.theCtx (63 : Fin 64)) 0x6c043000ffc020000000000000000000)).all (fun u => !(unitStale s_CuesIssue_cueGather u)) = true) ∧ (Isa.svc 0x6c043000ffc020000000000000000000 = 0 ∨ (mayUseCircuits 0x6c043000ffc020000000000000000000 = true ∧ circuitsAdmit s_CuesIssue_cueGather (newOp s_CuesIssue_cueGather (63 : Fin 64) (5) 0 (Oper.outFmt (operOf (s_CuesIssue_cueGather.theCtx (63 : Fin 64)) 0x6c043000ffc020000000000000000000)) (Oper.outShape (operOf (s_CuesIssue_cueGather.theCtx (63 : Fin 64)) 0x6c043000ffc020000000000000000000)).1 (Oper.outShape (operOf (s_CuesIssue_cueGather.theCtx (63 : Fin 64)) 0x6c043000ffc020000000000000000000)).2 0x6c043000ffc020000000000000000000 [Oper.d (operOf (s_CuesIssue_cueGather.theCtx (63 : Fin 64)) 0x6c043000ffc020000000000000000000), Oper.a (operOf (s_CuesIssue_cueGather.theCtx (63 : Fin 64)) 0x6c043000ffc020000000000000000000), Oper.b (operOf (s_CuesIssue_cueGather.theCtx (63 : Fin 64)) 0x6c043000ffc020000000000000000000), Oper.c (operOf (s_CuesIssue_cueGather.theCtx (63 : Fin 64)) 0x6c043000ffc020000000000000000000), (s_CuesIssue_cueGather.theCtx (63 : Fin 64)).dreg (Isa.epiRes 0x6c043000ffc020000000000000000000), (s_CuesIssue_cueGather.theCtx (63 : Fin 64)).dreg (Isa.epiGain 0x6c043000ffc020000000000000000000)]) = true)) ∧ Ctr.binds (s_CuesIssue_cueGather.ctr (Isa.ctr3 0x6c043000ffc020000000000000000000)) = true ∧ abortedCode s_CuesIssue_cueGather (5) (s_CuesIssue_cueGather.fld (Reg.grpOpseq (5))) = none ∧ s_CuesIssue_cueGather.opById s_CuesIssue_cueGather.cue.nextId = none ∧ (s_CuesIssue_cueGather.grp (5)).early = [] := by
  decide +kernel

def s_CuesIssue_cueExchange : State := grouped ((runner 0x6c044000ffc020000000000000000000 [(1, 5), (2, 9), (3, 0xFFFFFFFFFFFFFFFF), (4, 0x1000000000000100), (5, 64)] [(0, dsc 0 9 1 3 0 0), (1, dsc 0x100 9 1 3 0 0)]))

theorem test_CuesIssue_cueExchange :
    0x6c044000ffc020000000000000000000 = fetchWord s_CuesIssue_cueExchange (63 : Fin 64) ∧ issues s_CuesIssue_cueExchange (63 : Fin 64) = true ∧ Isa.fmt 0x6c044000ffc020000000000000000000 = 4 ∧ Isa.opc 0x6c044000ffc020000000000000000000 ≤ 0x6E ∧ Isa.xmode 0x6c044000ffc020000000000000000000 = 4 ∧ follows s_CuesIssue_cueExchange (63 : Fin 64) = true ∧ groupOf s_CuesIssue_cueExchange (63 : Fin 64) 0x6c044000ffc020000000000000000000 = some (5) ∧ cueOk s_CuesIssue_cueExchange (63 : Fin 64) (5) (operOf (s_CuesIssue_cueExchange.theCtx (63 : Fin 64)) 0x6c044000ffc020000000000000000000) ((s_CuesIssue_cueExchange.theCtx (63 : Fin 64)).dreg (Isa.epiRes 0x6c044000ffc020000000000000000000)) ((s_CuesIssue_cueExchange.theCtx (63 : Fin 64)).dreg (Isa.epiGain 0x6c044000ffc020000000000000000000)) = true ∧ (1) = boundChunks s_CuesIssue_cueExchange (5) (Isa.xmode 0x6c044000ffc020000000000000000000) (contribBytes (operOf (s_CuesIssue_cueExchange.theCtx (63 : Fin 64)) 0x6c044000ffc020000000000000000000)) ∧ Ctr.targetAfter (1) (s_CuesIssue_cueExchange.ctr (Isa.ctr3 0x6c044000ffc020000000000000000000)) < 2 ^ 32 ∧ inFlight s_CuesIssue_cueExchange < 4096 ∧ (openOps s_CuesIssue_cueExchange (5)).length < 2 ∧ (s_CuesIssue_cueExchange.theCtx (63 : Fin 64)).refusal = 0 ∧ ((engUnit (grpEngine s_CuesIssue_cueExchange (5)) :: operTiles s_CuesIssue_cueExchange (operOf (s_CuesIssue_cueExchange.theCtx (63 : Fin 64)) 0x6c044000ffc020000000000000000000)).all (fun u => !(unitStale s_CuesIssue_cueExchange u)) = true) ∧ (Isa.svc 0x6c044000ffc020000000000000000000 = 0 ∨ (mayUseCircuits 0x6c044000ffc020000000000000000000 = true ∧ circuitsAdmit s_CuesIssue_cueExchange (newOp s_CuesIssue_cueExchange (63 : Fin 64) (5) 0 (Oper.outFmt (operOf (s_CuesIssue_cueExchange.theCtx (63 : Fin 64)) 0x6c044000ffc020000000000000000000)) (Oper.outShape (operOf (s_CuesIssue_cueExchange.theCtx (63 : Fin 64)) 0x6c044000ffc020000000000000000000)).1 (Oper.outShape (operOf (s_CuesIssue_cueExchange.theCtx (63 : Fin 64)) 0x6c044000ffc020000000000000000000)).2 0x6c044000ffc020000000000000000000 [Oper.d (operOf (s_CuesIssue_cueExchange.theCtx (63 : Fin 64)) 0x6c044000ffc020000000000000000000), Oper.a (operOf (s_CuesIssue_cueExchange.theCtx (63 : Fin 64)) 0x6c044000ffc020000000000000000000), Oper.b (operOf (s_CuesIssue_cueExchange.theCtx (63 : Fin 64)) 0x6c044000ffc020000000000000000000), Oper.c (operOf (s_CuesIssue_cueExchange.theCtx (63 : Fin 64)) 0x6c044000ffc020000000000000000000), (s_CuesIssue_cueExchange.theCtx (63 : Fin 64)).dreg (Isa.epiRes 0x6c044000ffc020000000000000000000), (s_CuesIssue_cueExchange.theCtx (63 : Fin 64)).dreg (Isa.epiGain 0x6c044000ffc020000000000000000000)]) = true)) ∧ Ctr.binds (s_CuesIssue_cueExchange.ctr (Isa.ctr3 0x6c044000ffc020000000000000000000)) = true ∧ abortedCode s_CuesIssue_cueExchange (5) (s_CuesIssue_cueExchange.fld (Reg.grpOpseq (5))) = none ∧ s_CuesIssue_cueExchange.opById s_CuesIssue_cueExchange.cue.nextId = none ∧ (s_CuesIssue_cueExchange.grp (5)).early = [] := by
  decide +kernel

def s_CuesIssue_cueRoute : State := grouped ((runner 0x6c045000ffc020700000000000000000 [(1, 5), (2, 9), (3, 0xFFFFFFFFFFFFFFFF), (4, 0x1000000000000100), (5, 64)] [(0, dsc 0x10000 9 1 3 0 1), (1, dsc 0x100 9 1 3 0 0), (3, dsc 0x300 9 1 1 0 1)]))

theorem test_CuesIssue_cueRoute :
    0x6c045000ffc020700000000000000000 = fetchWord s_CuesIssue_cueRoute (63 : Fin 64) ∧ issues s_CuesIssue_cueRoute (63 : Fin 64) = true ∧ Isa.fmt 0x6c045000ffc020700000000000000000 = 4 ∧ Isa.opc 0x6c045000ffc020700000000000000000 ≤ 0x6E ∧ Isa.xmode 0x6c045000ffc020700000000000000000 = 5 ∧ follows s_CuesIssue_cueRoute (63 : Fin 64) = true ∧ groupOf s_CuesIssue_cueRoute (63 : Fin 64) 0x6c045000ffc020700000000000000000 = some (5) ∧ cueOk s_CuesIssue_cueRoute (63 : Fin 64) (5) (operOf (s_CuesIssue_cueRoute.theCtx (63 : Fin 64)) 0x6c045000ffc020700000000000000000) ((s_CuesIssue_cueRoute.theCtx (63 : Fin 64)).dreg (Isa.epiRes 0x6c045000ffc020700000000000000000)) ((s_CuesIssue_cueRoute.theCtx (63 : Fin 64)).dreg (Isa.epiGain 0x6c045000ffc020700000000000000000)) = true ∧ (1) = boundChunks s_CuesIssue_cueRoute (5) (Isa.xmode 0x6c045000ffc020700000000000000000) (contribBytes (operOf (s_CuesIssue_cueRoute.theCtx (63 : Fin 64)) 0x6c045000ffc020700000000000000000)) ∧ Ctr.targetAfter (1) (s_CuesIssue_cueRoute.ctr (Isa.ctr3 0x6c045000ffc020700000000000000000)) < 2 ^ 32 ∧ inFlight s_CuesIssue_cueRoute < 4096 ∧ (openOps s_CuesIssue_cueRoute (5)).length < 2 ∧ (s_CuesIssue_cueRoute.theCtx (63 : Fin 64)).refusal = 0 ∧ ((engUnit (grpEngine s_CuesIssue_cueRoute (5)) :: operTiles s_CuesIssue_cueRoute (operOf (s_CuesIssue_cueRoute.theCtx (63 : Fin 64)) 0x6c045000ffc020700000000000000000)).all (fun u => !(unitStale s_CuesIssue_cueRoute u)) = true) ∧ (Isa.svc 0x6c045000ffc020700000000000000000 = 0 ∨ (mayUseCircuits 0x6c045000ffc020700000000000000000 = true ∧ circuitsAdmit s_CuesIssue_cueRoute (newOp s_CuesIssue_cueRoute (63 : Fin 64) (5) 0 (Oper.outFmt (operOf (s_CuesIssue_cueRoute.theCtx (63 : Fin 64)) 0x6c045000ffc020700000000000000000)) (Oper.outShape (operOf (s_CuesIssue_cueRoute.theCtx (63 : Fin 64)) 0x6c045000ffc020700000000000000000)).1 (Oper.outShape (operOf (s_CuesIssue_cueRoute.theCtx (63 : Fin 64)) 0x6c045000ffc020700000000000000000)).2 0x6c045000ffc020700000000000000000 [Oper.d (operOf (s_CuesIssue_cueRoute.theCtx (63 : Fin 64)) 0x6c045000ffc020700000000000000000), Oper.a (operOf (s_CuesIssue_cueRoute.theCtx (63 : Fin 64)) 0x6c045000ffc020700000000000000000), Oper.b (operOf (s_CuesIssue_cueRoute.theCtx (63 : Fin 64)) 0x6c045000ffc020700000000000000000), Oper.c (operOf (s_CuesIssue_cueRoute.theCtx (63 : Fin 64)) 0x6c045000ffc020700000000000000000), (s_CuesIssue_cueRoute.theCtx (63 : Fin 64)).dreg (Isa.epiRes 0x6c045000ffc020700000000000000000), (s_CuesIssue_cueRoute.theCtx (63 : Fin 64)).dreg (Isa.epiGain 0x6c045000ffc020700000000000000000)]) = true)) ∧ Ctr.binds (s_CuesIssue_cueRoute.ctr (Isa.ctr3 0x6c045000ffc020700000000000000000)) = true ∧ abortedCode s_CuesIssue_cueRoute (5) (s_CuesIssue_cueRoute.fld (Reg.grpOpseq (5))) = none ∧ s_CuesIssue_cueRoute.opById s_CuesIssue_cueRoute.cue.nextId = none ∧ (s_CuesIssue_cueRoute.grp (5)).early = [] := by
  decide +kernel

def s_CuesIssue_cueMerge : State := (grouped ((runner 0x6c046000ffc020000000000000000000 [(1, 5), (2, 9), (3, 0xFFFFFFFFFFFFFFFF), (4, 0x1000000000000100), (5, 64)] [(0, dsc 0 9 1 3 0 0), (1, dsc 0x100 9 1 3 0 0)]))).modGrp 5 (fun g => { g with routeEnded := true })

theorem test_CuesIssue_cueMerge :
    0x6c046000ffc020000000000000000000 = fetchWord s_CuesIssue_cueMerge (63 : Fin 64) ∧ issues s_CuesIssue_cueMerge (63 : Fin 64) = true ∧ Isa.fmt 0x6c046000ffc020000000000000000000 = 4 ∧ Isa.opc 0x6c046000ffc020000000000000000000 ≤ 0x6E ∧ Isa.xmode 0x6c046000ffc020000000000000000000 = 6 ∧ follows s_CuesIssue_cueMerge (63 : Fin 64) = true ∧ groupOf s_CuesIssue_cueMerge (63 : Fin 64) 0x6c046000ffc020000000000000000000 = some (5) ∧ cueOk s_CuesIssue_cueMerge (63 : Fin 64) (5) (operOf (s_CuesIssue_cueMerge.theCtx (63 : Fin 64)) 0x6c046000ffc020000000000000000000) ((s_CuesIssue_cueMerge.theCtx (63 : Fin 64)).dreg (Isa.epiRes 0x6c046000ffc020000000000000000000)) ((s_CuesIssue_cueMerge.theCtx (63 : Fin 64)).dreg (Isa.epiGain 0x6c046000ffc020000000000000000000)) = true ∧ (1) = boundChunks s_CuesIssue_cueMerge (5) (Isa.xmode 0x6c046000ffc020000000000000000000) (contribBytes (operOf (s_CuesIssue_cueMerge.theCtx (63 : Fin 64)) 0x6c046000ffc020000000000000000000)) ∧ Ctr.targetAfter (1) (s_CuesIssue_cueMerge.ctr (Isa.ctr3 0x6c046000ffc020000000000000000000)) < 2 ^ 32 ∧ inFlight s_CuesIssue_cueMerge < 4096 ∧ (openOps s_CuesIssue_cueMerge (5)).length < 2 ∧ (s_CuesIssue_cueMerge.theCtx (63 : Fin 64)).refusal = 0 ∧ ((engUnit (grpEngine s_CuesIssue_cueMerge (5)) :: operTiles s_CuesIssue_cueMerge (operOf (s_CuesIssue_cueMerge.theCtx (63 : Fin 64)) 0x6c046000ffc020000000000000000000)).all (fun u => !(unitStale s_CuesIssue_cueMerge u)) = true) ∧ (Isa.svc 0x6c046000ffc020000000000000000000 = 0 ∨ (mayUseCircuits 0x6c046000ffc020000000000000000000 = true ∧ circuitsAdmit s_CuesIssue_cueMerge (newOp s_CuesIssue_cueMerge (63 : Fin 64) (5) 0 (Oper.outFmt (operOf (s_CuesIssue_cueMerge.theCtx (63 : Fin 64)) 0x6c046000ffc020000000000000000000)) (Oper.outShape (operOf (s_CuesIssue_cueMerge.theCtx (63 : Fin 64)) 0x6c046000ffc020000000000000000000)).1 (Oper.outShape (operOf (s_CuesIssue_cueMerge.theCtx (63 : Fin 64)) 0x6c046000ffc020000000000000000000)).2 0x6c046000ffc020000000000000000000 [Oper.d (operOf (s_CuesIssue_cueMerge.theCtx (63 : Fin 64)) 0x6c046000ffc020000000000000000000), Oper.a (operOf (s_CuesIssue_cueMerge.theCtx (63 : Fin 64)) 0x6c046000ffc020000000000000000000), Oper.b (operOf (s_CuesIssue_cueMerge.theCtx (63 : Fin 64)) 0x6c046000ffc020000000000000000000), Oper.c (operOf (s_CuesIssue_cueMerge.theCtx (63 : Fin 64)) 0x6c046000ffc020000000000000000000), (s_CuesIssue_cueMerge.theCtx (63 : Fin 64)).dreg (Isa.epiRes 0x6c046000ffc020000000000000000000), (s_CuesIssue_cueMerge.theCtx (63 : Fin 64)).dreg (Isa.epiGain 0x6c046000ffc020000000000000000000)]) = true)) ∧ Ctr.binds (s_CuesIssue_cueMerge.ctr (Isa.ctr3 0x6c046000ffc020000000000000000000)) = true ∧ abortedCode s_CuesIssue_cueMerge (5) (s_CuesIssue_cueMerge.fld (Reg.grpOpseq (5))) = none ∧ s_CuesIssue_cueMerge.opById s_CuesIssue_cueMerge.cue.nextId = none ∧ (s_CuesIssue_cueMerge.grp (5)).early = [] := by
  decide +kernel

def s_CuesIssue_cueBroadcast : State := (grouped ((runner 0x6c047000ffc020000000000000000000 [(1, 5), (2, 9), (3, 0xFFFFFFFFFFFFFFFF), (4, 0x1000000000000100), (5, 64)] [(0, dsc 0 9 1 3 0 0), (1, dsc 0x100 9 1 3 0 0)]))).setWord (Reg.grpWord 5 1) 0x20001

theorem test_CuesIssue_cueBroadcast :
    0x6c047000ffc020000000000000000000 = fetchWord s_CuesIssue_cueBroadcast (63 : Fin 64) ∧ issues s_CuesIssue_cueBroadcast (63 : Fin 64) = true ∧ Isa.fmt 0x6c047000ffc020000000000000000000 = 4 ∧ Isa.opc 0x6c047000ffc020000000000000000000 ≤ 0x6E ∧ Isa.xmode 0x6c047000ffc020000000000000000000 = 7 ∧ follows s_CuesIssue_cueBroadcast (63 : Fin 64) = true ∧ groupOf s_CuesIssue_cueBroadcast (63 : Fin 64) 0x6c047000ffc020000000000000000000 = some (5) ∧ cueOk s_CuesIssue_cueBroadcast (63 : Fin 64) (5) (operOf (s_CuesIssue_cueBroadcast.theCtx (63 : Fin 64)) 0x6c047000ffc020000000000000000000) ((s_CuesIssue_cueBroadcast.theCtx (63 : Fin 64)).dreg (Isa.epiRes 0x6c047000ffc020000000000000000000)) ((s_CuesIssue_cueBroadcast.theCtx (63 : Fin 64)).dreg (Isa.epiGain 0x6c047000ffc020000000000000000000)) = true ∧ (1) = boundChunks s_CuesIssue_cueBroadcast (5) (Isa.xmode 0x6c047000ffc020000000000000000000) (contribBytes (operOf (s_CuesIssue_cueBroadcast.theCtx (63 : Fin 64)) 0x6c047000ffc020000000000000000000)) ∧ Ctr.targetAfter (1) (s_CuesIssue_cueBroadcast.ctr (Isa.ctr3 0x6c047000ffc020000000000000000000)) < 2 ^ 32 ∧ inFlight s_CuesIssue_cueBroadcast < 4096 ∧ (openOps s_CuesIssue_cueBroadcast (5)).length < 2 ∧ (s_CuesIssue_cueBroadcast.theCtx (63 : Fin 64)).refusal = 0 ∧ ((engUnit (grpEngine s_CuesIssue_cueBroadcast (5)) :: operTiles s_CuesIssue_cueBroadcast (operOf (s_CuesIssue_cueBroadcast.theCtx (63 : Fin 64)) 0x6c047000ffc020000000000000000000)).all (fun u => !(unitStale s_CuesIssue_cueBroadcast u)) = true) ∧ (Isa.svc 0x6c047000ffc020000000000000000000 = 0 ∨ (mayUseCircuits 0x6c047000ffc020000000000000000000 = true ∧ circuitsAdmit s_CuesIssue_cueBroadcast (newOp s_CuesIssue_cueBroadcast (63 : Fin 64) (5) 0 (Oper.outFmt (operOf (s_CuesIssue_cueBroadcast.theCtx (63 : Fin 64)) 0x6c047000ffc020000000000000000000)) (Oper.outShape (operOf (s_CuesIssue_cueBroadcast.theCtx (63 : Fin 64)) 0x6c047000ffc020000000000000000000)).1 (Oper.outShape (operOf (s_CuesIssue_cueBroadcast.theCtx (63 : Fin 64)) 0x6c047000ffc020000000000000000000)).2 0x6c047000ffc020000000000000000000 [Oper.d (operOf (s_CuesIssue_cueBroadcast.theCtx (63 : Fin 64)) 0x6c047000ffc020000000000000000000), Oper.a (operOf (s_CuesIssue_cueBroadcast.theCtx (63 : Fin 64)) 0x6c047000ffc020000000000000000000), Oper.b (operOf (s_CuesIssue_cueBroadcast.theCtx (63 : Fin 64)) 0x6c047000ffc020000000000000000000), Oper.c (operOf (s_CuesIssue_cueBroadcast.theCtx (63 : Fin 64)) 0x6c047000ffc020000000000000000000), (s_CuesIssue_cueBroadcast.theCtx (63 : Fin 64)).dreg (Isa.epiRes 0x6c047000ffc020000000000000000000), (s_CuesIssue_cueBroadcast.theCtx (63 : Fin 64)).dreg (Isa.epiGain 0x6c047000ffc020000000000000000000)]) = true)) ∧ Ctr.binds (s_CuesIssue_cueBroadcast.ctr (Isa.ctr3 0x6c047000ffc020000000000000000000)) = true ∧ abortedCode s_CuesIssue_cueBroadcast (5) (s_CuesIssue_cueBroadcast.fld (Reg.grpOpseq (5))) = none ∧ s_CuesIssue_cueBroadcast.opById s_CuesIssue_cueBroadcast.cue.nextId = none ∧ (s_CuesIssue_cueBroadcast.grp (5)).early = [] ∧ grpBasepos s_CuesIssue_cueBroadcast (5) ≠ 0 := by
  decide +kernel

def s_CuesIssue_cueBroadcast2 : State := grouped ((runner 0x6c047000ffc020000000000000000000 [(1, 5), (2, 9), (3, 0xFFFFFFFFFFFFFFFF), (4, 0x1000000000000100), (5, 64)] [(0, dsc 0 9 1 3 0 0), (1, dsc 0x100 9 1 3 0 0)]))

theorem test_CuesIssue_cueBroadcast2 :
    0x6c047000ffc020000000000000000000 = fetchWord s_CuesIssue_cueBroadcast2 (63 : Fin 64) ∧ issues s_CuesIssue_cueBroadcast2 (63 : Fin 64) = true ∧ Isa.fmt 0x6c047000ffc020000000000000000000 = 4 ∧ Isa.opc 0x6c047000ffc020000000000000000000 ≤ 0x6E ∧ Isa.xmode 0x6c047000ffc020000000000000000000 = 7 ∧ follows s_CuesIssue_cueBroadcast2 (63 : Fin 64) = true ∧ groupOf s_CuesIssue_cueBroadcast2 (63 : Fin 64) 0x6c047000ffc020000000000000000000 = some (5) ∧ cueOk s_CuesIssue_cueBroadcast2 (63 : Fin 64) (5) (operOf (s_CuesIssue_cueBroadcast2.theCtx (63 : Fin 64)) 0x6c047000ffc020000000000000000000) ((s_CuesIssue_cueBroadcast2.theCtx (63 : Fin 64)).dreg (Isa.epiRes 0x6c047000ffc020000000000000000000)) ((s_CuesIssue_cueBroadcast2.theCtx (63 : Fin 64)).dreg (Isa.epiGain 0x6c047000ffc020000000000000000000)) = true ∧ (1) = boundChunks s_CuesIssue_cueBroadcast2 (5) (Isa.xmode 0x6c047000ffc020000000000000000000) (contribBytes (operOf (s_CuesIssue_cueBroadcast2.theCtx (63 : Fin 64)) 0x6c047000ffc020000000000000000000)) ∧ Ctr.targetAfter (1) (s_CuesIssue_cueBroadcast2.ctr (Isa.ctr3 0x6c047000ffc020000000000000000000)) < 2 ^ 32 ∧ inFlight s_CuesIssue_cueBroadcast2 < 4096 ∧ (openOps s_CuesIssue_cueBroadcast2 (5)).length < 2 ∧ (s_CuesIssue_cueBroadcast2.theCtx (63 : Fin 64)).refusal = 0 ∧ ((engUnit (grpEngine s_CuesIssue_cueBroadcast2 (5)) :: operTiles s_CuesIssue_cueBroadcast2 (operOf (s_CuesIssue_cueBroadcast2.theCtx (63 : Fin 64)) 0x6c047000ffc020000000000000000000)).all (fun u => !(unitStale s_CuesIssue_cueBroadcast2 u)) = true) ∧ (Isa.svc 0x6c047000ffc020000000000000000000 = 0 ∨ (mayUseCircuits 0x6c047000ffc020000000000000000000 = true ∧ circuitsAdmit s_CuesIssue_cueBroadcast2 (newOp s_CuesIssue_cueBroadcast2 (63 : Fin 64) (5) 0 (Oper.outFmt (operOf (s_CuesIssue_cueBroadcast2.theCtx (63 : Fin 64)) 0x6c047000ffc020000000000000000000)) (Oper.outShape (operOf (s_CuesIssue_cueBroadcast2.theCtx (63 : Fin 64)) 0x6c047000ffc020000000000000000000)).1 (Oper.outShape (operOf (s_CuesIssue_cueBroadcast2.theCtx (63 : Fin 64)) 0x6c047000ffc020000000000000000000)).2 0x6c047000ffc020000000000000000000 [Oper.d (operOf (s_CuesIssue_cueBroadcast2.theCtx (63 : Fin 64)) 0x6c047000ffc020000000000000000000), Oper.a (operOf (s_CuesIssue_cueBroadcast2.theCtx (63 : Fin 64)) 0x6c047000ffc020000000000000000000), Oper.b (operOf (s_CuesIssue_cueBroadcast2.theCtx (63 : Fin 64)) 0x6c047000ffc020000000000000000000), Oper.c (operOf (s_CuesIssue_cueBroadcast2.theCtx (63 : Fin 64)) 0x6c047000ffc020000000000000000000), (s_CuesIssue_cueBroadcast2.theCtx (63 : Fin 64)).dreg (Isa.epiRes 0x6c047000ffc020000000000000000000), (s_CuesIssue_cueBroadcast2.theCtx (63 : Fin 64)).dreg (Isa.epiGain 0x6c047000ffc020000000000000000000)]) = true)) ∧ Ctr.binds (s_CuesIssue_cueBroadcast2.ctr (Isa.ctr3 0x6c047000ffc020000000000000000000)) = true ∧ abortedCode s_CuesIssue_cueBroadcast2 (5) (s_CuesIssue_cueBroadcast2.fld (Reg.grpOpseq (5))) = none ∧ s_CuesIssue_cueBroadcast2.opById s_CuesIssue_cueBroadcast2.cue.nextId = none ∧ (s_CuesIssue_cueBroadcast2.grp (5)).early = [] ∧ grpBasepos s_CuesIssue_cueBroadcast2 (5) = 0 := by
  decide +kernel

def s_CuesIssue_cueSelect : State := grouped ((runner 0x68048000ffc020700000000000000002 [(1, 5), (2, 9), (3, 0xFFFFFFFFFFFFFFFF), (4, 0x1000000000000100), (5, 64)] [(0, dsc 0 9 1 2 0 0), (1, dsc 0x100 9 1 3 0 0), (3, dsc 0x300 11 1 2 0 0)]))

theorem test_CuesIssue_cueSelect :
    0x68048000ffc020700000000000000002 = fetchWord s_CuesIssue_cueSelect (63 : Fin 64) ∧ issues s_CuesIssue_cueSelect (63 : Fin 64) = true ∧ Isa.fmt 0x68048000ffc020700000000000000002 = 4 ∧ Isa.opc 0x68048000ffc020700000000000000002 ≤ 0x6E ∧ Isa.xmode 0x68048000ffc020700000000000000002 = 8 ∧ follows s_CuesIssue_cueSelect (63 : Fin 64) = true ∧ groupOf s_CuesIssue_cueSelect (63 : Fin 64) 0x68048000ffc020700000000000000002 = some (5) ∧ cueOk s_CuesIssue_cueSelect (63 : Fin 64) (5) (operOf (s_CuesIssue_cueSelect.theCtx (63 : Fin 64)) 0x68048000ffc020700000000000000002) ((s_CuesIssue_cueSelect.theCtx (63 : Fin 64)).dreg (Isa.epiRes 0x68048000ffc020700000000000000002)) ((s_CuesIssue_cueSelect.theCtx (63 : Fin 64)).dreg (Isa.epiGain 0x68048000ffc020700000000000000002)) = true ∧ (1) = boundChunks s_CuesIssue_cueSelect (5) (Isa.xmode 0x68048000ffc020700000000000000002) (contribBytes (operOf (s_CuesIssue_cueSelect.theCtx (63 : Fin 64)) 0x68048000ffc020700000000000000002)) ∧ Ctr.targetAfter (1) (s_CuesIssue_cueSelect.ctr (Isa.ctr3 0x68048000ffc020700000000000000002)) < 2 ^ 32 ∧ inFlight s_CuesIssue_cueSelect < 4096 ∧ (openOps s_CuesIssue_cueSelect (5)).length < 2 ∧ (s_CuesIssue_cueSelect.theCtx (63 : Fin 64)).refusal = 0 ∧ ((engUnit (grpEngine s_CuesIssue_cueSelect (5)) :: operTiles s_CuesIssue_cueSelect (operOf (s_CuesIssue_cueSelect.theCtx (63 : Fin 64)) 0x68048000ffc020700000000000000002)).all (fun u => !(unitStale s_CuesIssue_cueSelect u)) = true) ∧ (Isa.svc 0x68048000ffc020700000000000000002 = 0 ∨ (mayUseCircuits 0x68048000ffc020700000000000000002 = true ∧ circuitsAdmit s_CuesIssue_cueSelect (newOp s_CuesIssue_cueSelect (63 : Fin 64) (5) 0 (Oper.outFmt (operOf (s_CuesIssue_cueSelect.theCtx (63 : Fin 64)) 0x68048000ffc020700000000000000002)) (Oper.outShape (operOf (s_CuesIssue_cueSelect.theCtx (63 : Fin 64)) 0x68048000ffc020700000000000000002)).1 (Oper.outShape (operOf (s_CuesIssue_cueSelect.theCtx (63 : Fin 64)) 0x68048000ffc020700000000000000002)).2 0x68048000ffc020700000000000000002 [Oper.d (operOf (s_CuesIssue_cueSelect.theCtx (63 : Fin 64)) 0x68048000ffc020700000000000000002), Oper.a (operOf (s_CuesIssue_cueSelect.theCtx (63 : Fin 64)) 0x68048000ffc020700000000000000002), Oper.b (operOf (s_CuesIssue_cueSelect.theCtx (63 : Fin 64)) 0x68048000ffc020700000000000000002), Oper.c (operOf (s_CuesIssue_cueSelect.theCtx (63 : Fin 64)) 0x68048000ffc020700000000000000002), (s_CuesIssue_cueSelect.theCtx (63 : Fin 64)).dreg (Isa.epiRes 0x68048000ffc020700000000000000002), (s_CuesIssue_cueSelect.theCtx (63 : Fin 64)).dreg (Isa.epiGain 0x68048000ffc020700000000000000002)]) = true)) ∧ Ctr.binds (s_CuesIssue_cueSelect.ctr (Isa.ctr3 0x68048000ffc020700000000000000002)) = true ∧ abortedCode s_CuesIssue_cueSelect (5) (s_CuesIssue_cueSelect.fld (Reg.grpOpseq (5))) = none ∧ s_CuesIssue_cueSelect.opById s_CuesIssue_cueSelect.cue.nextId = none ∧ (s_CuesIssue_cueSelect.grp (5)).early = [] := by
  decide +kernel

def a_CuesIssue_curtain : BitVec 256 := BitVec.ofNat 256 (dsc 0 9 1 1 0 0)

def d_CuesIssue_curtain : BitVec 256 := BitVec.ofNat 256 (dsc 0 9 1 1 0 0)

def s_CuesIssue_curtain : State := grouped ((runner 0xa0049000ffc000000000000000000000 [(1, 5), (2, 9), (3, 0xFFFFFFFFFFFFFFFF), (4, 0x1000000000000100), (5, 64)] [(0, dsc 0 9 1 1 0 0), (1, dsc 0x100 9 1 1 0 0)]))

theorem test_CuesIssue_curtain :
    0xa0049000ffc000000000000000000000 = fetchWord s_CuesIssue_curtain (63 : Fin 64) ∧ issues s_CuesIssue_curtain (63 : Fin 64) = true ∧ Isa.opc 0xa0049000ffc000000000000000000000 = 0xa0 ∧ follows s_CuesIssue_curtain (63 : Fin 64) = true ∧ groupOf s_CuesIssue_curtain (63 : Fin 64) 0xa0049000ffc000000000000000000000 = some (5) ∧ asideOk s_CuesIssue_curtain (63 : Fin 64) 0xa0049000ffc000000000000000000000 a_CuesIssue_curtain d_CuesIssue_curtain = true ∧ a_CuesIssue_curtain = (s_CuesIssue_curtain.theCtx (63 : Fin 64)).dreg (Isa.srcA 0xa0049000ffc000000000000000000000) ∧ d_CuesIssue_curtain = (s_CuesIssue_curtain.theCtx (63 : Fin 64)).dreg (Isa.dst 0xa0049000ffc000000000000000000000) ∧ Ctr.targetAfter 1 (s_CuesIssue_curtain.ctr (Isa.ctr3 0xa0049000ffc000000000000000000000)) < 2 ^ 32 ∧ inFlight s_CuesIssue_curtain < 4096 ∧ (openOps s_CuesIssue_curtain (5)).length < 2 ∧ (s_CuesIssue_curtain.theCtx (63 : Fin 64)).refusal = 0 ∧ unitStale s_CuesIssue_curtain (engUnit (grpEngine s_CuesIssue_curtain (5))) = false ∧ Isa.svc 0xa0049000ffc000000000000000000000 = 0 ∧ s_CuesIssue_curtain.col.aside = [] ∧ Ctr.binds (s_CuesIssue_curtain.ctr (Isa.ctr3 0xa0049000ffc000000000000000000000)) = true ∧ abortedCode s_CuesIssue_curtain (5) (s_CuesIssue_curtain.fld (Reg.grpOpseq (5))) = none ∧ s_CuesIssue_curtain.opById s_CuesIssue_curtain.cue.nextId = none := by
  decide +kernel

def a_CuesIssue_aside : BitVec 256 := BitVec.ofNat 256 (dsc 0x100 9 1 1 0 0)

def d_CuesIssue_aside : BitVec 256 := BitVec.ofNat 256 (dsc 0 9 1 1 0 0)

def s_CuesIssue_aside : State := grouped ((runner 0xa104a000ffc020000000000000000000 [(1, 5), (2, 9), (3, 0xFFFFFFFFFFFFFFFF), (4, 0x1000000000000100), (5, 64)] [(0, dsc 0 9 1 1 0 0), (1, dsc 0x100 9 1 1 0 0)]))

theorem test_CuesIssue_aside :
    0xa104a000ffc020000000000000000000 = fetchWord s_CuesIssue_aside (63 : Fin 64) ∧ issues s_CuesIssue_aside (63 : Fin 64) = true ∧ Isa.opc 0xa104a000ffc020000000000000000000 = 0xa1 ∧ follows s_CuesIssue_aside (63 : Fin 64) = true ∧ groupOf s_CuesIssue_aside (63 : Fin 64) 0xa104a000ffc020000000000000000000 = some (5) ∧ asideOk s_CuesIssue_aside (63 : Fin 64) 0xa104a000ffc020000000000000000000 a_CuesIssue_aside d_CuesIssue_aside = true ∧ a_CuesIssue_aside = (s_CuesIssue_aside.theCtx (63 : Fin 64)).dreg (Isa.srcA 0xa104a000ffc020000000000000000000) ∧ d_CuesIssue_aside = (s_CuesIssue_aside.theCtx (63 : Fin 64)).dreg (Isa.dst 0xa104a000ffc020000000000000000000) ∧ extentAwake s_CuesIssue_aside a_CuesIssue_aside = true ∧ extentAwake s_CuesIssue_aside d_CuesIssue_aside = true ∧ firstBadWord s_CuesIssue_aside (Desc.base a_CuesIssue_aside) (Desc.packedBytes a_CuesIssue_aside) = none ∧ flightWrites s_CuesIssue_aside (63 : Fin 64) (Desc.extent a_CuesIssue_aside false) = false ∧ flightTouches s_CuesIssue_aside (63 : Fin 64) (Desc.extent d_CuesIssue_aside false) = false ∧ Ctr.targetAfter 1 (s_CuesIssue_aside.ctr (Isa.ctr3 0xa104a000ffc020000000000000000000)) < 2 ^ 32 ∧ inFlight s_CuesIssue_aside < 4096 ∧ (openOps s_CuesIssue_aside (5)).length < 2 ∧ (s_CuesIssue_aside.theCtx (63 : Fin 64)).refusal = 0 ∧ unitStale s_CuesIssue_aside (engUnit (grpEngine s_CuesIssue_aside (5))) = false ∧ Isa.svc 0xa104a000ffc020000000000000000000 = 0 ∧ s_CuesIssue_aside.col.aside = [] ∧ Ctr.binds (s_CuesIssue_aside.ctr (Isa.ctr3 0xa104a000ffc020000000000000000000)) = true ∧ abortedCode s_CuesIssue_aside (5) (s_CuesIssue_aside.fld (Reg.grpOpseq (5))) = none ∧ s_CuesIssue_aside.opById s_CuesIssue_aside.cue.nextId = none := by
  decide +kernel

/-! GroupTableActs. -/

theorem test_GroupTableActs_groupWordHold :
    (linksLive live = true) ∧ goes (.groupWordHold (4095 : Fin 4096) (2 : Fin 3) (0xFFFFFFFFFFFFFFFF : Word)) live
      (fun t => decide (Tab.get (fun _ => none) (t.grp (4095 : Fin 4096)).held ((2 : Fin 3) + 1) = some (0xFFFFFFFFFFFFFFFF : Word)) && decide (t.regs = live.regs) && decide (t.mem = live.mem) && decide (t.col.ops = live.col.ops)) = true := by
  decide +kernel

theorem test_GroupTableActs_groupCommit :
    (linksLive (crossed (crossing 1)) = true ∧ ((crossed (crossing 1)).col.ops.any (fun o => decide (o.group = (5 : Fin 4096)) && !o.ended) = true)) ∧ goes (.groupCommit (5 : Fin 4096) (0 : Word)) (crossed (crossing 1))
      (fun t => decide (t.fld (Reg.grpResult (5 : Fin 4096)) = grBusy) && decide (t.word (Reg.grpWord (5 : Fin 4096) 0) = (crossed (crossing 1)).word (Reg.grpWord (5 : Fin 4096) 0)) && decide (t.col.ops = (crossed (crossing 1)).col.ops) && decide (t.mem = (crossed (crossing 1)).mem) && decide (onlyRegs [(Reg.grpResult (5 : Fin 4096)).off, (Reg.grpWord (5 : Fin 4096) 0)] (crossed (crossing 1)) t = true)) = true := by
  decide +kernel

theorem test_GroupTableActs_groupCommit2 :
    (linksLive (grouped live) = true ∧ ((grouped live).col.ops.any (fun o => decide (o.group = (5 : Fin 4096)) && !o.ended) = false) ∧ field (0 : Word) 0 1 = 0) ∧ goes (.groupCommit (5 : Fin 4096) (0 : Word)) (grouped live)
      (fun t => decide (t.word (Reg.grpWord (5 : Fin 4096) (3 : Fin 4)) = 0) && decide (t.fld (Reg.grpResult (5 : Fin 4096)) = 0) && decide (t.fld (Reg.grpOpseq (5 : Fin 4096)) = 0) && decide (t.col.ops = (grouped live).col.ops)) = true := by
  decide +kernel

theorem test_GroupTableActs_groupCommit3 :
    (linksLive (grouped live) = true ∧ ((grouped live).col.ops.any (fun o => decide (o.group = (5 : Fin 4096)) && !o.ended) = false) ∧ field (1 : Word) 0 1 = 1 ∧ fieldRefused (grouped live) (commitWords (grouped live) (5 : Fin 4096) (1 : Word)) = true) ∧ goes (.groupCommit (5 : Fin 4096) (1 : Word)) (grouped live)
      (fun t => decide (t.fld (Reg.grpResult (5 : Fin 4096)) = grBadEntry) && decide (t.fld Reg.colCfgErr = 1) && decide (t.word (Reg.grpWord (5 : Fin 4096) 0) = (grouped live).word (Reg.grpWord (5 : Fin 4096) 0)) && decide (t.col.ops = (grouped live).col.ops) && decide (t.mem = (grouped live).mem)) = true := by
  decide +kernel

def value_GroupTableActs_groupCommit4 : Word := BitVec.ofNat 64 (1 + 1 * 2 ^ 1 + 1 * 2 ^ 20 + 1 * 2 ^ 29 + 1 * 2 ^ 38 + 4 * 2 ^ 46)

theorem test_GroupTableActs_groupCommit4 :
    linksLive (grouped live) = true ∧ ((grouped live).col.ops.any (fun o => decide (o.group = (5 : Fin 4096)) && !o.ended) = false) ∧ field value_GroupTableActs_groupCommit4 0 1 = 1 ∧ fieldRefused (grouped live) (commitWords (grouped live) (5 : Fin 4096) value_GroupTableActs_groupCommit4) = false ∧ boxOk (grouped live) (commitWords (grouped live) (5 : Fin 4096) value_GroupTableActs_groupCommit4) = true ∧ minStage (commitWords (grouped live) (5 : Fin 4096) value_GroupTableActs_groupCommit4) ≤ entryField (commitWords (grouped live) (5 : Fin 4096) value_GroupTableActs_groupCommit4) 128 12 ∧ findSpace (grouped live) (entryField (commitWords (grouped live) (5 : Fin 4096) value_GroupTableActs_groupCommit4) 3 4 / 4) (entryField (commitWords (grouped live) (5 : Fin 4096) value_GroupTableActs_groupCommit4) 128 12 * 65536) = some (0) := by
  decide +kernel

/-! CollectiveFramesAct. -/

def h_CollectiveFramesAct_colContribReceive : InFrame := InFrame.mk (inFrame 6 0 1 5 0 0 [1]) 8 0

def s_CollectiveFramesAct_colContribReceive : State := arrived (inFrame 6 0 1 5 0 0 [1]) (grouped live)

theorem test_CollectiveFramesAct_colContribReceive :
    linksLive s_CollectiveFramesAct_colContribReceive = true ∧ quiet s_CollectiveFramesAct_colContribReceive = true ∧ inboxOf s_CollectiveFramesAct_colContribReceive (inFrame 6 0 1 5 0 0 [1] : Frame) = some h_CollectiveFramesAct_colContribReceive ∧ sleepingOps s_CollectiveFramesAct_colContribReceive (inFrame 6 0 1 5 0 0 [1] : Frame) = [] ∧ Frame.type (inFrame 6 0 1 5 0 0 [1] : Frame) = tyColContrib ∧ grpValid s_CollectiveFramesAct_colContribReceive (Frame.group (inFrame 6 0 1 5 0 0 [1] : Frame)) = true ∧ opseqOf s_CollectiveFramesAct_colContribReceive (inFrame 6 0 1 5 0 0 [1] : Frame) = some (1) ∧ s_CollectiveFramesAct_colContribReceive.op (Frame.group (inFrame 6 0 1 5 0 0 [1] : Frame)) (1) = none ∧ inSlots s_CollectiveFramesAct_colContribReceive (Frame.group (inFrame 6 0 1 5 0 0 [1] : Frame)) (1) = true ∧ trigsOf s_CollectiveFramesAct_colContribReceive 0 (Frame.group (inFrame 6 0 1 5 0 0 [1] : Frame)) = [] := by
  decide +kernel

def f_CollectiveFramesAct_colContribReceive2 : Frame := inFrame 6 0 0 5 (0x12345678 * 65536) 1 [1]

def h_CollectiveFramesAct_colContribReceive2 : InFrame := InFrame.mk (inFrame 6 0 0 5 (0x12345678 * 65536) 1 [1]) 8 0

def s_CollectiveFramesAct_colContribReceive2 : State := arrived (inFrame 6 0 0 5 (0x12345678 * 65536) 1 [1]) (crossed (crossing 1))

theorem test_CollectiveFramesAct_colContribReceive2 :
    linksLive s_CollectiveFramesAct_colContribReceive2 = true ∧ quiet s_CollectiveFramesAct_colContribReceive2 = true ∧ inboxOf s_CollectiveFramesAct_colContribReceive2 f_CollectiveFramesAct_colContribReceive2 = some h_CollectiveFramesAct_colContribReceive2 ∧ sleepingOps s_CollectiveFramesAct_colContribReceive2 f_CollectiveFramesAct_colContribReceive2 = [] ∧ Frame.type f_CollectiveFramesAct_colContribReceive2 = tyColContrib ∧ grpValid s_CollectiveFramesAct_colContribReceive2 (Frame.group f_CollectiveFramesAct_colContribReceive2) = true ∧ opseqOf s_CollectiveFramesAct_colContribReceive2 f_CollectiveFramesAct_colContribReceive2 = some (crossing 1 : Op).opseq ∧ s_CollectiveFramesAct_colContribReceive2.op (Frame.group f_CollectiveFramesAct_colContribReceive2) (crossing 1 : Op).opseq = some (crossing 1 : Op) ∧ s_CollectiveFramesAct_colContribReceive2.opById (crossing 1 : Op).id = some (crossing 1 : Op) ∧ (crossing 1 : Op).group = Frame.group f_CollectiveFramesAct_colContribReceive2 ∧ inSlots s_CollectiveFramesAct_colContribReceive2 (Frame.group f_CollectiveFramesAct_colContribReceive2) (crossing 1 : Op).opseq = true ∧ (crossing 1 : Op).ended = false ∧ Frame.addr f_CollectiveFramesAct_colContribReceive2 / 65536 = (crossing 1 : Op).sig ∧ Frame.op f_CollectiveFramesAct_colContribReceive2 % 16 < 4 ∧ (Frame.op f_CollectiveFramesAct_colContribReceive2 % 16 = 0 → (crossing 1 : Op).xmode = 1) ∧ Frame.addr f_CollectiveFramesAct_colContribReceive2 % 65536 < (crossing 1 : Op).perMember s_CollectiveFramesAct_colContribReceive2 ∧ (crossing 1 : Op).xmode ≠ Isa.xSELECT ∧ (crossing 1 : Op).copies = [] := by
  decide +kernel

def h_CollectiveFramesAct_colResultReceive : InFrame := InFrame.mk (inFrame 7 0 1 5 0 4 [1]) 8 0

def s_CollectiveFramesAct_colResultReceive : State := arrived (inFrame 7 0 1 5 0 4 [1]) (grouped live)

theorem test_CollectiveFramesAct_colResultReceive :
    linksLive s_CollectiveFramesAct_colResultReceive = true ∧ quiet s_CollectiveFramesAct_colResultReceive = true ∧ inboxOf s_CollectiveFramesAct_colResultReceive (inFrame 7 0 1 5 0 4 [1] : Frame) = some h_CollectiveFramesAct_colResultReceive ∧ sleepingOps s_CollectiveFramesAct_colResultReceive (inFrame 7 0 1 5 0 4 [1] : Frame) = [] ∧ Frame.type (inFrame 7 0 1 5 0 4 [1] : Frame) = tyColResult ∧ grpValid s_CollectiveFramesAct_colResultReceive (Frame.group (inFrame 7 0 1 5 0 4 [1] : Frame)) = true ∧ opseqOf s_CollectiveFramesAct_colResultReceive (inFrame 7 0 1 5 0 4 [1] : Frame) = some (1) ∧ s_CollectiveFramesAct_colResultReceive.op (Frame.group (inFrame 7 0 1 5 0 4 [1] : Frame)) (1) = none ∧ inSlots s_CollectiveFramesAct_colResultReceive (Frame.group (inFrame 7 0 1 5 0 4 [1] : Frame)) (1) = true := by
  decide +kernel

def f_CollectiveFramesAct_colResultReceive2 : Frame := inFrame 7 0 0 5 (0x12345678 * 65536) 4 [1]

def h_CollectiveFramesAct_colResultReceive2 : InFrame := InFrame.mk (inFrame 7 0 0 5 (0x12345678 * 65536) 4 [1]) 8 0

def s_CollectiveFramesAct_colResultReceive2 : State := arrived (inFrame 7 0 0 5 (0x12345678 * 65536) 4 [1]) (crossed (crossing 4))

theorem test_CollectiveFramesAct_colResultReceive2 :
    linksLive s_CollectiveFramesAct_colResultReceive2 = true ∧ quiet s_CollectiveFramesAct_colResultReceive2 = true ∧ inboxOf s_CollectiveFramesAct_colResultReceive2 f_CollectiveFramesAct_colResultReceive2 = some h_CollectiveFramesAct_colResultReceive2 ∧ sleepingOps s_CollectiveFramesAct_colResultReceive2 f_CollectiveFramesAct_colResultReceive2 = [] ∧ Frame.type f_CollectiveFramesAct_colResultReceive2 = tyColResult ∧ grpValid s_CollectiveFramesAct_colResultReceive2 (Frame.group f_CollectiveFramesAct_colResultReceive2) = true ∧ opseqOf s_CollectiveFramesAct_colResultReceive2 f_CollectiveFramesAct_colResultReceive2 = some (crossing 4 : Op).opseq ∧ s_CollectiveFramesAct_colResultReceive2.op (Frame.group f_CollectiveFramesAct_colResultReceive2) (crossing 4 : Op).opseq = some (crossing 4 : Op) ∧ s_CollectiveFramesAct_colResultReceive2.opById (crossing 4 : Op).id = some (crossing 4 : Op) ∧ (crossing 4 : Op).group = Frame.group f_CollectiveFramesAct_colResultReceive2 ∧ inSlots s_CollectiveFramesAct_colResultReceive2 (Frame.group f_CollectiveFramesAct_colResultReceive2) (crossing 4 : Op).opseq = true ∧ (crossing 4 : Op).ended = false ∧ Frame.addr f_CollectiveFramesAct_colResultReceive2 / 65536 = (crossing 4 : Op).sig ∧ 4 ≤ Frame.op f_CollectiveFramesAct_colResultReceive2 % 16 ∧ Frame.op f_CollectiveFramesAct_colResultReceive2 % 16 ≤ 6 ∧ (crossing 4 : Op).xmode = Isa.xEXCHANGE ∧ (0) = Frame.addr f_CollectiveFramesAct_colResultReceive2 % 65536 ∧ ((crossing 4 : Op).done.all (fun d => decide (d.chunk ≠ (0))) = true) ∧ (s_CollectiveFramesAct_colResultReceive2.ctr (crossing 4 : Op).ctr).kind = 0 ∧ (1) = (crossing 4 : Op).perMember s_CollectiveFramesAct_colResultReceive2 ∧ (1) = max 1 (grpNmem s_CollectiveFramesAct_colResultReceive2 (crossing 4 : Op).group) := by
  decide +kernel

def f_CollectiveFramesAct_retractReceive : Frame := inFrame 8 0 0 5 0 1 (leBytes 2 0 ++ [1, 2])

def h_CollectiveFramesAct_retractReceive : InFrame := InFrame.mk (inFrame 8 0 0 5 0 1 (leBytes 2 0 ++ [1, 2])) 8 0

def s_CollectiveFramesAct_retractReceive : State := arrived (inFrame 8 0 0 5 0 1 (leBytes 2 0 ++ [1, 2])) (crossed (crossing 1))

theorem test_CollectiveFramesAct_retractReceive :
    linksLive s_CollectiveFramesAct_retractReceive = true ∧ quiet s_CollectiveFramesAct_retractReceive = true ∧ inboxOf s_CollectiveFramesAct_retractReceive f_CollectiveFramesAct_retractReceive = some h_CollectiveFramesAct_retractReceive ∧ sleepingOps s_CollectiveFramesAct_retractReceive f_CollectiveFramesAct_retractReceive = [] ∧ Frame.type f_CollectiveFramesAct_retractReceive = tyColCtrl ∧ grpValid s_CollectiveFramesAct_retractReceive (Frame.group f_CollectiveFramesAct_retractReceive) = true ∧ opseqOf s_CollectiveFramesAct_retractReceive f_CollectiveFramesAct_retractReceive = some (crossing 1 : Op).opseq ∧ s_CollectiveFramesAct_retractReceive.op (Frame.group f_CollectiveFramesAct_retractReceive) (crossing 1 : Op).opseq = some (crossing 1 : Op) ∧ s_CollectiveFramesAct_retractReceive.opById (crossing 1 : Op).id = some (crossing 1 : Op) ∧ (crossing 1 : Op).group = Frame.group f_CollectiveFramesAct_retractReceive ∧ inSlots s_CollectiveFramesAct_retractReceive (Frame.group f_CollectiveFramesAct_retractReceive) (crossing 1 : Op).opseq = true ∧ (crossing 1 : Op).ended = false ∧ Frame.op f_CollectiveFramesAct_retractReceive = 1 ∧ leAt f_CollectiveFramesAct_retractReceive.payload 0 2 < (crossing 1 : Op).perMember s_CollectiveFramesAct_retractReceive ∧ (crossing 1 : Op).copies = [] ∧ leAt f_CollectiveFramesAct_retractReceive.payload 3 1 ≠ 0 := by
  decide +kernel

def f_CollectiveFramesAct_retractReceive2 : Frame := inFrame 8 0 0 5 0 1 (leBytes 2 0 ++ [1, 2])

def h_CollectiveFramesAct_retractReceive2 : InFrame := InFrame.mk (inFrame 8 0 0 5 0 1 (leBytes 2 0 ++ [1, 2])) 8 0

def o_CollectiveFramesAct_retractReceive2 : Op := { crossing 1 with copies := [Copy.mk 1 0 (1 * 16 + 8) 0 [1] true] }

def c_CollectiveFramesAct_retractReceive2 : Copy := Copy.mk 1 0 (1 * 16 + 8) 0 [1] true

def s_CollectiveFramesAct_retractReceive2 : State := arrived (inFrame 8 0 0 5 0 1 (leBytes 2 0 ++ [1, 2])) (crossed { crossing 1 with copies := [Copy.mk 1 0 (1 * 16 + 8) 0 [1] true] })

theorem test_CollectiveFramesAct_retractReceive2 :
    linksLive s_CollectiveFramesAct_retractReceive2 = true ∧ quiet s_CollectiveFramesAct_retractReceive2 = true ∧ inboxOf s_CollectiveFramesAct_retractReceive2 f_CollectiveFramesAct_retractReceive2 = some h_CollectiveFramesAct_retractReceive2 ∧ sleepingOps s_CollectiveFramesAct_retractReceive2 f_CollectiveFramesAct_retractReceive2 = [] ∧ Frame.type f_CollectiveFramesAct_retractReceive2 = tyColCtrl ∧ grpValid s_CollectiveFramesAct_retractReceive2 (Frame.group f_CollectiveFramesAct_retractReceive2) = true ∧ opseqOf s_CollectiveFramesAct_retractReceive2 f_CollectiveFramesAct_retractReceive2 = some o_CollectiveFramesAct_retractReceive2.opseq ∧ s_CollectiveFramesAct_retractReceive2.op (Frame.group f_CollectiveFramesAct_retractReceive2) o_CollectiveFramesAct_retractReceive2.opseq = some o_CollectiveFramesAct_retractReceive2 ∧ s_CollectiveFramesAct_retractReceive2.opById o_CollectiveFramesAct_retractReceive2.id = some o_CollectiveFramesAct_retractReceive2 ∧ o_CollectiveFramesAct_retractReceive2.group = Frame.group f_CollectiveFramesAct_retractReceive2 ∧ inSlots s_CollectiveFramesAct_retractReceive2 (Frame.group f_CollectiveFramesAct_retractReceive2) o_CollectiveFramesAct_retractReceive2.opseq = true ∧ o_CollectiveFramesAct_retractReceive2.ended = false ∧ Frame.op f_CollectiveFramesAct_retractReceive2 = 1 ∧ leAt f_CollectiveFramesAct_retractReceive2.payload 0 2 < o_CollectiveFramesAct_retractReceive2.perMember s_CollectiveFramesAct_retractReceive2 ∧ o_CollectiveFramesAct_retractReceive2.copies = [c_CollectiveFramesAct_retractReceive2] ∧ c_CollectiveFramesAct_retractReceive2.stage = leAt f_CollectiveFramesAct_retractReceive2.payload 2 1 ∧ c_CollectiveFramesAct_retractReceive2.chunk = leAt f_CollectiveFramesAct_retractReceive2.payload 0 2 ∧ c_CollectiveFramesAct_retractReceive2.src = Frame.src f_CollectiveFramesAct_retractReceive2 * 16 + Frame.srcPort f_CollectiveFramesAct_retractReceive2 ∧ c_CollectiveFramesAct_retractReceive2.rev < leAt f_CollectiveFramesAct_retractReceive2.payload 3 1 ∧ o_CollectiveFramesAct_retractReceive2.sums = [] ∧ o_CollectiveFramesAct_retractReceive2.sends = [] ∧ o_CollectiveFramesAct_retractReceive2.rowsLanded = [] := by
  decide +kernel

def f_CollectiveFramesAct_verifiedReceive : Frame := inFrame 8 0 0 5 0 2 (leBytes 2 0 ++ leBytes 2 0 ++ [1])

def h_CollectiveFramesAct_verifiedReceive : InFrame := InFrame.mk (inFrame 8 0 0 5 0 2 (leBytes 2 0 ++ leBytes 2 0 ++ [1])) 8 0

def o_CollectiveFramesAct_verifiedReceive : Op := { crossing 1 with copies := [Copy.mk 1 0 (1 * 16 + 8) 0 [1] true] }

def c_CollectiveFramesAct_verifiedReceive : Copy := Copy.mk 1 0 (1 * 16 + 8) 0 [1] true

def s_CollectiveFramesAct_verifiedReceive : State := arrived (inFrame 8 0 0 5 0 2 (leBytes 2 0 ++ leBytes 2 0 ++ [1])) (crossed { crossing 1 with copies := [Copy.mk 1 0 (1 * 16 + 8) 0 [1] true] })

theorem test_CollectiveFramesAct_verifiedReceive :
    linksLive s_CollectiveFramesAct_verifiedReceive = true ∧ quiet s_CollectiveFramesAct_verifiedReceive = true ∧ inboxOf s_CollectiveFramesAct_verifiedReceive f_CollectiveFramesAct_verifiedReceive = some h_CollectiveFramesAct_verifiedReceive ∧ sleepingOps s_CollectiveFramesAct_verifiedReceive f_CollectiveFramesAct_verifiedReceive = [] ∧ Frame.type f_CollectiveFramesAct_verifiedReceive = tyColCtrl ∧ grpValid s_CollectiveFramesAct_verifiedReceive (Frame.group f_CollectiveFramesAct_verifiedReceive) = true ∧ opseqOf s_CollectiveFramesAct_verifiedReceive f_CollectiveFramesAct_verifiedReceive = some o_CollectiveFramesAct_verifiedReceive.opseq ∧ s_CollectiveFramesAct_verifiedReceive.op (Frame.group f_CollectiveFramesAct_verifiedReceive) o_CollectiveFramesAct_verifiedReceive.opseq = some o_CollectiveFramesAct_verifiedReceive ∧ s_CollectiveFramesAct_verifiedReceive.opById o_CollectiveFramesAct_verifiedReceive.id = some o_CollectiveFramesAct_verifiedReceive ∧ o_CollectiveFramesAct_verifiedReceive.group = Frame.group f_CollectiveFramesAct_verifiedReceive ∧ inSlots s_CollectiveFramesAct_verifiedReceive (Frame.group f_CollectiveFramesAct_verifiedReceive) o_CollectiveFramesAct_verifiedReceive.opseq = true ∧ o_CollectiveFramesAct_verifiedReceive.ended = false ∧ Frame.op f_CollectiveFramesAct_verifiedReceive = 2 ∧ leAt f_CollectiveFramesAct_verifiedReceive.payload 0 2 = leAt f_CollectiveFramesAct_verifiedReceive.payload 2 2 ∧ leAt f_CollectiveFramesAct_verifiedReceive.payload 0 2 < o_CollectiveFramesAct_verifiedReceive.perMember s_CollectiveFramesAct_verifiedReceive ∧ o_CollectiveFramesAct_verifiedReceive.copies = [c_CollectiveFramesAct_verifiedReceive] ∧ c_CollectiveFramesAct_verifiedReceive.stage = leAt f_CollectiveFramesAct_verifiedReceive.payload 4 1 ∧ c_CollectiveFramesAct_verifiedReceive.chunk = leAt f_CollectiveFramesAct_verifiedReceive.payload 0 2 ∧ c_CollectiveFramesAct_verifiedReceive.src = Frame.src f_CollectiveFramesAct_verifiedReceive * 16 + Frame.srcPort f_CollectiveFramesAct_verifiedReceive ∧ o_CollectiveFramesAct_verifiedReceive.sums = [] := by
  decide +kernel

def f_CollectiveFramesAct_releaseReceive : Frame := inFrame 8 0 0 5 0 3 (leBytes 2 1 ++ [1])

def h_CollectiveFramesAct_releaseReceive : InFrame := InFrame.mk (inFrame 8 0 0 5 0 3 (leBytes 2 1 ++ [1])) 8 0

def o_CollectiveFramesAct_releaseReceive : Op := { crossing 1 with sends := [Send.mk 1 1 8 4 6 0 [1]] }

def s_CollectiveFramesAct_releaseReceive : State := arrived (inFrame 8 0 0 5 0 3 (leBytes 2 1 ++ [1])) (crossed { crossing 1 with sends := [Send.mk 1 1 8 4 6 0 [1]] })

theorem test_CollectiveFramesAct_releaseReceive :
    linksLive s_CollectiveFramesAct_releaseReceive = true ∧ quiet s_CollectiveFramesAct_releaseReceive = true ∧ inboxOf s_CollectiveFramesAct_releaseReceive f_CollectiveFramesAct_releaseReceive = some h_CollectiveFramesAct_releaseReceive ∧ sleepingOps s_CollectiveFramesAct_releaseReceive f_CollectiveFramesAct_releaseReceive = [] ∧ Frame.type f_CollectiveFramesAct_releaseReceive = tyColCtrl ∧ grpValid s_CollectiveFramesAct_releaseReceive (Frame.group f_CollectiveFramesAct_releaseReceive) = true ∧ opseqOf s_CollectiveFramesAct_releaseReceive f_CollectiveFramesAct_releaseReceive = some o_CollectiveFramesAct_releaseReceive.opseq ∧ s_CollectiveFramesAct_releaseReceive.op (Frame.group f_CollectiveFramesAct_releaseReceive) o_CollectiveFramesAct_releaseReceive.opseq = some o_CollectiveFramesAct_releaseReceive ∧ s_CollectiveFramesAct_releaseReceive.opById o_CollectiveFramesAct_releaseReceive.id = some o_CollectiveFramesAct_releaseReceive ∧ o_CollectiveFramesAct_releaseReceive.group = Frame.group f_CollectiveFramesAct_releaseReceive ∧ inSlots s_CollectiveFramesAct_releaseReceive (Frame.group f_CollectiveFramesAct_releaseReceive) o_CollectiveFramesAct_releaseReceive.opseq = true ∧ o_CollectiveFramesAct_releaseReceive.ended = false ∧ Frame.op f_CollectiveFramesAct_releaseReceive = 3 ∧ o_CollectiveFramesAct_releaseReceive.sends = [(Send.mk 1 1 8 4 6 0 [1] : Send)] ∧ relKey (Send.mk 1 1 8 4 6 0 [1] : Send).stage (Send.mk 1 1 8 4 6 0 [1] : Send).dest (Send.mk 1 1 8 4 6 0 [1] : Send).dport = leAt f_CollectiveFramesAct_releaseReceive.payload 2 1 * 65536 + Frame.src f_CollectiveFramesAct_releaseReceive * 16 + Frame.srcPort f_CollectiveFramesAct_releaseReceive ∧ o_CollectiveFramesAct_releaseReceive.released = [] ∧ (Send.mk 1 1 8 4 6 0 [1] : Send).chunk < leAt f_CollectiveFramesAct_releaseReceive.payload 0 2 + grpWindow s_CollectiveFramesAct_releaseReceive o_CollectiveFramesAct_releaseReceive.group := by
  decide +kernel

def f_CollectiveFramesAct_countReceive : Frame := inFrame 8 0 0 5 0 4 (leBytes 4 3)

def h_CollectiveFramesAct_countReceive : InFrame := InFrame.mk (inFrame 8 0 0 5 0 4 (leBytes 4 3)) 8 0

def s_CollectiveFramesAct_countReceive : State := arrived (inFrame 8 0 0 5 0 4 (leBytes 4 3)) (crossed (crossing 5))

theorem test_CollectiveFramesAct_countReceive :
    linksLive s_CollectiveFramesAct_countReceive = true ∧ quiet s_CollectiveFramesAct_countReceive = true ∧ inboxOf s_CollectiveFramesAct_countReceive f_CollectiveFramesAct_countReceive = some h_CollectiveFramesAct_countReceive ∧ sleepingOps s_CollectiveFramesAct_countReceive f_CollectiveFramesAct_countReceive = [] ∧ Frame.type f_CollectiveFramesAct_countReceive = tyColCtrl ∧ grpValid s_CollectiveFramesAct_countReceive (Frame.group f_CollectiveFramesAct_countReceive) = true ∧ opseqOf s_CollectiveFramesAct_countReceive f_CollectiveFramesAct_countReceive = some (crossing 5 : Op).opseq ∧ s_CollectiveFramesAct_countReceive.op (Frame.group f_CollectiveFramesAct_countReceive) (crossing 5 : Op).opseq = some (crossing 5 : Op) ∧ s_CollectiveFramesAct_countReceive.opById (crossing 5 : Op).id = some (crossing 5 : Op) ∧ (crossing 5 : Op).group = Frame.group f_CollectiveFramesAct_countReceive ∧ inSlots s_CollectiveFramesAct_countReceive (Frame.group f_CollectiveFramesAct_countReceive) (crossing 5 : Op).opseq = true ∧ (crossing 5 : Op).ended = false ∧ Frame.op f_CollectiveFramesAct_countReceive = 4 ∧ (crossing 5 : Op).counts = [] ∧ (crossing 5 : Op).routed = [] ∧ 0 < leAt f_CollectiveFramesAct_countReceive.payload 0 4 := by
  decide +kernel

/-! SumsVerdictsAndAbortsAct. -/

def o_SumsVerdictsAndAbortsAct_chunkSum : Op := { crossing 1 with own := some (leBytes 256 7) }

def s_SumsVerdictsAndAbortsAct_chunkSum : State := crossed ({ crossing 1 with own := some (leBytes 256 7) })

theorem test_SumsVerdictsAndAbortsAct_chunkSum :
    linksLive s_SumsVerdictsAndAbortsAct_chunkSum = true ∧ quiet s_SumsVerdictsAndAbortsAct_chunkSum = true ∧ s_SumsVerdictsAndAbortsAct_chunkSum.opById (9) = some o_SumsVerdictsAndAbortsAct_chunkSum ∧ o_SumsVerdictsAndAbortsAct_chunkSum.ended = false ∧ (opUnits s_SumsVerdictsAndAbortsAct_chunkSum o_SumsVerdictsAndAbortsAct_chunkSum).all (unitRuns s_SumsVerdictsAndAbortsAct_chunkSum) = true ∧ (o_SumsVerdictsAndAbortsAct_chunkSum.xmode = Isa.xREDUCE ∨ o_SumsVerdictsAndAbortsAct_chunkSum.xmode = Isa.xSCATTER) ∧ grpSched s_SumsVerdictsAndAbortsAct_chunkSum o_SumsVerdictsAndAbortsAct_chunkSum.group ≠ schedCt ∧ o_SumsVerdictsAndAbortsAct_chunkSum.sums = [] ∧ (0) < o_SumsVerdictsAndAbortsAct_chunkSum.perMember s_SumsVerdictsAndAbortsAct_chunkSum ∧ o_SumsVerdictsAndAbortsAct_chunkSum.own = some (leBytes 256 7 : List Byte) ∧ edgePorts s_SumsVerdictsAndAbortsAct_chunkSum o_SumsVerdictsAndAbortsAct_chunkSum.group = [] ∧ (0 : Fin 16).val = 0 := by
  decide +kernel

def o_SumsVerdictsAndAbortsAct_chunkVerdict : Op := { crossing 1 with sums := [Sum.mk 1 0 0 [7] false false 0 false] }

def x_SumsVerdictsAndAbortsAct_chunkVerdict : Sum := Sum.mk 1 0 0 [7] false false 0 false

def s_SumsVerdictsAndAbortsAct_chunkVerdict : State := (crossed ({ crossing 1 with sums := [Sum.mk 1 0 0 [7] false false 0 false] })).setWord (Reg.grpWord 5 0) (BitVec.ofNat 64 (1 + 2 * 2 ^ 1 + 1 * 2 ^ 20 + 1 * 2 ^ 29 + 1 * 2 ^ 38 + 4 * 2 ^ 46))

theorem test_SumsVerdictsAndAbortsAct_chunkVerdict :
    linksLive s_SumsVerdictsAndAbortsAct_chunkVerdict = true ∧ quiet s_SumsVerdictsAndAbortsAct_chunkVerdict = true ∧ s_SumsVerdictsAndAbortsAct_chunkVerdict.opById (9) = some o_SumsVerdictsAndAbortsAct_chunkVerdict ∧ o_SumsVerdictsAndAbortsAct_chunkVerdict.ended = false ∧ (opUnits s_SumsVerdictsAndAbortsAct_chunkVerdict o_SumsVerdictsAndAbortsAct_chunkVerdict).all (unitRuns s_SumsVerdictsAndAbortsAct_chunkVerdict) = true ∧ (o_SumsVerdictsAndAbortsAct_chunkVerdict.xmode = Isa.xREDUCE ∨ o_SumsVerdictsAndAbortsAct_chunkVerdict.xmode = Isa.xSCATTER) ∧ o_SumsVerdictsAndAbortsAct_chunkVerdict.sums = [x_SumsVerdictsAndAbortsAct_chunkVerdict] ∧ x_SumsVerdictsAndAbortsAct_chunkVerdict.stage = (1 : Fin 16).val ∧ x_SumsVerdictsAndAbortsAct_chunkVerdict.chunk = (0) ∧ x_SumsVerdictsAndAbortsAct_chunkVerdict.data ≠ [] ∧ x_SumsVerdictsAndAbortsAct_chunkVerdict.passed = false ∧ true = true ∧ grpSched s_SumsVerdictsAndAbortsAct_chunkVerdict o_SumsVerdictsAndAbortsAct_chunkVerdict.group = schedCt ∧ x_SumsVerdictsAndAbortsAct_chunkVerdict.covered = false ∧ o_SumsVerdictsAndAbortsAct_chunkVerdict.done = [] ∧ neededChunks s_SumsVerdictsAndAbortsAct_chunkVerdict o_SumsVerdictsAndAbortsAct_chunkVerdict ≠ [] ∧ inputsCovered s_SumsVerdictsAndAbortsAct_chunkVerdict { o_SumsVerdictsAndAbortsAct_chunkVerdict with sums := [{ x_SumsVerdictsAndAbortsAct_chunkVerdict with passed := true }] } (1 : Fin 16) (0) = false := by
  decide +kernel

def o_SumsVerdictsAndAbortsAct_chunkVerdict2 : Op := { crossing 1 with sums := [Sum.mk 0 0 0 [7] false false 0 false] }

def x_SumsVerdictsAndAbortsAct_chunkVerdict2 : Sum := Sum.mk 0 0 0 [7] false false 0 false

def s_SumsVerdictsAndAbortsAct_chunkVerdict2 : State := (((((crossed ({ crossing 1 with sums := [Sum.mk 0 0 0 [7] false false 0 false] })).setFld (Reg.ringN 0) 4).setFld (Reg.ringN 1) 4).setFld (Reg.ringN 2) 4).setWord (Reg.grpWord 5 0) (BitVec.ofNat 64 (1 + 2 * 2 ^ 20 + 1 * 2 ^ 29 + 1 * 2 ^ 38 + 4 * 2 ^ 46))).setWord (Reg.grpWord 5 1) (BitVec.ofNat 64 (2 * 2 ^ 16))

theorem test_SumsVerdictsAndAbortsAct_chunkVerdict2 :
    linksLive s_SumsVerdictsAndAbortsAct_chunkVerdict2 = true ∧ quiet s_SumsVerdictsAndAbortsAct_chunkVerdict2 = true ∧ s_SumsVerdictsAndAbortsAct_chunkVerdict2.opById (9) = some o_SumsVerdictsAndAbortsAct_chunkVerdict2 ∧ o_SumsVerdictsAndAbortsAct_chunkVerdict2.ended = false ∧ (opUnits s_SumsVerdictsAndAbortsAct_chunkVerdict2 o_SumsVerdictsAndAbortsAct_chunkVerdict2).all (unitRuns s_SumsVerdictsAndAbortsAct_chunkVerdict2) = true ∧ (o_SumsVerdictsAndAbortsAct_chunkVerdict2.xmode = Isa.xREDUCE ∨ o_SumsVerdictsAndAbortsAct_chunkVerdict2.xmode = Isa.xSCATTER) ∧ o_SumsVerdictsAndAbortsAct_chunkVerdict2.sums = [x_SumsVerdictsAndAbortsAct_chunkVerdict2] ∧ x_SumsVerdictsAndAbortsAct_chunkVerdict2.stage = (0 : Fin 16).val ∧ x_SumsVerdictsAndAbortsAct_chunkVerdict2.chunk = (0) ∧ x_SumsVerdictsAndAbortsAct_chunkVerdict2.data ≠ [] ∧ x_SumsVerdictsAndAbortsAct_chunkVerdict2.passed = false ∧ true = true ∧ grpSched s_SumsVerdictsAndAbortsAct_chunkVerdict2 o_SumsVerdictsAndAbortsAct_chunkVerdict2.group = schedLong ∧ sumSends s_SumsVerdictsAndAbortsAct_chunkVerdict2 { o_SumsVerdictsAndAbortsAct_chunkVerdict2 with sums := [{ x_SumsVerdictsAndAbortsAct_chunkVerdict2 with passed := true }] } (0 : Fin 16) (0) x_SumsVerdictsAndAbortsAct_chunkVerdict2.data x_SumsVerdictsAndAbortsAct_chunkVerdict2.rev = some [] ∧ o_SumsVerdictsAndAbortsAct_chunkVerdict2.xmode = Isa.xREDUCE ∧ o_SumsVerdictsAndAbortsAct_chunkVerdict2.done = [] ∧ neededChunks s_SumsVerdictsAndAbortsAct_chunkVerdict2 o_SumsVerdictsAndAbortsAct_chunkVerdict2 ≠ [] := by
  decide +kernel

def o_SumsVerdictsAndAbortsAct_chunkVerdict3 : Op := { crossing 1 with sums := [Sum.mk 0 0 0 [7] false false 0 false] }

def x_SumsVerdictsAndAbortsAct_chunkVerdict3 : Sum := Sum.mk 0 0 0 [7] false false 0 false

def s_SumsVerdictsAndAbortsAct_chunkVerdict3 : State := crossed ({ crossing 1 with sums := [Sum.mk 0 0 0 [7] false false 0 false] })

theorem test_SumsVerdictsAndAbortsAct_chunkVerdict3 :
    linksLive s_SumsVerdictsAndAbortsAct_chunkVerdict3 = true ∧ quiet s_SumsVerdictsAndAbortsAct_chunkVerdict3 = true ∧ s_SumsVerdictsAndAbortsAct_chunkVerdict3.opById (9) = some o_SumsVerdictsAndAbortsAct_chunkVerdict3 ∧ o_SumsVerdictsAndAbortsAct_chunkVerdict3.ended = false ∧ (opUnits s_SumsVerdictsAndAbortsAct_chunkVerdict3 o_SumsVerdictsAndAbortsAct_chunkVerdict3).all (unitRuns s_SumsVerdictsAndAbortsAct_chunkVerdict3) = true ∧ (o_SumsVerdictsAndAbortsAct_chunkVerdict3.xmode = Isa.xREDUCE ∨ o_SumsVerdictsAndAbortsAct_chunkVerdict3.xmode = Isa.xSCATTER) ∧ o_SumsVerdictsAndAbortsAct_chunkVerdict3.sums = [x_SumsVerdictsAndAbortsAct_chunkVerdict3] ∧ x_SumsVerdictsAndAbortsAct_chunkVerdict3.stage = (0 : Fin 16).val ∧ x_SumsVerdictsAndAbortsAct_chunkVerdict3.chunk = (0) ∧ x_SumsVerdictsAndAbortsAct_chunkVerdict3.data ≠ [] ∧ x_SumsVerdictsAndAbortsAct_chunkVerdict3.passed = false ∧ false = false ∧ x_SumsVerdictsAndAbortsAct_chunkVerdict3.recomps < 3 ∧ x_SumsVerdictsAndAbortsAct_chunkVerdict3.sent = false ∧ o_SumsVerdictsAndAbortsAct_chunkVerdict3.sends = [] ∧ o_SumsVerdictsAndAbortsAct_chunkVerdict3.rowsLanded = [] ∧ o_SumsVerdictsAndAbortsAct_chunkVerdict3.done = [] := by
  decide +kernel

def s_SumsVerdictsAndAbortsAct_adderLaneSwing : State := ((live.setFld (Reg.engSwings 15) 4).setFld Reg.laneThresh 1).modCol (fun c => { c with laneFails := [(15 * 256 + 255, 0)] })

theorem test_SumsVerdictsAndAbortsAct_adderLaneSwing :
    linksLive s_SumsVerdictsAndAbortsAct_adderLaneSwing = true ∧ laneDue s_SumsVerdictsAndAbortsAct_adderLaneSwing (15 : Fin 16) (255 : Fin 256) = true ∧ s_SumsVerdictsAndAbortsAct_adderLaneSwing.fld (Reg.engSwings (15 : Fin 16)) = (2) + 2 := by
  decide +kernel

def s_SumsVerdictsAndAbortsAct_adderLaneSwing2 : State := ((live.setFld (Reg.engSwings 15) 0).setFld Reg.laneThresh 1).modCol (fun c => { c with laneFails := [(15 * 256 + 255, 0)] })

theorem test_SumsVerdictsAndAbortsAct_adderLaneSwing2 :
    linksLive s_SumsVerdictsAndAbortsAct_adderLaneSwing2 = true ∧ laneDue s_SumsVerdictsAndAbortsAct_adderLaneSwing2 (15 : Fin 16) (255 : Fin 256) = true ∧ s_SumsVerdictsAndAbortsAct_adderLaneSwing2.fld (Reg.engSwings (15 : Fin 16)) = 0 := by
  decide +kernel

def s_SumsVerdictsAndAbortsAct_groupTimeout : State := later (crossed (crossing 1))

theorem test_SumsVerdictsAndAbortsAct_groupTimeout :
    linksLive s_SumsVerdictsAndAbortsAct_groupTimeout = true ∧ quiet s_SumsVerdictsAndAbortsAct_groupTimeout = true ∧ s_SumsVerdictsAndAbortsAct_groupTimeout.opById (9) = some (crossing 1 : Op) ∧ (crossing 1 : Op).ended = false ∧ (crossing 1 : Op).issuedAt + grpTimeout s_SumsVerdictsAndAbortsAct_groupTimeout (crossing 1 : Op).group * ticksPerUs ≤ s_SumsVerdictsAndAbortsAct_groupTimeout.now ∧ s_SumsVerdictsAndAbortsAct_groupTimeout.op (crossing 1 : Op).group (crossing 1 : Op).opseq = some (crossing 1 : Op) ∧ abortedCode s_SumsVerdictsAndAbortsAct_groupTimeout (crossing 1 : Op).group (crossing 1 : Op).opseq = none := by
  decide +kernel

def h_SumsVerdictsAndAbortsAct_asideReceive : InFrame := InFrame.mk (inFrame 9 0 0 5 0 0 [1]) 8 0

def s_SumsVerdictsAndAbortsAct_asideReceive : State := arrived (inFrame 9 0 0 5 0 0 [1]) (grouped live)

theorem test_SumsVerdictsAndAbortsAct_asideReceive :
    linksLive s_SumsVerdictsAndAbortsAct_asideReceive = true ∧ quiet s_SumsVerdictsAndAbortsAct_asideReceive = true ∧ inboxOf s_SumsVerdictsAndAbortsAct_asideReceive (inFrame 9 0 0 5 0 0 [1] : Frame) = some h_SumsVerdictsAndAbortsAct_asideReceive ∧ sleepingOps s_SumsVerdictsAndAbortsAct_asideReceive (inFrame 9 0 0 5 0 0 [1] : Frame) = [] ∧ isAsideValue (inFrame 9 0 0 5 0 0 [1] : Frame) = true ∧ grpValid s_SumsVerdictsAndAbortsAct_asideReceive (Frame.group (inFrame 9 0 0 5 0 0 [1] : Frame)) = true ∧ inSlots s_SumsVerdictsAndAbortsAct_asideReceive (Frame.group (inFrame 9 0 0 5 0 0 [1] : Frame)) (Frame.seq (inFrame 9 0 0 5 0 0 [1] : Frame)) = true ∧ s_SumsVerdictsAndAbortsAct_asideReceive.op (Frame.group (inFrame 9 0 0 5 0 0 [1] : Frame)) (Frame.seq (inFrame 9 0 0 5 0 0 [1] : Frame)) = none ∧ ((asideVals s_SumsVerdictsAndAbortsAct_asideReceive (Frame.group (inFrame 9 0 0 5 0 0 [1] : Frame)) (Frame.seq (inFrame 9 0 0 5 0 0 [1] : Frame)) (asideSlot (inFrame 9 0 0 5 0 0 [1] : Frame)).1).all (fun v => decide (v.index ≠ (asideSlot (inFrame 9 0 0 5 0 0 [1] : Frame)).2)) = true) ∧ Frame.op (inFrame 9 0 0 5 0 0 [1] : Frame) / 16 = 0 := by
  decide +kernel

def f_SumsVerdictsAndAbortsAct_abortNoticeReceive : Frame := inFrame 9 0 0 5 0 0xE0 (noticeBytes 0x203 0 1 2 3 4)

def h_SumsVerdictsAndAbortsAct_abortNoticeReceive : InFrame := InFrame.mk (inFrame 9 0 0 5 0 0xE0 (noticeBytes 0x203 0 1 2 3 4)) 8 0

def s_SumsVerdictsAndAbortsAct_abortNoticeReceive : State := arrived (inFrame 9 0 0 5 0 0xE0 (noticeBytes 0x203 0 1 2 3 4)) (crossed (crossing 1))

theorem test_SumsVerdictsAndAbortsAct_abortNoticeReceive :
    linksLive s_SumsVerdictsAndAbortsAct_abortNoticeReceive = true ∧ quiet s_SumsVerdictsAndAbortsAct_abortNoticeReceive = true ∧ inboxOf s_SumsVerdictsAndAbortsAct_abortNoticeReceive f_SumsVerdictsAndAbortsAct_abortNoticeReceive = some h_SumsVerdictsAndAbortsAct_abortNoticeReceive ∧ sleepingOps s_SumsVerdictsAndAbortsAct_abortNoticeReceive f_SumsVerdictsAndAbortsAct_abortNoticeReceive = [] ∧ isAbortNotice f_SumsVerdictsAndAbortsAct_abortNoticeReceive = true ∧ grpValid s_SumsVerdictsAndAbortsAct_abortNoticeReceive (Frame.group f_SumsVerdictsAndAbortsAct_abortNoticeReceive) = true ∧ inSlots s_SumsVerdictsAndAbortsAct_abortNoticeReceive (Frame.group f_SumsVerdictsAndAbortsAct_abortNoticeReceive) (leAt f_SumsVerdictsAndAbortsAct_abortNoticeReceive.payload 2 3) = true ∧ s_SumsVerdictsAndAbortsAct_abortNoticeReceive.op (Frame.group f_SumsVerdictsAndAbortsAct_abortNoticeReceive) (leAt f_SumsVerdictsAndAbortsAct_abortNoticeReceive.payload 2 3) = some (crossing 1 : Op) ∧ s_SumsVerdictsAndAbortsAct_abortNoticeReceive.opById (crossing 1 : Op).id = some (crossing 1 : Op) ∧ (crossing 1 : Op).ended = false ∧ (crossing 1 : Op).group = Frame.group f_SumsVerdictsAndAbortsAct_abortNoticeReceive := by
  decide +kernel

/-! CallBoardActs. -/

theorem test_CallBoardActs_intakeInput :
    live.house.input = true ∧ intakeFull live = false ∧ live.board.waiting = [] ∧ (1) = (live.fld Reg.cmdSeq + 1) % 2 ^ 48 ∧ live.board.log.length < 4096 := by
  decide +kernel

def s_CallBoardActs_intakeInput2 : State := ((live.setFld (Reg.cbState 1) 3).setFld Reg.cmdSeq 4096)

theorem test_CallBoardActs_intakeInput2 :
    s_CallBoardActs_intakeInput2.house.input = true ∧ intakeFull s_CallBoardActs_intakeInput2 = true := by
  decide +kernel

def s_CallBoardActs_stageWrite : State := (((live.setFld (Reg.rail 1) 1).setFld (Reg.rail 2) 1).setFld Reg.cbClaim 7).setFld Reg.cbHighest 7

theorem test_CallBoardActs_stageWrite :
    s_CallBoardActs_stageWrite.house.input = true ∧ prompterRail s_CallBoardActs_stageWrite (.a : Who) = true ∧ s_CallBoardActs_stageWrite.board.waiting = [] ∧ stageJudge s_CallBoardActs_stageWrite (7 : Fin 8) (7 : Fin 4294967296) (1 : Fin 4294967296) = .take := by
  decide +kernel

def s_CallBoardActs_stageWrite2 : State := ((((live.setFld (Reg.rail 1) 1).setFld (Reg.rail 2) 1).setFld Reg.cbClaim 7).setFld Reg.cbHighest 7).setSem 63 { holder := some (0, 0), forced := true }

theorem test_CallBoardActs_stageWrite2 :
    s_CallBoardActs_stageWrite2.house.input = true ∧ prompterRail s_CallBoardActs_stageWrite2 (.a : Who) = true ∧ s_CallBoardActs_stageWrite2.board.waiting = [] ∧ stageJudge s_CallBoardActs_stageWrite2 (6 : Fin 8) (7 : Fin 4294967296) (1 : Fin 4294967296) = .take ∧ (s_CallBoardActs_stageWrite2.sem (63)).holder = some (masterName s_CallBoardActs_stageWrite2 0 0) := by
  decide +kernel

def s_CallBoardActs_stageWrite3 : State := (((live.setFld (Reg.rail 1) 1).setFld (Reg.rail 2) 1).setFld Reg.cbClaim 7).setFld Reg.cbHighest 7

theorem test_CallBoardActs_stageWrite3 :
    s_CallBoardActs_stageWrite3.house.input = true ∧ prompterRail s_CallBoardActs_stageWrite3 (.a : Who) = true ∧ stageJudge s_CallBoardActs_stageWrite3 (7 : Fin 8) (8 : Fin 4294967296) (1 : Fin 4294967296) = .claimLow := by
  decide +kernel

def s_CallBoardActs_stageWrite4 : State := (((live.setFld (Reg.rail 1) 1).setFld (Reg.rail 2) 1).setFld Reg.cbClaim 7).setFld Reg.cbHighest 7

theorem test_CallBoardActs_stageWrite4 :
    s_CallBoardActs_stageWrite4.house.input = true ∧ prompterRail s_CallBoardActs_stageWrite4 (.a : Who) = true ∧ stageJudge s_CallBoardActs_stageWrite4 (7 : Fin 8) (7 : Fin 4294967296) (0 : Fin 4294967296) = .dup := by
  decide +kernel

def s_CallBoardActs_stageWrite5 : State := (((live.setFld (Reg.rail 1) 1).setFld (Reg.rail 2) 1).setFld Reg.cbClaim 7).setFld Reg.cbHighest 7

theorem test_CallBoardActs_stageWrite5 :
    s_CallBoardActs_stageWrite5.house.input = true ∧ prompterRail s_CallBoardActs_stageWrite5 (.a : Who) = true ∧ stageJudge s_CallBoardActs_stageWrite5 (7 : Fin 8) (7 : Fin 4294967296) (2 : Fin 4294967296) = .gap := by
  decide +kernel

def s_CallBoardActs_prompterHeartbeat : State := (((live.setFld (Reg.rail 1) 1).setFld (Reg.rail 2) 1).setFld Reg.cbClaim 7).setFld Reg.cbHighest 7

theorem test_CallBoardActs_prompterHeartbeat :
    (s_CallBoardActs_prompterHeartbeat.house.input = true ∧ prompterRail s_CallBoardActs_prompterHeartbeat (.a : Who) = true ∧ beats s_CallBoardActs_prompterHeartbeat (.a : Who) = true) ∧ goes (.prompterHeartbeat (.a : Who)) s_CallBoardActs_prompterHeartbeat
      (fun t => decide ((t.prompter (.a : Who)).beat = true) && decide ((t.prompter (.a : Who).other) = s_CallBoardActs_prompterHeartbeat.prompter (.a : Who).other) && decide (t.regs = s_CallBoardActs_prompterHeartbeat.regs) && decide (t.mem = s_CallBoardActs_prompterHeartbeat.mem)) = true := by
  decide +kernel

def s_CallBoardActs_heartbeatWindowEnd : State := later (((((live.setFld (Reg.rail 1) 1).setFld (Reg.rail 2) 1).setFld Reg.cbClaim 7).setFld Reg.cbHighest 7).modPrompter .a (fun p => { p with beat := true }))

theorem test_CallBoardActs_heartbeatWindowEnd :
    s_CallBoardActs_heartbeatWindowEnd.house.input = true ∧ s_CallBoardActs_heartbeatWindowEnd.board.windows < s_CallBoardActs_heartbeatWindowEnd.now / 2500 ∧ beats s_CallBoardActs_heartbeatWindowEnd (.a : Who) = true ∧ (s_CallBoardActs_heartbeatWindowEnd.prompter (.a : Who)).beat = true ∧ (beats s_CallBoardActs_heartbeatWindowEnd (.a : Who).other = false ∨ (s_CallBoardActs_heartbeatWindowEnd.prompter (.a : Who).other).beat = true) := by
  decide +kernel

def s_CallBoardActs_heartbeatWindowEnd2 : State := later (((((live.setFld (Reg.rail 1) 1).setFld (Reg.rail 2) 1).setFld Reg.cbClaim 7).setFld Reg.cbHighest 7).modPrompter .a (fun p => { p with missed := 1 }))

theorem test_CallBoardActs_heartbeatWindowEnd2 :
    s_CallBoardActs_heartbeatWindowEnd2.house.input = true ∧ s_CallBoardActs_heartbeatWindowEnd2.board.windows < s_CallBoardActs_heartbeatWindowEnd2.now / 2500 ∧ beats s_CallBoardActs_heartbeatWindowEnd2 (.a : Who) = true ∧ (s_CallBoardActs_heartbeatWindowEnd2.prompter (.a : Who)).beat = false ∧ (s_CallBoardActs_heartbeatWindowEnd2.prompter (.a : Who)).missed < 2 ∧ ((s_CallBoardActs_heartbeatWindowEnd2.prompter (.a : Who).other).beat = true ∨ (s_CallBoardActs_heartbeatWindowEnd2.prompter (.a : Who).other).missed < 2) := by
  decide +kernel

def s_CallBoardActs_heartbeatWindowEnd3 : State := (later ((((((live.setFld (Reg.rail 1) 1).setFld (Reg.rail 2) 1).setFld Reg.cbClaim 7).setFld Reg.cbHighest 7).setFld (Reg.cbState 1) 3).modPrompter .a (fun p => { p with beat := true }))).modPrompter .b (fun p => { p with missed := 2 })

theorem test_CallBoardActs_heartbeatWindowEnd3 :
    s_CallBoardActs_heartbeatWindowEnd3.house.input = true ∧ s_CallBoardActs_heartbeatWindowEnd3.board.windows < s_CallBoardActs_heartbeatWindowEnd3.now / 2500 ∧ (.agree : Votes) = .agree ∧ s_CallBoardActs_heartbeatWindowEnd3.fld Reg.cbFrozen = 0 ∧ s_CallBoardActs_heartbeatWindowEnd3.board.waiting = [] ∧ prompterState s_CallBoardActs_heartbeatWindowEnd3 (.b : Who) = psUnderstudy ∧ (s_CallBoardActs_heartbeatWindowEnd3.prompter (.b : Who)).beat = false ∧ (s_CallBoardActs_heartbeatWindowEnd3.prompter (.b : Who)).missed = 2 ∧ (s_CallBoardActs_heartbeatWindowEnd3.prompter (.b : Who)).fails = [] ∧ (s_CallBoardActs_heartbeatWindowEnd3.prompter (.b : Who).other).beat = true ∧ s_CallBoardActs_heartbeatWindowEnd3.board.handover = none := by
  decide +kernel

def s_CallBoardActs_prompterFatal : State := (((((live.setFld (Reg.rail 1) 1).setFld (Reg.rail 2) 1).setFld Reg.cbClaim 7).setFld Reg.cbHighest 7).setFld (Reg.cbState 1) 3)

theorem test_CallBoardActs_prompterFatal :
    s_CallBoardActs_prompterFatal.house.input = true ∧ (.agree : Votes) = .agree ∧ s_CallBoardActs_prompterFatal.fld Reg.cbFrozen = 0 ∧ prompterRail s_CallBoardActs_prompterFatal (.a : Who) = true ∧ s_CallBoardActs_prompterFatal.board.waiting = [] ∧ prompterState s_CallBoardActs_prompterFatal (.a : Who) = psActive ∧ (s_CallBoardActs_prompterFatal.prompter (.a : Who)).fails = [] ∧ s_CallBoardActs_prompterFatal.board.handover = none ∧ prompterState s_CallBoardActs_prompterFatal (.a : Who).other = psUnderstudy ∧ s_CallBoardActs_prompterFatal.fld Reg.cbHighest < 0xFFFFFFFE := by
  decide +kernel

def s_CallBoardActs_prompterFatal2 : State := (((((live.setFld (Reg.rail 1) 1).setFld (Reg.rail 2) 1).setFld Reg.cbClaim 7).setFld Reg.cbHighest 7).setFld (Reg.cbState 1) 2)

theorem test_CallBoardActs_prompterFatal2 :
    s_CallBoardActs_prompterFatal2.house.input = true ∧ (.agree : Votes) = .agree ∧ s_CallBoardActs_prompterFatal2.fld Reg.cbFrozen = 0 ∧ prompterRail s_CallBoardActs_prompterFatal2 (.a : Who) = true ∧ s_CallBoardActs_prompterFatal2.board.waiting = [] ∧ prompterState s_CallBoardActs_prompterFatal2 (.a : Who) = psActive ∧ (s_CallBoardActs_prompterFatal2.prompter (.a : Who)).fails = [] ∧ s_CallBoardActs_prompterFatal2.board.handover = none ∧ prompterState s_CallBoardActs_prompterFatal2 (.a : Who).other = psSync ∧ s_CallBoardActs_prompterFatal2.fld Reg.cbHighest < 0xFFFFFFFE ∧ (s_CallBoardActs_prompterFatal2.board.log.all (fun e => !(isCommand e.2)) = true) := by
  decide +kernel

def s_CallBoardActs_prompterFatal3 : State := (((((live.setFld (Reg.rail 1) 1).setFld (Reg.rail 2) 1).setFld Reg.cbClaim 7).setFld Reg.cbHighest 7).setFld (Reg.cbState 1) 3)

theorem test_CallBoardActs_prompterFatal3 :
    s_CallBoardActs_prompterFatal3.house.input = true ∧ (.split : Votes) = .split ∧ s_CallBoardActs_prompterFatal3.fld Reg.cbFrozen = 0 ∧ prompterRail s_CallBoardActs_prompterFatal3 (.a : Who) = true ∧ prompterRuns s_CallBoardActs_prompterFatal3 (.a : Who) = true := by
  decide +kernel

def s_CallBoardActs_prompterFatal4 : State := (((live.setFld (Reg.rail 1) 1).setFld (Reg.rail 2) 1).setFld Reg.cbClaim 7).setFld Reg.cbHighest 7

theorem test_CallBoardActs_prompterFatal4 :
    s_CallBoardActs_prompterFatal4.house.input = true ∧ (.agree : Votes) = .agree ∧ s_CallBoardActs_prompterFatal4.fld Reg.cbFrozen = 0 ∧ prompterRail s_CallBoardActs_prompterFatal4 (.a : Who) = true ∧ s_CallBoardActs_prompterFatal4.board.waiting = [] ∧ prompterState s_CallBoardActs_prompterFatal4 (.a : Who) = psActive ∧ (s_CallBoardActs_prompterFatal4.prompter (.a : Who)).fails = [] ∧ s_CallBoardActs_prompterFatal4.board.handover = none ∧ prompterState s_CallBoardActs_prompterFatal4 (.a : Who).other = psOff := by
  decide +kernel

def s_CallBoardActs_prompterRailDrop : State := (((((live.setFld (Reg.rail 1) 1).setFld (Reg.rail 2) 1).setFld Reg.cbClaim 7).setFld Reg.cbHighest 7).setFld (Reg.cbState 1) 3)

theorem test_CallBoardActs_prompterRailDrop :
    s_CallBoardActs_prompterRailDrop.house.input = true ∧ (.agree : Votes) = .agree ∧ s_CallBoardActs_prompterRailDrop.fld Reg.cbFrozen = 0 ∧ prompterRail s_CallBoardActs_prompterRailDrop (.a : Who) = true ∧ s_CallBoardActs_prompterRailDrop.board.waiting = [] ∧ prompterState s_CallBoardActs_prompterRailDrop (.a : Who) = psActive ∧ (s_CallBoardActs_prompterRailDrop.prompter (.a : Who)).fails = [] ∧ s_CallBoardActs_prompterRailDrop.board.handover = none ∧ prompterState s_CallBoardActs_prompterRailDrop (.a : Who).other = psUnderstudy ∧ s_CallBoardActs_prompterRailDrop.fld Reg.cbHighest < 0xFFFFFFFE := by
  decide +kernel

def s_CallBoardActs_prompterRailDrop2 : State := (((((live.setFld (Reg.rail 1) 1).setFld (Reg.rail 2) 1).setFld Reg.cbClaim 7).setFld Reg.cbHighest 7).setFld (Reg.cbState 1) 2)

theorem test_CallBoardActs_prompterRailDrop2 :
    s_CallBoardActs_prompterRailDrop2.house.input = true ∧ (.agree : Votes) = .agree ∧ s_CallBoardActs_prompterRailDrop2.fld Reg.cbFrozen = 0 ∧ prompterRail s_CallBoardActs_prompterRailDrop2 (.a : Who) = true ∧ s_CallBoardActs_prompterRailDrop2.board.waiting = [] ∧ prompterState s_CallBoardActs_prompterRailDrop2 (.a : Who) = psActive ∧ (s_CallBoardActs_prompterRailDrop2.prompter (.a : Who)).fails = [] ∧ s_CallBoardActs_prompterRailDrop2.board.handover = none ∧ prompterState s_CallBoardActs_prompterRailDrop2 (.a : Who).other = psSync ∧ s_CallBoardActs_prompterRailDrop2.fld Reg.cbHighest < 0xFFFFFFFE ∧ (s_CallBoardActs_prompterRailDrop2.board.log.all (fun e => !(isCommand e.2)) = true) := by
  decide +kernel

def s_CallBoardActs_prompterRailDrop3 : State := (((((live.setFld (Reg.rail 1) 1).setFld (Reg.rail 2) 1).setFld Reg.cbClaim 7).setFld Reg.cbHighest 7).setFld (Reg.cbState 1) 3)

theorem test_CallBoardActs_prompterRailDrop3 :
    s_CallBoardActs_prompterRailDrop3.house.input = true ∧ (.split : Votes) = .split ∧ s_CallBoardActs_prompterRailDrop3.fld Reg.cbFrozen = 0 ∧ prompterRail s_CallBoardActs_prompterRailDrop3 (.a : Who) = true ∧ prompterRuns s_CallBoardActs_prompterRailDrop3 (.a : Who) = true := by
  decide +kernel

def s_CallBoardActs_prompterRailDrop4 : State := (((live.setFld (Reg.rail 1) 1).setFld (Reg.rail 2) 1).setFld Reg.cbClaim 7).setFld Reg.cbHighest 7

theorem test_CallBoardActs_prompterRailDrop4 :
    s_CallBoardActs_prompterRailDrop4.house.input = true ∧ (.agree : Votes) = .agree ∧ s_CallBoardActs_prompterRailDrop4.fld Reg.cbFrozen = 0 ∧ prompterRail s_CallBoardActs_prompterRailDrop4 (.a : Who) = true ∧ s_CallBoardActs_prompterRailDrop4.board.waiting = [] ∧ prompterState s_CallBoardActs_prompterRailDrop4 (.a : Who) = psActive ∧ (s_CallBoardActs_prompterRailDrop4.prompter (.a : Who)).fails = [] ∧ s_CallBoardActs_prompterRailDrop4.board.handover = none ∧ prompterState s_CallBoardActs_prompterRailDrop4 (.a : Who).other = psOff := by
  decide +kernel

def s_CallBoardActs_prompterJoin : State := (((((live.setFld (Reg.rail 1) 1).setFld (Reg.rail 2) 1).setFld Reg.cbClaim 7).setFld Reg.cbHighest 7).setFld (Reg.cbState 0) 1).modSec (fun k => { k with booted := true })

theorem test_CallBoardActs_prompterJoin :
    s_CallBoardActs_prompterJoin.house.input = true ∧ s_CallBoardActs_prompterJoin.sec.booted = true ∧ (.agree : Votes) = .agree ∧ s_CallBoardActs_prompterJoin.fld Reg.cbFrozen = 0 ∧ true = true ∧ false = false ∧ s_CallBoardActs_prompterJoin.board.waiting = [] ∧ prompterState s_CallBoardActs_prompterJoin .a = psBoot ∧ activePrompter s_CallBoardActs_prompterJoin = none ∧ s_CallBoardActs_prompterJoin.fld Reg.cbHighest < 0xFFFFFFFE ∧ (s_CallBoardActs_prompterJoin.board.log.all (fun e => !(isCommand e.2)) = true) := by
  decide +kernel

def s_CallBoardActs_prompterJoin2 : State := ((((((live.setFld (Reg.rail 1) 1).setFld (Reg.rail 2) 1).setFld Reg.cbClaim 7).setFld Reg.cbHighest 7).setFld (Reg.cbState 0) 1).modBoard (fun k => { k with log := [(9, .host [1])] })).modSec (fun k => { k with booted := true })

theorem test_CallBoardActs_prompterJoin2 :
    s_CallBoardActs_prompterJoin2.house.input = true ∧ s_CallBoardActs_prompterJoin2.sec.booted = true ∧ (.agree : Votes) = .agree ∧ s_CallBoardActs_prompterJoin2.fld Reg.cbFrozen = 0 ∧ true = true ∧ false = false ∧ s_CallBoardActs_prompterJoin2.board.waiting = [] ∧ prompterState s_CallBoardActs_prompterJoin2 .a = psBoot ∧ prompterState s_CallBoardActs_prompterJoin2 .b = psOff ∧ s_CallBoardActs_prompterJoin2.fld Reg.cbHighest < 0xFFFFFFFE ∧ s_CallBoardActs_prompterJoin2.board.log = [((9), (.host [1] : Input))] ∧ isCommand (.host [1] : Input) = true ∧ repliedTo s_CallBoardActs_prompterJoin2 (.host [1] : Input) = false := by
  exact ⟨by decide +kernel, by decide +kernel, rfl, by decide +kernel, rfl, rfl, rfl, by decide +kernel, by decide +kernel, by decide +kernel, rfl, rfl, by decide +kernel⟩

def s_CallBoardActs_prompterJoin3 : State := (((((live.setFld (Reg.rail 1) 1).setFld (Reg.rail 2) 1).setFld Reg.cbClaim 7).setFld Reg.cbHighest 7).setFld (Reg.cbState 1) 1).modSec (fun k => { k with booted := true })

theorem test_CallBoardActs_prompterJoin3 :
    s_CallBoardActs_prompterJoin3.house.input = true ∧ s_CallBoardActs_prompterJoin3.sec.booted = true ∧ (.agree : Votes) = .agree ∧ s_CallBoardActs_prompterJoin3.fld Reg.cbFrozen = 0 ∧ false = false ∧ true = true ∧ prompterState s_CallBoardActs_prompterJoin3 .b = psBoot ∧ activePrompter s_CallBoardActs_prompterJoin3 = some .a ∧ s_CallBoardActs_prompterJoin3.board.copying = none := by
  decide +kernel

def s_CallBoardActs_prompterResetRelease : State := later (((((live.setFld (Reg.rail 1) 1).setFld (Reg.rail 2) 1).setFld Reg.cbClaim 7).setFld Reg.cbHighest 7).setFld (Reg.cbState 1) 5)

theorem test_CallBoardActs_prompterResetRelease :
    s_CallBoardActs_prompterResetRelease.house.input = true ∧ prompterState s_CallBoardActs_prompterResetRelease (.b : Who) = psFailed ∧ (s_CallBoardActs_prompterResetRelease.prompter (.b : Who)).fails.getLastD 0 + 1000 * ticksPerMs ≤ s_CallBoardActs_prompterResetRelease.now := by
  decide +kernel

def s_CallBoardActs_prompterRelease : State := ((((live.setFld (Reg.rail 1) 1).setFld (Reg.rail 2) 1).setFld Reg.cbClaim 7).setFld Reg.cbHighest 7).setFld (Reg.cbState 1) 6

theorem test_CallBoardActs_prompterRelease :
    s_CallBoardActs_prompterRelease.house.input = true ∧ prompterState s_CallBoardActs_prompterRelease (.b : Who) = psHeldOff := by
  decide +kernel

/-! CheckpointsAct. -/

def s_CheckpointsAct_checkpointStart : State := later ((((live.setFld (Reg.rail 1) 1).setFld (Reg.rail 2) 1).setFld Reg.cbClaim 7).setFld Reg.cbHighest 7)

theorem test_CheckpointsAct_checkpointStart :
    s_CheckpointsAct_checkpointStart.house.input = true ∧ (s_CheckpointsAct_checkpointStart.board.due = true ∨ s_CheckpointsAct_checkpointStart.board.startedAt + s_CheckpointsAct_checkpointStart.fld Reg.ckptPeriod * ticksPerMs ≤ s_CheckpointsAct_checkpointStart.now) ∧ (activePrompter s_CheckpointsAct_checkpointStart).isSome = true ∧ s_CheckpointsAct_checkpointStart.board.copying = none := by
  decide +kernel

def k_CheckpointsAct_checkpointComplete : Checkpoint := Checkpoint.mk 4 0 [0, 0, 0, 0, 0, 0, 0, 0] [] false 0 0

def s_CheckpointsAct_checkpointComplete : State := ((((live.setFld (Reg.rail 1) 1).setFld (Reg.rail 2) 1).setFld Reg.cbClaim 7).setFld Reg.cbHighest 7).modBoard (fun b => { b with copying := some (0, Checkpoint.mk 4 0 [0, 0, 0, 0, 0, 0, 0, 0] [] false 0 0) })

theorem test_CheckpointsAct_checkpointComplete :
    s_CheckpointsAct_checkpointComplete.house.input = true ∧ copyFits s_CheckpointsAct_checkpointComplete ([1] : List Byte) = true ∧ s_CheckpointsAct_checkpointComplete.board.copying = some ((0), k_CheckpointsAct_checkpointComplete) ∧ s_CheckpointsAct_checkpointComplete.board.due = false := by
  decide +kernel

def k_CheckpointsAct_checkpointAbandon : Checkpoint := Checkpoint.mk 4 0 [0, 0, 0, 0, 0, 0, 0, 0] [] false 0 0

def s_CheckpointsAct_checkpointAbandon : State := later (((((live.setFld (Reg.rail 1) 1).setFld (Reg.rail 2) 1).setFld Reg.cbClaim 7).setFld Reg.cbHighest 7).modBoard (fun b => { b with copying := some (0, Checkpoint.mk 4 0 [0, 0, 0, 0, 0, 0, 0, 0] [] false 0 0) }))

theorem test_CheckpointsAct_checkpointAbandon :
    s_CheckpointsAct_checkpointAbandon.house.input = true ∧ s_CheckpointsAct_checkpointAbandon.board.handover = none ∧ s_CheckpointsAct_checkpointAbandon.board.copying = some ((0), k_CheckpointsAct_checkpointAbandon) ∧ s_CheckpointsAct_checkpointAbandon.board.due = false ∧ (0) + 20 * ticksPerMs < s_CheckpointsAct_checkpointAbandon.now := by
  decide +kernel

def s_CheckpointsAct_checkpointAdopt : State := (((((live.setFld (Reg.rail 1) 1).setFld (Reg.rail 2) 1).setFld Reg.cbClaim 7).setFld Reg.cbHighest 7).setFld (Reg.cbState 1) 2).modBoard (fun b => { b with lastBuf := 0, bufs := [(0, doneCopy)] })

theorem test_CheckpointsAct_checkpointAdopt :
    s_CheckpointsAct_checkpointAdopt.house.input = true ∧ prompterState s_CheckpointsAct_checkpointAdopt (.b : Who) = psSync ∧ (Tab.get (fun _ => Checkpoint.init) s_CheckpointsAct_checkpointAdopt.board.bufs s_CheckpointsAct_checkpointAdopt.board.lastBuf = doneCopy) ∧ doneCopy.complete = true ∧ doneCopy.digest = checkpointDigest doneCopy ∧ s_CheckpointsAct_checkpointAdopt.fld Reg.cmdSeq ≤ doneCopy.mark + 4096 ∧ s_CheckpointsAct_checkpointAdopt.board.handover = none ∧ s_CheckpointsAct_checkpointAdopt.board.waiting = [] := by
  exact ⟨by decide +kernel, by decide +kernel, rfl, by decide +kernel, by simp only [doneCopy, checkpointDigest, headerBytes], by decide +kernel, by decide +kernel, by decide +kernel⟩

def s_CheckpointsAct_handover : State := (((((live.setFld (Reg.rail 1) 1).setFld (Reg.rail 2) 1).setFld Reg.cbClaim 7).setFld Reg.cbHighest 7).setFld (Reg.cbState 1) 3)

theorem test_CheckpointsAct_handover :
    s_CheckpointsAct_handover.house.input = true ∧ s_CheckpointsAct_handover.board.handover = none ∧ activePrompter s_CheckpointsAct_handover = some (.a : Who) ∧ prompterState s_CheckpointsAct_handover (.a : Who).other = psUnderstudy := by
  decide +kernel

def s_CheckpointsAct_handover2 : State := ((((((live.setFld (Reg.rail 1) 1).setFld (Reg.rail 2) 1).setFld Reg.cbClaim 7).setFld Reg.cbHighest 7).setFld (Reg.cbState 1) 3)).modBoard (fun b => { b with handover := some 1 })

theorem test_CheckpointsAct_handover2 :
    s_CheckpointsAct_handover2.house.input = true ∧ s_CheckpointsAct_handover2.board.handover = some (1) := by
  decide +kernel

def s_CheckpointsAct_handover3 : State := live.setFld (Reg.cbState 0) 1

theorem test_CheckpointsAct_handover3 :
    s_CheckpointsAct_handover3.house.input = true ∧ s_CheckpointsAct_handover3.board.handover = none ∧ activePrompter s_CheckpointsAct_handover3 = none := by
  decide +kernel

def s_CheckpointsAct_handover4 : State := (((live.setFld (Reg.rail 1) 1).setFld (Reg.rail 2) 1).setFld Reg.cbClaim 7).setFld Reg.cbHighest 7

theorem test_CheckpointsAct_handover4 :
    s_CheckpointsAct_handover4.house.input = true ∧ s_CheckpointsAct_handover4.board.handover = none ∧ activePrompter s_CheckpointsAct_handover4 = some (.a : Who) ∧ prompterState s_CheckpointsAct_handover4 (.a : Who).other ≠ psUnderstudy := by
  decide +kernel

/-! MailboxesAct. -/

def s_MailboxesAct_mailboxHostSend : State := (((((((live.setFld (Reg.rail 1) 1).setFld (Reg.rail 2) 1).setFld Reg.cbClaim 7).setFld Reg.cbHighest 7).setFld (Reg.chEnable 31) 1).setFld (Reg.partyL 31) 0).setFld (Reg.partyR 31) 1)

theorem test_MailboxesAct_mailboxHostSend :
    s_MailboxesAct_mailboxHostSend.house.input = true ∧ sendVerdict s_MailboxesAct_mailboxHostSend (31 : Fin 32) ptHost (8 : Fin 2048) = .inr (0) := by
  decide +kernel

def s_MailboxesAct_mailboxHostSend2 : State := (((((((live.setFld (Reg.rail 1) 1).setFld (Reg.rail 2) 1).setFld Reg.cbClaim 7).setFld Reg.cbHighest 7).setFld (Reg.chEnable 31) 1).setFld (Reg.partyL 31) 0).setFld (Reg.partyR 31) 1)

theorem test_MailboxesAct_mailboxHostSend2 :
    s_MailboxesAct_mailboxHostSend2.house.input = true ∧ sendVerdict s_MailboxesAct_mailboxHostSend2 (31 : Fin 32) ptHost (1025 : Fin 2048) = .inl (3) ∧ (3) < 8 := by
  decide +kernel

def s_MailboxesAct_mailboxHostPop : State := ((((((((live.setFld (Reg.rail 1) 1).setFld (Reg.rail 2) 1).setFld Reg.cbClaim 7).setFld Reg.cbHighest 7).setFld (Reg.chEnable 31) 1).setFld (Reg.partyL 31) 0).setFld (Reg.partyR 31) 1)).setMailQ 31 1 [Msg.mk 1 0 0 0 0 [7]]

theorem test_MailboxesAct_mailboxHostPop :
    s_MailboxesAct_mailboxHostPop.house.input = true ∧ dirFrom s_MailboxesAct_mailboxHostPop (31 : Fin 32) (ptHost, 0) = some (0) ∧ s_MailboxesAct_mailboxHostPop.mailQ (31 : Fin 32) (1 - (0)) = (Msg.mk 1 0 0 0 0 [7] : Msg) :: ([] : List Msg) := by
  decide +kernel

def f_MailboxesAct_mailboxMsgReceive : Frame := mkFrame 10 0 8 0 0 3 9 0 0 0x9F (leBytes 2 1 ++ List.replicate 14 0 ++ [5])

def h_MailboxesAct_mailboxMsgReceive : InFrame := InFrame.mk (mkFrame 10 0 8 0 0 3 9 0 0 0x9F (leBytes 2 1 ++ List.replicate 14 0 ++ [5])) 8 0

def s_MailboxesAct_mailboxMsgReceive : State := arrived (mkFrame 10 0 8 0 0 3 9 0 0 0x9F (leBytes 2 1 ++ List.replicate 14 0 ++ [5])) (((((((live.setFld (Reg.rail 1) 1).setFld (Reg.rail 2) 1).setFld Reg.cbClaim 7).setFld Reg.cbHighest 7).setFld (Reg.chEnable 31) 1).setFld (Reg.partyL 31) 0x10).setFld (Reg.partyR 31) 1)

theorem test_MailboxesAct_mailboxMsgReceive :
    linksLive s_MailboxesAct_mailboxMsgReceive = true ∧ inboxOf s_MailboxesAct_mailboxMsgReceive f_MailboxesAct_mailboxMsgReceive = some h_MailboxesAct_mailboxMsgReceive ∧ Frame.type f_MailboxesAct_mailboxMsgReceive = tyMgmt ∧ 0x80 ≤ Frame.op f_MailboxesAct_mailboxMsgReceive ∧ Frame.op f_MailboxesAct_mailboxMsgReceive ≤ 0x9F ∧ (31) = Frame.op f_MailboxesAct_mailboxMsgReceive - 0x80 ∧ frameParty s_MailboxesAct_mailboxMsgReceive f_MailboxesAct_mailboxMsgReceive = some ((0x10, 0) : Nat × Nat) ∧ msgVerdict s_MailboxesAct_mailboxMsgReceive f_MailboxesAct_mailboxMsgReceive = .inr ((0), true) ∧ s_MailboxesAct_mailboxMsgReceive.mail.notices = [] := by
  decide +kernel

def f_MailboxesAct_mailboxMsgReceive2 : Frame := mkFrame 10 0 8 0 0 3 9 0 0 0x9F (leBytes 2 1 ++ List.replicate 14 0 ++ [5])

def h_MailboxesAct_mailboxMsgReceive2 : InFrame := InFrame.mk (mkFrame 10 0 8 0 0 3 9 0 0 0x9F (leBytes 2 1 ++ List.replicate 14 0 ++ [5])) 8 0

def s_MailboxesAct_mailboxMsgReceive2 : State := arrived (mkFrame 10 0 8 0 0 3 9 0 0 0x9F (leBytes 2 1 ++ List.replicate 14 0 ++ [5])) ((((((((live.setFld (Reg.rail 1) 1).setFld (Reg.rail 2) 1).setFld Reg.cbClaim 7).setFld Reg.cbHighest 7).setFld (Reg.chEnable 31) 1).setFld (Reg.partyL 31) 0x10).setFld (Reg.partyR 31) 1).setFld (Reg.chEnable 31) 0)

theorem test_MailboxesAct_mailboxMsgReceive2 :
    linksLive s_MailboxesAct_mailboxMsgReceive2 = true ∧ inboxOf s_MailboxesAct_mailboxMsgReceive2 f_MailboxesAct_mailboxMsgReceive2 = some h_MailboxesAct_mailboxMsgReceive2 ∧ Frame.type f_MailboxesAct_mailboxMsgReceive2 = tyMgmt ∧ 0x80 ≤ Frame.op f_MailboxesAct_mailboxMsgReceive2 ∧ Frame.op f_MailboxesAct_mailboxMsgReceive2 ≤ 0x9F ∧ msgVerdict s_MailboxesAct_mailboxMsgReceive2 f_MailboxesAct_mailboxMsgReceive2 = .inl (3) ∧ (3) ≠ ntLenBad ∧ s_MailboxesAct_mailboxMsgReceive2.mail.notices = [] := by
  decide +kernel

def f_MailboxesAct_mailboxNoticeReceive : Frame := mkFrame 10 0 8 0 0 3 9 0 0 0xA0 (mboxNotice 31 1 9)

def h_MailboxesAct_mailboxNoticeReceive : InFrame := InFrame.mk (mkFrame 10 0 8 0 0 3 9 0 0 0xA0 (mboxNotice 31 1 9)) 8 0

def s_MailboxesAct_mailboxNoticeReceive : State := arrived (mkFrame 10 0 8 0 0 3 9 0 0 0xA0 (mboxNotice 31 1 9)) ((((((((((live.setFld (Reg.rail 1) 1).setFld (Reg.rail 2) 1).setFld Reg.cbClaim 7).setFld Reg.cbHighest 7).setFld (Reg.chEnable 31) 1).setFld (Reg.partyL 31) 1).setFld (Reg.partyR 31) 0x10)).setMailQ 31 0 [Msg.mk 1 0 0 0 0 [7]]).modMail (fun m => { m with out := [Delivery.mk 31 0 9 0 0] }))

theorem test_MailboxesAct_mailboxNoticeReceive :
    linksLive s_MailboxesAct_mailboxNoticeReceive = true ∧ inboxOf s_MailboxesAct_mailboxNoticeReceive f_MailboxesAct_mailboxNoticeReceive = some h_MailboxesAct_mailboxNoticeReceive ∧ Frame.type f_MailboxesAct_mailboxNoticeReceive = tyMgmt ∧ Frame.op f_MailboxesAct_mailboxNoticeReceive = opNotice ∧ (31) = leAt f_MailboxesAct_mailboxNoticeReceive.payload 0 1 ∧ leAt f_MailboxesAct_mailboxNoticeReceive.payload 1 1 = ntAck ∧ s_MailboxesAct_mailboxNoticeReceive.mail.out = [(Delivery.mk 31 0 9 0 0 : Delivery)] ∧ (Delivery.mk 31 0 9 0 0 : Delivery).ch = (31) ∧ (Delivery.mk 31 0 9 0 0 : Delivery).seq = leAt f_MailboxesAct_mailboxNoticeReceive.payload 4 3 ∧ frameParty s_MailboxesAct_mailboxNoticeReceive f_MailboxesAct_mailboxNoticeReceive = some (receiverOf s_MailboxesAct_mailboxNoticeReceive (31) (Delivery.mk 31 0 9 0 0 : Delivery).dir) ∧ s_MailboxesAct_mailboxNoticeReceive.mailQ (31) (Delivery.mk 31 0 9 0 0 : Delivery).dir = (Msg.mk 1 0 0 0 0 [7] : Msg) :: ([] : List Msg) := by
  decide +kernel

def f_MailboxesAct_mailboxNoticeReceive2 : Frame := mkFrame 10 0 8 0 0 3 9 0 0 0xA0 (mboxNotice 31 1 9)

def h_MailboxesAct_mailboxNoticeReceive2 : InFrame := InFrame.mk (mkFrame 10 0 8 0 0 3 9 0 0 0xA0 (mboxNotice 31 1 9)) 8 0

def s_MailboxesAct_mailboxNoticeReceive2 : State := arrived (mkFrame 10 0 8 0 0 3 9 0 0 0xA0 (mboxNotice 31 1 9)) ((((((((live.setFld (Reg.rail 1) 1).setFld (Reg.rail 2) 1).setFld Reg.cbClaim 7).setFld Reg.cbHighest 7).setFld (Reg.chEnable 31) 1).setFld (Reg.partyL 31) 1).setFld (Reg.partyR 31) 0x10))

theorem test_MailboxesAct_mailboxNoticeReceive2 :
    linksLive s_MailboxesAct_mailboxNoticeReceive2 = true ∧ inboxOf s_MailboxesAct_mailboxNoticeReceive2 f_MailboxesAct_mailboxNoticeReceive2 = some h_MailboxesAct_mailboxNoticeReceive2 ∧ Frame.type f_MailboxesAct_mailboxNoticeReceive2 = tyMgmt ∧ Frame.op f_MailboxesAct_mailboxNoticeReceive2 = opNotice ∧ s_MailboxesAct_mailboxNoticeReceive2.mail.out = [] ∧ intakeFull s_MailboxesAct_mailboxNoticeReceive2 = false ∧ s_MailboxesAct_mailboxNoticeReceive2.board.waiting = [] := by
  decide +kernel

def s_MailboxesAct_mailboxResendTimeout : State := later ((((((((((live.setFld (Reg.rail 1) 1).setFld (Reg.rail 2) 1).setFld Reg.cbClaim 7).setFld Reg.cbHighest 7).setFld (Reg.chEnable 31) 1).setFld (Reg.partyL 31) 1).setFld (Reg.partyR 31) 0x10)).setMailQ 31 0 [Msg.mk 1 0 0 0 0 [7]]).modMail (fun m => { m with out := [Delivery.mk 31 0 9 0 0] }))

theorem test_MailboxesAct_mailboxResendTimeout :
    linksLive s_MailboxesAct_mailboxResendTimeout = true ∧ s_MailboxesAct_mailboxResendTimeout.mail.out = [(Delivery.mk 31 0 9 0 0 : Delivery)] ∧ (Delivery.mk 31 0 9 0 0 : Delivery).ch = (31 : Fin 32).val ∧ (Delivery.mk 31 0 9 0 0 : Delivery).dir = (0 : Fin 2).val ∧ s_MailboxesAct_mailboxResendTimeout.mailQ (31 : Fin 32) (0 : Fin 2) = (Msg.mk 1 0 0 0 0 [7] : Msg) :: ([] : List Msg) ∧ (Delivery.mk 31 0 9 0 0 : Delivery).sent + 2500 ≤ s_MailboxesAct_mailboxResendTimeout.now ∧ (Delivery.mk 31 0 9 0 0 : Delivery).tries < 15 := by
  decide +kernel

def s_MailboxesAct_mailboxResendTimeout2 : State := later ((((((((((live.setFld (Reg.rail 1) 1).setFld (Reg.rail 2) 1).setFld Reg.cbClaim 7).setFld Reg.cbHighest 7).setFld (Reg.chEnable 31) 1).setFld (Reg.partyL 31) 1).setFld (Reg.partyR 31) 0x10)).setMailQ 31 0 [Msg.mk 1 0 0 0 0 [7]]).modMail (fun m => { m with out := [Delivery.mk 31 0 9 15 0] }))

theorem test_MailboxesAct_mailboxResendTimeout2 :
    linksLive s_MailboxesAct_mailboxResendTimeout2 = true ∧ s_MailboxesAct_mailboxResendTimeout2.board.waiting = [] ∧ intakeFull s_MailboxesAct_mailboxResendTimeout2 = false ∧ s_MailboxesAct_mailboxResendTimeout2.mail.out = [(Delivery.mk 31 0 9 15 0 : Delivery)] ∧ (Delivery.mk 31 0 9 15 0 : Delivery).ch = (31 : Fin 32).val ∧ (Delivery.mk 31 0 9 15 0 : Delivery).dir = (0 : Fin 2).val ∧ s_MailboxesAct_mailboxResendTimeout2.mailQ (31 : Fin 32) (0 : Fin 2) = (Msg.mk 1 0 0 0 0 [7] : Msg) :: ([] : List Msg) ∧ (Delivery.mk 31 0 9 15 0 : Delivery).sent + 2500 ≤ s_MailboxesAct_mailboxResendTimeout2.now ∧ 15 ≤ (Delivery.mk 31 0 9 15 0 : Delivery).tries ∧ senderOf s_MailboxesAct_mailboxResendTimeout2 (31 : Fin 32) (0 : Fin 2) = (ptPrompter, 0) := by
  decide +kernel

def f_MailboxesAct_mgmtUnsupported : Frame := mkFrame 10 0 8 0 0 3 9 0 0 0x20 []

def h_MailboxesAct_mgmtUnsupported : InFrame := InFrame.mk (mkFrame 10 0 8 0 0 3 9 0 0 0x20 []) 8 0

def s_MailboxesAct_mgmtUnsupported : State := arrived (mkFrame 10 0 8 0 0 3 9 0 0 0x20 []) ((((live.setFld (Reg.rail 1) 1).setFld (Reg.rail 2) 1).setFld Reg.cbClaim 7).setFld Reg.cbHighest 7)

theorem test_MailboxesAct_mgmtUnsupported :
    linksLive s_MailboxesAct_mgmtUnsupported = true ∧ inboxOf s_MailboxesAct_mgmtUnsupported f_MailboxesAct_mgmtUnsupported = some h_MailboxesAct_mgmtUnsupported ∧ Frame.type f_MailboxesAct_mgmtUnsupported = tyMgmt ∧ mgmtAssigned (Frame.op f_MailboxesAct_mgmtUnsupported) = false ∧ s_MailboxesAct_mgmtUnsupported.mail.notices = [] := by
  decide +kernel

/-! SemaphoresAct. -/

theorem test_SemaphoresAct_semReadAcquire :
    (live.house.input = true ∧ (live.sem (63 : Fin 64)).holder = none) ∧ goes (.semReadAcquire (63 : Fin 64)) live
      (fun t => decide ((t.sem (63 : Fin 64)).holder = some (1, myChip live)) && decide ((t.sem (63 : Fin 64)).forced = (live.sem (63 : Fin 64)).forced) && decide (t.outbox = live.outbox ++ [.barData (0x200800 + 8 * (63 : Fin 64).val) (semValue 1 (live.sem (63 : Fin 64)).forced (1, myChip live))]) && decide (t.regs = live.regs) && decide (t.mem = live.mem)) = true := by
  decide +kernel

def s_SemaphoresAct_semReadAcquire2 : State := live.setSem 63 { holder := some (8, 0), forced := true }

theorem test_SemaphoresAct_semReadAcquire2 :
    (s_SemaphoresAct_semReadAcquire2.house.input = true ∧ (s_SemaphoresAct_semReadAcquire2.sem (63 : Fin 64)).holder = some ((8, 0) : Nat × Nat)) ∧ goes (.semReadAcquire (63 : Fin 64)) s_SemaphoresAct_semReadAcquire2
      (fun t => decide (t.sem (63 : Fin 64) = s_SemaphoresAct_semReadAcquire2.sem (63 : Fin 64)) && decide (t.outbox = s_SemaphoresAct_semReadAcquire2.outbox ++ [.barData (0x200800 + 8 * (63 : Fin 64).val) (semValue 2 (s_SemaphoresAct_semReadAcquire2.sem (63 : Fin 64)).forced ((8, 0) : Nat × Nat))]) && decide (t.regs = s_SemaphoresAct_semReadAcquire2.regs) && decide (t.mem = s_SemaphoresAct_semReadAcquire2.mem)) = true := by
  decide +kernel

def f_SemaphoresAct_semAcq : Frame := mkFrame 10 0 8 0 0 3 9 0 63 0xA1 []

def h_SemaphoresAct_semAcq : InFrame := InFrame.mk (mkFrame 10 0 8 0 0 3 9 0 63 0xA1 []) 8 0

def s_SemaphoresAct_semAcq : State := arrived (mkFrame 10 0 8 0 0 3 9 0 63 0xA1 []) ((((live.setFld (Reg.rail 1) 1).setFld (Reg.rail 2) 1).setFld Reg.cbClaim 7).setFld Reg.cbHighest 7)

theorem test_SemaphoresAct_semAcq :
    linksLive s_SemaphoresAct_semAcq = true ∧ inboxOf s_SemaphoresAct_semAcq f_SemaphoresAct_semAcq = some h_SemaphoresAct_semAcq ∧ Frame.type f_SemaphoresAct_semAcq = tyMgmt ∧ Frame.op f_SemaphoresAct_semAcq = opSemAcq ∧ Frame.len f_SemaphoresAct_semAcq = 0 ∧ (63) = Frame.addr f_SemaphoresAct_semAcq % 64 ∧ frameMaster s_SemaphoresAct_semAcq f_SemaphoresAct_semAcq = some ((8, 0) : Nat × Nat) ∧ (s_SemaphoresAct_semAcq.sem (63)).holder = none ∧ s_SemaphoresAct_semAcq.mail.notices = [] := by
  decide +kernel

def f_SemaphoresAct_semRel : Frame := mkFrame 10 0 8 0 0 3 9 0 63 0xA2 []

def h_SemaphoresAct_semRel : InFrame := InFrame.mk (mkFrame 10 0 8 0 0 3 9 0 63 0xA2 []) 8 0

def s_SemaphoresAct_semRel : State := arrived (mkFrame 10 0 8 0 0 3 9 0 63 0xA2 []) (((((live.setFld (Reg.rail 1) 1).setFld (Reg.rail 2) 1).setFld Reg.cbClaim 7).setFld Reg.cbHighest 7).setSem 63 { holder := some (8, 0), forced := true })

theorem test_SemaphoresAct_semRel :
    linksLive s_SemaphoresAct_semRel = true ∧ inboxOf s_SemaphoresAct_semRel f_SemaphoresAct_semRel = some h_SemaphoresAct_semRel ∧ Frame.type f_SemaphoresAct_semRel = tyMgmt ∧ Frame.op f_SemaphoresAct_semRel = opSemRel ∧ Frame.len f_SemaphoresAct_semRel = 0 ∧ (63) = Frame.addr f_SemaphoresAct_semRel % 64 ∧ frameMaster s_SemaphoresAct_semRel f_SemaphoresAct_semRel = some ((8, 0) : Nat × Nat) ∧ (s_SemaphoresAct_semRel.sem (63)).holder = some ((8, 0) : Nat × Nat) ∧ s_SemaphoresAct_semRel.mail.notices = [] := by
  decide +kernel

def f_SemaphoresAct_semRel2 : Frame := mkFrame 10 0 8 0 0 3 9 0 63 0xA2 []

def h_SemaphoresAct_semRel2 : InFrame := InFrame.mk (mkFrame 10 0 8 0 0 3 9 0 63 0xA2 []) 8 0

def s_SemaphoresAct_semRel2 : State := arrived (mkFrame 10 0 8 0 0 3 9 0 63 0xA2 []) ((((live.setFld (Reg.rail 1) 1).setFld (Reg.rail 2) 1).setFld Reg.cbClaim 7).setFld Reg.cbHighest 7)

theorem test_SemaphoresAct_semRel2 :
    linksLive s_SemaphoresAct_semRel2 = true ∧ inboxOf s_SemaphoresAct_semRel2 f_SemaphoresAct_semRel2 = some h_SemaphoresAct_semRel2 ∧ Frame.type f_SemaphoresAct_semRel2 = tyMgmt ∧ Frame.op f_SemaphoresAct_semRel2 = opSemRel ∧ Frame.len f_SemaphoresAct_semRel2 = 0 ∧ (63) = Frame.addr f_SemaphoresAct_semRel2 % 64 ∧ frameMaster s_SemaphoresAct_semRel2 f_SemaphoresAct_semRel2 = some ((8, 0) : Nat × Nat) ∧ (s_SemaphoresAct_semRel2.sem (63)).holder ≠ some ((8, 0) : Nat × Nat) ∧ s_SemaphoresAct_semRel2.mail.notices = [] := by
  decide +kernel

def s_SemaphoresAct_semHostRelease : State := live.setSem 63 { holder := some (1, 0), forced := true }

theorem test_SemaphoresAct_semHostRelease :
    (s_SemaphoresAct_semHostRelease.house.input = true ∧ (s_SemaphoresAct_semHostRelease.sem (63 : Fin 64)).holder = some (1, myChip s_SemaphoresAct_semHostRelease)) ∧ goes (.semHostRelease (63 : Fin 64)) s_SemaphoresAct_semHostRelease
      (fun t => decide (t.sem (63 : Fin 64) = Sem.init) && decide (t.regs = s_SemaphoresAct_semHostRelease.regs) && decide (t.mem = s_SemaphoresAct_semHostRelease.mem)) = true := by
  decide +kernel

def s_SemaphoresAct_semHostRelease2 : State := live.setSem 63 { holder := some (0, 0), forced := true }

theorem test_SemaphoresAct_semHostRelease2 :
    s_SemaphoresAct_semHostRelease2.house.input = true ∧ (s_SemaphoresAct_semHostRelease2.sem (63 : Fin 64)).holder ≠ some (1, myChip s_SemaphoresAct_semHostRelease2) := by
  decide +kernel

def s_SemaphoresAct_semForce : State := live.setSem 63 { holder := some (1, 0), forced := true }

theorem test_SemaphoresAct_semForce :
    (s_SemaphoresAct_semForce.house.input = true ∧ (s_SemaphoresAct_semForce.sem (63 : Fin 64)).holder.isSome = true) ∧ goes (.semForce (63 : Fin 64)) s_SemaphoresAct_semForce
      (fun t => decide (t.sem (63 : Fin 64) = { holder := none, forced := true }) && decide (t.fld Reg.forcedSem = 1) && decide (t.mem = s_SemaphoresAct_semForce.mem) && decide (onlyRegs [Reg.forcedSem.off] s_SemaphoresAct_semForce t = true)) = true := by
  decide +kernel

/-! CapsulesAct. -/

def s_CapsulesAct_capsuleReceive : State := accepted .rack 5 [] (live.setFld Reg.trayEid 9)

theorem test_CapsulesAct_capsuleReceive :
    s_CapsulesAct_capsuleReceive.house.input = true ∧ transportPort (.tray : Transport) = some (.tray : Port) ∧ portReady s_CapsulesAct_capsuleReceive (.tray : Port) = true ∧ ([1] : List Byte).length ≤ 4108 ∧ (⟨.tray, [1]⟩ : Capsule).via = (.tray : Transport) ∧ (⟨.tray, [1]⟩ : Capsule).bytes = ([1] : List Byte) ∧ engineBusy s_CapsulesAct_capsuleReceive = true := by
  decide +kernel

theorem test_CapsulesAct_capsuleReceive2 :
    (live.setFld Reg.trayEid 9).house.input = true ∧ transportPort (.tray : Transport) = some (.tray : Port) ∧ portReady (live.setFld Reg.trayEid 9) (.tray : Port) = true ∧ ([1] : List Byte).length ≤ 4108 ∧ (⟨.tray, [1]⟩ : Capsule).via = (.tray : Transport) ∧ (⟨.tray, [1]⟩ : Capsule).bytes = ([1] : List Byte) ∧ engineBusy (live.setFld Reg.trayEid 9) = false ∧ (live.setFld Reg.trayEid 9).sec.waiting = [] := by
  decide +kernel

def c_CapsulesAct_capsuleReceive3 : Capsule := ⟨.window, List.replicate 56 1⟩

theorem test_CapsulesAct_capsuleReceive3 :
    (accepted .rack 5 [] live).house.input = true ∧ (.window : Transport) = .window ∧ 56 ≤ (List.replicate 56 1 : List Byte).length ∧ (List.replicate 56 1 : List Byte).length ≤ 2104 ∧ (accepted .rack 5 [] live).fld Reg.capBusy = 0 ∧ engineBusy (accepted .rack 5 [] live) = true ∧ c_CapsulesAct_capsuleReceive3.via = .window ∧ (c_CapsulesAct_capsuleReceive3.bytes = Tab.getRange (fun _ => 0) (Tab.setRange (fun _ => 0) (accepted .rack 5 [] live).sec.win 0 (List.replicate 56 1 : List Byte)) 0 (List.replicate 56 1 : List Byte).length) := by
  decide +kernel

def c_CapsulesAct_counterStoreComplete : Capsule := ⟨.tray, [1, 0, 1, 5] ++ leBytes 4 16 ++ leBytes 8 0 ++ leBytes 8 77 ++ List.replicate 16 0 ++ List.replicate 32 0⟩

def s_CapsulesAct_counterStoreComplete : State := live.modSec (fun k => { k with storing := some (⟨.tray, [1, 0, 1, 5] ++ leBytes 4 16 ++ leBytes 8 0 ++ leBytes 8 77 ++ List.replicate 16 0 ++ List.replicate 32 0⟩) })

theorem test_CapsulesAct_counterStoreComplete :
    s_CapsulesAct_counterStoreComplete.house.input = true ∧ s_CapsulesAct_counterStoreComplete.sec.storing = some c_CapsulesAct_counterStoreComplete ∧ true = true ∧ viaCommander c_CapsulesAct_counterStoreComplete.via = cpHost ∧ s_CapsulesAct_counterStoreComplete.fld Reg.recovery = 0 ∧ Cap.kind c_CapsulesAct_counterStoreComplete.bytes ≠ kPower ∧ Cap.kind c_CapsulesAct_counterStoreComplete.bytes ≠ kFw := by
  decide +kernel

def c_CapsulesAct_counterStoreComplete2 : Capsule := ⟨.tray, [1, 0, 1, 5] ++ leBytes 4 16 ++ leBytes 8 0 ++ leBytes 8 77 ++ List.replicate 16 0 ++ List.replicate 32 0⟩

def s_CapsulesAct_counterStoreComplete2 : State := live.modSec (fun k => { k with storing := some (⟨.tray, [1, 0, 1, 5] ++ leBytes 4 16 ++ leBytes 8 0 ++ leBytes 8 77 ++ List.replicate 16 0 ++ List.replicate 32 0⟩) })

theorem test_CapsulesAct_counterStoreComplete2 :
    s_CapsulesAct_counterStoreComplete2.house.input = true ∧ s_CapsulesAct_counterStoreComplete2.sec.storing = some c_CapsulesAct_counterStoreComplete2 ∧ false = false ∧ s_CapsulesAct_counterStoreComplete2.sec.waiting = [] := by
  decide +kernel

def s_CapsulesAct_authHoldExpiry : State := later (live.modSec (fun k => { k with holds := [(.tray, 0), (.rack, 0), (.tray, 2 ^ 44)] }))

theorem test_CapsulesAct_authHoldExpiry :
    s_CapsulesAct_authHoldExpiry.house.input = true := by
  decide +kernel

def c_CapsulesAct_safetyConfig : Capsule := ⟨.tray, ((accepted .tray kSafety (leBytes 4 0x2100018 ++ leBytes 4 0 ++ leBytes 8 24650) live).sec.accepted.map (fun c => c.bytes)).getD []⟩

def p_CapsulesAct_safetyConfig : List Byte := (leBytes 4 0x2100018 ++ leBytes 4 0 ++ leBytes 8 24650)

def s_CapsulesAct_safetyConfig : State := accepted .tray kSafety (leBytes 4 0x2100018 ++ leBytes 4 0 ++ leBytes 8 24650) (live)

theorem test_CapsulesAct_safetyConfig :
    s_CapsulesAct_safetyConfig.house.input = true ∧ acceptedOf s_CapsulesAct_safetyConfig kSafety = some c_CapsulesAct_safetyConfig ∧ p_CapsulesAct_safetyConfig = Cap.payload c_CapsulesAct_safetyConfig.bytes ∧ s_CapsulesAct_safetyConfig.sec.waiting = [] ∧ safetyEntries p_CapsulesAct_safetyConfig = [(0x2100018, 0, (24650))] ∧ safetyAccepted s_CapsulesAct_safetyConfig (viaCommander c_CapsulesAct_safetyConfig.via) p_CapsulesAct_safetyConfig = true := by
  decide +kernel

def c_CapsulesAct_safetyConfig2 : Capsule := ⟨.tray, ((accepted .tray kSafety (leBytes 4 0x2100018 ++ leBytes 4 0 ++ leBytes 8 1) live).sec.accepted.map (fun c => c.bytes)).getD []⟩

def p_CapsulesAct_safetyConfig2 : List Byte := (leBytes 4 0x2100018 ++ leBytes 4 0 ++ leBytes 8 1)

def s_CapsulesAct_safetyConfig2 : State := accepted .tray kSafety (leBytes 4 0x2100018 ++ leBytes 4 0 ++ leBytes 8 1) (live)

theorem test_CapsulesAct_safetyConfig2 :
    s_CapsulesAct_safetyConfig2.house.input = true ∧ acceptedOf s_CapsulesAct_safetyConfig2 kSafety = some c_CapsulesAct_safetyConfig2 ∧ p_CapsulesAct_safetyConfig2 = Cap.payload c_CapsulesAct_safetyConfig2.bytes ∧ s_CapsulesAct_safetyConfig2.sec.waiting = [] ∧ safetyAccepted s_CapsulesAct_safetyConfig2 (viaCommander c_CapsulesAct_safetyConfig2.via) p_CapsulesAct_safetyConfig2 = false := by
  decide +kernel

def c_CapsulesAct_keyInstall : Capsule := ⟨.tray, ((accepted .tray kInstall (leBytes 4 1 ++ leBytes 4 7 ++ List.replicate 1584 0) live).sec.accepted.map (fun c => c.bytes)).getD []⟩

def p_CapsulesAct_keyInstall : List Byte := (leBytes 4 1 ++ leBytes 4 7 ++ List.replicate 1584 0)

def s_CapsulesAct_keyInstall : State := accepted .tray kInstall (leBytes 4 1 ++ leBytes 4 7 ++ List.replicate 1584 0) (live)

theorem test_CapsulesAct_keyInstall :
    s_CapsulesAct_keyInstall.house.input = true ∧ acceptedOf s_CapsulesAct_keyInstall kInstall = some c_CapsulesAct_keyInstall ∧ p_CapsulesAct_keyInstall = Cap.payload c_CapsulesAct_keyInstall.bytes ∧ s_CapsulesAct_keyInstall.sec.waiting = [] ∧ leAt p_CapsulesAct_keyInstall 0 1 = 1 ∧ leAt p_CapsulesAct_keyInstall 1 3 = 0 := by
  decide +kernel

def c_CapsulesAct_keyClear : Capsule := ⟨.rack, ((accepted .rack kClear (leBytes 1 1 ++ List.replicate 15 0) live).sec.accepted.map (fun c => c.bytes)).getD []⟩

def p_CapsulesAct_keyClear : List Byte := (leBytes 1 1 ++ List.replicate 15 0)

def s_CapsulesAct_keyClear : State := accepted .rack kClear (leBytes 1 1 ++ List.replicate 15 0) ((live.setFld Reg.hostKeySet 1).modSec (fun k => { k with hostKey := some 5 }))

theorem test_CapsulesAct_keyClear :
    s_CapsulesAct_keyClear.house.input = true ∧ acceptedOf s_CapsulesAct_keyClear kClear = some c_CapsulesAct_keyClear ∧ p_CapsulesAct_keyClear = Cap.payload c_CapsulesAct_keyClear.bytes ∧ s_CapsulesAct_keyClear.sec.waiting = [] ∧ leAt p_CapsulesAct_keyClear 0 1 = 1 := by
  decide +kernel

def c_CapsulesAct_actSwap : Capsule := ⟨.tray, ((accepted .tray kAct (leBytes 1 1 ++ List.replicate 15 0) live).sec.accepted.map (fun c => c.bytes)).getD []⟩

def p_CapsulesAct_actSwap : List Byte := (leBytes 1 1 ++ List.replicate 15 0)

def s_CapsulesAct_actSwap : State := accepted .tray kAct (leBytes 1 1 ++ List.replicate 15 0) (live.setFld (Reg.actState 1) 1)

theorem test_CapsulesAct_actSwap :
    s_CapsulesAct_actSwap.house.input = true ∧ acceptedOf s_CapsulesAct_actSwap kAct = some c_CapsulesAct_actSwap ∧ p_CapsulesAct_actSwap = Cap.payload c_CapsulesAct_actSwap.bytes ∧ s_CapsulesAct_actSwap.sec.waiting = [] ∧ (1) = leAt p_CapsulesAct_actSwap 0 1 ∧ (1) < 2 ∧ dieRuns s_CapsulesAct_actSwap = true ∧ actSwappable s_CapsulesAct_actSwap (1) = true := by
  decide +kernel

def c_CapsulesAct_planCommit : Capsule := ⟨.tray, ((accepted .tray kPlan (leBytes 4 9 ++ List.replicate 12 0 ++ List.replicate 64 0) live).sec.accepted.map (fun c => c.bytes)).getD []⟩

def p_CapsulesAct_planCommit : List Byte := (leBytes 4 9 ++ List.replicate 12 0 ++ List.replicate 64 0)

def s_CapsulesAct_planCommit : State := accepted .tray kPlan (leBytes 4 9 ++ List.replicate 12 0 ++ List.replicate 64 0) (live)

theorem test_CapsulesAct_planCommit :
    s_CapsulesAct_planCommit.house.input = true ∧ acceptedOf s_CapsulesAct_planCommit kPlan = some c_CapsulesAct_planCommit ∧ p_CapsulesAct_planCommit = Cap.payload c_CapsulesAct_planCommit.bytes ∧ s_CapsulesAct_planCommit.sec.waiting = [] ∧ dieRuns s_CapsulesAct_planCommit = true := by
  decide +kernel

/-! FirmwareAndBootAct. -/

def c_FirmwareAndBootAct_fwUpdateOpen : Capsule := ⟨.tray, ((accepted .tray kFw (leBytes 1 1 ++ leBytes 1 1 ++ leBytes 2 0 ++ leBytes 4 8000 ++ List.replicate 72 0) live).sec.accepted.map (fun c => c.bytes)).getD []⟩

def p_FirmwareAndBootAct_fwUpdateOpen : List Byte := (leBytes 1 1 ++ leBytes 1 1 ++ leBytes 2 0 ++ leBytes 4 8000 ++ List.replicate 72 0)

def s_FirmwareAndBootAct_fwUpdateOpen : State := accepted .tray kFw (leBytes 1 1 ++ leBytes 1 1 ++ leBytes 2 0 ++ leBytes 4 8000 ++ List.replicate 72 0) ((live.setFld (Reg.slotValid 1) 1).modSec (fun k => { k with booted := true, slots := [(2 ^ 24 + 3, 7)] }))

theorem test_FirmwareAndBootAct_fwUpdateOpen :
    s_FirmwareAndBootAct_fwUpdateOpen.house.input = true ∧ acceptedOf s_FirmwareAndBootAct_fwUpdateOpen kFw = some c_FirmwareAndBootAct_fwUpdateOpen ∧ p_FirmwareAndBootAct_fwUpdateOpen = Cap.payload c_FirmwareAndBootAct_fwUpdateOpen.bytes ∧ s_FirmwareAndBootAct_fwUpdateOpen.sec.waiting = [] ∧ Fw.phase p_FirmwareAndBootAct_fwUpdateOpen = 1 ∧ fwRefusal s_FirmwareAndBootAct_fwUpdateOpen p_FirmwareAndBootAct_fwUpdateOpen = none ∧ (1) = Fw.slot p_FirmwareAndBootAct_fwUpdateOpen := by
  decide +kernel

def c_FirmwareAndBootAct_fwUpdateVerify : Capsule := ⟨.tray, ((accepted .tray kFw (leBytes 1 2 ++ leBytes 1 1 ++ leBytes 2 0 ++ leBytes 4 8000 ++ List.replicate 72 0) live).sec.accepted.map (fun c => c.bytes)).getD []⟩

def p_FirmwareAndBootAct_fwUpdateVerify : List Byte := (leBytes 1 2 ++ leBytes 1 1 ++ leBytes 2 0 ++ leBytes 4 8000 ++ List.replicate 72 0)

def s_FirmwareAndBootAct_fwUpdateVerify : State := accepted .tray kFw (leBytes 1 2 ++ leBytes 1 1 ++ leBytes 2 0 ++ leBytes 4 8000 ++ List.replicate 72 0) ((live.setFld Reg.fwState 1).setFld Reg.fwSlot 1)

theorem test_FirmwareAndBootAct_fwUpdateVerify :
    s_FirmwareAndBootAct_fwUpdateVerify.house.input = true ∧ acceptedOf s_FirmwareAndBootAct_fwUpdateVerify kFw = some c_FirmwareAndBootAct_fwUpdateVerify ∧ p_FirmwareAndBootAct_fwUpdateVerify = Cap.payload c_FirmwareAndBootAct_fwUpdateVerify.bytes ∧ s_FirmwareAndBootAct_fwUpdateVerify.sec.waiting = [] ∧ Fw.phase p_FirmwareAndBootAct_fwUpdateVerify = 2 ∧ Fw.formed p_FirmwareAndBootAct_fwUpdateVerify = true ∧ s_FirmwareAndBootAct_fwUpdateVerify.fld Reg.fwState = fwOpen ∧ (1) = s_FirmwareAndBootAct_fwUpdateVerify.fld Reg.fwSlot := by
  decide +kernel

def c_FirmwareAndBootAct_fwUpdateActivate : Capsule := ⟨.tray, ((accepted .tray kFw (leBytes 1 3 ++ leBytes 1 1 ++ leBytes 2 0 ++ leBytes 4 8000 ++ List.replicate 72 0) live).sec.accepted.map (fun c => c.bytes)).getD []⟩

def p_FirmwareAndBootAct_fwUpdateActivate : List Byte := (leBytes 1 3 ++ leBytes 1 1 ++ leBytes 2 0 ++ leBytes 4 8000 ++ List.replicate 72 0)

def s_FirmwareAndBootAct_fwUpdateActivate : State := accepted .tray kFw (leBytes 1 3 ++ leBytes 1 1 ++ leBytes 2 0 ++ leBytes 4 8000 ++ List.replicate 72 0) (live.setFld (Reg.slotValid 1) 1)

theorem test_FirmwareAndBootAct_fwUpdateActivate :
    s_FirmwareAndBootAct_fwUpdateActivate.house.input = true ∧ acceptedOf s_FirmwareAndBootAct_fwUpdateActivate kFw = some c_FirmwareAndBootAct_fwUpdateActivate ∧ p_FirmwareAndBootAct_fwUpdateActivate = Cap.payload c_FirmwareAndBootAct_fwUpdateActivate.bytes ∧ s_FirmwareAndBootAct_fwUpdateActivate.sec.waiting = [] ∧ Fw.phase p_FirmwareAndBootAct_fwUpdateActivate = 3 ∧ fwRefusal s_FirmwareAndBootAct_fwUpdateActivate p_FirmwareAndBootAct_fwUpdateActivate = none ∧ (1) = Fw.slot p_FirmwareAndBootAct_fwUpdateActivate ∧ s_FirmwareAndBootAct_fwUpdateActivate.fld Reg.recovery = 0 := by
  decide +kernel

def c_FirmwareAndBootAct_fwUpdateRaiseSvn : Capsule := ⟨.tray, ((accepted .tray kFw (leBytes 1 4 ++ leBytes 1 0 ++ leBytes 2 0 ++ leBytes 4 8000 ++ List.replicate 72 0) live).sec.accepted.map (fun c => c.bytes)).getD []⟩

def p_FirmwareAndBootAct_fwUpdateRaiseSvn : List Byte := (leBytes 1 4 ++ leBytes 1 0 ++ leBytes 2 0 ++ leBytes 4 8000 ++ List.replicate 72 0)

def s_FirmwareAndBootAct_fwUpdateRaiseSvn : State := accepted .tray kFw (leBytes 1 4 ++ leBytes 1 0 ++ leBytes 2 0 ++ leBytes 4 8000 ++ List.replicate 72 0) ((live.setFld Reg.runSvn 5).modSec (fun k => { k with booted := true }))

theorem test_FirmwareAndBootAct_fwUpdateRaiseSvn :
    s_FirmwareAndBootAct_fwUpdateRaiseSvn.house.input = true ∧ acceptedOf s_FirmwareAndBootAct_fwUpdateRaiseSvn kFw = some c_FirmwareAndBootAct_fwUpdateRaiseSvn ∧ p_FirmwareAndBootAct_fwUpdateRaiseSvn = Cap.payload c_FirmwareAndBootAct_fwUpdateRaiseSvn.bytes ∧ s_FirmwareAndBootAct_fwUpdateRaiseSvn.sec.waiting = [] ∧ Fw.phase p_FirmwareAndBootAct_fwUpdateRaiseSvn = 4 ∧ fwRefusal s_FirmwareAndBootAct_fwUpdateRaiseSvn p_FirmwareAndBootAct_fwUpdateRaiseSvn = none := by
  decide +kernel

def c_FirmwareAndBootAct_fwUpdateAbort : Capsule := ⟨.tray, ((accepted .tray kFw (leBytes 1 5 ++ leBytes 1 0 ++ leBytes 2 0 ++ leBytes 4 8000 ++ List.replicate 72 0) live).sec.accepted.map (fun c => c.bytes)).getD []⟩

def p_FirmwareAndBootAct_fwUpdateAbort : List Byte := (leBytes 1 5 ++ leBytes 1 0 ++ leBytes 2 0 ++ leBytes 4 8000 ++ List.replicate 72 0)

def s_FirmwareAndBootAct_fwUpdateAbort : State := accepted .tray kFw (leBytes 1 5 ++ leBytes 1 0 ++ leBytes 2 0 ++ leBytes 4 8000 ++ List.replicate 72 0) (live.setFld Reg.fwState 1)

theorem test_FirmwareAndBootAct_fwUpdateAbort :
    s_FirmwareAndBootAct_fwUpdateAbort.house.input = true ∧ acceptedOf s_FirmwareAndBootAct_fwUpdateAbort kFw = some c_FirmwareAndBootAct_fwUpdateAbort ∧ p_FirmwareAndBootAct_fwUpdateAbort = Cap.payload c_FirmwareAndBootAct_fwUpdateAbort.bytes ∧ s_FirmwareAndBootAct_fwUpdateAbort.sec.waiting = [] ∧ Fw.phase p_FirmwareAndBootAct_fwUpdateAbort = 5 ∧ fwRefusal s_FirmwareAndBootAct_fwUpdateAbort p_FirmwareAndBootAct_fwUpdateAbort = none := by
  decide +kernel

def s_FirmwareAndBootAct_fwWindowWrite : State := (live.setFld Reg.fwState 1).setFld Reg.fwPage 255

theorem test_FirmwareAndBootAct_fwWindowWrite :
    (s_FirmwareAndBootAct_fwWindowWrite.house.input = true ∧ s_FirmwareAndBootAct_fwWindowWrite.fld Reg.fwState = fwOpen) ∧ goes (.fwWindowWrite (65535 : Fin 65536) ([1, 2] : List Byte)) s_FirmwareAndBootAct_fwWindowWrite
      (fun t => decide (t.sec.slots = Tab.setRange (fun _ => 0) s_FirmwareAndBootAct_fwWindowWrite.sec.slots (s_FirmwareAndBootAct_fwWindowWrite.fld Reg.fwSlot * 2 ^ 24 + (s_FirmwareAndBootAct_fwWindowWrite.fld Reg.fwPage * 65536 + (65535 : Fin 65536).val)) (([1, 2] : List Byte).take (65536 - (65535 : Fin 65536).val))) && decide (t.regs = s_FirmwareAndBootAct_fwWindowWrite.regs) && decide (t.mem = s_FirmwareAndBootAct_fwWindowWrite.mem)) = true := by
  decide +kernel

theorem test_FirmwareAndBootAct_fwWindowWrite2 :
    (live.house.input = true ∧ live.fld Reg.fwState ≠ fwOpen) ∧ goes (.fwWindowWrite (65535 : Fin 65536) ([1, 2] : List Byte)) live
      (fun t => decide (t.sec = live.sec) && decide (t.fld Reg.secCfgErr = 1) && decide (t.mem = live.mem) && decide (onlyRegs [Reg.secCfgErr.off] live t = true)) = true := by
  decide +kernel

theorem test_FirmwareAndBootAct_bootVerify :
    State.reset.house.input = true ∧ State.reset.house.resetLow = false ∧ State.reset.sec.booted = false ∧ State.reset.fld Reg.recovery = 0 := by
  decide +kernel

/-! AttestationAnswers. -/

theorem test_AttestationAnswers_spdmGetVersion :
    (live.setFld Reg.trayEid 9).house.input = true ∧ portReady (live.setFld Reg.trayEid 9) (.tray : Port) = true ∧ ([1] : List Byte).length ≤ 4112 := by
  decide +kernel

theorem test_AttestationAnswers_spdmGetCapabilities :
    (live.setFld Reg.trayEid 9).house.input = true ∧ portReady (live.setFld Reg.trayEid 9) (.tray : Port) = true ∧ ([1] : List Byte).length ≤ 4112 := by
  decide +kernel

theorem test_AttestationAnswers_spdmNegotiateAlgorithms :
    (live.setFld Reg.trayEid 9).house.input = true ∧ portReady (live.setFld Reg.trayEid 9) (.tray : Port) = true ∧ ([1] : List Byte).length ≤ 4112 := by
  decide +kernel

theorem test_AttestationAnswers_spdmGetDigests :
    (live.setFld Reg.trayEid 9).house.input = true ∧ portReady (live.setFld Reg.trayEid 9) (.tray : Port) = true ∧ ([1] : List Byte).length ≤ 4112 := by
  decide +kernel

def d_AttestationAnswers_spdmGetCertificate : List Byte := ((Config.certificate 1).drop 0).take 65535

theorem test_AttestationAnswers_spdmGetCertificate :
    (live.setFld Reg.trayEid 9).house.input = true ∧ portReady (live.setFld Reg.trayEid 9) (.tray : Port) = true ∧ (1 : Fin 8).val < 2 ∧ d_AttestationAnswers_spdmGetCertificate = ((Config.certificate (1 : Fin 8)).drop (0 : Fin 65536)).take (65535 : Fin 65536) := by
  exact ⟨by decide +kernel, by decide +kernel, by decide +kernel, rfl⟩

theorem test_AttestationAnswers_spdmGetCertificate2 :
    ((live.setFld Reg.trayEid 9).house.input = true ∧ portReady (live.setFld Reg.trayEid 9) (.tray : Port) = true ∧ 1 < (2 : Fin 8).val) ∧ goes (.spdmGetCertificate (.tray : Port) (2 : Fin 8) (0 : Fin 65536) (1 : Fin 65536)) (live.setFld Reg.trayEid 9)
      (fun t => decide (t.outbox = (live.setFld Reg.trayEid 9).outbox ++ [.spdm (.tray : Port) spdmError ([BitVec.ofNat 8 errInvalidRequest])]) && decide (t.regs = (live.setFld Reg.trayEid 9).regs) && decide (t.mem = (live.setFld Reg.trayEid 9).mem) && decide (t.sec = (live.setFld Reg.trayEid 9).sec)) = true := by
  decide +kernel

theorem test_AttestationAnswers_spdmGetMeasurements :
    (live.setFld Reg.trayEid 9).house.input = true ∧ portReady (live.setFld Reg.trayEid 9) (.tray : Port) = true ∧ chosenMeasurements (live.setFld Reg.trayEid 9) (7 : Fin 256) = some (List.replicate 64 0 : List Byte) ∧ true = true := by
  decide +kernel

theorem test_AttestationAnswers_spdmGetMeasurements2 :
    ((live.setFld Reg.trayEid 9).house.input = true ∧ portReady (live.setFld Reg.trayEid 9) (.tray : Port) = true ∧ (7 : Fin 256).val < 8 ∧ false = false) ∧ goes (.spdmGetMeasurements (.tray : Port) (7 : Fin 256) false ([1] : List Byte)) (live.setFld Reg.trayEid 9)
      (fun t => decide (t.outbox = (live.setFld Reg.trayEid 9).outbox ++ [.spdm (.tray : Port) spdmMeasurements (measurementBytes (live.setFld Reg.trayEid 9) (7 : Fin 256))]) && decide (t.regs = (live.setFld Reg.trayEid 9).regs) && decide (t.mem = (live.setFld Reg.trayEid 9).mem) && decide (t.sec = (live.setFld Reg.trayEid 9).sec)) = true := by
  decide +kernel

theorem test_AttestationAnswers_spdmGetMeasurements3 :
    ((live.setFld Reg.trayEid 9).house.input = true ∧ portReady (live.setFld Reg.trayEid 9) (.tray : Port) = true ∧ 8 ≤ (8 : Fin 256).val ∧ (8 : Fin 256).val ≠ 0xFF) ∧ goes (.spdmGetMeasurements (.tray : Port) (8 : Fin 256) false ([1] : List Byte)) (live.setFld Reg.trayEid 9)
      (fun t => decide (t.outbox = (live.setFld Reg.trayEid 9).outbox ++ [.spdm (.tray : Port) spdmError ([BitVec.ofNat 8 errInvalidRequest])]) && decide (t.regs = (live.setFld Reg.trayEid 9).regs) && decide (t.mem = (live.setFld Reg.trayEid 9).mem) && decide (t.sec = (live.setFld Reg.trayEid 9).sec)) = true := by
  decide +kernel

theorem test_AttestationAnswers_spdmUnsupported :
    ((live.setFld Reg.trayEid 9).house.input = true ∧ portReady (live.setFld Reg.trayEid 9) (.tray : Port) = true) ∧ goes (.spdmUnsupported (.tray : Port) (0x82 : Fin 256)) (live.setFld Reg.trayEid 9)
      (fun t => decide (t.outbox = (live.setFld Reg.trayEid 9).outbox ++ [.spdm (.tray : Port) spdmError ([BitVec.ofNat 8 errUnsupportedRequest, BitVec.ofNat 8 (0x82 : Fin 256)])]) && decide (t.regs = (live.setFld Reg.trayEid 9).regs) && decide (t.mem = (live.setFld Reg.trayEid 9).mem) && decide (t.sec = (live.setFld Reg.trayEid 9).sec)) = true := by
  decide +kernel

/-! HostPortActs. -/

theorem test_HostPortActs_hostLinkUp :
    linksLive live = true ∧ live.fld Reg.hostMode = hmDown ∧ (16) ∈ [1, 2, 4, 8, 16] := by
  decide +kernel

def s_HostPortActs_hostLinkDown : State := (live.setFld Reg.hostMode 1)

theorem test_HostPortActs_hostLinkDown :
    s_HostPortActs_hostLinkDown.house.input = true ∧ s_HostPortActs_hostLinkDown.fld Reg.hostMode ≠ hmDown := by
  decide +kernel

def s_HostPortActs_perstAssert : State := { (live.setFld Reg.hostMode 1) with house := { live.house with perst := false } }

theorem test_HostPortActs_perstAssert :
    s_HostPortActs_perstAssert.house.input = true ∧ s_HostPortActs_perstAssert.house.perst = false := by
  decide +kernel

def s_HostPortActs_doorbellHostRing : State := ((live.setWord (Reg.trigWord 1023 0) (BitVec.ofNat 64 (3 + 1 * 2 ^ 2))).setWord (Reg.doorbellCfg 0) 0x3FF)

theorem test_HostPortActs_doorbellHostRing :
    linksLive s_HostPortActs_doorbellHostRing = true ∧ (s_HostPortActs_doorbellHostRing.word (Reg.doorbellCfg (0 : Fin 256))).getLsbD 0 = true ∧ trigsOf s_HostPortActs_doorbellHostRing 1 (0 : Fin 256) = [(1023)] ∧ ghostLight s_HostPortActs_doorbellHostRing = false := by
  decide +kernel

def s_HostPortActs_doorbellHostRing2 : State := live.setWord (Reg.doorbellCfg 255) 0

theorem test_HostPortActs_doorbellHostRing2 :
    linksLive s_HostPortActs_doorbellHostRing2 = true ∧ (s_HostPortActs_doorbellHostRing2.word (Reg.doorbellCfg (255 : Fin 256))).getLsbD 0 = false := by
  decide +kernel

def f_HostPortActs_doorbellFrame : Frame := mkFrame 10 0 8 0 0 3 9 0 0 0x10 (leBytes 4 7 ++ List.replicate 12 0)

def h_HostPortActs_doorbellFrame : InFrame := InFrame.mk (mkFrame 10 0 8 0 0 3 9 0 0 0x10 (leBytes 4 7 ++ List.replicate 12 0)) 8 0

def s_HostPortActs_doorbellFrame : State := arrived (mkFrame 10 0 8 0 0 3 9 0 0 0x10 (leBytes 4 7 ++ List.replicate 12 0)) (((live.setWord (Reg.trigWord 1023 0) (BitVec.ofNat 64 (3 + 1 * 2 ^ 2))).setWord (Reg.doorbellCfg 0) 0x3FF))

theorem test_HostPortActs_doorbellFrame :
    linksLive s_HostPortActs_doorbellFrame = true ∧ inboxOf s_HostPortActs_doorbellFrame f_HostPortActs_doorbellFrame = some h_HostPortActs_doorbellFrame ∧ Frame.type f_HostPortActs_doorbellFrame = tyMgmt ∧ Frame.op f_HostPortActs_doorbellFrame = 0x10 ∧ ringFormed f_HostPortActs_doorbellFrame = true ∧ (0) = Frame.addr f_HostPortActs_doorbellFrame % 256 ∧ ringerBit s_HostPortActs_doorbellFrame f_HostPortActs_doorbellFrame = some (1) ∧ (s_HostPortActs_doorbellFrame.word (Reg.doorbellCfg (0))).getLsbD (1) = true ∧ trigsOf s_HostPortActs_doorbellFrame 1 (0) = [(1023)] ∧ ghostLight s_HostPortActs_doorbellFrame = false := by
  decide +kernel

def f_HostPortActs_doorbellFrame2 : Frame := mkFrame 10 0 8 0 0 3 9 0 0 0x10 (leBytes 4 7 ++ List.replicate 12 0)

def h_HostPortActs_doorbellFrame2 : InFrame := InFrame.mk (mkFrame 10 0 8 0 0 3 9 0 0 0x10 (leBytes 4 7 ++ List.replicate 12 0)) 8 0

def s_HostPortActs_doorbellFrame2 : State := arrived (mkFrame 10 0 8 0 0 3 9 0 0 0x10 (leBytes 4 7 ++ List.replicate 12 0)) live

theorem test_HostPortActs_doorbellFrame2 :
    linksLive s_HostPortActs_doorbellFrame2 = true ∧ inboxOf s_HostPortActs_doorbellFrame2 f_HostPortActs_doorbellFrame2 = some h_HostPortActs_doorbellFrame2 ∧ Frame.type f_HostPortActs_doorbellFrame2 = tyMgmt ∧ Frame.op f_HostPortActs_doorbellFrame2 = 0x10 ∧ ringFormed f_HostPortActs_doorbellFrame2 = true ∧ (0) = Frame.addr f_HostPortActs_doorbellFrame2 % 256 ∧ ringerBit s_HostPortActs_doorbellFrame2 f_HostPortActs_doorbellFrame2 = some (1) ∧ (s_HostPortActs_doorbellFrame2.word (Reg.doorbellCfg (0))).getLsbD (1) = false := by
  decide +kernel

/-! DeviceMailboxAnswers. -/

def s_DeviceMailboxAnswers_getEventRecords : State := (live.setFld Reg.hostMode 1)

theorem test_DeviceMailboxAnswers_getEventRecords :
    mailboxLive s_DeviceMailboxAnswers_getEventRecords = true := by
  decide +kernel

def s_DeviceMailboxAnswers_clearEventRecords : State := (live.setFld Reg.hostMode 1).modHost (fun h => { h with logs := [(3, [EventRec.mk 5 true 1 2 false 3, EventRec.mk 5 true 1 2 false 3])] })

theorem test_DeviceMailboxAnswers_clearEventRecords :
    mailboxLive s_DeviceMailboxAnswers_clearEventRecords = true ∧ (none : Option (List Nat)) = none := by
  decide +kernel

def s_DeviceMailboxAnswers_clearEventRecords2 : State := (live.setFld Reg.hostMode 1).modHost (fun h => { h with logs := [(3, [EventRec.mk 5 true 1 2 false 3, EventRec.mk 5 true 1 2 false 3])] })

theorem test_DeviceMailboxAnswers_clearEventRecords2 :
    mailboxLive s_DeviceMailboxAnswers_clearEventRecords2 = true ∧ (some [5] : Option (List Nat)) = some ([5] : List Nat) ∧ (([5] : List Nat) = ((s_DeviceMailboxAnswers_clearEventRecords2.eventLog (3 : Fin 4)).take ([5] : List Nat).length).map (fun r => r.handle)) := by
  decide +kernel

def s_DeviceMailboxAnswers_clearEventRecords3 : State := (live.setFld Reg.hostMode 1).modHost (fun h => { h with logs := [(3, [EventRec.mk 5 true 1 2 false 3, EventRec.mk 5 true 1 2 false 3])] })

theorem test_DeviceMailboxAnswers_clearEventRecords3 :
    mailboxLive s_DeviceMailboxAnswers_clearEventRecords3 = true ∧ (some [6] : Option (List Nat)) = some ([6] : List Nat) ∧ (([6] : List Nat) ≠ ((s_DeviceMailboxAnswers_clearEventRecords3.eventLog (3 : Fin 4)).take ([6] : List Nat).length).map (fun r => r.handle)) := by
  decide +kernel

def vectors_DeviceMailboxAnswers_setEventInterruptPolicy : List (Option (Fin 64)) := [none, none, none, some 63]

def s_DeviceMailboxAnswers_setEventInterruptPolicy : State := (live.setFld Reg.hostMode 1)

theorem test_DeviceMailboxAnswers_setEventInterruptPolicy :
    mailboxLive s_DeviceMailboxAnswers_setEventInterruptPolicy = true ∧ vectors_DeviceMailboxAnswers_setEventInterruptPolicy.length = 4 ∧ vectors_DeviceMailboxAnswers_setEventInterruptPolicy[(3 : Fin 4).val]? = some (some (63 : Fin 64)) := by
  decide +kernel

def vectors_DeviceMailboxAnswers_setEventInterruptPolicy2 : List (Option (Fin 64)) := [none, none, none, some 63]

def s_DeviceMailboxAnswers_setEventInterruptPolicy2 : State := (live.setFld Reg.hostMode 1)

theorem test_DeviceMailboxAnswers_setEventInterruptPolicy2 :
    mailboxLive s_DeviceMailboxAnswers_setEventInterruptPolicy2 = true ∧ vectors_DeviceMailboxAnswers_setEventInterruptPolicy2.length = 4 ∧ vectors_DeviceMailboxAnswers_setEventInterruptPolicy2[(0 : Fin 4).val]? = some none := by
  decide +kernel

def s_DeviceMailboxAnswers_getEventInterruptPolicy : State := (live.setFld Reg.hostMode 1)

theorem test_DeviceMailboxAnswers_getEventInterruptPolicy :
    mailboxLive s_DeviceMailboxAnswers_getEventInterruptPolicy = true := by
  decide +kernel

def s_DeviceMailboxAnswers_getFwInfo : State := (live.setFld Reg.hostMode 1)

theorem test_DeviceMailboxAnswers_getFwInfo :
    mailboxLive s_DeviceMailboxAnswers_getFwInfo = true := by
  decide +kernel

def s_DeviceMailboxAnswers_getSupportedLogs : State := (live.setFld Reg.hostMode 1)

theorem test_DeviceMailboxAnswers_getSupportedLogs :
    mailboxLive s_DeviceMailboxAnswers_getSupportedLogs = true := by
  decide +kernel

def s_DeviceMailboxAnswers_getLog : State := (live.setFld Reg.hostMode 1)

theorem test_DeviceMailboxAnswers_getLog :
    mailboxLive s_DeviceMailboxAnswers_getLog = true := by
  decide +kernel

def s_DeviceMailboxAnswers_identifyMemoryDevice : State := (live.setFld Reg.hostMode 1)

theorem test_DeviceMailboxAnswers_identifyMemoryDevice :
    mailboxLive s_DeviceMailboxAnswers_identifyMemoryDevice = true := by
  decide +kernel

def s_DeviceMailboxAnswers_getPartitionInfo : State := (live.setFld Reg.hostMode 1)

theorem test_DeviceMailboxAnswers_getPartitionInfo :
    mailboxLive s_DeviceMailboxAnswers_getPartitionInfo = true := by
  decide +kernel

def s_DeviceMailboxAnswers_getHealthInfo : State := (live.setFld Reg.hostMode 1)

theorem test_DeviceMailboxAnswers_getHealthInfo :
    mailboxLive s_DeviceMailboxAnswers_getHealthInfo = true := by
  decide +kernel

def s_DeviceMailboxAnswers_mailboxCmdUnsupported : State := (live.setFld Reg.hostMode 1)

theorem test_DeviceMailboxAnswers_mailboxCmdUnsupported :
    mailboxLive s_DeviceMailboxAnswers_mailboxCmdUnsupported = true ∧ mailboxOpcode (0x4300 : Fin 65536) = false := by
  decide +kernel

/-! TrayBusActs. -/

def s_TrayBusActs_controllerClaim : State := live.setFld Reg.controller 0

theorem test_TrayBusActs_controllerClaim :
    s_TrayBusActs_controllerClaim.house.input = true ∧ false = false ∧ s_TrayBusActs_controllerClaim.fld Reg.controller = 0 ∧ addressed s_TrayBusActs_controllerClaim true = false := by
  decide +kernel

theorem test_TrayBusActs_controllerLost :
    (live.setFld Reg.trayAddr 9).house.input = true ∧ (live.setFld Reg.trayAddr 9).fld Reg.controller = 0 ∧ addressed (live.setFld Reg.trayAddr 9) true = true := by
  decide +kernel

theorem test_TrayBusActs_entdaa :
    (live.setFld Reg.master 1).house.input = true ∧ (.target true 9 : Entdaa) = .target true (9) ∧ (9) < 128 := by
  decide +kernel

theorem test_TrayBusActs_entdaa2 :
    live.house.input = true ∧ (.target false 9 : Entdaa) = .target false (9) ∧ (9) < 128 := by
  decide +kernel

def s_TrayBusActs_entdaa3 : State := live.setFld Reg.controller 1

theorem test_TrayBusActs_entdaa3 :
    s_TrayBusActs_entdaa3.house.input = true ∧ (.controller [5, 6] : Entdaa) = .controller ([5, 6] : List (BitVec 48)) ∧ s_TrayBusActs_entdaa3.fld Reg.controller = 1 ∧ (([5, 6] : List (BitVec 48)).all (fun x => decide (pidSlot x ≠ some (mySlot s_TrayBusActs_entdaa3))) = true) := by
  decide +kernel

def a_TrayBusActs_entdaa4 : Entdaa := .controller [0xB4609500000, 6]

def s_TrayBusActs_entdaa4 : State := (live.setFld Reg.controller 1).setFld Reg.master 1

theorem test_TrayBusActs_entdaa4 :
    s_TrayBusActs_entdaa4.house.input = true ∧ a_TrayBusActs_entdaa4 = .controller ([0xB4609500000, 6] : List (BitVec 48)) ∧ s_TrayBusActs_entdaa4.fld Reg.controller = 1 ∧ (([0xB4609500000, 6] : List (BitVec 48)).any (fun x => decide (pidSlot x = some (mySlot s_TrayBusActs_entdaa4))) = true) := by
  decide +kernel

def s_TrayBusActs_entdaa5 : State := live.setFld Reg.controller 0

theorem test_TrayBusActs_entdaa5 :
    s_TrayBusActs_entdaa5.house.input = true ∧ (.controller [5] : Entdaa) = .controller ([5] : List (BitVec 48)) ∧ s_TrayBusActs_entdaa5.fld Reg.controller = 0 := by
  decide +kernel

theorem test_TrayBusActs_rstdaa :
    (live.setFld Reg.trayAddr 9).house.input = true := by
  decide +kernel

theorem test_TrayBusActs_enec :
    (live.house.input = true) ∧ goes (.enec true (8 : BitVec 8)) live
      (fun t => decide ((t.i3cPort true).events = (live.i3cPort true).events ||| (8 : BitVec 8).toNat) && decide (t.regs = live.regs) && decide (t.mem = live.mem) && decide (t.links = live.links)) = true := by
  decide +kernel

theorem test_TrayBusActs_disec :
    (live.house.input = true) ∧ goes (.disec true (8 : BitVec 8)) live
      (fun t => decide ((t.i3cPort true).events = (live.i3cPort true).events &&& (255 - (8 : BitVec 8).toNat)) && decide (t.regs = live.regs) && decide (t.mem = live.mem) && decide (t.links = live.links)) = true := by
  decide +kernel

theorem test_TrayBusActs_setmwl :
    (live.house.input = true) ∧ goes (.setmwl false (65535 : Fin 65536)) live
      (fun t => decide ((t.i3cPort false).mwl = (65535 : Fin 65536).val) && decide ((t.i3cPort false).mrl = (live.i3cPort false).mrl) && decide (t.regs = live.regs) && decide (t.mem = live.mem) && decide (t.links = live.links)) = true := by
  decide +kernel

theorem test_TrayBusActs_setmrl :
    (live.house.input = true) ∧ goes (.setmrl false (65535 : Fin 65536)) live
      (fun t => decide ((t.i3cPort false).mrl = (65535 : Fin 65536).val) && decide ((t.i3cPort false).mwl = (live.i3cPort false).mwl) && decide (t.regs = live.regs) && decide (t.mem = live.mem) && decide (t.links = live.links)) = true := by
  decide +kernel

def s_TrayBusActs_getpid : State := (live.setFld Reg.trayAddr 9).setFld Reg.rackAddr 10

theorem test_TrayBusActs_getpid :
    s_TrayBusActs_getpid.house.input = true ∧ addressed s_TrayBusActs_getpid true = true := by
  decide +kernel

def s_TrayBusActs_getbcr : State := (live.setFld Reg.trayAddr 9).setFld Reg.rackAddr 10

theorem test_TrayBusActs_getbcr :
    s_TrayBusActs_getbcr.house.input = true ∧ addressed s_TrayBusActs_getbcr true = true := by
  decide +kernel

def s_TrayBusActs_getdcr : State := (live.setFld Reg.trayAddr 9).setFld Reg.rackAddr 10

theorem test_TrayBusActs_getdcr :
    s_TrayBusActs_getdcr.house.input = true ∧ addressed s_TrayBusActs_getdcr true = true := by
  decide +kernel

def s_TrayBusActs_getmwl : State := (live.setFld Reg.trayAddr 9).setFld Reg.rackAddr 10

theorem test_TrayBusActs_getmwl :
    s_TrayBusActs_getmwl.house.input = true ∧ addressed s_TrayBusActs_getmwl true = true := by
  decide +kernel

def s_TrayBusActs_getmrl : State := (live.setFld Reg.trayAddr 9).setFld Reg.rackAddr 10

theorem test_TrayBusActs_getmrl :
    s_TrayBusActs_getmrl.house.input = true ∧ addressed s_TrayBusActs_getmrl true = true := by
  decide +kernel

def s_TrayBusActs_getstatus : State := (live.setFld Reg.trayAddr 9).setFld Reg.rackAddr 10

theorem test_TrayBusActs_getstatus :
    s_TrayBusActs_getstatus.house.input = true ∧ addressed s_TrayBusActs_getstatus true = true := by
  decide +kernel

theorem test_TrayBusActs_deftgts :
    (live.house.input = true ∧ live.fld Reg.controller = 0) ∧ goes (.deftgts ([(9, 5)] : List (Nat × Nat))) live
      (fun t => decide ((t.i3cPort true).targets = ([(9, 5)] : List (Nat × Nat))) && decide (t.regs = live.regs) && decide (t.mem = live.mem) && decide (t.links = live.links)) = true := by
  decide +kernel

def s_TrayBusActs_getaccmst : State := (live.setFld Reg.trayAddr 9).setFld Reg.rackAddr 10

theorem test_TrayBusActs_getaccmst :
    s_TrayBusActs_getaccmst.house.input = true ∧ true = true ∧ addressed s_TrayBusActs_getaccmst true = true ∧ mayBeMaster s_TrayBusActs_getaccmst = true := by
  decide +kernel

def s_TrayBusActs_getaccmst2 : State := (live.setFld Reg.controller 1).modHost (fun h => { h with handing := some 9 })

theorem test_TrayBusActs_getaccmst2 :
    s_TrayBusActs_getaccmst2.house.input = true ∧ false = false ∧ s_TrayBusActs_getaccmst2.host.handing = some (9) := by
  decide +kernel

def s_TrayBusActs_handoffTimeout : State := (live.setFld Reg.controller 1).modHost (fun h => { h with handing := some 9 })

theorem test_TrayBusActs_handoffTimeout :
    s_TrayBusActs_handoffTimeout.house.input = true ∧ s_TrayBusActs_handoffTimeout.host.handing.isSome = true := by
  decide +kernel

def s_TrayBusActs_hotJoin : State := live.modI3c true (fun p => { p with events := 8 })

theorem test_TrayBusActs_hotJoin :
    s_TrayBusActs_hotJoin.house.input = true ∧ s_TrayBusActs_hotJoin.fld Reg.controller = 0 ∧ (s_TrayBusActs_hotJoin.i3cPort true).events.testBit 3 = true ∧ addressed s_TrayBusActs_hotJoin true = false := by
  decide +kernel

def s_TrayBusActs_trayMasterRelease : State := ((live.setFld Reg.controller 1).setFld Reg.master 1).modI3c true (fun p => { p with targets := [(16, 5), (10, 6), (9, 7)] })

theorem test_TrayBusActs_trayMasterRelease :
    s_TrayBusActs_trayMasterRelease.house.input = true ∧ s_TrayBusActs_trayMasterRelease.fld Reg.master = 1 ∧ s_TrayBusActs_trayMasterRelease.fld Reg.controller = 1 ∧ lowestTarget s_TrayBusActs_trayMasterRelease = some (9) := by
  decide +kernel

def s_TrayBusActs_trayMasterRelease2 : State := ((live.setFld Reg.controller 1).setFld Reg.master 1).modI3c true (fun p => { p with targets := [(16, 5)] })

theorem test_TrayBusActs_trayMasterRelease2 :
    s_TrayBusActs_trayMasterRelease2.house.input = true ∧ s_TrayBusActs_trayMasterRelease2.fld Reg.master = 1 ∧ (s_TrayBusActs_trayMasterRelease2.fld Reg.controller = 0 ∨ lowestTarget s_TrayBusActs_trayMasterRelease2 = none) := by
  decide +kernel

theorem test_TrayBusActs_trayMasterRelease3 :
    live.house.input = true ∧ live.fld Reg.master = 0 := by
  decide +kernel

/-! MctpAnswers. -/

theorem test_MctpAnswers_setEndpointId :
    (live.setFld Reg.trayEid 9).house.input = true ∧ portUp (live.setFld Reg.trayEid 9) (.tray : Port) = true ∧ 8 ≤ (254 : Fin 256).val ∧ (254 : Fin 256).val ≠ 0xFF := by
  decide +kernel

theorem test_MctpAnswers_setEndpointId2 :
    (live.setFld Reg.trayEid 9).house.input = true ∧ portUp (live.setFld Reg.trayEid 9) (.tray : Port) = true ∧ ((255 : Fin 256).val < 8 ∨ (255 : Fin 256).val = 0xFF) := by
  decide +kernel

theorem test_MctpAnswers_getEndpointId :
    (live.setFld Reg.trayEid 9).house.input = true ∧ portUp (live.setFld Reg.trayEid 9) (.tray : Port) = true := by
  decide +kernel

theorem test_MctpAnswers_getMctpVersionSupport :
    (live.setFld Reg.trayEid 9).house.input = true ∧ portUp (live.setFld Reg.trayEid 9) (.tray : Port) = true := by
  decide +kernel

theorem test_MctpAnswers_getMessageTypeSupport :
    (live.setFld Reg.trayEid 9).house.input = true ∧ portUp (live.setFld Reg.trayEid 9) (.tray : Port) = true := by
  decide +kernel

theorem test_MctpAnswers_getVendorMessageSupport :
    (live.setFld Reg.trayEid 9).house.input = true ∧ portUp (live.setFld Reg.trayEid 9) (.tray : Port) = true := by
  decide +kernel

theorem test_MctpAnswers_getRoutingTableEntries :
    (live.setFld Reg.master 1).house.input = true ∧ portUp (live.setFld Reg.master 1) (.tray : Port) = true ∧ (live.setFld Reg.master 1).fld Reg.master = 1 := by
  decide +kernel

theorem test_MctpAnswers_vendorBad :
    (live.setFld Reg.trayEid 9).house.input = true ∧ portReady (live.setFld Reg.trayEid 9) (.tray : Port) = true ∧ ((255 : Fin 256).val = 0 ∨ 6 < (255 : Fin 256).val) := by
  decide +kernel

def s_MctpAnswers_fwData : State := (live.setFld Reg.trayEid 9).setFld Reg.fwState 1

theorem test_MctpAnswers_fwData :
    s_MctpAnswers_fwData.house.input = true ∧ portReady s_MctpAnswers_fwData (.tray : Port) = true ∧ s_MctpAnswers_fwData.fld Reg.fwState = fwOpen ∧ ([1] : List Byte) ≠ [] ∧ ([1] : List Byte).length ≤ 4096 ∧ (16777215) + ([1] : List Byte).length ≤ 2 ^ 24 := by
  decide +kernel

theorem test_MctpAnswers_regRead :
    (live.setFld Reg.trayEid 9).house.input = true ∧ portReady (live.setFld Reg.trayEid 9) (.tray : Port) = true ∧ (1) = 1 ∧ 0x2100018 % 8 = 0 ∧ 0x2100018 + 8 ≤ barBytes ∧ readsZero 0x2100018 = false ∧ hiddenChan (live.setFld Reg.trayEid 9) 0x2100018 = false ∧ computed (live.setFld Reg.trayEid 9) 0x2100018 = none ∧ inArray 0x2100018 0x200800 8 64 = false := by
  decide +kernel

theorem test_MctpAnswers_regRead2 :
    (live.setFld Reg.trayEid 9).house.input = true ∧ portReady (live.setFld Reg.trayEid 9) (.tray : Port) = true ∧ (0x2100018 % 8 ≠ 0 ∨ (65) = 0 ∨ 64 < (65) ∨ barBytes < 0x2100018 + 8 * (65)) := by
  decide +kernel

theorem test_MctpAnswers_regWrite :
    (live.setFld Reg.trayEid 9).house.input = true ∧ portReady (live.setFld Reg.trayEid 9) (.tray : Port) = true ∧ (.tray : Port) ≠ .rack ∧ w1cMask 0x800330 = none ∧ plainMask 0x800330 = some (3) ∧ plainOk 0x800330 ((0xFFFFFFFFFFFFFFFF : Word) &&& BitVec.ofNat 64 (3)).toNat = true ∧ blockLive (live.setFld Reg.trayEid 9) 0x800330 = true ∧ 0x800330 % 8 = 0 ∧ 0x800330 < barBytes := by
  decide +kernel

theorem test_MctpAnswers_regWrite2 :
    (live.setFld Reg.rackEid 9).house.input = true ∧ portReady (live.setFld Reg.rackEid 9) (.rack : Port) = true ∧ (.rack : Port) = .rack := by
  decide +kernel

def s_MctpAnswers_heartbeat : State := ((live.setFld Reg.rackEid 9).setFld Reg.fallback 1).modPower (fun x => { x with rmLost := true })

theorem test_MctpAnswers_heartbeat :
    s_MctpAnswers_heartbeat.house.input = true ∧ portReady s_MctpAnswers_heartbeat (.rack : Port) = true ∧ (.rack : Port) = .rack := by
  decide +kernel

theorem test_MctpAnswers_heartbeat2 :
    (live.setFld Reg.trayEid 9).house.input = true ∧ portReady (live.setFld Reg.trayEid 9) (.tray : Port) = true ∧ (.tray : Port) ≠ .rack := by
  decide +kernel

def s_MctpAnswers_alertMergeExpiry : State := later (live.modHost (fun h => { h with alertHeld := [Alert.mk 12 1 2 3 4] }))

theorem test_MctpAnswers_alertMergeExpiry :
    s_MctpAnswers_alertMergeExpiry.house.input = true ∧ (s_MctpAnswers_alertMergeExpiry.host.alertHeld.find? (fun h => decide (h.src = (12 : Fin 13).val)) = some (Alert.mk 12 1 2 3 4 : Alert)) ∧ s_MctpAnswers_alertMergeExpiry.fld Reg.alertMsix = 0 ∧ s_MctpAnswers_alertMergeExpiry.host.alertQ.length < 64 ∧ (Tab.get (fun _ => 0) s_MctpAnswers_alertMergeExpiry.host.alertLast (12 : Fin 13) + 10 * ticksPerMs ≤ s_MctpAnswers_alertMergeExpiry.now + 1) := by
  decide +kernel

def s_MctpAnswers_spdmGetVersion : State := (live.setFld Reg.master 1).modI3c true (fun x => { x with targets := [(9, 5)] })

theorem test_MctpAnswers_spdmGetVersion :
    s_MctpAnswers_spdmGetVersion.house.input = true ∧ (.relay false 17 : Port) = .relay false (17 : Fin 256) ∧ s_MctpAnswers_spdmGetVersion.fld Reg.master = 1 ∧ (17 : Fin 256).val ∈ trayEids s_MctpAnswers_spdmGetVersion ∧ ([1] : List Byte).length ≤ 4112 := by
  decide +kernel

def s_MctpAnswers_spdmGetCapabilities : State := (live.setFld Reg.master 1).modI3c true (fun x => { x with targets := [(9, 5)] })

theorem test_MctpAnswers_spdmGetCapabilities :
    s_MctpAnswers_spdmGetCapabilities.house.input = true ∧ (.relay false 17 : Port) = .relay false (17 : Fin 256) ∧ s_MctpAnswers_spdmGetCapabilities.fld Reg.master = 1 ∧ (17 : Fin 256).val ∈ trayEids s_MctpAnswers_spdmGetCapabilities ∧ ([1] : List Byte).length ≤ 4112 := by
  decide +kernel

def s_MctpAnswers_spdmNegotiateAlgorithms : State := (live.setFld Reg.master 1).modI3c true (fun x => { x with targets := [(9, 5)] })

theorem test_MctpAnswers_spdmNegotiateAlgorithms :
    s_MctpAnswers_spdmNegotiateAlgorithms.house.input = true ∧ (.relay false 17 : Port) = .relay false (17 : Fin 256) ∧ s_MctpAnswers_spdmNegotiateAlgorithms.fld Reg.master = 1 ∧ (17 : Fin 256).val ∈ trayEids s_MctpAnswers_spdmNegotiateAlgorithms ∧ ([1] : List Byte).length ≤ 4112 := by
  decide +kernel

def s_MctpAnswers_spdmGetDigests : State := (live.setFld Reg.master 1).modI3c true (fun x => { x with targets := [(9, 5)] })

theorem test_MctpAnswers_spdmGetDigests :
    s_MctpAnswers_spdmGetDigests.house.input = true ∧ (.relay false 17 : Port) = .relay false (17 : Fin 256) ∧ s_MctpAnswers_spdmGetDigests.fld Reg.master = 1 ∧ (17 : Fin 256).val ∈ trayEids s_MctpAnswers_spdmGetDigests ∧ ([1] : List Byte).length ≤ 4112 := by
  decide +kernel

def s_MctpAnswers_spdmGetCertificate : State := (live.setFld Reg.master 1).modI3c true (fun x => { x with targets := [(9, 5)] })

theorem test_MctpAnswers_spdmGetCertificate :
    s_MctpAnswers_spdmGetCertificate.house.input = true ∧ (.relay false 17 : Port) = .relay false (17 : Fin 256) ∧ s_MctpAnswers_spdmGetCertificate.fld Reg.master = 1 ∧ (17 : Fin 256).val ∈ trayEids s_MctpAnswers_spdmGetCertificate := by
  decide +kernel

def s_MctpAnswers_spdmGetMeasurements : State := (live.setFld Reg.master 1).modI3c true (fun x => { x with targets := [(9, 5)] })

theorem test_MctpAnswers_spdmGetMeasurements :
    s_MctpAnswers_spdmGetMeasurements.house.input = true ∧ (.relay false 17 : Port) = .relay false (17 : Fin 256) ∧ s_MctpAnswers_spdmGetMeasurements.fld Reg.master = 1 ∧ (17 : Fin 256).val ∈ trayEids s_MctpAnswers_spdmGetMeasurements := by
  decide +kernel

def s_MctpAnswers_spdmUnsupported : State := (live.setFld Reg.master 1).modI3c true (fun x => { x with targets := [(9, 5)] })

theorem test_MctpAnswers_spdmUnsupported :
    s_MctpAnswers_spdmUnsupported.house.input = true ∧ (.relay false 17 : Port) = .relay false (17 : Fin 256) ∧ s_MctpAnswers_spdmUnsupported.fld Reg.master = 1 ∧ (17 : Fin 256).val ∈ trayEids s_MctpAnswers_spdmUnsupported := by
  decide +kernel

def s_MctpAnswers_setEndpointId3 : State := (live.setFld Reg.master 1).modI3c true (fun x => { x with targets := [(9, 5)] })

theorem test_MctpAnswers_setEndpointId3 :
    s_MctpAnswers_setEndpointId3.house.input = true ∧ (.relay false 17 : Port) = .relay false (17 : Fin 256) ∧ s_MctpAnswers_setEndpointId3.fld Reg.master = 1 ∧ (17 : Fin 256).val ∈ trayEids s_MctpAnswers_setEndpointId3 := by
  decide +kernel

def s_MctpAnswers_getEndpointId2 : State := (live.setFld Reg.master 1).modI3c true (fun x => { x with targets := [(9, 5)] })

theorem test_MctpAnswers_getEndpointId2 :
    s_MctpAnswers_getEndpointId2.house.input = true ∧ (.relay false 17 : Port) = .relay false (17 : Fin 256) ∧ s_MctpAnswers_getEndpointId2.fld Reg.master = 1 ∧ (17 : Fin 256).val ∈ trayEids s_MctpAnswers_getEndpointId2 := by
  decide +kernel

def s_MctpAnswers_getMctpVersionSupport2 : State := (live.setFld Reg.master 1).modI3c true (fun x => { x with targets := [(9, 5)] })

theorem test_MctpAnswers_getMctpVersionSupport2 :
    s_MctpAnswers_getMctpVersionSupport2.house.input = true ∧ (.relay false 17 : Port) = .relay false (17 : Fin 256) ∧ s_MctpAnswers_getMctpVersionSupport2.fld Reg.master = 1 ∧ (17 : Fin 256).val ∈ trayEids s_MctpAnswers_getMctpVersionSupport2 := by
  decide +kernel

def s_MctpAnswers_getMessageTypeSupport2 : State := (live.setFld Reg.master 1).modI3c true (fun x => { x with targets := [(9, 5)] })

theorem test_MctpAnswers_getMessageTypeSupport2 :
    s_MctpAnswers_getMessageTypeSupport2.house.input = true ∧ (.relay false 17 : Port) = .relay false (17 : Fin 256) ∧ s_MctpAnswers_getMessageTypeSupport2.fld Reg.master = 1 ∧ (17 : Fin 256).val ∈ trayEids s_MctpAnswers_getMessageTypeSupport2 := by
  decide +kernel

def s_MctpAnswers_getVendorMessageSupport2 : State := (live.setFld Reg.master 1).modI3c true (fun x => { x with targets := [(9, 5)] })

theorem test_MctpAnswers_getVendorMessageSupport2 :
    s_MctpAnswers_getVendorMessageSupport2.house.input = true ∧ (.relay false 17 : Port) = .relay false (17 : Fin 256) ∧ s_MctpAnswers_getVendorMessageSupport2.fld Reg.master = 1 ∧ (17 : Fin 256).val ∈ trayEids s_MctpAnswers_getVendorMessageSupport2 := by
  decide +kernel

def s_MctpAnswers_getRoutingTableEntries2 : State := (live.setFld Reg.master 1).modI3c true (fun x => { x with targets := [(9, 5)] })

theorem test_MctpAnswers_getRoutingTableEntries2 :
    s_MctpAnswers_getRoutingTableEntries2.house.input = true ∧ (.relay false 17 : Port) = .relay false (17 : Fin 256) ∧ s_MctpAnswers_getRoutingTableEntries2.fld Reg.master = 1 ∧ (17 : Fin 256).val ∈ trayEids s_MctpAnswers_getRoutingTableEntries2 := by
  decide +kernel

def s_MctpAnswers_fwData2 : State := (live.setFld Reg.master 1).modI3c true (fun x => { x with targets := [(9, 5)] })

theorem test_MctpAnswers_fwData2 :
    s_MctpAnswers_fwData2.house.input = true ∧ (.relay false 17 : Port) = .relay false (17 : Fin 256) ∧ s_MctpAnswers_fwData2.fld Reg.master = 1 ∧ (17 : Fin 256).val ∈ trayEids s_MctpAnswers_fwData2 := by
  decide +kernel

def s_MctpAnswers_regRead3 : State := (live.setFld Reg.master 1).modI3c true (fun x => { x with targets := [(9, 5)] })

theorem test_MctpAnswers_regRead3 :
    s_MctpAnswers_regRead3.house.input = true ∧ (.relay false 17 : Port) = .relay false (17 : Fin 256) ∧ s_MctpAnswers_regRead3.fld Reg.master = 1 ∧ (17 : Fin 256).val ∈ trayEids s_MctpAnswers_regRead3 := by
  decide +kernel

def s_MctpAnswers_regWrite3 : State := (live.setFld Reg.master 1).modI3c true (fun x => { x with targets := [(9, 5)] })

theorem test_MctpAnswers_regWrite3 :
    s_MctpAnswers_regWrite3.house.input = true ∧ (.relay false 17 : Port) = .relay false (17 : Fin 256) ∧ s_MctpAnswers_regWrite3.fld Reg.master = 1 ∧ (17 : Fin 256).val ∈ trayEids s_MctpAnswers_regWrite3 := by
  decide +kernel

def s_MctpAnswers_heartbeat3 : State := (live.setFld Reg.master 1).modI3c true (fun x => { x with targets := [(9, 5)] })

theorem test_MctpAnswers_heartbeat3 :
    s_MctpAnswers_heartbeat3.house.input = true ∧ (.relay false 17 : Port) = .relay false (17 : Fin 256) ∧ s_MctpAnswers_heartbeat3.fld Reg.master = 1 ∧ (17 : Fin 256).val ∈ trayEids s_MctpAnswers_heartbeat3 := by
  decide +kernel

def s_MctpAnswers_vendorBad2 : State := (live.setFld Reg.master 1).modI3c true (fun x => { x with targets := [(9, 5)] })

theorem test_MctpAnswers_vendorBad2 :
    s_MctpAnswers_vendorBad2.house.input = true ∧ (.relay false 17 : Port) = .relay false (17 : Fin 256) ∧ s_MctpAnswers_vendorBad2.fld Reg.master = 1 ∧ (17 : Fin 256).val ∈ trayEids s_MctpAnswers_vendorBad2 ∧ 6 < (7 : Fin 256).val := by
  decide +kernel

def s_MctpAnswers_capsuleReceive : State := (live.setFld Reg.master 1).modI3c true (fun x => { x with targets := [(9, 5)] })

theorem test_MctpAnswers_capsuleReceive :
    s_MctpAnswers_capsuleReceive.house.input = true ∧ (.relay false 17 : Transport) = .relay false (17 : Fin 256) ∧ s_MctpAnswers_capsuleReceive.fld Reg.master = 1 ∧ (17 : Fin 256).val ∈ trayEids s_MctpAnswers_capsuleReceive := by
  decide +kernel

def s_MctpAnswers_regRead4 : State := (live.setFld Reg.master 1).modI3c true (fun x => { x with targets := [(9, 5)] })

theorem test_MctpAnswers_regRead4 :
    s_MctpAnswers_regRead4.house.input = true ∧ (.relay true 19 : Port) = .relay true (19 : Fin 256) ∧ s_MctpAnswers_regRead4.fld Reg.master = 1 ∧ (19 : Fin 256).val ∉ trayEids s_MctpAnswers_regRead4 ∧ 0x10 ≤ (19 : Fin 256).val ∧ (19 : Fin 256).val < 0x14 := by
  decide +kernel

def s_MctpAnswers_regWrite4 : State := (live.setFld Reg.master 1).modI3c true (fun x => { x with targets := [(9, 5)] })

theorem test_MctpAnswers_regWrite4 :
    s_MctpAnswers_regWrite4.house.input = true ∧ (.relay true 17 : Port) = .relay true (17 : Fin 256) := by
  decide +kernel

theorem test_MctpAnswers_regRead5 :
    live.house.input = true ∧ (.relay true 17 : Port) = .relay true (17 : Fin 256) ∧ live.fld Reg.master = 0 := by
  decide +kernel

/-! RegisterWritesAct. -/

def bytes_RegisterWritesAct_registerWrite : List Byte := leBytes 8 0xFFFFFFFFFFFFFFFF

theorem test_RegisterWritesAct_registerWrite :
    live.house.input = true ∧ (0x800330 : Fin 67108864).val % 8 = 0 ∧ bytes_RegisterWritesAct_registerWrite = leBytes 8 (0xFFFFFFFFFFFFFFFF : Word).toNat ∧ blockLive live (0x800330 : Fin 67108864) = true ∧ w1cMask (0x800330 : Fin 67108864) = none ∧ plainMask (0x800330 : Fin 67108864) = some (3) ∧ plainOk (0x800330 : Fin 67108864) ((0xFFFFFFFFFFFFFFFF : Word) &&& BitVec.ofNat 64 (3)).toNat = true := by
  decide +kernel

theorem test_RegisterWritesAct_registerWrite2 :
    live.house.input = true ∧ (0x800340 : Fin 67108864).val % 8 = 0 ∧ (leBytes 8 63 : List Byte) = leBytes 8 (63 : Word).toNat ∧ blockLive live (0x800340 : Fin 67108864) = true ∧ w1cMask (0x800340 : Fin 67108864) = none ∧ plainMask (0x800340 : Fin 67108864) = some 0xFFFF ∧ plainOk (0x800340 : Fin 67108864) ((63 : Word) &&& BitVec.ofNat 64 0xFFFF).toNat = false := by
  decide +kernel

def bytes_RegisterWritesAct_registerWrite3 : List Byte := leBytes 8 0xFFFFFFFFFFFFFFFF

theorem test_RegisterWritesAct_registerWrite3 :
    live.house.input = true ∧ (0x2100000 : Fin 67108864).val % 8 = 0 ∧ bytes_RegisterWritesAct_registerWrite3 = leBytes 8 (0xFFFFFFFFFFFFFFFF : Word).toNat ∧ blockLive live (0x2100000 : Fin 67108864) = true ∧ w1cMask (0x2100000 : Fin 67108864) = some 0x3FF := by
  decide +kernel

theorem test_RegisterWritesAct_registerWrite4 :
    live.house.input = true ∧ (0x2100050 : Fin 67108864).val % 8 = 0 ∧ (leBytes 8 7 : List Byte) = leBytes 8 (7 : Word).toNat ∧ blockLive live (0x2100050 : Fin 67108864) = true ∧ (0x2100050 : Fin 67108864).val ∈ [0x2100018, 0x2100020, 0x2100038, 0x2100048, 0x2100050] := by
  decide +kernel

/-! CoordinateAndStrikeAct. -/

def value_CoordinateAndStrikeAct_coordAssign : BitVec 32 := BitVec.ofNat 32 (4 * 2 ^ 12 + 4 * 2 ^ 17 + 4 * 2 ^ 22 + 3)

theorem test_CoordinateAndStrikeAct_coordAssign :
    houseLive live = true ∧ coordRefused live value_CoordinateAndStrikeAct_coordAssign.toNat = false := by
  decide +kernel

def value_CoordinateAndStrikeAct_coordAssign2 : BitVec 32 := BitVec.ofNat 32 (4 * 2 ^ 12 + 4 * 2 ^ 17 + 4 * 2 ^ 22 + 4)

theorem test_CoordinateAndStrikeAct_coordAssign2 :
    houseLive live = true ∧ coordRefused live value_CoordinateAndStrikeAct_coordAssign2.toNat = true := by
  decide +kernel

theorem test_CoordinateAndStrikeAct_strikeStart :
    houseLive (live.setFld Reg.master 1) = true ∧ (live.setFld Reg.master 1).fld Reg.strikeState = sdNone ∧ strikeVerdict (live.setFld Reg.master 1) = none := by
  decide +kernel

def s_CoordinateAndStrikeAct_strikeStart2 : State := live.setWord (Reg.grpWord 4095 0) 1

theorem test_CoordinateAndStrikeAct_strikeStart2 :
    houseLive s_CoordinateAndStrikeAct_strikeStart2 = true ∧ s_CoordinateAndStrikeAct_strikeStart2.fld Reg.strikeState = sdNone ∧ strikeVerdict s_CoordinateAndStrikeAct_strikeStart2 = some (2) := by
  decide +kernel

def s_CoordinateAndStrikeAct_strikeStart3 : State := live.setFld Reg.strikeState 2

theorem test_CoordinateAndStrikeAct_strikeStart3 :
    houseLive s_CoordinateAndStrikeAct_strikeStart3 = true ∧ s_CoordinateAndStrikeAct_strikeStart3.fld Reg.strikeState ≠ sdNone := by
  decide +kernel

def s_CoordinateAndStrikeAct_strikeDrainEnd : State := (live.setFld Reg.strikeState 1).setFld (Reg.lnkEnable 13) 1

theorem test_CoordinateAndStrikeAct_strikeDrainEnd :
    houseLive s_CoordinateAndStrikeAct_strikeDrainEnd = true ∧ s_CoordinateAndStrikeAct_strikeDrainEnd.fld Reg.strikeState = sdDraining ∧ ((actInflight s_CoordinateAndStrikeAct_strikeDrainEnd 0 = 0 ∧ actInflight s_CoordinateAndStrikeAct_strikeDrainEnd 1 = 0 ∧ poolInflight s_CoordinateAndStrikeAct_strikeDrainEnd = 0) ∨ 256 * s_CoordinateAndStrikeAct_strikeDrainEnd.fld Reg.ageLimit + 4000 ≤ 40 * (s_CoordinateAndStrikeAct_strikeDrainEnd.now - s_CoordinateAndStrikeAct_strikeDrainEnd.host.drainAt)) ∧ 8 ≤ (13 : Fin 14).val := by
  decide +kernel

def s_CoordinateAndStrikeAct_strikeCancel : State := live.setFld Reg.strikeState 1

theorem test_CoordinateAndStrikeAct_strikeCancel :
    houseLive s_CoordinateAndStrikeAct_strikeCancel = true ∧ s_CoordinateAndStrikeAct_strikeCancel.fld Reg.strikeState = sdDraining := by
  decide +kernel

theorem test_CoordinateAndStrikeAct_strikeCancel2 :
    houseLive live = true ∧ live.fld Reg.strikeState ≠ sdDraining := by
  decide +kernel

def s_CoordinateAndStrikeAct_strikeReturn : State := (live.setFld Reg.strikeState 2).modHost (fun h => { h with struck := [13] })

theorem test_CoordinateAndStrikeAct_strikeReturn :
    houseLive s_CoordinateAndStrikeAct_strikeReturn = true ∧ s_CoordinateAndStrikeAct_strikeReturn.fld Reg.strikeState = sdDone ∧ (13) ∈ s_CoordinateAndStrikeAct_strikeReturn.host.struck ∧ (13) < 14 := by
  decide +kernel

/-! RehearsalAndFusesAct. -/

def s_RehearsalAndFusesAct_rehearsalTimer : State := live.setFld Reg.rhsEnable 1

theorem test_RehearsalAndFusesAct_rehearsalTimer :
    linksLive s_RehearsalAndFusesAct_rehearsalTimer = true ∧ (Tab.get (fun _ => 0) s_RehearsalAndFusesAct_rehearsalTimer.rhs.nextFire (3 : Fin 4) ≤ s_RehearsalAndFusesAct_rehearsalTimer.now) ∧ suspendCause s_RehearsalAndFusesAct_rehearsalTimer = 0 ∧ s_RehearsalAndFusesAct_rehearsalTimer.rhs.slices = [] ∧ (Tab.get (fun _ => 0) s_RehearsalAndFusesAct_rehearsalTimer.rhs.again (3 : Fin 4) = 0) ∧ pickTarget s_RehearsalAndFusesAct_rehearsalTimer (3 : Fin 4) (targetsOf (3 : Fin 4)).length (s_RehearsalAndFusesAct_rehearsalTimer.fld (Reg.rhsNext (3 : Fin 4))) = (some ((102), (102)), (102)) := by
  decide +kernel

def s_RehearsalAndFusesAct_rehearsalTimer2 : State := (live.setFld Reg.rhsEnable 1).modRhs (fun r => { r with slices := [Slice.mk 3 7] })

theorem test_RehearsalAndFusesAct_rehearsalTimer2 :
    linksLive s_RehearsalAndFusesAct_rehearsalTimer2 = true ∧ (Tab.get (fun _ => 0) s_RehearsalAndFusesAct_rehearsalTimer2.rhs.nextFire (3 : Fin 4) ≤ s_RehearsalAndFusesAct_rehearsalTimer2.now) ∧ suspendCause s_RehearsalAndFusesAct_rehearsalTimer2 = 0 ∧ (2 ≤ s_RehearsalAndFusesAct_rehearsalTimer2.rhs.slices.length ∨ s_RehearsalAndFusesAct_rehearsalTimer2.rhs.slices.any (fun c => decide (c.wing = (3 : Fin 4).val)) = true) := by
  decide +kernel

def s_RehearsalAndFusesAct_rehearsalTimer3 : State := live.setFld Reg.rhsEnable 0

theorem test_RehearsalAndFusesAct_rehearsalTimer3 :
    linksLive s_RehearsalAndFusesAct_rehearsalTimer3 = true ∧ (Tab.get (fun _ => 0) s_RehearsalAndFusesAct_rehearsalTimer3.rhs.nextFire (3 : Fin 4) ≤ s_RehearsalAndFusesAct_rehearsalTimer3.now) ∧ suspendCause s_RehearsalAndFusesAct_rehearsalTimer3 ≠ 0 := by
  decide +kernel

def s_RehearsalAndFusesAct_rehearsalTimer4 : State := live.modRhs (fun r => { r with nextFire := [(3, 2 ^ 50)] })

theorem test_RehearsalAndFusesAct_rehearsalTimer4 :
    linksLive s_RehearsalAndFusesAct_rehearsalTimer4 = true ∧ (s_RehearsalAndFusesAct_rehearsalTimer4.now < Tab.get (fun _ => 0) s_RehearsalAndFusesAct_rehearsalTimer4.rhs.nextFire (3 : Fin 4)) := by
  decide +kernel

def s_RehearsalAndFusesAct_sliceEnd : State := live.modRhs (fun r => { r with slices := [Slice.mk 3 70] })

theorem test_RehearsalAndFusesAct_sliceEnd :
    linksLive s_RehearsalAndFusesAct_sliceEnd = true ∧ sliceOf s_RehearsalAndFusesAct_sliceEnd (3 : Fin 4) = some (Slice.mk 3 70 : Slice) ∧ testRuns s_RehearsalAndFusesAct_sliceEnd (sliceTarget (Slice.mk 3 70 : Slice)) = true := by
  decide +kernel

def s_RehearsalAndFusesAct_fusePass : State := { State.reset.setFld Reg.fuseArm 1 with house := { House.init with granted := true } }

theorem test_RehearsalAndFusesAct_fusePass :
    s_RehearsalAndFusesAct_fusePass.house.input = true ∧ fusePassDue s_RehearsalAndFusesAct_fusePass = true := by
  decide +kernel

def s_RehearsalAndFusesAct_fusePassComplete : State := ((State.reset.setFld Reg.fuseArm 1).setFld (Reg.repairState 255) 1).modRhs (fun r => { r with fusePass := true })

theorem test_RehearsalAndFusesAct_fusePassComplete :
    s_RehearsalAndFusesAct_fusePassComplete.house.input = true ∧ s_RehearsalAndFusesAct_fusePassComplete.rhs.fusePass = true ∧ s_RehearsalAndFusesAct_fusePassComplete.fld (Reg.repairState (255 : Fin 256)) = 1 ∧ s_RehearsalAndFusesAct_fusePassComplete.fld Reg.fusedCount = 0 ∧ ((List.range 256).all (fun k => decide (k = (255 : Fin 256).val ∨ s_RehearsalAndFusesAct_fusePassComplete.fld (Reg.repairState k) ≠ 1)) = true) := by
  decide +kernel

theorem test_RehearsalAndFusesAct_inventoryTick :
    (later live).house.input = true ∧ (later live).host.tenths < (later live).now / (360000 * ticksPerMs) := by
  decide +kernel

/-! PerformanceCountersAct. -/

theorem test_PerformanceCountersAct_pmcCounterWrite :
    houseLive live = true := by
  decide +kernel

def f_PerformanceCountersAct_pmcReadFrame : Frame := mkFrame 10 0 8 0 0 3 9 0 1023 0x12 []

def h_PerformanceCountersAct_pmcReadFrame : InFrame := InFrame.mk (mkFrame 10 0 8 0 0 3 9 0 1023 0x12 []) 8 0

def s_PerformanceCountersAct_pmcReadFrame : State := arrived (mkFrame 10 0 8 0 0 3 9 0 1023 0x12 []) live

theorem test_PerformanceCountersAct_pmcReadFrame :
    linksLive s_PerformanceCountersAct_pmcReadFrame = true ∧ inboxOf s_PerformanceCountersAct_pmcReadFrame f_PerformanceCountersAct_pmcReadFrame = some h_PerformanceCountersAct_pmcReadFrame ∧ Frame.type f_PerformanceCountersAct_pmcReadFrame = tyMgmt ∧ Frame.op f_PerformanceCountersAct_pmcReadFrame = 0x12 ∧ pmcReadOk f_PerformanceCountersAct_pmcReadFrame = true ∧ (1) = Frame.addr f_PerformanceCountersAct_pmcReadFrame / 1024 + 1 := by
  decide +kernel

def f_PerformanceCountersAct_pmcReadFrame2 : Frame := mkFrame 10 0 8 0 0 3 9 0 2047 0x12 []

def h_PerformanceCountersAct_pmcReadFrame2 : InFrame := InFrame.mk (mkFrame 10 0 8 0 0 3 9 0 2047 0x12 []) 8 0

def s_PerformanceCountersAct_pmcReadFrame2 : State := arrived (mkFrame 10 0 8 0 0 3 9 0 2047 0x12 []) live

theorem test_PerformanceCountersAct_pmcReadFrame2 :
    linksLive s_PerformanceCountersAct_pmcReadFrame2 = true ∧ inboxOf s_PerformanceCountersAct_pmcReadFrame2 f_PerformanceCountersAct_pmcReadFrame2 = some h_PerformanceCountersAct_pmcReadFrame2 ∧ Frame.type f_PerformanceCountersAct_pmcReadFrame2 = tyMgmt ∧ Frame.op f_PerformanceCountersAct_pmcReadFrame2 = 0x12 ∧ pmcReadOk f_PerformanceCountersAct_pmcReadFrame2 = false := by
  decide +kernel

def s_PerformanceCountersAct_pmcMirrorTick : State := later ((live.setFld Reg.pmcMirrorPeriod 1).modTen (fun t => { t with placed := [Range.mk (.prog 0) 0 65536] }))

theorem test_PerformanceCountersAct_pmcMirrorTick :
    linksLive s_PerformanceCountersAct_pmcMirrorTick = true ∧ s_PerformanceCountersAct_pmcMirrorTick.fld Reg.pmcMirrorPeriod ≠ 0 ∧ s_PerformanceCountersAct_pmcMirrorTick.host.mirrorAt + s_PerformanceCountersAct_pmcMirrorTick.fld Reg.pmcMirrorPeriod * ticksPerUs ≤ s_PerformanceCountersAct_pmcMirrorTick.now ∧ (0) = s_PerformanceCountersAct_pmcMirrorTick.fld Reg.pmcMirrorBase ∧ mirrorPlaced s_PerformanceCountersAct_pmcMirrorTick (0) = true ∧ spanAwake s_PerformanceCountersAct_pmcMirrorTick (0) 8192 = true := by
  decide +kernel

def s_PerformanceCountersAct_pmcMirrorTick2 : State := later (live.setFld Reg.pmcMirrorPeriod 1)

theorem test_PerformanceCountersAct_pmcMirrorTick2 :
    linksLive s_PerformanceCountersAct_pmcMirrorTick2 = true ∧ s_PerformanceCountersAct_pmcMirrorTick2.fld Reg.pmcMirrorPeriod ≠ 0 ∧ s_PerformanceCountersAct_pmcMirrorTick2.host.mirrorAt + s_PerformanceCountersAct_pmcMirrorTick2.fld Reg.pmcMirrorPeriod * ticksPerUs ≤ s_PerformanceCountersAct_pmcMirrorTick2.now ∧ mirrorPlaced s_PerformanceCountersAct_pmcMirrorTick2 (s_PerformanceCountersAct_pmcMirrorTick2.fld Reg.pmcMirrorBase) = false := by
  decide +kernel

def s_PerformanceCountersAct_pmcMirrorTick3 : State := live.setFld Reg.pmcMirrorPeriod 5

theorem test_PerformanceCountersAct_pmcMirrorTick3 :
    linksLive s_PerformanceCountersAct_pmcMirrorTick3 = true ∧ (s_PerformanceCountersAct_pmcMirrorTick3.fld Reg.pmcMirrorPeriod = 0 ∨ s_PerformanceCountersAct_pmcMirrorTick3.now < s_PerformanceCountersAct_pmcMirrorTick3.host.mirrorAt + s_PerformanceCountersAct_pmcMirrorTick3.fld Reg.pmcMirrorPeriod * ticksPerUs) := by
  decide +kernel

end Sys2Proof.Tests
end

section
/-! The Reset columns as the host reads them after power-on (R10). -/
namespace Sys2Proof.Machine

/-! Register arrays. -/

theorem inArray_eq_false {off base stride n : Nat} (h : off < base ∨ base + stride * n ≤ off) : inArray off base stride n = false := by
  simp only [inArray, Bool.and_eq_false_iff, decide_eq_false_iff_not]
  omega

/-- Entry `i` of a register array lies in it. -/
theorem inArray_entry {base stride n i : Nat} (hs : 0 < stride) (hi : i < n) : inArray (base + stride * i) base stride n = true := by
  have : stride * i < stride * n := Nat.mul_lt_mul_of_pos_left hi hs
  simp [inArray, this]

/-! Reads of stored registers. -/

/-- The register arrays of links, engines, doorbell permissions and tensor wings, whose words read as they are held. -/
def inStoredArrays (off : Nat) : Prop :=
  (0x410000 ≤ off ∧ off < 0x41E000) ∨ (0x1001000 ≤ off ∧ off < 0x1002000) ∨ (0x1441000 ≤ off ∧ off < 0x1441800) ∨
    (0x1800100 ≤ off ∧ off < 0x1800220)

theorem readsZero_of_inStoredArrays {off : Nat} (h : inStoredArrays off) : readsZero off = false := by
  unfold inStoredArrays at h
  have hring : inArray off 0x1440000 8 256 = false := inArray_eq_false (by omega)
  have hwo : ¬ (off = 0x18 ∨ off = 0x40 ∨ off = 0x48 ∨ off = 0x50 ∨ off = 0x100078 ∨ off = 0x200040 ∨ off = 0x800400 ∨
      off = 0x1400010 ∨ off = 0x1400030 ∨ off = 0x1800028 ∨ off = 0x2100050 ∨ off = 0x2200030) := by omega
  have hsend : ¬ (0x210000 ≤ off ∧ off < 0x218000) := by omega
  rw [readsZero, hring, decide_eq_false hwo, ← Bool.decide_and, decide_eq_false hsend]
  rfl

theorem hiddenChan_of_inStoredArrays (s : State) {off : Nat} (h : inStoredArrays off) : hiddenChan s off = false := by
  unfold inStoredArrays at h
  have hc : chanOf off = none := by
    unfold chanOf
    rw [if_neg (by omega), if_neg (by omega), if_neg (by omega)]
  rw [hiddenChan, hc]

theorem computed_of_inStoredArrays (s : State) {off : Nat} (h : inStoredArrays off) : computed s off = none := by
  unfold inStoredArrays at h
  have hshared : inArray off 0x800200 8 4 = false := inArray_eq_false (by omega)
  have hcredit : ¬ (0x820000 ≤ off ∧ off < 0x820E00 ∧ off % 0x100 < 0x70 ∧ off % 8 = 0) := by omega
  have hctr : inArray off 0x1401000 8 1024 = false := inArray_eq_false (by omega)
  have htile : inArray off 0x1802000 8 240 = false := inArray_eq_false (by omega)
  have hchan : ¬ (0x201000 ≤ off ∧ off < 0x201800 ∧ off % 0x40 = 8) := by omega
  have hrx : ¬ (0x220000 ≤ off ∧ off < 0x230000) := by omega
  unfold computed
  split
  case h_10 => simp only [hshared, hcredit, hctr, htile, hchan, hrx, if_false, Bool.false_eq_true]
  all_goals exfalso; clear hshared hcredit hctr htile hchan hrx; omega

/-- A word of these arrays reads as it is held. -/
theorem readWord_of_inStoredArrays (s : State) {off : Nat} (h : inStoredArrays off) : readWord s off = s.word off := by
  rw [readWord, readsZero_of_inStoredArrays h, hiddenChan_of_inStoredArrays s h, computed_of_inStoredArrays s h]
  rfl

/-! The Reset columns of the arrays (R10). -/

/-- After power-on a word of these arrays reads its Reset column. -/
theorem readWord_reset_of_inStoredArrays {off : Nat} (h : inStoredArrays off) :
    readWord State.reset off = BitVec.ofNat 64 (resetNat .m448 off) :=
  readWord_of_inStoredArrays _ h

/-- LNKn_CTRL and LNKn_STATUS (R100). -/
theorem resetNat_link : ∀ l : Fin 14, resetNat .m448 (0x410000 + 0x1000 * l) = 0x70 ∧ resetNat .m448 (0x410008 + 0x1000 * l) = 1 := by
  decide

/-- TEN_SPACEw, TEN_LARGESTw and TEN_ROWSw (R254). -/
theorem resetNat_wing : ∀ w : Fin 4, resetNat .m448 (0x1800100 + 8 * w) = 0x3A80000008000000 ∧
    resetNat .m448 (0x1800160 + 8 * w) = 0x8000000 ∧ resetNat .m448 (0x1800200 + 8 * w) = 0x800 := by
  decide

/-- COL_ENGe (R366). -/
theorem resetNat_engine : ∀ e : Fin 16, resetNat .m448 (0x1001000 + 8 * e) = 8 := by
  decide

/-- CUE_DB_CFG_b (R481). -/
theorem resetNat_doorbell (b : Fin 256) : resetNat .m448 (0x1441000 + 8 * b) = 1 := by
  have hcue : resetNat .m448 (0x1441000 + 8 * b) = resetCue (0x1441000 + 8 * b) := by
    unfold resetNat
    iterate 7 rw [if_neg (by omega)]
    rw [if_pos (by omega)]
  have hbase : inArray (0x1441000 + 8 * b) 0x1430000 8 256 = false := inArray_eq_false (by omega)
  have hcfg : inArray (0x1441000 + 8 * b) 0x1441000 8 256 = true := inArray_entry (by decide) b.isLt
  rw [hcue, resetCue, hbase, hcfg]
  rfl

/-- Settles O8: the registers of one place by evaluation, the arrays by their Reset columns. -/
theorem resetValues : Obligations.ResetValues := by
  refine ⟨rfl, rfl, rfl, rfl, rfl, rfl, rfl, rfl, rfl, rfl, rfl, rfl, rfl, rfl, rfl, rfl, rfl, rfl, rfl, rfl, rfl, rfl, rfl, rfl, rfl, rfl, rfl,
    rfl, rfl, rfl, rfl, rfl, rfl, rfl, rfl, rfl, fun l => ?links, fun w => ?wings, fun e => ?engines, fun b => ?doorbells⟩
  case links =>
    obtain ⟨hctrl, hstatus⟩ := resetNat_link l
    rw [readWord_reset_of_inStoredArrays (.inl (by omega)), readWord_reset_of_inStoredArrays (.inl (by omega)), hctrl, hstatus]
    exact ⟨rfl, rfl⟩
  case wings =>
    obtain ⟨hspace, hlargest, hrows⟩ := resetNat_wing w
    have hin {off : Nat} (hlo : 0x1800100 ≤ off) (hhi : off < 0x1800220) : inStoredArrays off := .inr (.inr (.inr ⟨hlo, hhi⟩))
    rw [readWord_reset_of_inStoredArrays (hin (by omega) (by omega)), readWord_reset_of_inStoredArrays (hin (by omega) (by omega)),
      readWord_reset_of_inStoredArrays (hin (by omega) (by omega)), hspace, hlargest, hrows]
    exact ⟨rfl, rfl, rfl⟩
  case engines =>
    rw [readWord_reset_of_inStoredArrays (.inr (.inl (by omega))), resetNat_engine]
    rfl
  case doorbells =>
    rw [readWord_reset_of_inStoredArrays (.inr (.inr (.inl (by omega)))), resetNat_doorbell]
    rfl

end Sys2Proof.Machine
end

section
/-! What a whole-register write of BAR0 does (R6, R127, R434, R534). -/
namespace Sys2Proof.Machine

/-! The one piece of a whole-register write. -/

/-- The piece of a write that covers a whole register. -/
def Piece.whole (v : Word) : Piece := { en := 255, val := v }

@[simp] theorem Piece.whole_mask (v : Word) : (Piece.whole v).mask = BitVec.allOnes 64 := by
  have hsum : (List.range 8).foldl (fun m i => if Nat.testBit 255 i then m + 255 * 2 ^ (8 * i) else m) 0 = 2 ^ 64 - 1 := by decide
  exact congrArg (BitVec.ofNat 64) hsum

@[simp] theorem Piece.whole_val (v : Word) : (Piece.whole v).val = v := rfl

@[simp] theorem Piece.whole_onto (v old : Word) : (Piece.whole v).onto old = v := by
  rw [Piece.onto, whole_mask, whole_val, BitVec.and_allOnes, BitVec.not_allOnes, BitVec.and_zero, BitVec.zero_or]

@[simp] theorem leBytes_length (n v : Nat) : (leBytes n v).length = n := by
  induction n generalizing v with
  | zero => rfl
  | succ n ih => simp [leBytes, ih]

/-- Byte `i` of the little-endian bytes of a number. -/
theorem nthByte_leBytes {n i : Nat} (v : Nat) (hi : i < n) : (nthByte (leBytes n v) i).toNat = v / 256 ^ i % 256 := by
  induction n generalizing v i with
  | zero => omega
  | succ n ih =>
    cases i with
    | zero => simp [leBytes, nthByte]
    | succ i =>
      rw [Nat.pow_succ', ← Nat.div_div_eq_div_mul]
      exact ih (v / 256) (Nat.lt_of_succ_lt_succ hi)

/-- Folds over a list whose steps agree on its entries agree. -/
theorem foldl_eq_of_step_eq {α β : Type} {f g : α → β → α} (l : List β) (a : α) (h : ∀ a, ∀ b ∈ l, f a b = g a b) :
    l.foldl f a = l.foldl g a :=
  List.foldl_rel rfl fun b hb c _ hc => hc ▸ h c b hb

/-- The bytes of a number, each at its place, add up to it. -/
theorem foldl_bytes_eq_mod (v k : Nat) : (List.range k).foldl (fun m i => m + v / 256 ^ i % 256 * 2 ^ (8 * i)) 0 = v % 256 ^ k := by
  induction k with
  | zero => simp [Nat.mod_one]
  | succ k ih =>
    rw [List.range_succ, List.foldl_append, ih, Nat.mod_pow_succ, List.foldl_cons, List.foldl_nil, Nat.pow_mul,
      Nat.mul_comm (v / 256 ^ k % 256)]

/-- A write of the eight bytes of a register is one piece that covers it whole (R534). -/
theorem piecesOf_whole {addr : Nat} (ha : addr % 8 = 0) (v : Word) :
    piecesOf addr (leBytes 8 v.toNat) = [(addr, Piece.whole v)] := by
  have hcount : (addr + 8 - 1) / 8 - addr / 8 + 1 = 1 := by omega
  have hbase : (addr / 8 + 0) * 8 = addr := by omega
  have hin : ∀ i ∈ List.range 8, decide (addr ≤ addr + i ∧ addr + i < addr + 8) = true := by
    intro i hi
    rw [List.mem_range] at hi
    simp [hi]
  have hen : (List.range 8).foldl (fun m i => if decide (addr ≤ addr + i ∧ addr + i < addr + 8) then m + 2 ^ i else m) 0 = 255 := by
    have hsum : (List.range 8).foldl (fun m i => m + 2 ^ i) 0 = 255 := rfl
    exact (foldl_eq_of_step_eq _ _ fun m i hi => if_pos (hin i hi)).trans hsum
  have hval : (List.range 8).foldl (fun m i => if decide (addr ≤ addr + i ∧ addr + i < addr + 8) then
      m + (nthByte (leBytes 8 v.toNat) (addr + i - addr)).toNat * 2 ^ (8 * i) else m) 0 = v.toNat := by
    have hlt : v.toNat < 256 ^ 8 := v.isLt
    refine (foldl_eq_of_step_eq _ _ fun m i hi => ?_).trans ((foldl_bytes_eq_mod v.toNat 8).trans (Nat.mod_eq_of_lt hlt))
    rw [if_pos (hin i hi), Nat.add_sub_cancel_left, nthByte_leBytes _ (List.mem_range.mp hi)]
  simp only [piecesOf, leBytes_length]
  rw [if_neg (by decide), hcount]
  simp only [List.range_one, List.map_cons, List.map_nil, hbase, hen, hval, BitVec.ofNat_toNat, BitVec.setWidth_eq]
  rfl

/-- A whole-register write is one piece of a host write. -/
theorem execRegisterWrite_whole {s : State} {addr : Fin 67108864} {bytes : List Byte} {value : Word} (hlive : islandLive s = true)
    (ha : addr.val % 8 = 0) (hb : bytes = leBytes 8 value.toNat) :
    execRegisterWrite addr bytes s = .next (writePiece none addr (Piece.whole value) s) := by
  have hfit : (leBytes 8 value.toNat).take (barBytes - addr) = leBytes 8 value.toNat :=
    List.take_of_length_le (by rw [leBytes_length, barBytes]; omega)
  rw [execRegisterWrite, if_pos hlive, hb, hfit, writeBytes, piecesOf_whole ha]
  rfl

section
variable {s : State} {off : Nat} {p : Piece}

/-- A host write of a live block clears bits of an RW1C register. -/
theorem writePiece_host_w1c {m : Nat} (hlive : blockLive s off = true) (hw : w1cMask off = some m) :
    writePiece none off p s = clearBits off m p s := by
  simp [writePiece, hlive, prompterMay, hw]

/-- A host write of a live block puts a value into a register that only holds it. -/
theorem writePiece_host_plain {m : Nat} (hlive : blockLive s off = true) (hw : w1cMask off = none) (hm : plainMask off = some m) :
    writePiece none off p s = plainWrite off m p s := by
  simp [writePiece, hlive, prompterMay, hw, hm]

/-- A host write of a live block to any other register acts. -/
theorem writePiece_host_action (hlive : blockLive s off = true) (hw : w1cMask off = none) (hm : plainMask off = none) :
    writePiece none off p s = writeAction none off p s := by
  simp [writePiece, hlive, prompterMay, hw, hm]

end

/-- The 1 bits of a whole-register write clear an RW1C register (Table 00-5). -/
theorem clearBits_whole (off m : Nat) (v : Word) (s : State) :
    clearBits off m (Piece.whole v) s = s.setWord off (s.word off &&& ~~~(v &&& BitVec.ofNat 64 m)) := by
  rw [clearBits, Piece.whole_val, Piece.whole_mask, BitVec.and_allOnes]

/-- A whole-register write of a value that the register takes. -/
theorem plainWrite_whole_of_ok {off m : Nat} {v : Word} (s : State) (hok : plainOk off (v &&& BitVec.ofNat 64 m).toNat = true) :
    plainWrite off m (Piece.whole v) s =
      s.setWord off ((s.word off &&& ~~~ BitVec.ofNat 64 m) ||| (v &&& BitVec.ofNat 64 m)) := by
  simp only [plainWrite, Piece.whole_onto, hok, if_true]

/-- A whole-register write of a value that the register does not take. -/
theorem plainWrite_whole_of_not_ok {off m : Nat} {v : Word} (s : State) (hok : plainOk off (v &&& BitVec.ofNat 64 m).toNat = false) :
    plainWrite off m (Piece.whole v) s = refuseReg off s := by
  simp only [plainWrite, Piece.whole_onto, hok, Bool.false_eq_true, if_false]

/-! Refused writes. -/

/-- The CFG_ERR bits of the blocks. -/
def cfgErrBits : List Field :=
  [Reg.cbCfgErr, Reg.pwrCfgErr, Reg.secCfgErr, Reg.mbxCfgErr, Reg.pmcCfgErr, Reg.lnkCfgErr, Reg.swcCfgErr, Reg.colCfgErr, Reg.cueCfgErr,
    Reg.tenCfgErr, Reg.memCfgErr, Reg.rhsCfgErr, Reg.thmCfgErr, Reg.invCfgErr]

theorem errOf_mem_cfgErrBits (off : Nat) : errOf off ∈ cfgErrBits := by
  unfold errOf
  iterate 14 refine iteInduction (motive := (· ∈ cfgErrBits)) (fun _ => by decide) fun _ => ?_
  decide

/-- Every CFG_ERR bit is one bit of an RW1C register. -/
theorem cfgErrBits_w1c : ∀ f ∈ cfgErrBits, f.w = 1 ∧ f.lo + f.w ≤ 64 ∧ (w1cMask f.off).isSome = true := by
  decide

/-- A refused write sets the CFG_ERR bit of the register's block. -/
theorem fld_errOf_refuseReg (off : Nat) (s : State) : (refuseReg off s).fld (errOf off) = 1 := by
  obtain ⟨hw, hfits, -⟩ := cfgErrBits_w1c _ (errOf_mem_cfgErrBits off)
  calc (refuseReg off s).fld (errOf off) = 1 % 2 ^ (errOf off).w := fld_setFld_same s _ _ hfits
    _ = 1 := congrArg (1 % 2 ^ ·) hw

/-- A refused write leaves every other word. -/
theorem word_refuseReg_ne {off b : Nat} (s : State) (h : b ≠ (errOf off).off) : (refuseReg off s).word b = s.word b :=
  word_setFld_ne s _ _ _ h

/-- A register without an RW1C bit keeps its value through a refused write. -/
theorem word_refuseReg_of_not_w1c {off b : Nat} (s : State) (h : w1cMask b = none) : (refuseReg off s).word b = s.word b := by
  refine word_refuseReg_ne s fun hb => ?_
  obtain ⟨-, -, hsome⟩ := cfgErrBits_w1c _ (errOf_mem_cfgErrBits off)
  rw [← hb, h] at hsome
  exact absurd hsome (by decide)

@[simp] theorem refuseReg_outbox (off : Nat) (s : State) : (refuseReg off s).outbox = s.outbox := rfl
@[simp] theorem refuseReg_mem (off : Nat) (s : State) : (refuseReg off s).mem = s.mem := rfl
@[simp] theorem refuseReg_links (off : Nat) (s : State) : (refuseReg off s).links = s.links := rfl
@[simp] theorem refuseReg_power (off : Nat) (s : State) : (refuseReg off s).power = s.power := rfl

/-- Words outside `offs` that read as they read. -/
theorem onlyRegs_of_word_eq {offs : List Nat} {s t : State} (h : ∀ b, b ∉ offs → t.word b = s.word b) : onlyRegs offs s t = true := by
  rw [onlyRegs, List.all_eq_true]
  intro e _
  by_cases he : e.1 ∈ offs
  · simp [he]
  · simp [h _ he]

/-- A refused write changes the CFG_ERR bit's word at most. -/
theorem onlyRegs_refuseReg {offs : List Nat} (off : Nat) (s : State) (h : (errOf off).off ∈ offs) : onlyRegs offs s (refuseReg off s) = true :=
  onlyRegs_of_word_eq fun _ hb => word_refuseReg_ne s fun he => hb (he ▸ h)

/-! Safety limits that take only a capsule (R434). -/

/-- The safety limits of THM. -/
def capsuleLimits : List Nat := [0x2100018, 0x2100020, 0x2100038, 0x2100048, 0x2100050]

theorem capsuleLimit_masks : ∀ off ∈ capsuleLimits, w1cMask off = none ∧ plainMask off = none ∧ errOf off = Reg.thmCfgErr := by
  decide

/-- A direct write of a safety limit is refused. -/
theorem writeAction_capsuleLimit {off : Nat} (h : off ∈ capsuleLimits) (p : Piece) (s : State) :
    writeAction none off p s = refuseReg off s := by
  simp only [capsuleLimits, List.mem_cons, List.not_mem_nil, or_false] at h
  rcases h with rfl | rfl | rfl | rfl | rfl <;> rfl

/-- Settles O57: the write is one piece, which the model's write of an RW1C, a plain or a capsule register takes. -/
theorem registerWritesAct : Obligations.RegisterWritesAct := by
  refine ⟨fun s addr bytes value m hin ha hb hlive hw hm hok => ?taken, fun s addr bytes value m hin ha hb hlive hw hm hok => ?refused,
    fun s addr bytes value m hin ha hb hlive hw => ?cleared, fun s addr bytes value hin ha hb hlive hcap => ?capsule⟩
  all_goals refine ⟨_, execRegisterWrite_whole hin ha hb, ?_⟩
  case taken =>
    rw [writePiece_host_plain hlive hw hm, plainWrite_whole_of_ok s hok]
    exact ⟨word_setWord_same _ _ _, rfl, rfl, rfl⟩
  case refused =>
    rw [writePiece_host_plain hlive hw hm, plainWrite_whole_of_not_ok s hok]
    exact ⟨fld_errOf_refuseReg _ s, word_refuseReg_of_not_w1c s hw, refuseReg_outbox _ s, refuseReg_mem _ s, refuseReg_links _ s,
      onlyRegs_refuseReg _ s (by simp)⟩
  case cleared =>
    rw [writePiece_host_w1c hlive hw, clearBits_whole]
    exact ⟨word_setWord_same _ _ _, rfl, rfl, rfl⟩
  case capsule =>
    obtain ⟨hw, hm, herr⟩ := capsuleLimit_masks _ hcap
    rw [writePiece_host_action hlive hw hm, writeAction_capsuleLimit hcap, ← herr]
    exact ⟨fld_errOf_refuseReg _ s, word_refuseReg_of_not_w1c s hw, refuseReg_power _ s, refuseReg_mem _ s, refuseReg_links _ s,
      onlyRegs_refuseReg _ s (by simp)⟩

end Sys2Proof.Machine
end

section
/-! How the I3C ports and the tray master act (R28, R468 to R473). -/
namespace Sys2Proof.Machine

/-! Fields that share no bit. -/

/-- Two fields share no bit: other words, or other bits of one word. -/
def Field.apart (f g : Field) : Bool := decide (g.off ≠ f.off ∨ g.lo + g.w ≤ f.lo ∨ f.lo + f.w ≤ g.lo)

/-- A field that shares no bit with the one written keeps its value. -/
theorem fld_setFld_apart (s : State) {f g : Field} (x : Nat) (h : f.apart g = true) : (s.setFld f x).fld g = s.fld g := by
  rcases of_decide_eq_true h with hoff | hbits
  · exact fld_setFld_off s f g x hoff
  · exact fld_setFld_bits s f g x hbits

theorem fld_lt (s : State) (f : Field) : s.fld f < 2 ^ f.w := field_lt _ _ _

theorem flag_eq_false {s : State} {f : Field} (h : s.fld f = 0) : s.flag f = false := decide_eq_false fun hne => hne h

theorem flag_eq_true {s : State} {f : Field} (h : s.fld f = 1) : s.flag f = true :=
  decide_eq_true (h ▸ Nat.one_ne_zero)

/-! Words that a command leaves. -/

/-- Every word outside `offs` reads in `t` as in `s`. -/
def WordsKept (offs : List Nat) (s t : State) : Prop := ∀ b, b ∉ offs → t.word b = s.word b

section
variable {offs : List Nat} {s t : State}

theorem WordsKept.refl (s : State) : WordsKept offs s s := fun _ _ => rfl

theorem WordsKept.setFld (h : WordsKept offs s t) (f : Field) (x : Nat) (hf : f.off ∈ offs) : WordsKept offs s (t.setFld f x) :=
  fun b hb => (word_setFld_ne t f b x fun he => hb (he ▸ hf)).trans (h b hb)

theorem WordsKept.emit (h : WordsKept offs s t) (m : OutMsg) : WordsKept offs s (emit m t) := h

theorem WordsKept.modI3c (h : WordsKept offs s t) (tray : Bool) (f : I3c → I3c) : WordsKept offs s (t.modI3c tray f) := h

theorem WordsKept.modHost (h : WordsKept offs s t) (f : HostPort → HostPort) : WordsKept offs s (t.modHost f) := h

theorem WordsKept.onlyRegs (h : WordsKept offs s t) : onlyRegs offs s t = true := onlyRegs_of_word_eq h

end

/-! The tray master's role (R27, R28). -/

/-- The role is as asked already, or the bit is written and the change told. -/
theorem setMaster_cases (b : Bool) (s : State) :
    (s.flag Reg.master = b ∧ setMaster b s = s) ∨
    setMaster b s = (s.setFld Reg.master (if b then 1 else 0)).raise Reg.masterChange := by
  by_cases h : s.flag Reg.master = b
  · exact .inl ⟨h, if_pos h⟩
  · exact .inr (if_neg h)

theorem setMaster_of_ne {b : Bool} {s : State} (h : s.flag Reg.master ≠ b) :
    setMaster b s = (s.setFld Reg.master (if b then 1 else 0)).raise Reg.masterChange := if_neg h

/-- A one-bit field is its flag. -/
theorem fld_eq_flag (s : State) {f : Field} (hw : f.w = 1) : s.fld f = if s.flag f then 1 else 0 := by
  have hlt : s.fld f < 2 ^ 1 := hw ▸ fld_lt s f
  by_cases h : s.fld f = 0
  · simp [State.flag, h]
  · simp [State.flag, h]; omega

theorem fld_master_setMaster (b : Bool) (s : State) : (setMaster b s).fld Reg.master = if b then 1 else 0 := by
  rcases setMaster_cases b s with ⟨hb, he⟩ | he <;> rw [he]
  · rw [fld_eq_flag s rfl, hb]
  · rw [State.raise, fld_setFld_apart _ _ rfl, fld_setFld_same _ _ _ (by decide)]
    cases b <;> rfl

/-- A field other than INV_TRAY.MASTER and its event keeps its value. -/
theorem fld_setMaster_apart (b : Bool) (s : State) {g : Field} (hm : Reg.master.apart g = true) (hc : Reg.masterChange.apart g = true) :
    (setMaster b s).fld g = s.fld g := by
  rcases setMaster_cases b s with ⟨-, he⟩ | he
  · rw [he]
  · rw [he, State.raise, fld_setFld_apart _ _ hc, fld_setFld_apart _ _ hm]

theorem WordsKept.setMaster {offs : List Nat} {s t : State} (h : WordsKept offs s t) (hm : Reg.master.off ∈ offs)
    (hc : Reg.masterChange.off ∈ offs) (b : Bool) : WordsKept offs s (setMaster b t) := by
  rcases setMaster_cases b t with ⟨-, he⟩ | he
  · rw [he]
    exact h
  · rw [he]
    exact (h.setFld _ _ hm).setFld _ _ hc

@[simp] theorem setMaster_host (b : Bool) (s : State) : (setMaster b s).host = s.host := by unfold setMaster; split <;> rfl
@[simp] theorem setMaster_outbox (b : Bool) (s : State) : (setMaster b s).outbox = s.outbox := by unfold setMaster; split <;> rfl
@[simp] theorem setMaster_mem (b : Bool) (s : State) : (setMaster b s).mem = s.mem := by unfold setMaster; split <;> rfl
@[simp] theorem setMaster_links (b : Bool) (s : State) : (setMaster b s).links = s.links := by unfold setMaster; split <;> rfl

@[simp] theorem lowestTarget_setMaster (b : Bool) (s : State) : lowestTarget (setMaster b s) = lowestTarget s := by
  simp [lowestTarget, State.i3cPort]

@[simp] theorem flag_controller_setMaster (b : Bool) (s : State) : (setMaster b s).flag Reg.controller = s.flag Reg.controller := by
  rw [State.flag, State.flag, fld_setMaster_apart b s rfl rfl]

/-- A controller with an IS9 to take over offers it the controller role (R471). -/
theorem handOn_of_target {s : State} {a : Nat} (hc : s.flag Reg.controller = true) (ht : lowestTarget s = some a) :
    handOn s = emit (.ccc "GETACCMST" [a]) ((setMaster false s).modHost (fun h => { h with handing := some a })) := by
  simp [handOn, hc, ht]

/-- A chip that is not controller, or has no IS9 to take over, only gives up the master's role. -/
theorem handOn_of_no_target {s : State} (h : s.flag Reg.controller = false ∨ lowestTarget s = none) : handOn s = setMaster false s := by
  rcases h with hc | ht
  · simp [handOn, hc]
  · simp [handOn, ht]

/-- Handing on is giving up the master's role, with the offer of the controller role at most. -/
theorem handOn_cases (s : State) :
    handOn s = setMaster false s ∨
    ∃ a, handOn s = emit (.ccc "GETACCMST" [a]) ((setMaster false s).modHost (fun h => { h with handing := some a })) := by
  by_cases h : s.flag Reg.controller = false ∨ lowestTarget s = none
  · exact .inl (handOn_of_no_target h)
  · obtain ⟨hc, ht⟩ := not_or.mp h
    obtain ⟨a, ha⟩ := Option.ne_none_iff_exists'.mp ht
    exact .inr ⟨a, handOn_of_target (Bool.of_not_eq_false hc) ha⟩

@[simp] theorem fld_handOn (s : State) (f : Field) : (handOn s).fld f = (setMaster false s).fld f := by
  rcases handOn_cases s with he | ⟨a, he⟩
  · rw [he]
  · rw [he, fld_emit, fld_State_modHost]

@[simp] theorem i3cPort_targets_handOn (s : State) (tray : Bool) : ((handOn s).i3cPort tray).targets = (s.i3cPort tray).targets := by
  rcases handOn_cases s with he | ⟨a, he⟩ <;> rw [he] <;> simp [State.i3cPort]

@[simp] theorem handOn_mem (s : State) : (handOn s).mem = s.mem := by
  rcases handOn_cases s with he | ⟨a, he⟩ <;> simp [he]

@[simp] theorem handOn_links (s : State) : (handOn s).links = s.links := by
  rcases handOn_cases s with he | ⟨a, he⟩ <;> simp [he]

/-! The controller's role (R469, R471). -/

/-- A chip that becomes controller resets the addresses and assigns them anew (R469). -/
theorem becomeController_acts (s : State) :
    (becomeController s).fld Reg.controller = 1 ∧
    (becomeController s).outbox = s.outbox ++ [.ccc "RSTDAA" [], .ccc "ENTDAA" []] ∧
    (becomeController s).mem = s.mem ∧ (becomeController s).links = s.links ∧
    onlyRegs [Reg.controller.off] s (becomeController s) = true :=
  ⟨fld_setFld_same s _ _ (by decide), List.append_assoc _ _ _, rfl, rfl,
    ((WordsKept.refl s).setFld Reg.controller 1 (by decide)).onlyRegs⟩

/-- A chip that accepts the controller role is master and shows its own address as the controller's (R471). -/
theorem acceptRole_acts (s : State) :
    (acceptRole s).fld Reg.controller = 1 ∧ (acceptRole s).fld Reg.master = 1 ∧
    (acceptRole s).fld Reg.trayCtlAddr = s.fld Reg.trayAddr ∧ (acceptRole s).mem = s.mem ∧ (acceptRole s).links = s.links := by
  refine ⟨?controller, fld_master_setMaster _ _, ?address, setMaster_mem _ _, setMaster_links _ _⟩
  case controller =>
    rw [acceptRole, fld_setMaster_apart _ _ rfl rfl, fld_setFld_apart _ _ rfl, State.raise, fld_setFld_same _ _ _ (by decide)]
    rfl
  case address =>
    rw [acceptRole, fld_setMaster_apart _ _ rfl rfl, fld_setFld_same _ _ _ (by decide)]
    exact Nat.mod_eq_of_lt (fld_lt s Reg.trayAddr)

theorem fld_controller_roleGone (s : State) : (roleGone s).fld Reg.controller = 0 := fld_setFld_same s _ _ (by decide)

theorem wordsKept_roleGone {offs : List Nat} (s : State) (h : Reg.controller.off ∈ offs) : WordsKept offs s (roleGone s) :=
  ((WordsKept.refl s).setFld Reg.controller 0 h).modHost _

/-- GETACCMST toward a chip that may be master is accepted (R471). -/
theorem handoff_of_eligible {s : State} (ha : addressed s true = true) (hm : mayBeMaster s = true) : handoff true s = acceptRole s := by
  rw [handoff, if_pos rfl, if_pos ⟨ha, hm⟩]

/-- The acknowledgement of the chip's own GETACCMST ends its role. -/
theorem handoff_acknowledged {s : State} {a : Nat} (h : s.host.handing = some a) :
    handoff false s = (roleGone s).setFld Reg.trayCtlAddr a := by
  rw [handoff, h]
  rfl

/-- A chip whose role is handed over is not controller and shows its new holder's address. -/
theorem roleHandedOver_acts (s : State) (a : Nat) :
    ((roleGone s).setFld Reg.trayCtlAddr a).fld Reg.controller = 0 ∧ ((roleGone s).setFld Reg.trayCtlAddr a).host.handing = none ∧
    ((roleGone s).setFld Reg.trayCtlAddr a).fld Reg.trayCtlAddr = a % 2 ^ Reg.trayCtlAddr.w ∧
    ((roleGone s).setFld Reg.trayCtlAddr a).mem = s.mem ∧ ((roleGone s).setFld Reg.trayCtlAddr a).links = s.links ∧
    onlyRegs [Reg.controller.off, Reg.trayCtlAddr.off] s ((roleGone s).setFld Reg.trayCtlAddr a) = true :=
  ⟨(fld_setFld_apart _ _ rfl).trans (fld_controller_roleGone s), rfl, fld_setFld_same _ _ _ (by decide), rfl, rfl,
    ((wordsKept_roleGone s (by decide)).setFld Reg.trayCtlAddr a (by decide)).onlyRegs⟩

/-! The ports' common command codes (R467, R468). -/

@[simp] theorem i3cPort_setFld (s : State) (f : Field) (x : Nat) (tray : Bool) : (s.setFld f x).i3cPort tray = s.i3cPort tray := rfl

@[simp] theorem i3cPort_modI3c_same (s : State) (tray : Bool) (f : I3c → I3c) : (s.modI3c tray f).i3cPort tray = f (s.i3cPort tray) :=
  Tab.get_set_same _ _ _ _

/-- An answer to a directed CCC changes nothing but the outbox. -/
theorem answerCcc_acts {s : State} {tray : Bool} (bytes : List Byte) (h : addressed s tray = true) :
    (answerCcc tray bytes s).outbox = s.outbox ++ [.i3c tray bytes] ∧ (answerCcc tray bytes s).host = s.host ∧
    (answerCcc tray bytes s).regs = s.regs ∧ (answerCcc tray bytes s).mem = s.mem ∧ (answerCcc tray bytes s).links = s.links := by
  rw [answerCcc, if_pos h]
  exact ⟨rfl, rfl, rfl, rfl, rfl⟩

/-- GETSTATUS takes two open bytes. -/
theorem sendStatus_acts {s : State} {tray : Bool} (h : addressed s tray = true) :
    (sendStatus tray s).outbox = s.outbox ++ [.i3c tray [Config.freeByte s.free, Config.freeByte (s.free + 1)]] ∧
    (sendStatus tray s).free = s.free + 2 ∧ (sendStatus tray s).regs = s.regs ∧ (sendStatus tray s).mem = s.mem ∧
    (sendStatus tray s).links = s.links := by
  rw [sendStatus, answerCcc, if_pos h]
  exact ⟨rfl, rfl, rfl, rfl, rfl⟩

theorem addrField_fits (tray : Bool) : (addrField tray).lo + (addrField tray).w ≤ 64 := by
  cases tray <;> decide

/-- RSTDAA takes the port's address away. -/
theorem resetAddress_acts (tray : Bool) (s : State) :
    (s.setFld (addrField tray) 0).fld (addrField tray) = 0 ∧ (s.setFld (addrField tray) 0).host = s.host ∧
    (s.setFld (addrField tray) 0).outbox = s.outbox ∧ (s.setFld (addrField tray) 0).mem = s.mem ∧
    (s.setFld (addrField tray) 0).links = s.links ∧ onlyRegs [(addrField tray).off] s (s.setFld (addrField tray) 0) = true :=
  ⟨(fld_setFld_same s _ _ (addrField_fits tray)).trans (Nat.zero_mod _), rfl, rfl, rfl, rfl,
    ((WordsKept.refl s).setFld _ 0 (List.mem_singleton.mpr rfl)).onlyRegs⟩

/-! ENTDAA toward a target (R29, R470). -/

/-- An address of 08h plus the slot is taken. -/
theorem takeAddress_of_own (s : State) {tray : Bool} {a : Nat} (h : tray = true → a = 8 + mySlot s) :
    takeAddress tray a s = s.setFld (addrField tray) a := by
  have hslot : mySlot (s.setFld (addrField tray) a) = mySlot s := by
    cases tray <;> exact fld_setFld_apart s a rfl
  rw [takeAddress]
  exact if_neg fun ⟨htray, hne⟩ => hne (hslot ▸ h htray)

/-- Another address on the tray bus tells of a strap conflict, with which the chip is not master. -/
theorem takeAddress_of_conflict (s : State) {a : Nat} (h : a ≠ 8 + mySlot s) :
    takeAddress true a s = setMaster false ((s.setFld Reg.trayAddr a).raise Reg.strapConflict) := by
  have hslot : mySlot (s.setFld Reg.trayAddr a) = mySlot s := fld_setFld_apart s a rfl
  rw [takeAddress]
  exact if_pos ⟨rfl, hslot ▸ h⟩

/-- A target on the tray bus holds the address given to it; one other than 08h plus the slot is a strap conflict. -/
theorem takeAddress_tray_acts (s : State) {a : Nat} (ha : a < 128) :
    (takeAddress true a s).fld Reg.trayAddr = a ∧
    (takeAddress true a s).fld Reg.strapConflict = (if a = 8 + mySlot s then s.fld Reg.strapConflict else 1) ∧
    (takeAddress true a s).fld Reg.master = (if a = 8 + mySlot s then s.fld Reg.master else 0) ∧
    (takeAddress true a s).outbox = s.outbox ∧ (takeAddress true a s).mem = s.mem ∧ (takeAddress true a s).links = s.links := by
  have hset : (s.setFld Reg.trayAddr a).fld Reg.trayAddr = a := (fld_setFld_same s _ _ (by decide)).trans (Nat.mod_eq_of_lt ha)
  by_cases h : a = 8 + mySlot s
  · rw [takeAddress_of_own s fun _ => h, if_pos h, if_pos h]
    exact ⟨hset, fld_setFld_apart s a rfl, fld_setFld_apart s a rfl, rfl, rfl, rfl⟩
  · rw [takeAddress_of_conflict s h, if_neg h, if_neg h]
    refine ⟨?address, ?conflict, fld_master_setMaster _ _, setMaster_outbox _ _, setMaster_mem _ _, setMaster_links _ _⟩
    case address => rw [fld_setMaster_apart _ _ rfl rfl, State.raise, fld_setFld_apart _ _ rfl, hset]
    case conflict =>
      rw [fld_setMaster_apart _ _ rfl rfl, State.raise, fld_setFld_same _ _ _ (by decide)]
      rfl

/-- The rack port holds the address given to it and nothing else changes. -/
theorem takeAddress_rack_acts (s : State) {a : Nat} (ha : a < 128) :
    (takeAddress false a s).fld Reg.rackAddr = a ∧ (takeAddress false a s).fld Reg.strapConflict = s.fld Reg.strapConflict ∧
    (takeAddress false a s).outbox = s.outbox ∧ (takeAddress false a s).mem = s.mem ∧ (takeAddress false a s).links = s.links ∧
    onlyRegs [Reg.rackAddr.off, Reg.strapConflict.off] s (takeAddress false a s) = true := by
  rw [takeAddress_of_own s (tray := false) nofun]
  exact ⟨(fld_setFld_same s _ _ (by decide)).trans (Nat.mod_eq_of_lt ha), fld_setFld_apart s a rfl, rfl, rfl, rfl,
    ((WordsKept.refl s).setFld Reg.rackAddr a (by decide)).onlyRegs⟩

/-! ENTDAA as controller (R470, R474). -/

/-- ENTDAA is run by the controller alone. -/
theorem enterDaa_of_controller {pids : List (BitVec 48)} {s : State} (h : s.fld Reg.controller = 1) :
    enterDaa (.controller pids) s = runEntdaa pids s := if_pos (flag_eq_true h)

theorem enterDaa_of_not_controller {pids : List (BitVec 48)} {s : State} (h : s.fld Reg.controller = 0) :
    enterDaa (.controller pids) s = s := by
  rw [enterDaa, flag_eq_false h]
  rfl

/-- The state with another outbox. -/
def State.withOutbox (s : State) (out : List OutMsg) : State := { s with outbox := out }

theorem WordsKept.withOutbox {offs : List Nat} {s t : State} (h : WordsKept offs s t) (out : List OutMsg) :
    WordsKept offs s (t.withOutbox out) := h

@[simp] theorem i3cPort_withOutbox (s : State) (out : List OutMsg) (tray : Bool) :
    (s.withOutbox out).i3cPort tray = s.i3cPort tray := rfl

/-! A change of the outbox commutes with the other updates. Each proof splits the state, so that `simp` rewrites with the equation and the
kernel does not unfold the whole of ENTDAA again. -/

theorem emit_eq_withOutbox (m : OutMsg) (s : State) : emit m s = s.withOutbox (s.outbox ++ [m]) := by
  cases s
  rfl
theorem withOutbox_withOutbox (s : State) (o o' : List OutMsg) : (s.withOutbox o).withOutbox o' = s.withOutbox o' := by
  cases s
  rfl
theorem setFld_withOutbox (s : State) (o : List OutMsg) (f : Field) (x : Nat) :
    (s.withOutbox o).setFld f x = (s.setFld f x).withOutbox o := by
  cases s
  rfl
theorem modI3c_withOutbox (s : State) (o : List OutMsg) (tray : Bool) (f : I3c → I3c) :
    (s.withOutbox o).modI3c tray f = (s.modI3c tray f).withOutbox o := by
  cases s
  rfl

/-- Messages sent along a list change nothing but the outbox. -/
theorem forEach_emit {α : Type} (m : α → OutMsg) (l : List α) (s : State) :
    forEach (fun a s => emit (m a) s) l s = s.withOutbox (s.outbox ++ l.map m) := by
  induction l generalizing s with
  | nil => simp [forEach, State.withOutbox]
  | cons a l ih =>
    rw [forEach, ih]
    simp [State.withOutbox, emit]

/-- The targets with their addresses, and the controller with its own, 08h plus the slot. -/
def addressesAssigned (pids : List (BitVec 48)) (s : State) : State :=
  ((s.modI3c true (fun p => { p with targets := assignAddresses (mySlot s) pids 16 pids })).setFld Reg.trayAddr (8 + mySlot s)).setFld
    Reg.trayCtlAddr (8 + mySlot s)

/-- ENTDAA with a target of the controller's own slot on the bus: a strap conflict, and the role is handed on. -/
theorem runEntdaa_of_conflict {pids : List (BitVec 48)} {s : State}
    (h : pids.any (fun p => decide (pidSlot p = some (mySlot s))) = true) :
    ∃ out, runEntdaa pids s = handOn (((addressesAssigned pids s).withOutbox out).raise Reg.strapConflict) := by
  simp only [runEntdaa, h, if_true, forEach_emit, addressesAssigned]
  split
  · simp only [emit_eq_withOutbox, withOutbox_withOutbox, modI3c_withOutbox, setFld_withOutbox]
    exact ⟨_, rfl⟩
  · simp only [modI3c_withOutbox, setFld_withOutbox]
    exact ⟨_, rfl⟩

/-- ENTDAA on a bus without such a target: EIDs follow. -/
theorem runEntdaa_of_clear {pids : List (BitVec 48)} {s : State}
    (h : pids.any (fun p => decide (pidSlot p = some (mySlot s))) = false) :
    ∃ out, runEntdaa pids s =
      (((addressesAssigned pids s).withOutbox out).setFld Reg.trayEid (0x10 + mySlot s)).setFld Reg.trayHostEid 8 := by
  simp only [runEntdaa, h, Bool.false_eq_true, if_false, forEach_emit, addressesAssigned]
  split
  · simp only [emit_eq_withOutbox, withOutbox_withOutbox, modI3c_withOutbox, setFld_withOutbox]
    exact ⟨_, rfl⟩
  · simp only [withOutbox_withOutbox, modI3c_withOutbox, setFld_withOutbox]
    exact ⟨_, rfl⟩

section
variable (pids : List (BitVec 48)) (s : State)

theorem mySlot_lt : mySlot s < 4 := fld_lt s Reg.slot

theorem targets_addressesAssigned :
    ((addressesAssigned pids s).i3cPort true).targets = assignAddresses (mySlot s) pids 16 pids :=
  congrArg I3c.targets (i3cPort_modI3c_same s true fun p => { p with targets := assignAddresses (mySlot s) pids 16 pids })

theorem fld_trayAddr_addressesAssigned : (addressesAssigned pids s).fld Reg.trayAddr = 8 + mySlot s := by
  have hlt : 8 + mySlot s < 2 ^ 7 := by have := mySlot_lt s; omega
  rw [addressesAssigned, fld_setFld_apart _ _ rfl, fld_setFld_same _ _ _ (by decide)]
  exact Nat.mod_eq_of_lt hlt

theorem fld_addressesAssigned_apart {g : Field} (ha : Reg.trayAddr.apart g = true) (hc : Reg.trayCtlAddr.apart g = true) :
    (addressesAssigned pids s).fld g = s.fld g := by
  rw [addressesAssigned, fld_setFld_apart _ _ hc, fld_setFld_apart _ _ ha]
  rfl

theorem wordsKept_addressesAssigned {offs : List Nat} (h : Reg.trayAddr.off ∈ offs) : WordsKept offs s (addressesAssigned pids s) :=
  (((WordsKept.refl s).modI3c true _).setFld Reg.trayAddr _ h).setFld Reg.trayCtlAddr _ h

/-- As controller of a bus without a target of its slot the chip assigns the addresses and keeps its role. -/
theorem runEntdaa_clear_acts (h : pids.any (fun p => decide (pidSlot p = some (mySlot s))) = false) :
    ((runEntdaa pids s).i3cPort true).targets = assignAddresses (mySlot s) pids 16 pids ∧
    (runEntdaa pids s).fld Reg.trayAddr = 8 + mySlot s ∧ (runEntdaa pids s).fld Reg.trayEid = 0x10 + mySlot s ∧
    (runEntdaa pids s).fld Reg.strapConflict = s.fld Reg.strapConflict ∧ (runEntdaa pids s).fld Reg.master = s.fld Reg.master ∧
    (runEntdaa pids s).mem = s.mem ∧ (runEntdaa pids s).links = s.links ∧
    onlyRegs [Reg.trayAddr.off, Reg.trayEid.off, Reg.strapConflict.off, Reg.master.off] s (runEntdaa pids s) = true := by
  obtain ⟨out, he⟩ := runEntdaa_of_clear h
  have hkept {g : Field} (heid : Reg.trayEid.apart g = true) (hhost : Reg.trayHostEid.apart g = true) :
      (runEntdaa pids s).fld g = (addressesAssigned pids s).fld g := by
    rw [he, fld_setFld_apart _ _ hhost, fld_setFld_apart _ _ heid]
    rfl
  refine ⟨?targets, ?address, ?eid, ?conflict, ?master, by rw [he]; rfl, by rw [he]; rfl, ?words⟩
  case targets =>
    rw [he, i3cPort_setFld, i3cPort_setFld, i3cPort_withOutbox]
    exact targets_addressesAssigned pids s
  case address => rw [hkept rfl rfl, fld_trayAddr_addressesAssigned]
  case eid =>
    have hlt : 0x10 + mySlot s < 2 ^ 8 := by have := mySlot_lt s; omega
    rw [he, fld_setFld_apart _ _ rfl, fld_setFld_same _ _ _ (by decide)]
    exact Nat.mod_eq_of_lt hlt
  case conflict => rw [hkept rfl rfl, fld_addressesAssigned_apart _ _ rfl rfl]
  case master => rw [hkept rfl rfl, fld_addressesAssigned_apart _ _ rfl rfl]
  case words =>
    rw [he]
    refine WordsKept.onlyRegs (.setFld (.setFld ?_ Reg.trayEid _ (by decide)) Reg.trayHostEid _ (by decide))
    exact (wordsKept_addressesAssigned pids s (by decide)).withOutbox out

/-- As controller of a bus with a target of its slot the chip assigns the addresses, tells of the conflict and is not master. -/
theorem runEntdaa_conflict_acts (h : pids.any (fun p => decide (pidSlot p = some (mySlot s))) = true) :
    ((runEntdaa pids s).i3cPort true).targets = assignAddresses (mySlot s) pids 16 pids ∧
    (runEntdaa pids s).fld Reg.trayAddr = 8 + mySlot s ∧ (runEntdaa pids s).fld Reg.strapConflict = 1 ∧
    (runEntdaa pids s).fld Reg.master = 0 ∧ (runEntdaa pids s).mem = s.mem ∧ (runEntdaa pids s).links = s.links := by
  obtain ⟨out, he⟩ := runEntdaa_of_conflict h
  rw [he]
  refine ⟨?targets, ?address, ?conflict, ?master, handOn_mem _, handOn_links _⟩
  case targets =>
    rw [i3cPort_targets_handOn, State.raise, i3cPort_setFld, i3cPort_withOutbox]
    exact targets_addressesAssigned pids s
  case address =>
    rw [fld_handOn, fld_setMaster_apart _ _ rfl rfl, State.raise, fld_setFld_apart _ _ rfl]
    exact fld_trayAddr_addressesAssigned pids s
  case conflict =>
    rw [fld_handOn, fld_setMaster_apart _ _ rfl rfl, State.raise, fld_setFld_same _ _ _ (by decide)]
    rfl
  case master => rw [fld_handOn]; exact fld_master_setMaster _ _

end

/-! RELEASE (R28, R471). -/

/-- A master that gives up its role tells of the change. -/
theorem setMaster_false_acts {s : State} (h : s.fld Reg.master = 1) :
    (setMaster false s).fld Reg.master = 0 ∧ (setMaster false s).fld Reg.masterChange = 1 ∧
    WordsKept [Reg.master.off, Reg.masterChange.off] s (setMaster false s) := by
  refine ⟨fld_master_setMaster _ _, ?change, (WordsKept.refl s).setMaster (by decide) (by decide) _⟩
  case change =>
    rw [setMaster_of_ne (by rw [flag_eq_true h]; decide), State.raise, fld_setFld_same _ _ _ (by decide)]
    rfl

/-- RELEASE on a master hands on its role. -/
theorem releaseMaster_of_master {s : State} (h : s.fld Reg.master = 1) : releaseMaster s = handOn s := if_pos (flag_eq_true h)

/-- RELEASE on a chip that is not master is ignored. -/
theorem releaseMaster_of_not_master {s : State} (h : s.fld Reg.master = 0) : releaseMaster s = s := by
  rw [releaseMaster, flag_eq_false h]
  rfl

/-- A master that is controller offers the controller role to the lowest IS9 of its tray. -/
theorem releaseMaster_offer_acts {s : State} {a : Nat} (hm : s.fld Reg.master = 1) (hc : s.fld Reg.controller = 1)
    (ht : lowestTarget s = some a) :
    (releaseMaster s).fld Reg.master = 0 ∧ (releaseMaster s).fld Reg.masterChange = 1 ∧ (releaseMaster s).host.handing = some a ∧
    (releaseMaster s).outbox = s.outbox ++ [.ccc "GETACCMST" [a]] ∧ (releaseMaster s).mem = s.mem ∧
    (releaseMaster s).links = s.links ∧ onlyRegs [Reg.master.off, Reg.masterChange.off] s (releaseMaster s) = true := by
  obtain ⟨hmaster, hchange, hwords⟩ := setMaster_false_acts hm
  rw [releaseMaster_of_master hm, handOn_of_target (flag_eq_true hc) ht]
  refine ⟨?master, ?change, rfl, by simp, by simp, by simp, ((hwords.modHost _).emit _).onlyRegs⟩
  case master => rw [fld_emit, fld_State_modHost, hmaster]
  case change => rw [fld_emit, fld_State_modHost, hchange]

/-- A master with nobody to offer the controller role to keeps that role. -/
theorem releaseMaster_alone_acts {s : State} (hm : s.fld Reg.master = 1) (h : s.fld Reg.controller = 0 ∨ lowestTarget s = none) :
    (releaseMaster s).fld Reg.master = 0 ∧ (releaseMaster s).fld Reg.masterChange = 1 ∧
    (releaseMaster s).fld Reg.controller = s.fld Reg.controller ∧ (releaseMaster s).outbox = s.outbox ∧
    (releaseMaster s).host = s.host ∧ (releaseMaster s).mem = s.mem ∧ (releaseMaster s).links = s.links ∧
    onlyRegs [Reg.master.off, Reg.masterChange.off, Reg.controller.off] s (releaseMaster s) = true := by
  obtain ⟨hmaster, hchange, -⟩ := setMaster_false_acts hm
  have hwords : WordsKept [Reg.master.off, Reg.masterChange.off, Reg.controller.off] s (setMaster false s) :=
    (WordsKept.refl s).setMaster (by decide) (by decide) _
  rw [releaseMaster_of_master hm, handOn_of_no_target (h.imp_left flag_eq_false)]
  exact ⟨hmaster, hchange, fld_setMaster_apart _ _ rfl rfl, setMaster_outbox _ _, setMaster_host _ _, setMaster_mem _ _,
    setMaster_links _ _, hwords.onlyRegs⟩

/-! The commands. -/

/-- A command whose condition holds goes on to the state that its function gives. -/
theorem next_if_pos {c : Prop} [Decidable c] {s t : State} (h : c) :
    (Host.Outcome.next (if c then t else s) : Host.Outcome State Fault Refusal) = .next t := by
  rw [if_pos h]

/-- Settles O55: each command is its function of the state, whose lemma gives what it writes, sends and leaves. -/
theorem trayBusActs : Obligations.TrayBusActs := by
  refine ⟨fun s driven hin hd hc ha => ⟨_, next_if_pos ⟨hin, hd, flag_eq_false hc, ha⟩, becomeController_acts s⟩,
    fun s hin hc ha => ⟨_, next_if_pos ⟨hin, flag_eq_false hc, ha⟩, becomeController_acts s⟩,
    ?daaTray, ?daaRack, ?daaClear, ?daaConflict, ?daaNotController,
    fun s tray hin => ⟨_, next_if_pos hin, resetAddress_acts tray s⟩,
    ?enec, ?disec, ?setmwl, ?setmrl,
    fun s tray hin ha => ⟨_, next_if_pos hin, answerCcc_acts _ ha⟩,
    fun s tray hin ha => ⟨_, next_if_pos hin, answerCcc_acts _ ha⟩,
    fun s tray hin ha => ⟨_, next_if_pos hin, answerCcc_acts _ ha⟩,
    fun s tray hin ha => ⟨_, next_if_pos hin, answerCcc_acts _ ha⟩,
    fun s tray hin ha => ⟨_, next_if_pos hin, answerCcc_acts _ ha⟩,
    fun s tray hin ha => ⟨_, next_if_pos hin, sendStatus_acts ha⟩,
    ?deftgts, ?accept, ?handedOver, ?timeout, ?hotJoin, ?release, ?releaseAlone, ?notMaster⟩
  case daaTray =>
    rintro s _ addr hin rfl ha
    exact ⟨_, next_if_pos hin, takeAddress_tray_acts s ha⟩
  case daaRack =>
    rintro s _ addr hin rfl ha
    exact ⟨_, next_if_pos hin, takeAddress_rack_acts s ha⟩
  case daaClear =>
    rintro s _ pids hin rfl hc hall
    have hclear : pids.any (fun p => decide (pidSlot p = some (mySlot s))) = false := by simpa using hall
    exact ⟨_, next_if_pos hin, enterDaa_of_controller hc ▸ runEntdaa_clear_acts pids s hclear⟩
  case daaConflict =>
    rintro s _ pids hin rfl hc hany
    exact ⟨_, next_if_pos hin, enterDaa_of_controller hc ▸ runEntdaa_conflict_acts pids s hany⟩
  case daaNotController =>
    rintro s _ pids hin rfl hc
    exact ⟨_, next_if_pos hin, enterDaa_of_not_controller hc⟩
  case enec => exact fun s tray events hin => ⟨_, next_if_pos hin, congrArg I3c.events (i3cPort_modI3c_same ..), rfl, rfl, rfl⟩
  case disec => exact fun s tray events hin => ⟨_, next_if_pos hin, congrArg I3c.events (i3cPort_modI3c_same ..), rfl, rfl, rfl⟩
  case setmwl =>
    intro s tray len hin
    have hport := i3cPort_modI3c_same s tray fun p => { p with mwl := len }
    exact ⟨_, next_if_pos hin, by rw [hport], by rw [hport], rfl, rfl, rfl⟩
  case setmrl =>
    intro s tray len hin
    have hport := i3cPort_modI3c_same s tray fun p => { p with mrl := len }
    exact ⟨_, next_if_pos hin, by rw [hport], by rw [hport], rfl, rfl, rfl⟩
  case deftgts =>
    exact fun s targets hin hc =>
      ⟨_, next_if_pos ⟨hin, flag_eq_false hc⟩, congrArg I3c.targets (i3cPort_modI3c_same ..), rfl, rfl, rfl⟩
  case accept =>
    rintro s _ hin rfl ha hm
    exact ⟨_, next_if_pos hin, handoff_of_eligible ha hm ▸ acceptRole_acts s⟩
  case handedOver =>
    rintro s _ a hin rfl ha
    exact ⟨_, next_if_pos hin, handoff_acknowledged ha ▸ roleHandedOver_acts s a⟩
  case timeout =>
    exact fun s hin hh => ⟨_, next_if_pos ⟨hin, hh⟩, fld_controller_roleGone s, rfl, fld_setFld_apart s 0 rfl, rfl, rfl,
      (wordsKept_roleGone s (by decide)).onlyRegs⟩
  case hotJoin =>
    intro s hin hc hev ha
    have hmay : mayHotJoin s = true := by simp only [mayHotJoin, hev, ha, Bool.not_false, Bool.and_self]
    exact ⟨_, next_if_pos ⟨hin, flag_eq_false hc, hmay⟩, rfl, rfl, rfl, rfl⟩
  case release => exact fun s a hin hm hc ht => ⟨_, next_if_pos hin, releaseMaster_offer_acts hm hc ht⟩
  case releaseAlone => exact fun s hin hm h => ⟨_, next_if_pos hin, releaseMaster_alone_acts hm h⟩
  case notMaster => exact fun s hin hm => ⟨_, next_if_pos hin, releaseMaster_of_not_master hm⟩

end Sys2Proof.Machine
end

section
/-! The frame of every command (R46, R203, R247, R263, R446), and the step that no command takes (R38). -/
namespace Sys2Proof.Machine

/-- Settles O2: the branch of `step` for an empty queue. -/
theorem idleStepTicks : Obligations.IdleStepTicks := by
  intro s hempty
  rw [step, hempty]

/-! Membership in a list of parts, as the permission that the laws of `Keeps` take. -/

theorem may_head (p : Part) (l : List Part) : May (· ∈ p :: l) p := ⟨List.mem_cons_self⟩

theorem may_tail (p q : Part) (l : List Part) [h : May (· ∈ l) p] : May (· ∈ q :: l) p := ⟨List.mem_cons_of_mem q h.may⟩

/-- A command that answers next keeps what a step keeps, and every part that `changes` does not list for it. The two facts about lists,
taken into the context, find each permission in the command's row of the table. -/
theorem keeps_exec {c : Instr} {s t : State} (h : exec c s = .next t) : Keeps (· ∈ changes c) s t := by
  have head := may_head
  have tail := may_tail
  cases c with simp only [changes]
  | powerOn => exact keeps_execPowerOn _ _ _ _ s (.rfl' s) h
  | inputLoss => exact keeps_execInputLoss _ s (.rfl' s) h
  | inputUndervoltage => exact keeps_execInputUndervoltage _ s (.rfl' s) h
  | inputOvervoltage => exact keeps_execInputOvervoltage _ s (.rfl' s) h
  | inputReclose => exact keeps_execInputReclose _ _ _ _ s (.rfl' s) h
  | resetRelease => exact keeps_execResetRelease _ s (.rfl' s) h
  | dozeIdleExpiry => exact keeps_execDozeIdleExpiry _ s (.rfl' s) h
  | darkIdleExpiry => exact keeps_execDarkIdleExpiry _ s (.rfl' s) h
  | unitWakeComplete => exact keeps_execUnitWakeComplete _ s (.rfl' s) h
  | rampGovernorTick => exact keeps_execRampGovernorTick _ _ _ _ s (.rfl' s) h
  | trayMasterElection => exact keeps_execTrayMasterElection _ s (.rfl' s) h
  | trayMasterLost => exact keeps_execTrayMasterLost _ s (.rfl' s) h
  | flitReceive => exact keeps_execFlitReceive _ _ s (.rfl' s) h
  | nakResendTimeout => exact keeps_execNakResendTimeout _ s (.rfl' s) h
  | retryLimitReached => exact keeps_execRetryLimitReached _ s (.rfl' s) h
  | laneOutOfLock => exact keeps_execLaneOutOfLock _ _ s (.rfl' s) h
  | egressFlitSlot => exact keeps_execEgressFlitSlot _ s (.rfl' s) h
  | fastRetrain => exact keeps_execFastRetrain _ s (.rfl' s) h
  | fastRetrainComplete => exact keeps_execFastRetrainComplete _ _ s (.rfl' s) h
  | fastRetrainFail => exact keeps_execFastRetrainFail _ s (.rfl' s) h
  | retrainRequestReceive => exact keeps_execRetrainRequestReceive _ s (.rfl' s) h
  | downMessageReceive => exact keeps_execDownMessageReceive _ _ s (.rfl' s) h
  | farEndDetected => exact keeps_execFarEndDetected _ s (.rfl' s) h
  | eqComplete => exact keeps_execEqComplete _ s (.rfl' s) h
  | alignComplete => exact keeps_execAlignComplete _ _ s (.rfl' s) h
  | cfgReceive => exact keeps_execCfgReceive _ _ s (.rfl' s) h
  | cfgResendTick => exact keeps_execCfgResendTick _ s (.rfl' s) h
  | configComplete => exact keeps_execConfigComplete _ s (.rfl' s) h
  | trainingTimeout => exact keeps_execTrainingTimeout _ s (.rfl' s) h
  | cartridgeInsert => exact keeps_execCartridgeInsert _ s (.rfl' s) h
  | hotplugDebounceExpiry => exact keeps_execHotplugDebounceExpiry _ s (.rfl' s) h
  | cartIdReadComplete => exact keeps_execCartIdReadComplete _ _ s (.rfl' s) h
  | cartIdTimeout => exact keeps_execCartIdTimeout _ s (.rfl' s) h
  | sitePowerGood => exact keeps_execSitePowerGood _ s (.rfl' s) h
  | cartridgeRemove => exact keeps_execCartridgeRemove _ s (.rfl' s) h
  | laneSubRequest => exact keeps_execLaneSubRequest _ _ s (.rfl' s) h
  | laneSubReceive => exact keeps_execLaneSubReceive _ _ s (.rfl' s) h
  | laneSubComma => exact keeps_execLaneSubComma _ s (.rfl' s) h
  | subWindowEnd => exact keeps_execSubWindowEnd _ s (.rfl' s) h
  | laneFailureNoSwing => exact keeps_execLaneFailureNoSwing _ _ s (.rfl' s) h
  | linkRetrain => exact keeps_execLinkRetrain _ s (.rfl' s) h
  | linkRetrainFull => exact keeps_execLinkRetrainFull _ s (.rfl' s) h
  | linkDisable => exact keeps_execLinkDisable _ s (.rfl' s) h
  | linkEnable => exact keeps_execLinkEnable _ s (.rfl' s) h
  | loopModeWrite => exact keeps_execLoopModeWrite _ _ _ s (.rfl' s) h
  | farLoopRequest => exact keeps_execFarLoopRequest _ _ s (.rfl' s) h
  | frameIngress => exact keeps_execFrameIngress _ s (.rfl' s) h
  | fenceRelease => exact keeps_execFenceRelease _ s (.rfl' s) h
  | frameAgeExpiry => exact keeps_execFrameAgeExpiry _ _ s (.rfl' s) h
  | portGraceExpiry => exact keeps_execPortGraceExpiry _ s (.rfl' s) h
  | escapeWaitExpiry => exact keeps_execEscapeWaitExpiry _ s (.rfl' s) h
  | sprayHoldExpiry => exact keeps_execSprayHoldExpiry _ _ _ _ s (.rfl' s) h
  | sprayStreamExpiry => exact keeps_execSprayStreamExpiry _ _ _ s (.rfl' s) h
  | actSeal => exact keeps_execActSeal _ s (.rfl' s) h
  | actArm => exact keeps_execActArm _ s (.rfl' s) h
  | actRetire => exact keeps_execActRetire _ s (.rfl' s) h
  | actRetireTimer => exact keeps_execActRetireTimer _ s (.rfl' s) h
  | e2eTimeoutExpiry => exact keeps_execE2eTimeoutExpiry _ s (.rfl' s) h
  | responseReceive => exact keeps_execResponseReceive _ s (.rfl' s) h
  | circuitNoticeReceive => exact keeps_execCircuitNoticeReceive _ s (.rfl' s) h
  | pmicPowerGood => exact keeps_execPmicPowerGood _ _ s (.rfl' s) h
  | pmicTimeout => exact keeps_execPmicTimeout _ _ s (.rfl' s) h
  | channelTrainingComplete => exact keeps_execChannelTrainingComplete _ _ s (.rfl' s) h
  | memSetWrite => exact keeps_execMemSetWrite _ _ s (.rfl' s) h
  | setZeroingComplete => exact keeps_execSetZeroingComplete _ s (.rfl' s) h
  | poolRequest => exact keeps_execPoolRequest _ _ s (.rfl' s) h
  | mirrorWriteReceive => exact keeps_execMirrorWriteReceive _ s (.rfl' s) h
  | mirrorAckReceive => exact keeps_execMirrorAckReceive _ s (.rfl' s) h
  | mirrorSyncStart => exact keeps_execMirrorSyncStart _ s (.rfl' s) h
  | mirrorSyncComplete => exact keeps_execMirrorSyncComplete _ s (.rfl' s) h
  | mirrorOff => exact keeps_execMirrorOff _ s (.rfl' s) h
  | windowEnable => exact keeps_execWindowEnable _ _ s (.rfl' s) h
  | ddrScrubLine => exact keeps_execDdrScrubLine _ _ _ s (.rfl' s) h
  | scrubWake => exact keeps_execScrubWake _ s (.rfl' s) h
  | deviceMark => exact keeps_execDeviceMark _ _ _ s (.rfl' s) h
  | channelStrike => exact keeps_execChannelStrike _ s (.rfl' s) h
  | channelReturn => exact keeps_execChannelReturn _ s (.rfl' s) h
  | channelFail => exact keeps_execChannelFail _ _ s (.rfl' s) h
  | hostMemAccess => exact keeps_execHostMemAccess _ _ _ _ _ s (.rfl' s) h
  | hdmCommit => exact keeps_execHdmCommit _ _ _ _ _ _ s (.rfl' s) h
  | tileSwingCmd => exact keeps_execTileSwingCmd _ s (.rfl' s) h
  | tileRetireCmd => exact keeps_execTileRetireCmd _ s (.rfl' s) h
  | tileReturnCmd => exact keeps_execTileReturnCmd _ s (.rfl' s) h
  | tileReloadThreshold => exact keeps_execTileReloadThreshold _ s (.rfl' s) h
  | rowSwing => exact keeps_execRowSwing _ s (.rfl' s) h
  | scratchpadRequest => exact keeps_execScratchpadRequest _ _ s (.rfl' s) h
  | spScrub => exact keeps_execSpScrub _ _ s (.rfl' s) h
  | rangeZeroingComplete => exact keeps_execRangeZeroingComplete _ s (.rfl' s) h
  | tensorInstructionComplete => exact keeps_execTensorInstructionComplete _ _ s (.rfl' s) h
  | tensorLateFault => exact keeps_execTensorLateFault _ _ s (.rfl' s) h
  | programLoad => exact keeps_execProgramLoad _ s (.rfl' s) h
  | programUnload => exact keeps_execProgramUnload _ s (.rfl' s) h
  | cueStoreHostWrite => exact keeps_execCueStoreHostWrite _ _ s (.rfl' s) h
  | cueStoreRequest => exact keeps_execCueStoreRequest _ s (.rfl' s) h
  | statusPageRequest => exact keeps_execStatusPageRequest _ s (.rfl' s) h
  | triggerEnable => exact keeps_execTriggerEnable _ _ s (.rfl' s) h
  | timerFire => exact keeps_execTimerFire _ s (.rfl' s) h
  | contextStart => exact keeps_execContextStart _ s (.rfl' s) h
  | seqKill => exact keeps_execSeqKill _ s (.rfl' s) h
  | seqDisable => exact keeps_execSeqDisable _ _ s (.rfl' s) h
  | counterClear => exact keeps_execCounterClear _ s (.rfl' s) h
  | quarantineComplete => exact keeps_execQuarantineComplete _ s (.rfl' s) h
  | nop => exact keeps_execNop _ s (.rfl' s) h
  | bra => exact keeps_execBra _ s (.rfl' s) h
  | brc => exact keeps_execBrc _ s (.rfl' s) h
  | callTo => exact keeps_execCallTo _ s (.rfl' s) h
  | ret => exact keeps_execRet _ s (.rfl' s) h
  | waitcSettled => exact keeps_execWaitcSettled _ s (.rfl' s) h
  | waitcProgress => exact keeps_execWaitcProgress _ s (.rfl' s) h
  | waitcSettledClear => exact keeps_execWaitcSettledClear _ s (.rfl' s) h
  | waitcTimeout => exact keeps_execWaitcTimeout _ s (.rfl' s) h
  | sigc => exact keeps_execSigc _ s (.rfl' s) h
  | dozeSelf => exact keeps_execDozeSelf _ s (.rfl' s) h
  | dozeSelfCtr => exact keeps_execDozeSelfCtr _ s (.rfl' s) h
  | dozeWake => exact keeps_execDozeWake _ s (.rfl' s) h
  | dozeTiles => exact keeps_execDozeTiles _ s (.rfl' s) h
  | dozeEngines => exact keeps_execDozeEngines _ s (.rfl' s) h
  | fence => exact keeps_execFence _ s (.rfl' s) h
  | trap => exact keeps_execTrap _ s (.rfl' s) h
  | halt => exact keeps_execHalt _ s (.rfl' s) h
  | adds => exact keeps_execAdds _ s (.rfl' s) h
  | subs => exact keeps_execSubs _ s (.rfl' s) h
  | muls => exact keeps_execMuls _ s (.rfl' s) h
  | ands => exact keeps_execAnds _ s (.rfl' s) h
  | ors => exact keeps_execOrs _ s (.rfl' s) h
  | xors => exact keeps_execXors _ s (.rfl' s) h
  | shls => exact keeps_execShls _ s (.rfl' s) h
  | shrs => exact keeps_execShrs _ s (.rfl' s) h
  | ldis => exact keeps_execLdis _ s (.rfl' s) h
  | movs => exact keeps_execMovs _ s (.rfl' s) h
  | cmps => exact keeps_execCmps _ s (.rfl' s) h
  | lds => exact keeps_execLds _ s (.rfl' s) h
  | sts => exact keeps_execSts _ s (.rfl' s) h
  | dset => exact keeps_execDset _ s (.rfl' s) h
  | dadd => exact keeps_execDadd _ s (.rfl' s) h
  | dcopyReg => exact keeps_execDcopyReg _ s (.rfl' s) h
  | dcopyLoad => exact keeps_execDcopyLoad _ s (.rfl' s) h
  | dcopyStore => exact keeps_execDcopyStore _ s (.rfl' s) h
  | pfetch => exact keeps_execPfetch _ s (.rfl' s) h
  | pspill => exact keeps_execPspill _ s (.rfl' s) h
  | alloc => exact keeps_execAlloc _ s (.rfl' s) h
  | freeI => exact keeps_execFreeI _ s (.rfl' s) h
  | mma => exact keeps_execMma _ s (.rfl' s) h
  | mmas => exact keeps_execMmas _ s (.rfl' s) h
  | mmag => exact keeps_execMmag _ s (.rfl' s) h
  | ewa => exact keeps_execEwa _ s (.rfl' s) h
  | ewf => exact keeps_execEwf _ s (.rfl' s) h
  | red => exact keeps_execRed _ s (.rfl' s) h
  | norm => exact keeps_execNorm _ s (.rfl' s) h
  | smax => exact keeps_execSmax _ s (.rfl' s) h
  | topk => exact keeps_execTopk _ s (.rfl' s) h
  | gate => exact keeps_execGate _ s (.rfl' s) h
  | qnt => exact keeps_execQnt _ s (.rfl' s) h
  | cvt => exact keeps_execCvt _ s (.rfl' s) h
  | copy => exact keeps_execCopy _ s (.rfl' s) h
  | gatheri => exact keeps_execGatheri _ s (.rfl' s) h
  | sample => exact keeps_execSample _ s (.rfl' s) h
  | cueReduce => exact keeps_execCueReduce _ s (.rfl' s) h
  | cueScatter => exact keeps_execCueScatter _ s (.rfl' s) h
  | cueGather => exact keeps_execCueGather _ s (.rfl' s) h
  | cueExchange => exact keeps_execCueExchange _ s (.rfl' s) h
  | cueRoute => exact keeps_execCueRoute _ s (.rfl' s) h
  | cueMerge => exact keeps_execCueMerge _ s (.rfl' s) h
  | cueBroadcast => exact keeps_execCueBroadcast _ s (.rfl' s) h
  | cueSelect => exact keeps_execCueSelect _ s (.rfl' s) h
  | curtain => exact keeps_execCurtain _ s (.rfl' s) h
  | aside => exact keeps_execAside _ s (.rfl' s) h
  | groupWordHold => exact keeps_execGroupWordHold _ _ _ s (.rfl' s) h
  | groupCommit => exact keeps_execGroupCommit _ _ s (.rfl' s) h
  | colContribReceive => exact keeps_execColContribReceive _ s (.rfl' s) h
  | colResultReceive => exact keeps_execColResultReceive _ s (.rfl' s) h
  | retractReceive => exact keeps_execRetractReceive _ s (.rfl' s) h
  | verifiedReceive => exact keeps_execVerifiedReceive _ s (.rfl' s) h
  | releaseReceive => exact keeps_execReleaseReceive _ s (.rfl' s) h
  | countReceive => exact keeps_execCountReceive _ s (.rfl' s) h
  | chunkSum => exact keeps_execChunkSum _ _ _ s (.rfl' s) h
  | chunkVerdict => exact keeps_execChunkVerdict _ _ _ _ _ s (.rfl' s) h
  | adderLaneSwing => exact keeps_execAdderLaneSwing _ _ s (.rfl' s) h
  | groupTimeout => exact keeps_execGroupTimeout _ s (.rfl' s) h
  | asideReceive => exact keeps_execAsideReceive _ s (.rfl' s) h
  | abortNoticeReceive => exact keeps_execAbortNoticeReceive _ s (.rfl' s) h
  | intakeInput => exact keeps_execIntakeInput _ s (.rfl' s) h
  | stageWrite => exact keeps_execStageWrite _ _ _ _ _ s (.rfl' s) h
  | prompterHeartbeat => exact keeps_execPrompterHeartbeat _ s (.rfl' s) h
  | heartbeatWindowEnd => exact keeps_execHeartbeatWindowEnd _ s (.rfl' s) h
  | prompterFatal => exact keeps_execPrompterFatal _ _ s (.rfl' s) h
  | prompterRailDrop => exact keeps_execPrompterRailDrop _ _ s (.rfl' s) h
  | prompterJoin => exact keeps_execPrompterJoin _ _ _ s (.rfl' s) h
  | prompterResetRelease => exact keeps_execPrompterResetRelease _ s (.rfl' s) h
  | prompterRelease => exact keeps_execPrompterRelease _ s (.rfl' s) h
  | checkpointComplete => exact keeps_execCheckpointComplete _ s (.rfl' s) h
  | checkpointAdopt => exact keeps_execCheckpointAdopt _ s (.rfl' s) h
  | mailboxHostSend => exact keeps_execMailboxHostSend _ _ s (.rfl' s) h
  | mailboxHostPop => exact keeps_execMailboxHostPop _ s (.rfl' s) h
  | mailboxMsgReceive => exact keeps_execMailboxMsgReceive _ s (.rfl' s) h
  | mailboxNoticeReceive => exact keeps_execMailboxNoticeReceive _ s (.rfl' s) h
  | mailboxResendTimeout => exact keeps_execMailboxResendTimeout _ _ s (.rfl' s) h
  | mgmtUnsupported => exact keeps_execMgmtUnsupported _ s (.rfl' s) h
  | semReadAcquire => exact keeps_execSemReadAcquire _ s (.rfl' s) h
  | semAcq => exact keeps_execSemAcq _ s (.rfl' s) h
  | semHostRelease => exact keeps_execSemHostRelease _ s (.rfl' s) h
  | semRel => exact keeps_execSemRel _ s (.rfl' s) h
  | semForce => exact keeps_execSemForce _ s (.rfl' s) h
  | railPowerGood => exact keeps_execRailPowerGood _ s (.rfl' s) h
  | railTimeout => exact keeps_execRailTimeout _ s (.rfl' s) h
  | flowGraceExpiry => exact keeps_execFlowGraceExpiry _ s (.rfl' s) h
  | diodeSample => exact keeps_execDiodeSample _ s (.rfl' s) h
  | thermalLevelFall => exact keeps_execThermalLevelFall _ s (.rfl' s) h
  | diodeCheck => exact keeps_execDiodeCheck _ s (.rfl' s) h
  | coldPlateSample => exact keeps_execColdPlateSample _ _ s (.rfl' s) h
  | leakTest => exact keeps_execLeakTest _ _ s (.rfl' s) h
  | ironClear => exact keeps_execIronClear _ s (.rfl' s) h
  | capsuleReceive => exact keeps_execCapsuleReceive _ _ s (.rfl' s) h
  | counterStoreComplete => exact keeps_execCounterStoreComplete _ s (.rfl' s) h
  | authHoldExpiry => exact keeps_execAuthHoldExpiry _ s (.rfl' s) h
  | fwWindowWrite => exact keeps_execFwWindowWrite _ _ s (.rfl' s) h
  | spdmGetCertificate => exact keeps_execSpdmGetCertificate _ _ _ _ s (.rfl' s) h
  | spdmGetMeasurements => exact keeps_execSpdmGetMeasurements _ _ _ _ s (.rfl' s) h
  | hostLinkUp => exact keeps_execHostLinkUp _ _ _ s (.rfl' s) h
  | getEventRecords => exact keeps_execGetEventRecords _ s (.rfl' s) h
  | clearEventRecords => exact keeps_execClearEventRecords _ _ s (.rfl' s) h
  | setEventInterruptPolicy => exact keeps_execSetEventInterruptPolicy _ s (.rfl' s) h
  | doorbellHostRing => exact keeps_execDoorbellHostRing _ _ s (.rfl' s) h
  | doorbellFrame => exact keeps_execDoorbellFrame _ s (.rfl' s) h
  | controllerClaim => exact keeps_execControllerClaim _ s (.rfl' s) h
  | entdaa => exact keeps_execEntdaa _ s (.rfl' s) h
  | rstdaa => exact keeps_execRstdaa _ s (.rfl' s) h
  | enec => exact keeps_execEnec _ _ s (.rfl' s) h
  | disec => exact keeps_execDisec _ _ s (.rfl' s) h
  | setmwl => exact keeps_execSetmwl _ _ s (.rfl' s) h
  | setmrl => exact keeps_execSetmrl _ _ s (.rfl' s) h
  | deftgts => exact keeps_execDeftgts _ s (.rfl' s) h
  | setEndpointId => exact keeps_execSetEndpointId _ _ _ s (.rfl' s) h
  | fwData => exact keeps_execFwData _ _ _ s (.rfl' s) h
  | regRead => exact keeps_execRegRead _ _ _ s (.rfl' s) h
  | regWrite => exact keeps_execRegWrite _ _ _ s (.rfl' s) h
  | heartbeat => exact keeps_execHeartbeat _ s (.rfl' s) h
  | alertMergeExpiry => exact keeps_execAlertMergeExpiry _ s (.rfl' s) h
  | coordAssign => exact keeps_execCoordAssign _ s (.rfl' s) h
  | rehearsalTimer => exact keeps_execRehearsalTimer _ s (.rfl' s) h
  | sliceEnd => exact keeps_execSliceEnd _ _ s (.rfl' s) h
  | pmcCounterWrite => exact keeps_execPmcCounterWrite _ _ s (.rfl' s) h
  | pmcReadFrame => exact keeps_execPmcReadFrame _ s (.rfl' s) h
  | registerWrite => exact keeps_execRegisterWrite _ _ s (.rfl' s) h
  | spdmGetVersion => exact keeps_execSpdmGetVersion _ _ s (.rfl' s) h
  | spdmGetCapabilities => exact keeps_execSpdmGetCapabilities _ _ s (.rfl' s) h
  | spdmNegotiateAlgorithms => exact keeps_execSpdmNegotiateAlgorithms _ _ s (.rfl' s) h
  | spdmGetDigests => exact keeps_execSpdmGetDigests _ _ s (.rfl' s) h
  | spdmUnsupported => exact keeps_execSpdmUnsupported _ _ s (.rfl' s) h
  | mailboxCmdUnsupported => exact keeps_execMailboxCmdUnsupported _ s (.rfl' s) h
  | getpid => exact keeps_execGetpid _ s (.rfl' s) h
  | getbcr => exact keeps_execGetbcr _ s (.rfl' s) h
  | getdcr => exact keeps_execGetdcr _ s (.rfl' s) h
  | getstatus => exact keeps_execGetstatus _ s (.rfl' s) h
  | getmwl => exact keeps_execGetmwl _ s (.rfl' s) h
  | getmrl => exact keeps_execGetmrl _ s (.rfl' s) h
  | getaccmst => exact keeps_execGetaccmst _ s (.rfl' s) h
  | getEndpointId => exact keeps_execGetEndpointId _ s (.rfl' s) h
  | getMctpVersionSupport => exact keeps_execGetMctpVersionSupport _ s (.rfl' s) h
  | getMessageTypeSupport => exact keeps_execGetMessageTypeSupport _ s (.rfl' s) h
  | getVendorMessageSupport => exact keeps_execGetVendorMessageSupport _ s (.rfl' s) h
  | getRoutingTableEntries => exact keeps_execGetRoutingTableEntries _ s (.rfl' s) h
  | vendorBad => exact keeps_execVendorBad _ _ s (.rfl' s) h
  | overvoltageExcursionExpiry => exact keeps_execOvervoltageExcursionExpiry s (.rfl' s) h
  | chipReset => exact keeps_execChipReset s (.rfl' s) h
  | houseClkLoss => exact keeps_execHouseClkLoss s (.rfl' s) h
  | houseClkReturn => exact keeps_execHouseClkReturn s (.rfl' s) h
  | houseClkHoldoverExpiry => exact keeps_execHouseClkHoldoverExpiry s (.rfl' s) h
  | reorderDisable => exact keeps_execReorderDisable s (.rfl' s) h
  | clearStaged => exact keeps_execClearStaged s (.rfl' s) h
  | planCommit => exact keeps_execPlanCommit s (.rfl' s) h
  | actSwap => exact keeps_execActSwap s (.rfl' s) h
  | filterMoveComplete => exact keeps_execFilterMoveComplete s (.rfl' s) h
  | programLoadComplete => exact keeps_execProgramLoadComplete s (.rfl' s) h
  | handover => exact keeps_execHandover s (.rfl' s) h
  | checkpointStart => exact keeps_execCheckpointStart s (.rfl' s) h
  | checkpointAbandon => exact keeps_execCheckpointAbandon s (.rfl' s) h
  | powerOrderOff => exact keeps_execPowerOrderOff s (.rfl' s) h
  | powerOrderOn => exact keeps_execPowerOrderOn s (.rfl' s) h
  | powerOrderCap => exact keeps_execPowerOrderCap s (.rfl' s) h
  | powerOrderHold => exact keeps_execPowerOrderHold s (.rfl' s) h
  | powerOrderRelease => exact keeps_execPowerOrderRelease s (.rfl' s) h
  | trayGrant => exact keeps_execTrayGrant s (.rfl' s) h
  | grantTimeout => exact keeps_execGrantTimeout s (.rfl' s) h
  | diePowerUp => exact keeps_execDiePowerUp s (.rfl' s) h
  | diePowerDown => exact keeps_execDiePowerDown s (.rfl' s) h
  | pwrWarnFall => exact keeps_execPwrWarnFall s (.rfl' s) h
  | pwrWarnClear => exact keeps_execPwrWarnClear s (.rfl' s) h
  | flowLoss => exact keeps_execFlowLoss s (.rfl' s) h
  | flowClear => exact keeps_execFlowClear s (.rfl' s) h
  | ghostLightHoldExpiry => exact keeps_execGhostLightHoldExpiry s (.rfl' s) h
  | rmHeartbeatTimeout => exact keeps_execRmHeartbeatTimeout s (.rfl' s) h
  | rmFallback => exact keeps_execRmFallback s (.rfl' s) h
  | leakWet => exact keeps_execLeakWet s (.rfl' s) h
  | leakGraceExpiry => exact keeps_execLeakGraceExpiry s (.rfl' s) h
  | ironTrip => exact keeps_execIronTrip s (.rfl' s) h
  | leakClear => exact keeps_execLeakClear s (.rfl' s) h
  | diodesClear => exact keeps_execDiodesClear s (.rfl' s) h
  | safetyConfig => exact keeps_execSafetyConfig s (.rfl' s) h
  | keyInstall => exact keeps_execKeyInstall s (.rfl' s) h
  | keyClear => exact keeps_execKeyClear s (.rfl' s) h
  | fwUpdateOpen => exact keeps_execFwUpdateOpen s (.rfl' s) h
  | fwUpdateVerify => exact keeps_execFwUpdateVerify s (.rfl' s) h
  | fwUpdateActivate => exact keeps_execFwUpdateActivate s (.rfl' s) h
  | fwUpdateRaiseSvn => exact keeps_execFwUpdateRaiseSvn s (.rfl' s) h
  | fwUpdateAbort => exact keeps_execFwUpdateAbort s (.rfl' s) h
  | bootVerify => exact keeps_execBootVerify s (.rfl' s) h
  | hostLinkDown => exact keeps_execHostLinkDown s (.rfl' s) h
  | perstAssert => exact keeps_execPerstAssert s (.rfl' s) h
  | getEventInterruptPolicy => exact keeps_execGetEventInterruptPolicy s (.rfl' s) h
  | getFwInfo => exact keeps_execGetFwInfo s (.rfl' s) h
  | getSupportedLogs => exact keeps_execGetSupportedLogs s (.rfl' s) h
  | getLog => exact keeps_execGetLog s (.rfl' s) h
  | identifyMemoryDevice => exact keeps_execIdentifyMemoryDevice s (.rfl' s) h
  | getPartitionInfo => exact keeps_execGetPartitionInfo s (.rfl' s) h
  | getHealthInfo => exact keeps_execGetHealthInfo s (.rfl' s) h
  | hotJoin => exact keeps_execHotJoin s (.rfl' s) h
  | controllerLost => exact keeps_execControllerLost s (.rfl' s) h
  | handoffTimeout => exact keeps_execHandoffTimeout s (.rfl' s) h
  | trayMasterRelease => exact keeps_execTrayMasterRelease s (.rfl' s) h
  | strikeStart => exact keeps_execStrikeStart s (.rfl' s) h
  | strikeDrainEnd => exact keeps_execStrikeDrainEnd s (.rfl' s) h
  | strikeCancel => exact keeps_execStrikeCancel s (.rfl' s) h
  | strikeReturn => exact keeps_execStrikeReturn s (.rfl' s) h
  | inventoryTick => exact keeps_execInventoryTick s (.rfl' s) h
  | fusePass => exact keeps_execFusePass s (.rfl' s) h
  | fusePassComplete => exact keeps_execFusePassComplete s (.rfl' s) h
  | pmcMirrorTick => exact keeps_execPmcMirrorTick s (.rfl' s) h
  | diePowerDownComplete => exact keeps_execDiePowerDownComplete s (.rfl' s) h
  | staggerGrant => exact keeps_execStaggerGrant s (.rfl' s) h

/-- Settles O6: a byte memory is a part of its own, so the bytes are the parts' case of the frame. -/
theorem effectsStayInTheirParts : Obligations.EffectsStayInTheirParts := by
  intro c s t h
  have hframe : ∀ p, p ∉ changes c → p.same s t := (keeps_exec h).same
  refine ⟨hframe, fun hdram a => ?dram, fun hsp a => ?sp, fun hstore a => ?store⟩
  case dram =>
    have hbytes : t.mem.dram = s.mem.dram := hframe .dram hdram
    rw [hbytes]
  case sp =>
    have hbytes : t.ten.sp = s.ten.sp := hframe .sp hsp
    rw [spByte, spByte, hbytes]
  case store =>
    have hbytes : t.cue.store = s.cue.store := hframe .store hstore
    rw [hbytes]

end Sys2Proof.Machine
end

section
/-! States in which the statements about the power stage, about clocks and sleep and about programs fail; the statements speak of every
state. In the first two the repair log names a channel, and a waiting fire of rehearsal a wing, that the module does not have, so that the
model writes the register of INV that lies where theirs would; a module that keeps to its own elements is not such a state. The third is
an ordinary load. -/
namespace Sys2Proof.Machine

/-- A command answers at most one next state. -/
theorem next_unique {o : Host.Outcome State Fault Refusal} {s t : State} (hs : o = .next s) (ht : o = .next t) : t = s :=
  Host.Outcome.next.inj (ht.symm.trans hs)

/-! The power stage (R510, R521). -/

/-- A module without input whose repair log, which flash holds, names the PHY of channel 5FF0h in its first entry, RETIRED (3). -/
def channelBeyondLogged : State :=
  { ((State.reset.setFld (Reg.repairCls 0) clsDdrPhy).setFld (Reg.repairElem 0) 0x5FF0).setFld (Reg.repairState 0) 3 with
    house := { House.init with input := false } }

/-- The log marks that channel FAILED (4). Its status register would be the word of the straps, where this clears the slot that was
sampled as 1. -/
theorem slot_powerOn_channelBeyondLogged : (powerOn 32000 (1 : Fin 4) true true channelBeyondLogged).fld Reg.slot = 0 := by
  decide +kernel

/-- Input that rises into its range starts the module (R521). -/
theorem execPowerOn_of_rise {s : State} {mv : Nat} {slot : Fin 4} {ironHigh flowOk : Bool} (hin : s.house.input = false)
    (hswitch : s.house.switchOpen = false) (hlow : 32000 ≤ mv) (hhigh : mv ≤ maxInput) :
    execPowerOn mv slot ironHigh flowOk s = .next (powerOn mv slot ironHigh flowOk s) := by
  rw [execPowerOn, if_neg (Nat.not_lt.mpr hhigh), if_pos ⟨hin, hswitch, hlow⟩]

/-- Refutes O15: at power-on the repair log of `channelBeyondLogged` overwrites the sampled slot. -/
theorem not_powerStageActs : ¬ Obligations.PowerStageActs := by
  rintro ⟨hpowerOn, -⟩
  obtain ⟨t, ht, -, -, hslot, -⟩ := hpowerOn channelBeyondLogged 32000 1 true true rfl rfl (by decide) (by decide)
  rw [next_unique (execPowerOn_of_rise rfl rfl (by decide) (by decide)) ht, slot_powerOn_channelBeyondLogged] at hslot
  exact absurd hslot (by decide)

/-! The end of the holdover (R41, R292, R416, R499). -/

/-- A function that leaves the state at every entry of a list leaves it along the list. -/
theorem forEach_eq_self {α : Type} {f : α → State → State} {l : List α} {s : State} (h : ∀ a ∈ l, f a s = s) : forEach f l s = s := by
  induction l with
  | nil => rfl
  | cons a l ih => rw [forEach, h a List.mem_cons_self, ih fun b hb => h b (List.mem_cons_of_mem a hb)]

/-- Without a pending fire none is discarded. -/
theorem discardFires_eq_self {s : State} (h : ∀ t ∈ List.range 1024, s.flag (Reg.trigPending t) = false) : discardFires s = s :=
  forEach_eq_self fun t ht => if_neg (by rw [h t ht]; decide)

/-- Units that are Dark or Off stay as they are. -/
theorem forceDark_eq_self {us : List UnitId} {s : State} (h : ∀ u ∈ us, 2 ≤ unitState s u) : forEach forceDark us s = s :=
  forEach_eq_self fun u hu => if_pos (h u hu)

/-- A powered module whose units are all Dark, with CFG_ERR of INV set, without HOUSE_CLK, in which a fire of wing 3FFE9h
waits for its slice. -/
def wingBeyondWaits : State :=
  { forEach (fun j s => s.setWord ((Reg.tileState 0).off + 8 * j) 0xAAAAAAAAAAAAAAAA) (List.range 12)
      ((State.reset.setFld Reg.pwrDie dieOn).setFld Reg.invCfgErr 1) with
    house := { House.init with clkPresent := false }
    rhs := { Rehearsal.init with waitingFires := [0x3FFE9] } }

/-- `wingBeyondWaits` with CLOCK_LOST raised, its links down and its crossings and contexts gone. -/
def linksFallen : State :=
  dropContexts (abortCrossings (portsOff causeDisabled .other (wingBeyondWaits.raise Reg.clockLost)))

/-- `linksFallen` with its rehearsal and its wakes gone, before the units go Dark. -/
def sliceless : State :=
  let s := abandonAllSlices linksFallen
  { (s.modPower (fun p => { p with loadTiles := [] })) with waking := s.waking.filter (fun u => !(stopped u)) }

/-- No fire is pending in `linksFallen` and no unit of `sliceless` runs, so of stopping work only these steps are left. -/
theorem stopWork_wingBeyondWaits :
    stopWork (portsOff causeDisabled .other (wingBeyondWaits.raise Reg.clockLost)) = (retiredOff sliceless).setFld Reg.memOpen 0 := by
  have hfires : discardFires linksFallen = linksFallen := discardFires_eq_self (by decide +kernel)
  have hdark : forEach forceDark (allTiles ++ allEngines ++ allSeqs ++ allDdr) (retiredOff sliceless) = retiredOff sliceless :=
    forceDark_eq_self (by decide +kernel)
  rw [stopWork, ← linksFallen, hfires]
  exact congrArg (State.setFld · Reg.memOpen 0) hdark

/-- The first link that goes down lets the waiting fire start its slice. Its wing's register would be the word of INV_EVENT: the start moves the
pointer there from 3, CFG_ERR and CLOCK_LOST, to 4. -/
theorem clockLost_startPowerDown_wingBeyondWaits :
    (startPowerDown offClockLost (wingBeyondWaits.raise Reg.clockLost)).fld Reg.clockLost = 0 := by
  rw [startPowerDown, stopWork_wingBeyondWaits]
  decide +kernel

/-- Refutes O16: in `wingBeyondWaits` the power-down overwrites the CLOCK_LOST that it was started with. -/
theorem not_clockAndSleepAct : ¬ Obligations.ClockAndSleepAct := by
  rintro ⟨-, -, hholdover, -⟩
  obtain ⟨t, ht, hlost, -⟩ := hholdover wingBeyondWaits rfl rfl (by decide +kernel)
  have hexec : exec .houseClkHoldoverExpiry wingBeyondWaits =
      .next (startPowerDown offClockLost (wingBeyondWaits.raise Reg.clockLost)) :=
    (next_if_pos ⟨rfl, rfl⟩).trans (congrArg _ (if_pos (by decide +kernel)))
  rw [next_unique hexec ht, clockLost_startPowerDown_wingBeyondWaits] at hlost
  exact absurd hlost (by decide)

/-! Program loads (R262). -/

/-- An image of one instruction and no trigger, with a footprint of one byte in wing 0 (Table 09-3). -/
def smallImage : List Byte := leBytes 4 0x39455543 ++ leBytes 2 1 ++ leBytes 2 0 ++ leBytes 4 1 ++ leBytes 4 0 ++ leBytes 4 1

/-- A running module whose cue store holds `smallImage` at 0. -/
def imageStored : State :=
  (State.reset.setFld Reg.pwrDie dieOn).modCue fun k => { k with store := Tab.setRange (fun _ => 0) [] 0 smallImage }

/-- The load places the footprint at 0, and the word of the program's base register for wing 0 shows it, which read FFFF_FFFFh. -/
theorem progBase_loadProgram_imageStored :
    imageStored.word (Reg.progBase 0 0).off = 0xFFFFFFFF ∧ (loadProgram 0 imageStored).word (Reg.progBase 0 0).off = 0 := by
  decide +kernel

/-- A key that a table does not list reads as such keys do. -/
theorem Tab.get_of_unlisted {α : Type} (d : Nat → α) {t : Tab α} {k : Nat} (h : ∀ e ∈ t, e.1 ≠ k) : Tab.get d t k = d k := by
  induction t with
  | nil => rfl
  | cons e t ih =>
    rw [Tab.get, if_neg (h e List.mem_cons_self)]
    exact ih fun e' he' => h e' (List.mem_cons_of_mem e he')

/-- What `onlyRegs` says of a word that is neither named nor one of chapter 17: it reads as it read. -/
theorem word_eq_of_onlyRegs {offs : List Nat} {s t : State} (h : onlyRegs offs s t = true) (hcode : t.code = s.code) {b : Nat}
    (hoffs : b ∉ offs) (hpmc : ¬ (0x300000 ≤ b ∧ b < 0x400000)) : t.word b = s.word b := by
  rw [onlyRegs, List.all_eq_true] at h
  by_cases hlisted : ∃ e ∈ s.regs ++ t.regs, e.1 = b
  · obtain ⟨e, he, rfl⟩ := hlisted
    simpa [hoffs, hpmc] using h e he
  · simp only [List.mem_append, not_exists, not_and] at hlisted
    rw [State.word, State.word, hcode, Tab.get_of_unlisted _ fun e he => hlisted e (.inr he),
      Tab.get_of_unlisted _ fun e he => hlisted e (.inl he)]

/-- Refutes O36: the load of the image in `imageStored` writes a base register of its program, which the clause of a load that passes
does not name. -/
theorem not_programsAndTriggersAct : ¬ Obligations.ProgramsAndTriggersAct := by
  rintro ⟨hload, -⟩
  have hlive : linksLive imageStored = true := by decide +kernel
  obtain ⟨t, ht, -, -, -, -, -, -, honly⟩ :=
    hload imageStored 0 0 hlive (by decide +kernel) (by decide +kernel) (by decide +kernel)
  have hkept : t.word (Reg.progBase 0 0).off = imageStored.word (Reg.progBase 0 0).off :=
    word_eq_of_onlyRegs honly (keeps_exec ht).code (by decide) (by decide)
  obtain ⟨hbefore, hafter⟩ := progBase_loadProgram_imageStored
  rw [next_unique (next_if_pos hlive) ht, hbefore, hafter] at hkept
  exact absurd hkept (by decide)

end Sys2Proof.Machine
end

section
/-! How received frames are checked and delivered, how frames wait, age and leave, and how a port grace ends (R109, R117, R120, R125, R128,
R129, R134). -/
namespace Sys2Proof.Machine

/-! The switch core's operations. -/

@[simp] theorem link_modLink_same (s : State) (l : Nat) (g : Link → Link) : (s.modLink l g).link l = g (s.link l) :=
  Tab.get_set_same _ _ _ _

theorem link_modLink_ne (s : State) {l k : Nat} (g : Link → Link) (h : k ≠ l) : (s.modLink l g).link k = s.link k :=
  Tab.get_set_ne _ _ _ _ _ h

/-- What an update of one link leaves of that link, it leaves of every link. -/
theorem link_modLink_kept {α : Type} {p : Link → α} {g : Link → Link} (s : State) (l k : Nat) (hp : ∀ x, p (g x) = p x) :
    p ((s.modLink l g).link k) = p (s.link k) := by
  by_cases hk : k = l
  · rw [hk, link_modLink_same, hp]
  · rw [link_modLink_ne _ _ hk]

/-- A counter that has a place for its sum reads one more, modulo its width. -/
theorem fld_count_same (s : State) {f : Field} (h : f.lo + f.w ≤ 64) : (s.count f).fld f = (s.fld f + 1) % 2 ^ f.w :=
  fld_setFld_same _ _ _ h

/-- Credits are returned to a link's books, which hold neither its received frames nor its grace. -/
theorem returnCredit_cases (l vc n : Nat) (s : State) :
    returnCredit l vc n s = s ∨ ∃ tot dirty,
      returnCredit l vc n s = s.modLink l fun k => { k with crTotal := tot, crDirty := dirty } := by
  by_cases h : n = 0 ∨ 14 ≤ l
  · exact .inl (if_pos h)
  · exact .inr ⟨_, _, if_neg h⟩

@[simp] theorem returnCredit_swc (l vc n : Nat) (s : State) : (returnCredit l vc n s).swc = s.swc := by
  rcases returnCredit_cases l vc n s with he | ⟨_, _, he⟩ <;> rw [he]; rfl

@[simp] theorem fld_returnCredit (l vc n : Nat) (s : State) (f : Field) : (returnCredit l vc n s).fld f = s.fld f := by
  rcases returnCredit_cases l vc n s with he | ⟨_, _, he⟩ <;> rw [he]; rfl

@[simp] theorem frames_returnCredit (l vc n k : Nat) (s : State) : ((returnCredit l vc n s).link k).frames = (s.link k).frames := by
  rcases returnCredit_cases l vc n s with he | ⟨_, _, he⟩ <;> rw [he]
  exact link_modLink_kept (p := Link.frames) s l k fun _ => by rfl

/-- A frame that gives its cells up leaves the registers and what is queued and held: it changes pending loads and credits. -/
theorem releaseStored_cases (q : QFrame) (s : State) :
    releaseStored q s = s ∨ ∃ loads n,
      releaseStored q s = returnCredit q.ing q.ingVc n (s.modSwc fun w => { w with cirPending := loads }) := by
  unfold releaseStored
  split
  · exact .inl rfl
  · refine .inr ?_
    split
    · exact ⟨_, _, rfl⟩
    · exact ⟨s.swc.cirPending, _, rfl⟩

theorem fld_releaseStored (q : QFrame) (s : State) (f : Field) : (releaseStored q s).fld f = s.fld f := by
  rcases releaseStored_cases q s with he | ⟨_, _, he⟩ <;> rw [he]
  rw [fld_returnCredit, fld_State_modSwc]

/-- `p` is a part of the switch core other than the loads that are pending. -/
theorem swc_releaseStored {α : Type} {p : Swc → α} (hp : ∀ w loads, p { w with cirPending := loads } = p w) (q : QFrame) (s : State) :
    p (releaseStored q s).swc = p s.swc := by
  rcases releaseStored_cases q s with he | ⟨_, _, he⟩ <;> rw [he]
  rw [returnCredit_swc, State.modSwc_swc, hp]

/-- The log of drops shows REASON and the ingress link (R128). -/
theorem fld_dropReason_dropLog (ing reason group : Nat) (s : State) : (dropLog ing reason group s).fld Reg.dropReason = reason % 2 ^ 8 := by
  rw [dropLog, fld_setFld_apart _ _ rfl, fld_setFld_apart _ _ rfl, fld_setFld_same _ _ _ (by decide)]
  rfl

theorem fld_dropLink_dropLog (ing reason group : Nat) (s : State) : (dropLog ing reason group s).fld Reg.dropLink = ing % 2 ^ 4 := by
  rw [dropLog, fld_setFld_apart _ _ rfl, fld_setFld_apart _ _ rfl, fld_setFld_apart _ _ rfl, fld_setFld_same _ _ _ (by decide)]
  rfl

/-- The log of drops is SWC_DROP_LOG alone. -/
theorem fld_dropLog_of_off_ne (ing reason group : Nat) (s : State) {f : Field} (h : f.off ≠ Reg.dropLink.off) :
    (dropLog ing reason group s).fld f = s.fld f := by
  rw [dropLog, fld_setFld_off _ Reg.dropTime _ _ h, fld_setFld_off _ Reg.dropGroup _ _ h, fld_setFld_off _ Reg.dropReason _ _ h,
    fld_setFld_off _ _ _ _ h]

/-! A received frame that fails a check (Table 04-3, R128). -/

theorem ingressFault_reason_lt {s : State} {l : Nat} {r : RxFrame} {f : Frame} {c : Field} {why : Nat}
    (h : ingressFault s l r f = some (c, why)) : why < 2 ^ 8 := by
  have hall : ∀ e ∈ ingressFault s l r f, e.2 < 2 ^ 8 := by
    unfold ingressFault
    iterate 12 refine iteInduction (motive := fun o : Option (Field × Nat) => ∀ e ∈ o, e.2 < 2 ^ 8) (fun _ => by decide) fun _ => ?_
    exact nofun
  exact hall _ h

theorem not_heldAtEdge_of_fault {s : State} {l : Nat} {r : RxFrame} {e : Field × Nat}
    (h : ingressFault s l r (Frame.ofBytes r.bytes) = some e) : heldAtEdge s l r = false := by
  simp [heldAtEdge, h]

/-- Only edge ports hold frames at ingress (R205). -/
theorem not_heldAtEdge_of_torus (s : State) {l : Nat} (r : RxFrame) (h : 8 ≤ l) : heldAtEdge s l r = false := by
  have hedge : ¬ l < 8 := by omega
  simp [heldAtEdge, edgeFull, hedge]

/-- The first frame received is taken when nothing holds it. -/
theorem execFrameIngress_of_not_held {s : State} {l : Fin 14} {r : RxFrame} {rest : List RxFrame} (hlive : linksLive s = true)
    (hframes : (s.link l).frames = r :: rest) (hheld : heldAtEdge s l r = false) :
    exec (.frameIngress l) s = .next (ingress l r s) := by
  have hnext : nextAtIngress s l = some r := by simp [nextAtIngress, hframes, hheld]
  change execFrameIngress l s = _
  simp only [execFrameIngress, hnext, hlive, if_true]

/-- The state with the first received frame of a link taken off. -/
def frameTaken (l : Nat) (r : RxFrame) (s : State) : State := s.modLink l fun k => { k with frames := k.frames.erase r }

theorem frames_frameTaken {s : State} {l : Nat} {r : RxFrame} {rest : List RxFrame} (h : (s.link l).frames = r :: rest) :
    ((frameTaken l r s).link l).frames = rest := by
  rw [frameTaken, link_modLink_same, h, List.erase_cons_head]

theorem ingress_of_fault {s : State} {l : Nat} {r : RxFrame} {c : Field} {why : Nat}
    (h : ingressFault s l r (Frame.ofBytes r.bytes) = some (c, why)) :
    ingress l r s = returnCredit l r.vc (reserveOf r.kept)
      (dropLog l why (logGroup (Frame.ofBytes r.bytes)) ((frameTaken l r s).count c)) := by
  simp only [ingress, h, frameTaken]

/-- A received frame that has passed the checks, with the cells that it holds. -/
def arrivalOf (l : Nat) (r : RxFrame) (s : State) : QFrame :=
  freshQ (frameTaken l r s) (Frame.ofBytes r.bytes) l r.vc (wingOfLink l) r.kept r.arr 0 0

theorem ingress_of_passed {s : State} {l : Nat} {r : RxFrame} (hl : 8 ≤ l) (h : ingressFault s l r (Frame.ofBytes r.bytes) = none) :
    ingress l r s = takeFrame l (arrivalOf l r s) (bumpStor (frameTaken l r s)) := by
  simp only [ingress, h, frameTaken, arrivalOf, if_neg (Nat.not_lt.mpr hl)]

/-! A response for this chip that passes the checks (R129). -/

theorem consistent_of_passed {s : State} {l : Nat} {r : RxFrame} {f : Frame} (h : ingressFault s l r f = none) :
    Frame.consistent f = true := by
  cases hc : Frame.consistent f with
  | true => rfl
  | false =>
    revert h
    unfold ingressFault
    iterate 6 refine iteInduction (motive := (· = none → false = true)) (fun _ => nofun) fun _ => ?_
    rw [if_pos (by rw [hc]; rfl)]
    exact nofun

theorem type_of_isResponse {f : Frame} (h : isResponse f = true) : 3 ≤ Frame.type f ∧ Frame.type f ≤ 5 := of_decide_eq_true h

/-- Responses are of class 1 (Table 04-2). -/
theorem cls_of_isResponse {f : Frame} (h : isResponse f = true) (hc : Frame.consistent f = true) : Frame.cls f = 1 := by
  obtain ⟨hlo, hhi⟩ := type_of_isResponse h
  have hrow := Bool.and_eq_true_iff.mp hc
  have hcls : Frame.cls f = typeClass (Frame.type f) := of_decide_eq_true hrow.left
  rw [hcls, typeClass, if_neg (by omega), if_pos hhi]

theorem isRequest_of_isResponse {f : Frame} (h : isResponse f = true) : Frame.isRequest f = false :=
  decide_eq_false (by have := type_of_isResponse h; omega)

section
variable {ans : Frame → Nat → State → State} {q : QFrame} {s : State}

/-- A unicast frame without a circuit is delivered at the chip that it is for, and goes by the route table elsewhere (R129). -/
theorem routeOn_of_here (hsvc : Frame.svc q.frame = 0) (hmc : Frame.mc q.frame = 0) (h : Frame.dest q.frame = myChip s) :
    routeOn ans q s = deliver ans q s := by
  simp [routeOn, hsvc, hmc, h]

theorem routeOn_of_away (hsvc : Frame.svc q.frame = 0) (hmc : Frame.mc q.frame = 0) (h : Frame.dest q.frame ≠ myChip s) :
    routeOn ans q s = routeByTable ans q s := by
  simp [routeOn, hsvc, hmc, h]

/-- Class 1 does not go through the reorder buffer (R141). -/
theorem deliver_of_cls_one (h : Frame.cls q.frame = 1) : deliver ans q s = passOn ans q s := by
  simp [deliver, h]

/-- A frame for the units that is no pool request is taken at once (R206). -/
theorem passOn_to_units (hmc : Frame.mc q.frame = 0) (hport : Frame.destPort q.frame = 8) (hreq : Frame.isRequest q.frame = false) :
    passOn ans q s = toUnits q s := by
  simp [passOn, hmc, hport, takeIn, isPoolRequest, hreq]

/-- A response that is neither late nor of a SPARE Act is routed (R109, R120, R151). -/
theorem routeArrival_of_response (hresp : isResponse q.frame = true) (hage : waitedAge s q.frame q.arr ≤ s.fld Reg.ageLimit)
    (hact : s.fld (Reg.actState (Frame.epoch q.frame)) ≠ actSpare) : routeArrival q s = routeOn answerErr q s := by
  have haside : Frame.type q.frame ≠ tyAside := by have := type_of_isResponse hresp; unfold tyAside; omega
  simp [routeArrival, Nat.not_lt.mpr hage, hact, haside, isRequest_of_isResponse hresp]

/-- Without a strike, a frame for a valid chip is handled as an arrival (R20, R488). -/
theorem takeFrame_of_valid (l : Nat) (hvalid : validChip s (Frame.dest q.frame) = true) (hstrike : s.fld Reg.strikeState = 0) :
    takeFrame l q s = routeArrival q s := by
  simp [takeFrame, hvalid, struckFrame, hstrike]

end

/-! A frame that joins a queue (R117, R122, R129). -/

theorem swc_pmcEvent (ev unit k : Nat) (s : State) : (pmcEvent ev unit k s).swc = s.swc := by
  have head := may_head
  exact (keeps_pmcEvent (W := (· ∈ [Part.regs])) ev unit k s (.rfl' s)).same .swc (by decide)

/-- `p` is a part of the switch core other than the wings whose shared part has filled. -/
theorem swc_noteSharedFull {α : Type} {p : Swc → α} (hp : ∀ w l, p { w with filled := l } = p w) (w : Nat) (s : State) :
    p (noteSharedFull w s).swc = p s.swc := by
  unfold noteSharedFull
  split
  · exact hp _ _
  · rfl

/-- A frame joins the end of the queue, its congestion mark aside (R122). -/
theorem swc_enqueue {α : Type} {p : Swc → α} (hp : ∀ w l, p { w with filled := l } = p w) (q : QFrame) (s : State) :
    ∃ f, p (enqueue q s).swc = p { s.swc with queue := s.swc.queue ++ [{ q with frame := f }] } := by
  unfold enqueue
  dsimp only
  split
  · rw [swc_pmcEvent, State.count, State.addFld, State.setFld_swc, swc_noteSharedFull hp]
    exact ⟨_, rfl⟩
  · rw [swc_noteSharedFull hp]
    exact ⟨_, rfl⟩

theorem length_queue_enqueue (q : QFrame) (s : State) : (enqueue q s).swc.queue.length = s.swc.queue.length + 1 := by
  obtain ⟨f, he⟩ := swc_enqueue (p := fun w => w.queue.length) (fun _ _ => rfl) q s
  rw [he, List.length_append, List.length_singleton]

theorem fenced_enqueue (q : QFrame) (s : State) : (enqueue q s).swc.fenced = s.swc.fenced := by
  obtain ⟨f, he⟩ := swc_enqueue (p := Swc.fenced) (fun _ _ => rfl) q s
  exact he

theorem links_enqueue (q : QFrame) (s : State) : (enqueue q s).links = s.links := by
  have head := may_head
  have tail := may_tail
  exact (keeps_enqueue (W := (· ∈ [Part.regs, .swc])) q s (.rfl' s)).same .links (by decide)

/-- The spray pointer is no queue. -/
theorem noteSpray_cases (cls : Nat) (port : Option Nat) (s : State) :
    ∃ tab, noteSpray cls port s = s.modSwc fun w => { w with spray := tab } := by
  cases port with
  | none => exact ⟨s.swc.spray, rfl⟩
  | some p => exact ⟨_, rfl⟩

/-- A frame whose destination the route table reaches joins one queue (R131 to R136). -/
theorem routeByTable_enqueues (ans : Frame → Nat → State → State) (q : QFrame) {s : State}
    (h : (s.fld (Reg.routeEntry (Frame.epoch q.frame) (Frame.dest q.frame))).testBit 6 = false) :
    ∃ q' tab, routeByTable ans q s = enqueue q' (s.modSwc fun w => { w with spray := tab }) := by
  unfold routeByTable
  dsimp only
  rw [if_neg (by rw [h]; decide)]
  split
  · exact ⟨_, s.swc.spray, rfl⟩
  · obtain ⟨tab, he⟩ := noteSpray_cases (Frame.cls q.frame)
      (bindPort s (Frame.dest q.frame) (s.fld (Reg.routeEntry (Frame.epoch q.frame) (Frame.dest q.frame))) (Frame.cls q.frame)).2 s
    rw [he]
    exact ⟨_, tab, rfl⟩

/-! What routing leaves. -/

/-- Routing, whatever it does with a frame, leaves the links' port grace, the frames that FENCE holds and the count of aged frames. -/
structure RoutingKept (s t : State) : Prop where
  grace : ∀ l, (t.link l).grace = (s.link l).grace
  fenced : t.swc.fenced = s.swc.fenced
  aged : t.fld Reg.aged = s.fld Reg.aged

theorem RoutingKept.refl (s : State) : RoutingKept s s := ⟨fun _ => rfl, rfl, rfl⟩

namespace RoutingKept

section
variable {s t : State}

theorem setFld (h : RoutingKept s t) (f : Field) (x : Nat) (hf : f.apart Reg.aged = true) : RoutingKept s (t.setFld f x) :=
  ⟨h.grace, h.fenced, (fld_setFld_apart t x hf).trans h.aged⟩

theorem count (h : RoutingKept s t) (f : Field) (hf : f.apart Reg.aged = true) : RoutingKept s (t.count f) := h.setFld f _ hf

theorem modSwc (h : RoutingKept s t) {g : Swc → Swc} (hg : ∀ w, (g w).fenced = w.fenced := by exact fun _ => rfl) :
    RoutingKept s (t.modSwc g) :=
  ⟨h.grace, (hg _).trans h.fenced, h.aged⟩

theorem modLink (h : RoutingKept s t) {l : Nat} {g : Link → Link} (hg : ∀ k, (g k).grace = k.grace := by exact fun _ => rfl) :
    RoutingKept s (t.modLink l g) :=
  ⟨fun k => (link_modLink_kept (p := Link.grace) t l k hg).trans (h.grace k), h.fenced, h.aged⟩

theorem ite {c : Prop} [Decidable c] {a b : State} (ha : RoutingKept s a) (hb : RoutingKept s b) : RoutingKept s (if c then a else b) :=
  iteInduction (fun _ => ha) fun _ => hb

theorem forEach {α : Type} {f : α → State → State} {l : List α} (h : RoutingKept s t)
    (hf : ∀ a ∈ l, ∀ {t}, RoutingKept s t → RoutingKept s (f a t)) : RoutingKept s (forEach f l t) := by
  induction l generalizing t with
  | nil => exact h
  | cons a l ih => exact ih (hf a List.mem_cons_self h) fun b hb => hf b (List.mem_cons_of_mem a hb)

/-! Counters, credits and discards. -/

theorem pmcEvent (h : RoutingKept s t) (ev unit k : Nat) : RoutingKept s (pmcEvent ev unit k t) := by
  refine .ite h (h.forEach fun n hn t h => ?_)
  have hlt : n < 1024 := by
    simp only [pmcSelecting, List.mem_map, List.mem_filter, Bool.and_eq_true, decide_eq_true_eq] at hn
    obtain ⟨e, ⟨-, hoff, -⟩, rfl⟩ := hn
    omega
  have hcnt : (Reg.pmcCnt n).apart Reg.aged = true := decide_eq_true (.inl (by change 0x800128 ≠ 0x303000 + 8 * n; omega))
  have hovf : (Reg.pmcOvf n).apart Reg.aged = true := decide_eq_true (.inl (by change 0x800128 ≠ 0x300100 + 8 * (n / 64); omega))
  exact .ite ((h.setFld _ _ hcnt).setFld _ 1 hovf) (h.setFld _ _ hcnt)

theorem discard (h : RoutingKept s t) (f : Field) (reason ing : Nat) (fr : Frame) (hf : f.apart Reg.aged = true) :
    RoutingKept s (discard f reason ing fr t) :=
  ((((h.count f hf).setFld Reg.dropLink _ rfl).setFld Reg.dropReason _ rfl).setFld Reg.dropGroup _ rfl).setFld Reg.dropTime _ rfl

theorem returnCredit (h : RoutingKept s t) (l vc n : Nat) : RoutingKept s (returnCredit l vc n t) :=
  .ite h (h.modLink)

theorem releaseStored (h : RoutingKept s t) (q : QFrame) : RoutingKept s (releaseStored q t) :=
  .ite h (.returnCredit (.ite h.modSwc h) _ _ _)

theorem leavePending (h : RoutingKept s t) (c n : Nat) : RoutingKept s (leavePending c n t) := h.modSwc

theorem bumpStor (h : RoutingKept s t) : RoutingKept s (bumpStor t) := h.modSwc

theorem putStream (h : RoutingKept s t) (u : Stream) : RoutingKept s (putStream u t) := by
  unfold Machine.putStream
  exact h.modSwc

theorem spendTokens (h : RoutingKept s t) (c out cells : Nat) : RoutingKept s (spendTokens c out cells t) := by
  unfold Machine.spendTokens
  exact h.modSwc

/-! Queues and the chip's own units. -/

theorem noteSharedFull (h : RoutingKept s t) (w : Nat) : RoutingKept s (noteSharedFull w t) :=
  .ite (h.modSwc.setFld Reg.sharedFull 1 rfl) h

theorem enqueue (h : RoutingKept s t) (q : QFrame) : RoutingKept s (enqueue q t) := by
  unfold Machine.enqueue
  dsimp only
  split
  · exact ((h.modSwc.noteSharedFull _).count Reg.cmarkSet rfl).pmcEvent _ _ _
  · exact h.modSwc.noteSharedFull _

theorem toUnits (h : RoutingKept s t) (q : QFrame) : RoutingKept s (toUnits q t) :=
  h.modSwc.returnCredit _ _ _

theorem takeIn (h : RoutingKept s t) (q : QFrame) : RoutingKept s (takeIn q t) :=
  .ite h.modSwc (h.toUnits q)

theorem copiesTo (h : RoutingKept s t) (ports : List Nat) (q : QFrame) : RoutingKept s (copiesTo ports q t) :=
  h.forEach fun _ _ _ h => .ite (h.discard Reg.mcDrop _ _ _ rfl) (h.enqueue _)

theorem deliverCopies (h : RoutingKept s t) (q : QFrame) : RoutingKept s (deliverCopies q t) := by
  have hcopied := h.copiesTo (List.range 8) q
  exact .releaseStored (.ite hcopied.modSwc hcopied) q

end

/-! Routes, with any answer that keeps the same. -/

section
variable {s t : State} {ans : Frame → Nat → State → State}
  (hans : ∀ f code {t}, RoutingKept s t → RoutingKept s (ans f code t))
include hans

theorem toEdge (h : RoutingKept s t) (q : QFrame) : RoutingKept s (toEdge ans q t) := by
  have hdropped := (h.discard Reg.graceDrop 7 q.ing q.frame rfl).releaseStored q
  exact .ite (.ite (hans _ _ hdropped) hdropped) (h.enqueue q)

theorem passOn (h : RoutingKept s t) (q : QFrame) : RoutingKept s (passOn ans q t) :=
  .ite (h.deliverCopies q) (.ite (h.takeIn q) (.toEdge hans h _))

theorem passHeld (h : RoutingKept s t) (l : List InFrame) : RoutingKept s (passHeld ans l t) :=
  h.forEach fun _ _ _ h => .passOn hans h.bumpStor _

theorem passOldest (h : RoutingKept s t) : RoutingKept s (passOldest ans t) := by
  unfold Machine.passOldest
  split
  · exact h
  · exact passHeld hans ((h.setFld Reg.sprayLate _ rfl).putStream _) _

theorem reorderIn (h : RoutingKept s t) (q : QFrame) (u : Stream) : RoutingKept s (reorderIn ans q u t) := by
  unfold Machine.reorderIn
  dsimp only
  split
  · exact passOn hans (h.count Reg.sprayLate rfl) q
  · split
    · exact passHeld hans (passOn hans (passHeld hans (h.putStream _) _) q) _
    · exact (h.putStream _).releaseStored q

theorem reorderNew (h : RoutingKept s t) (q : QFrame) : RoutingKept s (reorderNew ans q t) :=
  .ite (.passOn hans ((passOldest hans h).count Reg.sprayLate rfl) q) (.passOn hans h.modSwc q)

theorem makeRoomFor (h : RoutingKept s t) (f : Frame) (u : Stream) : RoutingKept s (makeRoomFor ans f u t) :=
  .ite (h.forEach fun _ _ _ h => .ite h (passOldest hans h)) h

theorem reorderKnown (h : RoutingKept s t) (q : QFrame) : RoutingKept s (reorderKnown ans q t) := by
  unfold Machine.reorderKnown
  split
  · exact passOn hans h q
  · exact reorderIn hans h q _

theorem reorder (h : RoutingKept s t) (q : QFrame) : RoutingKept s (reorder ans q t) := by
  unfold Machine.reorder
  split
  · exact reorderNew hans h q
  · exact reorderKnown hans (makeRoomFor hans h _ _) q

theorem deliver (h : RoutingKept s t) (q : QFrame) : RoutingKept s (deliver ans q t) :=
  .ite (reorder hans h q) (passOn hans h q)

omit hans in
theorem serveInternal (h : RoutingKept s t) : RoutingKept s (serveInternal t) := by
  refine h.forEach fun q _ t h => .ite (.toUnits ?_ q) h
  have hleft := (h.spendTokens (Frame.circuit q.frame) 15 (Frame.cells q.frame)).modSwc (g := fun w => { w with queue := w.queue.erase q })
  exact .ite (hleft.leavePending _ _) hleft

theorem toLeg (h : RoutingKept s t) (q : QFrame) (out : Nat) : RoutingKept s (toLeg ans q out t) :=
  .ite (h.enqueue _).serveInternal
    (.ite ((h.discard Reg.graceDrop _ _ _ rfl).releaseStored q) (.ite (h.enqueue _) (toEdge hans h _)))

theorem routeCircuit (h : RoutingKept s t) (q : QFrame) : RoutingKept s (routeCircuit ans q t) := by
  have hlast : Field.apart ⟨Reg.cirActive (Frame.circuit q.frame) 3, 0, 24⟩ Reg.aged = true :=
    decide_eq_true (.inl (by change 0x800128 ≠ 0x8A0000 + 0x20 * Frame.circuit q.frame + 8 * 3; omega))
  unfold Machine.routeCircuit
  dsimp only
  split
  · exact (h.count Reg.cirLostDrop rfl).releaseStored q
  · exact .ite (.ite (toLeg hans (h.setFld _ _ hlast) q _)
      (.ite ((h.count Reg.cirGap rfl).releaseStored q) ((h.count Reg.cirDup rfl).releaseStored q))) (toLeg hans h q _)

theorem multicast (h : RoutingKept s t) (q : QFrame) : RoutingKept s (multicast ans q t) := by
  have hcopied := h.copiesTo [8, 9, 10, 11, 12, 13] q
  exact .ite ((h.discard Reg.mcDrop _ _ _ rfl).releaseStored q)
    (.ite (reorder hans (.releaseStored hcopied.bumpStor q) _) (hcopied.deliverCopies q))

omit hans in
theorem noteSpray (h : RoutingKept s t) (cls : Nat) (port : Option Nat) : RoutingKept s (noteSpray cls port t) := by
  obtain ⟨tab, he⟩ := noteSpray_cases cls port t
  exact he ▸ h.modSwc

theorem routeByTable (h : RoutingKept s t) (q : QFrame) : RoutingKept s (routeByTable ans q t) := by
  have hgone := (h.count Reg.unreach rfl).releaseStored q
  exact .ite (.ite (hans _ _ hgone) hgone) (.ite (h.enqueue _) ((h.noteSpray _ _).enqueue _))

theorem routeOn (h : RoutingKept s t) (q : QFrame) : RoutingKept s (routeOn ans q t) :=
  .ite (routeCircuit hans h q) (.ite (multicast hans h q) (.ite (deliver hans h q) (routeByTable hans h q)))

end

/-! The chip's own frames, a grace that ends, and the circuits of its port (R125, R136, R175 to R178). -/

section
variable {s t : State}

theorem sendFrame (h : RoutingKept s t) (wing : Nat) (f : Frame) : RoutingKept s (sendFrame wing f t) :=
  .ite (h.bumpStor.discard Reg.hdrBad _ _ _ rfl) (routeOn (fun _ _ _ h => h) h.bumpStor _)

theorem graceFrame (h : RoutingKept s t) (l : Nat) (q : QFrame) : RoutingKept s (graceFrame l q t) := by
  have hout : RoutingKept s (t.modSwc fun w => { w with queue := w.queue.erase q }) := h.modSwc
  have hdropped := (hout.discard Reg.graceDrop 7 q.ing q.frame rfl).releaseStored q
  exact .ite h (.ite ((hout.discard Reg.mcDrop _ _ _ rfl).releaseStored q) (.ite hdropped
    (.ite (.ite hdropped (.ite hout.modSwc ((hout.noteSpray _ _).enqueue _)))
      (.ite (hdropped.sendFrame _ _) hdropped))))

theorem sendNotice (h : RoutingKept s t) (l c kind : Nat) : RoutingKept s (sendNotice l c kind t) :=
  .ite (h.bumpStor.discard Reg.graceDrop _ _ _ rfl) (h.bumpStor.enqueue _)

theorem admitCircuits (h : RoutingKept s t) : RoutingKept s (admitCircuits t) :=
  h.forEach fun _ _ _ h => .ite (.sendFrame (.ite h.modSwc.modSwc h.modSwc) _ _) h

theorem tellSource (h : RoutingKept s t) (c : Nat) : RoutingKept s (tellSource c t) := by
  have hpending {l : List (Nat × Nat × Frame)} := h.forEach (l := l) (f := fun r s => addPending c none (Frame.cells r.2.2) s)
    fun _ _ _ h => h.modSwc
  exact .ite (.admitCircuits hpending.modSwc) (.ite (h.sendNotice _ _ _) h)

theorem setCirState (h : RoutingKept s t) (c st : Nat) : RoutingKept s (setCirState c st t) :=
  h.setFld _ _ (decide_eq_true (.inl (by change 0x800128 ≠ 0x8A0000 + 0x20 * c + 8 * 0; omega)))

theorem loseCircuit (h : RoutingKept s t) (c : Nat) : RoutingKept s (loseCircuit c t) :=
  (h.setCirState c 3).forEach fun q _ _ h => (h.modSwc.count Reg.cirLostDrop rfl).releaseStored q

theorem headNotice (h : RoutingKept s t) (c kind : Nat) (under : Bool) : RoutingKept s (headNotice c kind under t) := by
  have hcounted := h.count Reg.cirNotice rfl
  have hlost := (h.loseCircuit c).tellSource c
  have hmoved : RoutingKept s (Machine.tellSource c (rebindCircuit c ((Machine.setCirState c 2 t).count Reg.cirMoved))) :=
    .tellSource ((h.setCirState c 2).count Reg.cirMoved rfl).modSwc c
  exact .ite (.ite hmoved (.ite hlost hcounted)) (.ite (.ite hlost hcounted) (.ite (h.setCirState c 1) hcounted))

theorem moveCircuits (h : RoutingKept s t) (l : Nat) : RoutingKept s (moveCircuits l t) := by
  have hnotice {t : State} {c m kind : Nat} {under : Bool} {head tells : Prop} [Decidable head] [Decidable tells] (h : RoutingKept s t) :
      RoutingKept s (if head then Machine.headNotice c kind under t else if tells then Machine.sendNotice m c kind t else t) :=
    .ite (h.headNotice c kind under) (.ite (h.sendNotice m c kind) h)
  refine .ite h (h.forEach fun c _ t h => ?_)
  extract_lets st head primary
  have hprimary : RoutingKept s primary := .ite (hnotice h) h
  exact .ite (.ite (hnotice hprimary) (.ite (hnotice hprimary) hprimary)) hprimary

end

end RoutingKept

/-! A frame beyond the age limit (R120, R121). -/

/-- The state with an aged frame taken out of where it waited. -/
def agedTaken (q : QFrame) (s : State) : State :=
  s.modSwc fun w => { w with queue := w.queue.erase q, fenced := w.fenced.erase q, poolWait := w.poolWait.erase q }

/-- The state with an aged frame gone, counted and logged, before a request of it is answered. -/
def agedDropped (q : QFrame) (s : State) : State := releaseStored q (discard Reg.aged 6 q.ing q.frame (agedTaken q s))

theorem ageOut_of_request {q : QFrame} (s : State) (h : Frame.isRequest q.frame = true) :
    ageOut q s = answerErr q.frame Err.agedOut (agedDropped q s) := if_pos h

theorem ageOut_of_not_request {q : QFrame} (s : State) (h : Frame.isRequest q.frame = false) : ageOut q s = agedDropped q s :=
  if_neg (by rw [h]; decide)

section
variable (q : QFrame) (s : State)

theorem fenced_agedDropped : (agedDropped q s).swc.fenced = s.swc.fenced.erase q :=
  swc_releaseStored (p := Swc.fenced) (fun _ _ => rfl) _ _

theorem queue_agedDropped : (agedDropped q s).swc.queue = s.swc.queue.erase q :=
  swc_releaseStored (p := Swc.queue) (fun _ _ => rfl) _ _

theorem fld_aged_agedDropped : (agedDropped q s).fld Reg.aged = (s.fld Reg.aged + 1) % 2 ^ 48 := by
  rw [agedDropped, fld_releaseStored, discard, fld_dropLog_of_off_ne _ _ _ _ (by decide), fld_count_same _ (by decide)]
  rfl

theorem fld_dropReason_agedDropped : (agedDropped q s).fld Reg.dropReason = 6 :=
  (fld_releaseStored _ _ _).trans (fld_dropReason_dropLog _ _ _ _)

/-- An answer to an aged request is routed, which leaves the held frames and the count. -/
theorem ageOut_acts : (ageOut q s).swc.fenced = s.swc.fenced.erase q ∧ (ageOut q s).fld Reg.aged = (s.fld Reg.aged + 1) % 2 ^ 48 := by
  have hkept : RoutingKept (agedDropped q s) (ageOut q s) := by
    cases h : Frame.isRequest q.frame with
    | true => exact ageOut_of_request s h ▸ (RoutingKept.refl _).sendFrame _ _
    | false => exact ageOut_of_not_request s h ▸ .refl _
  exact ⟨hkept.fenced.trans (fenced_agedDropped q s), hkept.aged.trans (fld_aged_agedDropped q s)⟩

end

/-! A port grace that ends (R125, R175). -/

theorem grace_graceExpire (l : Nat) (s : State) : ((graceExpire l s).link l).grace = .expired := by
  have hkept : RoutingKept (s.modLink l fun k => { k with grace := .expired }) (graceExpire l s) :=
    .moveCircuits ((RoutingKept.refl _).forEach fun q _ _ h => h.graceFrame l q) l
  rw [hkept.grace, link_modLink_same]

/-! The commands. -/

/-- A command of the switch core that may change no other part leaves the pool. -/
theorem mem_of_switch_exec {c : Instr} {s t : State} (h : exec c s = .next t) (hc : changes c = [.regs, .links, .swc]) : t.mem = s.mem :=
  (keeps_exec h).same .mem (by rw [hc]; decide)

/-- A response that passes the checks at its destination chip is taken by the chip's units. -/
theorem ingress_response_to_units {s : State} {l : Nat} {r : RxFrame} {f : Frame} (hf : f = Frame.ofBytes r.bytes) (htorus : 8 ≤ l)
    (hpassed : ingressFault s l r f = none) (hresp : isResponse f = true) (hsvc : Frame.svc f = 0) (hmc : Frame.mc f = 0)
    (hdest : Frame.dest f = myChip s) (hvalid : validChip s (myChip s) = true) (hport : Frame.destPort f = 8)
    (hage : waitedAge s f r.arr ≤ s.fld Reg.ageLimit) (hact : s.fld (Reg.actState (Frame.epoch f)) ≠ actSpare)
    (hstrike : s.fld Reg.strikeState = 0) : ingress l r s = toUnits (arrivalOf l r s) (bumpStor (frameTaken l r s)) := by
  subst hf
  have hhere : validChip s (Frame.dest (Frame.ofBytes r.bytes)) = true := hdest ▸ hvalid
  calc ingress l r s
      = takeFrame l (arrivalOf l r s) (bumpStor (frameTaken l r s)) := ingress_of_passed htorus hpassed
    _ = routeArrival (arrivalOf l r s) (bumpStor (frameTaken l r s)) := takeFrame_of_valid l hhere hstrike
    _ = routeOn answerErr (arrivalOf l r s) (bumpStor (frameTaken l r s)) := routeArrival_of_response hresp hage hact
    _ = deliver answerErr (arrivalOf l r s) (bumpStor (frameTaken l r s)) := routeOn_of_here hsvc hmc hdest
    _ = passOn answerErr (arrivalOf l r s) (bumpStor (frameTaken l r s)) :=
      deliver_of_cls_one (cls_of_isResponse hresp (consistent_of_passed hpassed))
    _ = toUnits (arrivalOf l r s) (bumpStor (frameTaken l r s)) := passOn_to_units hmc hport (isRequest_of_isResponse hresp)

/-- The state with a frame that FENCE holds taken off. -/
def fenceLifted (q : QFrame) (s : State) : State := s.modSwc fun w => { w with fenced := w.fenced.erase q }

theorem execFenceRelease_of_met {s : State} {stor : Nat} {q : QFrame} (hlive : linksLive s = true) (hq : fencedAt s stor = some q)
    (hmet : fenceMet s q = true) : exec (.fenceRelease stor) s = .next (routeOn answerErr q (fenceLifted q s)) := by
  change execFenceRelease stor s = _
  simp only [execFenceRelease, hq, hlive, hmet, and_self, if_true, fenceLifted]

theorem execFrameAgeExpiry_of_aged {s : State} {stor : Nat} {port : Fin 14} {q : QFrame} (hlive : linksLive s = true)
    (hq : agedFrame s stor port = some q) : exec (.frameAgeExpiry stor port) s = .next (ageOut q s) := by
  change execFrameAgeExpiry stor port s = _
  simp only [execFrameAgeExpiry, hq, hlive, if_true]

theorem execEscapeWaitExpiry_of_escapes {s : State} {stor : Nat} {q : QFrame} (hlive : linksLive s = true)
    (hq : s.swc.queue.find? (fun o => decide (o.stor = stor)) = some q) (hesc : escapes s q = true) :
    exec (.escapeWaitExpiry stor) s = .next (becomeEligible q s) := by
  change execEscapeWaitExpiry stor s = _
  simp only [execEscapeWaitExpiry, hq, hlive, hesc, and_self, if_true]

/-- Settles O28: a clause for each command; the parts that a command may not change are those of `keeps_exec`. -/
theorem framesCross : Obligations.FramesCross := by
  refine ⟨?fault, ?response, ?fence, ?aged, ?agedQuiet, ?grace, ?escape⟩
  case fault =>
    intro s l r rest c why hlive hframes hfault
    have hexec := execFrameIngress_of_not_held hlive hframes (not_heldAtEdge_of_fault hfault)
    refine ⟨_, hexec, ?frames, ?reason, ?link, ?swc, mem_of_switch_exec hexec rfl⟩
    all_goals rw [ingress_of_fault hfault]
    case frames => rw [frames_returnCredit]; exact frames_frameTaken hframes
    case reason => rw [fld_returnCredit, fld_dropReason_dropLog, Nat.mod_eq_of_lt (ingressFault_reason_lt hfault)]
    case link => rw [fld_returnCredit, fld_dropLink_dropLog, Nat.mod_eq_of_lt (by omega)]
    case swc => rw [returnCredit_swc]; rfl
  case response =>
    intro s l r rest f hlive htorus hframes hf hpassed hresp hsvc hmc hdest hvalid hport hage hact hstrike
    have hexec := execFrameIngress_of_not_held hlive hframes (not_heldAtEdge_of_torus s r htorus)
    have hunits := ingress_response_to_units hf htorus hpassed hresp hsvc hmc hdest hvalid hport hage hact hstrike
    refine ⟨_, hexec, ?frames, ?inbox, ?queue, mem_of_switch_exec hexec rfl⟩
    all_goals rw [hunits, toUnits]
    case frames => rw [frames_returnCredit]; exact frames_frameTaken hframes
    case inbox => rw [returnCredit_swc, hf]; rfl
    case queue => rw [returnCredit_swc]; rfl
  case fence =>
    intro s stor q hlive hq hmet hsvc hmc haway hroute
    have hexec := execFenceRelease_of_met hlive hq hmet
    obtain ⟨q', tab, hqueued⟩ := routeByTable_enqueues answerErr q (s := fenceLifted q s) hroute
    have hrouted := (routeOn_of_away (s := fenceLifted q s) hsvc hmc haway).trans hqueued
    refine ⟨_, hexec, ?fenced, ?queue, mem_of_switch_exec hexec rfl, ?links⟩
    all_goals rw [hrouted]
    case fenced => rw [fenced_enqueue]; rfl
    case queue => rw [length_queue_enqueue]; rfl
    case links => rw [links_enqueue]; rfl
  case aged =>
    intro s stor port q hlive hq
    have hexec := execFrameAgeExpiry_of_aged hlive hq
    obtain ⟨hfenced, hcount⟩ := ageOut_acts q s
    exact ⟨_, hexec, hfenced, hcount, mem_of_switch_exec hexec rfl⟩
  case agedQuiet =>
    intro s stor port q hlive hq hreq
    have hexec := execFrameAgeExpiry_of_aged hlive hq
    rw [ageOut_of_not_request s hreq] at hexec
    exact ⟨_, hexec, queue_agedDropped q s, fld_dropReason_agedDropped q s, mem_of_switch_exec hexec rfl⟩
  case grace =>
    intro s l hlive hdown hgrace
    have hexec : exec (.portGraceExpiry l) s = .next (graceExpire l s) := next_if_pos ⟨hlive, by simp [hdown], hgrace⟩
    exact ⟨_, hexec, grace_graceExpire l s, mem_of_switch_exec hexec rfl⟩
  case escape =>
    intro s stor q hlive hq hesc
    exact ⟨_, execEscapeWaitExpiry_of_escapes hlive hq hesc, rfl, rfl, rfl⟩

end Sys2Proof.Machine
end

section
/-! Words that an operation leaves, and sequencers at which nothing waits (R275, R281, R302, R303). -/
namespace Sys2Proof.Machine

/-! Words outside a region. -/

/-- Every word outside the region `P` reads in `t` as in `s`. -/
def WordsOutside (P : Nat → Bool) (s t : State) : Prop := ∀ b, P b = false → t.word b = s.word b

namespace WordsOutside

variable {P Q : Nat → Bool} {s t u : State}

theorem refl (s : State) : WordsOutside P s s := fun _ _ => rfl

theorem trans (h : WordsOutside P s t) (g : WordsOutside P t u) : WordsOutside P s u := fun b hb => (g b hb).trans (h b hb)

theorem setWord (h : WordsOutside P s t) {off : Nat} (v : Word) (hoff : P off = true) : WordsOutside P s (t.setWord off v) :=
  fun b hb => (word_setWord_ne t off b v fun he => absurd hoff (by rw [← he, hb]; decide)).trans (h b hb)

theorem setFld (h : WordsOutside P s t) {f : Field} (x : Nat) (hf : P f.off = true) : WordsOutside P s (t.setFld f x) :=
  h.setWord _ hf

theorem modSwc (h : WordsOutside P s t) (g : Swc → Swc) : WordsOutside P s (t.modSwc g) := h

theorem modBoard (h : WordsOutside P s t) (g : Board → Board) : WordsOutside P s (t.modBoard g) := h

theorem mono (h : WordsOutside P s t) (hPQ : ∀ b, Q b = false → P b = false) : WordsOutside Q s t := fun b hb => h b (hPQ b hb)

theorem ite {c : Prop} [Decidable c] {a b : State} (ha : WordsOutside P s a) (hb : WordsOutside P s b) :
    WordsOutside P s (if c then a else b) := iteInduction (fun _ => ha) fun _ => hb

theorem forEach {α : Type} {f : α → State → State} {l : List α} (h : WordsOutside P s t)
    (hf : ∀ a ∈ l, ∀ {t}, WordsOutside P s t → WordsOutside P s (f a t)) : WordsOutside P s (forEach f l t) := by
  induction l generalizing t with
  | nil => exact h
  | cons a l ih => exact ih (hf a List.mem_cons_self h) fun b hb => hf b (List.mem_cons_of_mem a hb)

theorem fld (h : WordsOutside P s t) {f : Field} (hf : P f.off = false) : t.fld f = s.fld f :=
  congrArg (field · f.lo f.w) (h f.off hf)

theorem flag (h : WordsOutside P s t) {f : Field} (hf : P f.off = false) : t.flag f = s.flag f := by
  rw [State.flag, State.flag, h.fld hf]

end WordsOutside

/-! A quiet state: what an event frees is nothing. -/

theorem quiet_iff {s : State} : quiet s = true ↔
    (∀ q < 64, s.fld (Reg.seqSt q) ≠ sqStalled ∧ s.fld (Reg.seqSt q) ≠ sqWaiting) ∧
    (∀ t < 1024, s.fld (Reg.trigPending t) = 0) ∧ s.cue.drowsy = [] ∧ ∀ x ∈ s.cue.xfers, Xfer.sends x = false := by
  simp [quiet, and_assoc]

/-- SEQq_STATUS and the trigger entries: what `quiet` reads. -/
theorem quiet_of_words {P : Nat → Bool} {s t : State} (hq : quiet s = true) (hcue : t.cue = s.cue) (h : WordsOutside P s t)
    (hP : ∀ b, 0x1410000 ≤ b → b < 0x1430000 → P b = false) : quiet t = true := by
  obtain ⟨hseq, htrig, hdrowsy, hxfers⟩ := quiet_iff.mp hq
  refine quiet_iff.mpr ⟨fun q hq => ?_, fun k hk => ?_, hcue ▸ hdrowsy, hcue ▸ hxfers⟩
  · have hoff : (Reg.seqSt q).off = 0x1410008 + 0x100 * q := rfl
    rw [h.fld (hP _ (by omega) (by omega))]
    exact hseq q hq
  · have hoff : (Reg.trigPending k).off = 0x1420000 + 0x10 * k + 8 * 0 := rfl
    rw [h.fld (hP _ (by omega) (by omega))]
    exact htrig k hk

section
variable {s : State}

theorem resumeWaits_of_quiet (hq : quiet s = true) : resumeWaits s = s := by
  obtain ⟨hseq, -, -, -⟩ := quiet_iff.mp hq
  have hnone : (List.range 64).filter (waitReady s) = [] := by
    refine List.filter_eq_nil_iff.mpr fun q hq => ?_
    simp [waitReady, hseq q (List.mem_range.mp hq)]
  simp only [resumeWaits, hnone, List.map_nil, forEach]

/-- A transfer that may send nothing sends nothing. -/
theorem sendPieces_eq_self (h : ∀ x ∈ s.cue.xfers, Xfer.sends x = false) (id n : Nat) : sendPieces id n s = s := by
  induction n with
  | zero => rfl
  | succ n ih =>
    rw [sendPieces]
    split
    · next x hx =>
      have hsends : Xfer.sends x = false := h x (List.mem_of_find?_eq_some hx)
      rw [sendPiece, if_pos hsends, ih]
    · rfl

theorem sendXfers_of_quiet (hq : quiet s = true) : sendXfers s = s := by
  obtain ⟨-, -, -, hxfers⟩ := quiet_iff.mp hq
  exact forEach_eq_self fun x _ => sendPieces_eq_self hxfers x.id 16

theorem stalledAt_of_quiet (hq : quiet s = true) {q : Nat} (hlt : q < 64) (step : Nat) : stalledAt s step q = false := by
  obtain ⟨hseq, -, -, -⟩ := quiet_iff.mp hq
  simp [stalledAt, hseq q hlt]

theorem resumeBinders_of_quiet (hq : quiet s = true) : resumeBinders s = s := by
  have hnone : binders s = [] := by
    refine List.filter_eq_nil_iff.mpr fun q hlt => ?_
    simp [stalledAt_of_quiet hq (List.mem_range.mp hlt)]
  simp only [resumeBinders, hnone, List.map_nil, List.eraseDups_nil, forEach]

theorem retrySeq_of_quiet (hq : quiet s = true) {q : Nat} (hlt : q < 64) : retrySeq q s = s := by
  obtain ⟨hseq, -, -, -⟩ := quiet_iff.mp hq
  simp [retrySeq, hseq q hlt]

theorem lt_of_mem_retryOrder {q : Nat} (h : q ∈ retryOrder s) : q < 64 := by
  simp only [retryOrder, List.mem_append, List.mem_filter, List.mem_range, List.mem_map] at h
  rcases h with ⟨hlt, -⟩ | ⟨⟨i, -, rfl⟩, -⟩ <;> omega

theorem settleDoze_of_quiet (hq : quiet s = true) : settleDoze s = s := by
  obtain ⟨-, -, hdrowsy, -⟩ := quiet_iff.mp hq
  have hcue : s.modCue (fun k => { k with drowsy := [] }) = s := by rw [State.modCue, ← hdrowsy]
  simpa only [settleDoze, hdrowsy, List.filter_nil, forEach, State.modCue] using hcue

/-- With nothing waiting at the sequencers an event frees nothing. -/
theorem resumeAll_of_quiet (hq : quiet s = true) : resumeAll s = s := by
  have hretry : forEach retrySeq (retryOrder s) s = s := forEach_eq_self fun _ h => retrySeq_of_quiet hq (lt_of_mem_retryOrder h)
  simp only [resumeAll, resumeWaits_of_quiet hq, sendXfers_of_quiet hq, resumeBinders_of_quiet hq, hretry, settleDoze_of_quiet hq,
    ite_self]

end

end Sys2Proof.Machine
end

section
/-! The chip's own requests, the circuits at their head and the staged bank (R155, R156, R177, R184, R188). -/
namespace Sys2Proof.Machine

/-! What routing leaves of the chip's own requests. -/

/-- The words of SWC, SWC_E2E_RETRY apart, and those of the performance counters: what routing writes. -/
def routedWord (b : Nat) : Bool :=
  decide (0x800000 ≤ b ∧ b < 0x900000 ∧ b ≠ Reg.e2eRetry.off) || decide (0x300000 ≤ b ∧ b < 0x400000)

theorem routedWord_swc {b : Nat} (hlo : 0x800000 ≤ b) (hhi : b < 0x900000) (hne : b ≠ Reg.e2eRetry.off) : routedWord b = true := by
  rw [routedWord, decide_eq_true ⟨hlo, hhi, hne⟩, Bool.true_or]

theorem routedWord_pmc {b : Nat} (hlo : 0x300000 ≤ b) (hhi : b < 0x400000) : routedWord b = true := by
  rw [routedWord, decide_eq_true (And.intro hlo hhi), Bool.or_true]

/-- The words from the sequencers' block on are not those that routing writes. -/
theorem not_routedWord_of_ge {b : Nat} (h : 0x900000 ≤ b) : routedWord b = false := by
  rw [routedWord, decide_eq_false fun ⟨_, hlt, _⟩ => Nat.not_lt.mpr h hlt,
    decide_eq_false fun ⟨_, hlt⟩ => Nat.not_lt.mpr (Nat.le_trans (by decide) h) hlt, Bool.or_false]

/-- Routing, whatever it does with a frame, leaves the chip's own requests, the count of their retries and the words of other blocks.
`RoutingKept` speaks of one counter of SWC; here the words of every sequencer and trigger must stay, so that nothing begins to wait. -/
structure Routed (s t : State) : Prop where
  own : t.swc.own = s.swc.own
  words : WordsOutside routedWord s t

theorem Routed.refl (s : State) : Routed s s := ⟨rfl, .refl s⟩

namespace Routed

section
variable {s t : State}

theorem setFld (h : Routed s t) (f : Field) (x : Nat) (hf : routedWord f.off = true) : Routed s (t.setFld f x) :=
  ⟨h.own, h.words.setFld x hf⟩

theorem count (h : Routed s t) (f : Field) (hf : routedWord f.off = true) : Routed s (t.count f) := h.setFld f _ hf

theorem modSwc (h : Routed s t) {g : Swc → Swc} (hg : ∀ w, (g w).own = w.own := by exact fun _ => rfl) : Routed s (t.modSwc g) :=
  ⟨(hg _).trans h.own, h.words⟩

theorem ite {c : Prop} [Decidable c] {a b : State} (ha : Routed s a) (hb : Routed s b) : Routed s (if c then a else b) :=
  iteInduction (fun _ => ha) fun _ => hb

theorem forEach {α : Type} {f : α → State → State} {l : List α} (h : Routed s t)
    (hf : ∀ a ∈ l, ∀ {t}, Routed s t → Routed s (f a t)) : Routed s (forEach f l t) := by
  induction l generalizing t with
  | nil => exact h
  | cons a l ih => exact ih (hf a List.mem_cons_self h) fun b hb => hf b (List.mem_cons_of_mem a hb)

/-! Counters, credits and discards. -/

theorem pmcEvent (h : Routed s t) (ev unit k : Nat) : Routed s (pmcEvent ev unit k t) := by
  refine .ite h (h.forEach fun n hn t h => ?_)
  have hlt : n < 1024 := by
    simp only [pmcSelecting, List.mem_map, List.mem_filter, Bool.and_eq_true, decide_eq_true_eq] at hn
    obtain ⟨e, ⟨-, hoff, -⟩, rfl⟩ := hn
    omega
  have hcnt : routedWord (0x303000 + 8 * n) = true := routedWord_pmc (by omega) (by omega)
  have hovf : routedWord (0x300100 + 8 * (n / 64)) = true := routedWord_pmc (by omega) (by omega)
  exact .ite ((h.setFld _ _ hcnt).setFld _ 1 hovf) (h.setFld _ _ hcnt)

theorem discard (h : Routed s t) (f : Field) (reason ing : Nat) (fr : Frame) (hf : routedWord f.off = true) :
    Routed s (discard f reason ing fr t) :=
  ((((h.count f hf).setFld Reg.dropLink _ rfl).setFld Reg.dropReason _ rfl).setFld Reg.dropGroup _ rfl).setFld Reg.dropTime _ rfl

theorem returnCredit (h : Routed s t) (l vc n : Nat) : Routed s (returnCredit l vc n t) := .ite h ⟨h.own, h.words⟩

theorem releaseStored (h : Routed s t) (q : QFrame) : Routed s (releaseStored q t) :=
  .ite h (.returnCredit (.ite h.modSwc h) _ _ _)

/-! Queues and the chip's own units. -/

theorem noteSharedFull (h : Routed s t) (w : Nat) : Routed s (noteSharedFull w t) := .ite (h.modSwc.setFld Reg.sharedFull 1 rfl) h

theorem enqueue (h : Routed s t) (q : QFrame) : Routed s (enqueue q t) := by
  unfold Machine.enqueue
  dsimp only
  split
  · exact ((h.modSwc.noteSharedFull _).count Reg.cmarkSet rfl).pmcEvent _ _ _
  · exact h.modSwc.noteSharedFull _

theorem toUnits (h : Routed s t) (q : QFrame) : Routed s (toUnits q t) := h.modSwc.returnCredit _ _ _

theorem copiesTo (h : Routed s t) (ports : List Nat) (q : QFrame) : Routed s (copiesTo ports q t) :=
  h.forEach fun _ _ _ h => .ite (h.discard Reg.mcDrop _ _ _ rfl) (h.enqueue _)

theorem deliverCopies (h : Routed s t) (q : QFrame) : Routed s (deliverCopies q t) := by
  have hcopied := h.copiesTo (List.range 8) q
  exact .releaseStored (.ite hcopied.modSwc hcopied) q

theorem putStream (h : Routed s t) (u : Stream) : Routed s (putStream u t) := by
  unfold Machine.putStream
  exact h.modSwc

theorem spendTokens (h : Routed s t) (c out cells : Nat) : Routed s (spendTokens c out cells t) := by
  unfold Machine.spendTokens
  exact h.modSwc

theorem serveInternal (h : Routed s t) : Routed s (serveInternal t) := by
  refine h.forEach fun q _ t h => .ite (.toUnits ?_ q) h
  have hleft := (h.spendTokens (Frame.circuit q.frame) 15 (Frame.cells q.frame)).modSwc (g := fun w => { w with queue := w.queue.erase q })
  exact .ite hleft.modSwc hleft

theorem noteSpray (h : Routed s t) (cls : Nat) (port : Option Nat) : Routed s (noteSpray cls port t) := by
  obtain ⟨tab, he⟩ := noteSpray_cases cls port t
  exact he ▸ h.modSwc

end

/-! Routes, with any answer that leaves the same. -/

section
variable {s t : State} {ans : Frame → Nat → State → State} (hans : ∀ f code {t}, Routed s t → Routed s (ans f code t))
include hans

theorem toEdge (h : Routed s t) (q : QFrame) : Routed s (toEdge ans q t) := by
  have hdropped := (h.discard Reg.graceDrop 7 q.ing q.frame rfl).releaseStored q
  exact .ite (.ite (hans _ _ hdropped) hdropped) (h.enqueue q)

theorem passOn (h : Routed s t) (q : QFrame) : Routed s (passOn ans q t) :=
  .ite (h.deliverCopies q) (.ite (.ite h.modSwc (h.toUnits q)) (.toEdge hans h _))

theorem passHeld (h : Routed s t) (l : List InFrame) : Routed s (passHeld ans l t) :=
  h.forEach fun _ _ _ h => .passOn hans h.modSwc _

theorem passOldest (h : Routed s t) : Routed s (passOldest ans t) := by
  unfold Machine.passOldest
  split
  · exact h
  · exact passHeld hans ((h.setFld Reg.sprayLate _ rfl).putStream _) _

theorem reorderIn (h : Routed s t) (q : QFrame) (u : Stream) : Routed s (reorderIn ans q u t) := by
  unfold Machine.reorderIn
  dsimp only
  refine .ite (.passOn hans (h.count Reg.sprayLate rfl) q) (.ite ?_ (.releaseStored (h.putStream _) q))
  exact passHeld hans (passOn hans (passHeld hans (h.putStream _) _) q) _

theorem reorderNew (h : Routed s t) (q : QFrame) : Routed s (reorderNew ans q t) :=
  .ite (.passOn hans ((passOldest hans h).count Reg.sprayLate rfl) q) (.passOn hans h.modSwc q)

theorem makeRoomFor (h : Routed s t) (f : Frame) (u : Stream) : Routed s (makeRoomFor ans f u t) :=
  .ite (h.forEach fun _ _ _ h => .ite h (passOldest hans h)) h

theorem reorderKnown (h : Routed s t) (q : QFrame) : Routed s (reorderKnown ans q t) := by
  unfold Machine.reorderKnown
  split
  · exact passOn hans h q
  · exact reorderIn hans h q _

theorem reorder (h : Routed s t) (q : QFrame) : Routed s (reorder ans q t) := by
  unfold Machine.reorder
  split
  · exact reorderNew hans h q
  · exact reorderKnown hans (makeRoomFor hans h _ _) q

theorem deliver (h : Routed s t) (q : QFrame) : Routed s (deliver ans q t) := .ite (reorder hans h q) (passOn hans h q)

theorem toLeg (h : Routed s t) (q : QFrame) (out : Nat) : Routed s (toLeg ans q out t) :=
  .ite (h.enqueue _).serveInternal
    (.ite ((h.discard Reg.graceDrop _ _ _ rfl).releaseStored q) (.ite (h.enqueue _) (toEdge hans h _)))

theorem routeCircuit (h : Routed s t) (q : QFrame) : Routed s (routeCircuit ans q t) := by
  have hcir : Frame.circuit q.frame < 2 ^ 12 := Nat.mod_lt _ (by decide)
  have hoff : Reg.cirActive (Frame.circuit q.frame) 3 = 0x8A0000 + 0x20 * Frame.circuit q.frame + 8 * 3 := rfl
  have hretry : Reg.e2eRetry.off = 0x800168 := rfl
  have hlast : routedWord (Reg.cirActive (Frame.circuit q.frame) 3) = true := routedWord_swc (by omega) (by omega) (by omega)
  unfold Machine.routeCircuit
  dsimp only
  split
  · exact (h.count Reg.cirLostDrop rfl).releaseStored q
  · exact .ite (.ite (toLeg hans (h.setFld ⟨Reg.cirActive (Frame.circuit q.frame) 3, 0, 24⟩ _ hlast) q _)
      (.ite ((h.count Reg.cirGap rfl).releaseStored q) ((h.count Reg.cirDup rfl).releaseStored q))) (toLeg hans h q _)

theorem multicast (h : Routed s t) (q : QFrame) : Routed s (multicast ans q t) := by
  have hcopied := h.copiesTo [8, 9, 10, 11, 12, 13] q
  exact .ite ((h.discard Reg.mcDrop _ _ _ rfl).releaseStored q)
    (.ite (reorder hans (.releaseStored hcopied.modSwc q) _) (hcopied.deliverCopies q))

theorem routeByTable (h : Routed s t) (q : QFrame) : Routed s (routeByTable ans q t) := by
  have hgone := (h.count Reg.unreach rfl).releaseStored q
  exact .ite (.ite (hans _ _ hgone) hgone) (.ite (h.enqueue _) ((h.noteSpray _ _).enqueue _))

theorem routeOn (h : Routed s t) (q : QFrame) : Routed s (routeOn ans q t) :=
  .ite (routeCircuit hans h q) (.ite (multicast hans h q) (.ite (deliver hans h q) (routeByTable hans h q)))

end

/-! Requests of the chip's own units (R104, R154). -/

section
variable {s t : State}

theorem answerErr (h : Routed s t) (f : Frame) (code : Nat) : Routed s (answerErr f code t) :=
  .ite (h.modSwc.discard Reg.hdrBad _ _ _ rfl) (routeOn (fun _ _ _ h => h) h.modSwc _)

theorem enterRequest (h : Routed s t) (q : QFrame) : Routed s (enterRequest q t) := by
  have hunreach := h.count Reg.unreach rfl
  unfold Machine.enterRequest
  refine .ite ((hunreach.releaseStored q).answerErr _ _) ?_
  split
  · exact .answerErr (.releaseStored (.ite hunreach h) q) _ _
  · have hnoted : ∀ e : EdgeReq, Routed s (t.modSwc fun w => if w.edgeOut.any (fun x => decide (x.port = q.ing) &&
        decide (x.tag = Frame.tag q.frame) && decide (x.seq = Frame.seq q.frame)) then w else { w with edgeOut := w.edgeOut ++ [e] }) :=
      fun e => h.modSwc fun w => by split <;> rfl
    exact .ite (.modSwc (.ite (hnoted _) h)) (routeOn (fun f code _ h => h.answerErr f code) (.ite (hnoted _) h) _)

theorem sendRequest (h : Routed s t) (wing : Nat) (f : Frame) : Routed s (sendRequest wing f t) := enterRequest h.modSwc _

end

end Routed

/-! A request whose attempt is over (R155). -/

/-- The chip's own requests with one of them sent again. -/
def againSent (r : OwnReq) (s : State) : State :=
  s.modSwc fun w => { w with own := w.own.map fun o => if o = r then { r with attempts := r.attempts + 1, sentAt := s.now } else o }

/-- Another attempt: the request is sent again, and counted. -/
theorem attemptOver_of_allowed {r : OwnReq} {s : State} (hleft : r.attempts ≤ s.fld Reg.e2eRetries) (hwhy : r.why ≠ .brk) :
    attemptOver r s = sendRequest (ownWing s r.why) r.frame ((againSent r s).count Reg.e2eRetry) := if_pos ⟨hleft, hwhy⟩

/-- The words that another attempt writes. -/
def attemptWord (b : Nat) : Bool := routedWord b || decide (b = Reg.e2eRetry.off)

section
variable {r : OwnReq} {s : State} (hleft : r.attempts ≤ s.fld Reg.e2eRetries) (hwhy : r.why ≠ .brk)
include hleft hwhy

theorem routed_attemptOver : Routed ((againSent r s).count Reg.e2eRetry) (attemptOver r s) :=
  attemptOver_of_allowed hleft hwhy ▸ (Routed.refl _).sendRequest _ _

theorem own_attemptOver : (attemptOver r s).swc.own = (againSent r s).swc.own := (routed_attemptOver hleft hwhy).own

theorem fld_e2eRetry_attemptOver : (attemptOver r s).fld Reg.e2eRetry = (s.fld Reg.e2eRetry + 1) % 2 ^ 48 :=
  ((routed_attemptOver hleft hwhy).words.fld rfl).trans (fld_count_same _ (by decide))

theorem same_attemptOver {p : Part} (hp : p ∉ [Part.regs, .links, .swc]) : p.same s (attemptOver r s) := by
  have head := may_head
  have tail := may_tail
  rw [attemptOver_of_allowed hleft hwhy]
  exact (keeps_sendRequest (W := (· ∈ [Part.regs, .links, .swc])) _ _ _ (keeps_State_count _ _ (keeps_with_swc s _ (.rfl' s)))).same p hp

/-- Another attempt leaves nothing waiting at the sequencers. -/
theorem quiet_attemptOver (hq : quiet s = true) : quiet (attemptOver r s) = true := by
  have hcounted : WordsOutside attemptWord s ((againSent r s).count Reg.e2eRetry) := ((WordsOutside.refl s).modSwc _).setFld _ rfl
  have hwords := hcounted.trans ((routed_attemptOver hleft hwhy).words.mono fun b hb => (Bool.or_eq_false_iff.mp hb).left)
  refine quiet_of_words hq (same_attemptOver hleft hwhy (p := .cue) (by decide)) hwords fun b hlo _ => ?_
  have hretry : Reg.e2eRetry.off = 0x800168 := rfl
  rw [attemptWord, not_routedWord_of_ge (by omega), decide_eq_false (by omega), Bool.or_false]

end

/-! Responses to own requests (R156). -/

theorem execResponseReceive_of_quiet {f : Frame} {h : InFrame} {s : State} (hlive : linksLive s = true) (hh : inboxOf s f = some h)
    (his : isResponse f = true) (hq : quiet (takeResponse f (dropInbox h s)) = true) :
    exec (.responseReceive f) s = .next (takeResponse f (dropInbox h s)) := by
  change execResponseReceive f s = _
  simp only [execResponseReceive, takeFrom, hh, hlive, his, and_self, if_true, resumeAll_of_quiet hq]

theorem quiet_count_dupRsp {s : State} (hq : quiet s = true) : quiet (s.count Reg.dupRsp) = true := by
  have hwords : WordsOutside (fun b => decide (b = 0x800180)) s (s.count Reg.dupRsp) := (WordsOutside.refl s).setFld _ rfl
  exact quiet_of_words hq rfl hwords fun b hlo _ => decide_eq_false (by omega)

/-- A response that ends no request is counted. -/
theorem takeResponse_of_unmatched {f : Frame} {s : State}
    (hown : s.swc.own.find? (fun o => decide (Frame.tag o.frame = Frame.tag f ∧ Frame.seq o.frame = Frame.seq f)) = none) :
    takeResponse f s = s.count Reg.dupRsp := by
  simp only [takeResponse, hown]

theorem takeResponse_of_matched {f : Frame} {r : OwnReq} {s : State} (hok : Frame.type f ≠ tyRspErr)
    (hown : s.swc.own.find? (fun o => decide (Frame.tag o.frame = Frame.tag f ∧ Frame.seq o.frame = Frame.seq f)) = some r) :
    takeResponse f s = ownEnds r.why f.payload 0 (dropOwn r s) := by
  simp only [takeResponse, hown, if_pos hok]

/-- With no request held back, a request that ends only leaves the list. -/
theorem dropOwn_of_no_wait (r : OwnReq) {s : State} (h : s.swc.ownWait = []) :
    dropOwn r s = s.modSwc fun w => { w with own := w.own.erase r } := by
  simp only [dropOwn, sendWaiting, State.modSwc, h, List.find?_nil]

/-- The answer to a mirror write counts at its hold (R214). -/
theorem ownEnds_mirror (k g : Nat) (data : List Byte) (s : State) :
    (ownEnds (.mirror k g) data 0 s).mem.holds = s.mem.holds.map fun x => if x.id = k then { x with left := x.left - 1 } else x :=
  rfl

theorem execE2eTimeoutExpiry_of_over {tag : Fin 1048576} {r : OwnReq} {s : State} (hlive : linksLive s = true)
    (hr : s.swc.own.find? (fun o => decide (Frame.tag o.frame = tag)) = some r) (hover : e2eOver s r = true)
    (hq : quiet (attemptOver r s) = true) : exec (.e2eTimeoutExpiry tag) s = .next (attemptOver r s) := by
  change execE2eTimeoutExpiry tag s = _
  simp only [execE2eTimeoutExpiry, hr, hlive, hover, and_self, if_true, resumeAll_of_quiet hq]

/-! A notice at the head of a circuit (R177). -/

/-- GUARD_LOST at the head of a circuit in PRIMARY (Table 06-2). -/
theorem takeNotice_guardLost {ing c : Nat} {payload : List Byte} {s : State} (hc : leAt payload 0 2 = c) (hlt : c < 4096)
    (hkind : leAt payload 2 1 = kindGuardLost) (hvalid : cirValid s c = true) (hhead : cirRole s c % 2 = 1) (hst : cirState s c = 0) :
    takeNotice ing payload s = setCirState c 1 s := by
  have hmove : kindGuardLost ≠ kindMove := by decide
  simp [takeNotice, headNotice, hc, hkind, Nat.mod_eq_of_lt hlt, hvalid, hhead, hst, hmove]

theorem cirState_setCirState_same (c st : Nat) (s : State) : cirState (setCirState c st s) c = st % 2 ^ 2 :=
  fld_setFld_same s ⟨Reg.cirActive c 0, 4, 2⟩ st (show 4 + 2 ≤ 64 by decide)

theorem execCircuitNoticeReceive_of_notice {f : Frame} {h : InFrame} {s : State} (hlive : linksLive s = true)
    (hh : inboxOf s f = some h) (his : isCircuitNotice f = true) :
    exec (.circuitNoticeReceive f) s = .next (takeNotice h.ing f.payload (dropInbox h s)) := by
  change execCircuitNoticeReceive f s = _
  simp only [execCircuitNoticeReceive, hh, hlive, his, and_self, if_true]

/-! The staged bank (R184, R188). -/

/-- A read of a table from which entries were dropped: the default where the key is dropped, else as before. -/
theorem Tab.get_filter {α : Type} (d : Nat → α) (p : Nat → Bool) (t : Tab α) (k : Nat) :
    Tab.get d (t.filter fun e => p e.1) k = if p k then Tab.get d t k else d k := by
  induction t with
  | nil => simp [Tab.get]
  | cons e t ih =>
    by_cases hk : e.1 = k
    · cases hp : p k <;> simp_all [Tab.get]
    · cases hp : p e.1 <;> simp_all [Tab.get]

/-- A word of the staged bank. -/
def stagedBankWord (b : Nat) : Bool := decide (0x880000 ≤ b ∧ b < 0x8A0000) || decide (0x8C0000 ≤ b ∧ b < 0x8C0070)

theorem regs_clearStaged (s : State) : (clearStaged s).regs = s.regs.filter fun e => !stagedBankWord e.1 := by
  simp only [clearStaged, stagedBankWord, Bool.not_or]

theorem word_clearStaged (s : State) (b : Nat) : (clearStaged s).word b = if stagedBankWord b then resetWord s.code b else s.word b := by
  rw [State.word, regs_clearStaged, Tab.get_filter (resetWord (clearStaged s).code) fun b => !stagedBankWord b]
  cases stagedBankWord b <;> rfl

theorem stagedBankWord_cirStaged (c : Fin 4096) (j : Fin 4) : stagedBankWord (Reg.cirStaged c j) = true := by
  have hoff : Reg.cirStaged c j = 0x880000 + 0x20 * c.val + 8 * j.val := rfl
  rw [stagedBankWord, decide_eq_true (by omega), Bool.true_or]

theorem stagedBankWord_cirActive (c : Fin 4096) (j : Fin 4) : stagedBankWord (Reg.cirActive c j) = false := by
  have hoff : Reg.cirActive c j = 0x8A0000 + 0x20 * c.val + 8 * j.val := rfl
  rw [stagedBankWord, decide_eq_false (by omega), decide_eq_false (by omega), Bool.or_false]

/-- The registers below the staged bank stay. -/
theorem regs_clearStaged_below (s : State) :
    (clearStaged s).regs.filter (fun e => decide (e.1 < 0x880000)) = s.regs.filter fun e => decide (e.1 < 0x880000) := by
  rw [regs_clearStaged, List.filter_filter]
  refine List.filter_congr fun e _ => ?_
  by_cases he : e.1 < 0x880000
  · have hbelow : stagedBankWord e.1 = false := by
      rw [stagedBankWord, decide_eq_false (by omega), decide_eq_false (by omega), Bool.or_false]
    rw [hbelow, Bool.not_false, Bool.and_true]
  · rw [decide_eq_false he, Bool.false_and]

/-- The circuit table is 0 at power-on (Table 06-5). -/
theorem resetWord_circuitTable (code : PartCode) {b : Nat} (hlo : 0x880000 ≤ b) (hhi : b < 0x900000) : resetWord code b = 0 := by
  have hblock : resetNat code b = resetSwc b := by
    unfold resetNat
    iterate 5 rw [if_neg (by omega)]
    rw [if_pos (by omega)]
  have hswc : resetSwc b = 0 := by
    unfold resetSwc
    split
    case h_14 => rfl
    all_goals exact absurd hlo (by decide)
  rw [resetWord, hblock, hswc]
  rfl

/-! The commands. -/

/-- Settles O30: each command is its function of the state, after which nothing waits at the sequencers. -/
theorem ownRequestsEnd : Obligations.OwnRequestsEnd := by
  refine ⟨?again, ?unmatched, ?ended, ?guardLost, ?cleared⟩
  case again =>
    intro s tag r hlive hq hr hover hleft hwhy
    exact ⟨_, execE2eTimeoutExpiry_of_over hlive hr hover (quiet_attemptOver hleft hwhy hq), own_attemptOver hleft hwhy,
      fld_e2eRetry_attemptOver hleft hwhy, same_attemptOver hleft hwhy (p := .mem) (by decide)⟩
  case unmatched =>
    intro s f h hlive hq hh his hown
    have htaken : takeResponse f (dropInbox h s) = (dropInbox h s).count Reg.dupRsp := takeResponse_of_unmatched hown
    have hexec := execResponseReceive_of_quiet hlive hh his (htaken ▸ quiet_count_dupRsp (s := dropInbox h s) hq)
    rw [htaken] at hexec
    exact ⟨_, hexec, fld_count_same _ (by decide), rfl, rfl, rfl⟩
  case ended =>
    intro s f h r k g hlive hq hh his hok hown hwhy hwait
    have htaken : takeResponse f (dropInbox h s) =
        ownEnds (.mirror k g) f.payload 0 ((dropInbox h s).modSwc fun w => { w with own := w.own.erase r }) := by
      rw [takeResponse_of_matched (s := dropInbox h s) hok hown, dropOwn_of_no_wait (s := dropInbox h s) r hwait, hwhy]
    have hexec := execResponseReceive_of_quiet hlive hh his (htaken ▸ hq)
    rw [htaken] at hexec
    exact ⟨_, hexec, rfl, rfl, ownEnds_mirror k g f.payload _⟩
  case guardLost =>
    intro s f h c hlive hh his hc hkind hvalid hhead hst
    have htaken : takeNotice h.ing f.payload (dropInbox h s) = setCirState c 1 (dropInbox h s) :=
      takeNotice_guardLost hc c.isLt hkind hvalid hhead hst
    have hexec := execCircuitNoticeReceive_of_notice hlive hh his
    rw [htaken] at hexec
    exact ⟨_, hexec, cirState_setCirState_same c 1 _, rfl, rfl, rfl⟩
  case cleared =>
    intro s c j hlive
    refine ⟨_, next_if_pos hlive, ?staged, ?active, ?regs, rfl⟩
    case staged =>
      have hoff : Reg.cirStaged c j = 0x880000 + 0x20 * c.val + 8 * j.val := rfl
      rw [word_clearStaged, stagedBankWord_cirStaged, if_pos rfl, resetWord_circuitTable _ (by omega) (by omega)]
    case active => rw [word_clearStaged, stagedBankWord_cirActive, if_neg (by decide)]
    case regs => exact regs_clearStaged_below s

end Sys2Proof.Machine
end

section
/-! Capsules: how they arrive, are judged and end, and what the Call Board leaves of the registers (R367, R378, R380, R443 to R446). -/
namespace Sys2Proof.Machine

/-! Parts that a command leaves. -/

theorem mem_of_exec {c : Instr} {s t : State} (h : exec c s = .next t) (hc : (changes c).contains .mem = false) : t.mem = s.mem :=
  (keeps_exec h).same .mem fun hm => absurd (List.contains_iff_mem.mpr hm) (by rw [hc]; decide)

theorem links_of_exec {c : Instr} {s t : State} (h : exec c s = .next t) (hc : (changes c).contains .links = false) : t.links = s.links :=
  (keeps_exec h).same .links fun hm => absurd (List.contains_iff_mem.mpr hm) (by rw [hc]; decide)

/-! The Call Board's registers. -/

/-- CB_STATE, CMD_SEQ, CB_JOURNAL and the journal: what an input or a write that a stage applies changes, the stage's LAST_SEQ apart. -/
def boardWord (b : Nat) : Bool := decide (b = 0 ∨ b = 0x70 ∨ b = 0x180 ∨ 0x10000 ≤ b ∧ b < 0x30000)

theorem boardWord_journalWord {j i : Nat} (hj : j < 4096) (hi : i < 4) : boardWord (Reg.journalWord j i) = true := by
  have hoff : Reg.journalWord j i = 0x10000 + 0x20 * j + 8 * i := rfl
  exact decide_eq_true (by omega)

namespace WordsOutside

variable {P : Nat → Bool} {s t : State}

theorem startCheckpoint (h : WordsOutside P s t) : WordsOutside P s (startCheckpoint t) := by
  unfold Machine.startCheckpoint
  split
  · exact h
  · exact h.modBoard _
  · exact h.modBoard _

theorem noteVolume (h : WordsOutside boardWord s t) : WordsOutside boardWord s (noteVolume t) := by
  unfold Machine.noteVolume
  extract_lets beyond drop dropped s'
  have hdrop {t : State} (w : Who) (h : WordsOutside boardWord s t) : WordsOutside boardWord s (drop w t) :=
    .ite (h.setFld (f := Reg.cbState w.idx) _ rfl) h
  have hdropped : WordsOutside boardWord s s' := hdrop .b (hdrop .a h)
  exact .ite hdropped.startCheckpoint hdropped

theorem admitOne (h : WordsOutside boardWord s t) (i : Input) : WordsOutside boardWord s (admitOne i t) := by
  have hcounted : WordsOutside boardWord s (t.count Reg.cmdSeq) := h.setFld _ rfl
  unfold Machine.admitOne
  extract_lets t1 n log t2 give
  have hgive {t : State} (w : Who) (h : WordsOutside boardWord s t) : WordsOutside boardWord s (give w t) := .ite (h.modBoard _) h
  exact (hgive .b (hgive .a (hcounted.modBoard _))).noteVolume

theorem intake (h : WordsOutside boardWord s t) (i : Input) : WordsOutside boardWord s (intake i t) := .ite h (h.admitOne i)

theorem admitWaiting (h : WordsOutside boardWord s t) (n : Nat) : WordsOutside boardWord s (admitWaiting n t) := by
  induction n generalizing t with
  | zero => exact h
  | succ n ih =>
    unfold Machine.admitWaiting
    split
    · exact h
    · exact .ite h (ih (.admitOne (t := t.modBoard _) h _))

theorem journal (h : WordsOutside boardWord s t) (k seq claim off value : Nat) :
    WordsOutside boardWord s (journal k seq claim off value t) := by
  have hj : (t.fld Reg.journalOldest + t.fld Reg.journalHeld) % 4096 < 4096 := Nat.mod_lt _ (by decide)
  have hheld : WordsOutside boardWord s (if t.fld Reg.journalHeld < 4096 then t.setFld Reg.journalHeld (t.fld Reg.journalHeld + 1)
      else t.setFld Reg.journalOldest ((t.fld Reg.journalOldest + 1) % 4096)) := .ite (h.setFld _ rfl) (h.setFld _ rfl)
  exact (((hheld.setWord _ (boardWord_journalWord hj (by decide))).setWord _ (boardWord_journalWord hj (by decide))).setWord _
    (boardWord_journalWord hj (by decide))).setWord _ (boardWord_journalWord hj (by decide))

/-- A write that stage `k` applies changes its LAST_SEQ beside. -/
theorem stageAccept (k : Nat) (e : SideEffect) (s : State) :
    WordsOutside boardWord (s.setFld (Reg.osLast k) ((s.fld (Reg.osLast k) + 1) % 2 ^ 32)) (stageAccept k e s) := by
  unfold Machine.stageAccept Machine.admitAll
  exact (((WordsOutside.refl _).journal k _ _ _ _).modBoard _).noteVolume.admitWaiting _

end WordsOutside

/-- The words that an applied write of stage `k` changes. -/
def stageWord (k b : Nat) : Bool := boardWord b || decide (b = (Reg.osLast k).off)

theorem wordsOutside_stageAccept (k : Nat) (e : SideEffect) (s : State) : WordsOutside (stageWord k) s (stageAccept k e s) := by
  have hlast : WordsOutside (stageWord k) s (s.setFld (Reg.osLast k) ((s.fld (Reg.osLast k) + 1) % 2 ^ 32)) :=
    (WordsOutside.refl s).setFld _ (by rw [stageWord, decide_eq_true rfl, Bool.or_true])
  exact hlast.trans ((WordsOutside.stageAccept k e s).mono fun b hb => (Bool.or_eq_false_iff.mp hb).left)

/-- A write that a stage applies counts in its LAST_SEQ (R378). -/
theorem fld_osLast_stageAccept {k : Nat} (hk : k < 8) (e : SideEffect) (s : State) :
    (stageAccept k e s).fld (Reg.osLast k) = (s.fld (Reg.osLast k) + 1) % 2 ^ 32 := by
  have hoff : (Reg.osLast k).off = 0x100 + 8 * k := rfl
  have hout : boardWord (Reg.osLast k).off = false := decide_eq_false (by omega)
  rw [(WordsOutside.stageAccept k e s).fld hout, fld_setFld_same _ _ _ (by decide : 0 + 32 ≤ 64)]
  exact Nat.mod_mod _ _

theorem throughStage_of_active {k : Nat} {e : SideEffect} {act : State → State} {s : State} (h : (activePrompter s).isNone = false) :
    throughStage k e act s = act (stageAccept k e s) := by
  rw [throughStage, h]
  rfl

theorem wordsOutside_throughStage {P : Nat → Bool} {k : Nat} {e : SideEffect} {act : State → State} {s : State}
    (hstage : ∀ b, P b = false → stageWord k b = false) (hact : ∀ {t}, WordsOutside P s t → WordsOutside P s (act t)) :
    WordsOutside P s (throughStage k e act s) :=
  .ite (.refl s) (hact ((wordsOutside_stageAccept k e s).mono hstage))

section
variable {p : Part}

theorem same_stageAccept (hp : p ∉ [Part.regs, .board]) (k : Nat) (e : SideEffect) (s : State) : p.same s (stageAccept k e s) := by
  have head := may_head
  have tail := may_tail
  exact (keeps_stageAccept (W := (· ∈ [Part.regs, .board])) k e s (.rfl' s)).same p hp

theorem same_intake (hp : p ∉ [Part.regs, .board]) (i : Input) (s : State) : p.same s (intake i s) := by
  have head := may_head
  have tail := may_tail
  exact (keeps_intake (W := (· ∈ [Part.regs, .board])) i s (.rfl' s)).same p hp

theorem same_complete (hp : p ∉ [Part.regs, .board, .outbox]) (c : Capsule) (status result err : Nat) (key : Option (BitVec 256))
    (s : State) : p.same s (complete c status result err key s) := by
  have head := may_head
  have tail := may_tail
  exact (keeps_complete (W := (· ∈ [Part.regs, .board, .outbox])) c status result err key s (.rfl' s)).same p hp

theorem same_secAlert (hp : p ∉ [Part.regs, .host, .outbox]) (code : Nat) (s : State) : p.same s (secAlert code s) := by
  have head := may_head
  have tail := may_tail
  exact (keeps_secAlert (W := (· ∈ [Part.regs, .host, .outbox])) code s (.rfl' s)).same p hp

end

/-! Completions (R446). -/

/-- SEC_CAP_GO, SEC_CAP_RSP and what a write of stage 6 changes: the words that a completion writes. -/
def completionWord (b : Nat) : Bool := stageWord 6 b || decide (b = 0x100080 ∨ 0x103000 ≤ b ∧ b < 0x103038)

theorem completionWord_secWord {b : Nat} (h : b = 0x100080 ∨ 0x103000 ≤ b ∧ b < 0x103038) : completionWord b = true := by
  rw [completionWord, decide_eq_true h, Bool.or_true]

/-- No other word is one of a completion. -/
theorem not_completionWord {b : Nat} (hboard : boardWord b = false) (hlast : b ≠ 0x130)
    (hsec : ¬ (b = 0x100080 ∨ 0x103000 ≤ b ∧ b < 0x103038)) : completionWord b = false := by
  have hoff : (Reg.osLast 6).off = 0x130 := rfl
  rw [completionWord, stageWord, hboard, hoff, decide_eq_false hlast, decide_eq_false hsec]
  rfl

theorem wordsOutside_complete (c : Capsule) (status result err : Nat) (key : Option (BitVec 256)) (s : State) :
    WordsOutside completionWord s (complete c status result err key s) := by
  have hgo : completionWord 0x100080 = true := completionWord_secWord (.inl rfl)
  have hshown : WordsOutside completionWord s (((s.setFld Reg.capBusy 0).setFld Reg.capStatus status).setFld Reg.capResult result) :=
    (((WordsOutside.refl s).setFld _ hgo).setFld _ hgo).setFld _ hgo
  have hrsp : ∀ i ∈ List.range 7, completionWord (Reg.capRsp i) = true := fun i hi => by
    have hoff : Reg.capRsp i = 0x103000 + 8 * i := rfl
    have hlt : i < 7 := List.mem_range.mp hi
    exact completionWord_secWord (by omega)
  have hstage {t : State} {e : SideEffect} {act : State → State} (h : WordsOutside completionWord s t)
      (hact : ∀ t b, (act t).word b = t.word b) : WordsOutside completionWord s (throughStage 6 e act t) :=
    h.trans (wordsOutside_throughStage (fun b hb => (Bool.or_eq_false_iff.mp hb).left) fun h b hb => (hact _ b).trans (h b hb))
  have hwindow := hshown.forEach fun i hi _ h => h.setWord (BitVec.ofNat 64 (leAt (completionBytes c status result err key) (8 * i) 8))
    (hrsp i hi)
  have hbefore := hwindow.ite (c := c.via = .window) (.refl s)
  exact .ite hbefore (hstage hbefore fun _ _ => rfl)

/-! The engine (R443). -/

section
variable {s : State}

theorem judgeOn_of_no_waiting (h : s.sec.waiting = []) : judgeOn s = s := by
  rw [judgeOn, h]
  rfl

theorem judgeOn_of_busy (h : engineBusy s = true) : judgeOn s = s := by
  rw [judgeOn]
  cases hwaiting : s.sec.waiting with
  | nil => rfl
  | cons c t => simp only [List.length_cons, judgeWaiting, hwaiting, h, if_true]

/-- With the engine busy, a capsule that arrives waits. -/
theorem arriveCapsule_of_busy (c : Capsule) (h : engineBusy s = true) :
    arriveCapsule c s = s.modSec fun k => { k with waiting := k.waiting ++ [c] } :=
  judgeOn_of_busy (s := s.modSec fun k => { k with waiting := k.waiting ++ [c] }) h

/-- With the engine free and nothing waiting, a capsule that arrives is judged. -/
theorem arriveCapsule_of_free (c : Capsule) (h : engineBusy s = false) (hwaiting : s.sec.waiting = []) :
    arriveCapsule c s = judgeCapsule c s := by
  have hbusy : engineBusy (s.modSec fun k => { k with waiting := [c] }) = false := h
  have htaken : s.modSec (fun k => { k with waiting := [] }) = s := by rw [State.modSec, ← hwaiting]
  have hone : judgeOn (s.modSec fun k => { k with waiting := [c] }) = judgeCapsule c (s.modSec fun k => { k with waiting := [] }) := by
    change (if engineBusy (s.modSec fun k => { k with waiting := [c] }) then _ else _) = _
    rw [hbusy]
    rfl
  have hqueued : s.modSec (fun k => { k with waiting := k.waiting ++ [c] }) = s.modSec fun k => { k with waiting := [c] } := by
    simp only [State.modSec, hwaiting, List.nil_append]
  rw [arriveCapsule, hqueued, hone, htaken]

/-- A refused capsule changes, of what the engine holds, its holds alone. -/
theorem sec_refuseCapsule {α : Type} {p : Sec → α} (hp : ∀ k l, p { k with holds := l } = p k) (c : Capsule) (status : Nat) :
    p (refuseCapsule c status s).sec = p s.sec := by
  have hcomplete {result err : Nat} {key : Option (BitVec 256)} (t : State) : (complete c status result err key t).sec = t.sec :=
    same_complete (p := .sec) (by decide) c status result err key t
  have halert (code : Nat) (t : State) : (secAlert code t).sec = t.sec := same_secAlert (p := .sec) (by decide) code t
  unfold refuseCapsule
  split
  · rw [hcomplete, halert]
    exact hp _ _
  · split
    · rw [hcomplete, halert]
      rfl
    · rw [hcomplete]

/-- A judged capsule goes to the counter store when it passes, and nowhere else. -/
theorem judgeCapsule_acts (c : Capsule) (h : engineBusy s = false) :
    (judgeCapsule c s).sec.storing = (if capVerdict s c = none then some c else none) ∧ (judgeCapsule c s).sec.accepted = none := by
  obtain ⟨hstoring, haccepted⟩ := Bool.or_eq_false_iff.mp h
  rw [Option.isSome_eq_false_iff, Option.isNone_iff_eq_none] at hstoring haccepted
  unfold judgeCapsule
  cases hv : capVerdict s c with
  | none => exact ⟨rfl, haccepted⟩
  | some status =>
    exact ⟨(sec_refuseCapsule (p := Sec.storing) (fun _ _ => rfl) c status).trans hstoring,
      (sec_refuseCapsule (p := Sec.accepted) (fun _ _ => rfl) c status).trans haccepted⟩

/-- What a capsule that ends leaves: the engine is free of it, and only the words of its completion differ. -/
structure Finished (s t : State) : Prop where
  sec : t.sec = { s.sec with accepted := none }
  swc : t.swc = s.swc
  words : WordsOutside completionWord s t

theorem Finished.accepted {s t : State} (h : Finished s t) : t.sec.accepted = none := congrArg Sec.accepted h.sec

theorem finishCapsule_finished (c : Capsule) (status result err : Nat) (key : Option (BitVec 256)) (h : s.sec.waiting = []) :
    Finished s (finishCapsule c status result err key s) := by
  have hsec : (complete c status result err key (s.modSec fun k => { k with accepted := none })).sec = { s.sec with accepted := none } :=
    same_complete (p := .sec) (by decide) c status result err key _
  rw [finishCapsule, judgeOn_of_no_waiting ((congrArg Sec.waiting hsec).trans h)]
  exact ⟨hsec, same_complete (p := .swc) (by decide) c status result err key _,
    wordsOutside_complete c status result err key (s.modSec fun k => { k with accepted := none })⟩

end

/-! Arrival (R442, R453, R474). -/

section
variable {s : State} {via : Transport} {bytes : List Byte}

/-- A capsule comes in by a port with an EID. -/
theorem receiveCapsule_of_ready {p : Port} (hp : transportPort via = some p) (hready : portReady s p = true)
    (hlen : bytes.length ≤ 4108) : receiveCapsule via bytes s = arriveCapsule { via := via, bytes := bytes } s := by
  rw [receiveCapsule, hp]
  cases p with
  | relay r d => exact absurd hready (by simp [portReady, portUp])
  | tray => exact if_pos ⟨hready, hlen⟩
  | vdm => exact if_pos ⟨hready, hlen⟩
  | rack => exact if_pos ⟨hready, hlen⟩

/-- SEC_CAP_GO with a capsule in SEC_CAP_WIN. -/
theorem receiveCapsule_window (hlo : 56 ≤ bytes.length) (hhi : bytes.length ≤ 2104) (hbusy : s.fld Reg.capBusy = 0) :
    receiveCapsule .window bytes s =
      arriveCapsule { via := .window, bytes := Tab.getRange (fun _ => 0) (Tab.setRange (fun _ => 0) s.sec.win 0 bytes) 0 bytes.length }
        ((capWindow 0 bytes s).raise Reg.capBusy) := by
  have hflag : (capWindow 0 bytes s).flag Reg.capBusy = false := flag_eq_false hbusy
  have htaken : receiveCapsule .window bytes s = capGo bytes.length (capWindow 0 (bytes.take 4096) s) := rfl
  have hgo : ¬ ((capWindow 0 bytes s).flag Reg.capBusy ∨ bytes.length < 56 ∨ 2104 < bytes.length) := by
    rintro (hset | hshort | hlong)
    · exact absurd hset (by rw [hflag]; decide)
    · omega
    · omega
  rw [htaken, List.take_of_length_le (by omega), capGo, if_neg hgo]
  rfl

end

end Sys2Proof.Machine
end

section
/-! What accepted capsules order: safety limits, keys, Acts and plans (R146, R185, R186, R443, R447, R449, R450). -/
namespace Sys2Proof.Machine

/-! Numbers of a payload. -/

theorem leNat_lt (bs : List Byte) : leNat bs < 256 ^ bs.length := by
  induction bs with
  | nil => decide
  | cons b bs ih =>
    have hb : b.toNat < 256 := b.isLt
    rw [leNat, List.length_cons, Nat.pow_succ']
    omega

theorem leAt_lt (bs : List Byte) (i n : Nat) : leAt bs i n < 256 ^ n :=
  Nat.lt_of_lt_of_le (leNat_lt _) (Nat.pow_le_pow_right (by decide) (List.length_take_le _ _))

/-! The counter store (R443, R444). -/

section
variable {s : State} {c : Capsule}

theorem execCounterStoreComplete_of_storing (ok : Bool) (hin : s.house.input = true) (hc : s.sec.storing = some c) :
    exec (.counterStoreComplete ok) s = .next (counterStored ok c s) := by
  have hlive : islandLive s = true := hin
  change execCounterStoreComplete ok s = _
  simp only [execCounterStoreComplete, hc, hlive, if_true]

/-- The state with a stored counter and its capsule the accepted one. -/
def hostAccepted (c : Capsule) (s : State) : State :=
  (s.setFld Reg.hostCtr (Cap.counter c.bytes)).modSec fun k => { k with storing := none, accepted := some c }

/-- A capsule of the host that some command carries out enters the intake. -/
theorem acceptCapsule_of_host (hvia : viaCommander c.via = cpHost) (hrec : s.fld Reg.recovery = 0) (hpower : Cap.kind c.bytes ≠ kPower)
    (hfw : Cap.kind c.bytes ≠ kFw) : acceptCapsule c s = intake (.capsule c.bytes) (hostAccepted c s) := by
  have hrack : cpHost ≠ cpRack := by decide
  have hflag : (intake (.capsule c.bytes) (hostAccepted c s)).flag Reg.recovery = false := by
    rw [((WordsOutside.refl _).intake _).flag rfl]
    exact flag_eq_false ((fld_setFld_apart s _ rfl).trans hrec)
  simp only [acceptCapsule, hvia, if_true, hrack, if_false, hpower, hfw, false_and]
  exact if_neg fun ⟨hset, _⟩ => absurd hset (by rw [hostAccepted] at hflag; rw [hflag]; decide)

/-- A stored counter becomes the last of the host. -/
theorem intake_hostAccepted_acts (i : Input) :
    (intake i (hostAccepted c s)).fld Reg.hostCtr = Cap.counter c.bytes ∧
    (intake i (hostAccepted c s)).sec = { s.sec with storing := none, accepted := some c } := by
  refine ⟨?counter, same_intake (p := .sec) (by decide) i _⟩
  case counter =>
    rw [((WordsOutside.refl _).intake i).fld rfl, hostAccepted, fld_State_modSec, fld_setFld_same _ _ _ (by decide)]
    exact Nat.mod_eq_of_lt (leAt_lt _ 16 8)

/-- The state whose counter store has failed. -/
def storeFailed (s : State) : State := (s.modSec fun k => { k with storing := none }).raise Reg.storeFail

/-- A failed store ends the capsule. -/
theorem counterStored_failed (hwaiting : s.sec.waiting = []) :
    counterStored false c s = complete c csStoreFail 0 0 (judgeKey s c) (storeFailed s) := by
  have hsec : (complete c csStoreFail 0 0 (judgeKey s c) (storeFailed s)).sec = (storeFailed s).sec :=
    same_complete (p := .sec) (by decide) ..
  exact judgeOn_of_no_waiting ((congrArg Sec.waiting hsec).trans hwaiting)

end

/-! Carrying out (R446). -/

section
variable {s : State} {c : Capsule} {kind : Nat}

theorem next_carryOut {run : Capsule → State → State} (hin : s.house.input = true) (hc : acceptedOf s kind = some c) :
    (Host.Outcome.next (if islandLive s then carryOut kind run s else s) : Host.Outcome State Fault Refusal) = .next (run c s) := by
  have hlive : islandLive s = true := hin
  simp only [hlive, if_true, carryOut, hc]

/-- Only an FW_UPDATE is carried out without an ACTIVE Prompter. -/
theorem active_of_acceptedOf (hc : acceptedOf s kind = some c) (hkind : kind ≠ kFw) : (activePrompter s).isNone = false := by
  unfold acceptedOf at hc
  split at hc
  · next a _ =>
    split at hc
    · next hwho =>
      rcases hwho.right with hsome | ⟨-, hfw⟩
      · rw [← Option.not_isSome, hsome]
        rfl
      · exact absurd hfw hkind
    · exact absurd hc nofun
  · exact absurd hc nofun

end

/-! Safety limits (R447). -/

/-- THM_THRESH with a value (R434). -/
def thresholdsWritten (v : Nat) (s : State) : State := (s.setFld Reg.threshL1 v).setFld Reg.threshL2 (v / 256)

theorem safetyWrite_thresholds (v : Nat) (s : State) : safetyWrite 0x2100018 v s = thresholdsWritten v s := rfl

section
variable {s : State} {c : Capsule}

/-- A SAFETY_CONFIG of one entry for THM_THRESH goes through stage 5. -/
theorem runSafety_of_thresholds {v : Nat} (hactive : (activePrompter s).isNone = false)
    (hentries : safetyEntries (Cap.payload c.bytes) = [(0x2100018, 0, v)])
    (hok : safetyAccepted s (viaCommander c.via) (Cap.payload c.bytes) = true) :
    runSafety c s = finishCapsule c csOk 0 0 (judgeKey s c)
      (thresholdsWritten v (stageAccept 5 (.reg 0x2100018 (leBytes 8 v)) s)) := by
  simp only [runSafety, hok, if_true, hentries, forEach, throughStage_of_active hactive, safetyWrite_thresholds]

theorem runSafety_of_refused (hno : safetyAccepted s (viaCommander c.via) (Cap.payload c.bytes) = false) :
    runSafety c s = finishCapsule c csRefused reState 0 (judgeKey s c) s := by
  simp only [runSafety, hno, Bool.false_eq_true, if_false]

theorem thresholds_acts (v : Nat) (e : SideEffect) :
    (thresholdsWritten v (stageAccept 5 e s)).fld Reg.threshL1 = v % 256 ∧
    (thresholdsWritten v (stageAccept 5 e s)).fld Reg.threshL2 = v / 256 % 256 ∧
    (thresholdsWritten v (stageAccept 5 e s)).fld (Reg.osLast 5) = (s.fld (Reg.osLast 5) + 1) % 2 ^ 32 ∧
    (thresholdsWritten v (stageAccept 5 e s)).sec = s.sec := by
  refine ⟨?l1, fld_setFld_same _ _ _ (by decide), ?last, same_stageAccept (p := .sec) (by decide) 5 e s⟩
  case l1 =>
    rw [thresholdsWritten, fld_setFld_apart _ _ rfl, fld_setFld_same _ _ _ (by decide)]
    rfl
  case last => rw [thresholdsWritten, fld_setFld_apart _ _ rfl, fld_setFld_apart _ _ rfl, fld_osLast_stageAccept (by decide)]

end

/-! Keys (R449, R450). -/

/-- The words of SEC_MEAS. -/
def measWord (b : Nat) : Bool := decide (0x101000 ≤ b ∧ b < 0x101200)

theorem wordsOutside_setMeasurement {m : Nat} (hm : m < 8) (d : BitVec 512) (s : State) :
    WordsOutside measWord s (setMeasurement m d s) := by
  refine (WordsOutside.refl s).forEach fun i hi _ h => h.setWord _ (decide_eq_true ?_)
  have hoff : Reg.meas m i = 0x101000 + 0x40 * m + 8 * i := rfl
  have hlt : i < 8 := List.mem_range.mp hi
  omega

theorem same_setMeasurement {p : Part} (hp : p ∉ [Part.regs]) (m : Nat) (d : BitVec 512) (s : State) :
    p.same s (setMeasurement m d s) := by
  have head := may_head
  exact (keeps_setMeasurement (W := (· ∈ [Part.regs])) m d s (.rfl' s)).same p hp

/-- The host's key with its flags, before the keys are measured. -/
def hostKeyHeld (k : Option (BitVec 256)) (id : Nat) (s : State) : State :=
  (((s.modSec fun x => { x with hostKey := k }).setFld Reg.hostKeySet (if k.isSome then 1 else 0)).setFld Reg.hostKeyId id).raise
    Reg.keyChanged

/-- What installing or clearing the host's key does. -/
theorem setKey_host_acts (k : Option (BitVec 256)) (id : Nat) (s : State) :
    (setKey 1 k id s).sec = { s.sec with hostKey := k } ∧ (setKey 1 k id s).fld Reg.hostKeyId = id % 2 ^ 32 ∧
    (setKey 1 k id s).fld Reg.hostKeySet = (if k.isSome then 1 else 0) % 2 ∧ (setKey 1 k id s).fld Reg.keyChanged = 1 := by
  have hwords : WordsOutside measWord (hostKeyHeld k id s) (setKey 1 k id s) := wordsOutside_setMeasurement (by decide) _ _
  refine ⟨same_setMeasurement (p := .sec) (by decide) _ _ _, ?id, ?set, ?changed⟩
  case id =>
    rw [hwords.fld rfl, hostKeyHeld, State.raise, fld_setFld_apart _ _ rfl, fld_setFld_same _ _ _ (by decide)]
    rfl
  case set =>
    rw [hwords.fld rfl, hostKeyHeld, State.raise, fld_setFld_apart _ _ rfl, fld_setFld_apart _ _ rfl, fld_setFld_same _ _ _ (by decide)]
    rfl
  case changed =>
    rw [hwords.fld rfl, hostKeyHeld, State.raise, fld_setFld_same _ _ _ (by decide)]
    rfl

section
variable {s : State} {c : Capsule}

theorem runInstall_of_checked (hwhich : leAt (Cap.payload c.bytes) 0 1 = 1) (hzero : leAt (Cap.payload c.bytes) 1 3 = 0)
    (hcheck : keyChecks (Cap.payload c.bytes) = true) :
    runInstall c s = finishCapsule c csOk 0 0 (some (newKey (Cap.payload c.bytes)))
      (setKey 1 (some (newKey (Cap.payload c.bytes))) (leAt (Cap.payload c.bytes) 4 4) s) := by
  have hformat : installFormat (Cap.payload c.bytes) = true := decide_eq_true ⟨.inl hwhich, hzero⟩
  simp only [runInstall, hformat, hcheck, hwhich, and_self, if_true]

theorem runInstall_of_unchecked (hcheck : keyChecks (Cap.payload c.bytes) = false) :
    runInstall c s = finishCapsule c csRefused reKeyBad 0 (judgeKey s c) s := by
  simp only [runInstall, hcheck, Bool.false_eq_true, and_false, if_false]

theorem runClear_of_host (hwhich : leAt (Cap.payload c.bytes) 0 1 = 1) :
    runClear c s = finishCapsule c csOk 0 0 (judgeKey s c) (setKey 1 none 0 s) := by
  simp only [runClear, hwhich]

end

/-! Acts (R146). -/

theorem fld_actState_setFld_other (s : State) {a b : Nat} (x : Nat) (h : a ≠ b) :
    (s.setFld (Reg.actState a) x).fld (Reg.actState b) = s.fld (Reg.actState b) :=
  fld_setFld_apart s x (decide_eq_true (.inr (show 2 * b + 2 ≤ 2 * a ∨ 2 * a + 2 ≤ 2 * b by omega)))

/-- The state with Act `a` chosen, before CUE_GEN and the measurement. -/
def actChosen (a : Nat) (s : State) : State :=
  ((s.setFld (Reg.actState a) actActive).setFld (Reg.actState (1 - a)) actDraining).setFld Reg.actSel a

/-- CUE_GEN and the measurements: what follows a new Act or plan. -/
def followingWord (b : Nat) : Bool := decide (b = 0x1400008) || measWord b

theorem wordsOutside_actSwapTo (a : Nat) (s : State) : WordsOutside followingWord (actChosen a s) (actSwapTo a s) := by
  have hgen : WordsOutside followingWord (actChosen a s) (bumpGen ((actChosen a s).modSwc fun w => { w with armed := [] })) :=
    (WordsOutside.refl _).setFld (f := Reg.cueGen) _ rfl
  exact hgen.trans ((wordsOutside_setMeasurement (by decide) _ _).mono fun b hb => (Bool.or_eq_false_iff.mp hb).right)

/-- Act `a` is ACTIVE and selected, the other DRAINING, and no arm runs. -/
theorem actSwapTo_acts {a : Nat} (ha : a < 2) (s : State) :
    (actSwapTo a s).fld (Reg.actState a) = actActive ∧ (actSwapTo a s).fld (Reg.actState (1 - a)) = actDraining ∧
    (actSwapTo a s).fld Reg.actSel = a ∧ (actSwapTo a s).swc.armed = [] ∧ (actSwapTo a s).sec = s.sec := by
  have hwords := wordsOutside_actSwapTo a s
  have hswc : (actSwapTo a s).swc = { s.swc with armed := [] } := same_setMeasurement (p := .swc) (by decide) 5 _ _
  have hfits {b : Nat} (hb : b < 2) : (Reg.actState b).lo + (Reg.actState b).w ≤ 64 := show 2 * b + 2 ≤ 64 by omega
  refine ⟨?active, ?draining, ?selected, congrArg Swc.armed hswc, same_setMeasurement (p := .sec) (by decide) 5 _ _⟩
  case active =>
    rw [hwords.fld rfl, actChosen, fld_setFld_off _ _ _ _ (by decide : 0x800310 ≠ 0x800000), fld_actState_setFld_other _ _ (by omega),
      fld_setFld_same _ _ _ (hfits ha)]
    rfl
  case draining =>
    rw [hwords.fld rfl, actChosen, fld_setFld_off _ _ _ _ (by decide : 0x800310 ≠ 0x800000), fld_setFld_same _ _ _ (hfits (by omega))]
    rfl
  case selected =>
    rw [hwords.fld rfl, actChosen, fld_setFld_same _ _ _ (by decide)]
    exact Nat.mod_eq_of_lt ha

theorem runActSwap_of_swappable {s : State} {c : Capsule} {a : Nat} (hactive : (activePrompter s).isNone = false)
    (ha : a = leAt (Cap.payload c.bytes) 0 1) (hdie : dieRuns s = true) (hswap : actSwappable s a = true) :
    runActSwap c s = finishCapsule c csOk 0 0 (judgeKey s c)
      (actSwapTo a (stageAccept 1 (.reg Reg.actSel.off (leBytes 8 a)) s)) := by
  subst ha
  simp only [runActSwap, hdie, hswap, Bool.not_true, Bool.false_eq_true, if_false, if_true, throughStage_of_active hactive]

end Sys2Proof.Machine
end

section
/-! A plan commit swaps the circuit entries of the two banks (R184 to R186). -/
namespace Sys2Proof.Machine

/-! One entry (R186). -/

/-- The bits of an entry word that a swap only carries over: all but LAST_SEQ of word 3. -/
def carriedBits : Word := 0xFFFFFFFFFF000000

/-- A field below the carried bits does not show in them. -/
theorem putField_and_carriedBits (v : Word) (x : Nat) : putField v 0 24 x &&& carriedBits = v &&& carriedBits := by
  have hlow : ∀ i < 24, carriedBits.getLsbD i = false := by decide
  refine BitVec.eq_of_getLsbD_eq fun i hi => ?_
  rw [BitVec.getLsbD_and, BitVec.getLsbD_and, getLsbD_putField]
  by_cases h : i < 24
  · rw [hlow i h, Bool.and_false, Bool.and_false]
  · rw [if_neg (by omega)]

/-- The words of circuit `c` in both banks. -/
def entryWord (c b : Nat) : Bool :=
  decide (0x880000 + 0x20 * c ≤ b ∧ b < 0x880020 + 0x20 * c) || decide (0x8A0000 + 0x20 * c ≤ b ∧ b < 0x8A0020 + 0x20 * c)

theorem entryWord_cirActive {c j : Nat} (hj : j < 4) : entryWord c (Reg.cirActive c j) = true := by
  have hoff : Reg.cirActive c j = 0x8A0000 + 0x20 * c + 8 * j := rfl
  rw [entryWord, Bool.or_eq_true]
  exact .inr (decide_eq_true (by omega))

theorem entryWord_cirStaged {c j : Nat} (hj : j < 4) : entryWord c (Reg.cirStaged c j) = true := by
  have hoff : Reg.cirStaged c j = 0x880000 + 0x20 * c + 8 * j := rfl
  rw [entryWord, Bool.or_eq_true]
  exact .inl (decide_eq_true (by omega))

theorem not_entryWord_cirActive {c k j : Nat} (hck : c ≠ k) (hc : c < 4096) (hj : j < 4) : entryWord c (Reg.cirActive k j) = false := by
  have hoff : Reg.cirActive k j = 0x8A0000 + 0x20 * k + 8 * j := rfl
  rw [entryWord, decide_eq_false (by omega), decide_eq_false (by omega), Bool.or_false]

theorem not_entryWord_cirStaged {c k j : Nat} (hck : c ≠ k) (hk : k < 4096) (hj : j < 4) : entryWord c (Reg.cirStaged k j) = false := by
  have hoff : Reg.cirStaged k j = 0x880000 + 0x20 * k + 8 * j := rfl
  rw [entryWord, decide_eq_false (by omega), decide_eq_false (by omega), Bool.or_false]

/-- Words `js` of circuit `c` take new values in the active bank and old ones in the staged bank. -/
def wordsExchanged (c : Nat) (new old : Nat → Word) (js : List Nat) (s : State) : State :=
  forEach (fun j s => (s.setWord (Reg.cirActive c j) (new j)).setWord (Reg.cirStaged c j) (old j)) js s

section
variable {c : Nat} {new old : Nat → Word}

theorem wordsOutside_wordsExchanged {js : List Nat} (hjs : ∀ j ∈ js, j < 4) (s : State) :
    WordsOutside (entryWord c) s (wordsExchanged c new old js s) :=
  (WordsOutside.refl s).forEach fun j hj _ h => (h.setWord _ (entryWord_cirActive (hjs j hj))).setWord _ (entryWord_cirStaged (hjs j hj))

theorem word_wordsExchanged_of_not_mem {j : Nat} (hj : j < 4) {js : List Nat} (hjs : ∀ i ∈ js, i < 4) (h : j ∉ js) (s : State) :
    (wordsExchanged c new old js s).word (Reg.cirActive c j) = s.word (Reg.cirActive c j) := by
  induction js generalizing s with
  | nil => rfl
  | cons i js ih =>
    have hij : i ≠ j := fun he => h (he ▸ List.mem_cons_self)
    have hi : i < 4 := hjs i List.mem_cons_self
    have hactive : Reg.cirActive c j ≠ Reg.cirActive c i := show 0x8A0000 + 0x20 * c + 8 * j ≠ 0x8A0000 + 0x20 * c + 8 * i by omega
    have hstaged : Reg.cirActive c j ≠ Reg.cirStaged c i := show 0x8A0000 + 0x20 * c + 8 * j ≠ 0x880000 + 0x20 * c + 8 * i by omega
    refine (ih (fun i hi => hjs i (List.mem_cons_of_mem _ hi)) (fun hm => h (List.mem_cons_of_mem i hm)) _).trans ?_
    rw [word_setWord_ne _ _ _ _ hstaged, word_setWord_ne _ _ _ _ hactive]

theorem word_wordsExchanged_of_mem {j : Nat} (hj : j < 4) {js : List Nat} (hjs : ∀ i ∈ js, i < 4) (h : j ∈ js) (s : State) :
    (wordsExchanged c new old js s).word (Reg.cirActive c j) = new j := by
  induction js generalizing s with
  | nil => exact absurd h List.not_mem_nil
  | cons i js ih =>
    have hjs' : ∀ i ∈ js, i < 4 := fun i hi => hjs i (List.mem_cons_of_mem _ hi)
    by_cases hm : j ∈ js
    · exact ih hjs' hm _
    · obtain rfl : j = i := (List.mem_cons.mp h).resolve_right hm
      have hstaged : Reg.cirActive c j ≠ Reg.cirStaged c j := show 0x8A0000 + 0x20 * c + 8 * j ≠ 0x880000 + 0x20 * c + 8 * j by omega
      refine (word_wordsExchanged_of_not_mem hj hjs' hm _).trans ?_
      rw [word_setWord_ne _ _ _ _ hstaged, word_setWord_same]

end

/-- The four words of one circuit change places between the banks. -/
def entryExchanged (c : Nat) (s : State) : State :=
  wordsExchanged c (fun j => (((List.range 4).map (stagedWord s c))[j]?).getD 0) (fun j => (((List.range 4).map (cirWord s c))[j]?).getD 0)
    [0, 1, 2, 3] s

theorem entryExchanged_indices : ∀ j ∈ [0, 1, 2, 3], j < 4 := by decide

theorem word_entryExchanged (c : Nat) (s : State) {j : Nat} (hj : j < 4) :
    (entryExchanged c s).word (Reg.cirActive c j) = s.word (Reg.cirStaged c j) := by
  have hmem : j ∈ [0, 1, 2, 3] := by
    simp only [List.mem_cons, List.not_mem_nil, or_false]
    omega
  rw [entryExchanged, word_wordsExchanged_of_mem hj entryExchanged_indices hmem, List.getElem?_map, List.getElem?_range hj]
  rfl

/-- A swapped entry with its RENEW cleared, its state and its LAST_SEQ. -/
def entrySettled (c st last : Nat) (s : State) : State :=
  (setCirState c st (s.setFld ⟨Reg.cirActive c 0, 1, 1⟩ 0)).setFld ⟨Reg.cirActive c 3, 0, 24⟩ last

theorem modSwc_id (s : State) : s.modSwc id = s := rfl

/-- A swap exchanges the entry's words and settles the entry; a renewed one starts anew in the switch core too. -/
theorem swapEntry_cases (c : Nat) (s : State) :
    ∃ st last g, swapEntry c s = (entrySettled c st last (entryExchanged c s)).modSwc g := by
  by_cases h : (stRenew s c || !(entrySame s c)) = true
  · have hrenewed : swapEntry c s = _ := if_pos h
    exact ⟨_, _, _, hrenewed⟩
  · have hkept : swapEntry c s = entrySettled c (cirState s c) (cirLastSeq s c) (entryExchanged c s) := if_neg h
    exact ⟨_, _, id, hkept.trans (modSwc_id _).symm⟩

theorem wordsOutside_swapEntry (c : Nat) (s : State) : WordsOutside (entryWord c) s (swapEntry c s) := by
  obtain ⟨st, last, g, hswap⟩ := swapEntry_cases c s
  have hfirst : entryWord c (Reg.cirActive c 0) = true := entryWord_cirActive (by decide)
  have hlast : entryWord c (Reg.cirActive c 3) = true := entryWord_cirActive (by decide)
  have hsettled : WordsOutside (entryWord c) s (entrySettled c st last (entryExchanged c s)) :=
    (((wordsOutside_wordsExchanged entryExchanged_indices s).setFld (f := ⟨Reg.cirActive c 0, 1, 1⟩) 0 hfirst).setFld
      (f := ⟨Reg.cirActive c 0, 4, 2⟩) st hfirst).setFld (f := ⟨Reg.cirActive c 3, 0, 24⟩) last hlast
  rw [hswap]
  exact hsettled.modSwc g

/-- After the swap of an entry its active words are its staged ones, STATE and LAST_SEQ apart. -/
theorem word_swapEntry_cirActive (c : Nat) (s : State) {j : Nat} (hj : j < 3) :
    (swapEntry c s).word (Reg.cirActive c (j + 1)) &&& carriedBits = s.word (Reg.cirStaged c (j + 1)) &&& carriedBits := by
  obtain ⟨st, last, g, hswap⟩ := swapEntry_cases c s
  have hne : Reg.cirActive c (j + 1) ≠ Reg.cirActive c 0 :=
    show 0x8A0000 + 0x20 * c + 8 * (j + 1) ≠ 0x8A0000 + 0x20 * c + 8 * 0 by omega
  have hfirst : (setCirState c st ((entryExchanged c s).setFld ⟨Reg.cirActive c 0, 1, 1⟩ 0)).word (Reg.cirActive c (j + 1)) =
      s.word (Reg.cirStaged c (j + 1)) := by
    rw [setCirState, word_setFld_ne _ _ _ _ hne, word_setFld_ne _ _ _ _ hne, word_entryExchanged c s (by omega)]
  rw [hswap, word_State_modSwc, ← hfirst, entrySettled]
  by_cases hlast : Reg.cirActive c (j + 1) = Reg.cirActive c 3
  · rw [hlast]
    exact (congrArg (· &&& carriedBits) (word_setWord_same _ _ _)).trans (putField_and_carriedBits _ _)
  · rw [word_setFld_ne _ _ _ _ hlast]

/-! All entries. -/

theorem nodup_eraseDups (l : List Nat) : l.eraseDups.Nodup := by
  match l with
  | [] => exact List.nodup_nil
  | a :: l =>
    have hshorter : (l.filter fun b => !b == a).length < l.length + 1 := Nat.lt_succ_of_le (List.length_filter_le _ _)
    rw [List.eraseDups_cons, List.nodup_cons, List.mem_eraseDups]
    exact ⟨by simp, nodup_eraseDups _⟩
termination_by l.length

theorem word_swapEntries_of_not_mem {k j : Nat} (hj : j < 4) {l : List Nat} (hl : ∀ c ∈ l, c < 4096) (h : k ∉ l)
    (s : State) : (forEach swapEntry l s).word (Reg.cirActive k j) = s.word (Reg.cirActive k j) := by
  induction l generalizing s with
  | nil => rfl
  | cons c l ih =>
    have hck : c ≠ k := fun he => h (he ▸ List.mem_cons_self)
    rw [forEach, ih (fun c hc => hl c (List.mem_cons_of_mem _ hc)) fun hm => h (List.mem_cons_of_mem c hm)]
    exact wordsOutside_swapEntry c s _ (not_entryWord_cirActive hck (hl c List.mem_cons_self) hj)

theorem word_swapEntries_of_mem {k j : Nat} (hk : k < 4096) (hj : j < 3) {l : List Nat} (hl : ∀ c ∈ l, c < 4096) (hnodup : l.Nodup)
    (h : k ∈ l) (s : State) :
    (forEach swapEntry l s).word (Reg.cirActive k (j + 1)) &&& carriedBits = s.word (Reg.cirStaged k (j + 1)) &&& carriedBits := by
  induction l generalizing s with
  | nil => exact absurd h List.not_mem_nil
  | cons c l ih =>
    obtain ⟨hc, hnodup⟩ := List.nodup_cons.mp hnodup
    have hl' : ∀ c ∈ l, c < 4096 := fun c hc => hl c (List.mem_cons_of_mem _ hc)
    rw [forEach]
    by_cases hck : c = k
    · subst hck
      rw [word_swapEntries_of_not_mem (by omega) hl' hc, word_swapEntry_cirActive c s hj]
    · rw [ih hl' hnodup ((List.mem_cons.mp h).resolve_left (Ne.symm hck)),
        wordsOutside_swapEntry c s _ (not_entryWord_cirStaged hck hk (by omega))]

theorem lt_of_mem_listedCircuits {s : State} {c : Nat} (h : c ∈ listedCircuits s) : c < 4096 := by
  simp only [listedCircuits, List.mem_eraseDups, List.mem_filterMap, Option.ite_none_right_eq_some, Option.some.injEq] at h
  obtain ⟨e, -, -, rfl⟩ := h
  omega

/-- A circuit that neither bank lists has words of 0 in both. -/
theorem word_of_not_listed {s : State} {c b : Nat} (h : c ∉ listedCircuits s) (hlo : 0x880000 ≤ b) (hhi : b < 0x8C0000)
    (hb : (b - 0x880000) % 0x20000 / 0x20 = c) : s.word b = 0 := by
  have hunlisted : ∀ e ∈ s.regs, e.1 ≠ b := by
    rintro e he rfl
    refine h (List.mem_eraseDups.mpr (List.mem_filterMap.mpr ⟨e, he, ?_⟩))
    rw [if_pos ⟨hlo, hhi⟩, hb]
  rw [State.word, Tab.get_of_unlisted _ hunlisted, resetWord_circuitTable _ hlo (by omega)]

/-- A commit's swap of the entries takes the staged words over. -/
theorem word_swapListed {k j : Nat} (hk : k < 4096) (hj : j < 3) (s : State) :
    (forEach swapEntry (listedCircuits s) s).word (Reg.cirActive k (j + 1)) &&& carriedBits =
      s.word (Reg.cirStaged k (j + 1)) &&& carriedBits := by
  have hl : ∀ c ∈ listedCircuits s, c < 4096 := fun _ => lt_of_mem_listedCircuits
  by_cases h : k ∈ listedCircuits s
  · exact word_swapEntries_of_mem hk hj hl (nodup_eraseDups _) h s
  · have hactive : Reg.cirActive k (j + 1) = 0x8A0000 + 0x20 * k + 8 * (j + 1) := rfl
    have hstaged : Reg.cirStaged k (j + 1) = 0x880000 + 0x20 * k + 8 * (j + 1) := rfl
    rw [word_swapEntries_of_not_mem (by omega) hl h, word_of_not_listed h (by omega) (by omega) (by omega),
      word_of_not_listed h (by omega) (by omega) (by omega)]

/-! The commit (R185, R186). -/

/-- The link words of both banks, and SWC_PLAN_STATUS with its PENDING bits. -/
def planWord (b : Nat) : Bool := decide (b = 0x800408 ∨ b = 0x800410 ∨ 0x8C0000 ≤ b ∧ b < 0x8C0200)

theorem wordsOutside_swapLinks (before : Nat → Nat) (s : State) :
    WordsOutside planWord s (forEach (swapLink before) (List.range 14) s) := by
  refine (WordsOutside.refl s).forEach fun l hl t h => ?_
  have hlt : l < 14 := List.mem_range.mp hl
  have hactiveOff : Reg.cirLinkActive l = 0x8C0100 + 8 * l := rfl
  have hstagedOff : Reg.cirLinkStaged l = 0x8C0000 + 8 * l := rfl
  have hactive : planWord (Reg.cirLinkActive l) = true := decide_eq_true (by omega)
  have hstaged : planWord (Reg.cirLinkStaged l) = true := decide_eq_true (by omega)
  have hswapped := (h.setWord (t.word (Reg.cirLinkStaged l)) hactive).setWord (t.word (Reg.cirLinkActive l)) hstaged
  exact .ite hswapped (hswapped.setFld (f := Reg.planPending l) 1 rfl)

section
variable {s : State} {planId : Nat} {ok : Bool}

/-- The banks swapped, before the result is shown. -/
def banksSwapped (s : State) : State :=
  forEach (swapLink (circuitAlloc s)) (List.range 14) (forEach swapEntry (listedCircuits s) s)

theorem planCommit_of_accepted (h : commitRefusal s ok = none) :
    planCommit planId ok s = (true, (((banksSwapped s).setFld Reg.planResult 1).setFld Reg.planFirst 0).setFld Reg.planId planId) := by
  simp only [planCommit, h, banksSwapped]

theorem planCommit_of_refused {r c : Nat} (h : commitRefusal s ok = some (r, c)) :
    planCommit planId ok s = (false, (s.setFld Reg.planResult r).setFld Reg.planFirst c) := by
  simp only [planCommit, h]

/-- An accepted commit shows its result and its PLAN_ID, and its active entries are the staged ones. -/
theorem planCommit_accepted_acts (h : commitRefusal s ok = none) :
    (planCommit planId ok s).2.fld Reg.planResult = 1 ∧ (planCommit planId ok s).2.fld Reg.planId = planId % 2 ^ 32 ∧
    ∀ (k : Fin 4096) (j : Fin 3), (planCommit planId ok s).2.word (Reg.cirActive k (j + 1)) &&& carriedBits =
      s.word (Reg.cirStaged k (j + 1)) &&& carriedBits := by
  rw [planCommit_of_accepted h]
  refine ⟨?result, fld_setFld_same _ _ _ (by decide), fun k j => ?entry⟩
  case result =>
    change ((((banksSwapped s).setFld Reg.planResult 1).setFld Reg.planFirst 0).setFld Reg.planId planId).fld Reg.planResult = 1
    rw [fld_setFld_apart _ _ rfl, fld_setFld_apart _ _ rfl, fld_setFld_same _ _ _ (by decide)]
    rfl
  case entry =>
    have hoff : Reg.cirActive k (j + 1) = 0x8A0000 + 0x20 * k.val + 8 * (j.val + 1) := rfl
    have hswapped : WordsOutside planWord (forEach swapEntry (listedCircuits s) s)
        ((((banksSwapped s).setFld Reg.planResult 1).setFld Reg.planFirst 0).setFld Reg.planId planId) :=
      (((wordsOutside_swapLinks (circuitAlloc s) _).setFld (f := Reg.planResult) _ rfl).setFld (f := Reg.planFirst) _ rfl).setFld
        (f := Reg.planId) _ rfl
    rw [← word_swapListed k.isLt j.isLt s]
    exact congrArg (· &&& carriedBits) (hswapped _ (decide_eq_false (by omega)))

/-- A refused commit shows why, and changes no entry. -/
theorem planCommit_refused_acts {r : Nat × Nat} (h : commitRefusal s ok = some r) :
    (planCommit planId ok s).2.fld Reg.planResult = r.1 % 256 ∧
    WordsOutside (fun b => decide (b = 0x800408)) s (planCommit planId ok s).2 := by
  rw [planCommit_of_refused h]
  refine ⟨?result, ((WordsOutside.refl s).setFld (f := Reg.planResult) r.1 rfl).setFld (f := Reg.planFirst) r.2 rfl⟩
  change ((s.setFld Reg.planResult r.1).setFld Reg.planFirst r.2).fld Reg.planResult = r.1 % 256
  rw [fld_setFld_apart _ _ rfl, fld_setFld_same _ _ _ (by decide)]
  rfl

theorem sec_planCommit : (planCommit planId ok s).2.sec = s.sec := by
  have head := may_head
  have tail := may_tail
  exact (keeps_planCommit (W := (· ∈ [Part.regs, .swc])) planId ok s (.rfl' s)).same .sec (by decide)

end

/-! PLAN_COMMIT. -/

/-- What follows an accepted commit through stage 1: CUE_GEN rises and the plan is measured. -/
def planFollowed (planId : Nat) (s : State) : State :=
  throughStage 1 (.reg 0x800400 (leBytes 8 planId)) (fun s => measurePlan (bumpGen s)) s

/-- The words that change after a commit. -/
def planFollowedWord (b : Nat) : Bool := stageWord 1 b || followingWord b

theorem wordsOutside_planFollowed (planId : Nat) (s : State) : WordsOutside planFollowedWord s (planFollowed planId s) := by
  refine wordsOutside_throughStage (fun b hb => (Bool.or_eq_false_iff.mp hb).left) fun h => ?_
  have hmeas (t : State) : WordsOutside planFollowedWord t (measurePlan t) :=
    (wordsOutside_setMeasurement (by decide) _ _).mono fun b hb => (Bool.or_eq_false_iff.mp (Bool.or_eq_false_iff.mp hb).right).right
  exact (h.setFld (f := Reg.cueGen) _ rfl).trans (hmeas _)

theorem sec_planFollowed (planId : Nat) (s : State) : (planFollowed planId s).sec = s.sec := by
  have head := may_head
  have tail := may_tail
  exact (keeps_throughStage (W := (· ∈ [Part.regs, .board])) 1 _ _ s (fun t h => keeps_measurePlan _ (keeps_bumpGen t h)) (.rfl' s)).same
    .sec (by decide)

/-- The state that a PLAN_COMMIT leaves before it ends. -/
def planCarriedOut (p : List Byte) (s : State) : State :=
  if (planCommit (leAt p 0 4) (planDigestOk s p) s).1 then planFollowed (leAt p 0 4) (planCommit (leAt p 0 4) (planDigestOk s p) s).2
  else (planCommit (leAt p 0 4) (planDigestOk s p) s).2

section
variable {s : State} {p : List Byte}

theorem runPlan_of_dieRuns {c : Capsule} (hdie : dieRuns s = true) (hp : p = Cap.payload c.bytes) :
    ∃ status result, runPlan c s = finishCapsule c status result 0 (judgeKey s c) (planCarriedOut p s) := by
  subst hp
  simp only [runPlan, hdie, Bool.not_true, Bool.false_eq_true, if_false, planCarriedOut]
  split
  · exact ⟨_, _, rfl⟩
  · exact ⟨_, _, rfl⟩

theorem sec_planCarriedOut : (planCarriedOut p s).sec = s.sec := by
  unfold planCarriedOut
  split
  · exact (sec_planFollowed _ _).trans sec_planCommit
  · exact sec_planCommit

/-- The words of the circuit table are neither those of a completion nor of what follows a commit. -/
theorem not_planFollowedWord {b : Nat} (hlo : 0x800000 ≤ b) (hhi : b < 0x900000) :
    planFollowedWord b = false ∧ completionWord b = false := by
  have hboard : boardWord b = false := decide_eq_false (by omega)
  have hmeas : measWord b = false := decide_eq_false (by omega)
  have hlast : (Reg.osLast 1).off = 0x108 := rfl
  refine ⟨?_, not_completionWord hboard (by omega) (by omega)⟩
  rw [planFollowedWord, stageWord, followingWord, hboard, hmeas, hlast, decide_eq_false (by omega), decide_eq_false (by omega)]
  rfl

/-- What a PLAN_COMMIT shows and which entries are active, by what R185 finds. -/
theorem planCarriedOut_acts (k : Fin 4096) (j : Fin 3) :
    (planCarriedOut p s).fld Reg.planResult = (match commitRefusal s (planDigestOk s p) with | some r => r.1 % 256 | none => 1) ∧
    (planCarriedOut p s).fld Reg.planId = (if commitRefusal s (planDigestOk s p) = none then leAt p 0 4 else s.fld Reg.planId) ∧
    (planCarriedOut p s).word (Reg.cirActive k (j + 1)) &&& carriedBits =
      (if commitRefusal s (planDigestOk s p) = none then s.word (Reg.cirStaged k (j + 1)) else s.word (Reg.cirActive k (j + 1))) &&&
        carriedBits := by
  have hoff : Reg.cirActive k (j + 1) = 0x8A0000 + 0x20 * k.val + 8 * (j.val + 1) := rfl
  cases hr : commitRefusal s (planDigestOk s p) with
  | none =>
    obtain ⟨hresult, hid, hentry⟩ := planCommit_accepted_acts (planId := leAt p 0 4) hr
    have hout : planCarriedOut p s = planFollowed (leAt p 0 4) (planCommit (leAt p 0 4) (planDigestOk s p) s).2 :=
      if_pos (congrArg Prod.fst (planCommit_of_accepted hr))
    have hwords := wordsOutside_planFollowed (leAt p 0 4) (planCommit (leAt p 0 4) (planDigestOk s p) s).2
    rw [hout]
    refine ⟨(hwords.fld rfl).trans hresult, ?id, ?entry⟩
    case id =>
      rw [hwords.fld rfl, hid, if_pos rfl]
      exact Nat.mod_eq_of_lt (leAt_lt p 0 4)
    case entry => rw [hwords _ (not_planFollowedWord (by omega) (by omega)).left, hentry k j, if_pos rfl]
  | some r =>
    obtain ⟨hresult, hwords⟩ := planCommit_refused_acts (planId := leAt p 0 4) hr
    have hrefused : (planCommit (leAt p 0 4) (planDigestOk s p) s).1 = false := congrArg Prod.fst (planCommit_of_refused hr)
    have hout : planCarriedOut p s = (planCommit (leAt p 0 4) (planDigestOk s p) s).2 := if_neg (by rw [hrefused]; decide)
    rw [hout]
    refine ⟨hresult, ?id, ?entry⟩
    case id => rw [hwords.fld rfl, if_neg nofun]
    case entry => rw [hwords _ (decide_eq_false (by omega)), if_neg nofun]

end

end Sys2Proof.Machine
end

section
/-! The commands of capsules (R442 to R450). -/
namespace Sys2Proof.Machine

/-- Settles O50: each command is its function of the state; what ends a capsule leaves all words but those of its completion. -/
theorem capsulesAct : Obligations.CapsulesAct := by
  refine ⟨?waits, ?judged, ?window, ?stored, ?storeFails, ?holdEnds, ?limits, ?limitsRefused, ?install, ?clear, ?swap, ?commit⟩
  case waits =>
    rintro s via bytes c p hin hp hready hlen ⟨rfl, rfl⟩ hbusy
    refine ⟨_, next_if_pos hin, ?_⟩
    rw [receiveCapsule_of_ready hp hready hlen, arriveCapsule_of_busy _ hbusy]
    exact ⟨rfl, rfl, rfl, rfl⟩
  case judged =>
    rintro s via bytes c p hin hp hready hlen ⟨rfl, rfl⟩ hbusy hwaiting
    have hexec : exec (.capsuleReceive c.via c.bytes) s = .next (receiveCapsule c.via c.bytes s) := next_if_pos hin
    rw [receiveCapsule_of_ready hp hready hlen, arriveCapsule_of_free _ hbusy hwaiting] at hexec
    obtain ⟨hstoring, haccepted⟩ := judgeCapsule_acts c hbusy
    exact ⟨_, hexec, hstoring, haccepted, mem_of_exec hexec rfl, links_of_exec hexec rfl⟩
  case window =>
    rintro s _ bytes c hin rfl hlo hhi hgo hbusy hvia hbytes
    have hc : c = { via := .window, bytes := Tab.getRange (fun _ => 0) (Tab.setRange (fun _ => 0) s.sec.win 0 bytes) 0 bytes.length } := by
      rw [← hvia, ← hbytes]
    have hbusy' : engineBusy ((capWindow 0 bytes s).raise Reg.capBusy) = true := hbusy
    refine ⟨_, next_if_pos hin, ?_⟩
    rw [receiveCapsule_window hlo hhi hgo, ← hc, arriveCapsule_of_busy c hbusy']
    exact ⟨fld_setFld_same (capWindow 0 bytes s) Reg.capBusy 1 (by decide), rfl, rfl, rfl,
      onlyRegs_of_word_eq fun b hb => word_setFld_ne (capWindow 0 bytes s) _ _ _ fun he => hb (List.mem_singleton.mpr he)⟩
  case stored =>
    rintro s _ c hin hc rfl hvia hrec hpower hfw
    have hexec := execCounterStoreComplete_of_storing true hin hc
    have haccept : counterStored true c s = acceptCapsule c s := rfl
    rw [haccept, acceptCapsule_of_host hvia hrec hpower hfw] at hexec
    obtain ⟨hcounter, hsec⟩ := intake_hostAccepted_acts (s := s) (c := c) (.capsule c.bytes)
    exact ⟨_, hexec, hcounter, congrArg Sec.accepted hsec, congrArg Sec.storing hsec, (congrArg Sec.waiting hsec :),
      mem_of_exec hexec rfl⟩
  case storeFails =>
    rintro s _ c hin hc rfl hwaiting
    have hexec := execCounterStoreComplete_of_storing false hin hc
    rw [counterStored_failed hwaiting] at hexec
    have hwords := wordsOutside_complete c csStoreFail 0 0 (judgeKey s c) (storeFailed s)
    have hsec : (complete c csStoreFail 0 0 (judgeKey s c) (storeFailed s)).sec = { s.sec with storing := none } :=
      same_complete (p := .sec) (by decide) ..
    exact ⟨_, hexec, (hwords.fld rfl).trans (fld_setFld_same _ _ _ (by decide)), congrArg Sec.storing hsec,
      (congrArg Sec.accepted hsec :), (hwords.fld rfl).trans (fld_setFld_apart _ _ rfl), mem_of_exec hexec rfl⟩
  case holdEnds =>
    intro s via hin
    refine ⟨_, next_if_pos hin, List.filter_congr fun h _ => ?_, rfl, rfl, rfl⟩
    rw [← decide_not, decide_eq_decide, Classical.not_and_iff_not_or_not, Nat.not_le]
  case limits =>
    rintro s c _ v hin hc rfl hwaiting hentries hok
    have hexec : exec .safetyConfig s = .next (runSafety c s) := next_carryOut hin hc
    rw [runSafety_of_thresholds (active_of_acceptedOf hc (by decide)) hentries hok] at hexec
    obtain ⟨hl1, hl2, hlast, hsec⟩ := thresholds_acts (s := s) v (.reg 0x2100018 (leBytes 8 v))
    have hend := finishCapsule_finished c csOk 0 0 (judgeKey s c) ((congrArg Sec.waiting hsec).trans hwaiting)
    exact ⟨_, hexec, (hend.words.fld rfl).trans hl1, (hend.words.fld rfl).trans hl2, (hend.words.fld rfl).trans hlast,
      mem_of_exec hexec rfl, links_of_exec hexec rfl, hend.accepted⟩
  case limitsRefused =>
    rintro s c _ hin hc rfl hwaiting hno
    have hexec : exec .safetyConfig s = .next (runSafety c s) := next_carryOut hin hc
    rw [runSafety_of_refused hno] at hexec
    have hend := finishCapsule_finished c csRefused reState 0 (judgeKey s c) hwaiting
    exact ⟨_, hexec, hend.words.fld rfl, hend.words.fld rfl, mem_of_exec hexec rfl, links_of_exec hexec rfl, hend.accepted⟩
  case install =>
    rintro s c _ hin hc rfl hwaiting hwhich hzero
    have hexec : exec .keyInstall s = .next (runInstall c s) := next_carryOut hin hc
    cases hcheck : keyChecks (Cap.payload c.bytes) with
    | true =>
      rw [runInstall_of_checked hwhich hzero hcheck] at hexec
      obtain ⟨hsec, hid, -, -⟩ := setKey_host_acts (some (newKey (Cap.payload c.bytes))) (leAt (Cap.payload c.bytes) 4 4) s
      have hend := finishCapsule_finished c csOk 0 0 (some (newKey (Cap.payload c.bytes))) ((congrArg Sec.waiting hsec).trans hwaiting)
      have hsec' := hsec ▸ hend.sec
      have hid' := hid.trans (Nat.mod_eq_of_lt (leAt_lt (Cap.payload c.bytes) 4 4))
      exact ⟨_, hexec, congrArg Sec.hostKey hsec', (hend.words.fld rfl).trans hid', (congrArg Sec.rackKey hsec' :), mem_of_exec hexec rfl,
        links_of_exec hexec rfl, hend.accepted⟩
    | false =>
      rw [runInstall_of_unchecked hcheck] at hexec
      have hend := finishCapsule_finished c csRefused reKeyBad 0 (judgeKey s c) hwaiting
      exact ⟨_, hexec, (congrArg Sec.hostKey hend.sec :), hend.words.fld rfl, (congrArg Sec.rackKey hend.sec :), mem_of_exec hexec rfl,
        links_of_exec hexec rfl, hend.accepted⟩
  case clear =>
    rintro s c _ hin hc rfl hwaiting hwhich
    have hexec : exec .keyClear s = .next (runClear c s) := next_carryOut hin hc
    rw [runClear_of_host hwhich] at hexec
    obtain ⟨hsec, hid, hset, hchanged⟩ := setKey_host_acts none 0 s
    have hend := finishCapsule_finished c csOk 0 0 (judgeKey s c) ((congrArg Sec.waiting hsec).trans hwaiting)
    have hsec' := hsec ▸ hend.sec
    exact ⟨_, hexec, congrArg Sec.hostKey hsec', (hend.words.fld rfl).trans hset, (hend.words.fld rfl).trans hid,
      (hend.words.fld rfl).trans hchanged, (congrArg Sec.rackKey hsec' :), mem_of_exec hexec rfl, links_of_exec hexec rfl, hend.accepted⟩
  case swap =>
    rintro s c _ a hin hc rfl hwaiting ha hlt hdie hswap
    have hexec : exec .actSwap s = .next (runActSwap c s) := next_carryOut hin hc
    rw [runActSwap_of_swappable (active_of_acceptedOf hc (by decide)) ha hdie hswap] at hexec
    obtain ⟨hactive, hdraining, hsel, harmed, hsec⟩ := actSwapTo_acts hlt (stageAccept 1 (.reg Reg.actSel.off (leBytes 8 a)) s)
    have hsec' := hsec.trans (same_stageAccept (p := .sec) (by decide) 1 (.reg Reg.actSel.off (leBytes 8 a)) s)
    have hend := finishCapsule_finished c csOk 0 0 (judgeKey s c) ((congrArg Sec.waiting hsec').trans hwaiting)
    exact ⟨_, hexec, (hend.words.fld rfl).trans hactive, (hend.words.fld rfl).trans hdraining, (hend.words.fld rfl).trans hsel,
      (congrArg Swc.armed hend.swc).trans harmed, mem_of_exec hexec rfl, links_of_exec hexec rfl, hend.accepted⟩
  case commit =>
    intro s c p k j hin hc hp hwaiting hdie
    have hexec : exec .planCommit s = .next (runPlan c s) := next_carryOut hin hc
    obtain ⟨status, result, hrun⟩ := runPlan_of_dieRuns hdie hp
    rw [hrun] at hexec
    obtain ⟨hresult, hid, hentry⟩ := planCarriedOut_acts (s := s) (p := p) k j
    have hend := finishCapsule_finished c status result 0 (judgeKey s c)
      ((congrArg Sec.waiting (sec_planCarriedOut (p := p))).trans hwaiting)
    have hoff : Reg.cirActive k (j + 1) = 0x8A0000 + 0x20 * k.val + 8 * (j.val + 1) := rfl
    have hword := hend.words (Reg.cirActive k (j + 1)) (not_planFollowedWord (by omega) (by omega)).right
    exact ⟨_, hexec, (hend.words.fld rfl).trans hresult, (hend.words.fld rfl).trans hid,
      (congrArg (· &&& carriedBits) hword).trans hentry, mem_of_exec hexec rfl, hend.accepted⟩

end Sys2Proof.Machine
end

section
/-! States in which the statements about tiles and rows and about requests to the scratchpad fail; the statements speak of every state. Both
are running modules in ordinary use: one has an instruction on the tile that is given up, the other counts the rows that are read. -/
namespace Sys2Proof.Machine

/-! A tile that is given up while an instruction runs on it (R225). -/

/-- A tensor of one row of three FP32 elements at `base`, worked on by logical tile 0 (Table 08-3). -/
def rowOfThree (base : Nat) : Desc := BitVec.ofNat 256 (base + 9 * 2 ^ 32 + 1 * 2 ^ 40 + 3 * 2 ^ 60 + 32 * 2 ^ 80 + 1 * 2 ^ 216)

/-- A COPY of d1 to d0 that sequencer 0 has issued. -/
def copyInFlight : Flight :=
  { id := 0, seq := 0, pc := 0, word := BitVec.ofNat 128 (Isa.oCOPY * 2 ^ 120 + 3 * 2 ^ 112 + 1 * 2 ^ 77),
    descs := [rowOfThree 0, rowOfThree 0x100], reads := [(0x100, 0x120)], writes := [(0, 0x20)], cross := none, prog := 0, owned := true,
    tiles := none }

/-- A running module after power-on, with that COPY on physical tile 0. -/
def tile0Copying : State := (State.reset.setFld Reg.pwrDie dieOn).modTen fun t => { t with flights := [copyInFlight] }

/-- A tile on which an instruction runs is not switched off. -/
theorem tileOff_of_runs {s : State} {p : Nat} (h : runsOnTile s p = true) : tileOff p s = s := if_pos h

theorem swingCmd_of_spare {s : State} {p : Nat} (hspare : (spareTile s (p / 60)).isNone = false)
    (hmapped : s.fld (Reg.tileLogical p) ≠ 0xFF) : swingCmd p s = noteTilePool p (tileOff p (swingTile p (pinFlights s))) :=
  if_neg (by simp [hspare, hmapped])

/-- The swing keeps the COPY on tile 0, which stays Running for it. -/
theorem unitState_swingCmd_tile0Copying : unitState (swingCmd 0 tile0Copying) (.tile 0) = 0 := by
  have hruns : runsOnTile (swingTile 0 (pinFlights tile0Copying)) 0 = true := by decide +kernel
  rw [swingCmd_of_spare (by decide +kernel) (by decide +kernel), tileOff_of_runs hruns]
  decide +kernel

/-- Refutes O34: in `tile0Copying` the tile that is swung is not Off, since an instruction that runs on it completes there first (R225). -/
theorem not_tilesAndRowsAct : ¬ Obligations.TilesAndRowsAct := by
  rintro ⟨hswing, -⟩
  have hlive : linksLive tile0Copying = true := by decide +kernel
  obtain ⟨t, ht, -, -, -, -, -, hoff, -⟩ :=
    hswing tile0Copying 0 58 0 hlive (by decide +kernel) (by decide +kernel) (by decide) (by decide +kernel)
  rw [next_unique (next_if_pos hlive) ht, Fin.val_zero, unitState_swingCmd_tile0Copying] at hoff
  exact absurd hoff (by decide)

/-! A read whose rows a performance counter counts (R245, R513). -/

/-- Chip 1 reads the first 16 bytes of the scratchpad of chip 0. -/
def readOfRow0 : Frame := mkFrame tyReqRd 0 8 1 8 0 0 0 (4 * 2 ^ 45) 0 []

def readOfRow0In : InFrame := { frame := readOfRow0, ing := 8, arr := 0 }

/-- A running module with that read received, whose performance counter 0 counts SP_READ_ROWS of wing 0. -/
def row0Counted : State :=
  ((State.reset.setFld Reg.pwrDie dieOn).setFld (Reg.pmcSel 0) evSpRead).modSwc fun w => { w with inbox := [readOfRow0In] }

theorem execScratchpadRequest_of_inbox {s : State} {f : Frame} {h : InFrame} (hlive : linksLive s = true) (hin : inboxOf s f = some h)
    (hspace : isSpaceRequest 1 f = true) (errs : List (Nat × List Byte)) :
    exec (.scratchpadRequest f errs) s = .next (takeScratch h errs s) := by
  change execScratchpadRequest f errs s = _
  simp only [execScratchpadRequest, hin, hlive, hspace, and_self, if_true]

/-- The model counts one row; the answer that the statement gives counts none. -/
theorem pmcCnt_row0Counted :
    (takeScratch readOfRow0In [] row0Counted).fld (Reg.pmcCnt 0) = 1 ∧
    (answerData readOfRow0 (spRead row0Counted 0 16) (readWords 0 16 [] (dropInbox readOfRow0In row0Counted))).fld (Reg.pmcCnt 0) = 0 := by
  decide +kernel

/-- Refutes O35: in `row0Counted` the read is counted in a performance counter, which the state that the statement gives leaves out. -/
theorem not_scratchpadAndStoreServe : ¬ Obligations.ScratchpadAndStoreServe := by
  rintro ⟨hread, -⟩
  have hlive : linksLive row0Counted = true := by decide +kernel
  have hin : inboxOf row0Counted readOfRow0 = some readOfRow0In := by decide +kernel
  have hspace : isSpaceRequest 1 readOfRow0 = true := by decide +kernel
  have hbytes : requestBytes readOfRow0 = 16 := by decide +kernel
  obtain ⟨t, ht, hanswer⟩ := hread row0Counted readOfRow0 readOfRow0In 0 [] hlive hin hspace (by decide +kernel) (by decide +kernel)
    (by decide +kernel) (by decide +kernel) rfl rfl
  have ht' : t = takeScratch readOfRow0In [] row0Counted := next_unique (execScratchpadRequest_of_inbox hlive hin hspace []) ht
  obtain ⟨hcounted, hleft⟩ := pmcCnt_row0Counted
  rw [hbytes] at hanswer
  rw [← ht', hanswer, hleft] at hcounted
  exact absurd hcounted (by decide)

end Sys2Proof.Machine
end

section
/-! A state in which the statement about loads, stores and transfers fails; the statement speaks of every state. A transfer in it bears the
id that the next transfer gets, where a module that counts its ids up holds smaller ones only. -/
namespace Sys2Proof.Machine

/-- An instruction whose predicate holds runs, when it is of the kind asked for (R295 to R297). -/
theorem runAt_of_issues {q : Nat} {is : Nat → Bool} {sem : Nat → Nat → State → State} {s : State} (h : issues s q = true)
    (his : is (fetchWord s q) = true) : runAt q is sem s = sem q (fetchWord s q) s := by
  simp only [issues, Bool.and_eq_true] at h
  obtain ⟨⟨⟨⟨hlive, hready⟩, -⟩, hlegal⟩, hpred⟩ := h
  simp [runAt, runInsn, hlive, hready, hlegal, his, hpred]

/-- A PFETCH of the bytes that s1 counts from address s3 of the fabric to s2, on counter 0 (Table 10-8). -/
def pfetchWord : Nat := 0x45 * 2 ^ 120 + 2 * 2 ^ 112 + 1 * 2 ^ 103 + 2 * 2 ^ 98 + 3 * 2 ^ 93

/-- A PSPILL of the first 16 bytes of the scratchpad to this chip, no piece of which has been sent. -/
def unsentSpill : Xfer :=
  { id := 0, ctr := 1, spill := true, sp := 0, chip := 0, off := 0, len := 16, sent := 0, ended := 0, err := 0, wing := 0, prog := 0 }

/-- A program of two instructions with a footprint of 64 KiB in wing 0. -/
def twoInstructions : Prog := { image := 0, bytes := 96, code := 64, insns := 2, foot := [(0, 65536)], allocs := [] }

/-- A running module whose sequencer 0 is at `pfetchWord` with 16 in s1 and 100h in s2, and in which `unsentSpill` is in flight. Its
first scratchpad word is uncorrectable, and the next transfer gets id 0 again. -/
def idTaken : State :=
  (((State.reset.setFld Reg.pwrDie dieOn).setFld (Reg.seqSt 0) sqRunning).modTen fun t => { t with ue := [0] }).modCue fun k =>
    { k with store := Tab.setRange (fun _ => 0) [] 64 (leBytes 16 pfetchWord), progs := [(0, some twoInstructions)],
             ctxs := [(0, some ((Ctx.init.setS 1 16).setS 2 0x100))], xfers := [unsentSpill] }

theorem fetchWord_idTaken : fetchWord idTaken 0 = pfetchWord := by decide +kernel

/-- The pieces to send are looked up by id, so the spill is tried first; it meets the uncorrectable word (R247) and takes every transfer of
its id with it. -/
theorem xfers_semXfer_idTaken : (semXfer false 0 pfetchWord idTaken).cue.xfers = [] := by decide +kernel

/-- Refutes O40: in `idTaken` the PFETCH, which passes every check, leaves no transfer in flight where the statement says two. -/
theorem not_memoryInstructionsAct : ¬ Obligations.MemoryInstructionsAct := by
  rintro ⟨-, -, -, -, -, -, -, -, -, hfetch, -⟩
  have hissues : issues idTaken 0 = true := by decide +kernel
  obtain ⟨t, ht, -, -, hcount, -⟩ := hfetch idTaken 0 pfetchWord 16 fetchWord_idTaken.symm hissues (by decide) (by decide +kernel)
    (by decide +kernel) (by decide +kernel) (by decide +kernel) (by decide +kernel) (by decide +kernel) (by decide +kernel)
  have hexec : exec (.pfetch 0) idTaken = .next (semXfer false 0 pfetchWord idTaken) := by
    have hrun := runAt_of_issues (is := isOp 0x45) (sem := semXfer false) hissues (by rw [fetchWord_idTaken]; decide)
    exact congrArg Host.Outcome.next (fetchWord_idTaken ▸ hrun)
  rw [next_unique hexec ht, xfers_semXfer_idTaken] at hcount
  exact absurd hcount (by decide)

end Sys2Proof.Machine
end

section
/-! States in which the statements about the group table and about collective frames fail; the statements speak of every state. Each is a
running module in ordinary use: in one the range that a commit gets is still being zeroed, in the other a group's older operation outlives
the one after it. -/
namespace Sys2Proof.Machine

/-- The words of a group of this chip and its edge member on port 0: SCHED 1, a window of 4 chunks of 256 bytes, NMEM 2 and 64 KiB of
staging (Table 11-1). -/
def edgeEntry (j : Nat) : Word :=
  match j with
  | 0 => 1 + 1 * 2 ^ 1 + 1 * 2 ^ 7 + 1 * 2 ^ 20 + 1 * 2 ^ 29 + 1 * 2 ^ 38 + 4 * 2 ^ 46
  | 1 => 2 * 2 ^ 16
  | 2 => 1
  | _ => 0

/-! A commit whose staging is being zeroed (R252, R334). -/

/-- A running module with coordinates, at which words 1 and 2 of group 0 are held and the lowest 64 KiB of the scratchpad, which have been
released, are being zeroed. -/
def stagingZeroing : State :=
  (((State.reset.setFld Reg.pwrDie dieOn).raise Reg.assigned).modTen fun t => { t with zeroing := [(0, 65536)] }).modGrp 0
    fun x => { x with held := [(1, some (edgeEntry 1)), (2, some (edgeEntry 2))] }

/-- The commit gets the range that is being zeroed and waits for it; COL_GRPSTAT of the group reads as it did (log entry 42). -/
theorem grpResult_groupCommit_stagingZeroing :
    waitsZeroing stagingZeroing 0 65536 = true ∧ (groupCommit 0 (edgeEntry 0) stagingZeroing).fld (Reg.grpResult 0) = 0 := by
  decide +kernel

/-- Refutes O43: in `stagingZeroing` an entry that passes and has space is not in force, since its staging waits for the zeroing. -/
theorem not_groupTableActs : ¬ Obligations.GroupTableActs := by
  rintro ⟨-, -, -, -, hplaced⟩
  have hlive : linksLive stagingZeroing = true := by decide +kernel
  have hpasses : fieldRefused stagingZeroing (commitWords stagingZeroing 0 (edgeEntry 0)) = false ∧
      boxOk stagingZeroing (commitWords stagingZeroing 0 (edgeEntry 0)) = true := by decide +kernel
  obtain ⟨t, ht, -, hresult, -⟩ := hplaced stagingZeroing 0 (edgeEntry 0) 0 0 hlive (by decide +kernel) (by decide +kernel)
    hpasses.left hpasses.right (by decide +kernel) (by decide +kernel)
  have ht' : t = groupCommit 0 (edgeEntry 0) stagingZeroing := next_unique (next_if_pos hlive) ht
  have hwaits : t.fld (Reg.grpResult 0) = 0 := ht' ▸ grpResult_groupCommit_stagingZeroing.right
  exact absurd (hwaits.symm.trans hresult) (by decide)

/-! Frames of an operation that has ended here (R339, R360). -/

/-- With its units awake a delivered collective frame is taken; one that changes nothing only leaves the inbox. -/
theorem takeCol_eq_dropInbox {is : Frame → Bool} {act : Frame → State → State} {f : Frame} {h : InFrame} {s : State}
    (hlive : linksLive s = true) (hquiet : quiet s = true) (hin : inboxOf s f = some h) (hawake : sleepingOps s f = [])
    (his : is f = true) (hact : act f (dropInbox h s) = dropInbox h s) : takeCol is f act s = dropInbox h s := by
  have hquiet' : quiet (dropInbox h s) = true := hquiet
  simp [takeCol, takeFrom, hawake, hin, hlive, his, hact, resumeAll_of_quiet hquiet']

/-- An operation that was issued here and is held no more has ended: its contributions, results and control frames change nothing. -/
theorem colArrives_of_issuedHere {f : Frame} {n : Nat} {s : State} (hvalid : grpValid s (Frame.group f) = true)
    (hseq : opseqOf s f = some n) (hslot : inSlots s (Frame.group f) n = true) (hop : s.op (Frame.group f) n = none)
    (hissued : issuedHere s (Frame.group f) n = true) : colArrives f s = s := by
  simp [colArrives, meetOp, hvalid, hseq, hslot, hop, hissued]

/-- A value for an operation that has ended here is not deposited. -/
theorem asideArrives_of_endedHere {f : Frame} {s : State} (hended : endedHere s (Frame.group f) (Frame.seq f) = true) :
    asideArrives f s = s := by
  simp [asideArrives, hended]

/-- A contribution for an operation that has ended here leaves the inbox, and that is all. -/
theorem exec_colContribReceive_of_issuedHere {f : Frame} {h : InFrame} {n : Nat} {s : State} (hlive : linksLive s = true)
    (hquiet : quiet s = true) (hin : inboxOf s f = some h) (hawake : sleepingOps s f = []) (htype : Frame.type f = tyColContrib)
    (hvalid : grpValid s (Frame.group f) = true) (hseq : opseqOf s f = some n) (hslot : inSlots s (Frame.group f) n = true)
    (hop : s.op (Frame.group f) n = none) (hissued : issuedHere s (Frame.group f) n = true) :
    exec (.colContribReceive f) s = .next (dropInbox h s) := by
  have hact : colArrives f (dropInbox h s) = dropInbox h s := colArrives_of_issuedHere hvalid hseq hslot hop hissued
  exact congrArg Host.Outcome.next (takeCol_eq_dropInbox hlive hquiet hin hawake (decide_eq_true htype) hact)

/-- An aside value for an operation that has ended here leaves the inbox, and that is all. -/
theorem exec_asideReceive_of_endedHere {f : Frame} {h : InFrame} {s : State} (hlive : linksLive s = true)
    (hquiet : quiet s = true) (hin : inboxOf s f = some h) (hawake : sleepingOps s f = []) (hvalue : isAsideValue f = true)
    (hended : endedHere s (Frame.group f) (Frame.seq f) = true) : exec (.asideReceive f) s = .next (dropInbox h s) := by
  have hact : asideArrives f (dropInbox h s) = dropInbox h s := asideArrives_of_endedHere hended
  exact congrArg Host.Outcome.next (takeCol_eq_dropInbox hlive hquiet hin hawake hvalue hact)

theorem grp_dropInbox (h : InFrame) (s : State) (g : Nat) : (dropInbox h s).grp g = s.grp g := rfl

theorem col_dropInbox (h : InFrame) (s : State) : (dropInbox h s).col = s.col := rfl

/-- A CURTAIN that sequencer 0 has issued on group 0 as OPSEQ 0 (R327). -/
def openCurtain : Op := newOp State.reset 0 0 0 0 1 0 (Isa.oCURTAIN * 2 ^ 120 + 4 * 2 ^ 112 + 9 * 2 ^ 108) [0, 0]

/-- A running module with group 0 in force, whose OPSEQ 0 is open and whose OPSEQ 1 has ended, and to which a frame has been delivered. -/
def nextEnded (h : InFrame) : State :=
  (((putEntry 0 edgeEntry (State.reset.setFld Reg.pwrDie dieOn)).setFld (Reg.grpOpseq 0) 2).modCol fun c =>
    { c with ops := [openCurtain] }).modSwc fun w => { w with inbox := [h] }

/-- A frame of the edge member on port 0 for OPSEQ 1 of group 0, with 16 bytes of zeros. -/
def edgeFrame (ty : Nat) : Frame := mkFrame ty 0 8 0 0 0 1 0 0 0 (List.replicate 16 0)

def lateContrib : InFrame := { frame := edgeFrame tyColContrib, ing := 0, arr := 0 }

def lateAside : InFrame := { frame := edgeFrame tyAside, ing := 0, arr := 0 }

/-- Refutes O44: in `nextEnded` a contribution for the operation that has ended is not held, though this chip has no record of it. -/
theorem not_collectiveFramesAct : ¬ Obligations.CollectiveFramesAct := by
  rintro ⟨hcontrib, -⟩
  have hlive : linksLive (nextEnded lateContrib) = true := by decide +kernel
  have hquiet : quiet (nextEnded lateContrib) = true := by decide +kernel
  have hin : inboxOf (nextEnded lateContrib) lateContrib.frame = some lateContrib := by decide +kernel
  have hawake : sleepingOps (nextEnded lateContrib) lateContrib.frame = [] := by decide +kernel
  have htype : Frame.type lateContrib.frame = tyColContrib := by decide +kernel
  have hvalid : grpValid (nextEnded lateContrib) (Frame.group lateContrib.frame) = true := by decide +kernel
  have hseq : opseqOf (nextEnded lateContrib) lateContrib.frame = some 1 := by decide +kernel
  have hop : (nextEnded lateContrib).op (Frame.group lateContrib.frame) 1 = none := by decide +kernel
  have hslot : inSlots (nextEnded lateContrib) (Frame.group lateContrib.frame) 1 = true := by decide +kernel
  have hissued : issuedHere (nextEnded lateContrib) (Frame.group lateContrib.frame) 1 = true := by decide +kernel
  obtain ⟨t, ht, hearly, -⟩ := hcontrib (nextEnded lateContrib) lateContrib.frame lateContrib 1 hlive hquiet hin hawake htype hvalid hseq
    hop hslot (by decide +kernel)
  have hexec := exec_colContribReceive_of_issuedHere hlive hquiet hin hawake htype hvalid hseq hslot hop hissued
  rw [next_unique hexec ht, grp_dropInbox] at hearly
  exact List.cons_ne_nil _ _ (List.self_eq_append_right.mp hearly)

/-- Refutes O45: in `nextEnded` an aside value for the operation that has ended is not deposited, though this chip has no record of it. -/
theorem not_sumsVerdictsAndAbortsAct : ¬ Obligations.SumsVerdictsAndAbortsAct := by
  rintro ⟨-, -, -, -, -, -, -, haside, -⟩
  have hlive : linksLive (nextEnded lateAside) = true := by decide +kernel
  have hquiet : quiet (nextEnded lateAside) = true := by decide +kernel
  have hin : inboxOf (nextEnded lateAside) lateAside.frame = some lateAside := by decide +kernel
  have hawake : sleepingOps (nextEnded lateAside) lateAside.frame = [] := by decide +kernel
  have hvalue : isAsideValue lateAside.frame = true := by decide +kernel
  have hended : endedHere (nextEnded lateAside) (Frame.group lateAside.frame) (Frame.seq lateAside.frame) = true := by decide +kernel
  obtain ⟨t, ht, hdeposit, -⟩ := haside (nextEnded lateAside) lateAside.frame lateAside hlive hquiet hin hawake hvalue
    (by decide +kernel) (by decide +kernel) (by decide +kernel) (by decide +kernel) (by decide +kernel)
  have hexec := exec_asideReceive_of_endedHere hlive hquiet hin hawake hvalue hended
  rw [next_unique hexec ht, col_dropInbox] at hdeposit
  exact List.cons_ne_nil _ _ (List.self_eq_append_right.mp hdeposit)

end Sys2Proof.Machine
end
